-- ==== Sys2Proof/Word.lean ====
section
/-!
DEFINITION. The words of the EXN2560 and their plainest arithmetic: bytes, the 32-bit register word as a natural
number, two's complement fields, saturation, and little-endian byte lists.
-/

namespace Sys2Proof

/-- One byte. -/
abbrev Byte := BitVec 8

/-- The `w` bits of `v` from bit `lo` upwards. -/
def bits (v lo w : Nat) : Nat := (v >>> lo) % 2 ^ w

/-- Bit `i` of `v`. -/
def bit (v i : Nat) : Bool := v.testBit i

/-- A `w`-bit two's complement field read as an integer (00, Numbers and units). -/
def toSigned (w v : Nat) : Int :=
  if 2 ^ (w - 1) ≤ v % 2 ^ w then (v % 2 ^ w : Int) - (2 ^ w : Nat) else (v % 2 ^ w : Nat)

/-- An integer placed in a `w`-bit two's complement field. -/
def ofSigned (w : Nat) (i : Int) : Nat := (i % (2 ^ w : Nat)).toNat

/-- `i` held between two limits. -/
def clampI (lo hi i : Int) : Int := max lo (min hi i)

/-- Saturation to a signed field of `w` bits. -/
def satS (w : Nat) (i : Int) : Int := clampI (-(2 ^ (w - 1) : Nat)) ((2 ^ (w - 1) : Nat) - 1) i

/-- Saturation to an unsigned field of `w` bits. -/
def satU (w : Nat) (i : Int) : Nat := (clampI 0 ((2 ^ w : Nat) - 1) i).toNat

/-- Division rounding down, by a power of two. -/
def asr (i : Int) (n : Nat) : Int := i / (2 ^ n : Nat)

/-- The `n` low bytes of `v`, least significant first. -/
def bytesLE : Nat → Nat → List Byte
  | 0, _ => []
  | n + 1, v => BitVec.ofNat 8 v :: bytesLE n (v / 256)

/-- The number that a little-endian byte list spells. -/
def ofBytesLE : List Byte → Nat
  | [] => 0
  | b :: r => b.toNat + 256 * ofBytesLE r

/-- The list with the entry at place `i` replaced; unchanged where there is none. -/
def listSet {α : Type} : List α → Nat → α → List α
  | [], _, _ => []
  | _ :: r, 0, v => v :: r
  | a :: r, i + 1, v => a :: listSet r i v

/-- The list with one element replaced; a list too short for it is filled up with `d`. -/
def fillSet {α : Type} (d : α) : List α → Nat → α → List α
  | [], 0, v => [v]
  | [], i + 1, v => d :: fillSet d [] i v
  | _ :: r, 0, v => v :: r
  | a :: r, i + 1, v => a :: fillSet d r i v

/-- `n` bytes, zero-filled or cut to length. -/
def padTo (n : Nat) (l : List Byte) : List Byte := (l ++ List.replicate n 0).take n

end Sys2Proof
end

