-- ==== Sys2Proof/Syntax.lean ====
section
/-!
DEFINITION. The commands of the EXN2560, one constructor for each row of spec/opcode_table.json, with the operands
that the happening carries in from outside: the die it concerns, an address and a value, what a sensor, a partner or
a measurement delivered.  The rows give no bits, so the operands are this model's own (log entry 1).
-/

namespace Sys2Proof

/-- The dies of a package (Table 0.1). -/
inductive DieId where
  | a | b
  deriving DecidableEq, Repr

/-- The other die of a package. -/
def DieId.other : DieId → DieId
  | .a => .b
  | .b => .a

/-- The independent requesters of the register fabric (R11, R398): PCIe, the serial port, the Trellis Link. -/
inductive Requester where
  | pcie | spi | trellis
  deriving DecidableEq, Repr

/-- A write by a requester; `tie`: in the PERI cycle of what the command before it did to the die (R9). -/
structure Writer where
  req : Requester
  tie : Bool
  deriving DecidableEq, Repr

/-- A read of `size` bytes by a requester; `tie` as with a write (R10). -/
structure Reader where
  req : Requester
  tie : Bool
  size : Nat
  deriving DecidableEq, Repr

/-- The word of a write to write-one-to-clear bits; `tie` as with a write. -/
structure PendMask where
  bits : Nat
  tie : Bool
  deriving DecidableEq, Repr

/-- How a memory word reads (SECDED): clean, corrected, or uncorrectable. -/
inductive Ecc where
  | clean | corrected | uncorrectable
  deriving DecidableEq, Repr

/-- The five sensor port outputs, in the order of Table 2.4. -/
inductive AfeOut where
  | vsd | vsa | vrefc | vblind | vdet
  deriving DecidableEq, Repr

/-- The bit of an output in AFE_OUT_EN, AFE_OUT_STAT and AFE_TRIP. -/
def AfeOut.idx : AfeOut → Nat
  | .vsd => 0
  | .vsa => 1
  | .vrefc => 2
  | .vblind => 3
  | .vdet => 4

/-- One measurement of the five outputs: currents in units of 50 µA, and which outputs lie within ±2 % of their set
value (bit as AFE_OUT_EN). -/
structure AfeSample where
  vsd : Nat
  vsa : Nat
  vrefc : Nat
  vblind : Nat
  vdet : Nat
  inRange : BitVec 5
  deriving DecidableEq, Repr

/-- What a check round measured of one cluster: for each of the seventeen channels, the sums of the eight conversions
on core 0 and core 1. -/
abbrev CheckSums := List (Nat × Nat)

/-- A residue failure (R132, R133): in a slice, its twin copy, or a blind lane; the stage of Table 4.1; the active
column, or the channel for a blind lane; and by how much the failing result differs from the right one. -/
structure ResidFault where
  blind : Bool
  twin : Bool
  stage : Nat
  col : Nat
  err : Int
  deriving DecidableEq, Repr

/-- What goes wrong while a row passes the Sieve: coefficient words not arrived in time and words whose read was
uncorrectable, by trim map column; residue failures; differing twin results by active column (the twin's Y and T);
tiles of the working copy and response table entries that read with an uncorrectable error. -/
structure RowFaults where
  late : List Nat
  resid : List ResidFault
  twin : List (Nat × Nat × Nat)
  tiles : List Nat
  entries : List Nat
  deriving DecidableEq, Repr

/-- The contents of the fuse array, as an uncorrectable word can hold them (R321): either half of the serial number, an option of
FUS_OPT, the repair count, PWM_SAFE, the fuse-map state of a pin, a field of the reader's settings, the device key, an ID of the
PCIe function. -/
inductive FuseItem where
  | serialLo | serialHi | exportPart | locked | rrestart | rfilt | repairs | pwmSafe | pin (i : Fin 51)
  | addr4 | tgt | cmd | dummy | div | key | vendor | revision | subVendor | subsystem
  deriving DecidableEq, Repr

/-- What goes wrong in the fill stage at one row: the marked columns whose fill fails a residue check, and the response table entries
(entry 4,096 k + i) that read with an uncorrectable error there (R132, R133). -/
structure FillFaults where
  resid : List Nat
  entries : List Nat
  deriving DecidableEq, Repr

/-- What 512 blanking words have measured of a channel (R150): cluster, channel (16 the spare); of each core measured, the sums
of its 512 codes at levels 2,048 and 14,336; and the sum of the 512 differences of sampling time found on the DAC's ramp, by
which core 1 samples late, in units of 0.5 ps. -/
structure BgEst where
  clu : Nat
  ch : Nat
  core0 : Option (Nat × Nat) := none
  core1 : Option (Nat × Nat) := none
  skew : Option Int := none
  deriving DecidableEq, Repr

/-- What is left of a channel's differences after an update (R153): the channel (512 + c for a spare), the offset
difference in units of 2^-20 code and the relative gain difference in units of 2^-33. -/
structure SpurDiff where
  chan : Nat
  offset : Int
  gain : Int
  deriving DecidableEq, Repr

/-- A reading of a temperature sensor: open, shorted, or a temperature in mK. -/
inductive ThermRead where
  | openCircuit | shorted | temp (mK : Int)
  deriving DecidableEq, Repr

/-- What a start step found: the error it failed with (none: it succeeded), the Taproot's lock attempts and the time of
the last, whether the DRAM came out of self-refresh and the stored images matched (a warm start), the converter cores that
failed self-calibration (channel with 512 + c the spare of cluster c, core), what the base set image of the serial flash
puts into the DRAM and, by BAR0 offset, into the registers of the base set, the trim map words whose DRAM read was
uncorrectable, whether the self-test of the crypto block passed, and how the Rake's first word reads. -/
structure StepReport where
  err : Option Nat
  tries : Nat
  lockUs : Nat
  dram : Bool
  images : Bool
  cores : List (Nat × Nat)
  flash : List (Nat × List Byte)
  regs : List (Nat × Nat)
  bad : List Nat
  crypto : Bool
  ecc : Ecc
  deriving DecidableEq, Repr

/-- A Trellis packet as it arrives (Table 13.6): on the UP port or on DOWN, whether its CRC-16 is right, DST, SRC and TAG. -/
structure Packet where
  up : Bool
  good : Bool
  dst : Nat
  src : Nat
  tag : Nat
  deriving DecidableEq, Repr

/-- The commands. -/
inductive Instr where
  /-- REGISTER_WRITE (R8). A write of `val` at BAR0 offset `addr`, `size` bytes wide, by `q`: access, reserved-bit and range checks are applied. -/
  | registerWrite (d : DieId) (q : Writer) (addr val : Nat) (size : Nat)
  /-- READ_LO (R11). A read at BAR0 offset `addr`, a _LO register's. -/
  | readLo (d : DieId) (q : Reader) (addr : Nat)
  /-- READ_HI (R11). A read at BAR0 offset `addr`, a _HI register's. -/
  | readHi (d : DieId) (q : Reader) (addr : Nat)
  /-- EVT_PEND_CLEAR (R34). A W1C write of `val` to EVT_PEND of a page. -/
  | evtPendClear (d : DieId) (page : Nat) (val : PendMask)
  /-- EVT_SET (R35). A W1S write of `val` to EVT_SET of a page. -/
  | evtSet (d : DieId) (page val : Nat)
  /-- COMMIT_ARM (R37). A COMMIT write with ARM for the given boundary. -/
  | commitArm (d : DieId) (page boundary : Nat)
  /-- COMMIT_CANCEL (R38). A COMMIT write with CANCEL, a boundary, and ARM or not. -/
  | commitCancel (d : DieId) (page boundary : Nat) (arm : Bool)
  /-- COMMIT_APPLY (R37). An armed commit of a page applies at its idle or immediate boundary. -/
  | commitApply (d : DieId) (page : Nat)
  /-- BLOCK_RESET_REQ (R36). A write of BRST.REQ of a page. -/
  | blockResetReq (d : DieId) (page : Nat)
  /-- BLOCK_RESET (R36). The block reset of a page is performed once the block reports IDLE. -/
  | blockReset (d : DieId) (page : Nat)
  /-- BRST_TIMEOUT (R36). BRST_TMO of a page runs out before the block goes idle. -/
  | brstTimeout (d : DieId) (page : Nat)
  /-- MBX_COMPLETION (R41). A core completes the command of mailbox `n`. -/
  | mbxCompletion (d : DieId) (n : Fin 8)
  /-- MBX_TIMEOUT (R437). The command of mailbox `n` is not completed within 1 s. -/
  | mbxTimeout (d : DieId) (n : Fin 8)
  /-- BASE_READY (R321). Mailbox 0 command telling the MP that the host has written the base set at start-up step 7. -/
  | baseReady (d : DieId) (tag arg : Nat)
  /-- PARAM_SAVE (R345). Mailbox 0 command storing every class P field as a parameter set in the Seed Tray. -/
  | paramSave (d : DieId) (tag arg : Nat)
  /-- PARAM_DISCARD (R345). Mailbox 0 command marking both parameter set headers WRITING so Reset values apply at the next start. -/
  | paramDiscard (d : DieId) (tag arg : Nat)
  /-- PWD_RECOVER (R348). Mailbox 0 command erasing the host areas and parameter slots, then clearing both passwords. -/
  | pwdRecover (d : DieId) (tag arg : Nat)
  /-- RECOVERY_WRITE (R24). Mailbox 0 command writing the recovery image in DRAM at `arg` to the Seed Tray; `good` tells whether its signature verifies. -/
  | recoveryWrite (d : DieId) (tag arg : Nat) (good : Bool)
  /-- CAL_EVENT (R162). Mailbox 1 command requesting a cold or warm shutter event at once. -/
  | calEvent (d : DieId) (tag arg : Nat)
  /-- CAL_ABORT (R167). Mailbox 1 command abandoning a shutter event in progress. -/
  | calAbort (d : DieId) (tag arg : Nat)
  /-- CAL_SAVE (R181). Mailbox 1 command writing a calibration record to the Seed Tray. -/
  | calSave (d : DieId) (tag arg : Nat)
  /-- CAL_LOAD (R180). Mailbox 1 command applying the newest valid calibration record's trims and references. -/
  | calLoad (d : DieId) (tag arg : Nat)
  /-- CAL_HASH (R180). Mailbox 1 command rehashing the planes in force and updating CAL_HASH. -/
  | calHash (d : DieId) (tag arg : Nat)
  /-- EVD_SEAL (R230). Mailbox 3 command making an epoch cut at once and issuing its SEAL record. -/
  | evdSeal (d : DieId) (tag arg : Nat)
  /-- EVD_ATTEST (R231). Mailbox 3 command signing an ATTEST record over a host nonce into the seal ring. -/
  | evdAttest (d : DieId) (tag arg : Nat)
  /-- EVD_CLOSE (R235). Mailbox 3 command performing the evidence close of Table 7.7. -/
  | evdClose (d : DieId) (tag arg : Nat)
  /-- EVD_FINAL (R236). Mailbox 3 command copying the newest stored FINAL record into a host-named DRAM buffer. -/
  | evdFinal (d : DieId) (tag arg : Nat)
  /-- EVD_LOG (R237). Mailbox 3 command copying the evidence log, oldest entry first, into DRAM. -/
  | evdLog (d : DieId) (tag arg : Nat)
  /-- WATCHDOG_EXPIRY (R27). The watchdog of physical core `core` expires. -/
  | watchdogExpiry (d : DieId) (core : Fin 5)
  /-- CORE_MEM_UNCORR (R27). An uncorrectable error in the local memory of physical core `core`. -/
  | coreMemUncorr (d : DieId) (core : Fin 5)
  /-- SPARE_CORE_TAKEOVER (R27). The spare core finishes loading the failed core's image and begins its job. -/
  | spareCoreTakeover (d : DieId)
  /-- AFE_OUTPUT_ENABLE (R47). A write to AFE_OUT_EN that enables output `o`. -/
  | afeOutputEnable (d : DieId) (o : AfeOut)
  /-- AFE_OUTPUT_DISABLE (R47). A write to AFE_OUT_EN that disables output `o`. -/
  | afeOutputDisable (d : DieId) (o : AfeOut)
  /-- RAMP_DONE (R48). A ramp of VDET or VBLIND completes. -/
  | rampDone (d : DieId) (o : AfeOut)
  /-- OUTPUT_GOOD (R438). An enabled output lies within ±2 % of its set value. -/
  | outputGood (d : DieId) (o : AfeOut)
  /-- CURRENT_SAMPLE (R50). The 1 µs measurement of the outputs. -/
  | currentSample (d : DieId) (m : AfeSample)
  /-- OFF_DONE (R52). All five outputs are below 100 mV after an off sequence. -/
  | offDone (d : DieId)
  /-- TRIP_CAUSE_CLEAR (R50). A W1C write of AFE_TRIP.CAUSE. -/
  | tripCauseClear (d : DieId) (val : PendMask)
  /-- FPD_READING (R55). A diode conversion: its code in 0.25 mK, or none for an open or shorted diode. -/
  | fpdReading (d : DieId) (diode : Fin 2) (code : Option Int)
  /-- SEQOP_NEXT (R58). The word ends with NEXT; `ecc` tells how the next word reads from the store. -/
  | seqopNext (d : DieId) (ecc : Ecc)
  /-- SEQOP_JUMP (R58). The word ends with JUMP. -/
  | seqopJump (d : DieId) (ecc : Ecc)
  /-- SEQOP_LOOP0 (R58). The word ends with LOOP0. -/
  | seqopLoop0 (d : DieId) (ecc : Ecc)
  /-- SEQOP_LOOP1 (R58). The word ends with LOOP1. -/
  | seqopLoop1 (d : DieId) (ecc : Ecc)
  /-- SEQOP_WAIT_FRAME (R65). The word ends with WAIT_FRAME. -/
  | seqopWaitFrame (d : DieId) (ecc : Ecc)
  /-- SEQOP_STOP (R74). The word ends with STOP. -/
  | seqopStop (d : DieId)
  /-- ROWOP_NEXT (R58). A word's ROWOP NEXT increments the row address RA at the word's start. -/
  | rowopNext (d : DieId)
  /-- ROWOP_FIRST (R58). A word's ROWOP FIRST loads RA from SEQ_WIN.ROW0 at the word's start. -/
  | rowopFirst (d : DieId)
  /-- LOAD_C0 (R58). A word's LDC0 bit loads counter C0 with SEQ_WIN.ROWS_M1 + 1. -/
  | loadC0 (d : DieId)
  /-- LOAD_C1 (R58). A word's LDC1 bit loads counter C1 with SEQ_LOOP1.COUNT. -/
  | loadC1 (d : DieId)
  /-- SCAN_RUN (R56). A word with SCAN run starts the column scan at phase 0. -/
  | scanRun (d : DieId)
  /-- SCAN_CONTINUE (R56). A word with SCAN continue resumes the column scan from the phase after the last taken. -/
  | scanContinue (d : DieId)
  /-- SCAN_STOP (R56). A word with SCAN stop ends the column scan with every CSEL line low. -/
  | scanStop (d : DieId)
  /-- FRAME_START (R58). The FRAME_START marker: `next` are the trim words of the frame's first row that do not read clean. -/
  | frameStart (d : DieId) (next : List (Nat × Ecc))
  /-- FRAME_END (R57). The FRAME_END marker ends the frame's rows, and a pending stop at frame end takes effect. -/
  | frameEnd (d : DieId)
  /-- ROW_START (R61). The ROW_START marker: `late` are the words of the row now starting that were not delivered in time, `next` the words of the next row that do not read clean. -/
  | rowStart (d : DieId) (late : List Nat) (next : List (Nat × Ecc))
  /-- BLANK_ROW (R91). The BLANK_ROW marker announces a blanking row and starts a check round when the word is long enough. -/
  | blankRow (d : DieId)
  /-- USER_MARKER (R58). A USER0 to USER2 marker raises its event. -/
  | userMarker (d : DieId)
  /-- ROW_START_RELEASE (R61). The required time has passed and a held ROW_START is emitted; `late` and `next` as for ROW_START. -/
  | rowStartRelease (d : DieId) (late : List Nat) (next : List (Nat × Ecc))
  /-- RAKE_STALL (R60). No FRAME_START for twice SEQ_FRAME_LEN; the Rake stops on a STALL fault. -/
  | rakeStall (d : DieId)
  /-- FRAME_TICK (R63). The frame timer makes a tick; `ecc` tells how the word after a WAIT_FRAME reads. -/
  | frameTick (d : DieId) (ecc : Ecc)
  /-- EXTERNAL_TICK (R63). An external tick arrives. -/
  | externalTick (d : DieId) (ecc : Ecc)
  /-- SYNC_LOST (R64). No used external tick has arrived in time. -/
  | syncLost (d : DieId) (ecc : Ecc)
  /-- RAKE_CODE_WRITE (R62). A write of a 32-bit half of a microinstruction at BAR0 offset `addr`. -/
  | rakeCodeWrite (d : DieId) (q : Requester) (addr val : Nat)
  /-- RAKE_START (R73). A write of 1 to SEQ_CTRL.EN. -/
  | rakeStart (d : DieId) (ecc : Ecc)
  /-- RAKE_STOP (R74). A write of 0 to SEQ_CTRL.EN. -/
  | rakeStop (d : DieId)
  /-- WINDOWS_CLOSE (R85). The oldest open row's windows close, `cycles` CONV cycles after its ROW_START, with the own samples of each phase of each channel in use, as voltages above SGND in nanovolts. -/
  | windowsClose (d : DieId) (cycles : Nat) (volts : List (List (List Int)))
  /-- CHECK_ROUND_END (R91). The check round of cluster `c` ends. -/
  | checkRoundEnd (d : DieId) (c : Fin 32) (sums : CheckSums)
  /-- CHK_STALE (R91). No check round has run for 1 s. -/
  | chkStale (d : DieId)
  /-- CORE_REMOVE (R89). CLU_CORE_REQ.REMOVE of cluster `c`. -/
  | coreRemove (d : DieId) (c : Fin 32) (ch core : Nat)
  /-- CORE_RETURN (R89). CLU_CORE_REQ.RETURN of cluster `c`. -/
  | coreReturn (d : DieId) (c : Fin 32) (ch core : Nat)
  /-- CHANNEL_GRAFT (R92). CLU_GRAFT.GRAFT of cluster `c` onto channel `ch`. -/
  | channelGraft (d : DieId) (c : Fin 32) (ch : Nat)
  /-- CHANNEL_RELEASE (R93). CLU_GRAFT.RELEASE of cluster `c`. -/
  | channelRelease (d : DieId) (c : Fin 32)
  /-- GANG_ARM (R103). ACB_GANG.ARM. -/
  | gangArm (d : DieId)
  /-- TRM_REPAIR (R96). A word that failed is read again from the master copy and rewritten; `ok` tells whether it then reads. -/
  | trmRepair (d : DieId) (row word : Nat) (ok : Bool)
  /-- TRM_LOAD (R99). TRM_LOAD.GO. -/
  | trmLoad (d : DieId)
  /-- LOAD_DONE (R99). A full load or a re-copy completes; `bad` are the words whose DRAM read was uncorrectable. -/
  | loadDone (d : DieId) (bad : List Nat)
  /-- SWITCH_DONE (R97). The staged trim map has been copied whole. -/
  | switchDone (d : DieId)
  /-- ACB_CAPTURE_ARM (R85). ACB_CAP_CTRL.ARM of region `r`. -/
  | acbCaptureArm (d : DieId) (r : Fin 4) (row col : Nat)
  /-- SIEVE_ROW_ENTRY (R107). The oldest waiting row enters the Sieve and is corrected, checked and compared; `f` tells what goes wrong on the way. -/
  | sieveRowEntry (d : DieId) (f : RowFaults)
  /-- SIEVE_ROW_CLEAR (R107). The last pixel of a row leaves every slice and the row is clear. -/
  | sieveRowClear (d : DieId)
  /-- CMM_FETCH_DONE (R118). The fetch of `row` completes after `cycles` PERI cycles; `bad` are the columns whose DRAM read was uncorrectable. -/
  | cmmFetchDone (d : DieId) (row cycles : Nat) (bad : List Nat)
  /-- FILL_ROW_RELEASE (R128). The fill stage fills and releases its oldest row; `f` says which fills fail there. -/
  | fillRowRelease (d : DieId) (f : FillFaults)
  /-- TILE_MAP_WRITE (R141). After a frame's last row has been compared, the RAD writes its tile-hit map into the ring. -/
  | tileMapWrite (d : DieId)
  /-- HOTSPOT_CLEAR (R140). A write of RAD_HS_CLR releases a latched HOTSPOT_N while PINMODE is 0. -/
  | hotspotClear (d : DieId)
  /-- BANK_APPLIED (R144). The copy of the bank in force into the staged bank completes. -/
  | bankApplied (d : DieId)
  /-- BAND_JUDGE (R129). A band's counted frames are complete; each pixel is judged by the dynamic tests and the audit moves on. -/
  | bandJudge (d : DieId)
  /-- SLICE_REMOVE (R134). SVE_SLICE_REQ.REMOVE of slice `n`. -/
  | sliceRemove (d : DieId) (n : Nat)
  /-- SLICE_RETURN (R134). SVE_SLICE_REQ.RETURN of slice `n`. -/
  | sliceReturn (d : DieId) (n : Nat)
  /-- PLANE_HASH_GO (R180). CMM_HASH_CTRL.GO for selection `sel`. -/
  | planeHashGo (d : DieId) (sel : Nat)
  /-- HASH_DONE (R180). A plane hash completes and the digest is available. -/
  | hashDone (d : DieId)
  /-- SIEVE_CAPTURE_ARM (R107). SVE_CAP_CTRL.ARM for a pixel. -/
  | sieveCaptureArm (d : DieId) (row col : Nat)
  /-- BG_ESTIMATE (R151). Background calibration estimates are complete; `spurs` are the channels' remaining differences. -/
  | bgEstimate (d : DieId) (ests : List BgEst) (spurs : List SpurDiff)
  /-- CLO_HOME (R158). CLO_CMD.HOME homes the blade to its open position. -/
  | cloHome (d : DieId)
  /-- CLO_OPEN (R158). CLO_CMD.OPEN makes an opening move. -/
  | cloOpen (d : DieId)
  /-- CLO_CLOSE (R158). CLO_CMD.CLOSE makes a closing move under the force limit. -/
  | cloClose (d : DieId)
  /-- CLO_ENABLE (R158). Enabling the CLO with AUTOHOME makes an opening move unless SHALL0 is asserted. -/
  | cloEnable (d : DieId)
  /-- BOOST_END (R154). The boost segment of a Cloche move runs out and the run segment begins. -/
  | boostEnd (d : DieId)
  /-- HALL_CHANGE (R154). The Cloche Hall balls read so. -/
  | hallChange (d : DieId) (hall0 hall1 : Bool)
  /-- BRAKE_END (R154). The brake segment ends and the blade is found at rest or the move has stalled. -/
  | brakeEnd (d : DieId)
  /-- MOVE_TIMEOUT (R155). A move's target Hall input has not asserted within MOVE_TMO; the move stalls and is repeated or faults. -/
  | moveTimeout (d : DieId)
  /-- FORCED_OPEN (R156). No opening move has begun FORCE ms after a closing move began, so the CLO opens the blade itself. -/
  | forcedOpen (d : DieId)
  /-- HALL_IDLE_TIMEOUT (R157). Neither Hall input has been asserted for MOVE_TMO while no move is in progress. -/
  | hallIdleTimeout (d : DieId)
  /-- HTR_READY (R160). The blade has stayed within ±100 mK of TARGET for 10 s; `err` is the rms error in 0.1 mK where the sensors have given no reading in those 10 s. -/
  | htrReady (d : DieId) (err : Nat)
  /-- CAL_TIMER_DUE (R162). The time of the first event, or of the interval, is reached. -/
  | calTimerDue (d : DieId) (first : Bool)
  /-- DEFER_TIMEOUT (R163). An event has waited DEFER_MAX seconds and DEFER_LONG is raised once. -/
  | deferTimeout (d : DieId)
  /-- SHUTTER_EVENT_START (R164). With the event due, undeferred and the grant held, the CP plans it and begins the closing move. -/
  | shutterEventStart (d : DieId)
  /-- PLANE_WRITER_DONE (R170). The plane writer completes and the CP judges acceptance and arms the commit. -/
  | planeWriterDone (d : DieId)
  /-- CAL_RECORD_WRITE (R181). The CP begins a record write of its own, SAVE_MIN minutes having passed since the last one. -/
  | calRecordWrite (d : DieId)
  /-- REC_SAVED (R181). A calibration record's header has been written VALID. -/
  | recSaved (d : DieId)
  /-- STAGGER_REQUEST (R184). The request of a die of this package, or of the partner's, reaches the arbiter on die `d`; reason 0 withdraws it, and of a die of the partner's gives its grant up. -/
  | staggerRequest (d : DieId) (partner : Bool) (who : DieId) (reason : Nat)
  /-- STAGGER_GRANT (R183). The arbiter on die `d` gives the grant; or the partner's arbiter's grant for die `d` arrives. -/
  | staggerGrant (d : DieId) (arrives : Bool)
  /-- STAGGER_RELEASE (R183). A die releases its grant with its Cloche at rest open. -/
  | staggerRelease (d : DieId)
  /-- CSI_FRAME_START_PACKET (R199). A frame start packet with frame number `num` arrives on a port's virtual channel; `hdr` tells how its header reads. -/
  | csiFrameStartPacket (d : DieId) (port : Fin 4) (vc num : Nat) (hdr : Ecc)
  /-- CSI_FRAME_END_PACKET (R199). A frame end packet arrives. -/
  | csiFrameEndPacket (d : DieId) (port : Fin 4) (vc : Nat) (hdr : Ecc)
  /-- CSI_LONG_PACKET (R193). A long packet arrives whole. -/
  | csiLongPacket (d : DieId) (port : Fin 4) (vc dt : Nat) (data : List Byte) (hdr : Ecc) (crcOk : Bool)
  /-- LINE_SYNC_PACKET (R188). A line start or line end packet arrives. -/
  | lineSyncPacket (d : DieId) (port : Fin 4) (vc : Nat) (hdr : Ecc)
  /-- GENERIC_SHORT_PACKET (R188). A generic short packet arrives. -/
  | genericShortPacket (d : DieId) (port : Fin 4) (vc : Nat) (hdr : Ecc)
  /-- FRAME_TMO (R199). No packet of an open frame's channel has arrived for CSI_FRAME_TMO. -/
  | frameTmo (d : DieId) (port : Fin 4) (vc : Nat)
  /-- CSI_LINK_DOWN (R188). An enabled port has received no packet for 1 s. -/
  | csiLinkDown (d : DieId) (port : Fin 4)
  /-- UNIT_START (R194). The pipeline starts a ready unit. -/
  | unitStart (d : DieId)
  /-- UNIT_DONE (R195). The running unit finishes; `bad` are the samples (line, place) whose DRAM read was uncorrectable. -/
  | unitDone (d : DieId) (bad : List (Nat × Nat))
  /-- CONTEXT_ENABLE (R190). A write of `val` to CTXn_SRC of context `n`. -/
  | contextEnable (d : DieId) (n val : Nat)
  /-- TOKEN_POST (R212). A write of GO with VALUE to CTXn_TOKEN of context `n`. -/
  | tokenPost (d : DieId) (n value : Nat)
  /-- VTX_FRAME_BEGIN (R216). The transmit port begins the frame that waits for it. -/
  | vtxFrameBegin (d : DieId)
  /-- FRAME_SENT (R216). The transmit port comes to the end of the frame it sends. -/
  | frameSent (d : DieId)
  /-- ESN_ASSIGN (R224). When a frame's payloads are complete and numbers are reserved, the EVD assigns ESNs and tags its Wenah frames. -/
  | esnAssign (d : DieId)
  /-- RESERVED (R225). The EP finishes committing a new ESN limit to the Seed Tray tally. -/
  | reserved (d : DieId)
  /-- EPOCH_CUT (R230). An epoch is closed and the next opened, after 64 frames or 1 s. -/
  | epochCut (d : DieId)
  /-- SEALED (R230). The EP finishes signing a record and writes it to the seal ring. -/
  | sealed (d : DieId)
  /-- SEAL_WAIT (R230). A record has awaited signature for 1 s. -/
  | sealWait (d : DieId)
  /-- PFAIL_ASSERT (R234). PFAIL_N, which both dies of the package see, has been low for 1 µs. -/
  | pfailAssert 
  /-- CLOSE_DONE (R234). The power-fail close completes with its CLOSE entry written. -/
  | closeDone (d : DieId)
  /-- PFAIL_RESTART (R235). PFAIL_N has been high for 10 ms after the close. -/
  | pfailRestart (d : DieId)
  /-- CERT_DATA_READ (R232). A read of CRY_CERT_DATA returns four certificate bytes and advances IDX. -/
  | certDataRead (d : DieId)
  /-- FCV_MAIN_GO (R249). A write of FCV_MAIN with GO, START and MODE. -/
  | fcvMainGo (d : DieId) (start mode : Nat)
  /-- FCV_MAIN_STOP (R251). A write of FCV_MAIN with STOP, START and MODE. -/
  | fcvMainStop (d : DieId) (start mode : Nat)
  /-- FCV_URG_GO (R252). A write of FCV_URG with GO and START. -/
  | fcvUrgGo (d : DieId) (start : Nat)
  /-- FTRIG_EDGE (R250). An edge on FTRIG that has passed the filter. -/
  | ftrigEdge (d : DieId) (rising : Bool)
  /-- FCV_PERIOD_TICK (R249). The FCV_PERIOD timer of mode 1 starts a main run. -/
  | fcvPeriodTick (d : DieId)
  /-- URGENT_RUN_END (R252). An urgent run takes its last sample; `volts` are the samples of its last visit. -/
  | urgentRunEnd (d : DieId) (volts : List Int)
  /-- FCV_RESULT_DELIVERY (R254). A result is delivered: one whose samples are taken, else that of the current visit, whose samples, INVALID ones first, are `volts` (input voltages as the trimmed core sees them, nV). -/
  | fcvResultDelivery (d : DieId) (volts : List Int)
  /-- FCV_QUEUE_READ (R256). A read of FCV_Q_LO. -/
  | fcvQueueRead (d : DieId) (q : Requester)
  /-- FCV_QUEUE_PEEK (R256). A read of FCV_Q_HI without a preceding FCV_Q_LO. -/
  | fcvQueuePeek (d : DieId) (q : Requester)
  /-- LOOP_EVALUATION (R264). Loop `n` is evaluated at an edge of its period, after `skipped` edges at which its evaluation had not begun. -/
  | loopEvaluation (d : DieId) (n : Fin 16) (skipped : Nat)
  /-- LOOP_HOLD_TIMEOUT (R268). The LP has not written loop `n`'s output within the hold limit. -/
  | loopHoldTimeout (d : DieId) (n : Fin 16)
  /-- LOOP_TRIP_CLEAR (R269). A write of `val` to LPC_TRIP. -/
  | loopTripClear (d : DieId) (val : PendMask)
  /-- LOOP_ENABLE (R267). A write of `val` to LOOPn_CFG of loop `n`. -/
  | loopEnable (d : DieId) (n : Fin 16) (val : Nat)
  /-- PWM_START (R271). A write of `val` to PWM_START. -/
  | pwmStart (d : DieId) (val : Nat)
  /-- PWM_WRAP (R272). The counter of pair `k` wraps. -/
  | pwmWrap (d : DieId) (k : Fin 8)
  /-- PWM_SAFE_SET (R274). A write of `val` to PWM_SAFE. -/
  | pwmSafeSet (d : DieId) (val : Nat)
  /-- LED_PERIOD_BOUNDARY (R279). An LED period ends; `sns` are the LSNS voltages at the end of each channel's last on-time, 200 mV / 4,095 per code. -/
  | ledPeriodBoundary (d : DieId) (sns : List Nat)
  /-- STROBE_REFERENCE (R280). A reference instant of Table 9.5: REF, and the virtual channel for REF 1 to 4. -/
  | strobeReference (d : DieId) (ref vc : Nat)
  /-- STROBE_PULSE_END (R280). Channel `k`'s pulse runs out; `sns` is its LSNS voltage then. -/
  | strobePulseEnd (d : DieId) (k : Fin 12) (sns : Nat)
  /-- REF_LOST (R280). No reference has arrived for channel `k` for 1 s. -/
  | refLost (d : DieId) (k : Fin 12)
  /-- LED_FAULT_DETECT (R281). Channel `k`'s sense stays out of bounds for its filter time: too high (`short`), or too low. -/
  | ledFaultDetect (d : DieId) (k : Fin 12) (short : Bool)
  /-- LED_FAULT_CLEAR (R281). A write of `val` to LED_FAULT. -/
  | ledFaultClear (d : DieId) (val : PendMask)
  /-- LED_SYNC_ARM (R282). A write of 1 to LED_SYNC.ARM. -/
  | ledSyncArm (d : DieId)
  /-- SENSOR_SAMPLE (R287). Temperature sensor `k` is read. -/
  | sensorSample (d : DieId) (k : Fin 10) (r : ThermRead)
  /-- LEVEL_STEP_UP (R292). THM_STEP.UP ms have passed with THROT set in zone `z`. -/
  | levelStepUp (d : DieId) (z : Fin 4)
  /-- LEVEL_STEP_DOWN (R292). THM_STEP.DOWN ms have passed with THROT cleared in zone `z`. -/
  | levelStepDown (d : DieId) (z : Fin 4)
  /-- THROTTLE_ACTION (R293). The MP brings the actions taken to the level in force, at the next boundary of each block. -/
  | throttleAction (d : DieId)
  /-- SENSOR_ACK (R297). A write of `val` to THM_FAIL.ACK. -/
  | sensorAck (d : DieId) (val : Nat)
  /-- D2D_STOP_SIGNAL (R300). Die `d` receives the other die's orderly stop, or its trip, over the die-to-die link. -/
  | d2dStopSignal (d : DieId) (trip : Bool)
  /-- THERMAL_LATCH (R301). The later of the two dies' deadlines has passed. -/
  | thermalLatch 
  /-- COMP_UPDATE (R299). A compensation interval of quantity `q` of Table 10.7 elapses: the trims its model gives. -/
  | compUpdate (d : DieId) (q : Fin 4) (trims : List Int)
  /-- SUPPLY_FALL (R307). Supply `supply` (0 VDD_CORE, 1 VDD_AFE, 2 VDD_IO of the control bank) falls below its threshold. -/
  | supplyFall (supply : Fin 3)
  /-- SUPPLY_RECOVER (R307). Every supply has been above its threshold for 20 µs. -/
  | supplyRecover 
  /-- PORST_N_FALL (R310). PORST_N goes low and is taken as asserted. -/
  | porstNFall 
  /-- PORST_N_RISE (R310). PORST_N rises. -/
  | porstNRise 
  /-- RESET_N_FALL (R309). RESET_N is driven low from outside. -/
  | resetNFall 
  /-- RESET_N_RISE (R309). RESET_N is no longer driven low from outside. -/
  | resetNRise 
  /-- CLOCK_FAULT (R320). The reference is absent, or the Taproot out of lock, for 10 µs. -/
  | clockFault (d : DieId) (absent : Bool)
  /-- CLOCK_RECOVERED (R307). The reference has been present for 100 µs. -/
  | clockRecovered (d : DieId)
  /-- RST_CLUSTER (R313). A write to RST_CMD with REACH 1. -/
  | rstCluster (d : DieId) (key target : Nat)
  /-- RST_REGION (R313). A write to RST_CMD with REACH 2. -/
  | rstRegion (d : DieId) (key target : Nat)
  /-- RST_DIE_WARM (R313). A write to RST_CMD with REACH 3. -/
  | rstDieWarm (d : DieId) (key : Nat)
  /-- RST_DIE_COLD (R313). A write to RST_CMD with REACH 4. -/
  | rstDieCold (d : DieId) (key : Nat)
  /-- RST_PACKAGE (R313). A write to RST_CMD with REACH 5. -/
  | rstPackage (d : DieId) (key : Nat)
  /-- PCIE_FLR (R356). A function-level reset of the die's function. -/
  | pcieFlr (d : DieId)
  /-- MP_RESET_ORDER (R307). The MP, or before firmware exists the RST block, orders the reset that the die's state asks for: a start retry. -/
  | mpResetOrder (d : DieId)
  /-- FUSE_LOAD_DONE (R311). The fuse load completes; the straps as read; the voltage at the PKGCFG ball in µV; whether a word was
  corrected; and where words were uncorrectable, what they held of the array. -/
  | fuseLoadDone (d : DieId) (boot : Nat) (clkmode : Bool) (pkgcfg : Nat) (corr : Bool) (uncorr : Option (List FuseItem))
  /-- RESET_RELEASE (R309). Every source of the episode is released and the stretch time has run. -/
  | resetRelease (d : DieId)
  /-- COLD_START (R321). The step in progress of a cold start ends. -/
  | coldStart (d : DieId) (r : StepReport)
  /-- WARM_START (R322). The step in progress of a warm start ends. -/
  | warmStart (d : DieId) (r : StepReport)
  /-- LIMITED_START (R324). The step in progress of a limited start ends. -/
  | limitedStart (d : DieId) (r : StepReport)
  /-- HOST_BOOT_GO (R321). A write of RST_HOSTBOOT.GO. -/
  | hostBootGo (d : DieId)
  /-- BOOT_TIMEOUT (R321). HOST_TMO or BASE_TMO runs out. -/
  | bootTimeout (d : DieId)
  /-- REQ_RUN (R327). A write of PWR_REQ.STATE 0. -/
  | reqRun (d : DieId)
  /-- REQ_DOZE (R75). A write of PWR_REQ.STATE 1. -/
  | reqDoze (d : DieId)
  /-- REQ_HOLD (R328). A write of PWR_REQ.STATE 2. -/
  | reqHold (d : DieId)
  /-- REQ_DORMANT (R327). A write of PWR_REQ.STATE 3. -/
  | reqDormant (d : DieId)
  /-- POWER_STATE_DONE (R327). The change of power state under way completes; `ecc` is how the Rake's first word reads when it restarts. -/
  | powerStateDone (d : DieId) (ecc : Ecc)
  /-- HOLD_WAKE (R328). A wake source in Hold. -/
  | holdWake (d : DieId)
  /-- DORMANT_WAKE (R329). A wake source in Dormant: 0 a Trellis RESET, 1 a rising and 3 a falling edge at FTRIG, 2 the rise of
  PFAIL_N. -/
  | dormantWake (d : DieId) (source : Fin 4)
  /-- NVS_READ (R335). NVS_OP.GO with OP 0; `ea` and `eb` tell how the groups of copies A and B read. -/
  | nvsRead (d : DieId) (page off len : Nat) (ea eb : List Ecc)
  /-- NVS_WRITE (R334). NVS_OP.GO with OP 1. -/
  | nvsWrite (d : DieId) (page off len : Nat)
  /-- NVS_DIAG_READ_A (R335). NVS_OP.GO with OP 2. -/
  | nvsDiagReadA (d : DieId) (page off len : Nat) (ea : List Ecc)
  /-- NVS_DIAG_READ_B (R335). NVS_OP.GO with OP 3. -/
  | nvsDiagReadB (d : DieId) (page off len : Nat) (eb : List Ecc)
  /-- TALLY_READ (R343). NVS_OP.GO with OP 4. -/
  | tallyRead (d : DieId) (t : Nat)
  /-- TALLY_ADD (R344). NVS_OP.GO with OP 5. -/
  | tallyAdd (d : DieId) (t : Nat)
  /-- NVS_WRITE_START (R341). The free NVS starts the pending write of highest priority. -/
  | nvsWriteStart (d : DieId)
  /-- PAGE_WRITE_DONE (R334). The page write in progress completes; `failed` are the copies (0 A, 1 B) whose physical page failed its read-back twice. -/
  | pageWriteDone (d : DieId) (failed : List Nat)
  /-- TALLY_WRITE_DONE (R343). The tally slot write in progress completes, or its slot fails its read-back twice. -/
  | tallyWriteDone (d : DieId) (failed : Bool)
  /-- NVS_POWERUP (R339). After the fuse load the NVS completes or rolls back an interrupted page write and becomes READY. -/
  | nvsPowerup (d : DieId)
  /-- PWD_UNLOCK (R347). NVS_UNLOCK.GO for KIND with the password in NVS_PWD. -/
  | pwdUnlock (d : DieId) (kind : Nat)
  /-- PWD_LOCK (R347). NVS_UNLOCK.LOCK ends both unlocks. -/
  | pwdLock (d : DieId)
  /-- PWD_SET (R347). NVS_UNLOCK.SET for KIND with the password in NVS_PWD. -/
  | pwdSet (d : DieId) (kind : Nat)
  /-- LOCKOUT_END (R347). The lockout wait after failed unlocks runs out. -/
  | lockoutEnd (d : DieId)
  /-- TAIL_ADVANCE (R357). A write of STRs_IDX.TAIL of stream `str`. -/
  | tailAdvance (d : DieId) (str tail : Nat)
  /-- DESCRIPTOR_COMPLETE (R358). Stream `str` completes its descriptor, which names a buffer of `len` bytes at host address `addr`. -/
  | descriptorComplete (d : DieId) (str addr len : Nat)
  /-- DESCRIPTOR_READ_ERROR (R360). A descriptor read of stream `str` meets a completion error (1), a timeout (2) or poison (3); `written` tells whether its descriptor could still be written. -/
  | descriptorReadError (d : DieId) (str kind : Nat) (written : Bool)
  /-- BAR2_ACCESS (R356). A host access of `len` bytes at BAR2 offset `off`: a write of `data`, or a read, whose DRAM words read as `ecc`. -/
  | bar2Access (d : DieId) (off len : Nat) (data : Option (List Byte)) (ecc : Ecc)
  /-- BUS_MASTER_DISABLE (R360). Bus Master Enable is cleared (`off`), or set again. -/
  | busMasterDisable (d : DieId) (off : Bool)
  /-- D3HOT_ENTRY (R356). The function enters D3hot, or leaves it. -/
  | d3hotEntry (d : DieId) (enter : Bool)
  /-- PCIE_LINK_CHANGE (R360). The link comes to width `width` (0: down) and generation `speed`. -/
  | pcieLinkChange (d : DieId) (width speed : Nat)
  /-- PE_PERST (R431). PE_PERST_N goes low, or high. -/
  | pePerst (d : DieId) (low : Bool)
  /-- TRELLIS_FRAME_SYNC (R370). A FRAME_SYNC arrives on UP with its CRC-8 right or not; `ecc` is how the Rake's next word reads if the tick is taken at once. -/
  | trellisFrameSync (d : DieId) (good : Bool) (acc : Nat) (ecc : Ecc)
  /-- TRELLIS_SYNC (R371). A SYNC takes effect at its instant; `acc` is the delay that it arrived with. -/
  | trellisSync (d : DieId) (good : Bool) (dst seq acc : Nat)
  /-- TRELLIS_ALARM (R372). An ALARM arrives. -/
  | trellisAlarm (d : DieId) (up good : Bool) (src : Nat) (die : DieId) (cls tile t frame : Nat)
  /-- ENUM (R365). An ENUM packet of the CLAIM or the ASSIGN phase arrives. -/
  | enum (d : DieId) (p : Packet) (assign : Bool) (depth bitmap : Nat)
  /-- ENUM_RSP (R365). The bitmap returns to the master, at the end of either phase. -/
  | enumRsp (d : DieId) (p : Packet) (bitmap count : Nat)
  /-- TRELLIS_READ (R364). A READ arrives. -/
  | trellisRead (d : DieId) (p : Packet) (die page off count : Nat)
  /-- TRELLIS_WRITE (R364). A WRITE arrives. -/
  | trellisWrite (d : DieId) (p : Packet) (die page off : Nat) (words : List Nat)
  /-- TRELLIS_RSP (R364). An RSP arrives. -/
  | trellisRsp (d : DieId) (p : Packet) (status : Nat) (data : List Byte)
  /-- TRELLIS_TIME (R368). A TIME arrives: the time of its SOP at the sender's ball, the sender's path delay in ns, LEAD in µs. -/
  | trellisTime (d : DieId) (p : Packet) (time path lead : Nat)
  /-- TIME_REQ (R368). A TIME_REQ arrives. -/
  | timeReq (d : DieId) (p : Packet)
  /-- TIME_RSP (R368). A TIME_RSP arrives with its two timestamps. -/
  | timeRsp (d : DieId) (p : Packet) (t2 t3 : Nat)
  /-- TRELLIS_RESET (R374). A RESET arrives. -/
  | trellisReset (d : DieId) (p : Packet) (reach : Nat)
  /-- HEARTBEAT (R373). A HEARTBEAT arrives. -/
  | heartbeat (d : DieId) (p : Packet)
  /-- LINK_NEW (R367). A LINK_NEW arrives. -/
  | linkNew (d : DieId) (p : Packet)
  /-- BOOT_REQ (R375). A BOOT_REQ arrives. -/
  | bootReq (d : DieId) (p : Packet)
  /-- BOOT_DATA (R375). A BOOT_DATA packet arrives. -/
  | bootData (d : DieId) (p : Packet)
  /-- TRL_CMD_GO (R364). A write of TRL_CMD with GO. -/
  | trlCmdGo (d : DieId) (dst type len : Nat)
  /-- TRL_CMD_TIMEOUT (R364). No RSP arrives within 1 ms and the command completes with TIMEOUT. -/
  | trlCmdTimeout (d : DieId)
  /-- ENUM_GO (R365). TRL_MASTER.ENUM_GO starts an enumeration. -/
  | enumGo (d : DieId)
  /-- SYNC_GO (R371). TRL_MASTER.SYNC_GO sends a SYNC to SYNC_DST. -/
  | syncGo (d : DieId)
  /-- TIME_SET (R369). A write of TRL_TIME_SET whose _HI word lands. -/
  | timeSet (d : DieId) (t : Nat)
  /-- TIME_SEND (R368). The master sends TIME each second. -/
  | timeSend (d : DieId)
  /-- HOP_DELAY_MEASURE (R368). Each second a member sends TIME_REQ to measure its hop delay. -/
  | hopDelayMeasure (d : DieId)
  /-- UNLOCKED (R369). No TIME has arrived for 3 s and the member runs unlocked. -/
  | unlocked (d : DieId)
  /-- HEARTBEAT_SEND (R373). The heartbeat period elapses and the unit sends HEARTBEAT on both ports. -/
  | heartbeatSend (d : DieId)
  /-- UNIT_LOST (R373). Three heartbeat periods have passed without address `addr`. -/
  | unitLost (d : DieId) (addr : Nat)
  /-- PORT_DOWN (R367). Port UP, or DOWN, goes down. -/
  | portDown (d : DieId) (up : Bool)
  /-- PORT_UP (R367). Port UP, or DOWN, of the unit whose lead die is `d` has 1 ms of clean alignment. -/
  | portUp (d : DieId) (up : Bool)
  /-- STICKY_STORE (R366). The MP stores a newly assigned or written address into logical page 3. -/
  | stickyStore (d : DieId)
  /-- D2D_HEARTBEAT (R376). The die-to-die link sends its heartbeat every 10 µs. -/
  | d2dHeartbeat (d : DieId)
  /-- D2D_DOWN (R376). The die-to-die link goes down. -/
  | d2dDown 
  /-- D2D_RETRAIN (R376). The die-to-die link retrains, with or without success. -/
  | d2dRetrain (ok : Bool)
  /-- TAKEOVER (R378). Both conditions of R378 hold at Die B. -/
  | takeover 
  /-- PRL_TRAINING_DONE (R379). The Pair Link trains; the partner's serial number, pair role, Trellis address and lead die. -/
  | prlTrainingDone (d : DieId) (serial role addr : Nat) (lead : DieId)
  /-- PRL_MESSAGE_FAIL (R379). A Pair Link message fails all its repeats and the link goes down. -/
  | prlMessageFail (d : DieId)
  /-- PRL_HEARTBEAT_SEND (R380). The lead die sends a Pair Link heartbeat every PRL_HB.PERIOD. -/
  | prlHeartbeatSend (d : DieId)
  /-- PRL_HEARTBEAT (R380). The partner's heartbeat: its lead die, whether a die of it has HOTSPOT, whether it has heard this package. -/
  | prlHeartbeat (d : DieId) (lead : DieId) (hot heard : Bool)
  /-- PARTNER_MISS (R380). Heartbeats are missed for MISS periods and the link counts as down. -/
  | partnerMiss (d : DieId)
  /-- PARTNER_FAIL_TMO (R380). Both heartbeats are missing for FAIL_TMO ms and the partner is declared failed. -/
  | partnerFailTmo (d : DieId)
  /-- AUTOBACK (R383). The primary has been alive for 10 s and shared actuators return to it. -/
  | autoback (d : DieId)
  /-- PAIR_HIT (R381). The partner's hot-spot hit arrives. -/
  | pairHit (d : DieId) (cls tile t frame : Nat) (pin : Bool)
  /-- PAIR_MAP (R382). The partner's tile-hit map of a die arrives. -/
  | pairMap (d : DieId) (die : DieId) (frame : Nat) (map : List Byte)
  /-- PAIR_MIRROR (R382). The partner's log entry or record arrives. -/
  | pairMirror (d : DieId) (serial : Nat) (die : DieId) (record : Bool) (bytes : List Byte)
  /-- SPI_MASTER_GO (R390). A write of SPI_MXFER with GO at 1. -/
  | spiMasterGo (d : DieId) (hold : Bool) (tgt nwords : Nat)
  /-- XFER_DONE (R390). The words of the master transfer shift, as far as the FIFOs allow, `din` arriving on SPI_DI; with the last one the transfer is complete. -/
  | xferDone (d : DieId) (din : List Nat)
  /-- SPI_TX_WRITE (R390). A write of `val` to SPI_TX. -/
  | spiTxWrite (d : DieId) (val : Nat)
  /-- SPI_RX_READ (R394). A read of SPI_RX. -/
  | spiRxRead (d : DieId) (q : Requester)
  /-- SS_N_FALL (R393). SS_N falls at the slave. -/
  | ssNFall (d : DieId)
  /-- SS_N_RISE (R392). SS_N rises at the slave, `edges` sampling edges into a word whose bits so far are `val`. -/
  | ssNRise (d : DieId) (edges val : Nat)
  /-- SLAVE_WORD (R391). The slave receives the whole word `w`. -/
  | slaveWord (d : DieId) (w : Nat)
  /-- PROTO_READ (R397). A protocol read command word `w` is received whole. -/
  | protoRead (d : DieId) (w : Nat)
  /-- PROTO_WRITE (R397). The last data word `w` of a protocol write is received whole. -/
  | protoWrite (d : DieId) (w : Nat)
  /-- PROTO_NOP (R395). A protocol command word `w` with OP 0b00 or 0b11 is received whole. -/
  | protoNop (d : DieId) (w : Nat)
  /-- XIP_READ (R400). The reader is asked for the byte at flash address `addr`; `flash` are the contents of its 32-byte line and of the lines that follow. -/
  | xipRead (d : DieId) (addr : Nat) (flash : List (List Byte))
  /-- XIP_IDLE_TIMEOUT (R400). IDLE_MAX µs have passed without a sequential read. -/
  | xipIdleTimeout (d : DieId)
  /-- SRAM_ROW_ERROR (R404). A SECDED error in row `row` of SRAM bank `bank`. -/
  | sramRowError (d : DieId) (bank row : Nat)
  /-- DRAM_ROW_ERROR (R404). An error, corrected or uncorrectable, in DRAM row `row`. -/
  | dramRowError (d : DieId) (row : Nat) (uncorr : Bool)
  /-- SPR_REMOVE (R415). A write of SPR_REQ with GO and OP 1. -/
  | sprRemove (d : DieId) (ty inst : Nat)
  /-- SPR_RETEST (R415). A write of SPR_REQ with GO and OP 2. -/
  | sprRetest (d : DieId) (ty inst : Nat)
  /-- SPR_CLEAR (R415). A write of SPR_REQ with GO and OP 3. -/
  | sprClear (d : DieId) (ty inst : Nat)
  /-- TEST_START (R408). The STS starts the targeted self-test of the longest-waiting marked resource. -/
  | testStart (d : DieId)
  /-- TEST_DONE (R408). The running test completes: it passes or not, and where it failed (STS_RESULT.DETAIL). -/
  | testDone (d : DieId) (pass : Bool) (detail : Nat)
  /-- TEST_STALL (R408). A self-test overruns its limit and the fault is classed lasting. -/
  | testStall (d : DieId)
  /-- GRAFT_TABLE_WRITE (R412). The MP writes a lasting fault into the graft table and then its header. -/
  | graftTableWrite (d : DieId)
  /-- RESET_N_UNMASK (R309). 1 µs has passed since the lead die stopped driving RESET_N. -/
  | resetNUnmask 
  /-- SUPPLY_WARN (R331). Supply `supply` crosses 95 % of its nominal value. -/
  | supplyWarn (supply : Fin 3) (low : Bool)
  /-- BANK_SUPPLY_LOSS (R424). The supply of bank B2, B3 or B4 (0, 1, 2) falls below 1.5 V (`low`), or returns. -/
  | bankSupplyLoss (d : DieId) (bank : Fin 3) (low : Bool)
  /-- EOP_TIMEOUT (R363). A packet on port UP, or DOWN, is cut. -/
  | eopTimeout (d : DieId) (up : Bool)
  /-- SOT_ERR (R189). A start-of-transmission error on a lane discards the packet. -/
  | sotErr (d : DieId) (port : Fin 4)
  /-- FLIT_RETRY (R376). A die-to-die flit fails its CRC and is retried, raising RETRY and counting in D2D_STAT.RETRIES. -/
  | flitRetry (d : DieId)
  /-- RNG_HEALTH_FAIL (R233). The random generator fails its continuous health tests, asserting RNG_FAIL and leading to the keyless handling of R233. -/
  | rngHealthFail (d : DieId)
  deriving DecidableEq, Repr

end Sys2Proof
end

