-- ==== Sys2Proof/Decode.lean ====
section
/-!
DEFINITION. The reading of a table word.  The opcode table gives no row any bits: a command of this block is a happening
at a register, a pin, a link or a timer, and no word spells it (log entry 10).
-/

namespace Sys2Proof

/-- The command that `nbits` bits of value `w` spell: none, for no row of the table gives bits. -/
def decodeTableWord (nbits w : Nat) : Option Instr :=
  match nbits, w with
  | _, _ => none

end Sys2Proof
end

