-- ==== Sys2Proof/Config.lean ====
section
/-!
DEFINITION. What an implementation fixes and what the spec leaves open: the free values.  Each is an opaque constant
applied to the die's plain-data counter or to the operands it depends on; nothing can be proved of a value of it.
-/

namespace Sys2Proof

/-- An open value of `w` bits or fewer, by its name's number and the counter. -/
opaque Config.freeNat : Nat → Nat → Nat

/-- An open yes or no. -/
opaque Config.freeBool : Nat → Nat → Bool

/-- The block design versions that VER reads, by page (R33; not given a number). -/
opaque Config.blockVersion : Nat → Nat

/-- The device keys in the fuses, by die (R232). -/
opaque Config.deviceKey : Nat → Nat

/-- The firmware release number (Table 7.1). -/
opaque Config.firmware : Nat

/-- The first 8 bytes of the SHA-256 over the four verified job images (Table 7.1), as a number. -/
opaque Config.firmwareId : Nat

/-- The forward leg of the Cloche's bridge closes the blade (the spec does not say which leg does). -/
opaque Config.closesForward : Bool

/-- Spare rows of an SRAM bank (R404; not given a number). -/
opaque Config.sramSpares : Nat → Nat

/-- Spare rows of the DRAM's repair (R404; not given a number). -/
opaque Config.dramSpares : Nat

/-- The room of one buffer of an output in a context's output store: the output's largest configured payload, for which the
host reserves the space (R208; by context and output). No register tells it. -/
opaque Config.storeRoom : Nat → Nat → Nat

/-- The banks of SRAM that the STS reports, bank numbers being 10 bits wide (Table 15.1). -/
def Config.sramBanks : Nat := 1024

/-- Bytes of one in-package DRAM that the inline ECC leaves (Table 1.9): 1,984 MiB. -/
def Config.dramBytes : Nat := 1984 * 1048576

end Sys2Proof
end

