-- ==== Sys2Proof/Machine/Regs.lean ====
section
/-!
DEFINITION. What a register field is (its place, access code, Reset, retention class, stated range: R4, R8, R12),
and where field values are kept: one sorted list of (key, value) pairs for each retention class of Table 0.5.
-/

namespace Sys2Proof.Machine

/-- The access codes of Table 0.4. -/
inductive Acc where
  | rw | ro | wo | w1c | w1s | rws
  deriving DecidableEq, Repr

/-- The retention classes of Table 0.5 (R12). A field without a class is kept with class C. -/
inductive Keep where
  | p | a | w | c
  deriving DecidableEq, Repr

/-- One field of one register. -/
structure Fld where
  page : Nat
  off : Nat
  lo : Nat
  width : Nat
  acc : Acc
  rst : Nat
  keep : Keep
  min : Nat
  max : Nat
  deriving DecidableEq, Repr

/-- The number under which a field's value is kept: its page, offset and lowest bit. -/
def Fld.key (f : Fld) : Nat := (f.page * 0x1000 + f.off) * 32 + f.lo

/-- A write can change the field (R4). -/
def Fld.writable (f : Fld) : Bool := f.acc != .ro

/-- The encoding `v` lies in the field's stated range (R8). -/
def Fld.inRange (f : Fld) (v : Nat) : Bool := f.min ≤ v && v ≤ f.max

/-- The field's bits of a register word. -/
def Fld.ofWord (f : Fld) (w : Nat) : Nat := bits w f.lo f.width

/-- A register, or an array of like registers: first page and count of pages, offset, and two strides with their
counts; the fields of each, by page instance and the two indexes. -/
structure RegRow where
  page : Nat
  pages : Nat
  off : Nat
  stride : Nat
  count : Nat
  stride2 : Nat
  count2 : Nat
  fields : Nat → Nat → Nat → List Fld

/-- The fields of the register at `off` of page `page`, when this row holds it. -/
def RegRow.at? (r : RegRow) (page off : Nat) : Option (List Fld) :=
  if r.page ≤ page ∧ page < r.page + r.pages ∧ r.off ≤ off then
    let d := off - r.off
    let i := if r.stride = 0 then 0 else d / r.stride
    let e := d - r.stride * i
    let k := if r.stride2 = 0 then 0 else e / r.stride2
    if i < r.count ∧ k < r.count2 ∧ e = r.stride2 * k then
      some (if r.pages = 1 then r.fields 0 i k else r.fields (page - r.page) i k)
    else none
  else none

/-- Field values by key, the keys rising. -/
abbrev RegMap := List (Nat × Nat)

/-- The value listed under a key. -/
def RegMap.look : RegMap → Nat → Option Nat
  | [], _ => none
  | (a, v) :: r, k => if a = k then some v else RegMap.look r k

/-- The map with `k` holding `v`. -/
def RegMap.put : RegMap → Nat → Nat → RegMap
  | [], k, v => [(k, v)]
  | (a, w) :: r, k, v =>
    if k < a then (k, v) :: (a, w) :: r
    else if k = a then (k, v) :: r
    else (a, w) :: RegMap.put r k v

/-- The map without the keys of one page. -/
def RegMap.dropPage (m : RegMap) (page : Nat) : RegMap := m.filter (fun e => e.1 / 0x20000 != page)

/-- The map without one key. -/
def RegMap.drop (m : RegMap) (k : Nat) : RegMap := m.filter (fun e => e.1 != k)

/-- The keys rise strictly. -/
def RegMap.wf : RegMap → Bool
  | [] => true
  | [_] => true
  | (a, _) :: (b, w) :: r => decide (a < b) && RegMap.wf ((b, w) :: r)

/-- The field values of a die, one map for each retention class. -/
structure RegFile where
  p : RegMap := []
  a : RegMap := []
  w : RegMap := []
  c : RegMap := []
  deriving DecidableEq, Repr

/-- The map of a class. -/
def RegFile.sel (r : RegFile) : Keep → RegMap
  | .p => r.p
  | .a => r.a
  | .w => r.w
  | .c => r.c

/-- The file with the map of a class replaced. -/
def RegFile.withSel (r : RegFile) (k : Keep) (m : RegMap) : RegFile :=
  match k with
  | .p => { r with p := m }
  | .a => { r with a := m }
  | .w => { r with w := m }
  | .c => { r with c := m }

/-- The value listed for a field, if any. -/
def RegFile.look (r : RegFile) (f : Fld) : Option Nat := (r.sel f.keep).look f.key

/-- The file with a field's value set. -/
def RegFile.put (r : RegFile) (f : Fld) (v : Nat) : RegFile := r.withSel f.keep ((r.sel f.keep).put f.key v)

/-- The file without a field's value. -/
def RegFile.drop (r : RegFile) (f : Fld) : RegFile := r.withSel f.keep ((r.sel f.keep).drop f.key)

/-- The file with the class P and class C values of a page lost: what a block reset does to it (Table 1.2, R20). -/
def RegFile.blockLoss (r : RegFile) (page : Nat) : RegFile :=
  { r with p := r.p.dropPage page, c := r.c.dropPage page }

/-- Every map of the file has its keys rising. -/
def RegFile.wf (r : RegFile) : Bool := r.p.wf && r.a.wf && r.w.wf && r.c.wf

end Sys2Proof.Machine
end

