-- ==== Sys2Proof/Machine/Fields.lean ====
section
/-!
DEFINITION. The register fields of the EXN2560, field by field from the register tables of the chapters: page,
offset, lowest bit, width, access code, Reset, retention class, and the stated range of encodings (R8).
`F.REG_FIELD` is field REG.FIELD; `n` and `j` number the instance (page, context, loop, channel, word) where the
spec numbers it.  A Reset of "Fuse" or "HW" stands as 0 here: the start fills those fields (Ops.lean, `loadShadows`).
-/

namespace Sys2Proof.Machine

/-- Table 1.12: the vector of group `g`. -/
def vecMapReset (g : Nat) : Nat :=
  if g ≤ 1 then 0 else if g ≤ 3 then 1 else if g ≤ 9 then 2 else if g ≤ 11 then 3 else if g ≤ 13 then 4
  else if g ≤ 15 then 5 else if g = 16 then 6 else if g ≤ 18 then 7 else 0

/-! ### 01_anatomy.md -/

/-- EVT_GRP_SUM.GRP. -/
def F.EVT_GRP_SUM_GRP : Fld := ⟨6, 0x40, 0, 20, .ro, 0, .c, 0, 0xFFFFF⟩
/-- EVT_VEC_MAP.VEC. -/
def F.EVT_VEC_MAP_VEC (n j : Nat) : Fld := ⟨6, 0x44 + 4 * n, 4 * j, 3, .rw, vecMapReset (8 * n + j), .w, 0, 7⟩
/-- EVT_IRQ_EN.IRQ. -/
def F.EVT_IRQ_EN_IRQ : Fld := ⟨6, 0x50, 0, 20, .rw, 3, .w, 0, 0xFFFFF⟩
/-- EVT_PKG_SUM.DIE_B. -/
def F.EVT_PKG_SUM_DIE_B : Fld := ⟨7, 0x40, 31, 1, .ro, 0, .c, 0, 1⟩
/-- EVT_PKG_SUM.GRP_B. -/
def F.EVT_PKG_SUM_GRP_B : Fld := ⟨7, 0x40, 0, 20, .ro, 0, .c, 0, 0xFFFFF⟩
/-- SYS_SERIAL_LO.SERIAL. -/
def F.SYS_SERIAL_LO_SERIAL : Fld := ⟨0, 0x40, 0, 32, .ro, 0, .a, 0, 0xFFFFFFFF⟩
/-- SYS_SERIAL_HI.SERIAL. -/
def F.SYS_SERIAL_HI_SERIAL : Fld := ⟨0, 0x44, 0, 32, .ro, 0, .a, 0, 0xFFFFFFFF⟩
/-- SYS_IDENT.PKGCFG. -/
def F.SYS_IDENT_PKGCFG : Fld := ⟨0, 0x48, 12, 4, .ro, 0, .a, 0, 0xF⟩
/-- SYS_IDENT.BOOT. -/
def F.SYS_IDENT_BOOT : Fld := ⟨0, 0x48, 10, 2, .ro, 0, .a, 0, 3⟩
/-- SYS_IDENT.CLKMODE. -/
def F.SYS_IDENT_CLKMODE : Fld := ⟨0, 0x48, 9, 1, .ro, 0, .a, 0, 1⟩
/-- SYS_IDENT.LEAD. -/
def F.SYS_IDENT_LEAD : Fld := ⟨0, 0x48, 8, 1, .ro, 0, .c, 0, 1⟩
/-- SYS_IDENT.DIE. -/
def F.SYS_IDENT_DIE : Fld := ⟨0, 0x48, 1, 1, .ro, 0, .c, 0, 1⟩
/-- SYS_IDENT.PKG. -/
def F.SYS_IDENT_PKG : Fld := ⟨0, 0x48, 0, 1, .ro, 0, .c, 0, 1⟩
/-- MBX_CMD.GO. -/
def F.MBX_CMD_GO (n : Nat) : Fld := ⟨8, 0x40 + 0x10 * n, 31, 1, .wo, 0, .c, 0, 1⟩
/-- MBX_CMD.TAG. -/
def F.MBX_CMD_TAG (n : Nat) : Fld := ⟨8, 0x40 + 0x10 * n, 16, 8, .rw, 0, .c, 0, 0xFF⟩
/-- MBX_CMD.OPCODE. -/
def F.MBX_CMD_OPCODE (n : Nat) : Fld := ⟨8, 0x40 + 0x10 * n, 0, 16, .rw, 0, .c, 0, 0xFFFF⟩
/-- MBX_ARG.ARG. -/
def F.MBX_ARG_ARG (n : Nat) : Fld := ⟨8, 0x44 + 0x10 * n, 0, 32, .rw, 0, .c, 0, 0xFFFFFFFF⟩
/-- MBX_RSP.BUSY. -/
def F.MBX_RSP_BUSY (n : Nat) : Fld := ⟨8, 0x48 + 0x10 * n, 31, 1, .ro, 0, .c, 0, 1⟩
/-- MBX_RSP.COLL. -/
def F.MBX_RSP_COLL (n : Nat) : Fld := ⟨8, 0x48 + 0x10 * n, 30, 1, .w1c, 0, .c, 0, 1⟩
/-- MBX_RSP.TAG. -/
def F.MBX_RSP_TAG (n : Nat) : Fld := ⟨8, 0x48 + 0x10 * n, 16, 8, .ro, 0, .c, 0, 0xFF⟩
/-- MBX_RSP.STATUS. -/
def F.MBX_RSP_STATUS (n : Nat) : Fld := ⟨8, 0x48 + 0x10 * n, 0, 16, .ro, 0, .c, 0, 0xFFFF⟩
/-- MBX_DATA.DATA. -/
def F.MBX_DATA_DATA (n : Nat) : Fld := ⟨8, 0x4C + 0x10 * n, 0, 32, .ro, 0, .c, 0, 0xFFFFFFFF⟩
/-! ### 02_sensor_port_and_rake.md -/

/-- SEQ_CTRL.START. -/
def F.SEQ_CTRL_START : Fld := ⟨0x20, 8, 8, 8, .rw, 0, .w, 0, 0xFF⟩
/-- SEQ_CTRL.NOBIAS. -/
def F.SEQ_CTRL_NOBIAS : Fld := ⟨0x20, 8, 3, 1, .rw, 0, .c, 0, 1⟩
/-- SEQ_CTRL.LINKAFE. -/
def F.SEQ_CTRL_LINKAFE : Fld := ⟨0x20, 8, 2, 1, .rw, 1, .c, 0, 1⟩
/-- SEQ_CTRL.STOPMODE. -/
def F.SEQ_CTRL_STOPMODE : Fld := ⟨0x20, 8, 1, 1, .rw, 0, .c, 0, 1⟩
/-- SEQ_CTRL.EN. -/
def F.SEQ_CTRL_EN : Fld := ⟨0x20, 8, 0, 1, .rw, 0, .c, 0, 1⟩
/-- SEQ_PC.STATE. -/
def F.SEQ_PC_STATE : Fld := ⟨0x20, 0x40, 8, 3, .ro, 0, .c, 0, 7⟩
/-- SEQ_PC.PC. -/
def F.SEQ_PC_PC : Fld := ⟨0x20, 0x40, 0, 8, .ro, 0, .c, 0, 0xFF⟩
/-- SEQ_CNT.C1. -/
def F.SEQ_CNT_C1 : Fld := ⟨0x20, 0x44, 16, 12, .ro, 0, .c, 0, 0xFFF⟩
/-- SEQ_CNT.C0. -/
def F.SEQ_CNT_C0 : Fld := ⟨0x20, 0x44, 0, 12, .ro, 0, .c, 0, 0xFFF⟩
/-- SEQ_ROW.RA. -/
def F.SEQ_ROW_RA : Fld := ⟨0x20, 0x48, 0, 11, .ro, 0, .c, 0, 0x7FF⟩
/-- SEQ_FRAME_LEN.LEN. -/
def F.SEQ_FRAME_LEN_LEN : Fld := ⟨0x20, 0x4C, 0, 26, .rws, 0xCB735, .p, 0, 0x3FFFFFF⟩
/-- SEQ_SYNC.OFFSET. -/
def F.SEQ_SYNC_OFFSET : Fld := ⟨0x20, 0x50, 16, 16, .rws, 0, .p, 0, 0xFFFF⟩
/-- SEQ_SYNC.DIV_M1. -/
def F.SEQ_SYNC_DIV_M1 : Fld := ⟨0x20, 0x50, 8, 8, .rws, 0, .p, 0, 0xFF⟩
/-- SEQ_SYNC.SRC. -/
def F.SEQ_SYNC_SRC : Fld := ⟨0x20, 0x50, 0, 1, .rws, 0, .p, 0, 1⟩
/-- SEQ_WIN.ROWS_M1. -/
def F.SEQ_WIN_ROWS_M1 : Fld := ⟨0x20, 0x54, 16, 11, .rws, 0x7FF, .p, 0, 0x7FF⟩
/-- SEQ_WIN.ROW0. -/
def F.SEQ_WIN_ROW0 : Fld := ⟨0x20, 0x54, 0, 11, .rws, 0, .p, 0, 0x7FF⟩
/-- SEQ_LOOP1.COUNT. -/
def F.SEQ_LOOP1_COUNT : Fld := ⟨0x20, 0x58, 0, 12, .rws, 0x10, .p, 1, 0xFFF⟩
/-- SEQ_ARRAY.NCLU_M1. -/
def F.SEQ_ARRAY_NCLU_M1 : Fld := ⟨0x20, 0x5C, 16, 5, .rw, 0x1F, .p, 0, 0x1F⟩
/-- SEQ_ARRAY.ROWS_M1. -/
def F.SEQ_ARRAY_ROWS_M1 : Fld := ⟨0x20, 0x5C, 0, 11, .rw, 0x7FF, .p, 0xF, 0x7FF⟩
/-- SEQ_FCFG.GAIN. -/
def F.SEQ_FCFG_GAIN : Fld := ⟨0x20, 0x60, 0, 2, .rws, 0, .p, 0, 2⟩
/-- SEQ_FRAME_NUM_LO.NUM. -/
def F.SEQ_FRAME_NUM_LO_NUM : Fld := ⟨0x20, 0x64, 0, 32, .ro, 0, .w, 0, 0xFFFFFFFF⟩
/-- SEQ_FRAME_NUM_HI.NUM. -/
def F.SEQ_FRAME_NUM_HI_NUM : Fld := ⟨0x20, 0x68, 0, 32, .ro, 0, .w, 0, 0xFFFFFFFF⟩
/-- SEQ_FAULT.CAUSE. -/
def F.SEQ_FAULT_CAUSE : Fld := ⟨0x20, 0x6C, 8, 4, .ro, 0, .w, 0, 0xF⟩
/-- SEQ_FAULT.ADDR. -/
def F.SEQ_FAULT_ADDR : Fld := ⟨0x20, 0x6C, 0, 8, .ro, 0, .w, 0, 0xFF⟩
/-- SEQ_LIMITS.EXPORT. -/
def F.SEQ_LIMITS_EXPORT : Fld := ⟨0x20, 0x70, 0, 1, .ro, 0, .a, 0, 1⟩
/-- SEQ_TICK_ERR.MISSED. -/
def F.SEQ_TICK_ERR_MISSED : Fld := ⟨0x20, 0x74, 16, 16, .rw, 0, .w, 0, 0xFFFF⟩
/-- SEQ_TICK_ERR.LATE. -/
def F.SEQ_TICK_ERR_LATE : Fld := ⟨0x20, 0x74, 0, 16, .rw, 0, .w, 0, 0xFFFF⟩
/-- AFE_OUT_EN.VDET. -/
def F.AFE_OUT_EN_VDET : Fld := ⟨0x21, 0x40, 4, 1, .rw, 0, .c, 0, 1⟩
/-- AFE_OUT_EN.VBLIND. -/
def F.AFE_OUT_EN_VBLIND : Fld := ⟨0x21, 0x40, 3, 1, .rw, 0, .c, 0, 1⟩
/-- AFE_OUT_EN.VREFC. -/
def F.AFE_OUT_EN_VREFC : Fld := ⟨0x21, 0x40, 2, 1, .rw, 0, .c, 0, 1⟩
/-- AFE_OUT_EN.VSA. -/
def F.AFE_OUT_EN_VSA : Fld := ⟨0x21, 0x40, 1, 1, .rw, 0, .c, 0, 1⟩
/-- AFE_OUT_EN.VSD. -/
def F.AFE_OUT_EN_VSD : Fld := ⟨0x21, 0x40, 0, 1, .rw, 0, .c, 0, 1⟩
/-- AFE_OUT_STAT.TRIPPED. -/
def F.AFE_OUT_STAT_TRIPPED : Fld := ⟨0x21, 0x44, 16, 5, .ro, 0, .c, 0, 0x1F⟩
/-- AFE_OUT_STAT.RAMPING. -/
def F.AFE_OUT_STAT_RAMPING : Fld := ⟨0x21, 0x44, 8, 5, .ro, 0, .c, 0, 0x1F⟩
/-- AFE_OUT_STAT.GOOD. -/
def F.AFE_OUT_STAT_GOOD : Fld := ⟨0x21, 0x44, 0, 5, .ro, 0, .c, 0, 0x1F⟩
/-- AFE_VDET.CODE. -/
def F.AFE_VDET_CODE : Fld := ⟨0x21, 0x48, 0, 12, .rws, 0x999, .p, 0, 0xFFF⟩
/-- AFE_VBLIND.CODE. -/
def F.AFE_VBLIND_CODE : Fld := ⟨0x21, 0x4C, 0, 12, .rws, 0x999, .p, 0, 0xFFF⟩
/-- AFE_VSA.CODE. -/
def F.AFE_VSA_CODE : Fld := ⟨0x21, 0x50, 0, 8, .rw, 0xFF, .p, 0, 0xFF⟩
/-- AFE_VREFC.CODE. -/
def F.AFE_VREFC_CODE : Fld := ⟨0x21, 0x54, 0, 10, .rws, 0x200, .p, 0, 0x3FF⟩
/-- AFE_RAMP.VSTEP. -/
def F.AFE_RAMP_VSTEP : Fld := ⟨0x21, 0x58, 12, 12, .rw, 0x333, .p, 1, 0xFFF⟩
/-- AFE_RAMP.RATE. -/
def F.AFE_RAMP_RATE : Fld := ⟨0x21, 0x58, 0, 8, .rw, 1, .p, 1, 0xFF⟩
/-- AFE_ILIM.VSD. -/
def F.AFE_ILIM_VSD : Fld := ⟨0x21, 0x5C, 24, 8, .rw, 0x64, .p, 0xA, 0xC8⟩
/-- AFE_ILIM.VSA. -/
def F.AFE_ILIM_VSA : Fld := ⟨0x21, 0x5C, 16, 8, .rw, 0x64, .p, 1, 0x78⟩
/-- AFE_ILIM.VBLIND. -/
def F.AFE_ILIM_VBLIND : Fld := ⟨0x21, 0x5C, 8, 8, .rw, 0x14, .p, 1, 0x1E⟩
/-- AFE_ILIM.VDET. -/
def F.AFE_ILIM_VDET : Fld := ⟨0x21, 0x5C, 0, 8, .rw, 0x64, .p, 1, 0x96⟩
/-- AFE_TRIP.CAUSE. -/
def F.AFE_TRIP_CAUSE : Fld := ⟨0x21, 0x60, 16, 5, .w1c, 0, .w, 0, 0x1F⟩
/-- AFE_TRIP.FILT. -/
def F.AFE_TRIP_FILT : Fld := ⟨0x21, 0x60, 0, 8, .rw, 0xA, .p, 1, 0xFF⟩
/-- AFE_IMON0.VBLIND. -/
def F.AFE_IMON0_VBLIND : Fld := ⟨0x21, 0x64, 16, 12, .ro, 0, .c, 0, 0xFFF⟩
/-- AFE_IMON0.VDET. -/
def F.AFE_IMON0_VDET : Fld := ⟨0x21, 0x64, 0, 12, .ro, 0, .c, 0, 0xFFF⟩
/-- AFE_IMON1.VSD. -/
def F.AFE_IMON1_VSD : Fld := ⟨0x21, 0x68, 16, 12, .ro, 0, .c, 0, 0xFFF⟩
/-- AFE_IMON1.VSA. -/
def F.AFE_IMON1_VSA : Fld := ⟨0x21, 0x68, 0, 12, .ro, 0, .c, 0, 0xFFF⟩
/-- AFE_FPD.VALID. -/
def F.AFE_FPD_VALID (n : Nat) : Fld := ⟨0x21, 0x6C + 4 * n, 31, 1, .ro, 0, .c, 0, 1⟩
/-- AFE_FPD.FAIL. -/
def F.AFE_FPD_FAIL (n : Nat) : Fld := ⟨0x21, 0x6C + 4 * n, 30, 1, .ro, 0, .c, 0, 1⟩
/-- AFE_FPD.TEMP. -/
def F.AFE_FPD_TEMP (n : Nat) : Fld := ⟨0x21, 0x6C + 4 * n, 0, 21, .ro, 0, .c, 0, 0x1FFFFF⟩
/-- AFE_FPD_CFG.SEL. -/
def F.AFE_FPD_CFG_SEL : Fld := ⟨0x21, 0x74, 0, 2, .rw, 2, .p, 0, 2⟩
/-! ### 03_array_converters_and_trims.md -/

/-- ACB_CTRL.LINKSEQ. -/
def F.ACB_CTRL_LINKSEQ : Fld := ⟨0x23, 8, 3, 1, .rw, 1, .w, 0, 1⟩
/-- ACB_CTRL.CHK_EN. -/
def F.ACB_CTRL_CHK_EN : Fld := ⟨0x23, 8, 2, 1, .rw, 1, .w, 0, 1⟩
/-- ACB_CTRL.AUTOCORE. -/
def F.ACB_CTRL_AUTOCORE : Fld := ⟨0x23, 8, 1, 1, .rw, 1, .w, 0, 1⟩
/-- ACB_CTRL.EN. -/
def F.ACB_CTRL_EN : Fld := ⟨0x23, 8, 0, 1, .rw, 0, .c, 0, 1⟩
/-- ACB_WIN.SHIFT. -/
def F.ACB_WIN_SHIFT : Fld := ⟨0x23, 0x40, 20, 4, .rws, 6, .p, 0, 8⟩
/-- ACB_WIN.CNT. -/
def F.ACB_WIN_CNT : Fld := ⟨0x23, 0x40, 8, 9, .rws, 0x40, .p, 2, 0x100⟩
/-- ACB_WIN.SKIP. -/
def F.ACB_WIN_SKIP : Fld := ⟨0x23, 0x40, 0, 8, .rws, 3, .p, 0, 0xFF⟩
/-- ACB_MODE.LPCORE. -/
def F.ACB_MODE_LPCORE : Fld := ⟨0x23, 0x44, 1, 1, .rws, 0, .p, 0, 1⟩
/-- ACB_MODE.LPM. -/
def F.ACB_MODE_LPM : Fld := ⟨0x23, 0x44, 0, 1, .rws, 0, .p, 0, 1⟩
/-- ACB_GAIN.PED. -/
def F.ACB_GAIN_PED (n : Nat) : Fld := ⟨0x23, 0x48 + 4 * n, 16, 10, .rws, 0x200, .p, 0, 0x3FF⟩
/-- ACB_GAIN.AGAIN. -/
def F.ACB_GAIN_AGAIN (n : Nat) : Fld := ⟨0x23, 0x48 + 4 * n, 0, 2, .rws, n, .p, 0, 2⟩
/-- ACB_CHK.TOL. -/
def F.ACB_CHK_TOL : Fld := ⟨0x23, 0x54, 0, 8, .rw, 0x18, .p, 1, 0xFF⟩
/-- ACB_OVR_LIM.LIMIT. -/
def F.ACB_OVR_LIM_LIMIT : Fld := ⟨0x23, 0x58, 0, 22, .rw, 0, .p, 0, 0x3FFFFF⟩
/-- ACB_OVR_CNT.COUNT. -/
def F.ACB_OVR_CNT_COUNT : Fld := ⟨0x23, 0x5C, 0, 32, .ro, 0, .c, 0, 0xFFFFFFFF⟩
/-- ACB_GANG.ARM. -/
def F.ACB_GANG_ARM : Fld := ⟨0x23, 0x60, 0, 1, .wo, 0, .c, 0, 1⟩
/-- ACB_STATE.WARMUP. -/
def F.ACB_STATE_WARMUP : Fld := ⟨0x23, 0x64, 4, 1, .ro, 0, .c, 0, 1⟩
/-- ACB_STATE.SETTLING. -/
def F.ACB_STATE_SETTLING : Fld := ⟨0x23, 0x64, 3, 1, .ro, 0, .c, 0, 1⟩
/-- ACB_STATE.LPM. -/
def F.ACB_STATE_LPM : Fld := ⟨0x23, 0x64, 2, 1, .ro, 0, .c, 0, 1⟩
/-- ACB_STATE.GAIN. -/
def F.ACB_STATE_GAIN : Fld := ⟨0x23, 0x64, 0, 2, .ro, 0, .c, 0, 3⟩
/-- ACB_DEG_CNT.VOID. -/
def F.ACB_DEG_CNT_VOID : Fld := ⟨0x23, 0x68, 16, 10, .ro, 0, .c, 0, 0x3FF⟩
/-- ACB_DEG_CNT.DEG. -/
def F.ACB_DEG_CNT_DEG : Fld := ⟨0x23, 0x68, 0, 10, .ro, 0, .c, 0, 0x3FF⟩
/-- ACB_CAP_CTRL.ARM. -/
def F.ACB_CAP_CTRL_ARM (n : Nat) : Fld := ⟨0x24 + n, 0x40, 31, 1, .wo, 0, .c, 0, 1⟩
/-- ACB_CAP_CTRL.DONE. -/
def F.ACB_CAP_CTRL_DONE (n : Nat) : Fld := ⟨0x24 + n, 0x40, 30, 1, .ro, 0, .c, 0, 1⟩
/-- ACB_CAP_CTRL.ROW. -/
def F.ACB_CAP_CTRL_ROW (n : Nat) : Fld := ⟨0x24 + n, 0x40, 16, 11, .rw, 0, .c, 0, 0x7FF⟩
/-- ACB_CAP_CTRL.COL. -/
def F.ACB_CAP_CTRL_COL (n : Nat) : Fld := ⟨0x24 + n, 0x40, 0, 12, .rw, 640 * n, .c, 0, 0xFFF⟩
/-- ACB_CAP_E.SUM. -/
def F.ACB_CAP_E_SUM (n : Nat) : Fld := ⟨0x24 + n, 0x44, 0, 21, .ro, 0, .c, 0, 0x1FFFFF⟩
/-- ACB_CAP_L.SUM. -/
def F.ACB_CAP_L_SUM (n : Nat) : Fld := ⟨0x24 + n, 0x48, 0, 21, .ro, 0, .c, 0, 0x1FFFFF⟩
/-- ACB_CAP_P.N. -/
def F.ACB_CAP_P_N (n : Nat) : Fld := ⟨0x24 + n, 0x4C, 16, 9, .ro, 0, .c, 0, 0x1FF⟩
/-- ACB_CAP_P.P. -/
def F.ACB_CAP_P_P (n : Nat) : Fld := ⟨0x24 + n, 0x4C, 0, 16, .ro, 0, .c, 0, 0xFFFF⟩
/-- ACB_CAP_F.NE. -/
def F.ACB_CAP_F_NE (n : Nat) : Fld := ⟨0x24 + n, 0x50, 24, 8, .ro, 0, .c, 0, 0xFF⟩
/-- ACB_CAP_F.GAIN. -/
def F.ACB_CAP_F_GAIN (n : Nat) : Fld := ⟨0x24 + n, 0x50, 22, 2, .ro, 0, .c, 0, 3⟩
/-- ACB_CAP_F.OVR. -/
def F.ACB_CAP_F_OVR (n : Nat) : Fld := ⟨0x24 + n, 0x50, 13, 9, .ro, 0, .c, 0, 0x1FF⟩
/-- ACB_CAP_F.TRIMERR. -/
def F.ACB_CAP_F_TRIMERR (n : Nat) : Fld := ⟨0x24 + n, 0x50, 3, 1, .ro, 0, .c, 0, 1⟩
/-- ACB_CAP_F.VOID. -/
def F.ACB_CAP_F_VOID (n : Nat) : Fld := ⟨0x24 + n, 0x50, 2, 1, .ro, 0, .c, 0, 1⟩
/-- ACB_CAP_F.UNDER. -/
def F.ACB_CAP_F_UNDER (n : Nat) : Fld := ⟨0x24 + n, 0x50, 1, 1, .ro, 0, .c, 0, 1⟩
/-- ACB_CAP_F.DEG. -/
def F.ACB_CAP_F_DEG (n : Nat) : Fld := ⟨0x24 + n, 0x50, 0, 1, .ro, 0, .c, 0, 1⟩
/-- ACB_CAP_FRAME.FRAME. -/
def F.ACB_CAP_FRAME_FRAME (n : Nat) : Fld := ⟨0x24 + n, 0x54, 0, 32, .ro, 0, .c, 0, 0xFFFFFFFF⟩
/-- ACB_UNDER_CNT.COUNT. -/
def F.ACB_UNDER_CNT_COUNT (n : Nat) : Fld := ⟨0x24 + n, 0x58, 0, 16, .rw, 0, .w, 0, 0xFFFF⟩
/-- ACB_CLOSE.CYCLES. -/
def F.ACB_CLOSE_CYCLES (n : Nat) : Fld := ⟨0x24 + n, 0x5C, 0, 16, .ro, 0, .c, 0, 0xFFFF⟩
/-- TRM_MAP_BASE.BASE. -/
def F.TRM_MAP_BASE_BASE : Fld := ⟨0x22, 0x40, 12, 19, .rw, 0, .w, 0, 0x7FFFF⟩
/-- TRM_STAGE_BASE.BASE. -/
def F.TRM_STAGE_BASE_BASE : Fld := ⟨0x22, 0x44, 12, 19, .rws, 0, .w, 0, 0x7FFFF⟩
/-- TRM_LOAD.ERR. -/
def F.TRM_LOAD_ERR : Fld := ⟨0x22, 0x48, 8, 1, .ro, 0, .c, 0, 1⟩
/-- TRM_LOAD.GO. -/
def F.TRM_LOAD_GO : Fld := ⟨0x22, 0x48, 0, 1, .wo, 0, .c, 0, 1⟩
/-- TRM_SWITCH.ROWS_LEFT. -/
def F.TRM_SWITCH_ROWS_LEFT : Fld := ⟨0x22, 0x4C, 16, 12, .ro, 0, .c, 0, 0xFFF⟩
/-- TRM_SWITCH.ACTIVE. -/
def F.TRM_SWITCH_ACTIVE : Fld := ⟨0x22, 0x4C, 0, 1, .ro, 0, .c, 0, 1⟩
/-- TRM_ERR_ADDR.UNCORR. -/
def F.TRM_ERR_ADDR_UNCORR : Fld := ⟨0x22, 0x50, 31, 1, .ro, 0, .w, 0, 1⟩
/-- TRM_ERR_ADDR.ROW. -/
def F.TRM_ERR_ADDR_ROW : Fld := ⟨0x22, 0x50, 16, 11, .ro, 0, .w, 0, 0x7FF⟩
/-- TRM_ERR_ADDR.WORD. -/
def F.TRM_ERR_ADDR_WORD : Fld := ⟨0x22, 0x50, 0, 9, .ro, 0, .w, 0, 0x1FF⟩
/-- TRM_PEEK.ROW. -/
def F.TRM_PEEK_ROW : Fld := ⟨0x22, 0x54, 16, 11, .rw, 0, .c, 0, 0x7FF⟩
/-- TRM_PEEK.COL. -/
def F.TRM_PEEK_COL : Fld := ⟨0x22, 0x54, 0, 12, .rw, 0, .c, 0, 0xBFF⟩
/-- TRM_PEEK_DATA.UNCORR. -/
def F.TRM_PEEK_DATA_UNCORR : Fld := ⟨0x22, 0x58, 9, 1, .ro, 0, .c, 0, 1⟩
/-- TRM_PEEK_DATA.BYPASS. -/
def F.TRM_PEEK_DATA_BYPASS : Fld := ⟨0x22, 0x58, 8, 1, .ro, 0, .c, 0, 1⟩
/-- TRM_PEEK_DATA.TRIM. -/
def F.TRM_PEEK_DATA_TRIM : Fld := ⟨0x22, 0x58, 0, 6, .ro, 0, .c, 0, 0x3F⟩
/-- TRM_BYPASS.USED. -/
def F.TRM_BYPASS_USED : Fld := ⟨0x22, 0x5C, 0, 7, .ro, 0, .w, 0, 0x7F⟩
/-- TRM_LATE_CNT.COUNT. -/
def F.TRM_LATE_CNT_COUNT : Fld := ⟨0x22, 0x60, 0, 16, .rw, 0, .w, 0, 0xFFFF⟩
/-- CLU_CTRL.AUTOGRAFT. -/
def F.CLU_CTRL_AUTOGRAFT (n : Nat) : Fld := ⟨0x80 + n, 8, 1, 1, .rw, 1, .w, 0, 1⟩
/-- CLU_CTRL.EN. -/
def F.CLU_CTRL_EN (n : Nat) : Fld := ⟨0x80 + n, 8, 0, 1, .rw, 1, .c, 0, 1⟩
/-- CLU_GRAFT.REQCH. -/
def F.CLU_GRAFT_REQCH (n : Nat) : Fld := ⟨0x80 + n, 0x40, 16, 4, .rw, 0, .c, 0, 0xF⟩
/-- CLU_GRAFT.CAUSE. -/
def F.CLU_GRAFT_CAUSE (n : Nat) : Fld := ⟨0x80 + n, 0x40, 10, 2, .ro, 0, .c, 0, 3⟩
/-- CLU_GRAFT.RELEASE. -/
def F.CLU_GRAFT_RELEASE (n : Nat) : Fld := ⟨0x80 + n, 0x40, 9, 1, .wo, 0, .c, 0, 1⟩
/-- CLU_GRAFT.GRAFT. -/
def F.CLU_GRAFT_GRAFT (n : Nat) : Fld := ⟨0x80 + n, 0x40, 8, 1, .wo, 0, .c, 0, 1⟩
/-- CLU_GRAFT.ACTIVE. -/
def F.CLU_GRAFT_ACTIVE (n : Nat) : Fld := ⟨0x80 + n, 0x40, 4, 1, .ro, 0, .c, 0, 1⟩
/-- CLU_GRAFT.CH. -/
def F.CLU_GRAFT_CH (n : Nat) : Fld := ⟨0x80 + n, 0x40, 0, 4, .ro, 0, .c, 0, 0xF⟩
/-- CLU_CORE0_OUT.OUT. -/
def F.CLU_CORE0_OUT_OUT (n : Nat) : Fld := ⟨0x80 + n, 0x44, 0, 17, .ro, 0, .c, 0, 0x1FFFF⟩
/-- CLU_CORE1_OUT.OUT. -/
def F.CLU_CORE1_OUT_OUT (n : Nat) : Fld := ⟨0x80 + n, 0x48, 0, 17, .ro, 0, .c, 0, 0x1FFFF⟩
/-- CLU_VOID.VOID. -/
def F.CLU_VOID_VOID (n : Nat) : Fld := ⟨0x80 + n, 0x4C, 0, 16, .ro, 0, .c, 0, 0xFFFF⟩
/-- CLU_CORE_REQ.RETURN. -/
def F.CLU_CORE_REQ_RETURN (n : Nat) : Fld := ⟨0x80 + n, 0x50, 9, 1, .wo, 0, .c, 0, 1⟩
/-- CLU_CORE_REQ.REMOVE. -/
def F.CLU_CORE_REQ_REMOVE (n : Nat) : Fld := ⟨0x80 + n, 0x50, 8, 1, .wo, 0, .c, 0, 1⟩
/-- CLU_CORE_REQ.CORE. -/
def F.CLU_CORE_REQ_CORE (n : Nat) : Fld := ⟨0x80 + n, 0x50, 5, 1, .rw, 0, .c, 0, 1⟩
/-- CLU_CORE_REQ.CH. -/
def F.CLU_CORE_REQ_CH (n : Nat) : Fld := ⟨0x80 + n, 0x50, 0, 5, .rw, 0, .c, 0, 0x10⟩
/-- CLU_CHK_STAT.FAILS. -/
def F.CLU_CHK_STAT_FAILS (n : Nat) : Fld := ⟨0x80 + n, 0x54, 16, 16, .rw, 0, .w, 0, 0xFFFF⟩
/-- CLU_CHK_STAT.LAST_ERR. -/
def F.CLU_CHK_STAT_LAST_ERR (n : Nat) : Fld := ⟨0x80 + n, 0x54, 8, 8, .ro, 0, .w, 0, 0xFF⟩
/-- CLU_CHK_STAT.LAST_CORE. -/
def F.CLU_CHK_STAT_LAST_CORE (n : Nat) : Fld := ⟨0x80 + n, 0x54, 6, 1, .ro, 0, .w, 0, 1⟩
/-- CLU_CHK_STAT.LAST_CH. -/
def F.CLU_CHK_STAT_LAST_CH (n : Nat) : Fld := ⟨0x80 + n, 0x54, 0, 5, .ro, 0, .w, 0, 0x1F⟩
/-- CLU_CBIAS.ODD. -/
def F.CLU_CBIAS_ODD (n k : Nat) : Fld := ⟨0x80 + n, 0x100 + 4 * k, 16, 10, .rws, 0x200, .w, 0, 0x3FF⟩
/-- CLU_CBIAS.EVEN. -/
def F.CLU_CBIAS_EVEN (n k : Nat) : Fld := ⟨0x80 + n, 0x100 + 4 * k, 0, 10, .rws, 0x200, .w, 0, 0x3FF⟩
/-- CLU_CTRIM0.GAIN. -/
def F.CLU_CTRIM0_GAIN (n k : Nat) : Fld := ⟨0x80 + n, 0x200 + 0x10 * k, 8, 8, .rws, 0, .w, 0, 0xFF⟩
/-- CLU_CTRIM0.OFFSET. -/
def F.CLU_CTRIM0_OFFSET (n k : Nat) : Fld := ⟨0x80 + n, 0x200 + 0x10 * k, 0, 8, .rws, 0, .w, 0, 0xFF⟩
/-- CLU_CTRIM1.GAIN. -/
def F.CLU_CTRIM1_GAIN (n k : Nat) : Fld := ⟨0x80 + n, 0x204 + 0x10 * k, 8, 8, .rws, 0, .w, 0, 0xFF⟩
/-- CLU_CTRIM1.OFFSET. -/
def F.CLU_CTRIM1_OFFSET (n k : Nat) : Fld := ⟨0x80 + n, 0x204 + 0x10 * k, 0, 8, .rws, 0, .w, 0, 0xFF⟩
/-- CLU_SKEW.SKEW. -/
def F.CLU_SKEW_SKEW (n k : Nat) : Fld := ⟨0x80 + n, 0x208 + 0x10 * k, 0, 6, .rws, 0, .w, 0, 0x3F⟩
/-! ### 04_sieve.md -/

/-- SVE_CTRL.AUTOGRAFT. -/
def F.SVE_CTRL_AUTOGRAFT : Fld := ⟨0x30, 8, 1, 1, .rw, 1, .w, 0, 1⟩
/-- SVE_CTRL.EN. -/
def F.SVE_CTRL_EN : Fld := ⟨0x30, 8, 0, 1, .rw, 0, .c, 0, 1⟩
/-- SVE_MODE.TWIN. -/
def F.SVE_MODE_TWIN : Fld := ⟨0x30, 0x40, 4, 1, .rws, 0, .p, 0, 1⟩
/-- SVE_MODE.BREF. -/
def F.SVE_MODE_BREF : Fld := ⟨0x30, 0x40, 0, 2, .rws, 0, .p, 0, 3⟩
/-- SVE_DRIFT.THSEL. -/
def F.SVE_DRIFT_THSEL : Fld := ⟨0x30, 0x44, 24, 4, .rws, 0xB, .p, 0, 0xB⟩
/-- SVE_DRIFT.H_SHIFT. -/
def F.SVE_DRIFT_H_SHIFT : Fld := ⟨0x30, 0x44, 16, 4, .rws, 5, .p, 0, 0xF⟩
/-- SVE_DRIFT.D2_SHIFT. -/
def F.SVE_DRIFT_D2_SHIFT : Fld := ⟨0x30, 0x44, 8, 5, .rws, 8, .p, 0, 0x1F⟩
/-- SVE_DRIFT.D1_SHIFT. -/
def F.SVE_DRIFT_D1_SHIFT : Fld := ⟨0x30, 0x44, 0, 5, .rws, 0xA, .p, 0, 0x1F⟩
/-- SVE_TF0.TF0. -/
def F.SVE_TF0_TF0 : Fld := ⟨0x30, 0x48, 0, 21, .rws, 0, .w, 0, 0x1FFFFF⟩
/-- SVE_TH0.TH0. -/
def F.SVE_TH0_TH0 : Fld := ⟨0x30, 0x4C, 0, 20, .rws, 0, .w, 0, 0xFFFFF⟩
/-- SVE_TH_HOST.TH. -/
def F.SVE_TH_HOST_TH : Fld := ⟨0x30, 0x50, 0, 20, .rw, 0, .c, 0, 0xFFFFF⟩
/-- SVE_DTF.SAT. -/
def F.SVE_DTF_SAT : Fld := ⟨0x30, 0x54, 31, 1, .ro, 0, .c, 0, 1⟩
/-- SVE_DTF.DTF. -/
def F.SVE_DTF_DTF : Fld := ⟨0x30, 0x54, 0, 18, .ro, 0, .c, 0, 0x3FFFF⟩
/-- SVE_DTH.SAT. -/
def F.SVE_DTH_SAT : Fld := ⟨0x30, 0x58, 31, 1, .ro, 0, .c, 0, 1⟩
/-- SVE_DTH.HOLDING. -/
def F.SVE_DTH_HOLDING : Fld := ⟨0x30, 0x58, 30, 1, .ro, 0, .c, 0, 1⟩
/-- SVE_DTH.DTH. -/
def F.SVE_DTH_DTH : Fld := ⟨0x30, 0x58, 0, 16, .ro, 0, .c, 0, 0xFFFF⟩
/-- SVE_K.K. -/
def F.SVE_K_K (n : Nat) : Fld := ⟨0x30, 0x5C + 4 * n, 0, 16, .rws, 0x8000, .w, 0, 0xFFFF⟩
/-- SVE_SLICE.TWINACT. -/
def F.SVE_SLICE_TWINACT : Fld := ⟨0x30, 0x68, 25, 1, .ro, 0, .c, 0, 1⟩
/-- SVE_SLICE.SPARE_BUSY. -/
def F.SVE_SLICE_SPARE_BUSY : Fld := ⟨0x30, 0x68, 21, 1, .ro, 0, .c, 0, 1⟩
/-- SVE_SLICE.OUT. -/
def F.SVE_SLICE_OUT : Fld := ⟨0x30, 0x68, 16, 5, .ro, 0, .c, 0, 0x1F⟩
/-- SVE_SLICE.SLICE. -/
def F.SVE_SLICE_SLICE (j : Nat) : Fld := ⟨0x30, 0x68, 3 * j, 3, .ro, j, .c, 0, 7⟩
/-- SVE_SLICE_REQ.RETURN. -/
def F.SVE_SLICE_REQ_RETURN : Fld := ⟨0x30, 0x6C, 9, 1, .wo, 0, .c, 0, 1⟩
/-- SVE_SLICE_REQ.REMOVE. -/
def F.SVE_SLICE_REQ_REMOVE : Fld := ⟨0x30, 0x6C, 8, 1, .wo, 0, .c, 0, 1⟩
/-- SVE_SLICE_REQ.SLICE. -/
def F.SVE_SLICE_REQ_SLICE : Fld := ⟨0x30, 0x6C, 0, 3, .rw, 0, .c, 0, 4⟩
/-- SVE_TWIN.LIMIT. -/
def F.SVE_TWIN_LIMIT : Fld := ⟨0x30, 0x70, 0, 16, .rw, 0x40, .p, 0, 0xFFFF⟩
/-- SVE_FSTAT.TWINFAIL. -/
def F.SVE_FSTAT_TWINFAIL : Fld := ⟨0x30, 0x74, 16, 16, .ro, 0, .c, 0, 0xFFFF⟩
/-- SVE_FSTAT.ARITH. -/
def F.SVE_FSTAT_ARITH : Fld := ⟨0x30, 0x74, 0, 16, .ro, 0, .c, 0, 0xFFFF⟩
/-- SVE_SAT_CNT.COUNT. -/
def F.SVE_SAT_CNT_COUNT : Fld := ⟨0x30, 0x78, 0, 24, .ro, 0, .c, 0, 0xFFFFFF⟩
/-- SVE_RESID_LAST.SLICE. -/
def F.SVE_RESID_LAST_SLICE : Fld := ⟨0x30, 0x7C, 29, 3, .ro, 0, .w, 0, 7⟩
/-- SVE_RESID_LAST.STAGE. -/
def F.SVE_RESID_LAST_STAGE : Fld := ⟨0x30, 0x7C, 25, 4, .ro, 0, .w, 0, 0xF⟩
/-- SVE_RESID_LAST.ROW. -/
def F.SVE_RESID_LAST_ROW : Fld := ⟨0x30, 0x7C, 11, 11, .ro, 0, .w, 0, 0x7FF⟩
/-- SVE_RESID_LAST.COL. -/
def F.SVE_RESID_LAST_COL : Fld := ⟨0x30, 0x7C, 0, 10, .ro, 0, .w, 0, 0x3FF⟩
/-- SVE_CAP_CTRL.ARM. -/
def F.SVE_CAP_CTRL_ARM : Fld := ⟨0x30, 0x80, 31, 1, .wo, 0, .c, 0, 1⟩
/-- SVE_CAP_CTRL.DONE. -/
def F.SVE_CAP_CTRL_DONE : Fld := ⟨0x30, 0x80, 30, 1, .ro, 0, .c, 0, 1⟩
/-- SVE_CAP_CTRL.ROW. -/
def F.SVE_CAP_CTRL_ROW : Fld := ⟨0x30, 0x80, 16, 11, .rw, 0, .c, 0, 0x7FF⟩
/-- SVE_CAP_CTRL.COL. -/
def F.SVE_CAP_CTRL_COL : Fld := ⟨0x30, 0x80, 0, 12, .rw, 0, .c, 0, 0xBFF⟩
/-- SVE_CAP_A.VALUE. -/
def F.SVE_CAP_A_VALUE : Fld := ⟨0x30, 0x84, 0, 20, .ro, 0, .c, 0, 0xFFFFF⟩
/-- SVE_CAP_S.VALUE. -/
def F.SVE_CAP_S_VALUE : Fld := ⟨0x30, 0x88, 0, 20, .ro, 0, .c, 0, 0xFFFFF⟩
/-- SVE_CAP_X.VALUE. -/
def F.SVE_CAP_X_VALUE : Fld := ⟨0x30, 0x8C, 0, 20, .ro, 0, .c, 0, 0xFFFFF⟩
/-- SVE_CAP_YT.T. -/
def F.SVE_CAP_YT_T : Fld := ⟨0x30, 0x90, 16, 16, .ro, 0, .c, 0, 0xFFFF⟩
/-- SVE_CAP_YT.Y. -/
def F.SVE_CAP_YT_Y : Fld := ⟨0x30, 0x90, 0, 16, .ro, 0, .c, 0, 0xFFFF⟩
/-- SVE_CAP_F.SLICE. -/
def F.SVE_CAP_F_SLICE : Fld := ⟨0x30, 0x94, 16, 3, .ro, 0, .c, 0, 7⟩
/-- SVE_CAP_F.INVALID. -/
def F.SVE_CAP_F_INVALID : Fld := ⟨0x30, 0x94, 15, 1, .ro, 0, .c, 0, 1⟩
/-- SVE_CAP_F.OVRSAT. -/
def F.SVE_CAP_F_OVRSAT : Fld := ⟨0x30, 0x94, 14, 1, .ro, 0, .c, 0, 1⟩
/-- SVE_CAP_F.HIT. -/
def F.SVE_CAP_F_HIT : Fld := ⟨0x30, 0x94, 13, 1, .ro, 0, .c, 0, 1⟩
/-- SVE_CAP_F.MARKED. -/
def F.SVE_CAP_F_MARKED : Fld := ⟨0x30, 0x94, 12, 1, .ro, 0, .c, 0, 1⟩
/-- SVE_CAP_F.SAT. -/
def F.SVE_CAP_F_SAT : Fld := ⟨0x30, 0x94, 11, 1, .ro, 0, .c, 0, 1⟩
/-- SVE_CAP_F.TWINFAIL. -/
def F.SVE_CAP_F_TWINFAIL : Fld := ⟨0x30, 0x94, 10, 1, .ro, 0, .c, 0, 1⟩
/-- SVE_CAP_F.ARITH. -/
def F.SVE_CAP_F_ARITH : Fld := ⟨0x30, 0x94, 9, 1, .ro, 0, .c, 0, 1⟩
/-- SVE_CAP_F.DYN. -/
def F.SVE_CAP_F_DYN : Fld := ⟨0x30, 0x94, 8, 1, .ro, 0, .c, 0, 1⟩
/-- SVE_CAP_F.FLAGS. -/
def F.SVE_CAP_F_FLAGS : Fld := ⟨0x30, 0x94, 0, 8, .ro, 0, .c, 0, 0xFF⟩
/-- SVE_CAP_FRAME.FRAME. -/
def F.SVE_CAP_FRAME_FRAME : Fld := ⟨0x30, 0x98, 0, 32, .ro, 0, .c, 0, 0xFFFFFFFF⟩
/-- WDR_CTRL.USEDYN. -/
def F.WDR_CTRL_USEDYN : Fld := ⟨0x31, 8, 3, 1, .rw, 0, .w, 0, 1⟩
/-- WDR_CTRL.AUTOCLR. -/
def F.WDR_CTRL_AUTOCLR : Fld := ⟨0x31, 8, 2, 1, .rw, 0, .w, 0, 1⟩
/-- WDR_CTRL.AUDIT. -/
def F.WDR_CTRL_AUDIT : Fld := ⟨0x31, 8, 1, 1, .rw, 0, .w, 0, 1⟩
/-- WDR_CTRL.EN. -/
def F.WDR_CTRL_EN : Fld := ⟨0x31, 8, 0, 1, .rw, 0, .c, 0, 1⟩
/-- WDR_DMAP_BASE.BASE. -/
def F.WDR_DMAP_BASE_BASE : Fld := ⟨0x31, 0x40, 12, 19, .rw, 0, .w, 0, 0x7FFFF⟩
/-- WDR_AUDIT.FRAMES_M1. -/
def F.WDR_AUDIT_FRAMES_M1 : Fld := ⟨0x31, 0x44, 0, 6, .rws, 0x1F, .p, 7, 0x3F⟩
/-- WDR_STUCK.SCENE. -/
def F.WDR_STUCK_SCENE : Fld := ⟨0x31, 0x48, 16, 16, .rws, 0x190, .p, 0, 0xFFFF⟩
/-- WDR_STUCK.RANGE. -/
def F.WDR_STUCK_RANGE : Fld := ⟨0x31, 0x48, 0, 16, .rws, 4, .p, 0, 0xFFFF⟩
/-- WDR_NOISY.LIMIT. -/
def F.WDR_NOISY_LIMIT : Fld := ⟨0x31, 0x4C, 0, 16, .rws, 0x28, .p, 0, 0xFFFF⟩
/-- WDR_FLICKER.COUNT. -/
def F.WDR_FLICKER_COUNT : Fld := ⟨0x31, 0x50, 16, 6, .rws, 4, .p, 1, 0x3F⟩
/-- WDR_FLICKER.STEP. -/
def F.WDR_FLICKER_STEP : Fld := ⟨0x31, 0x50, 0, 16, .rws, 0xC8, .p, 0, 0xFFFF⟩
/-- WDR_AUDIT_STAT.ACTIVE. -/
def F.WDR_AUDIT_STAT_ACTIVE : Fld := ⟨0x31, 0x54, 31, 1, .ro, 0, .c, 0, 1⟩
/-- WDR_AUDIT_STAT.FRAME. -/
def F.WDR_AUDIT_STAT_FRAME : Fld := ⟨0x31, 0x54, 16, 6, .ro, 0, .c, 0, 0x3F⟩
/-- WDR_AUDIT_STAT.BAND. -/
def F.WDR_AUDIT_STAT_BAND : Fld := ⟨0x31, 0x54, 0, 8, .ro, 0, .c, 0, 0xFF⟩
/-- WDR_DYN_CNT.COUNT. -/
def F.WDR_DYN_CNT_COUNT : Fld := ⟨0x31, 0x58, 0, 23, .ro, 0, .c, 0, 0x7FFFFF⟩
/-- WDR_DYN_LIM.LIMIT. -/
def F.WDR_DYN_LIM_LIMIT : Fld := ⟨0x31, 0x5C, 0, 23, .rw, 0x147B, .p, 0, 0x7FFFFF⟩
/-- WDR_FSTAT.UNFILLED. -/
def F.WDR_FSTAT_UNFILLED : Fld := ⟨0x31, 0x60, 16, 16, .ro, 0, .c, 0, 0xFFFF⟩
/-- WDR_FSTAT.FILLED. -/
def F.WDR_FSTAT_FILLED : Fld := ⟨0x31, 0x60, 0, 16, .ro, 0, .c, 0, 0xFFFF⟩
/-- WDR_LAST.TEST. -/
def F.WDR_LAST_TEST : Fld := ⟨0x31, 0x64, 30, 2, .ro, 0, .w, 0, 3⟩
/-- WDR_LAST.ROW. -/
def F.WDR_LAST_ROW : Fld := ⟨0x31, 0x64, 16, 11, .ro, 0, .w, 0, 0x7FF⟩
/-- WDR_LAST.COL. -/
def F.WDR_LAST_COL : Fld := ⟨0x31, 0x64, 0, 12, .ro, 0, .w, 0, 0xFFF⟩
/-- RAD_CTRL.ALARM_EN. -/
def F.RAD_CTRL_ALARM_EN : Fld := ⟨0x32, 8, 5, 1, .rw, 0, .p, 0, 1⟩
/-- RAD_CTRL.PINMODE. -/
def F.RAD_CTRL_PINMODE : Fld := ⟨0x32, 8, 4, 1, .rw, 1, .p, 0, 1⟩
/-- RAD_CTRL.OVRSAT. -/
def F.RAD_CTRL_OVRSAT : Fld := ⟨0x32, 8, 3, 1, .rw, 1, .p, 0, 1⟩
/-- RAD_CTRL.PIN_EN. -/
def F.RAD_CTRL_PIN_EN : Fld := ⟨0x32, 8, 2, 1, .rw, 0, .p, 0, 1⟩
/-- RAD_CTRL.HS_EN. -/
def F.RAD_CTRL_HS_EN : Fld := ⟨0x32, 8, 1, 1, .rw, 0, .p, 0, 1⟩
/-- RAD_CTRL.EN. -/
def F.RAD_CTRL_EN : Fld := ⟨0x32, 8, 0, 1, .rw, 0, .c, 0, 1⟩
/-- RAD_HS_CLR.CLR. -/
def F.RAD_HS_CLR_CLR : Fld := ⟨0x32, 0x40, 0, 1, .wo, 0, .c, 0, 1⟩
/-- RAD_TILE_DEF.CLASS. -/
def F.RAD_TILE_DEF_CLASS : Fld := ⟨0x32, 0x44, 20, 4, .rw, 0, .p, 0, 0xF⟩
/-- RAD_TILE_DEF.ALARM. -/
def F.RAD_TILE_DEF_ALARM : Fld := ⟨0x32, 0x44, 18, 1, .rw, 0, .p, 0, 1⟩
/-- RAD_TILE_DEF.PIN. -/
def F.RAD_TILE_DEF_PIN : Fld := ⟨0x32, 0x44, 17, 1, .rw, 1, .p, 0, 1⟩
/-- RAD_TILE_DEF.EN. -/
def F.RAD_TILE_DEF_EN : Fld := ⟨0x32, 0x44, 16, 1, .rw, 1, .p, 0, 1⟩
/-- RAD_TILE_DEF.THRESH. -/
def F.RAD_TILE_DEF_THRESH : Fld := ⟨0x32, 0x44, 0, 16, .rw, 0x5C4A, .p, 0, 0xFFFF⟩
/-- RAD_ALARM.REPEAT. -/
def F.RAD_ALARM_REPEAT : Fld := ⟨0x32, 0x48, 0, 8, .rw, 0x3C, .p, 0, 0xFF⟩
/-- RAD_HIT_POS.ROW. -/
def F.RAD_HIT_POS_ROW : Fld := ⟨0x32, 0x4C, 16, 11, .ro, 0, .c, 0, 0x7FF⟩
/-- RAD_HIT_POS.COL. -/
def F.RAD_HIT_POS_COL : Fld := ⟨0x32, 0x4C, 0, 12, .ro, 0, .c, 0, 0xFFF⟩
/-- RAD_HIT_INFO.VALID. -/
def F.RAD_HIT_INFO_VALID : Fld := ⟨0x32, 0x50, 31, 1, .ro, 0, .c, 0, 1⟩
/-- RAD_HIT_INFO.TWIN. -/
def F.RAD_HIT_INFO_TWIN : Fld := ⟨0x32, 0x50, 30, 1, .ro, 0, .c, 0, 1⟩
/-- RAD_HIT_INFO.CLASS. -/
def F.RAD_HIT_INFO_CLASS : Fld := ⟨0x32, 0x50, 16, 4, .ro, 0, .c, 0, 0xF⟩
/-- RAD_HIT_INFO.T. -/
def F.RAD_HIT_INFO_T : Fld := ⟨0x32, 0x50, 0, 16, .ro, 0, .c, 0, 0xFFFF⟩
/-- RAD_HIT_FRAME.FRAME. -/
def F.RAD_HIT_FRAME_FRAME : Fld := ⟨0x32, 0x54, 0, 32, .ro, 0, .c, 0, 0xFFFFFFFF⟩
/-- RAD_HIT_CNT.TILES. -/
def F.RAD_HIT_CNT_TILES : Fld := ⟨0x32, 0x58, 0, 13, .ro, 0, .c, 0, 0x1FFF⟩
/-- RAD_MAP_BASE.BASE. -/
def F.RAD_MAP_BASE_BASE : Fld := ⟨0x32, 0x5C, 12, 19, .rw, 0, .w, 0, 0x7FFFF⟩
/-- RAD_MAP_IDX.FRAME. -/
def F.RAD_MAP_IDX_FRAME : Fld := ⟨0x32, 0x60, 8, 24, .ro, 0, .c, 0, 0xFFFFFF⟩
/-- RAD_MAP_IDX.WRITTEN. -/
def F.RAD_MAP_IDX_WRITTEN : Fld := ⟨0x32, 0x60, 7, 1, .ro, 0, .c, 0, 1⟩
/-- RAD_MAP_IDX.SLOT. -/
def F.RAD_MAP_IDX_SLOT : Fld := ⟨0x32, 0x60, 0, 4, .ro, 0, .c, 0, 0xF⟩
/-- RAD_BANK.COPYING. -/
def F.RAD_BANK_COPYING : Fld := ⟨0x32, 0x64, 0, 1, .ro, 0, .c, 0, 1⟩
/-- CMM_CTRL.LINKCAL. -/
def F.CMM_CTRL_LINKCAL : Fld := ⟨0x33, 8, 1, 1, .rw, 1, .w, 0, 1⟩
/-- CMM_CTRL.EN. -/
def F.CMM_CTRL_EN : Fld := ⟨0x33, 8, 0, 1, .rw, 0, .c, 0, 1⟩
/-- CMM_PLANE.BASE. -/
def F.CMM_PLANE_BASE (n : Nat) : Fld := ⟨0x33, 0x40 + 4 * n, 12, 19, .rws, 0, .w, 0, 0x7FFFF⟩
/-- CMM_LATE_CNT.COUNT. -/
def F.CMM_LATE_CNT_COUNT : Fld := ⟨0x33, 0x4C, 0, 16, .rw, 0, .w, 0, 0xFFFF⟩
/-- CMM_ERR_ADDR.GAIN. -/
def F.CMM_ERR_ADDR_GAIN : Fld := ⟨0x33, 0x50, 27, 2, .ro, 0, .w, 0, 3⟩
/-- CMM_ERR_ADDR.ROW. -/
def F.CMM_ERR_ADDR_ROW : Fld := ⟨0x33, 0x50, 16, 11, .ro, 0, .w, 0, 0x7FF⟩
/-- CMM_ERR_ADDR.COL. -/
def F.CMM_ERR_ADDR_COL : Fld := ⟨0x33, 0x50, 0, 12, .ro, 0, .w, 0, 0xFFF⟩
/-- CMM_FETCH.MAX. -/
def F.CMM_FETCH_MAX : Fld := ⟨0x33, 0x54, 16, 16, .rw, 0, .c, 0, 0xFFFF⟩
/-- CMM_FETCH.LAST. -/
def F.CMM_FETCH_LAST : Fld := ⟨0x33, 0x54, 0, 16, .ro, 0, .c, 0, 0xFFFF⟩
/-- CMM_HASH_CTRL.BUSY. -/
def F.CMM_HASH_CTRL_BUSY : Fld := ⟨0x33, 0x58, 8, 1, .ro, 0, .c, 0, 1⟩
/-- CMM_HASH_CTRL.SEL. -/
def F.CMM_HASH_CTRL_SEL : Fld := ⟨0x33, 0x58, 1, 2, .rw, 0, .c, 0, 3⟩
/-- CMM_HASH_CTRL.GO. -/
def F.CMM_HASH_CTRL_GO : Fld := ⟨0x33, 0x58, 0, 1, .wo, 0, .c, 0, 1⟩
/-- CMM_HASH_BASE.BASE. -/
def F.CMM_HASH_BASE_BASE : Fld := ⟨0x33, 0x5C, 12, 19, .rw, 0, .c, 0, 0x7FFFF⟩
/-- CMM_HASH.DIGEST. -/
def F.CMM_HASH_DIGEST (n : Nat) : Fld := ⟨0x33, 0x60 + 4 * n, 0, 32, .ro, 0, .c, 0, 0xFFFFFFFF⟩
/-! ### 05_calibration_and_cloche.md -/

/-- CAL_CTRL.RESTORE_TRIM. -/
def F.CAL_CTRL_RESTORE_TRIM : Fld := ⟨0x28, 8, 5, 1, .rw, 1, .p, 0, 1⟩
/-- CAL_CTRL.INHIBIT. -/
def F.CAL_CTRL_INHIBIT : Fld := ⟨0x28, 8, 4, 1, .rw, 0, .w, 0, 1⟩
/-- CAL_CTRL.GREF_EN. -/
def F.CAL_CTRL_GREF_EN : Fld := ⟨0x28, 8, 3, 1, .rw, 0, .p, 0, 1⟩
/-- CAL_CTRL.BG_EN. -/
def F.CAL_CTRL_BG_EN : Fld := ⟨0x28, 8, 2, 1, .rw, 1, .p, 0, 1⟩
/-- CAL_CTRL.AUTO. -/
def F.CAL_CTRL_AUTO : Fld := ⟨0x28, 8, 1, 1, .rw, 1, .p, 0, 1⟩
/-- CAL_CTRL.EN. -/
def F.CAL_CTRL_EN : Fld := ⟨0x28, 8, 0, 1, .rw, 0, .c, 0, 1⟩
/-- CAL_STATE.PAIRED. -/
def F.CAL_STATE_PAIRED : Fld := ⟨0x28, 0x40, 13, 1, .ro, 0, .c, 0, 1⟩
/-- CAL_STATE.BG_IDLE. -/
def F.CAL_STATE_BG_IDLE : Fld := ⟨0x28, 0x40, 12, 1, .ro, 1, .c, 0, 1⟩
/-- CAL_STATE.F. -/
def F.CAL_STATE_F : Fld := ⟨0x28, 0x40, 8, 4, .ro, 0, .c, 0, 0xF⟩
/-- CAL_STATE.WARM. -/
def F.CAL_STATE_WARM : Fld := ⟨0x28, 0x40, 7, 1, .ro, 0, .c, 0, 1⟩
/-- CAL_STATE.REASON. -/
def F.CAL_STATE_REASON : Fld := ⟨0x28, 0x40, 4, 3, .ro, 0, .c, 0, 7⟩
/-- CAL_STATE.PHASE. -/
def F.CAL_STATE_PHASE : Fld := ⟨0x28, 0x40, 0, 4, .ro, 0, .c, 0, 0xF⟩
/-- CAL_POLICY.FIRST. -/
def F.CAL_POLICY_FIRST : Fld := ⟨0x28, 0x44, 24, 8, .rw, 0x14, .p, 1, 0xFF⟩
/-- CAL_POLICY.DEFER_MAX. -/
def F.CAL_POLICY_DEFER_MAX : Fld := ⟨0x28, 0x44, 16, 8, .rw, 0x78, .p, 1, 0xFF⟩
/-- CAL_POLICY.MAX_INT. -/
def F.CAL_POLICY_MAX_INT : Fld := ⟨0x28, 0x44, 8, 8, .rw, 0x28, .p, 1, 0xFF⟩
/-- CAL_POLICY.MIN_INT. -/
def F.CAL_POLICY_MIN_INT : Fld := ⟨0x28, 0x44, 0, 8, .rw, 0x3C, .p, 1, 0xFF⟩
/-- CAL_OFS.TARGET. -/
def F.CAL_OFS_TARGET : Fld := ⟨0x28, 0x48, 8, 1, .rw, 0, .p, 0, 1⟩
/-- CAL_OFS.SETTLE. -/
def F.CAL_OFS_SETTLE : Fld := ⟨0x28, 0x48, 4, 2, .rw, 1, .p, 0, 3⟩
/-- CAL_OFS.FRAMES_M1. -/
def F.CAL_OFS_FRAMES_M1 : Fld := ⟨0x28, 0x48, 0, 3, .rw, 3, .p, 0, 7⟩
/-- CAL_ACPT.BLADE_TOL. -/
def F.CAL_ACPT_BLADE_TOL : Fld := ⟨0x28, 0x4C, 24, 8, .rw, 0x14, .p, 0, 0xFF⟩
/-- CAL_ACPT.TF_TOL. -/
def F.CAL_ACPT_TF_TOL : Fld := ⟨0x28, 0x4C, 16, 8, .rw, 0x50, .p, 0, 0xFF⟩
/-- CAL_ACPT.MEAN_TOL. -/
def F.CAL_ACPT_MEAN_TOL : Fld := ⟨0x28, 0x4C, 8, 8, .rw, 0x10, .p, 0, 0xFF⟩
/-- CAL_ACPT.PIX_TOL. -/
def F.CAL_ACPT_PIX_TOL : Fld := ⟨0x28, 0x4C, 0, 8, .rw, 8, .p, 1, 0xFF⟩
/-- CAL_MAXBAD.MAXBAD. -/
def F.CAL_MAXBAD_MAXBAD : Fld := ⟨0x28, 0x50, 0, 23, .rw, 0x147B, .p, 0, 0x7FFFFF⟩
/-- CAL_DRIFT0.KH. -/
def F.CAL_DRIFT0_KH : Fld := ⟨0x28, 0x54, 16, 16, .rw, 0x14, .p, 0, 0xFFFF⟩
/-- CAL_DRIFT0.KF. -/
def F.CAL_DRIFT0_KF : Fld := ⟨0x28, 0x54, 0, 16, .rw, 0x64, .p, 0, 0xFFFF⟩
/-- CAL_DRIFT1.LIMIT. -/
def F.CAL_DRIFT1_LIMIT : Fld := ⟨0x28, 0x58, 16, 16, .rw, 0x1F4, .p, 0, 0xFFFF⟩
/-- CAL_DRIFT1.KT. -/
def F.CAL_DRIFT1_KT : Fld := ⟨0x28, 0x58, 0, 16, .rw, 5, .p, 0, 0xFFFF⟩
/-- CAL_PRED.PRED. -/
def F.CAL_PRED_PRED : Fld := ⟨0x28, 0x5C, 0, 16, .ro, 0, .c, 0, 0xFFFF⟩
/-- CAL_BLADE.OFFSET. -/
def F.CAL_BLADE_OFFSET : Fld := ⟨0x28, 0x60, 0, 16, .rw, 0, .p, 0, 0xFFFF⟩
/-- CAL_GREF.PAIR_MAX. -/
def F.CAL_GREF_PAIR_MAX : Fld := ⟨0x28, 0x64, 24, 8, .rw, 0x3C, .p, 1, 0xFF⟩
/-- CAL_GREF.TOL. -/
def F.CAL_GREF_TOL : Fld := ⟨0x28, 0x64, 16, 8, .rw, 0x10, .p, 0, 0xFF⟩
/-- CAL_GREF.MAXSTEP. -/
def F.CAL_GREF_MAXSTEP : Fld := ⟨0x28, 0x64, 8, 8, .rw, 0x29, .p, 0, 0xFF⟩
/-- CAL_GREF.DELTA. -/
def F.CAL_GREF_DELTA : Fld := ⟨0x28, 0x64, 0, 8, .rw, 0x50, .p, 0x28, 0x64⟩
/-- CAL_BG.TOL_S. -/
def F.CAL_BG_TOL_S : Fld := ⟨0x28, 0x68, 24, 4, .rw, 1, .p, 0, 0xF⟩
/-- CAL_BG.TOL_O. -/
def F.CAL_BG_TOL_O : Fld := ⟨0x28, 0x68, 20, 4, .rw, 2, .p, 0, 0xF⟩
/-- CAL_BG.TOL_G. -/
def F.CAL_BG_TOL_G : Fld := ⟨0x28, 0x68, 16, 4, .rw, 2, .p, 0, 0xF⟩
/-- CAL_BG.SPUR_LIM. -/
def F.CAL_BG_SPUR_LIM : Fld := ⟨0x28, 0x68, 0, 16, .rw, 0xFCB8, .p, 0, 0xFFFF⟩
/-- CAL_WORK.BASE. -/
def F.CAL_WORK_BASE : Fld := ⟨0x28, 0x6C, 12, 19, .rw, 0, .w, 0, 0x7FFFF⟩
/-- CAL_ALT.BASE. -/
def F.CAL_ALT_BASE (n : Nat) : Fld := ⟨0x28, 0x70 + 4 * n, 12, 19, .rw, 0, .w, 0, 0x7FFFF⟩
/-- CAL_SET_ID.ID. -/
def F.CAL_SET_ID_ID : Fld := ⟨0x28, 0x7C, 0, 32, .rw, 0, .w, 0, 0xFFFFFFFF⟩
/-- CAL_SET_GEN.GEN. -/
def F.CAL_SET_GEN_GEN : Fld := ⟨0x28, 0x80, 0, 32, .ro, 0, .w, 0, 0xFFFFFFFF⟩
/-- CAL_HASH.DIGEST. -/
def F.CAL_HASH_DIGEST (n : Nat) : Fld := ⟨0x28, 0x84 + 4 * n, 0, 32, .ro, 0, .w, 0, 0xFFFFFFFF⟩
/-- CAL_Q_FPN.POST. -/
def F.CAL_Q_FPN_POST : Fld := ⟨0x28, 0xA4, 16, 16, .ro, 0, .w, 0, 0xFFFF⟩
/-- CAL_Q_FPN.PRE. -/
def F.CAL_Q_FPN_PRE : Fld := ⟨0x28, 0xA4, 0, 16, .ro, 0, .w, 0, 0xFFFF⟩
/-- CAL_Q_SPUR.CH. -/
def F.CAL_Q_SPUR_CH : Fld := ⟨0x28, 0xA8, 16, 10, .ro, 0, .c, 0, 0x3FF⟩
/-- CAL_Q_SPUR.SPUR. -/
def F.CAL_Q_SPUR_SPUR : Fld := ⟨0x28, 0xA8, 0, 16, .ro, 0, .c, 0, 0xFFFF⟩
/-- CAL_RES.RESULT. -/
def F.CAL_RES_RESULT : Fld := ⟨0x28, 0xAC, 28, 4, .ro, 0, .w, 0, 0xF⟩
/-- CAL_RES.BAD. -/
def F.CAL_RES_BAD : Fld := ⟨0x28, 0xAC, 0, 23, .ro, 0, .w, 0, 0x7FFFFF⟩
/-- CAL_EXCL.EXCL. -/
def F.CAL_EXCL_EXCL : Fld := ⟨0x28, 0xB0, 0, 23, .ro, 0, .w, 0, 0x7FFFFF⟩
/-- CAL_AGE.AGE. -/
def F.CAL_AGE_AGE : Fld := ⟨0x28, 0xB4, 0, 20, .ro, 0, .w, 0, 0xFFFFF⟩
/-- CAL_CNT.REJECTED. -/
def F.CAL_CNT_REJECTED : Fld := ⟨0x28, 0xB8, 16, 16, .rw, 0, .w, 0, 0xFFFF⟩
/-- CAL_CNT.ACCEPTED. -/
def F.CAL_CNT_ACCEPTED : Fld := ⟨0x28, 0xB8, 0, 16, .rw, 0, .w, 0, 0xFFFF⟩
/-- CAL_PAIR.WAIT. -/
def F.CAL_PAIR_WAIT : Fld := ⟨0x28, 0xBC, 21, 1, .ro, 0, .c, 0, 1⟩
/-- CAL_PAIR.GRANT. -/
def F.CAL_PAIR_GRANT : Fld := ⟨0x28, 0xBC, 20, 1, .ro, 0, .c, 0, 1⟩
/-- CAL_PAIR.PAIR. -/
def F.CAL_PAIR_PAIR : Fld := ⟨0x28, 0xBC, 17, 1, .rw, 1, .p, 0, 1⟩
/-- CAL_PAIR.LOCAL. -/
def F.CAL_PAIR_LOCAL : Fld := ⟨0x28, 0xBC, 16, 1, .rw, 1, .p, 0, 1⟩
/-- CAL_PAIR.GAP. -/
def F.CAL_PAIR_GAP : Fld := ⟨0x28, 0xBC, 0, 12, .rw, 0x1F4, .p, 0, 0xFFF⟩
/-- CAL_REC.GEN. -/
def F.CAL_REC_GEN : Fld := ⟨0x28, 0xC0, 16, 16, .ro, 0, .a, 0, 0xFFFF⟩
/-- CAL_REC.SLOT. -/
def F.CAL_REC_SLOT : Fld := ⟨0x28, 0xC0, 8, 1, .ro, 0, .a, 0, 1⟩
/-- CAL_REC.SAVE_MIN. -/
def F.CAL_REC_SAVE_MIN : Fld := ⟨0x28, 0xC0, 0, 8, .rw, 0xA, .p, 1, 0xFF⟩
/-- CLO_CTRL.AUTOHOME. -/
def F.CLO_CTRL_AUTOHOME : Fld := ⟨0x29, 8, 1, 1, .rw, 1, .p, 0, 1⟩
/-- CLO_CTRL.EN. -/
def F.CLO_CTRL_EN : Fld := ⟨0x29, 8, 0, 1, .rw, 0, .w, 0, 1⟩
/-- CLO_DRV.HALL1_POL. -/
def F.CLO_DRV_HALL1_POL : Fld := ⟨0x29, 0x40, 9, 1, .rw, 0, .p, 0, 1⟩
/-- CLO_DRV.HALL0_POL. -/
def F.CLO_DRV_HALL0_POL : Fld := ⟨0x29, 0x40, 8, 1, .rw, 0, .p, 0, 1⟩
/-- CLO_DRV.PAIR. -/
def F.CLO_DRV_PAIR : Fld := ⟨0x29, 0x40, 0, 3, .rw, 0, .p, 0, 7⟩
/-- CLO_PROF_CLOSE.BRAKE. -/
def F.CLO_PROF_CLOSE_BRAKE : Fld := ⟨0x29, 0x44, 24, 8, .rws, 0x1E, .p, 0, 0xFF⟩
/-- CLO_PROF_CLOSE.BOOST. -/
def F.CLO_PROF_CLOSE_BOOST : Fld := ⟨0x29, 0x44, 16, 8, .rws, 0x28, .p, 0, 0xFF⟩
/-- CLO_PROF_CLOSE.RUN. -/
def F.CLO_PROF_CLOSE_RUN : Fld := ⟨0x29, 0x44, 8, 8, .rws, 0x80, .p, 0, 0xFF⟩
/-- CLO_PROF_CLOSE.BOOST_DUTY. -/
def F.CLO_PROF_CLOSE_BOOST_DUTY : Fld := ⟨0x29, 0x44, 0, 8, .rws, 0xFF, .p, 0, 0xFF⟩
/-- CLO_PROF_OPEN.BRAKE. -/
def F.CLO_PROF_OPEN_BRAKE : Fld := ⟨0x29, 0x48, 24, 8, .rws, 0x1E, .p, 0, 0xFF⟩
/-- CLO_PROF_OPEN.BOOST. -/
def F.CLO_PROF_OPEN_BOOST : Fld := ⟨0x29, 0x48, 16, 8, .rws, 0x28, .p, 0, 0xFF⟩
/-- CLO_PROF_OPEN.RUN. -/
def F.CLO_PROF_OPEN_RUN : Fld := ⟨0x29, 0x48, 8, 8, .rws, 0x80, .p, 0, 0xFF⟩
/-- CLO_PROF_OPEN.BOOST_DUTY. -/
def F.CLO_PROF_OPEN_BOOST_DUTY : Fld := ⟨0x29, 0x48, 0, 8, .rws, 0xFF, .p, 0, 0xFF⟩
/-- CLO_TMAX.FORCE. -/
def F.CLO_TMAX_FORCE : Fld := ⟨0x29, 0x4C, 8, 8, .rws, 0xC8, .p, 0, 0xFF⟩
/-- CLO_TMAX.MOVE_TMO. -/
def F.CLO_TMAX_MOVE_TMO : Fld := ⟨0x29, 0x4C, 0, 8, .rws, 0x28, .p, 1, 0xFF⟩
/-- CLO_CMD.HOME. -/
def F.CLO_CMD_HOME : Fld := ⟨0x29, 0x50, 2, 1, .wo, 0, .c, 0, 1⟩
/-- CLO_CMD.OPEN. -/
def F.CLO_CMD_OPEN : Fld := ⟨0x29, 0x50, 1, 1, .wo, 0, .c, 0, 1⟩
/-- CLO_CMD.CLOSE. -/
def F.CLO_CMD_CLOSE : Fld := ⟨0x29, 0x50, 0, 1, .wo, 0, .c, 0, 1⟩
/-- CLO_POS.CLOSURE. -/
def F.CLO_POS_CLOSURE : Fld := ⟨0x29, 0x54, 24, 8, .ro, 0, .c, 0, 0xFF⟩
/-- CLO_POS.OPEN_T. -/
def F.CLO_POS_OPEN_T : Fld := ⟨0x29, 0x54, 16, 8, .ro, 0, .c, 0, 0xFF⟩
/-- CLO_POS.CLOSE_T. -/
def F.CLO_POS_CLOSE_T : Fld := ⟨0x29, 0x54, 8, 8, .ro, 0, .c, 0, 0xFF⟩
/-- CLO_POS.STATE. -/
def F.CLO_POS_STATE : Fld := ⟨0x29, 0x54, 4, 3, .ro, 0, .c, 0, 7⟩
/-- CLO_POS.HALL1. -/
def F.CLO_POS_HALL1 : Fld := ⟨0x29, 0x54, 1, 1, .ro, 0, .c, 0, 1⟩
/-- CLO_POS.HALL0. -/
def F.CLO_POS_HALL0 : Fld := ⟨0x29, 0x54, 0, 1, .ro, 0, .c, 0, 1⟩
/-- CLO_HTR.TARGET. -/
def F.CLO_HTR_TARGET : Fld := ⟨0x29, 0x58, 16, 16, .rw, 0, .c, 0, 0xFFFF⟩
/-- CLO_HTR.TMAX. -/
def F.CLO_HTR_TMAX : Fld := ⟨0x29, 0x58, 8, 8, .rw, 0x46, .p, 0, 0xFF⟩
/-- CLO_HTR.LOOP. -/
def F.CLO_HTR_LOOP : Fld := ⟨0x29, 0x58, 4, 4, .rw, 0, .p, 0, 0xF⟩
/-- CLO_HTR.TSEL. -/
def F.CLO_HTR_TSEL : Fld := ⟨0x29, 0x58, 1, 3, .rw, 0, .p, 0, 5⟩
/-- CLO_HTR.EN. -/
def F.CLO_HTR_EN : Fld := ⟨0x29, 0x58, 0, 1, .rw, 0, .c, 0, 1⟩
/-- CLO_HTR_STAT.READY. -/
def F.CLO_HTR_STAT_READY : Fld := ⟨0x29, 0x5C, 31, 1, .ro, 0, .c, 0, 1⟩
/-- CLO_HTR_STAT.TRIP. -/
def F.CLO_HTR_STAT_TRIP : Fld := ⟨0x29, 0x5C, 30, 1, .ro, 0, .c, 0, 1⟩
/-- CLO_HTR_STAT.VALID. -/
def F.CLO_HTR_STAT_VALID : Fld := ⟨0x29, 0x5C, 29, 1, .ro, 0, .c, 0, 1⟩
/-- CLO_HTR_STAT.TEMP. -/
def F.CLO_HTR_STAT_TEMP : Fld := ⟨0x29, 0x5C, 0, 20, .ro, 0, .c, 0, 0xFFFFF⟩
/-- CLO_HTR_Q.SETTLE. -/
def F.CLO_HTR_Q_SETTLE : Fld := ⟨0x29, 0x60, 16, 16, .ro, 0, .w, 0, 0xFFFF⟩
/-- CLO_HTR_Q.ERR. -/
def F.CLO_HTR_Q_ERR : Fld := ⟨0x29, 0x60, 0, 16, .ro, 0, .w, 0, 0xFFFF⟩
/-- CLO_MOVES.COUNT. -/
def F.CLO_MOVES_COUNT : Fld := ⟨0x29, 0x64, 0, 32, .ro, 0, .p, 0, 0xFFFFFFFF⟩
/-- CLO_WEAR.LIMIT. -/
def F.CLO_WEAR_LIMIT : Fld := ⟨0x29, 0x68, 0, 16, .rw, 0x3E8, .p, 0, 0xFFFF⟩
/-! ### 06_camera_inputs_and_pipeline.md -/

/-- CSI_PHY.RATE. -/
def F.CSI_PHY_RATE (n : Nat) : Fld := ⟨0x40 + n, 0x40, 16, 12, .rw, 0x5DC, .p, 0x50, 0x9C4⟩
/-- CSI_PHY.DESKEW. -/
def F.CSI_PHY_DESKEW (n : Nat) : Fld := ⟨0x40 + n, 0x40, 8, 1, .rw, 1, .p, 0, 1⟩
/-- CSI_PHY.LANES. -/
def F.CSI_PHY_LANES (n : Nat) : Fld := ⟨0x40 + n, 0x40, 0, 2, .rw, 2, .p, 0, 2⟩
/-- CSI_LANEMAP.CLKPOL. -/
def F.CSI_LANEMAP_CLKPOL (n : Nat) : Fld := ⟨0x40 + n, 0x44, 20, 1, .rw, 0, .p, 0, 1⟩
/-- CSI_LANEMAP.POL. -/
def F.CSI_LANEMAP_POL (n : Nat) : Fld := ⟨0x40 + n, 0x44, 16, 4, .rw, 0, .p, 0, 0xF⟩
/-- CSI_LANEMAP.L. -/
def F.CSI_LANEMAP_L (n j : Nat) : Fld := ⟨0x40 + n, 0x44, 2 * j, 2, .rw, j, .p, 0, 3⟩
/-- CSI_LINK.CLK_HS. -/
def F.CSI_LINK_CLK_HS (n : Nat) : Fld := ⟨0x40 + n, 0x48, 9, 1, .ro, 0, .c, 0, 1⟩
/-- CSI_LINK.ULPS. -/
def F.CSI_LINK_ULPS (n : Nat) : Fld := ⟨0x40 + n, 0x48, 8, 1, .ro, 0, .c, 0, 1⟩
/-- CSI_LINK.SYNC. -/
def F.CSI_LINK_SYNC (n : Nat) : Fld := ⟨0x40 + n, 0x48, 4, 4, .ro, 0, .c, 0, 0xF⟩
/-- CSI_LINK.STOP. -/
def F.CSI_LINK_STOP (n : Nat) : Fld := ⟨0x40 + n, 0x48, 0, 4, .ro, 0, .c, 0, 0xF⟩
/-- CSI_ERR_CNT.SOT. -/
def F.CSI_ERR_CNT_SOT (n : Nat) : Fld := ⟨0x40 + n, 0x4C, 24, 8, .rw, 0, .w, 0, 0xFF⟩
/-- CSI_ERR_CNT.CRC. -/
def F.CSI_ERR_CNT_CRC (n : Nat) : Fld := ⟨0x40 + n, 0x4C, 16, 8, .rw, 0, .w, 0, 0xFF⟩
/-- CSI_ERR_CNT.ECC_UNCORR. -/
def F.CSI_ERR_CNT_ECC_UNCORR (n : Nat) : Fld := ⟨0x40 + n, 0x4C, 8, 8, .rw, 0, .w, 0, 0xFF⟩
/-- CSI_ERR_CNT.ECC_CORR. -/
def F.CSI_ERR_CNT_ECC_CORR (n : Nat) : Fld := ⟨0x40 + n, 0x4C, 0, 8, .rw, 0, .w, 0, 0xFF⟩
/-- CSI_UNMATCHED.COUNT. -/
def F.CSI_UNMATCHED_COUNT (n : Nat) : Fld := ⟨0x40 + n, 0x50, 16, 16, .rw, 0, .w, 0, 0xFFFF⟩
/-- CSI_UNMATCHED.DT. -/
def F.CSI_UNMATCHED_DT (n : Nat) : Fld := ⟨0x40 + n, 0x50, 8, 6, .ro, 0, .c, 0, 0x3F⟩
/-- CSI_UNMATCHED.VC. -/
def F.CSI_UNMATCHED_VC (n : Nat) : Fld := ⟨0x40 + n, 0x50, 0, 4, .ro, 0, .c, 0, 0xF⟩
/-- CSI_FRAME_TMO.TMO. -/
def F.CSI_FRAME_TMO_TMO (n : Nat) : Fld := ⟨0x40 + n, 0x54, 0, 16, .rw, 0x3E8, .p, 1, 0xFFFF⟩
/-- CSI_BUF.PEAK. -/
def F.CSI_BUF_PEAK (n : Nat) : Fld := ⟨0x40 + n, 0x58, 16, 12, .rw, 0, .c, 0, 0xFFF⟩
/-- CSI_BUF.FILL. -/
def F.CSI_BUF_FILL (n : Nat) : Fld := ⟨0x40 + n, 0x58, 0, 12, .ro, 0, .c, 0, 0xFFF⟩
/-- IPP_CTRL.LINKSEQ. -/
def F.IPP_CTRL_LINKSEQ : Fld := ⟨0x44, 8, 1, 1, .rw, 1, .w, 0, 1⟩
/-- IPP_CTRL.EN. -/
def F.IPP_CTRL_EN : Fld := ⟨0x44, 8, 0, 1, .rw, 0, .c, 0, 1⟩
/-- IPP_TBL_BASE.BASE. -/
def F.IPP_TBL_BASE_BASE : Fld := ⟨0x44, 0x40, 12, 19, .rw, 0, .w, 0, 0x7FFFF⟩
/-- IPP_LOAD.SWITCHES. -/
def F.IPP_LOAD_SWITCHES : Fld := ⟨0x44, 0x44, 16, 16, .ro, 0, .c, 0, 0xFFFF⟩
/-- IPP_LOAD.BUSY. -/
def F.IPP_LOAD_BUSY : Fld := ⟨0x44, 0x44, 0, 10, .ro, 0, .c, 0, 0x3FF⟩
/-- IPP_DROP.COUNT. -/
def F.IPP_DROP_COUNT : Fld := ⟨0x44, 0x48, 16, 16, .rw, 0, .w, 0, 0xFFFF⟩
/-- IPP_DROP.LAST. -/
def F.IPP_DROP_LAST : Fld := ⟨0x44, 0x48, 0, 3, .ro, 0, .w, 0, 7⟩
/-- CTX_SRC.EN. -/
def F.CTX_SRC_EN (n : Nat) : Fld := ⟨0x44, 0x100 + 0x40 * n, 31, 1, .rw, 0, .c, 0, 1⟩
/-- CTX_SRC.PRIO. -/
def F.CTX_SRC_PRIO (n : Nat) : Fld := ⟨0x44, 0x100 + 0x40 * n, 28, 3, .rw, (if n = 0 then 7 else 3), .w, 0, 7⟩
/-- CTX_SRC.SHARE. -/
def F.CTX_SRC_SHARE (n : Nat) : Fld := ⟨0x44, 0x100 + 0x40 * n, 26, 2, .rw, 2, .w, 0, 2⟩
/-- CTX_SRC.DELAY. -/
def F.CTX_SRC_DELAY (n : Nat) : Fld := ⟨0x44, 0x100 + 0x40 * n, 23, 3, .rw, 0, .w, 0, 7⟩
/-- CTX_SRC.SRC. -/
def F.CTX_SRC_SRC (n : Nat) : Fld := ⟨0x44, 0x100 + 0x40 * n, 20, 3, .rw, (if n = 0 then 0 else 1), .w, 0, 4⟩
/-- CTX_SRC.VC. -/
def F.CTX_SRC_VC (n : Nat) : Fld := ⟨0x44, 0x100 + 0x40 * n, 16, 4, .rw, 0, .w, 0, 0xF⟩
/-- CTX_SRC.DT. -/
def F.CTX_SRC_DT (n : Nat) : Fld := ⟨0x44, 0x100 + 0x40 * n, 8, 6, .rw, 0x2C, .w, 0, 0x3F⟩
/-- CTX_SRC.IN_SLOTS_M1. -/
def F.CTX_SRC_IN_SLOTS_M1 (n : Nat) : Fld := ⟨0x44, 0x100 + 0x40 * n, 4, 4, .rw, (if n = 0 then 7 else 3), .w, 1, 0xF⟩
/-- CTX_SIZE.LINES. -/
def F.CTX_SIZE_LINES (n : Nat) : Fld := ⟨0x44, 0x104 + 0x40 * n, 16, 14, .rw, 0x438, .w, 0x10, 0x2000⟩
/-- CTX_SIZE.WIDTH. -/
def F.CTX_SIZE_WIDTH (n : Nat) : Fld := ⟨0x44, 0x104 + 0x40 * n, 0, 14, .rw, 0x780, .w, 0x10, 0x2000⟩
/-- CTX_IN_BASE.BASE. -/
def F.CTX_IN_BASE_BASE (n : Nat) : Fld := ⟨0x44, 0x108 + 0x40 * n, 12, 19, .rw, 0, .w, 0, 0x7FFFF⟩
/-- CTX_TNR_BASE.BASE. -/
def F.CTX_TNR_BASE_BASE (n : Nat) : Fld := ⟨0x44, 0x120 + 0x40 * n, 12, 19, .rw, 0, .w, 0, 0x7FFFF⟩
/-- CTX_CROP_XY.Y0. -/
def F.CTX_CROP_XY_Y0 (n : Nat) : Fld := ⟨0x44, 0x10C + 0x40 * n, 16, 14, .rws, 0, .w, 0, 0x3FFF⟩
/-- CTX_CROP_XY.X0. -/
def F.CTX_CROP_XY_X0 (n : Nat) : Fld := ⟨0x44, 0x10C + 0x40 * n, 0, 14, .rws, 0, .w, 0, 0x3FFF⟩
/-- CTX_CROP_WH.H. -/
def F.CTX_CROP_WH_H (n : Nat) : Fld := ⟨0x44, 0x110 + 0x40 * n, 16, 14, .rws, (if n = 0 then 2048 else 1080), .w, 0x10, 0x3FFF⟩
/-- CTX_CROP_WH.W. -/
def F.CTX_CROP_WH_W (n : Nat) : Fld := ⟨0x44, 0x110 + 0x40 * n, 0, 14, .rws, (if n = 0 then 2560 else 1920), .w, 0x10, 0x3FFF⟩
/-- CTX_PROC.BLACK. -/
def F.CTX_PROC_BLACK (n : Nat) : Fld := ⟨0x44, 0x114 + 0x40 * n, 20, 12, .rws, 0, .w, 0, 0xFFF⟩
/-- CTX_PROC.BAYER. -/
def F.CTX_PROC_BAYER (n : Nat) : Fld := ⟨0x44, 0x114 + 0x40 * n, 18, 2, .rws, 0, .w, 0, 3⟩
/-- CTX_PROC.MONO. -/
def F.CTX_PROC_MONO (n : Nat) : Fld := ⟨0x44, 0x114 + 0x40 * n, 17, 1, .rws, 0, .w, 0, 1⟩
/-- CTX_PROC.VTAP. -/
def F.CTX_PROC_VTAP (n : Nat) : Fld := ⟨0x44, 0x114 + 0x40 * n, 16, 1, .rws, 0, .w, 0, 1⟩
/-- CTX_PROC.TONE. -/
def F.CTX_PROC_TONE (n : Nat) : Fld := ⟨0x44, 0x114 + 0x40 * n, 14, 2, .rws, 1, .w, 0, 2⟩
/-- CTX_PROC.PAL. -/
def F.CTX_PROC_PAL (n : Nat) : Fld := ⟨0x44, 0x114 + 0x40 * n, 11, 3, .rws, 0, .w, 0, 7⟩
/-- CTX_PROC.COLSET. -/
def F.CTX_PROC_COLSET (n : Nat) : Fld := ⟨0x44, 0x114 + 0x40 * n, 8, 3, .rws, 0, .w, 0, 7⟩
/-- CTX_PROC.GAMMA. -/
def F.CTX_PROC_GAMMA (n : Nat) : Fld := ⟨0x44, 0x114 + 0x40 * n, 5, 3, .rws, 0, .w, 0, 7⟩
/-- CTX_NR.TNR_K. -/
def F.CTX_NR_TNR_K (n : Nat) : Fld := ⟨0x44, 0x118 + 0x40 * n, 24, 8, .rws, 0xC0, .w, 0, 0xFF⟩
/-- CTX_NR.TNR_MOT. -/
def F.CTX_NR_TNR_MOT (n : Nat) : Fld := ⟨0x44, 0x118 + 0x40 * n, 8, 16, .rws, 0x40, .w, 0, 0xFFFF⟩
/-- CTX_NR.SNR. -/
def F.CTX_NR_SNR (n : Nat) : Fld := ⟨0x44, 0x118 + 0x40 * n, 4, 4, .rws, 2, .w, 0, 0xF⟩
/-- CTX_NR.TNR_EN. -/
def F.CTX_NR_TNR_EN (n : Nat) : Fld := ⟨0x44, 0x118 + 0x40 * n, 1, 1, .rws, 0, .w, 0, 1⟩
/-- CTX_NR.SNR_EN. -/
def F.CTX_NR_SNR_EN (n : Nat) : Fld := ⟨0x44, 0x118 + 0x40 * n, 0, 1, .rws, 0, .w, 0, 1⟩
/-- CTX_TONE_WIN.HIGH. -/
def F.CTX_TONE_WIN_HIGH (n : Nat) : Fld := ⟨0x44, 0x11C + 0x40 * n, 16, 16, .rws, 0x5C4A, .w, 0, 0xFFFF⟩
/-- CTX_TONE_WIN.LOW. -/
def F.CTX_TONE_WIN_LOW (n : Nat) : Fld := ⟨0x44, 0x11C + 0x40 * n, 0, 16, .rws, 0x4020, .w, 0, 0xFFFF⟩
/-- CTX_DISP.EN. -/
def F.CTX_DISP_EN (n : Nat) : Fld := ⟨0x44, 0x124 + 0x40 * n, 31, 1, .rws, 0, .w, 0, 1⟩
/-- CTX_DISP.FMT. -/
def F.CTX_DISP_FMT (n : Nat) : Fld := ⟨0x44, 0x124 + 0x40 * n, 29, 2, .rws, 0, .w, 0, 2⟩
/-- CTX_DISP.W. -/
def F.CTX_DISP_W (n : Nat) : Fld := ⟨0x44, 0x124 + 0x40 * n, 16, 12, .rws, 0x780, .w, 0x10, 0x780⟩
/-- CTX_DISP.H. -/
def F.CTX_DISP_H (n : Nat) : Fld := ⟨0x44, 0x124 + 0x40 * n, 0, 12, .rws, 0x438, .w, 0x10, 0x438⟩
/-- CTX_CODE.EN. -/
def F.CTX_CODE_EN (n : Nat) : Fld := ⟨0x44, 0x128 + 0x40 * n, 31, 1, .rws, 0, .w, 0, 1⟩
/-- CTX_CODE.FMT. -/
def F.CTX_CODE_FMT (n : Nat) : Fld := ⟨0x44, 0x128 + 0x40 * n, 29, 2, .rws, 0, .w, 0, 1⟩
/-- CTX_CODE.W. -/
def F.CTX_CODE_W (n : Nat) : Fld := ⟨0x44, 0x128 + 0x40 * n, 16, 12, .rws, 0x780, .w, 0x10, 0xF00⟩
/-- CTX_CODE.H. -/
def F.CTX_CODE_H (n : Nat) : Fld := ⟨0x44, 0x128 + 0x40 * n, 0, 12, .rws, 0x438, .w, 0x10, 0x870⟩
/-- CTX_VIS.EN. -/
def F.CTX_VIS_EN (n : Nat) : Fld := ⟨0x44, 0x12C + 0x40 * n, 31, 1, .rws, 0, .w, 0, 1⟩
/-- CTX_VIS.FMT. -/
def F.CTX_VIS_FMT (n : Nat) : Fld := ⟨0x44, 0x12C + 0x40 * n, 0, 2, .rws, (if n = 0 then 0 else 1), .w, 0, 3⟩
/-- CTX_TOKEN.GO. -/
def F.CTX_TOKEN_GO (n : Nat) : Fld := ⟨0x44, 0x130 + 0x40 * n, 31, 1, .wo, 0, .c, 0, 1⟩
/-- CTX_TOKEN.PENDING. -/
def F.CTX_TOKEN_PENDING (n : Nat) : Fld := ⟨0x44, 0x134 + 0x40 * n, 28, 4, .ro, 0, .c, 0, 0xF⟩
/-- CTX_TOKEN.VALUE. -/
def F.CTX_TOKEN_VALUE (n : Nat) : Fld := ⟨0x44, 0x130 + 0x40 * n, 0, 16, .rw, 0, .c, 0, 0xFFFF⟩
/-- CTX_TOKEN_STAT.VALUE. -/
def F.CTX_TOKEN_STAT_VALUE (n : Nat) : Fld := ⟨0x44, 0x134 + 0x40 * n, 0, 16, .ro, 0, .c, 0, 0xFFFF⟩
/-- CTX_FRAME_LO.NUM. -/
def F.CTX_FRAME_LO_NUM (n : Nat) : Fld := ⟨0x44, 0x138 + 0x40 * n, 0, 32, .ro, 0, .w, 0, 0xFFFFFFFF⟩
/-- CTX_FRAME_HI.NUM. -/
def F.CTX_FRAME_HI_NUM (n : Nat) : Fld := ⟨0x44, 0x13C + 0x40 * n, 0, 32, .ro, 0, .w, 0, 0xFFFFFFFF⟩
/-- STA_CFG.BASE. -/
def F.STA_CFG_BASE (n : Nat) : Fld := ⟨0x45, 0x40 + 4 * n, 16, 16, .rws, 0x3C00, .w, 0, 0xFFFF⟩
/-- STA_CFG.SHIFT. -/
def F.STA_CFG_SHIFT (n : Nat) : Fld := ⟨0x45, 0x40 + 4 * n, 0, 4, .rws, 4, .w, 0, 0xF⟩
/-- STA_LAST.CTX. -/
def F.STA_LAST_CTX : Fld := ⟨0x45, 0x60, 24, 3, .ro, 0, .c, 0, 7⟩
/-- STA_LAST.FRAME. -/
def F.STA_LAST_FRAME : Fld := ⟨0x45, 0x60, 0, 24, .ro, 0, .c, 0, 0xFFFFFF⟩
/-- OUT_BASE.BASE. -/
def F.OUT_BASE_BASE (n : Nat) : Fld := ⟨0x46, 0x40 + 4 * n, 12, 19, .rw, 0, .w, 0, 0x7FFFF⟩
/-- OUT_HOLD_CNT.COUNT. -/
def F.OUT_HOLD_CNT_COUNT : Fld := ⟨0x46, 0x60, 0, 32, .rw, 0, .w, 0, 0xFFFFFFFF⟩
/-- VTX_CTRL.SRC. -/
def F.VTX_CTRL_SRC : Fld := ⟨0x47, 8, 8, 3, .rw, 0, .w, 0, 7⟩
/-- VTX_CTRL.EMB. -/
def F.VTX_CTRL_EMB : Fld := ⟨0x47, 8, 4, 1, .rw, 1, .w, 0, 1⟩
/-- VTX_CTRL.LSLE. -/
def F.VTX_CTRL_LSLE : Fld := ⟨0x47, 8, 3, 1, .rw, 0, .w, 0, 1⟩
/-- VTX_CTRL.CONTCLK. -/
def F.VTX_CTRL_CONTCLK : Fld := ⟨0x47, 8, 2, 1, .rw, 0, .w, 0, 1⟩
/-- VTX_CTRL.EN. -/
def F.VTX_CTRL_EN : Fld := ⟨0x47, 8, 0, 1, .rw, 0, .c, 0, 1⟩
/-- VTX_PHY.RATE. -/
def F.VTX_PHY_RATE : Fld := ⟨0x47, 0x40, 16, 12, .rw, 0x5DC, .p, 0x50, 0x9C4⟩
/-- VTX_PHY.LANES. -/
def F.VTX_PHY_LANES : Fld := ⟨0x47, 0x40, 0, 2, .rw, 2, .p, 0, 2⟩
/-- VTX_PKT.VC. -/
def F.VTX_PKT_VC : Fld := ⟨0x47, 0x44, 0, 4, .rw, 0, .w, 0, 0xF⟩
/-- VTX_STAT.SKIPPED. -/
def F.VTX_STAT_SKIPPED : Fld := ⟨0x47, 0x48, 16, 16, .rw, 0, .w, 0, 0xFFFF⟩
/-- VTX_STAT.SENT. -/
def F.VTX_STAT_SENT : Fld := ⟨0x47, 0x48, 0, 16, .rw, 0, .w, 0, 0xFFFF⟩
/-! ### 07_evidence_frames.md -/

/-- EVD_CTRL.MIRROR. -/
def F.EVD_CTRL_MIRROR : Fld := ⟨0x50, 8, 2, 1, .rw, 1, .p, 0, 1⟩
/-- EVD_CTRL.CLOSED. -/
def F.EVD_CTRL_CLOSED : Fld := ⟨0x50, 8, 1, 1, .ro, 0, .c, 0, 1⟩
/-- EVD_CTRL.EN. -/
def F.EVD_CTRL_EN : Fld := ⟨0x50, 8, 0, 1, .rw, 0, .c, 0, 1⟩
/-- EVD_ESN_LO.ESN. -/
def F.EVD_ESN_LO_ESN : Fld := ⟨0x50, 0x40, 0, 32, .ro, 0, .w, 0, 0xFFFFFFFF⟩
/-- EVD_ESN_HI.ESN. -/
def F.EVD_ESN_HI_ESN : Fld := ⟨0x50, 0x44, 0, 32, .ro, 0, .w, 0, 0xFFFFFFFF⟩
/-- EVD_LIMIT_LO.LIMIT. -/
def F.EVD_LIMIT_LO_LIMIT : Fld := ⟨0x50, 0x48, 0, 32, .ro, 0, .w, 0, 0xFFFFFFFF⟩
/-- EVD_LIMIT_HI.LIMIT. -/
def F.EVD_LIMIT_HI_LIMIT : Fld := ⟨0x50, 0x4C, 0, 32, .ro, 0, .w, 0, 0xFFFFFFFF⟩
/-- EVD_SESSION.SESSION. -/
def F.EVD_SESSION_SESSION : Fld := ⟨0x50, 0x50, 0, 32, .ro, 0, .p, 0, 0xFFFFFFFF⟩
/-- EVD_EPOCH.WAITING. -/
def F.EVD_EPOCH_WAITING : Fld := ⟨0x50, 0x54, 31, 1, .ro, 0, .w, 0, 1⟩
/-- EVD_EPOCH.EPOCH. -/
def F.EVD_EPOCH_EPOCH : Fld := ⟨0x50, 0x54, 0, 31, .ro, 0, .w, 0, 0x7FFFFFFF⟩
/-- EVD_START.NOKEY. -/
def F.EVD_START_NOKEY : Fld := ⟨0x50, 0x58, 2, 1, .ro, 0, .w, 0, 1⟩
/-- EVD_START.KIND. -/
def F.EVD_START_KIND : Fld := ⟨0x50, 0x58, 0, 2, .ro, 0, .w, 0, 3⟩
/-- EVD_SEAL_BASE.BASE. -/
def F.EVD_SEAL_BASE_BASE : Fld := ⟨0x50, 0x5C, 12, 19, .rw, 0, .w, 0, 0x7FFFF⟩
/-- EVD_SEAL_IDX.EPOCH. -/
def F.EVD_SEAL_IDX_EPOCH : Fld := ⟨0x50, 0x60, 8, 24, .ro, 0, .w, 0, 0xFFFFFF⟩
/-- EVD_SEAL_IDX.TYPE. -/
def F.EVD_SEAL_IDX_TYPE : Fld := ⟨0x50, 0x60, 4, 3, .ro, 0, .w, 0, 7⟩
/-- EVD_SEAL_IDX.SLOT. -/
def F.EVD_SEAL_IDX_SLOT : Fld := ⟨0x50, 0x60, 0, 4, .ro, 0, .w, 0, 0xF⟩
/-- EVD_STARVE.COUNT. -/
def F.EVD_STARVE_COUNT : Fld := ⟨0x50, 0x64, 0, 16, .rw, 0, .w, 0, 0xFFFF⟩
/-- EVD_CLOSE.DONE. -/
def F.EVD_CLOSE_DONE : Fld := ⟨0x50, 0x68, 31, 1, .ro, 0, .w, 0, 1⟩
/-- EVD_CLOSE.TIME. -/
def F.EVD_CLOSE_TIME : Fld := ⟨0x50, 0x68, 0, 13, .ro, 0, .w, 0, 0x1FFF⟩
/-- CRY_STATE.RNG_OK. -/
def F.CRY_STATE_RNG_OK : Fld := ⟨0x51, 0x40, 2, 1, .ro, 0, .c, 0, 1⟩
/-- CRY_STATE.TEST_OK. -/
def F.CRY_STATE_TEST_OK : Fld := ⟨0x51, 0x40, 1, 1, .ro, 0, .c, 0, 1⟩
/-- CRY_STATE.KEY. -/
def F.CRY_STATE_KEY : Fld := ⟨0x51, 0x40, 0, 1, .ro, 0, .a, 0, 1⟩
/-- CRY_PUBX.WORD. -/
def F.CRY_PUBX_WORD (n : Nat) : Fld := ⟨0x51, 0x44 + 4 * n, 0, 32, .ro, 0, .a, 0, 0xFFFFFFFF⟩
/-- CRY_PUBY.WORD. -/
def F.CRY_PUBY_WORD (n : Nat) : Fld := ⟨0x51, 0x64 + 4 * n, 0, 32, .ro, 0, .a, 0, 0xFFFFFFFF⟩
/-- CRY_CERT_LEN.LEN. -/
def F.CRY_CERT_LEN_LEN : Fld := ⟨0x51, 0x84, 0, 12, .ro, 0, .p, 0, 0xFFF⟩
/-- CRY_CERT_IDX.IDX. -/
def F.CRY_CERT_IDX_IDX : Fld := ⟨0x51, 0x88, 0, 9, .rw, 0, .c, 0, 0x1FF⟩
/-- CRY_CERT_DATA.DATA. -/
def F.CRY_CERT_DATA_DATA : Fld := ⟨0x51, 0x8C, 0, 32, .ro, 0, .c, 0, 0xFFFFFFFF⟩
/-- CRY_SIGN.COUNT. -/
def F.CRY_SIGN_COUNT : Fld := ⟨0x51, 0x90, 16, 16, .rw, 0, .w, 0, 0xFFFF⟩
/-- CRY_SIGN.TIME. -/
def F.CRY_SIGN_TIME : Fld := ⟨0x51, 0x90, 0, 16, .ro, 0, .c, 0, 0xFFFF⟩
/-! ### 08_field_converter.md -/

/-- FCV_CTRL.QINV. -/
def F.FCV_CTRL_QINV : Fld := ⟨0x38, 8, 1, 1, .rw, 0, .w, 0, 1⟩
/-- FCV_CTRL.EN. -/
def F.FCV_CTRL_EN : Fld := ⟨0x38, 8, 0, 1, .rw, 0, .c, 0, 1⟩
/-- FCV_CFG.LPCORE. -/
def F.FCV_CFG_LPCORE : Fld := ⟨0x38, 0x40, 9, 1, .rw, 0, .w, 0, 1⟩
/-- FCV_CFG.LPM. -/
def F.FCV_CFG_LPM : Fld := ⟨0x38, 0x40, 8, 1, .rw, 0, .w, 0, 1⟩
/-- FCV_CFG.PACE_M1. -/
def F.FCV_CFG_PACE_M1 : Fld := ⟨0x38, 0x40, 0, 8, .rw, 1, .w, 0, 0xFF⟩
/-- FCV_MAIN.GO. -/
def F.FCV_MAIN_GO : Fld := ⟨0x38, 0x44, 31, 1, .wo, 0, .c, 0, 1⟩
/-- FCV_MAIN.STOP. -/
def F.FCV_MAIN_STOP : Fld := ⟨0x38, 0x44, 30, 1, .wo, 0, .c, 0, 1⟩
/-- FCV_MAIN.START. -/
def F.FCV_MAIN_START : Fld := ⟨0x38, 0x44, 8, 6, .rw, 0, .w, 0, 0x3F⟩
/-- FCV_MAIN.MODE. -/
def F.FCV_MAIN_MODE : Fld := ⟨0x38, 0x44, 0, 2, .rw, 0, .w, 0, 3⟩
/-- FCV_PERIOD.PERIOD. -/
def F.FCV_PERIOD_PERIOD : Fld := ⟨0x38, 0x48, 0, 20, .rw, 0x3E8, .w, 1, 0xFFFFF⟩
/-- FCV_TRIG.DELAY. -/
def F.FCV_TRIG_DELAY : Fld := ⟨0x38, 0x4C, 16, 16, .rw, 0, .w, 0, 0xFFFF⟩
/-- FCV_TRIG.DEST. -/
def F.FCV_TRIG_DEST : Fld := ⟨0x38, 0x4C, 2, 1, .rw, 0, .w, 0, 1⟩
/-- FCV_TRIG.EDGE. -/
def F.FCV_TRIG_EDGE : Fld := ⟨0x38, 0x4C, 0, 2, .rw, 0, .w, 0, 3⟩
/-- FCV_URG.GO. -/
def F.FCV_URG_GO : Fld := ⟨0x38, 0x50, 31, 1, .wo, 0, .c, 0, 1⟩
/-- FCV_URG.START. -/
def F.FCV_URG_START : Fld := ⟨0x38, 0x50, 0, 6, .rw, 0, .w, 0, 0x3F⟩
/-- FCV_STATE.URG. -/
def F.FCV_STATE_URG : Fld := ⟨0x38, 0x54, 27, 2, .ro, 0, .c, 0, 3⟩
/-- FCV_STATE.MAIN. -/
def F.FCV_STATE_MAIN : Fld := ⟨0x38, 0x54, 24, 3, .ro, 0, .c, 0, 7⟩
/-- FCV_STATE.ENTRY. -/
def F.FCV_STATE_ENTRY : Fld := ⟨0x38, 0x54, 0, 6, .ro, 0, .c, 0, 0x3F⟩
/-- FCV_QCFG.WMARK. -/
def F.FCV_QCFG_WMARK : Fld := ⟨0x38, 0x58, 0, 8, .rw, 0x80, .w, 1, 0xFF⟩
/-- FCV_QSTAT.LOST. -/
def F.FCV_QSTAT_LOST : Fld := ⟨0x38, 0x5C, 16, 16, .rw, 0, .w, 0, 0xFFFF⟩
/-- FCV_QSTAT.FILL. -/
def F.FCV_QSTAT_FILL : Fld := ⟨0x38, 0x5C, 0, 9, .ro, 0, .c, 0, 0x1FF⟩
/-- FCV_Q_LO.ENTRY. -/
def F.FCV_Q_LO_ENTRY : Fld := ⟨0x38, 0x60, 0, 32, .ro, 0, .c, 0, 0xFFFFFFFF⟩
/-- FCV_Q_HI.ENTRY. -/
def F.FCV_Q_HI_ENTRY : Fld := ⟨0x38, 0x64, 0, 32, .ro, 0, .c, 0, 0xFFFFFFFF⟩
/-- FCV_CNT1.OVERRUN. -/
def F.FCV_CNT1_OVERRUN : Fld := ⟨0x38, 0x68, 16, 16, .rw, 0, .w, 0, 0xFFFF⟩
/-- FCV_CNT1.TRIG_MISS. -/
def F.FCV_CNT1_TRIG_MISS : Fld := ⟨0x38, 0x68, 0, 16, .rw, 0, .w, 0, 0xFFFF⟩
/-- FCV_CNT2.URG_MERGED. -/
def F.FCV_CNT2_URG_MERGED : Fld := ⟨0x38, 0x6C, 0, 16, .rw, 0, .w, 0, 0xFFFF⟩
/-- FCV_CHCFG.AVG_SHIFT. -/
def F.FCV_CHCFG_AVG_SHIFT (n : Nat) : Fld := ⟨0x38, 0x80 + 4 * n, 16, 4, .rw, 0, .w, 0, 8⟩
/-- FCV_CHCFG.AVG_CNT_M1. -/
def F.FCV_CHCFG_AVG_CNT_M1 (n : Nat) : Fld := ⟨0x38, 0x80 + 4 * n, 8, 8, .rw, 0, .w, 0, 0xFF⟩
/-- FCV_CHCFG.SETTLE_CNT. -/
def F.FCV_CHCFG_SETTLE_CNT (n : Nat) : Fld := ⟨0x38, 0x80 + 4 * n, 4, 4, .rw, 0, .w, 0, 0xF⟩
/-- FCV_CHCFG.GAIN. -/
def F.FCV_CHCFG_GAIN (n : Nat) : Fld := ⟨0x38, 0x80 + 4 * n, 0, 3, .rw, 0, .w, 0, 5⟩
/-- FCV_SEQ.LAST. -/
def F.FCV_SEQ_LAST (n : Nat) : Fld := ⟨0x38, 0x100 + 4 * n, 31, 1, .rw, 1, .w, 0, 1⟩
/-- FCV_SEQ.QUEUE. -/
def F.FCV_SEQ_QUEUE (n : Nat) : Fld := ⟨0x38, 0x100 + 4 * n, 30, 1, .rw, 1, .w, 0, 1⟩
/-- FCV_SEQ.DIFF. -/
def F.FCV_SEQ_DIFF (n : Nat) : Fld := ⟨0x38, 0x100 + 4 * n, 29, 1, .rw, 0, .w, 0, 1⟩
/-- FCV_SEQ.CH. -/
def F.FCV_SEQ_CH (n : Nat) : Fld := ⟨0x38, 0x100 + 4 * n, 0, 5, .rw, 0, .w, 0, 0x1F⟩
/-- FCV_RES.VALID. -/
def F.FCV_RES_VALID (n : Nat) : Fld := ⟨0x38, 0x200 + 4 * n, 31, 1, .ro, 0, .c, 0, 1⟩
/-- FCV_RES.PARTIAL. -/
def F.FCV_RES_PARTIAL (n : Nat) : Fld := ⟨0x38, 0x200 + 4 * n, 30, 1, .ro, 0, .c, 0, 1⟩
/-- FCV_RES.OVR. -/
def F.FCV_RES_OVR (n : Nat) : Fld := ⟨0x38, 0x200 + 4 * n, 29, 1, .ro, 0, .c, 0, 1⟩
/-- FCV_RES.NEW. -/
def F.FCV_RES_NEW (n : Nat) : Fld := ⟨0x38, 0x200 + 4 * n, 24, 4, .ro, 0, .c, 0, 0xF⟩
/-- FCV_RES.GAIN. -/
def F.FCV_RES_GAIN (n : Nat) : Fld := ⟨0x38, 0x200 + 4 * n, 16, 3, .ro, 0, .c, 0, 7⟩
/-- FCV_RES.VALUE. -/
def F.FCV_RES_VALUE (n : Nat) : Fld := ⟨0x38, 0x200 + 4 * n, 0, 16, .ro, 0, .c, 0, 0xFFFF⟩
/-- FCV_WIN_CFG.HYST. -/
def F.FCV_WIN_CFG_HYST (n : Nat) : Fld := ⟨0x38, 0x280 + 8 * n, 16, 16, .rw, 0, .w, 0, 0xFFFF⟩
/-- FCV_WIN_CFG.CH. -/
def F.FCV_WIN_CFG_CH (n : Nat) : Fld := ⟨0x38, 0x280 + 8 * n, 8, 5, .rw, 0, .w, 0, 0x1F⟩
/-- FCV_WIN_CFG.OUTSIDE. -/
def F.FCV_WIN_CFG_OUTSIDE (n : Nat) : Fld := ⟨0x38, 0x280 + 8 * n, 1, 1, .ro, 0, .c, 0, 1⟩
/-- FCV_WIN_CFG.EN. -/
def F.FCV_WIN_CFG_EN (n : Nat) : Fld := ⟨0x38, 0x280 + 8 * n, 0, 1, .rw, 0, .w, 0, 1⟩
/-- FCV_WIN_LIM.HIGH. -/
def F.FCV_WIN_LIM_HIGH (n : Nat) : Fld := ⟨0x38, 0x284 + 8 * n, 16, 16, .rw, 0xFFFF, .w, 0, 0xFFFF⟩
/-- FCV_WIN_LIM.LOW. -/
def F.FCV_WIN_LIM_LOW (n : Nat) : Fld := ⟨0x38, 0x284 + 8 * n, 0, 16, .rw, 0, .w, 0, 0xFFFF⟩
/-! ### 09_loops_pwm_and_lamps.md -/

/-- LPC_RUN.MFAULT. -/
def F.LPC_RUN_MFAULT : Fld := ⟨0x39, 0x40, 16, 16, .ro, 0, .c, 0, 0xFFFF⟩
/-- LPC_RUN.RUN. -/
def F.LPC_RUN_RUN : Fld := ⟨0x39, 0x40, 0, 16, .ro, 0, .c, 0, 0xFFFF⟩
/-- LPC_TRIP.TMO. -/
def F.LPC_TRIP_TMO : Fld := ⟨0x39, 0x44, 16, 16, .w1c, 0, .c, 0, 0xFFFF⟩
/-- LPC_TRIP.TRIP. -/
def F.LPC_TRIP_TRIP : Fld := ⟨0x39, 0x44, 0, 16, .w1c, 0, .w, 0, 0xFFFF⟩
/-- LPC_LOAD.OVERRUNS. -/
def F.LPC_LOAD_OVERRUNS : Fld := ⟨0x39, 0x48, 16, 16, .rw, 0, .w, 0, 0xFFFF⟩
/-- LPC_LOAD.BUSY. -/
def F.LPC_LOAD_BUSY : Fld := ⟨0x39, 0x48, 0, 10, .ro, 0, .c, 0, 0x3FF⟩
/-- LPC_HOLD_TMO.TMO. -/
def F.LPC_HOLD_TMO_TMO : Fld := ⟨0x39, 0x4C, 0, 16, .rw, 0x32, .p, 5, 0xFFFF⟩
/-- LOOP_CFG.EN. -/
def F.LOOP_CFG_EN (n : Nat) : Fld := ⟨0x39, 0x100 + 0x40 * n, 31, 1, .rw, 0, .p, 0, 1⟩
/-- LOOP_CFG.KIND. -/
def F.LOOP_CFG_KIND (n : Nat) : Fld := ⟨0x39, 0x100 + 0x40 * n, 28, 3, .rw, 0, .p, 0, 2⟩
/-- LOOP_CFG.FAULT_ACT. -/
def F.LOOP_CFG_FAULT_ACT (n : Nat) : Fld := ⟨0x39, 0x100 + 0x40 * n, 26, 2, .rw, 2, .p, 0, 2⟩
/-- LOOP_CFG.SRC. -/
def F.LOOP_CFG_SRC (n : Nat) : Fld := ⟨0x39, 0x100 + 0x40 * n, 24, 2, .rw, 0, .p, 0, 3⟩
/-- LOOP_CFG.CURVE. -/
def F.LOOP_CFG_CURVE (n : Nat) : Fld := ⟨0x39, 0x100 + 0x40 * n, 20, 4, .rw, 8, .p, 0, 8⟩
/-- LOOP_CFG.STALE_MAX. -/
def F.LOOP_CFG_STALE_MAX (n : Nat) : Fld := ⟨0x39, 0x100 + 0x40 * n, 16, 4, .rw, 3, .p, 0, 0xF⟩
/-- LOOP_CFG.SEL. -/
def F.LOOP_CFG_SEL (n : Nat) : Fld := ⟨0x39, 0x100 + 0x40 * n, 8, 5, .rw, 0, .p, 0, 0x1F⟩
/-- LOOP_CFG.OUT. -/
def F.LOOP_CFG_OUT (n : Nat) : Fld := ⟨0x39, 0x100 + 0x40 * n, 0, 4, .rw, 0, .p, 0, 0xF⟩
/-- LOOP_PERIOD.PERIOD. -/
def F.LOOP_PERIOD_PERIOD (n : Nat) : Fld := ⟨0x39, 0x104 + 0x40 * n, 0, 20, .rw, 0x186A0, .p, 0x64, 0xF4240⟩
/-- LOOP_SP.VALUE. -/
def F.LOOP_SP_VALUE (n : Nat) : Fld := ⟨0x39, 0x108 + 0x40 * n, 0, 32, .rw, 0, .p, 0, 0xFFFFFFFF⟩
/-- LOOP_SLEW.VALUE. -/
def F.LOOP_SLEW_VALUE (n : Nat) : Fld := ⟨0x39, 0x10C + 0x40 * n, 0, 32, .rw, 0, .p, 0, 0xFFFFFFFF⟩
/-- LOOP_KPKI.KP. -/
def F.LOOP_KPKI_KP (n : Nat) : Fld := ⟨0x39, 0x110 + 0x40 * n, 16, 16, .rw, 0, .p, 0, 0xFFFF⟩
/-- LOOP_KPKI.KI. -/
def F.LOOP_KPKI_KI (n : Nat) : Fld := ⟨0x39, 0x110 + 0x40 * n, 0, 16, .rw, 0, .p, 0, 0xFFFF⟩
/-- LOOP_KD.KD. -/
def F.LOOP_KD_KD (n : Nat) : Fld := ⟨0x39, 0x114 + 0x40 * n, 16, 16, .rw, 0, .p, 0, 0xFFFF⟩
/-- LOOP_KD.GSHIFT. -/
def F.LOOP_KD_GSHIFT (n : Nat) : Fld := ⟨0x39, 0x114 + 0x40 * n, 0, 5, .rw, 8, .p, 0, 0x1F⟩
/-- LOOP_DLIM.DMAX. -/
def F.LOOP_DLIM_DMAX (n : Nat) : Fld := ⟨0x39, 0x118 + 0x40 * n, 16, 16, .rw, 0, .p, 0, 0xFFFF⟩
/-- LOOP_DLIM.DMIN. -/
def F.LOOP_DLIM_DMIN (n : Nat) : Fld := ⟨0x39, 0x118 + 0x40 * n, 0, 16, .rw, 0, .p, 0, 0xFFFF⟩
/-- LOOP_SAFE_IMAX.SAFE. -/
def F.LOOP_SAFE_IMAX_SAFE (n : Nat) : Fld := ⟨0x39, 0x11C + 0x40 * n, 16, 16, .rw, 0, .p, 0, 0xFFFF⟩
/-- LOOP_SAFE_IMAX.IMAX. -/
def F.LOOP_SAFE_IMAX_IMAX (n : Nat) : Fld := ⟨0x39, 0x11C + 0x40 * n, 0, 15, .rw, 0x7FFF, .p, 0, 0x7FFF⟩
/-- LOOP_MLO.LIMIT. -/
def F.LOOP_MLO_LIMIT (n : Nat) : Fld := ⟨0x39, 0x120 + 0x40 * n, 0, 32, .rw, 0x80000000, .p, 0, 0xFFFFFFFF⟩
/-- LOOP_MHI.LIMIT. -/
def F.LOOP_MHI_LIMIT (n : Nat) : Fld := ⟨0x39, 0x124 + 0x40 * n, 0, 32, .rw, 0x7FFFFFFF, .p, 0, 0xFFFFFFFF⟩
/-- LOOP_MTRIP.LIMIT. -/
def F.LOOP_MTRIP_LIMIT (n : Nat) : Fld := ⟨0x39, 0x128 + 0x40 * n, 0, 32, .rw, 0x7FFFFFFF, .p, 0, 0xFFFFFFFF⟩
/-- LOOP_HOSTM.M. -/
def F.LOOP_HOSTM_M (n : Nat) : Fld := ⟨0x39, 0x12C + 0x40 * n, 0, 32, .rw, 0, .c, 0, 0xFFFFFFFF⟩
/-- LOOP_M.VALUE. -/
def F.LOOP_M_VALUE (n : Nat) : Fld := ⟨0x39, 0x130 + 0x40 * n, 0, 32, .ro, 0, .c, 0, 0xFFFFFFFF⟩
/-- LOOP_I.VALUE. -/
def F.LOOP_I_VALUE (n : Nat) : Fld := ⟨0x39, 0x138 + 0x40 * n, 0, 32, .ro, 0, .w, 0, 0xFFFFFFFF⟩
/-- LOOP_SPE.VALUE. -/
def F.LOOP_SPE_VALUE (n : Nat) : Fld := ⟨0x39, 0x13C + 0x40 * n, 0, 32, .ro, 0, .c, 0, 0xFFFFFFFF⟩
/-- LOOP_U.U. -/
def F.LOOP_U_U (n : Nat) : Fld := ⟨0x39, 0x134 + 0x40 * n, 16, 16, .ro, 0, .c, 0, 0xFFFF⟩
/-- LOOP_U.STALE. -/
def F.LOOP_U_STALE (n : Nat) : Fld := ⟨0x39, 0x134 + 0x40 * n, 4, 4, .ro, 0, .c, 0, 0xF⟩
/-- LOOP_U.SAT. -/
def F.LOOP_U_SAT (n : Nat) : Fld := ⟨0x39, 0x134 + 0x40 * n, 3, 1, .ro, 0, .c, 0, 1⟩
/-- LPC_CURVE.POINT. -/
def F.LPC_CURVE_POINT (n k : Nat) : Fld := ⟨0x39, 0x600 + 0x80 * n + 4 * k, 0, 32, .rw, 0, .p, 0, 0xFFFFFFFF⟩
/-- PWM_START.START. -/
def F.PWM_START_START : Fld := ⟨0x3A, 0x40, 0, 8, .wo, 0, .c, 0, 0xFF⟩
/-- PWM_SAFE.SAFE. -/
def F.PWM_SAFE_SAFE : Fld := ⟨0x3A, 0x44, 0, 16, .w1s, 0, .a, 0, 0xFFFF⟩
/-- PWM_OWN.OWN. -/
def F.PWM_OWN_OWN (j : Nat) : Fld := ⟨0x3A, 0x48, 2 * j, 2, .ro, 0, .c, 0, 3⟩
/-- PWM_PAIR_CFG.DT. -/
def F.PWM_PAIR_CFG_DT (n : Nat) : Fld := ⟨0x3A, 0x80 + 8 * n, 24, 8, .rw, 0x19, .p, 0, 0xFF⟩
/-- PWM_PAIR_CFG.MODE. -/
def F.PWM_PAIR_CFG_MODE (n : Nat) : Fld := ⟨0x3A, 0x80 + 8 * n, 16, 2, .rw, 0, .p, 0, 2⟩
/-- PWM_PAIR_CFG.PHASE. -/
def F.PWM_PAIR_CFG_PHASE (n : Nat) : Fld := ⟨0x3A, 0x80 + 8 * n, 8, 8, .rw, 0, .p, 0, 0xFF⟩
/-- PWM_PAIR_PER.PER_M1. -/
def F.PWM_PAIR_PER_PER_M1 (n : Nat) : Fld := ⟨0x3A, 0x84 + 8 * n, 0, 24, .rw, 0x61A7, .p, 0xF, 0xFFFFFF⟩
/-- PWM_DUTY.SIGN. -/
def F.PWM_DUTY_SIGN (n : Nat) : Fld := ⟨0x3A, 0xC0 + 4 * n, 31, 1, .rw, 0, .c, 0, 1⟩
/-- PWM_DUTY.HIGH. -/
def F.PWM_DUTY_HIGH (n : Nat) : Fld := ⟨0x3A, 0xC0 + 4 * n, 4, 24, .rw, 0, .c, 0, 0xFFFFFF⟩
/-- PWM_DUTY.FRAC. -/
def F.PWM_DUTY_FRAC (n : Nat) : Fld := ⟨0x3A, 0xC0 + 4 * n, 0, 4, .rw, 0, .c, 0, 0xF⟩
/-- LED_SYNC.ARM. -/
def F.LED_SYNC_ARM : Fld := ⟨0x3B, 0x40, 31, 1, .wo, 0, .c, 0, 1⟩
/-- LED_SYNC.COUNT. -/
def F.LED_SYNC_COUNT : Fld := ⟨0x3B, 0x40, 0, 16, .rw, 0, .c, 0, 0xFFFF⟩
/-- LED_FAULT.SHORT. -/
def F.LED_FAULT_SHORT : Fld := ⟨0x3B, 0x44, 16, 12, .w1c, 0, .c, 0, 0xFFF⟩
/-- LED_FAULT.OPEN. -/
def F.LED_FAULT_OPEN : Fld := ⟨0x3B, 0x44, 0, 12, .w1c, 0, .c, 0, 0xFFF⟩
/-- LED_BINTAB.FACTOR. -/
def F.LED_BINTAB_FACTOR (n : Nat) : Fld := ⟨0x3B, 0x80 + 4 * n, 0, 16, .rw, 0x8000, .p, 0, 0xFFFF⟩
/-- LED_CFG.MODE. -/
def F.LED_CFG_MODE (n : Nat) : Fld := ⟨0x3B, 0x100 + 0x20 * n, 30, 2, .rws, 0, .p, 0, 2⟩
/-- LED_CFG.DRIVE. -/
def F.LED_CFG_DRIVE (n : Nat) : Fld := ⟨0x3B, 0x100 + 0x20 * n, 29, 1, .rws, 0, .p, 0, 1⟩
/-- LED_CFG.CURVE. -/
def F.LED_CFG_CURVE (n : Nat) : Fld := ⟨0x3B, 0x100 + 0x20 * n, 24, 2, .rws, 1, .p, 0, 2⟩
/-- LED_CFG.BIN. -/
def F.LED_CFG_BIN (n : Nat) : Fld := ⟨0x3B, 0x100 + 0x20 * n, 20, 4, .rws, 0, .p, 0, 0xF⟩
/-- LED_CFG.REF. -/
def F.LED_CFG_REF (n : Nat) : Fld := ⟨0x3B, 0x100 + 0x20 * n, 12, 4, .rws, 0, .p, 0, 6⟩
/-- LED_CFG.REFVC. -/
def F.LED_CFG_REFVC (n : Nat) : Fld := ⟨0x3B, 0x100 + 0x20 * n, 8, 4, .rws, 0, .p, 0, 0xF⟩
/-- LED_LEVEL.FADE. -/
def F.LED_LEVEL_FADE (n : Nat) : Fld := ⟨0x3B, 0x104 + 0x20 * n, 16, 16, .rws, 0, .c, 0, 0xFFFF⟩
/-- LED_LEVEL.B. -/
def F.LED_LEVEL_B (n : Nat) : Fld := ⟨0x3B, 0x104 + 0x20 * n, 0, 12, .rws, 0, .c, 0, 0xFFF⟩
/-- LED_CUR.CODE. -/
def F.LED_CUR_CODE (n : Nat) : Fld := ⟨0x3B, 0x108 + 0x20 * n, 0, 12, .rws, 0, .p, 0, 0xFFF⟩
/-- LED_STROBE.VALUE. -/
def F.LED_STROBE_VALUE (n : Nat) : Fld := ⟨0x3B, 0x10C + 0x20 * n, 0, 20, .rws, 0, .p, 0, 0xFFFF⟩
/-- LED_SDELAY.VALUE. -/
def F.LED_SDELAY_VALUE (n : Nat) : Fld := ⟨0x3B, 0x110 + 0x20 * n, 0, 20, .rws, 0, .p, 0, 0xF4240⟩
/-- LED_STAT.FADING. -/
def F.LED_STAT_FADING (n : Nat) : Fld := ⟨0x3B, 0x114 + 0x20 * n, 31, 1, .ro, 0, .c, 0, 1⟩
/-- LED_STAT.ON. -/
def F.LED_STAT_ON (n : Nat) : Fld := ⟨0x3B, 0x114 + 0x20 * n, 30, 1, .ro, 0, .c, 0, 1⟩
/-- LED_STAT.FAULT. -/
def F.LED_STAT_FAULT (n : Nat) : Fld := ⟨0x3B, 0x114 + 0x20 * n, 28, 2, .ro, 0, .c, 0, 3⟩
/-- LED_STAT.B. -/
def F.LED_STAT_B (n : Nat) : Fld := ⟨0x3B, 0x114 + 0x20 * n, 0, 12, .ro, 0, .c, 0, 0xFFF⟩
/-- LED_SNS.SNS. -/
def F.LED_SNS_SNS (n : Nat) : Fld := ⟨0x3B, 0x118 + 0x20 * n, 0, 12, .ro, 0, .c, 0, 0xFFF⟩
/-! ### 10_thermal_management.md -/

/-- THM_CTRL.EN. -/
def F.THM_CTRL_EN : Fld := ⟨5, 8, 0, 1, .rw, 1, .c, 0, 1⟩
/-- THM_SENS.VALID. -/
def F.THM_SENS_VALID (n : Nat) : Fld := ⟨5, 0x40 + 4 * n, 31, 1, .ro, 0, .c, 0, 1⟩
/-- THM_SENS.FAIL. -/
def F.THM_SENS_FAIL (n : Nat) : Fld := ⟨5, 0x40 + 4 * n, 30, 1, .ro, 0, .c, 0, 1⟩
/-- THM_SENS.CAUSE. -/
def F.THM_SENS_CAUSE (n : Nat) : Fld := ⟨5, 0x40 + 4 * n, 28, 2, .ro, 0, .c, 0, 3⟩
/-- THM_SENS.ACKED. -/
def F.THM_SENS_ACKED (n : Nat) : Fld := ⟨5, 0x40 + 4 * n, 27, 1, .ro, 0, .c, 0, 1⟩
/-- THM_SENS.TEMP. -/
def F.THM_SENS_TEMP (n : Nat) : Fld := ⟨5, 0x40 + 4 * n, 0, 20, .ro, 0, .c, 0, 0xFFFFF⟩
/-- THM_DIODE.EN. -/
def F.THM_DIODE_EN (n : Nat) : Fld := ⟨5, 0x70 + 4 * n, 31, 1, .rw, 1, .p, 0, 1⟩
/-- THM_DIODE.OFFSET. -/
def F.THM_DIODE_OFFSET (n : Nat) : Fld := ⟨5, 0x70 + 4 * n, 8, 8, .rw, 0, .p, 0, 0xFF⟩
/-- THM_DIODE.IDEAL. -/
def F.THM_DIODE_IDEAL (n : Nat) : Fld := ⟨5, 0x70 + 4 * n, 0, 8, .rw, 0, .p, 0, 0xFF⟩
/-- THM_ZONE_CFG.EN, which zone 0 only shows. -/
def F.THM_ZONE_CFG_EN (n : Nat) : Fld := ⟨5, 0xA0 + 0x10 * n, 31, 1, (if n = 0 then .ro else .rw), (if n < 2 then 1 else 0), .p, 0, 1⟩
/-- THM_ZONE_CFG.SPARE. -/
def F.THM_ZONE_CFG_SPARE (n : Nat) : Fld := ⟨5, 0xA0 + 0x10 * n, 24, 4, .rw, 0xF, .p, 0, 0xF⟩
/-- THM_ZONE_CFG.MASK, which zone 0 only shows. -/
def F.THM_ZONE_CFG_MASK (n : Nat) : Fld := ⟨5, 0xA0 + 0x10 * n, 0, 10, (if n = 0 then .ro else .rw), (if n = 0 then 0x3C0 else if n = 1 then 0x030 else 0), .p, 0, 0x3FF⟩
/-- THM_ZONE_THR.WARN. -/
def F.THM_ZONE_THR_WARN (n : Nat) : Fld := ⟨5, 0xA4 + 0x10 * n, 24, 8, .rw, (if n = 0 then 100 else 85), .p, 0, 0xFF⟩
/-- THM_ZONE_THR.THROT. -/
def F.THM_ZONE_THR_THROT (n : Nat) : Fld := ⟨5, 0xA4 + 0x10 * n, 16, 8, .rw, (if n = 0 then 105 else 95), .p, 0, 0xFF⟩
/-- THM_ZONE_THR.SHUT. -/
def F.THM_ZONE_THR_SHUT (n : Nat) : Fld := ⟨5, 0xA4 + 0x10 * n, 8, 8, .rw, (if n = 0 then 115 else 110), .p, 0, 0xFF⟩
/-- THM_ZONE_THR.HYST. -/
def F.THM_ZONE_THR_HYST (n : Nat) : Fld := ⟨5, 0xA4 + 0x10 * n, 0, 8, .rw, 5, .p, 1, 0x14⟩
/-- THM_ZONE_STAT.WARN. -/
def F.THM_ZONE_STAT_WARN (n : Nat) : Fld := ⟨5, 0xA8 + 0x10 * n, 31, 1, .ro, 0, .c, 0, 1⟩
/-- THM_ZONE_STAT.THROT. -/
def F.THM_ZONE_STAT_THROT (n : Nat) : Fld := ⟨5, 0xA8 + 0x10 * n, 30, 1, .ro, 0, .c, 0, 1⟩
/-- THM_ZONE_STAT.HELD. -/
def F.THM_ZONE_STAT_HELD (n : Nat) : Fld := ⟨5, 0xA8 + 0x10 * n, 29, 1, .ro, 0, .c, 0, 1⟩
/-- THM_ZONE_STAT.NOSENSOR. -/
def F.THM_ZONE_STAT_NOSENSOR (n : Nat) : Fld := ⟨5, 0xA8 + 0x10 * n, 28, 1, .ro, 0, .c, 0, 1⟩
/-- THM_ZONE_STAT.LEVEL. -/
def F.THM_ZONE_STAT_LEVEL (n : Nat) : Fld := ⟨5, 0xA8 + 0x10 * n, 24, 4, .ro, 0, .c, 0, 0xF⟩
/-- THM_ZONE_STAT.SRC. -/
def F.THM_ZONE_STAT_SRC (n : Nat) : Fld := ⟨5, 0xA8 + 0x10 * n, 20, 4, .ro, 0xF, .c, 0, 0xF⟩
/-- THM_ZONE_STAT.TEMP. -/
def F.THM_ZONE_STAT_TEMP (n : Nat) : Fld := ⟨5, 0xA8 + 0x10 * n, 0, 20, .ro, 0, .c, 0, 0xFFFFF⟩
/-- THM_LEVEL.PEAK. -/
def F.THM_LEVEL_PEAK : Fld := ⟨5, 0xE0, 20, 4, .rw, 0, .c, 0, 0xF⟩
/-- THM_LEVEL.FLOOR. -/
def F.THM_LEVEL_FLOOR : Fld := ⟨5, 0xE0, 8, 4, .rw, 0, .c, 0, 7⟩
/-- THM_LEVEL.LEVEL. -/
def F.THM_LEVEL_LEVEL : Fld := ⟨5, 0xE0, 0, 4, .ro, 0, .c, 0, 0xF⟩
/-- THM_STEP.DOWN. -/
def F.THM_STEP_DOWN : Fld := ⟨5, 0xE4, 16, 16, .rw, 0x2710, .p, 0x64, 0xFFFF⟩
/-- THM_STEP.UP. -/
def F.THM_STEP_UP : Fld := ⟨5, 0xE4, 0, 16, .rw, 0x3E8, .p, 0x64, 0xFFFF⟩
/-- THM_RATE.SLOW. -/
def F.THM_RATE_SLOW : Fld := ⟨5, 0xE8, 8, 8, .rw, 0xA, .p, 1, 0xFF⟩
/-- THM_RATE.NEAR. -/
def F.THM_RATE_NEAR : Fld := ⟨5, 0xE8, 0, 8, .rw, 5, .p, 1, 0x32⟩
/-- THM_POLICY.KEEP. -/
def F.THM_POLICY_KEEP : Fld := ⟨5, 0xEC, 0, 3, .rw, 4, .p, 0, 7⟩
/-- THM_FAIL.ACK. -/
def F.THM_FAIL_ACK : Fld := ⟨5, 0xF0, 16, 10, .wo, 0, .c, 0, 0x3FF⟩
/-- THM_FAIL.FAILED. -/
def F.THM_FAIL_FAILED : Fld := ⟨5, 0xF0, 0, 10, .ro, 0, .c, 0, 0x3FF⟩
/-- THM_COMP.XSEL. -/
def F.THM_COMP_XSEL : Fld := ⟨5, 0xF4, 8, 4, .rw, 4, .p, 0, 9⟩
/-- THM_COMP.XTAL. -/
def F.THM_COMP_XTAL : Fld := ⟨5, 0xF4, 3, 1, .rw, 0, .p, 0, 1⟩
/-- THM_COMP.BIAS. -/
def F.THM_COMP_BIAS : Fld := ⟨5, 0xF4, 2, 1, .rw, 1, .p, 0, 1⟩
/-- THM_COMP.FCV. -/
def F.THM_COMP_FCV : Fld := ⟨5, 0xF4, 1, 1, .rw, 1, .p, 0, 1⟩
/-- THM_COMP.ACB. -/
def F.THM_COMP_ACB : Fld := ⟨5, 0xF4, 0, 1, .rw, 1, .p, 0, 1⟩
/-- THM_XTAL.C2. -/
def F.THM_XTAL_C2 : Fld := ⟨5, 0xF8, 16, 16, .rw, 0, .p, 0, 0xFFFF⟩
/-- THM_XTAL.C1. -/
def F.THM_XTAL_C1 : Fld := ⟨5, 0xF8, 8, 8, .rw, 0, .p, 0, 0xFF⟩
/-- THM_XTAL.T0. -/
def F.THM_XTAL_T0 : Fld := ⟨5, 0xF8, 0, 8, .rw, 0x19, .p, 0, 0xFF⟩
/-- THM_CNT.FAILS. -/
def F.THM_CNT_FAILS : Fld := ⟨5, 0xFC, 16, 16, .rw, 0, .w, 0, 0xFFFF⟩
/-- THM_CNT.RAISES. -/
def F.THM_CNT_RAISES : Fld := ⟨5, 0xFC, 0, 16, .rw, 0, .w, 0, 0xFFFF⟩
/-! ### 11_reset_startup_and_power_states.md -/

/-- RST_CAUSE.REACH. -/
def F.RST_CAUSE_REACH : Fld := ⟨1, 0x40, 16, 3, .ro, 0, .a, 0, 7⟩
/-- RST_CAUSE.DETAIL. -/
def F.RST_CAUSE_DETAIL : Fld := ⟨1, 0x40, 8, 8, .ro, 0, .a, 0, 0xFF⟩
/-- RST_CAUSE.CAUSE. -/
def F.RST_CAUSE_CAUSE : Fld := ⟨1, 0x40, 0, 3, .ro, 0, .a, 0, 7⟩
/-- RST_CMD.KEY. -/
def F.RST_CMD_KEY : Fld := ⟨1, 0x44, 16, 16, .wo, 0, .c, 0, 0xFFFF⟩
/-- RST_CMD.TARGET. -/
def F.RST_CMD_TARGET : Fld := ⟨1, 0x44, 8, 5, .wo, 0, .c, 0, 0x1F⟩
/-- RST_CMD.REACH. -/
def F.RST_CMD_REACH : Fld := ⟨1, 0x44, 0, 3, .wo, 0, .c, 0, 7⟩
/-- RST_START.STEP. -/
def F.RST_START_STEP : Fld := ⟨1, 0x48, 28, 4, .ro, 0, .a, 0, 0xF⟩
/-- RST_START.KIND. -/
def F.RST_START_KIND : Fld := ⟨1, 0x48, 24, 4, .ro, 0, .a, 0, 0xF⟩
/-- RST_START.TRIES. -/
def F.RST_START_TRIES : Fld := ⟨1, 0x48, 20, 2, .ro, 0, .a, 0, 3⟩
/-- RST_START.FAILSTEP. -/
def F.RST_START_FAILSTEP : Fld := ⟨1, 0x48, 16, 4, .ro, 0, .a, 0, 0xF⟩
/-- RST_START.ERR. -/
def F.RST_START_ERR : Fld := ⟨1, 0x48, 8, 8, .ro, 0, .a, 0, 0xFF⟩
/-- RST_START.DONE. -/
def F.RST_START_DONE : Fld := ⟨1, 0x48, 0, 1, .ro, 0, .c, 0, 1⟩
/-- RST_BOOT.BASE_TMO. -/
def F.RST_BOOT_BASE_TMO : Fld := ⟨1, 0x4C, 16, 16, .rw, 0x64, .p, 1, 0xFFFF⟩
/-- RST_BOOT.HOST_TMO. -/
def F.RST_BOOT_HOST_TMO : Fld := ⟨1, 0x4C, 8, 8, .rw, 0x1E, .p, 1, 0xFF⟩
/-- RST_BOOT.LIMFMT. -/
def F.RST_BOOT_LIMFMT : Fld := ⟨1, 0x4C, 1, 1, .rw, 0, .p, 0, 1⟩
/-- RST_BOOT.BASESRC. -/
def F.RST_BOOT_BASESRC : Fld := ⟨1, 0x4C, 0, 1, .rw, 0, .p, 0, 1⟩
/-- RST_BASE_ADDR.ADDR. -/
def F.RST_BASE_ADDR_ADDR : Fld := ⟨1, 0x50, 0, 32, .rw, 0, .p, 0, 0xFFFFFFFF⟩
/-- RST_SKIP.FW. -/
def F.RST_SKIP_FW : Fld := ⟨1, 0x54, 3, 1, .ro, 0, .a, 0, 1⟩
/-- RST_SKIP.BASE. -/
def F.RST_SKIP_BASE : Fld := ⟨1, 0x54, 2, 1, .ro, 0, .a, 0, 1⟩
/-- RST_SKIP.DRAM. -/
def F.RST_SKIP_DRAM : Fld := ⟨1, 0x54, 1, 1, .ro, 0, .a, 0, 1⟩
/-- RST_SKIP.FUSE. -/
def F.RST_SKIP_FUSE : Fld := ⟨1, 0x54, 0, 1, .ro, 0, .a, 0, 1⟩
/-- RST_TIME.US. -/
def F.RST_TIME_US : Fld := ⟨1, 0x58, 0, 32, .ro, 0, .a, 0, 0xFFFFFFFF⟩
/-- RST_HOSTBOOT.GO. -/
def F.RST_HOSTBOOT_GO : Fld := ⟨1, 0x5C, 31, 1, .wo, 0, .c, 0, 1⟩
/-- CLK_STAT.LOCKED. -/
def F.CLK_STAT_LOCKED : Fld := ⟨2, 0x40, 31, 1, .ro, 0, .c, 0, 1⟩
/-- CLK_STAT.REF_OK. -/
def F.CLK_STAT_REF_OK : Fld := ⟨2, 0x40, 30, 1, .ro, 1, .c, 0, 1⟩
/-- CLK_STAT.LOCK_US. -/
def F.CLK_STAT_LOCK_US : Fld := ⟨2, 0x40, 0, 16, .ro, 0, .c, 0, 0xFFFF⟩
/-- CLK_CNT.RETRIES. -/
def F.CLK_CNT_RETRIES : Fld := ⟨2, 0x44, 16, 16, .rw, 0, .a, 0, 0xFFFF⟩
/-- CLK_CNT.LOSSES. -/
def F.CLK_CNT_LOSSES : Fld := ⟨2, 0x44, 0, 16, .rw, 0, .a, 0, 0xFFFF⟩
/-- CLK_GATE.RUN. -/
def F.CLK_GATE_RUN : Fld := ⟨2, 0x48, 0, 6, .ro, 0x3F, .c, 0, 0x3F⟩
/-- PWR_STATE.BUSY. -/
def F.PWR_STATE_BUSY : Fld := ⟨3, 0x40, 8, 1, .ro, 0, .c, 0, 1⟩
/-- PWR_STATE.STATE. -/
def F.PWR_STATE_STATE : Fld := ⟨3, 0x40, 0, 2, .ro, 0, .c, 0, 3⟩
/-- PWR_REQ.STATE. -/
def F.PWR_REQ_STATE : Fld := ⟨3, 0x44, 0, 2, .rw, 0, .c, 0, 3⟩
/-- PWR_WAKE.FTRIG. -/
def F.PWR_WAKE_FTRIG : Fld := ⟨3, 0x48, 2, 2, .rw, 0, .p, 0, 3⟩
/-- PWR_WAKE.PFAIL. -/
def F.PWR_WAKE_PFAIL : Fld := ⟨3, 0x48, 1, 1, .rw, 0, .p, 0, 1⟩
/-- PWR_WAKE.TRELLIS. -/
def F.PWR_WAKE_TRELLIS : Fld := ⟨3, 0x48, 0, 1, .rw, 1, .p, 0, 1⟩
/-- PWR_SUPPLY.WARN. -/
def F.PWR_SUPPLY_WARN : Fld := ⟨3, 0x4C, 0, 3, .ro, 0, .c, 0, 7⟩
/-- PWR_RESUME.US. -/
def F.PWR_RESUME_US : Fld := ⟨3, 0x50, 0, 16, .ro, 0, .w, 0, 0xFFFF⟩
/-- FUS_OPT.EXPORT. -/
def F.FUS_OPT_EXPORT : Fld := ⟨4, 0x40, 3, 1, .ro, 0, .a, 0, 1⟩
/-- FUS_OPT.LOCKED. -/
def F.FUS_OPT_LOCKED : Fld := ⟨4, 0x40, 2, 1, .ro, 0, .a, 0, 1⟩
/-- FUS_OPT.RRESTART. -/
def F.FUS_OPT_RRESTART : Fld := ⟨4, 0x40, 1, 1, .ro, 0, .a, 0, 1⟩
/-- FUS_OPT.RFILT. -/
def F.FUS_OPT_RFILT : Fld := ⟨4, 0x40, 0, 1, .ro, 0, .a, 0, 1⟩
/-- FUS_STAT.REPAIRS. -/
def F.FUS_STAT_REPAIRS : Fld := ⟨4, 0x44, 16, 8, .ro, 0, .a, 0, 0xFF⟩
/-- FUS_STAT.RESTARTS. -/
def F.FUS_STAT_RESTARTS : Fld := ⟨4, 0x44, 8, 8, .ro, 0, .a, 0, 0xFF⟩
/-- FUS_STAT.UNCORR. -/
def F.FUS_STAT_UNCORR : Fld := ⟨4, 0x44, 2, 1, .ro, 0, .a, 0, 1⟩
/-- FUS_STAT.CORR. -/
def F.FUS_STAT_CORR : Fld := ⟨4, 0x44, 1, 1, .ro, 0, .a, 0, 1⟩
/-- FUS_STAT.LOADED. -/
def F.FUS_STAT_LOADED : Fld := ⟨4, 0x44, 0, 1, .ro, 0, .a, 0, 1⟩
/-- FUS_PIN.CONFIGURED. -/
def F.FUS_PIN_CONFIGURED (n j : Nat) : Fld := ⟨4, 0x80 + 4 * n, 4 * j + 3, 1, .ro, 0, .c, 0, 1⟩
/-- FUS_PIN.STATE. -/
def F.FUS_PIN_STATE (n j : Nat) : Fld := ⟨4, 0x80 + 4 * n, 4 * j, 3, .ro, 0, .a, 0, 7⟩
/-! ### 12_seed_tray.md -/

/-- NVS_STATE.READY. -/
def F.NVS_STATE_READY : Fld := ⟨0x10, 0x40, 31, 1, .ro, 0, .c, 0, 1⟩
/-- NVS_STATE.RDONLY. -/
def F.NVS_STATE_RDONLY : Fld := ⟨0x10, 0x40, 30, 1, .ro, 0, .c, 0, 1⟩
/-- NVS_STATE.EP_ONLY. -/
def F.NVS_STATE_EP_ONLY : Fld := ⟨0x10, 0x40, 29, 1, .ro, 0, .c, 0, 1⟩
/-- NVS_STATE.STOPPED. -/
def F.NVS_STATE_STOPPED : Fld := ⟨0x10, 0x40, 28, 1, .ro, 0, .c, 0, 1⟩
/-- NVS_STATE.UNLOCK_W. -/
def F.NVS_STATE_UNLOCK_W : Fld := ⟨0x10, 0x40, 25, 1, .ro, 0, .c, 0, 1⟩
/-- NVS_STATE.UNLOCK_R. -/
def F.NVS_STATE_UNLOCK_R : Fld := ⟨0x10, 0x40, 24, 1, .ro, 0, .c, 0, 1⟩
/-- NVS_OP.GO. -/
def F.NVS_OP_GO : Fld := ⟨0x10, 0x44, 31, 1, .wo, 0, .c, 0, 1⟩
/-- NVS_OP.OP. -/
def F.NVS_OP_OP : Fld := ⟨0x10, 0x44, 28, 3, .rw, 0, .c, 0, 5⟩
/-- NVS_OP.PAGE. -/
def F.NVS_OP_PAGE : Fld := ⟨0x10, 0x44, 16, 12, .rw, 0, .c, 0, 0xFFF⟩
/-- NVS_OP.OFFSET. -/
def F.NVS_OP_OFFSET : Fld := ⟨0x10, 0x44, 8, 6, .rw, 0, .c, 0, 0x3F⟩
/-- NVS_OP.LEN. -/
def F.NVS_OP_LEN : Fld := ⟨0x10, 0x44, 0, 7, .rw, 0, .c, 0, 0x40⟩
/-- NVS_OP_STAT.BUSY. -/
def F.NVS_OP_STAT_BUSY : Fld := ⟨0x10, 0x48, 31, 1, .ro, 0, .c, 0, 1⟩
/-- NVS_OP_STAT.STATUS. -/
def F.NVS_OP_STAT_STATUS : Fld := ⟨0x10, 0x48, 24, 3, .ro, 0, .c, 0, 7⟩
/-- NVS_OP_STAT.GRP. -/
def F.NVS_OP_STAT_GRP (j : Nat) : Fld := ⟨0x10, 0x48, 2 * j, 2, .ro, 0, .c, 0, 3⟩
/-- NVS_TORN_STAT.VALID. -/
def F.NVS_TORN_STAT_VALID : Fld := ⟨0x10, 0x4C, 31, 1, .w1c, 0, .a, 0, 1⟩
/-- NVS_TORN_STAT.ACTION. -/
def F.NVS_TORN_STAT_ACTION : Fld := ⟨0x10, 0x4C, 29, 2, .ro, 0, .a, 0, 3⟩
/-- NVS_TORN_STAT.COPY. -/
def F.NVS_TORN_STAT_COPY : Fld := ⟨0x10, 0x4C, 28, 1, .ro, 0, .a, 0, 1⟩
/-- NVS_TORN_STAT.PAGE. -/
def F.NVS_TORN_STAT_PAGE : Fld := ⟨0x10, 0x4C, 16, 12, .ro, 0, .a, 0, 0xFFF⟩
/-- NVS_TORN_STAT.GRP. -/
def F.NVS_TORN_STAT_GRP (j : Nat) : Fld := ⟨0x10, 0x4C, 2 * j, 2, .ro, 0, .a, 0, 3⟩
/-- NVS_TALLY_LO.VALUE. -/
def F.NVS_TALLY_LO_VALUE : Fld := ⟨0x10, 0x50, 0, 32, .ro, 0, .c, 0, 0xFFFFFFFF⟩
/-- NVS_TALLY_HI.VALUE. -/
def F.NVS_TALLY_HI_VALUE : Fld := ⟨0x10, 0x54, 0, 32, .ro, 0, .c, 0, 0xFFFFFFFF⟩
/-- NVS_TALLY_ADD.ADD. -/
def F.NVS_TALLY_ADD_ADD : Fld := ⟨0x10, 0x58, 0, 32, .rw, 1, .c, 0, 0xFFFFFFFF⟩
/-- NVS_PWD_LO.PWD. -/
def F.NVS_PWD_LO_PWD : Fld := ⟨0x10, 0x60, 0, 32, .wo, 0, .c, 0, 0xFFFFFFFF⟩
/-- NVS_PWD_HI.PWD. -/
def F.NVS_PWD_HI_PWD : Fld := ⟨0x10, 0x64, 0, 32, .wo, 0, .c, 0, 0xFFFFFFFF⟩
/-- NVS_UNLOCK.GO. -/
def F.NVS_UNLOCK_GO : Fld := ⟨0x10, 0x68, 31, 1, .wo, 0, .c, 0, 1⟩
/-- NVS_UNLOCK.LOCK. -/
def F.NVS_UNLOCK_LOCK : Fld := ⟨0x10, 0x68, 30, 1, .wo, 0, .c, 0, 1⟩
/-- NVS_UNLOCK.SET. -/
def F.NVS_UNLOCK_SET : Fld := ⟨0x10, 0x68, 29, 1, .wo, 0, .c, 0, 1⟩
/-- NVS_UNLOCK.KIND. -/
def F.NVS_UNLOCK_KIND : Fld := ⟨0x10, 0x68, 0, 2, .rw, 1, .c, 1, 2⟩
/-- NVS_LOCKOUT.FAILS. -/
def F.NVS_LOCKOUT_FAILS : Fld := ⟨0x10, 0x6C, 16, 16, .ro, 0, .c, 0, 0xFFFF⟩
/-- NVS_LOCKOUT.REMAIN. -/
def F.NVS_LOCKOUT_REMAIN : Fld := ⟨0x10, 0x6C, 0, 12, .ro, 0, .c, 0, 0xFFF⟩
/-- NVS_WEAR.USED. -/
def F.NVS_WEAR_USED : Fld := ⟨0x10, 0x70, 16, 7, .ro, 0, .c, 0, 0x7F⟩
/-- NVS_WEAR.PAGE. -/
def F.NVS_WEAR_PAGE : Fld := ⟨0x10, 0x70, 0, 12, .ro, 0, .c, 0, 0xFFF⟩
/-- NVS_WEAR_MAX.COUNT. -/
def F.NVS_WEAR_MAX_COUNT : Fld := ⟨0x10, 0x74, 0, 32, .ro, 0, .c, 0, 0xFFFFFFFF⟩
/-- NVS_SPARE_WARN.LEFT. -/
def F.NVS_SPARE_WARN_LEFT : Fld := ⟨0x10, 0x78, 0, 7, .rw, 8, .p, 0, 0x40⟩
/-- NVS_ERR.UNCORR. -/
def F.NVS_ERR_UNCORR : Fld := ⟨0x10, 0x7C, 31, 1, .ro, 0, .w, 0, 1⟩
/-- NVS_ERR.CAUSE. -/
def F.NVS_ERR_CAUSE : Fld := ⟨0x10, 0x7C, 28, 3, .ro, 0, .w, 0, 7⟩
/-- NVS_ERR.PAGE. -/
def F.NVS_ERR_PAGE : Fld := ⟨0x10, 0x7C, 0, 12, .ro, 0, .w, 0, 0xFFF⟩
/-- NVS_CNT.ROLLBACKS. -/
def F.NVS_CNT_ROLLBACKS : Fld := ⟨0x10, 0x80, 16, 16, .rw, 0, .w, 0, 0xFFFF⟩
/-- NVS_CNT.FINISHES. -/
def F.NVS_CNT_FINISHES : Fld := ⟨0x10, 0x80, 0, 16, .rw, 0, .w, 0, 0xFFFF⟩
/-- NVS_SETLOG.GEN. -/
def F.NVS_SETLOG_GEN : Fld := ⟨0x10, 0x84, 0, 32, .ro, 0, .a, 0, 0xFFFFFFFF⟩
/-- NVS_BUF.DATA. -/
def F.NVS_BUF_DATA (n : Nat) : Fld := ⟨0x10, 0xC0 + 4 * n, 0, 32, .rw, 0, .c, 0, 0xFFFFFFFF⟩
/-- NVS_TORN.DATA. -/
def F.NVS_TORN_DATA (n : Nat) : Fld := ⟨0x10, 0x100 + 4 * n, 0, 32, .ro, 0, .a, 0, 0xFFFFFFFF⟩
/-! ### 13_links.md -/

/-- PCI_LINK.RETRAINS. -/
def F.PCI_LINK_RETRAINS : Fld := ⟨0x14, 0x40, 16, 16, .rw, 0, .w, 0, 0xFFFF⟩
/-- PCI_LINK.WIDTH. -/
def F.PCI_LINK_WIDTH : Fld := ⟨0x14, 0x40, 8, 4, .ro, 0, .c, 0, 0xF⟩
/-- PCI_LINK.SPEED. -/
def F.PCI_LINK_SPEED : Fld := ⟨0x14, 0x40, 0, 4, .ro, 0, .c, 0, 0xF⟩
/-- PCI_BAR2_BASE.BASE. -/
def F.PCI_BAR2_BASE_BASE : Fld := ⟨0x14, 0x44, 20, 11, .rw, 0, .w, 0, 0x7FF⟩
/-- PCI_SDONE.DONE. -/
def F.PCI_SDONE_DONE (n : Nat) : Fld := ⟨0x14, 0x48 + 4 * n, 0, 32, .w1c, 0, .c, 0, 0xFFFFFFFF⟩
/-- PCI_SLOST.COUNT. -/
def F.PCI_SLOST_COUNT : Fld := ⟨0x14, 0x50, 16, 16, .rw, 0, .w, 0, 0xFFFF⟩
/-- PCI_SLOST.LAST. -/
def F.PCI_SLOST_LAST : Fld := ⟨0x14, 0x50, 0, 6, .ro, 0, .w, 0, 0x3F⟩
/-- PCI_DMA_ERR.COUNT. -/
def F.PCI_DMA_ERR_COUNT : Fld := ⟨0x14, 0x54, 16, 16, .rw, 0, .w, 0, 0xFFFF⟩
/-- PCI_DMA_ERR.KIND. -/
def F.PCI_DMA_ERR_KIND : Fld := ⟨0x14, 0x54, 6, 2, .ro, 0, .w, 0, 3⟩
/-- PCI_DMA_ERR.STREAM. -/
def F.PCI_DMA_ERR_STREAM : Fld := ⟨0x14, 0x54, 0, 6, .ro, 0, .w, 0, 0x3F⟩
/-- STR_RING_LO.ADDR. -/
def F.STR_RING_LO_ADDR (n : Nat) : Fld := ⟨0x14, 0x400 + 0x10 * n, 0, 32, .rw, 0, .c, 0, 0xFFFFFFFF⟩
/-- STR_RING_HI.ADDR. -/
def F.STR_RING_HI_ADDR (n : Nat) : Fld := ⟨0x14, 0x404 + 0x10 * n, 0, 32, .rw, 0, .c, 0, 0xFFFFFFFF⟩
/-- STR_CFG.EN. -/
def F.STR_CFG_EN (n : Nat) : Fld := ⟨0x14, 0x408 + 0x10 * n, 31, 1, .rw, 0, .c, 0, 1⟩
/-- STR_CFG.ERR. -/
def F.STR_CFG_ERR (n : Nat) : Fld := ⟨0x14, 0x408 + 0x10 * n, 30, 1, .ro, 0, .c, 0, 1⟩
/-- STR_CFG.WAIT. -/
def F.STR_CFG_WAIT (n : Nat) : Fld := ⟨0x14, 0x408 + 0x10 * n, 29, 1, .ro, 0, .c, 0, 1⟩
/-- STR_CFG.IRQ. -/
def F.STR_CFG_IRQ (n : Nat) : Fld := ⟨0x14, 0x408 + 0x10 * n, 4, 1, .rw, 1, .c, 0, 1⟩
/-- STR_CFG.SIZE_LOG2. -/
def F.STR_CFG_SIZE_LOG2 (n : Nat) : Fld := ⟨0x14, 0x408 + 0x10 * n, 0, 4, .rw, 4, .c, 2, 0xC⟩
/-- STR_IDX.TAIL. -/
def F.STR_IDX_TAIL (n : Nat) : Fld := ⟨0x14, 0x40C + 0x10 * n, 16, 12, .rw, 0, .c, 0, 0xFFF⟩
/-- STR_IDX.HEAD. -/
def F.STR_IDX_HEAD (n : Nat) : Fld := ⟨0x14, 0x40C + 0x10 * n, 0, 12, .ro, 0, .c, 0, 0xFFF⟩
/-- TRL_CTRL.RSTEN. -/
def F.TRL_CTRL_RSTEN : Fld := ⟨0x12, 8, 2, 1, .rw, 1, .p, 0, 1⟩
/-- TRL_CTRL.RWEN. -/
def F.TRL_CTRL_RWEN : Fld := ⟨0x12, 8, 1, 1, .rw, 0, .p, 0, 1⟩
/-- TRL_CTRL.EN. -/
def F.TRL_CTRL_EN : Fld := ⟨0x12, 8, 0, 1, .rw, 1, .a, 0, 1⟩
/-- TRL_ADDR.VALID. -/
def F.TRL_ADDR_VALID : Fld := ⟨0x12, 0x40, 31, 1, .ro, 0, .a, 0, 1⟩
/-- TRL_ADDR.STICKY. -/
def F.TRL_ADDR_STICKY : Fld := ⟨0x12, 0x40, 30, 1, .rw, 0, .p, 0, 1⟩
/-- TRL_ADDR.MASTER. -/
def F.TRL_ADDR_MASTER : Fld := ⟨0x12, 0x40, 29, 1, .ro, 0, .a, 0, 1⟩
/-- TRL_ADDR.MODE. -/
def F.TRL_ADDR_MODE : Fld := ⟨0x12, 0x40, 24, 2, .ro, 0, .a, 0, 3⟩
/-- TRL_ADDR.DEPTH. -/
def F.TRL_ADDR_DEPTH : Fld := ⟨0x12, 0x40, 16, 6, .ro, 0, .a, 0, 0x3F⟩
/-- TRL_ADDR.PREF. -/
def F.TRL_ADDR_PREF : Fld := ⟨0x12, 0x40, 8, 6, .rw, 0, .p, 0, 0x3E⟩
/-- TRL_ADDR.ADDR. -/
def F.TRL_ADDR_ADDR : Fld := ⟨0x12, 0x40, 0, 6, .ro, 0, .a, 0, 0x3F⟩
/-- TRL_PORT.UP_ERR. -/
def F.TRL_PORT_UP_ERR : Fld := ⟨0x12, 0x44, 24, 8, .rw, 0, .w, 0, 0xFF⟩
/-- TRL_PORT.DOWN_ERR. -/
def F.TRL_PORT_DOWN_ERR : Fld := ⟨0x12, 0x44, 16, 8, .rw, 0, .w, 0, 0xFF⟩
/-- TRL_PORT.LATE. -/
def F.TRL_PORT_LATE : Fld := ⟨0x12, 0x44, 8, 8, .rw, 0, .w, 0, 0xFF⟩
/-- TRL_PORT.DOWN. -/
def F.TRL_PORT_DOWN : Fld := ⟨0x12, 0x44, 1, 1, .ro, 0, .c, 0, 1⟩
/-- TRL_PORT.UP. -/
def F.TRL_PORT_UP : Fld := ⟨0x12, 0x44, 0, 1, .ro, 0, .c, 0, 1⟩
/-- TRL_PATH.PATH. -/
def F.TRL_PATH_PATH : Fld := ⟨0x12, 0x48, 16, 16, .ro, 0, .a, 0, 0xFFFF⟩
/-- TRL_PATH.HOP. -/
def F.TRL_PATH_HOP : Fld := ⟨0x12, 0x48, 0, 16, .ro, 0, .a, 0, 0xFFFF⟩
/-- TRL_TIME_LO.TIME. -/
def F.TRL_TIME_LO_TIME : Fld := ⟨0x12, 0x4C, 0, 32, .ro, 0, .a, 0, 0xFFFFFFFF⟩
/-- TRL_TIME_HI.TIME. -/
def F.TRL_TIME_HI_TIME : Fld := ⟨0x12, 0x50, 0, 32, .ro, 0, .a, 0, 0xFFFFFFFF⟩
/-- TRL_TIME_SET_LO.TIME. -/
def F.TRL_TIME_SET_LO_TIME : Fld := ⟨0x12, 0x54, 0, 32, .wo, 0, .c, 0, 0xFFFFFFFF⟩
/-- TRL_TIME_SET_HI.TIME. -/
def F.TRL_TIME_SET_HI_TIME : Fld := ⟨0x12, 0x58, 0, 32, .wo, 0, .c, 0, 0xFFFFFFFF⟩
/-- TRL_TIMING.LOCKED. -/
def F.TRL_TIMING_LOCKED : Fld := ⟨0x12, 0x5C, 31, 1, .ro, 0, .c, 0, 1⟩
/-- TRL_TIMING.LEAD. -/
def F.TRL_TIMING_LEAD : Fld := ⟨0x12, 0x5C, 0, 16, .rw, 0x32, .p, 1, 0x3E8⟩
/-- TRL_MASTER.SYNC_GO. -/
def F.TRL_MASTER_SYNC_GO : Fld := ⟨0x12, 0x60, 31, 1, .wo, 0, .c, 0, 1⟩
/-- TRL_MASTER.ENUM_GO. -/
def F.TRL_MASTER_ENUM_GO : Fld := ⟨0x12, 0x60, 30, 1, .wo, 0, .c, 0, 1⟩
/-- TRL_MASTER.FS_EN. -/
def F.TRL_MASTER_FS_EN : Fld := ⟨0x12, 0x60, 29, 1, .rw, 0, .p, 0, 1⟩
/-- TRL_MASTER.AUTOENUM. -/
def F.TRL_MASTER_AUTOENUM : Fld := ⟨0x12, 0x60, 28, 1, .rw, 1, .p, 0, 1⟩
/-- TRL_MASTER.SYNC_DST. -/
def F.TRL_MASTER_SYNC_DST : Fld := ⟨0x12, 0x60, 16, 6, .rw, 0x3F, .c, 0, 0x3F⟩
/-- TRL_HB.PERIOD. -/
def F.TRL_HB_PERIOD : Fld := ⟨0x12, 0x64, 0, 8, .rw, 0x64, .p, 0xA, 0xFF⟩
/-- TRL_SEEN_LO.SEEN. -/
def F.TRL_SEEN_LO_SEEN : Fld := ⟨0x12, 0x68, 0, 32, .ro, 0, .c, 0, 0xFFFFFFFF⟩
/-- TRL_SEEN_HI.SEEN. -/
def F.TRL_SEEN_HI_SEEN : Fld := ⟨0x12, 0x6C, 0, 32, .ro, 0, .c, 0, 0xFFFFFFFF⟩
/-- TRL_ALARM.VALID. -/
def F.TRL_ALARM_VALID (n : Nat) : Fld := ⟨0x12, 0x70 + 4 * n, 31, 1, .ro, 0, .c, 0, 1⟩
/-- TRL_ALARM.DIE. -/
def F.TRL_ALARM_DIE (n : Nat) : Fld := ⟨0x12, 0x70 + 4 * n, 30, 1, .ro, 0, .c, 0, 1⟩
/-- TRL_ALARM.CLASS. -/
def F.TRL_ALARM_CLASS (n : Nat) : Fld := ⟨0x12, 0x70 + 4 * n, 26, 4, .ro, 0, .c, 0, 0xF⟩
/-- TRL_ALARM.TILE. -/
def F.TRL_ALARM_TILE (n : Nat) : Fld := ⟨0x12, 0x70 + 4 * n, 13, 13, .ro, 0, .c, 0, 0x1FFF⟩
/-- TRL_ALARM.SRC. -/
def F.TRL_ALARM_SRC (n : Nat) : Fld := ⟨0x12, 0x70 + 4 * n, 0, 6, .ro, 0, .c, 0, 0x3F⟩
/-- TRL_ALARM.FRAME. -/
def F.TRL_ALARM_FRAME (n : Nat) : Fld := ⟨0x12, 0x70 + 4 * n, 16, 16, .ro, 0, .c, 0, 0xFFFF⟩
/-- TRL_ALARM.T. -/
def F.TRL_ALARM_T (n : Nat) : Fld := ⟨0x12, 0x70 + 4 * n, 0, 16, .ro, 0, .c, 0, 0xFFFF⟩
/-- TRL_CMD.GO. -/
def F.TRL_CMD_GO : Fld := ⟨0x12, 0x80, 31, 1, .wo, 0, .c, 0, 1⟩
/-- TRL_CMD.DST. -/
def F.TRL_CMD_DST : Fld := ⟨0x12, 0x80, 24, 6, .rw, 0, .c, 0, 0x3F⟩
/-- TRL_CMD.TYPE. -/
def F.TRL_CMD_TYPE : Fld := ⟨0x12, 0x80, 16, 8, .rw, 0, .c, 0, 0xFF⟩
/-- TRL_CMD.LEN. -/
def F.TRL_CMD_LEN : Fld := ⟨0x12, 0x80, 0, 9, .rw, 0, .c, 0, 0x100⟩
/-- TRL_CMD_STAT.BUSY. -/
def F.TRL_CMD_STAT_BUSY : Fld := ⟨0x12, 0x84, 31, 1, .ro, 0, .c, 0, 1⟩
/-- TRL_CMD_STAT.STATUS. -/
def F.TRL_CMD_STAT_STATUS : Fld := ⟨0x12, 0x84, 24, 3, .ro, 0, .c, 0, 7⟩
/-- TRL_CMD_STAT.RLEN. -/
def F.TRL_CMD_STAT_RLEN : Fld := ⟨0x12, 0x84, 0, 9, .ro, 0, .c, 0, 0x1FF⟩
/-- TRL_BUF.DATA. -/
def F.TRL_BUF_DATA (n : Nat) : Fld := ⟨0x12, 0x100 + 4 * n, 0, 32, .rw, 0, .c, 0, 0xFFFFFFFF⟩
/-- D2D_STAT.UP. -/
def F.D2D_STAT_UP : Fld := ⟨0x13, 0x40, 31, 1, .ro, 0, .c, 0, 1⟩
/-- D2D_STAT.TAKEN. -/
def F.D2D_STAT_TAKEN : Fld := ⟨0x13, 0x40, 30, 1, .ro, 0, .a, 0, 1⟩
/-- D2D_STAT.RETRIES. -/
def F.D2D_STAT_RETRIES : Fld := ⟨0x13, 0x40, 16, 14, .rw, 0, .w, 0, 0x3FFF⟩
/-- D2D_STAT.LAT. -/
def F.D2D_STAT_LAT : Fld := ⟨0x13, 0x40, 0, 16, .ro, 0, .c, 0, 0xFFFF⟩
/-- PRL_CTRL.AUTOBACK. -/
def F.PRL_CTRL_AUTOBACK : Fld := ⟨0x15, 8, 2, 1, .rw, 1, .p, 0, 1⟩
/-- PRL_CTRL.PINFWD. -/
def F.PRL_CTRL_PINFWD : Fld := ⟨0x15, 8, 1, 1, .rw, 1, .p, 0, 1⟩
/-- PRL_CTRL.EN. -/
def F.PRL_CTRL_EN : Fld := ⟨0x15, 8, 0, 1, .rw, 1, .p, 0, 1⟩
/-- PRL_STAT.UP. -/
def F.PRL_STAT_UP : Fld := ⟨0x15, 0x40, 31, 1, .ro, 0, .c, 0, 1⟩
/-- PRL_STAT.ALIVE. -/
def F.PRL_STAT_ALIVE : Fld := ⟨0x15, 0x40, 30, 1, .ro, 0, .c, 0, 1⟩
/-- PRL_STAT.FAILED. -/
def F.PRL_STAT_FAILED : Fld := ⟨0x15, 0x40, 29, 1, .ro, 0, .c, 0, 1⟩
/-- PRL_STAT.ROLE_BAD. -/
def F.PRL_STAT_ROLE_BAD : Fld := ⟨0x15, 0x40, 28, 1, .ro, 0, .c, 0, 1⟩
/-- PRL_STAT.OWNER. -/
def F.PRL_STAT_OWNER : Fld := ⟨0x15, 0x40, 27, 1, .ro, 0, .c, 0, 1⟩
/-- PRL_STAT.PLEAD. -/
def F.PRL_STAT_PLEAD : Fld := ⟨0x15, 0x40, 26, 1, .ro, 0, .c, 0, 1⟩
/-- PRL_STAT.PROLE. -/
def F.PRL_STAT_PROLE : Fld := ⟨0x15, 0x40, 24, 2, .ro, 0, .c, 0, 3⟩
/-- PRL_STAT.PADDR. -/
def F.PRL_STAT_PADDR : Fld := ⟨0x15, 0x40, 8, 6, .ro, 0, .c, 0, 0x3F⟩
/-- PRL_HB.FAIL_TMO. -/
def F.PRL_HB_FAIL_TMO : Fld := ⟨0x15, 0x44, 16, 16, .rw, 0x15E, .p, 0xA, 0xFFFF⟩
/-- PRL_HB.MISS. -/
def F.PRL_HB_MISS : Fld := ⟨0x15, 0x44, 8, 8, .rw, 5, .p, 2, 0xFF⟩
/-- PRL_HB.PERIOD. -/
def F.PRL_HB_PERIOD : Fld := ⟨0x15, 0x44, 0, 8, .rw, 0xA, .p, 1, 0xFF⟩
/-- PRL_VOTE.CLASSES. -/
def F.PRL_VOTE_CLASSES : Fld := ⟨0x15, 0x48, 16, 16, .rw, 0xFFFF, .p, 0, 0xFFFF⟩
/-- PRL_VOTE.WINDOW. -/
def F.PRL_VOTE_WINDOW : Fld := ⟨0x15, 0x48, 8, 8, .rw, 4, .p, 1, 0xFF⟩
/-- PRL_VOTE.MODE. -/
def F.PRL_VOTE_MODE : Fld := ⟨0x15, 0x48, 0, 2, .rw, 0, .p, 0, 1⟩
/-- PRL_SHARED.LED. -/
def F.PRL_SHARED_LED : Fld := ⟨0x15, 0x4C, 16, 12, .rw, 0, .p, 0, 0xFFF⟩
/-- PRL_SHARED.LOOP. -/
def F.PRL_SHARED_LOOP : Fld := ⟨0x15, 0x4C, 0, 16, .rw, 0, .p, 0, 0xFFFF⟩
/-- PRL_RMAP_BASE.BASE. -/
def F.PRL_RMAP_BASE_BASE : Fld := ⟨0x15, 0x50, 12, 19, .rw, 0, .w, 0, 0x7FFFF⟩
/-- PRL_MIRROR_BASE.BASE. -/
def F.PRL_MIRROR_BASE_BASE : Fld := ⟨0x15, 0x54, 12, 19, .rw, 0, .w, 0, 0x7FFFF⟩
/-- PRL_PSERIAL_LO.SERIAL. -/
def F.PRL_PSERIAL_LO_SERIAL : Fld := ⟨0x15, 0x58, 0, 32, .ro, 0, .c, 0, 0xFFFFFFFF⟩
/-- PRL_PSERIAL_HI.SERIAL. -/
def F.PRL_PSERIAL_HI_SERIAL : Fld := ⟨0x15, 0x5C, 0, 32, .ro, 0, .c, 0, 0xFFFFFFFF⟩
/-- PRL_CNT.RETRIES. -/
def F.PRL_CNT_RETRIES : Fld := ⟨0x15, 0x60, 16, 16, .rw, 0, .w, 0, 0xFFFF⟩
/-- PRL_CNT.MISSED. -/
def F.PRL_CNT_MISSED : Fld := ⟨0x15, 0x60, 0, 16, .rw, 0, .w, 0, 0xFFFF⟩
/-! ### 14_serial_port.md -/

/-- SPI_CFG.DIV_M1. -/
def F.SPI_CFG_DIV_M1 : Fld := ⟨0x11, 0x40, 24, 8, .rw, 1, .p, 1, 0xFF⟩
/-- SPI_CFG.CSGAP_M1. -/
def F.SPI_CFG_CSGAP_M1 : Fld := ⟨0x11, 0x40, 20, 4, .rw, 0, .p, 0, 0xF⟩
/-- SPI_CFG.PROTO. -/
def F.SPI_CFG_PROTO : Fld := ⟨0x11, 0x40, 17, 1, .rw, 0, .p, 0, 1⟩
/-- SPI_CFG.ROLE. -/
def F.SPI_CFG_ROLE : Fld := ⟨0x11, 0x40, 16, 1, .rw, 0, .p, 0, 1⟩
/-- SPI_CFG.WLEN_M1. -/
def F.SPI_CFG_WLEN_M1 : Fld := ⟨0x11, 0x40, 8, 5, .rw, 7, .p, 3, 0x1F⟩
/-- SPI_CFG.LSBF. -/
def F.SPI_CFG_LSBF : Fld := ⟨0x11, 0x40, 3, 1, .rw, 0, .p, 0, 1⟩
/-- SPI_CFG.CPHA. -/
def F.SPI_CFG_CPHA : Fld := ⟨0x11, 0x40, 2, 1, .rw, 0, .p, 0, 1⟩
/-- SPI_CFG.CPOL. -/
def F.SPI_CFG_CPOL : Fld := ⟨0x11, 0x40, 1, 1, .rw, 0, .p, 0, 1⟩
/-- SPI_MXFER.GO. -/
def F.SPI_MXFER_GO : Fld := ⟨0x11, 0x44, 31, 1, .wo, 0, .c, 0, 1⟩
/-- SPI_MXFER.HOLD. -/
def F.SPI_MXFER_HOLD : Fld := ⟨0x11, 0x44, 30, 1, .rw, 0, .c, 0, 1⟩
/-- SPI_MXFER.TGT. -/
def F.SPI_MXFER_TGT : Fld := ⟨0x11, 0x44, 24, 3, .rw, 0, .c, 0, 7⟩
/-- SPI_MXFER.NWORDS. -/
def F.SPI_MXFER_NWORDS : Fld := ⟨0x11, 0x44, 0, 16, .rw, 0, .c, 0, 0xFFFF⟩
/-- SPI_STATE.XIP. -/
def F.SPI_STATE_XIP : Fld := ⟨0x11, 0x48, 31, 1, .ro, 0, .c, 0, 1⟩
/-- SPI_STATE.SEL. -/
def F.SPI_STATE_SEL : Fld := ⟨0x11, 0x48, 30, 1, .ro, 0, .c, 0, 1⟩
/-- SPI_STATE.MBUSY. -/
def F.SPI_STATE_MBUSY : Fld := ⟨0x11, 0x48, 29, 1, .ro, 0, .c, 0, 1⟩
/-- SPI_STATE.LEFT. -/
def F.SPI_STATE_LEFT : Fld := ⟨0x11, 0x48, 8, 16, .ro, 0, .c, 0, 0xFFFF⟩
/-- SPI_STATE.STATUS. -/
def F.SPI_STATE_STATUS : Fld := ⟨0x11, 0x48, 0, 3, .ro, 0, .c, 0, 7⟩
/-- SPI_FIFO.RX_FILL. -/
def F.SPI_FIFO_RX_FILL : Fld := ⟨0x11, 0x4C, 16, 5, .ro, 0, .c, 0, 0x1F⟩
/-- SPI_FIFO.TX_FILL. -/
def F.SPI_FIFO_TX_FILL : Fld := ⟨0x11, 0x4C, 8, 5, .ro, 0, .c, 0, 0x1F⟩
/-- SPI_FIFO.RX_WMARK. -/
def F.SPI_FIFO_RX_WMARK : Fld := ⟨0x11, 0x4C, 0, 5, .rw, 1, .c, 1, 0x10⟩
/-- SPI_TX.DATA. -/
def F.SPI_TX_DATA : Fld := ⟨0x11, 0x50, 0, 32, .wo, 0, .c, 0, 0xFFFFFFFF⟩
/-- SPI_RX.DATA. -/
def F.SPI_RX_DATA : Fld := ⟨0x11, 0x54, 0, 32, .ro, 0, .c, 0, 0xFFFFFFFF⟩
/-- SPI_RX_INFO.VALID. -/
def F.SPI_RX_INFO_VALID : Fld := ⟨0x11, 0x58, 31, 1, .ro, 0, .c, 0, 1⟩
/-- SPI_RX_INFO.SHORT. -/
def F.SPI_RX_INFO_SHORT : Fld := ⟨0x11, 0x58, 30, 1, .ro, 0, .c, 0, 1⟩
/-- SPI_RX_INFO.BITS. -/
def F.SPI_RX_INFO_BITS : Fld := ⟨0x11, 0x58, 0, 6, .ro, 0, .c, 0, 0x3F⟩
/-- SPI_SLV.SHORTS. -/
def F.SPI_SLV_SHORTS : Fld := ⟨0x11, 0x5C, 16, 16, .rw, 0, .w, 0, 0xFFFF⟩
/-- SPI_SLV.BUSY. -/
def F.SPI_SLV_BUSY : Fld := ⟨0x11, 0x5C, 0, 16, .rw, 0, .w, 0, 0xFFFF⟩
/-- SPI_PROTO.WEN. -/
def F.SPI_PROTO_WEN : Fld := ⟨0x11, 0x60, 1, 1, .rw, 0, .p, 0, 1⟩
/-- SPI_PROTO_STAT.BUSY. -/
def F.SPI_PROTO_STAT_BUSY : Fld := ⟨0x11, 0x64, 31, 1, .ro, 0, .c, 0, 1⟩
/-- SPI_PROTO_STAT.ABORT. -/
def F.SPI_PROTO_STAT_ABORT : Fld := ⟨0x11, 0x64, 30, 1, .w1c, 0, .c, 0, 1⟩
/-- SPI_PROTO_STAT.STATUS. -/
def F.SPI_PROTO_STAT_STATUS : Fld := ⟨0x11, 0x64, 27, 3, .ro, 0, .c, 0, 7⟩
/-- SPI_PROTO_STAT.ADDR. -/
def F.SPI_PROTO_STAT_ADDR : Fld := ⟨0x11, 0x64, 2, 18, .ro, 0, .c, 0, 0x3FFFF⟩
/-- SPI_XIP.MODEBYTE. -/
def F.SPI_XIP_MODEBYTE : Fld := ⟨0x11, 0x68, 24, 8, .rw, 0xA0, .a, 0, 0xFF⟩
/-- SPI_XIP.CONT. -/
def F.SPI_XIP_CONT : Fld := ⟨0x11, 0x68, 20, 2, .rw, 1, .a, 0, 2⟩
/-- SPI_XIP.ADDR4. -/
def F.SPI_XIP_ADDR4 : Fld := ⟨0x11, 0x68, 19, 1, .rw, 0, .a, 0, 1⟩
/-- SPI_XIP.TGT. -/
def F.SPI_XIP_TGT : Fld := ⟨0x11, 0x68, 16, 3, .rw, 0, .a, 0, 7⟩
/-- SPI_XIP.CMD. -/
def F.SPI_XIP_CMD : Fld := ⟨0x11, 0x68, 8, 8, .rw, 0, .a, 0, 0xFF⟩
/-- SPI_XIP.DUMMY. -/
def F.SPI_XIP_DUMMY : Fld := ⟨0x11, 0x68, 4, 4, .rw, 0, .a, 0, 0xF⟩
/-- SPI_XIP.PF. -/
def F.SPI_XIP_PF : Fld := ⟨0x11, 0x68, 0, 2, .rw, 2, .a, 0, 3⟩
/-- SPI_XIP_TIM.DIV_M1. -/
def F.SPI_XIP_TIM_DIV_M1 : Fld := ⟨0x11, 0x6C, 8, 8, .rw, 0, .a, 1, 0xFF⟩
/-- SPI_XIP_TIM.IDLE_MAX. -/
def F.SPI_XIP_TIM_IDLE_MAX : Fld := ⟨0x11, 0x6C, 0, 8, .rw, 8, .a, 1, 0xFF⟩
/-- SPI_XIP_CNT.MISSES. -/
def F.SPI_XIP_CNT_MISSES : Fld := ⟨0x11, 0x70, 16, 16, .rw, 0, .w, 0, 0xFFFF⟩
/-- SPI_XIP_CNT.HITS. -/
def F.SPI_XIP_CNT_HITS : Fld := ⟨0x11, 0x70, 0, 16, .rw, 0, .w, 0, 0xFFFF⟩
/-! ### 15_errors_self_test_and_grafting.md -/

/-- SPR_CTRL.PERSIST. -/
def F.SPR_CTRL_PERSIST : Fld := ⟨0xA, 8, 1, 1, .rw, 1, .p, 0, 1⟩
/-- SPR_CTRL.EN. -/
def F.SPR_CTRL_EN : Fld := ⟨0xA, 8, 0, 1, .ro, 1, .c, 0, 1⟩
/-- SPR_POLICY.WINDOW. -/
def F.SPR_POLICY_WINDOW : Fld := ⟨0xA, 0x40, 16, 16, .rw, 0x18, .p, 1, 0xFFFF⟩
/-- SPR_POLICY.TRANS_MAX. -/
def F.SPR_POLICY_TRANS_MAX : Fld := ⟨0xA, 0x40, 0, 4, .rw, 3, .p, 2, 0xF⟩
/-- SPR_LAST.TYPE. -/
def F.SPR_LAST_TYPE : Fld := ⟨0xA, 0x44, 28, 4, .ro, 0, .c, 0, 0xF⟩
/-- SPR_LAST.CAUSE. -/
def F.SPR_LAST_CAUSE : Fld := ⟨0xA, 0x44, 24, 4, .ro, 0, .c, 0, 0xF⟩
/-- SPR_LAST.OUTCOME. -/
def F.SPR_LAST_OUTCOME : Fld := ⟨0xA, 0x44, 22, 2, .ro, 0, .c, 0, 3⟩
/-- SPR_LAST.INSTANCE. -/
def F.SPR_LAST_INSTANCE : Fld := ⟨0xA, 0x44, 0, 20, .ro, 0, .c, 0, 0xFFFFF⟩
/-- SPR_LAST_FRAME.FRAME. -/
def F.SPR_LAST_FRAME_FRAME : Fld := ⟨0xA, 0x48, 0, 32, .ro, 0, .c, 0, 0xFFFFFFFF⟩
/-- SPR_CNT.LASTING. -/
def F.SPR_CNT_LASTING : Fld := ⟨0xA, 0x4C, 16, 16, .rw, 0, .w, 0, 0xFFFF⟩
/-- SPR_CNT.TRANSIENT. -/
def F.SPR_CNT_TRANSIENT : Fld := ⟨0xA, 0x4C, 0, 16, .rw, 0, .w, 0, 0xFFFF⟩
/-- SPR_TABLE.USED. -/
def F.SPR_TABLE_USED : Fld := ⟨0xA, 0x50, 0, 8, .ro, 0, .w, 0, 0xFF⟩
/-- SPR_SPARES.SRAM. -/
def F.SPR_SPARES_SRAM : Fld := ⟨0xA, 0x54, 16, 16, .ro, 0, .c, 0, 0xFFFF⟩
/-- SPR_SPARES.CORE. -/
def F.SPR_SPARES_CORE : Fld := ⟨0xA, 0x54, 9, 1, .ro, 0, .c, 0, 1⟩
/-- SPR_SPARES.SLICE. -/
def F.SPR_SPARES_SLICE : Fld := ⟨0xA, 0x54, 8, 1, .ro, 0, .c, 0, 1⟩
/-- SPR_SPARES.CLU. -/
def F.SPR_SPARES_CLU : Fld := ⟨0xA, 0x54, 0, 6, .ro, 0, .c, 0, 0x3F⟩
/-- SPR_WEAR.FIG. -/
def F.SPR_WEAR_FIG : Fld := ⟨0xA, 0x58, 0, 10, .ro, 0, .c, 0, 0x3FF⟩
/-- SPR_WEAR_LIM.CLU. -/
def F.SPR_WEAR_LIM_CLU : Fld := ⟨0xA, 0x5C, 24, 8, .rw, 8, .p, 0, 0xFF⟩
/-- SPR_WEAR_LIM.SRAM. -/
def F.SPR_WEAR_LIM_SRAM : Fld := ⟨0xA, 0x5C, 16, 8, .rw, 1, .p, 0, 0xFF⟩
/-- SPR_WEAR_LIM.TRIM. -/
def F.SPR_WEAR_LIM_TRIM : Fld := ⟨0xA, 0x5C, 8, 8, .rw, 8, .p, 0, 0xFF⟩
/-- SPR_WEAR_LIM.CORES. -/
def F.SPR_WEAR_LIM_CORES : Fld := ⟨0xA, 0x5C, 0, 8, .rw, 4, .p, 0, 0xFF⟩
/-- SPR_DYN_LAST.COUNT. -/
def F.SPR_DYN_LAST_COUNT : Fld := ⟨0xA, 0x60, 0, 23, .ro, 0, .p, 0, 0x7FFFFF⟩
/-- SPR_DYN_PEAK.COUNT. -/
def F.SPR_DYN_PEAK_COUNT : Fld := ⟨0xA, 0x64, 0, 23, .ro, 0, .p, 0, 0x7FFFFF⟩
/-- SPR_DYN_PREV.COUNT. -/
def F.SPR_DYN_PREV_COUNT : Fld := ⟨0xA, 0x68, 0, 23, .ro, 0, .p, 0, 0x7FFFFF⟩
/-- SPR_REQ.GO. -/
def F.SPR_REQ_GO : Fld := ⟨0xA, 0x6C, 31, 1, .wo, 0, .c, 0, 1⟩
/-- SPR_REQ.OP. -/
def F.SPR_REQ_OP : Fld := ⟨0xA, 0x6C, 28, 3, .rw, 0, .c, 1, 3⟩
/-- SPR_REQ.TYPE. -/
def F.SPR_REQ_TYPE : Fld := ⟨0xA, 0x6C, 24, 4, .rw, 0, .c, 0, 0xF⟩
/-- SPR_REQ.INSTANCE. -/
def F.SPR_REQ_INSTANCE : Fld := ⟨0xA, 0x6C, 0, 20, .rw, 0, .c, 0, 0xFFFFF⟩
/-- SPR_REQ_STAT.BUSY. -/
def F.SPR_REQ_STAT_BUSY : Fld := ⟨0xA, 0x70, 31, 1, .ro, 0, .c, 0, 1⟩
/-- SPR_REQ_STAT.STATUS. -/
def F.SPR_REQ_STAT_STATUS : Fld := ⟨0xA, 0x70, 0, 2, .ro, 0, .c, 0, 3⟩
/-- STS_STATE.BUSY. -/
def F.STS_STATE_BUSY : Fld := ⟨0xB, 0x40, 31, 1, .ro, 0, .c, 0, 1⟩
/-- STS_STATE.WAITING. -/
def F.STS_STATE_WAITING : Fld := ⟨0xB, 0x40, 24, 7, .ro, 0, .c, 0, 0x7F⟩
/-- STS_STATE.TYPE. -/
def F.STS_STATE_TYPE : Fld := ⟨0xB, 0x40, 20, 4, .ro, 0, .c, 0, 0xF⟩
/-- STS_STATE.INSTANCE. -/
def F.STS_STATE_INSTANCE : Fld := ⟨0xB, 0x40, 0, 20, .ro, 0, .c, 0, 0xFFFFF⟩
/-- STS_RESULT.VALID. -/
def F.STS_RESULT_VALID : Fld := ⟨0xB, 0x44, 31, 1, .ro, 0, .c, 0, 1⟩
/-- STS_RESULT.OUTCOME. -/
def F.STS_RESULT_OUTCOME : Fld := ⟨0xB, 0x44, 29, 2, .ro, 0, .c, 0, 3⟩
/-- STS_RESULT.TYPE. -/
def F.STS_RESULT_TYPE : Fld := ⟨0xB, 0x44, 24, 4, .ro, 0, .c, 0, 0xF⟩
/-- STS_RESULT.DETAIL. -/
def F.STS_RESULT_DETAIL : Fld := ⟨0xB, 0x44, 20, 4, .ro, 0, .c, 0, 0xF⟩
/-- STS_RESULT.INSTANCE. -/
def F.STS_RESULT_INSTANCE : Fld := ⟨0xB, 0x44, 0, 20, .ro, 0, .c, 0, 0xFFFFF⟩
/-- STS_CNT.FAILS. -/
def F.STS_CNT_FAILS : Fld := ⟨0xB, 0x48, 16, 16, .rw, 0, .w, 0, 0xFFFF⟩
/-- STS_CNT.PASSES. -/
def F.STS_CNT_PASSES : Fld := ⟨0xB, 0x48, 0, 16, .rw, 0, .w, 0, 0xFFFF⟩
/-- STS_TIME.US. -/
def F.STS_TIME_US : Fld := ⟨0xB, 0x4C, 0, 20, .ro, 0, .c, 0, 0xFFFFF⟩
/-- PRC_MP_LOAD.PEAK. -/
def F.PRC_MP_LOAD_PEAK : Fld := ⟨9, 0x40, 16, 9, .ro, 0, .c, 0, 0x1FF⟩
/-- PRC_MP_LOAD.OVF. -/
def F.PRC_MP_LOAD_OVF : Fld := ⟨9, 0x40, 15, 1, .w1c, 0, .c, 0, 1⟩
/-- PRC_MP_LOAD.BUSY. -/
def F.PRC_MP_LOAD_BUSY : Fld := ⟨9, 0x40, 0, 10, .ro, 0, .c, 0, 0x3FF⟩
/-- PRC_EVQ.MERGED. -/
def F.PRC_EVQ_MERGED : Fld := ⟨9, 0x44, 16, 16, .rw, 0, .w, 0, 0xFFFF⟩
/-- PRC_EVQ.FILL. -/
def F.PRC_EVQ_FILL : Fld := ⟨9, 0x44, 0, 9, .ro, 0, .c, 0, 0x1FF⟩
/-- PRC_MAP.SPARE. -/
def F.PRC_MAP_SPARE : Fld := ⟨9, 0x48, 16, 3, .ro, 4, .w, 0, 7⟩
/-- PRC_MAP.EP. -/
def F.PRC_MAP_EP : Fld := ⟨9, 0x48, 12, 3, .ro, 3, .w, 0, 7⟩
/-- PRC_MAP.LP. -/
def F.PRC_MAP_LP : Fld := ⟨9, 0x48, 8, 3, .ro, 2, .w, 0, 7⟩
/-- PRC_MAP.CP. -/
def F.PRC_MAP_CP : Fld := ⟨9, 0x48, 4, 3, .ro, 1, .w, 0, 7⟩
/-- PRC_MAP.MP. -/
def F.PRC_MAP_MP : Fld := ⟨9, 0x48, 0, 3, .ro, 0, .w, 0, 7⟩
/-- PRC_CORE.CORE. -/
def F.PRC_CORE_CORE (j : Nat) : Fld := ⟨9, 0x4C, 4 * j, 3, .ro, (if j = 4 then 1 else 0), .w, 0, 7⟩
/-- PRC_WDOG.EXPIRIES. -/
def F.PRC_WDOG_EXPIRIES : Fld := ⟨9, 0x50, 16, 16, .rw, 0, .w, 0, 0xFFFF⟩
/-- PRC_WDOG.TMO. -/
def F.PRC_WDOG_TMO : Fld := ⟨9, 0x50, 0, 16, .rw, 0x64, .p, 0xA, 0x3E8⟩

/-! ### The registers, for an access by address -/

/-- The registers of 01_anatomy.md. -/
def regRows01 : List RegRow := [
  ⟨6, 1, 0x40, 0, 1, 0, 1, fun _ _ _ => [F.EVT_GRP_SUM_GRP]⟩,
  ⟨6, 1, 0x44, 4, 3, 0, 1, fun _ n _ => (List.range (if n = 2 then 4 else 8)).map (F.EVT_VEC_MAP_VEC n)⟩,
  ⟨6, 1, 0x50, 0, 1, 0, 1, fun _ _ _ => [F.EVT_IRQ_EN_IRQ]⟩,
  ⟨7, 1, 0x40, 0, 1, 0, 1, fun _ _ _ => [F.EVT_PKG_SUM_DIE_B, F.EVT_PKG_SUM_GRP_B]⟩,
  ⟨0, 1, 0x40, 0, 1, 0, 1, fun _ _ _ => [F.SYS_SERIAL_LO_SERIAL]⟩,
  ⟨0, 1, 0x44, 0, 1, 0, 1, fun _ _ _ => [F.SYS_SERIAL_HI_SERIAL]⟩,
  ⟨0, 1, 0x48, 0, 1, 0, 1, fun _ _ _ => [F.SYS_IDENT_PKGCFG, F.SYS_IDENT_BOOT, F.SYS_IDENT_CLKMODE, F.SYS_IDENT_LEAD, F.SYS_IDENT_DIE, F.SYS_IDENT_PKG]⟩,
  ⟨8, 1, 0x40, 0x10, 8, 0, 1, fun _ n _ => [F.MBX_CMD_GO n, F.MBX_CMD_TAG n, F.MBX_CMD_OPCODE n]⟩,
  ⟨8, 1, 0x44, 0x10, 8, 0, 1, fun _ n _ => [F.MBX_ARG_ARG n]⟩,
  ⟨8, 1, 0x48, 0x10, 8, 0, 1, fun _ n _ => [F.MBX_RSP_BUSY n, F.MBX_RSP_COLL n, F.MBX_RSP_TAG n, F.MBX_RSP_STATUS n]⟩,
  ⟨8, 1, 0x4C, 0x10, 8, 0, 1, fun _ n _ => [F.MBX_DATA_DATA n]⟩]

/-- The registers of 02_sensor_port_and_rake.md. -/
def regRows02 : List RegRow := [
  ⟨0x20, 1, 8, 0, 1, 0, 1, fun _ _ _ => [F.SEQ_CTRL_START, F.SEQ_CTRL_NOBIAS, F.SEQ_CTRL_LINKAFE, F.SEQ_CTRL_STOPMODE, F.SEQ_CTRL_EN]⟩,
  ⟨0x20, 1, 0x40, 0, 1, 0, 1, fun _ _ _ => [F.SEQ_PC_STATE, F.SEQ_PC_PC]⟩,
  ⟨0x20, 1, 0x44, 0, 1, 0, 1, fun _ _ _ => [F.SEQ_CNT_C1, F.SEQ_CNT_C0]⟩,
  ⟨0x20, 1, 0x48, 0, 1, 0, 1, fun _ _ _ => [F.SEQ_ROW_RA]⟩,
  ⟨0x20, 1, 0x4C, 0, 1, 0, 1, fun _ _ _ => [F.SEQ_FRAME_LEN_LEN]⟩,
  ⟨0x20, 1, 0x50, 0, 1, 0, 1, fun _ _ _ => [F.SEQ_SYNC_OFFSET, F.SEQ_SYNC_DIV_M1, F.SEQ_SYNC_SRC]⟩,
  ⟨0x20, 1, 0x54, 0, 1, 0, 1, fun _ _ _ => [F.SEQ_WIN_ROWS_M1, F.SEQ_WIN_ROW0]⟩,
  ⟨0x20, 1, 0x58, 0, 1, 0, 1, fun _ _ _ => [F.SEQ_LOOP1_COUNT]⟩,
  ⟨0x20, 1, 0x5C, 0, 1, 0, 1, fun _ _ _ => [F.SEQ_ARRAY_NCLU_M1, F.SEQ_ARRAY_ROWS_M1]⟩,
  ⟨0x20, 1, 0x60, 0, 1, 0, 1, fun _ _ _ => [F.SEQ_FCFG_GAIN]⟩,
  ⟨0x20, 1, 0x64, 0, 1, 0, 1, fun _ _ _ => [F.SEQ_FRAME_NUM_LO_NUM]⟩,
  ⟨0x20, 1, 0x68, 0, 1, 0, 1, fun _ _ _ => [F.SEQ_FRAME_NUM_HI_NUM]⟩,
  ⟨0x20, 1, 0x6C, 0, 1, 0, 1, fun _ _ _ => [F.SEQ_FAULT_CAUSE, F.SEQ_FAULT_ADDR]⟩,
  ⟨0x20, 1, 0x70, 0, 1, 0, 1, fun _ _ _ => [F.SEQ_LIMITS_EXPORT]⟩,
  ⟨0x20, 1, 0x74, 0, 1, 0, 1, fun _ _ _ => [F.SEQ_TICK_ERR_MISSED, F.SEQ_TICK_ERR_LATE]⟩,
  ⟨0x21, 1, 0x40, 0, 1, 0, 1, fun _ _ _ => [F.AFE_OUT_EN_VDET, F.AFE_OUT_EN_VBLIND, F.AFE_OUT_EN_VREFC, F.AFE_OUT_EN_VSA, F.AFE_OUT_EN_VSD]⟩,
  ⟨0x21, 1, 0x44, 0, 1, 0, 1, fun _ _ _ => [F.AFE_OUT_STAT_TRIPPED, F.AFE_OUT_STAT_RAMPING, F.AFE_OUT_STAT_GOOD]⟩,
  ⟨0x21, 1, 0x48, 0, 1, 0, 1, fun _ _ _ => [F.AFE_VDET_CODE]⟩,
  ⟨0x21, 1, 0x4C, 0, 1, 0, 1, fun _ _ _ => [F.AFE_VBLIND_CODE]⟩,
  ⟨0x21, 1, 0x50, 0, 1, 0, 1, fun _ _ _ => [F.AFE_VSA_CODE]⟩,
  ⟨0x21, 1, 0x54, 0, 1, 0, 1, fun _ _ _ => [F.AFE_VREFC_CODE]⟩,
  ⟨0x21, 1, 0x58, 0, 1, 0, 1, fun _ _ _ => [F.AFE_RAMP_VSTEP, F.AFE_RAMP_RATE]⟩,
  ⟨0x21, 1, 0x5C, 0, 1, 0, 1, fun _ _ _ => [F.AFE_ILIM_VSD, F.AFE_ILIM_VSA, F.AFE_ILIM_VBLIND, F.AFE_ILIM_VDET]⟩,
  ⟨0x21, 1, 0x60, 0, 1, 0, 1, fun _ _ _ => [F.AFE_TRIP_CAUSE, F.AFE_TRIP_FILT]⟩,
  ⟨0x21, 1, 0x64, 0, 1, 0, 1, fun _ _ _ => [F.AFE_IMON0_VBLIND, F.AFE_IMON0_VDET]⟩,
  ⟨0x21, 1, 0x68, 0, 1, 0, 1, fun _ _ _ => [F.AFE_IMON1_VSD, F.AFE_IMON1_VSA]⟩,
  ⟨0x21, 1, 0x6C, 4, 2, 0, 1, fun _ n _ => [F.AFE_FPD_VALID n, F.AFE_FPD_FAIL n, F.AFE_FPD_TEMP n]⟩,
  ⟨0x21, 1, 0x74, 0, 1, 0, 1, fun _ _ _ => [F.AFE_FPD_CFG_SEL]⟩]

/-- The registers of 03_array_converters_and_trims.md. -/
def regRows03 : List RegRow := [
  ⟨0x23, 1, 8, 0, 1, 0, 1, fun _ _ _ => [F.ACB_CTRL_LINKSEQ, F.ACB_CTRL_CHK_EN, F.ACB_CTRL_AUTOCORE, F.ACB_CTRL_EN]⟩,
  ⟨0x23, 1, 0x40, 0, 1, 0, 1, fun _ _ _ => [F.ACB_WIN_SHIFT, F.ACB_WIN_CNT, F.ACB_WIN_SKIP]⟩,
  ⟨0x23, 1, 0x44, 0, 1, 0, 1, fun _ _ _ => [F.ACB_MODE_LPCORE, F.ACB_MODE_LPM]⟩,
  ⟨0x23, 1, 0x48, 4, 3, 0, 1, fun _ n _ => [F.ACB_GAIN_PED n, F.ACB_GAIN_AGAIN n]⟩,
  ⟨0x23, 1, 0x54, 0, 1, 0, 1, fun _ _ _ => [F.ACB_CHK_TOL]⟩,
  ⟨0x23, 1, 0x58, 0, 1, 0, 1, fun _ _ _ => [F.ACB_OVR_LIM_LIMIT]⟩,
  ⟨0x23, 1, 0x5C, 0, 1, 0, 1, fun _ _ _ => [F.ACB_OVR_CNT_COUNT]⟩,
  ⟨0x23, 1, 0x60, 0, 1, 0, 1, fun _ _ _ => [F.ACB_GANG_ARM]⟩,
  ⟨0x23, 1, 0x64, 0, 1, 0, 1, fun _ _ _ => [F.ACB_STATE_WARMUP, F.ACB_STATE_SETTLING, F.ACB_STATE_LPM, F.ACB_STATE_GAIN]⟩,
  ⟨0x23, 1, 0x68, 0, 1, 0, 1, fun _ _ _ => [F.ACB_DEG_CNT_VOID, F.ACB_DEG_CNT_DEG]⟩,
  ⟨0x24, 4, 0x40, 0, 1, 0, 1, fun n _ _ => [F.ACB_CAP_CTRL_ARM n, F.ACB_CAP_CTRL_DONE n, F.ACB_CAP_CTRL_ROW n, F.ACB_CAP_CTRL_COL n]⟩,
  ⟨0x24, 4, 0x44, 0, 1, 0, 1, fun n _ _ => [F.ACB_CAP_E_SUM n]⟩,
  ⟨0x24, 4, 0x48, 0, 1, 0, 1, fun n _ _ => [F.ACB_CAP_L_SUM n]⟩,
  ⟨0x24, 4, 0x4C, 0, 1, 0, 1, fun n _ _ => [F.ACB_CAP_P_N n, F.ACB_CAP_P_P n]⟩,
  ⟨0x24, 4, 0x50, 0, 1, 0, 1, fun n _ _ => [F.ACB_CAP_F_NE n, F.ACB_CAP_F_GAIN n, F.ACB_CAP_F_OVR n, F.ACB_CAP_F_TRIMERR n, F.ACB_CAP_F_VOID n, F.ACB_CAP_F_UNDER n, F.ACB_CAP_F_DEG n]⟩,
  ⟨0x24, 4, 0x54, 0, 1, 0, 1, fun n _ _ => [F.ACB_CAP_FRAME_FRAME n]⟩,
  ⟨0x24, 4, 0x58, 0, 1, 0, 1, fun n _ _ => [F.ACB_UNDER_CNT_COUNT n]⟩,
  ⟨0x24, 4, 0x5C, 0, 1, 0, 1, fun n _ _ => [F.ACB_CLOSE_CYCLES n]⟩,
  ⟨0x22, 1, 0x40, 0, 1, 0, 1, fun _ _ _ => [F.TRM_MAP_BASE_BASE]⟩,
  ⟨0x22, 1, 0x44, 0, 1, 0, 1, fun _ _ _ => [F.TRM_STAGE_BASE_BASE]⟩,
  ⟨0x22, 1, 0x48, 0, 1, 0, 1, fun _ _ _ => [F.TRM_LOAD_ERR, F.TRM_LOAD_GO]⟩,
  ⟨0x22, 1, 0x4C, 0, 1, 0, 1, fun _ _ _ => [F.TRM_SWITCH_ROWS_LEFT, F.TRM_SWITCH_ACTIVE]⟩,
  ⟨0x22, 1, 0x50, 0, 1, 0, 1, fun _ _ _ => [F.TRM_ERR_ADDR_UNCORR, F.TRM_ERR_ADDR_ROW, F.TRM_ERR_ADDR_WORD]⟩,
  ⟨0x22, 1, 0x54, 0, 1, 0, 1, fun _ _ _ => [F.TRM_PEEK_ROW, F.TRM_PEEK_COL]⟩,
  ⟨0x22, 1, 0x58, 0, 1, 0, 1, fun _ _ _ => [F.TRM_PEEK_DATA_UNCORR, F.TRM_PEEK_DATA_BYPASS, F.TRM_PEEK_DATA_TRIM]⟩,
  ⟨0x22, 1, 0x5C, 0, 1, 0, 1, fun _ _ _ => [F.TRM_BYPASS_USED]⟩,
  ⟨0x22, 1, 0x60, 0, 1, 0, 1, fun _ _ _ => [F.TRM_LATE_CNT_COUNT]⟩,
  ⟨0x80, 32, 8, 0, 1, 0, 1, fun n _ _ => [F.CLU_CTRL_AUTOGRAFT n, F.CLU_CTRL_EN n]⟩,
  ⟨0x80, 32, 0x40, 0, 1, 0, 1, fun n _ _ => [F.CLU_GRAFT_REQCH n, F.CLU_GRAFT_CAUSE n, F.CLU_GRAFT_RELEASE n, F.CLU_GRAFT_GRAFT n, F.CLU_GRAFT_ACTIVE n, F.CLU_GRAFT_CH n]⟩,
  ⟨0x80, 32, 0x44, 0, 1, 0, 1, fun n _ _ => [F.CLU_CORE0_OUT_OUT n]⟩,
  ⟨0x80, 32, 0x48, 0, 1, 0, 1, fun n _ _ => [F.CLU_CORE1_OUT_OUT n]⟩,
  ⟨0x80, 32, 0x4C, 0, 1, 0, 1, fun n _ _ => [F.CLU_VOID_VOID n]⟩,
  ⟨0x80, 32, 0x50, 0, 1, 0, 1, fun n _ _ => [F.CLU_CORE_REQ_RETURN n, F.CLU_CORE_REQ_REMOVE n, F.CLU_CORE_REQ_CORE n, F.CLU_CORE_REQ_CH n]⟩,
  ⟨0x80, 32, 0x54, 0, 1, 0, 1, fun n _ _ => [F.CLU_CHK_STAT_FAILS n, F.CLU_CHK_STAT_LAST_ERR n, F.CLU_CHK_STAT_LAST_CORE n, F.CLU_CHK_STAT_LAST_CH n]⟩,
  ⟨0x80, 32, 0x100, 4, 48, 0, 1, fun n k _ => [F.CLU_CBIAS_ODD n k, F.CLU_CBIAS_EVEN n k]⟩,
  ⟨0x80, 32, 0x200, 0x10, 17, 0, 1, fun n k _ => [F.CLU_CTRIM0_GAIN n k, F.CLU_CTRIM0_OFFSET n k]⟩,
  ⟨0x80, 32, 0x204, 0x10, 17, 0, 1, fun n k _ => [F.CLU_CTRIM1_GAIN n k, F.CLU_CTRIM1_OFFSET n k]⟩,
  ⟨0x80, 32, 0x208, 0x10, 17, 0, 1, fun n k _ => [F.CLU_SKEW_SKEW n k]⟩]

/-- The registers of 04_sieve.md. -/
def regRows04 : List RegRow := [
  ⟨0x30, 1, 8, 0, 1, 0, 1, fun _ _ _ => [F.SVE_CTRL_AUTOGRAFT, F.SVE_CTRL_EN]⟩,
  ⟨0x30, 1, 0x40, 0, 1, 0, 1, fun _ _ _ => [F.SVE_MODE_TWIN, F.SVE_MODE_BREF]⟩,
  ⟨0x30, 1, 0x44, 0, 1, 0, 1, fun _ _ _ => [F.SVE_DRIFT_THSEL, F.SVE_DRIFT_H_SHIFT, F.SVE_DRIFT_D2_SHIFT, F.SVE_DRIFT_D1_SHIFT]⟩,
  ⟨0x30, 1, 0x48, 0, 1, 0, 1, fun _ _ _ => [F.SVE_TF0_TF0]⟩,
  ⟨0x30, 1, 0x4C, 0, 1, 0, 1, fun _ _ _ => [F.SVE_TH0_TH0]⟩,
  ⟨0x30, 1, 0x50, 0, 1, 0, 1, fun _ _ _ => [F.SVE_TH_HOST_TH]⟩,
  ⟨0x30, 1, 0x54, 0, 1, 0, 1, fun _ _ _ => [F.SVE_DTF_SAT, F.SVE_DTF_DTF]⟩,
  ⟨0x30, 1, 0x58, 0, 1, 0, 1, fun _ _ _ => [F.SVE_DTH_SAT, F.SVE_DTH_HOLDING, F.SVE_DTH_DTH]⟩,
  ⟨0x30, 1, 0x5C, 4, 3, 0, 1, fun _ n _ => [F.SVE_K_K n]⟩,
  ⟨0x30, 1, 0x68, 0, 1, 0, 1, fun _ _ _ => [F.SVE_SLICE_TWINACT, F.SVE_SLICE_SPARE_BUSY, F.SVE_SLICE_OUT] ++ (List.range 4).map (F.SVE_SLICE_SLICE)⟩,
  ⟨0x30, 1, 0x6C, 0, 1, 0, 1, fun _ _ _ => [F.SVE_SLICE_REQ_RETURN, F.SVE_SLICE_REQ_REMOVE, F.SVE_SLICE_REQ_SLICE]⟩,
  ⟨0x30, 1, 0x70, 0, 1, 0, 1, fun _ _ _ => [F.SVE_TWIN_LIMIT]⟩,
  ⟨0x30, 1, 0x74, 0, 1, 0, 1, fun _ _ _ => [F.SVE_FSTAT_TWINFAIL, F.SVE_FSTAT_ARITH]⟩,
  ⟨0x30, 1, 0x78, 0, 1, 0, 1, fun _ _ _ => [F.SVE_SAT_CNT_COUNT]⟩,
  ⟨0x30, 1, 0x7C, 0, 1, 0, 1, fun _ _ _ => [F.SVE_RESID_LAST_SLICE, F.SVE_RESID_LAST_STAGE, F.SVE_RESID_LAST_ROW, F.SVE_RESID_LAST_COL]⟩,
  ⟨0x30, 1, 0x80, 0, 1, 0, 1, fun _ _ _ => [F.SVE_CAP_CTRL_ARM, F.SVE_CAP_CTRL_DONE, F.SVE_CAP_CTRL_ROW, F.SVE_CAP_CTRL_COL]⟩,
  ⟨0x30, 1, 0x84, 0, 1, 0, 1, fun _ _ _ => [F.SVE_CAP_A_VALUE]⟩,
  ⟨0x30, 1, 0x88, 0, 1, 0, 1, fun _ _ _ => [F.SVE_CAP_S_VALUE]⟩,
  ⟨0x30, 1, 0x8C, 0, 1, 0, 1, fun _ _ _ => [F.SVE_CAP_X_VALUE]⟩,
  ⟨0x30, 1, 0x90, 0, 1, 0, 1, fun _ _ _ => [F.SVE_CAP_YT_T, F.SVE_CAP_YT_Y]⟩,
  ⟨0x30, 1, 0x94, 0, 1, 0, 1, fun _ _ _ => [F.SVE_CAP_F_SLICE, F.SVE_CAP_F_INVALID, F.SVE_CAP_F_OVRSAT, F.SVE_CAP_F_HIT, F.SVE_CAP_F_MARKED, F.SVE_CAP_F_SAT, F.SVE_CAP_F_TWINFAIL, F.SVE_CAP_F_ARITH, F.SVE_CAP_F_DYN, F.SVE_CAP_F_FLAGS]⟩,
  ⟨0x30, 1, 0x98, 0, 1, 0, 1, fun _ _ _ => [F.SVE_CAP_FRAME_FRAME]⟩,
  ⟨0x31, 1, 8, 0, 1, 0, 1, fun _ _ _ => [F.WDR_CTRL_USEDYN, F.WDR_CTRL_AUTOCLR, F.WDR_CTRL_AUDIT, F.WDR_CTRL_EN]⟩,
  ⟨0x31, 1, 0x40, 0, 1, 0, 1, fun _ _ _ => [F.WDR_DMAP_BASE_BASE]⟩,
  ⟨0x31, 1, 0x44, 0, 1, 0, 1, fun _ _ _ => [F.WDR_AUDIT_FRAMES_M1]⟩,
  ⟨0x31, 1, 0x48, 0, 1, 0, 1, fun _ _ _ => [F.WDR_STUCK_SCENE, F.WDR_STUCK_RANGE]⟩,
  ⟨0x31, 1, 0x4C, 0, 1, 0, 1, fun _ _ _ => [F.WDR_NOISY_LIMIT]⟩,
  ⟨0x31, 1, 0x50, 0, 1, 0, 1, fun _ _ _ => [F.WDR_FLICKER_COUNT, F.WDR_FLICKER_STEP]⟩,
  ⟨0x31, 1, 0x54, 0, 1, 0, 1, fun _ _ _ => [F.WDR_AUDIT_STAT_ACTIVE, F.WDR_AUDIT_STAT_FRAME, F.WDR_AUDIT_STAT_BAND]⟩,
  ⟨0x31, 1, 0x58, 0, 1, 0, 1, fun _ _ _ => [F.WDR_DYN_CNT_COUNT]⟩,
  ⟨0x31, 1, 0x5C, 0, 1, 0, 1, fun _ _ _ => [F.WDR_DYN_LIM_LIMIT]⟩,
  ⟨0x31, 1, 0x60, 0, 1, 0, 1, fun _ _ _ => [F.WDR_FSTAT_UNFILLED, F.WDR_FSTAT_FILLED]⟩,
  ⟨0x31, 1, 0x64, 0, 1, 0, 1, fun _ _ _ => [F.WDR_LAST_TEST, F.WDR_LAST_ROW, F.WDR_LAST_COL]⟩,
  ⟨0x32, 1, 8, 0, 1, 0, 1, fun _ _ _ => [F.RAD_CTRL_ALARM_EN, F.RAD_CTRL_PINMODE, F.RAD_CTRL_OVRSAT, F.RAD_CTRL_PIN_EN, F.RAD_CTRL_HS_EN, F.RAD_CTRL_EN]⟩,
  ⟨0x32, 1, 0x40, 0, 1, 0, 1, fun _ _ _ => [F.RAD_HS_CLR_CLR]⟩,
  ⟨0x32, 1, 0x44, 0, 1, 0, 1, fun _ _ _ => [F.RAD_TILE_DEF_CLASS, F.RAD_TILE_DEF_ALARM, F.RAD_TILE_DEF_PIN, F.RAD_TILE_DEF_EN, F.RAD_TILE_DEF_THRESH]⟩,
  ⟨0x32, 1, 0x48, 0, 1, 0, 1, fun _ _ _ => [F.RAD_ALARM_REPEAT]⟩,
  ⟨0x32, 1, 0x4C, 0, 1, 0, 1, fun _ _ _ => [F.RAD_HIT_POS_ROW, F.RAD_HIT_POS_COL]⟩,
  ⟨0x32, 1, 0x50, 0, 1, 0, 1, fun _ _ _ => [F.RAD_HIT_INFO_VALID, F.RAD_HIT_INFO_TWIN, F.RAD_HIT_INFO_CLASS, F.RAD_HIT_INFO_T]⟩,
  ⟨0x32, 1, 0x54, 0, 1, 0, 1, fun _ _ _ => [F.RAD_HIT_FRAME_FRAME]⟩]

/-- The registers of 04_sieve.md. -/
def regRows04b : List RegRow := [
  ⟨0x32, 1, 0x58, 0, 1, 0, 1, fun _ _ _ => [F.RAD_HIT_CNT_TILES]⟩,
  ⟨0x32, 1, 0x5C, 0, 1, 0, 1, fun _ _ _ => [F.RAD_MAP_BASE_BASE]⟩,
  ⟨0x32, 1, 0x60, 0, 1, 0, 1, fun _ _ _ => [F.RAD_MAP_IDX_FRAME, F.RAD_MAP_IDX_WRITTEN, F.RAD_MAP_IDX_SLOT]⟩,
  ⟨0x32, 1, 0x64, 0, 1, 0, 1, fun _ _ _ => [F.RAD_BANK_COPYING]⟩,
  ⟨0x33, 1, 8, 0, 1, 0, 1, fun _ _ _ => [F.CMM_CTRL_LINKCAL, F.CMM_CTRL_EN]⟩,
  ⟨0x33, 1, 0x40, 4, 3, 0, 1, fun _ n _ => [F.CMM_PLANE_BASE n]⟩,
  ⟨0x33, 1, 0x4C, 0, 1, 0, 1, fun _ _ _ => [F.CMM_LATE_CNT_COUNT]⟩,
  ⟨0x33, 1, 0x50, 0, 1, 0, 1, fun _ _ _ => [F.CMM_ERR_ADDR_GAIN, F.CMM_ERR_ADDR_ROW, F.CMM_ERR_ADDR_COL]⟩,
  ⟨0x33, 1, 0x54, 0, 1, 0, 1, fun _ _ _ => [F.CMM_FETCH_MAX, F.CMM_FETCH_LAST]⟩,
  ⟨0x33, 1, 0x58, 0, 1, 0, 1, fun _ _ _ => [F.CMM_HASH_CTRL_BUSY, F.CMM_HASH_CTRL_SEL, F.CMM_HASH_CTRL_GO]⟩,
  ⟨0x33, 1, 0x5C, 0, 1, 0, 1, fun _ _ _ => [F.CMM_HASH_BASE_BASE]⟩,
  ⟨0x33, 1, 0x60, 4, 8, 0, 1, fun _ n _ => [F.CMM_HASH_DIGEST n]⟩]

/-- The registers of 05_calibration_and_cloche.md. -/
def regRows05 : List RegRow := [
  ⟨0x28, 1, 8, 0, 1, 0, 1, fun _ _ _ => [F.CAL_CTRL_RESTORE_TRIM, F.CAL_CTRL_INHIBIT, F.CAL_CTRL_GREF_EN, F.CAL_CTRL_BG_EN, F.CAL_CTRL_AUTO, F.CAL_CTRL_EN]⟩,
  ⟨0x28, 1, 0x40, 0, 1, 0, 1, fun _ _ _ => [F.CAL_STATE_PAIRED, F.CAL_STATE_BG_IDLE, F.CAL_STATE_F, F.CAL_STATE_WARM, F.CAL_STATE_REASON, F.CAL_STATE_PHASE]⟩,
  ⟨0x28, 1, 0x44, 0, 1, 0, 1, fun _ _ _ => [F.CAL_POLICY_FIRST, F.CAL_POLICY_DEFER_MAX, F.CAL_POLICY_MAX_INT, F.CAL_POLICY_MIN_INT]⟩,
  ⟨0x28, 1, 0x48, 0, 1, 0, 1, fun _ _ _ => [F.CAL_OFS_TARGET, F.CAL_OFS_SETTLE, F.CAL_OFS_FRAMES_M1]⟩,
  ⟨0x28, 1, 0x4C, 0, 1, 0, 1, fun _ _ _ => [F.CAL_ACPT_BLADE_TOL, F.CAL_ACPT_TF_TOL, F.CAL_ACPT_MEAN_TOL, F.CAL_ACPT_PIX_TOL]⟩,
  ⟨0x28, 1, 0x50, 0, 1, 0, 1, fun _ _ _ => [F.CAL_MAXBAD_MAXBAD]⟩,
  ⟨0x28, 1, 0x54, 0, 1, 0, 1, fun _ _ _ => [F.CAL_DRIFT0_KH, F.CAL_DRIFT0_KF]⟩,
  ⟨0x28, 1, 0x58, 0, 1, 0, 1, fun _ _ _ => [F.CAL_DRIFT1_LIMIT, F.CAL_DRIFT1_KT]⟩,
  ⟨0x28, 1, 0x5C, 0, 1, 0, 1, fun _ _ _ => [F.CAL_PRED_PRED]⟩,
  ⟨0x28, 1, 0x60, 0, 1, 0, 1, fun _ _ _ => [F.CAL_BLADE_OFFSET]⟩,
  ⟨0x28, 1, 0x64, 0, 1, 0, 1, fun _ _ _ => [F.CAL_GREF_PAIR_MAX, F.CAL_GREF_TOL, F.CAL_GREF_MAXSTEP, F.CAL_GREF_DELTA]⟩,
  ⟨0x28, 1, 0x68, 0, 1, 0, 1, fun _ _ _ => [F.CAL_BG_TOL_S, F.CAL_BG_TOL_O, F.CAL_BG_TOL_G, F.CAL_BG_SPUR_LIM]⟩,
  ⟨0x28, 1, 0x6C, 0, 1, 0, 1, fun _ _ _ => [F.CAL_WORK_BASE]⟩,
  ⟨0x28, 1, 0x70, 4, 3, 0, 1, fun _ n _ => [F.CAL_ALT_BASE n]⟩,
  ⟨0x28, 1, 0x7C, 0, 1, 0, 1, fun _ _ _ => [F.CAL_SET_ID_ID]⟩,
  ⟨0x28, 1, 0x80, 0, 1, 0, 1, fun _ _ _ => [F.CAL_SET_GEN_GEN]⟩,
  ⟨0x28, 1, 0x84, 4, 8, 0, 1, fun _ n _ => [F.CAL_HASH_DIGEST n]⟩,
  ⟨0x28, 1, 0xA4, 0, 1, 0, 1, fun _ _ _ => [F.CAL_Q_FPN_POST, F.CAL_Q_FPN_PRE]⟩,
  ⟨0x28, 1, 0xA8, 0, 1, 0, 1, fun _ _ _ => [F.CAL_Q_SPUR_CH, F.CAL_Q_SPUR_SPUR]⟩,
  ⟨0x28, 1, 0xAC, 0, 1, 0, 1, fun _ _ _ => [F.CAL_RES_RESULT, F.CAL_RES_BAD]⟩,
  ⟨0x28, 1, 0xB0, 0, 1, 0, 1, fun _ _ _ => [F.CAL_EXCL_EXCL]⟩,
  ⟨0x28, 1, 0xB4, 0, 1, 0, 1, fun _ _ _ => [F.CAL_AGE_AGE]⟩,
  ⟨0x28, 1, 0xB8, 0, 1, 0, 1, fun _ _ _ => [F.CAL_CNT_REJECTED, F.CAL_CNT_ACCEPTED]⟩,
  ⟨0x28, 1, 0xBC, 0, 1, 0, 1, fun _ _ _ => [F.CAL_PAIR_WAIT, F.CAL_PAIR_GRANT, F.CAL_PAIR_PAIR, F.CAL_PAIR_LOCAL, F.CAL_PAIR_GAP]⟩,
  ⟨0x28, 1, 0xC0, 0, 1, 0, 1, fun _ _ _ => [F.CAL_REC_GEN, F.CAL_REC_SLOT, F.CAL_REC_SAVE_MIN]⟩,
  ⟨0x29, 1, 8, 0, 1, 0, 1, fun _ _ _ => [F.CLO_CTRL_AUTOHOME, F.CLO_CTRL_EN]⟩,
  ⟨0x29, 1, 0x40, 0, 1, 0, 1, fun _ _ _ => [F.CLO_DRV_HALL1_POL, F.CLO_DRV_HALL0_POL, F.CLO_DRV_PAIR]⟩,
  ⟨0x29, 1, 0x44, 0, 1, 0, 1, fun _ _ _ => [F.CLO_PROF_CLOSE_BRAKE, F.CLO_PROF_CLOSE_BOOST, F.CLO_PROF_CLOSE_RUN, F.CLO_PROF_CLOSE_BOOST_DUTY]⟩,
  ⟨0x29, 1, 0x48, 0, 1, 0, 1, fun _ _ _ => [F.CLO_PROF_OPEN_BRAKE, F.CLO_PROF_OPEN_BOOST, F.CLO_PROF_OPEN_RUN, F.CLO_PROF_OPEN_BOOST_DUTY]⟩,
  ⟨0x29, 1, 0x4C, 0, 1, 0, 1, fun _ _ _ => [F.CLO_TMAX_FORCE, F.CLO_TMAX_MOVE_TMO]⟩,
  ⟨0x29, 1, 0x50, 0, 1, 0, 1, fun _ _ _ => [F.CLO_CMD_HOME, F.CLO_CMD_OPEN, F.CLO_CMD_CLOSE]⟩,
  ⟨0x29, 1, 0x54, 0, 1, 0, 1, fun _ _ _ => [F.CLO_POS_CLOSURE, F.CLO_POS_OPEN_T, F.CLO_POS_CLOSE_T, F.CLO_POS_STATE, F.CLO_POS_HALL1, F.CLO_POS_HALL0]⟩,
  ⟨0x29, 1, 0x58, 0, 1, 0, 1, fun _ _ _ => [F.CLO_HTR_TARGET, F.CLO_HTR_TMAX, F.CLO_HTR_LOOP, F.CLO_HTR_TSEL, F.CLO_HTR_EN]⟩,
  ⟨0x29, 1, 0x5C, 0, 1, 0, 1, fun _ _ _ => [F.CLO_HTR_STAT_READY, F.CLO_HTR_STAT_TRIP, F.CLO_HTR_STAT_VALID, F.CLO_HTR_STAT_TEMP]⟩,
  ⟨0x29, 1, 0x60, 0, 1, 0, 1, fun _ _ _ => [F.CLO_HTR_Q_SETTLE, F.CLO_HTR_Q_ERR]⟩,
  ⟨0x29, 1, 0x64, 0, 1, 0, 1, fun _ _ _ => [F.CLO_MOVES_COUNT]⟩,
  ⟨0x29, 1, 0x68, 0, 1, 0, 1, fun _ _ _ => [F.CLO_WEAR_LIMIT]⟩]

/-- The registers of 06_camera_inputs_and_pipeline.md. -/
def regRows06 : List RegRow := [
  ⟨0x40, 4, 0x40, 0, 1, 0, 1, fun n _ _ => [F.CSI_PHY_RATE n, F.CSI_PHY_DESKEW n, F.CSI_PHY_LANES n]⟩,
  ⟨0x40, 4, 0x44, 0, 1, 0, 1, fun n _ _ => [F.CSI_LANEMAP_CLKPOL n, F.CSI_LANEMAP_POL n] ++ (List.range 4).map (F.CSI_LANEMAP_L n)⟩,
  ⟨0x40, 4, 0x48, 0, 1, 0, 1, fun n _ _ => [F.CSI_LINK_CLK_HS n, F.CSI_LINK_ULPS n, F.CSI_LINK_SYNC n, F.CSI_LINK_STOP n]⟩,
  ⟨0x40, 4, 0x4C, 0, 1, 0, 1, fun n _ _ => [F.CSI_ERR_CNT_SOT n, F.CSI_ERR_CNT_CRC n, F.CSI_ERR_CNT_ECC_UNCORR n, F.CSI_ERR_CNT_ECC_CORR n]⟩,
  ⟨0x40, 4, 0x50, 0, 1, 0, 1, fun n _ _ => [F.CSI_UNMATCHED_COUNT n, F.CSI_UNMATCHED_DT n, F.CSI_UNMATCHED_VC n]⟩,
  ⟨0x40, 4, 0x54, 0, 1, 0, 1, fun n _ _ => [F.CSI_FRAME_TMO_TMO n]⟩,
  ⟨0x40, 4, 0x58, 0, 1, 0, 1, fun n _ _ => [F.CSI_BUF_PEAK n, F.CSI_BUF_FILL n]⟩,
  ⟨0x44, 1, 8, 0, 1, 0, 1, fun _ _ _ => [F.IPP_CTRL_LINKSEQ, F.IPP_CTRL_EN]⟩,
  ⟨0x44, 1, 0x40, 0, 1, 0, 1, fun _ _ _ => [F.IPP_TBL_BASE_BASE]⟩,
  ⟨0x44, 1, 0x44, 0, 1, 0, 1, fun _ _ _ => [F.IPP_LOAD_SWITCHES, F.IPP_LOAD_BUSY]⟩,
  ⟨0x44, 1, 0x48, 0, 1, 0, 1, fun _ _ _ => [F.IPP_DROP_COUNT, F.IPP_DROP_LAST]⟩,
  ⟨0x44, 1, 0x100, 0x40, 8, 0, 1, fun _ n _ => [F.CTX_SRC_EN n, F.CTX_SRC_PRIO n, F.CTX_SRC_SHARE n, F.CTX_SRC_DELAY n, F.CTX_SRC_SRC n, F.CTX_SRC_VC n, F.CTX_SRC_DT n, F.CTX_SRC_IN_SLOTS_M1 n]⟩,
  ⟨0x44, 1, 0x104, 0x40, 8, 0, 1, fun _ n _ => [F.CTX_SIZE_LINES n, F.CTX_SIZE_WIDTH n]⟩,
  ⟨0x44, 1, 0x108, 0x40, 8, 0, 1, fun _ n _ => [F.CTX_IN_BASE_BASE n]⟩,
  ⟨0x44, 1, 0x120, 0x40, 8, 0, 1, fun _ n _ => [F.CTX_TNR_BASE_BASE n]⟩,
  ⟨0x44, 1, 0x10C, 0x40, 8, 0, 1, fun _ n _ => [F.CTX_CROP_XY_Y0 n, F.CTX_CROP_XY_X0 n]⟩,
  ⟨0x44, 1, 0x110, 0x40, 8, 0, 1, fun _ n _ => [F.CTX_CROP_WH_H n, F.CTX_CROP_WH_W n]⟩,
  ⟨0x44, 1, 0x114, 0x40, 8, 0, 1, fun _ n _ => [F.CTX_PROC_BLACK n, F.CTX_PROC_BAYER n, F.CTX_PROC_MONO n, F.CTX_PROC_VTAP n, F.CTX_PROC_TONE n, F.CTX_PROC_PAL n, F.CTX_PROC_COLSET n, F.CTX_PROC_GAMMA n]⟩,
  ⟨0x44, 1, 0x118, 0x40, 8, 0, 1, fun _ n _ => [F.CTX_NR_TNR_K n, F.CTX_NR_TNR_MOT n, F.CTX_NR_SNR n, F.CTX_NR_TNR_EN n, F.CTX_NR_SNR_EN n]⟩,
  ⟨0x44, 1, 0x11C, 0x40, 8, 0, 1, fun _ n _ => [F.CTX_TONE_WIN_HIGH n, F.CTX_TONE_WIN_LOW n]⟩,
  ⟨0x44, 1, 0x124, 0x40, 8, 0, 1, fun _ n _ => [F.CTX_DISP_EN n, F.CTX_DISP_FMT n, F.CTX_DISP_W n, F.CTX_DISP_H n]⟩,
  ⟨0x44, 1, 0x128, 0x40, 8, 0, 1, fun _ n _ => [F.CTX_CODE_EN n, F.CTX_CODE_FMT n, F.CTX_CODE_W n, F.CTX_CODE_H n]⟩,
  ⟨0x44, 1, 0x12C, 0x40, 8, 0, 1, fun _ n _ => [F.CTX_VIS_EN n, F.CTX_VIS_FMT n]⟩,
  ⟨0x44, 1, 0x130, 0x40, 8, 0, 1, fun _ n _ => [F.CTX_TOKEN_GO n, F.CTX_TOKEN_VALUE n]⟩,
  ⟨0x44, 1, 0x134, 0x40, 8, 0, 1, fun _ n _ => [F.CTX_TOKEN_PENDING n, F.CTX_TOKEN_STAT_VALUE n]⟩,
  ⟨0x44, 1, 0x138, 0x40, 8, 0, 1, fun _ n _ => [F.CTX_FRAME_LO_NUM n]⟩,
  ⟨0x44, 1, 0x13C, 0x40, 8, 0, 1, fun _ n _ => [F.CTX_FRAME_HI_NUM n]⟩,
  ⟨0x45, 1, 0x40, 4, 8, 0, 1, fun _ n _ => [F.STA_CFG_BASE n, F.STA_CFG_SHIFT n]⟩,
  ⟨0x45, 1, 0x60, 0, 1, 0, 1, fun _ _ _ => [F.STA_LAST_CTX, F.STA_LAST_FRAME]⟩,
  ⟨0x46, 1, 0x40, 4, 8, 0, 1, fun _ n _ => [F.OUT_BASE_BASE n]⟩,
  ⟨0x46, 1, 0x60, 0, 1, 0, 1, fun _ _ _ => [F.OUT_HOLD_CNT_COUNT]⟩,
  ⟨0x47, 1, 8, 0, 1, 0, 1, fun _ _ _ => [F.VTX_CTRL_SRC, F.VTX_CTRL_EMB, F.VTX_CTRL_LSLE, F.VTX_CTRL_CONTCLK, F.VTX_CTRL_EN]⟩,
  ⟨0x47, 1, 0x40, 0, 1, 0, 1, fun _ _ _ => [F.VTX_PHY_RATE, F.VTX_PHY_LANES]⟩,
  ⟨0x47, 1, 0x44, 0, 1, 0, 1, fun _ _ _ => [F.VTX_PKT_VC]⟩,
  ⟨0x47, 1, 0x48, 0, 1, 0, 1, fun _ _ _ => [F.VTX_STAT_SKIPPED, F.VTX_STAT_SENT]⟩]

/-- The registers of 07_evidence_frames.md. -/
def regRows07 : List RegRow := [
  ⟨0x50, 1, 8, 0, 1, 0, 1, fun _ _ _ => [F.EVD_CTRL_MIRROR, F.EVD_CTRL_CLOSED, F.EVD_CTRL_EN]⟩,
  ⟨0x50, 1, 0x40, 0, 1, 0, 1, fun _ _ _ => [F.EVD_ESN_LO_ESN]⟩,
  ⟨0x50, 1, 0x44, 0, 1, 0, 1, fun _ _ _ => [F.EVD_ESN_HI_ESN]⟩,
  ⟨0x50, 1, 0x48, 0, 1, 0, 1, fun _ _ _ => [F.EVD_LIMIT_LO_LIMIT]⟩,
  ⟨0x50, 1, 0x4C, 0, 1, 0, 1, fun _ _ _ => [F.EVD_LIMIT_HI_LIMIT]⟩,
  ⟨0x50, 1, 0x50, 0, 1, 0, 1, fun _ _ _ => [F.EVD_SESSION_SESSION]⟩,
  ⟨0x50, 1, 0x54, 0, 1, 0, 1, fun _ _ _ => [F.EVD_EPOCH_WAITING, F.EVD_EPOCH_EPOCH]⟩,
  ⟨0x50, 1, 0x58, 0, 1, 0, 1, fun _ _ _ => [F.EVD_START_NOKEY, F.EVD_START_KIND]⟩,
  ⟨0x50, 1, 0x5C, 0, 1, 0, 1, fun _ _ _ => [F.EVD_SEAL_BASE_BASE]⟩,
  ⟨0x50, 1, 0x60, 0, 1, 0, 1, fun _ _ _ => [F.EVD_SEAL_IDX_EPOCH, F.EVD_SEAL_IDX_TYPE, F.EVD_SEAL_IDX_SLOT]⟩,
  ⟨0x50, 1, 0x64, 0, 1, 0, 1, fun _ _ _ => [F.EVD_STARVE_COUNT]⟩,
  ⟨0x50, 1, 0x68, 0, 1, 0, 1, fun _ _ _ => [F.EVD_CLOSE_DONE, F.EVD_CLOSE_TIME]⟩,
  ⟨0x51, 1, 0x40, 0, 1, 0, 1, fun _ _ _ => [F.CRY_STATE_RNG_OK, F.CRY_STATE_TEST_OK, F.CRY_STATE_KEY]⟩,
  ⟨0x51, 1, 0x44, 4, 8, 0, 1, fun _ n _ => [F.CRY_PUBX_WORD n]⟩,
  ⟨0x51, 1, 0x64, 4, 8, 0, 1, fun _ n _ => [F.CRY_PUBY_WORD n]⟩,
  ⟨0x51, 1, 0x84, 0, 1, 0, 1, fun _ _ _ => [F.CRY_CERT_LEN_LEN]⟩,
  ⟨0x51, 1, 0x88, 0, 1, 0, 1, fun _ _ _ => [F.CRY_CERT_IDX_IDX]⟩,
  ⟨0x51, 1, 0x8C, 0, 1, 0, 1, fun _ _ _ => [F.CRY_CERT_DATA_DATA]⟩,
  ⟨0x51, 1, 0x90, 0, 1, 0, 1, fun _ _ _ => [F.CRY_SIGN_COUNT, F.CRY_SIGN_TIME]⟩]

/-- The registers of 08_field_converter.md. -/
def regRows08 : List RegRow := [
  ⟨0x38, 1, 8, 0, 1, 0, 1, fun _ _ _ => [F.FCV_CTRL_QINV, F.FCV_CTRL_EN]⟩,
  ⟨0x38, 1, 0x40, 0, 1, 0, 1, fun _ _ _ => [F.FCV_CFG_LPCORE, F.FCV_CFG_LPM, F.FCV_CFG_PACE_M1]⟩,
  ⟨0x38, 1, 0x44, 0, 1, 0, 1, fun _ _ _ => [F.FCV_MAIN_GO, F.FCV_MAIN_STOP, F.FCV_MAIN_START, F.FCV_MAIN_MODE]⟩,
  ⟨0x38, 1, 0x48, 0, 1, 0, 1, fun _ _ _ => [F.FCV_PERIOD_PERIOD]⟩,
  ⟨0x38, 1, 0x4C, 0, 1, 0, 1, fun _ _ _ => [F.FCV_TRIG_DELAY, F.FCV_TRIG_DEST, F.FCV_TRIG_EDGE]⟩,
  ⟨0x38, 1, 0x50, 0, 1, 0, 1, fun _ _ _ => [F.FCV_URG_GO, F.FCV_URG_START]⟩,
  ⟨0x38, 1, 0x54, 0, 1, 0, 1, fun _ _ _ => [F.FCV_STATE_URG, F.FCV_STATE_MAIN, F.FCV_STATE_ENTRY]⟩,
  ⟨0x38, 1, 0x58, 0, 1, 0, 1, fun _ _ _ => [F.FCV_QCFG_WMARK]⟩,
  ⟨0x38, 1, 0x5C, 0, 1, 0, 1, fun _ _ _ => [F.FCV_QSTAT_LOST, F.FCV_QSTAT_FILL]⟩,
  ⟨0x38, 1, 0x60, 0, 1, 0, 1, fun _ _ _ => [F.FCV_Q_LO_ENTRY]⟩,
  ⟨0x38, 1, 0x64, 0, 1, 0, 1, fun _ _ _ => [F.FCV_Q_HI_ENTRY]⟩,
  ⟨0x38, 1, 0x68, 0, 1, 0, 1, fun _ _ _ => [F.FCV_CNT1_OVERRUN, F.FCV_CNT1_TRIG_MISS]⟩,
  ⟨0x38, 1, 0x6C, 0, 1, 0, 1, fun _ _ _ => [F.FCV_CNT2_URG_MERGED]⟩,
  ⟨0x38, 1, 0x80, 4, 32, 0, 1, fun _ n _ => [F.FCV_CHCFG_AVG_SHIFT n, F.FCV_CHCFG_AVG_CNT_M1 n, F.FCV_CHCFG_SETTLE_CNT n, F.FCV_CHCFG_GAIN n]⟩,
  ⟨0x38, 1, 0x100, 4, 64, 0, 1, fun _ n _ => [F.FCV_SEQ_LAST n, F.FCV_SEQ_QUEUE n, F.FCV_SEQ_DIFF n, F.FCV_SEQ_CH n]⟩,
  ⟨0x38, 1, 0x200, 4, 32, 0, 1, fun _ n _ => [F.FCV_RES_VALID n, F.FCV_RES_PARTIAL n, F.FCV_RES_OVR n, F.FCV_RES_NEW n, F.FCV_RES_GAIN n, F.FCV_RES_VALUE n]⟩,
  ⟨0x38, 1, 0x280, 8, 8, 0, 1, fun _ n _ => [F.FCV_WIN_CFG_HYST n, F.FCV_WIN_CFG_CH n, F.FCV_WIN_CFG_OUTSIDE n, F.FCV_WIN_CFG_EN n]⟩,
  ⟨0x38, 1, 0x284, 8, 8, 0, 1, fun _ n _ => [F.FCV_WIN_LIM_HIGH n, F.FCV_WIN_LIM_LOW n]⟩]

/-- The registers of 09_loops_pwm_and_lamps.md. -/
def regRows09 : List RegRow := [
  ⟨0x39, 1, 0x40, 0, 1, 0, 1, fun _ _ _ => [F.LPC_RUN_MFAULT, F.LPC_RUN_RUN]⟩,
  ⟨0x39, 1, 0x44, 0, 1, 0, 1, fun _ _ _ => [F.LPC_TRIP_TMO, F.LPC_TRIP_TRIP]⟩,
  ⟨0x39, 1, 0x48, 0, 1, 0, 1, fun _ _ _ => [F.LPC_LOAD_OVERRUNS, F.LPC_LOAD_BUSY]⟩,
  ⟨0x39, 1, 0x4C, 0, 1, 0, 1, fun _ _ _ => [F.LPC_HOLD_TMO_TMO]⟩,
  ⟨0x39, 1, 0x100, 0x40, 16, 0, 1, fun _ n _ => [F.LOOP_CFG_EN n, F.LOOP_CFG_KIND n, F.LOOP_CFG_FAULT_ACT n, F.LOOP_CFG_SRC n, F.LOOP_CFG_CURVE n, F.LOOP_CFG_STALE_MAX n, F.LOOP_CFG_SEL n, F.LOOP_CFG_OUT n]⟩,
  ⟨0x39, 1, 0x104, 0x40, 16, 0, 1, fun _ n _ => [F.LOOP_PERIOD_PERIOD n]⟩,
  ⟨0x39, 1, 0x108, 0x40, 16, 0, 1, fun _ n _ => [F.LOOP_SP_VALUE n]⟩,
  ⟨0x39, 1, 0x10C, 0x40, 16, 0, 1, fun _ n _ => [F.LOOP_SLEW_VALUE n]⟩,
  ⟨0x39, 1, 0x110, 0x40, 16, 0, 1, fun _ n _ => [F.LOOP_KPKI_KP n, F.LOOP_KPKI_KI n]⟩,
  ⟨0x39, 1, 0x114, 0x40, 16, 0, 1, fun _ n _ => [F.LOOP_KD_KD n, F.LOOP_KD_GSHIFT n]⟩,
  ⟨0x39, 1, 0x118, 0x40, 16, 0, 1, fun _ n _ => [F.LOOP_DLIM_DMAX n, F.LOOP_DLIM_DMIN n]⟩,
  ⟨0x39, 1, 0x11C, 0x40, 16, 0, 1, fun _ n _ => [F.LOOP_SAFE_IMAX_SAFE n, F.LOOP_SAFE_IMAX_IMAX n]⟩,
  ⟨0x39, 1, 0x120, 0x40, 16, 0, 1, fun _ n _ => [F.LOOP_MLO_LIMIT n]⟩,
  ⟨0x39, 1, 0x124, 0x40, 16, 0, 1, fun _ n _ => [F.LOOP_MHI_LIMIT n]⟩,
  ⟨0x39, 1, 0x128, 0x40, 16, 0, 1, fun _ n _ => [F.LOOP_MTRIP_LIMIT n]⟩,
  ⟨0x39, 1, 0x12C, 0x40, 16, 0, 1, fun _ n _ => [F.LOOP_HOSTM_M n]⟩,
  ⟨0x39, 1, 0x130, 0x40, 16, 0, 1, fun _ n _ => [F.LOOP_M_VALUE n]⟩,
  ⟨0x39, 1, 0x138, 0x40, 16, 0, 1, fun _ n _ => [F.LOOP_I_VALUE n]⟩,
  ⟨0x39, 1, 0x13C, 0x40, 16, 0, 1, fun _ n _ => [F.LOOP_SPE_VALUE n]⟩,
  ⟨0x39, 1, 0x134, 0x40, 16, 0, 1, fun _ n _ => [F.LOOP_U_U n, F.LOOP_U_STALE n, F.LOOP_U_SAT n]⟩,
  ⟨0x39, 1, 0x600, 0x80, 8, 4, 17, fun _ n k => [F.LPC_CURVE_POINT n k]⟩,
  ⟨0x3A, 1, 0x40, 0, 1, 0, 1, fun _ _ _ => [F.PWM_START_START]⟩,
  ⟨0x3A, 1, 0x44, 0, 1, 0, 1, fun _ _ _ => [F.PWM_SAFE_SAFE]⟩,
  ⟨0x3A, 1, 0x48, 0, 1, 0, 1, fun _ _ _ => (List.range 16).map (F.PWM_OWN_OWN)⟩,
  ⟨0x3A, 1, 0x80, 8, 8, 0, 1, fun _ n _ => [F.PWM_PAIR_CFG_DT n, F.PWM_PAIR_CFG_MODE n, F.PWM_PAIR_CFG_PHASE n]⟩,
  ⟨0x3A, 1, 0x84, 8, 8, 0, 1, fun _ n _ => [F.PWM_PAIR_PER_PER_M1 n]⟩,
  ⟨0x3A, 1, 0xC0, 4, 16, 0, 1, fun _ n _ => [F.PWM_DUTY_SIGN n, F.PWM_DUTY_HIGH n, F.PWM_DUTY_FRAC n]⟩,
  ⟨0x3B, 1, 0x40, 0, 1, 0, 1, fun _ _ _ => [F.LED_SYNC_ARM, F.LED_SYNC_COUNT]⟩,
  ⟨0x3B, 1, 0x44, 0, 1, 0, 1, fun _ _ _ => [F.LED_FAULT_SHORT, F.LED_FAULT_OPEN]⟩,
  ⟨0x3B, 1, 0x80, 4, 16, 0, 1, fun _ n _ => [F.LED_BINTAB_FACTOR n]⟩,
  ⟨0x3B, 1, 0x100, 0x20, 12, 0, 1, fun _ n _ => [F.LED_CFG_MODE n, F.LED_CFG_DRIVE n, F.LED_CFG_CURVE n, F.LED_CFG_BIN n, F.LED_CFG_REF n, F.LED_CFG_REFVC n]⟩,
  ⟨0x3B, 1, 0x104, 0x20, 12, 0, 1, fun _ n _ => [F.LED_LEVEL_FADE n, F.LED_LEVEL_B n]⟩,
  ⟨0x3B, 1, 0x108, 0x20, 12, 0, 1, fun _ n _ => [F.LED_CUR_CODE n]⟩,
  ⟨0x3B, 1, 0x10C, 0x20, 12, 0, 1, fun _ n _ => [F.LED_STROBE_VALUE n]⟩,
  ⟨0x3B, 1, 0x110, 0x20, 12, 0, 1, fun _ n _ => [F.LED_SDELAY_VALUE n]⟩,
  ⟨0x3B, 1, 0x114, 0x20, 12, 0, 1, fun _ n _ => [F.LED_STAT_FADING n, F.LED_STAT_ON n, F.LED_STAT_FAULT n, F.LED_STAT_B n]⟩,
  ⟨0x3B, 1, 0x118, 0x20, 12, 0, 1, fun _ n _ => [F.LED_SNS_SNS n]⟩]

/-- The registers of 10_thermal_management.md. -/
def regRows10 : List RegRow := [
  ⟨5, 1, 8, 0, 1, 0, 1, fun _ _ _ => [F.THM_CTRL_EN]⟩,
  ⟨5, 1, 0x40, 4, 10, 0, 1, fun _ n _ => [F.THM_SENS_VALID n, F.THM_SENS_FAIL n, F.THM_SENS_CAUSE n, F.THM_SENS_ACKED n, F.THM_SENS_TEMP n]⟩,
  ⟨5, 1, 0x70, 4, 6, 0, 1, fun _ n _ => [F.THM_DIODE_EN n, F.THM_DIODE_OFFSET n, F.THM_DIODE_IDEAL n]⟩,
  ⟨5, 1, 0xA0, 0x10, 4, 0, 1, fun _ n _ => [F.THM_ZONE_CFG_EN n, F.THM_ZONE_CFG_SPARE n, F.THM_ZONE_CFG_MASK n]⟩,
  ⟨5, 1, 0xA4, 0x10, 4, 0, 1, fun _ n _ => [F.THM_ZONE_THR_WARN n, F.THM_ZONE_THR_THROT n, F.THM_ZONE_THR_SHUT n, F.THM_ZONE_THR_HYST n]⟩,
  ⟨5, 1, 0xA8, 0x10, 4, 0, 1, fun _ n _ => [F.THM_ZONE_STAT_WARN n, F.THM_ZONE_STAT_THROT n, F.THM_ZONE_STAT_HELD n, F.THM_ZONE_STAT_NOSENSOR n, F.THM_ZONE_STAT_LEVEL n, F.THM_ZONE_STAT_SRC n, F.THM_ZONE_STAT_TEMP n]⟩,
  ⟨5, 1, 0xE0, 0, 1, 0, 1, fun _ _ _ => [F.THM_LEVEL_PEAK, F.THM_LEVEL_FLOOR, F.THM_LEVEL_LEVEL]⟩,
  ⟨5, 1, 0xE4, 0, 1, 0, 1, fun _ _ _ => [F.THM_STEP_DOWN, F.THM_STEP_UP]⟩,
  ⟨5, 1, 0xE8, 0, 1, 0, 1, fun _ _ _ => [F.THM_RATE_SLOW, F.THM_RATE_NEAR]⟩,
  ⟨5, 1, 0xEC, 0, 1, 0, 1, fun _ _ _ => [F.THM_POLICY_KEEP]⟩,
  ⟨5, 1, 0xF0, 0, 1, 0, 1, fun _ _ _ => [F.THM_FAIL_ACK, F.THM_FAIL_FAILED]⟩,
  ⟨5, 1, 0xF4, 0, 1, 0, 1, fun _ _ _ => [F.THM_COMP_XSEL, F.THM_COMP_XTAL, F.THM_COMP_BIAS, F.THM_COMP_FCV, F.THM_COMP_ACB]⟩,
  ⟨5, 1, 0xF8, 0, 1, 0, 1, fun _ _ _ => [F.THM_XTAL_C2, F.THM_XTAL_C1, F.THM_XTAL_T0]⟩,
  ⟨5, 1, 0xFC, 0, 1, 0, 1, fun _ _ _ => [F.THM_CNT_FAILS, F.THM_CNT_RAISES]⟩]

/-- The registers of 11_reset_startup_and_power_states.md. -/
def regRows11 : List RegRow := [
  ⟨1, 1, 0x40, 0, 1, 0, 1, fun _ _ _ => [F.RST_CAUSE_REACH, F.RST_CAUSE_DETAIL, F.RST_CAUSE_CAUSE]⟩,
  ⟨1, 1, 0x44, 0, 1, 0, 1, fun _ _ _ => [F.RST_CMD_KEY, F.RST_CMD_TARGET, F.RST_CMD_REACH]⟩,
  ⟨1, 1, 0x48, 0, 1, 0, 1, fun _ _ _ => [F.RST_START_STEP, F.RST_START_KIND, F.RST_START_TRIES, F.RST_START_FAILSTEP, F.RST_START_ERR, F.RST_START_DONE]⟩,
  ⟨1, 1, 0x4C, 0, 1, 0, 1, fun _ _ _ => [F.RST_BOOT_BASE_TMO, F.RST_BOOT_HOST_TMO, F.RST_BOOT_LIMFMT, F.RST_BOOT_BASESRC]⟩,
  ⟨1, 1, 0x50, 0, 1, 0, 1, fun _ _ _ => [F.RST_BASE_ADDR_ADDR]⟩,
  ⟨1, 1, 0x54, 0, 1, 0, 1, fun _ _ _ => [F.RST_SKIP_FW, F.RST_SKIP_BASE, F.RST_SKIP_DRAM, F.RST_SKIP_FUSE]⟩,
  ⟨1, 1, 0x58, 0, 1, 0, 1, fun _ _ _ => [F.RST_TIME_US]⟩,
  ⟨1, 1, 0x5C, 0, 1, 0, 1, fun _ _ _ => [F.RST_HOSTBOOT_GO]⟩,
  ⟨2, 1, 0x40, 0, 1, 0, 1, fun _ _ _ => [F.CLK_STAT_LOCKED, F.CLK_STAT_REF_OK, F.CLK_STAT_LOCK_US]⟩,
  ⟨2, 1, 0x44, 0, 1, 0, 1, fun _ _ _ => [F.CLK_CNT_RETRIES, F.CLK_CNT_LOSSES]⟩,
  ⟨2, 1, 0x48, 0, 1, 0, 1, fun _ _ _ => [F.CLK_GATE_RUN]⟩,
  ⟨3, 1, 0x40, 0, 1, 0, 1, fun _ _ _ => [F.PWR_STATE_BUSY, F.PWR_STATE_STATE]⟩,
  ⟨3, 1, 0x44, 0, 1, 0, 1, fun _ _ _ => [F.PWR_REQ_STATE]⟩,
  ⟨3, 1, 0x48, 0, 1, 0, 1, fun _ _ _ => [F.PWR_WAKE_FTRIG, F.PWR_WAKE_PFAIL, F.PWR_WAKE_TRELLIS]⟩,
  ⟨3, 1, 0x4C, 0, 1, 0, 1, fun _ _ _ => [F.PWR_SUPPLY_WARN]⟩,
  ⟨3, 1, 0x50, 0, 1, 0, 1, fun _ _ _ => [F.PWR_RESUME_US]⟩,
  ⟨4, 1, 0x40, 0, 1, 0, 1, fun _ _ _ => [F.FUS_OPT_EXPORT, F.FUS_OPT_LOCKED, F.FUS_OPT_RRESTART, F.FUS_OPT_RFILT]⟩,
  ⟨4, 1, 0x44, 0, 1, 0, 1, fun _ _ _ => [F.FUS_STAT_REPAIRS, F.FUS_STAT_RESTARTS, F.FUS_STAT_UNCORR, F.FUS_STAT_CORR, F.FUS_STAT_LOADED]⟩,
  ⟨4, 1, 0x80, 4, 7, 0, 1, fun _ n _ => (List.range 8).map (F.FUS_PIN_CONFIGURED n) ++ (List.range 8).map (F.FUS_PIN_STATE n)⟩]

/-- The registers of 12_seed_tray.md. -/
def regRows12 : List RegRow := [
  ⟨0x10, 1, 0x40, 0, 1, 0, 1, fun _ _ _ => [F.NVS_STATE_READY, F.NVS_STATE_RDONLY, F.NVS_STATE_EP_ONLY, F.NVS_STATE_STOPPED, F.NVS_STATE_UNLOCK_W, F.NVS_STATE_UNLOCK_R]⟩,
  ⟨0x10, 1, 0x44, 0, 1, 0, 1, fun _ _ _ => [F.NVS_OP_GO, F.NVS_OP_OP, F.NVS_OP_PAGE, F.NVS_OP_OFFSET, F.NVS_OP_LEN]⟩,
  ⟨0x10, 1, 0x48, 0, 1, 0, 1, fun _ _ _ => [F.NVS_OP_STAT_BUSY, F.NVS_OP_STAT_STATUS] ++ (List.range 8).map (F.NVS_OP_STAT_GRP)⟩,
  ⟨0x10, 1, 0x4C, 0, 1, 0, 1, fun _ _ _ => [F.NVS_TORN_STAT_VALID, F.NVS_TORN_STAT_ACTION, F.NVS_TORN_STAT_COPY, F.NVS_TORN_STAT_PAGE] ++ (List.range 8).map (F.NVS_TORN_STAT_GRP)⟩,
  ⟨0x10, 1, 0x50, 0, 1, 0, 1, fun _ _ _ => [F.NVS_TALLY_LO_VALUE]⟩,
  ⟨0x10, 1, 0x54, 0, 1, 0, 1, fun _ _ _ => [F.NVS_TALLY_HI_VALUE]⟩,
  ⟨0x10, 1, 0x58, 0, 1, 0, 1, fun _ _ _ => [F.NVS_TALLY_ADD_ADD]⟩,
  ⟨0x10, 1, 0x60, 0, 1, 0, 1, fun _ _ _ => [F.NVS_PWD_LO_PWD]⟩,
  ⟨0x10, 1, 0x64, 0, 1, 0, 1, fun _ _ _ => [F.NVS_PWD_HI_PWD]⟩,
  ⟨0x10, 1, 0x68, 0, 1, 0, 1, fun _ _ _ => [F.NVS_UNLOCK_GO, F.NVS_UNLOCK_LOCK, F.NVS_UNLOCK_SET, F.NVS_UNLOCK_KIND]⟩,
  ⟨0x10, 1, 0x6C, 0, 1, 0, 1, fun _ _ _ => [F.NVS_LOCKOUT_FAILS, F.NVS_LOCKOUT_REMAIN]⟩,
  ⟨0x10, 1, 0x70, 0, 1, 0, 1, fun _ _ _ => [F.NVS_WEAR_USED, F.NVS_WEAR_PAGE]⟩,
  ⟨0x10, 1, 0x74, 0, 1, 0, 1, fun _ _ _ => [F.NVS_WEAR_MAX_COUNT]⟩,
  ⟨0x10, 1, 0x78, 0, 1, 0, 1, fun _ _ _ => [F.NVS_SPARE_WARN_LEFT]⟩,
  ⟨0x10, 1, 0x7C, 0, 1, 0, 1, fun _ _ _ => [F.NVS_ERR_UNCORR, F.NVS_ERR_CAUSE, F.NVS_ERR_PAGE]⟩,
  ⟨0x10, 1, 0x80, 0, 1, 0, 1, fun _ _ _ => [F.NVS_CNT_ROLLBACKS, F.NVS_CNT_FINISHES]⟩,
  ⟨0x10, 1, 0x84, 0, 1, 0, 1, fun _ _ _ => [F.NVS_SETLOG_GEN]⟩,
  ⟨0x10, 1, 0xC0, 4, 16, 0, 1, fun _ n _ => [F.NVS_BUF_DATA n]⟩,
  ⟨0x10, 1, 0x100, 4, 16, 0, 1, fun _ n _ => [F.NVS_TORN_DATA n]⟩]

/-- The registers of 13_links.md. -/
def regRows13 : List RegRow := [
  ⟨0x14, 1, 0x40, 0, 1, 0, 1, fun _ _ _ => [F.PCI_LINK_RETRAINS, F.PCI_LINK_WIDTH, F.PCI_LINK_SPEED]⟩,
  ⟨0x14, 1, 0x44, 0, 1, 0, 1, fun _ _ _ => [F.PCI_BAR2_BASE_BASE]⟩,
  ⟨0x14, 1, 0x48, 4, 2, 0, 1, fun _ n _ => [F.PCI_SDONE_DONE n]⟩,
  ⟨0x14, 1, 0x50, 0, 1, 0, 1, fun _ _ _ => [F.PCI_SLOST_COUNT, F.PCI_SLOST_LAST]⟩,
  ⟨0x14, 1, 0x54, 0, 1, 0, 1, fun _ _ _ => [F.PCI_DMA_ERR_COUNT, F.PCI_DMA_ERR_KIND, F.PCI_DMA_ERR_STREAM]⟩,
  ⟨0x14, 1, 0x400, 0x10, 42, 0, 1, fun _ n _ => [F.STR_RING_LO_ADDR n]⟩,
  ⟨0x14, 1, 0x404, 0x10, 42, 0, 1, fun _ n _ => [F.STR_RING_HI_ADDR n]⟩,
  ⟨0x14, 1, 0x408, 0x10, 42, 0, 1, fun _ n _ => [F.STR_CFG_EN n, F.STR_CFG_ERR n, F.STR_CFG_WAIT n, F.STR_CFG_IRQ n, F.STR_CFG_SIZE_LOG2 n]⟩,
  ⟨0x14, 1, 0x40C, 0x10, 42, 0, 1, fun _ n _ => [F.STR_IDX_TAIL n, F.STR_IDX_HEAD n]⟩,
  ⟨0x12, 1, 8, 0, 1, 0, 1, fun _ _ _ => [F.TRL_CTRL_RSTEN, F.TRL_CTRL_RWEN, F.TRL_CTRL_EN]⟩,
  ⟨0x12, 1, 0x40, 0, 1, 0, 1, fun _ _ _ => [F.TRL_ADDR_VALID, F.TRL_ADDR_STICKY, F.TRL_ADDR_MASTER, F.TRL_ADDR_MODE, F.TRL_ADDR_DEPTH, F.TRL_ADDR_PREF, F.TRL_ADDR_ADDR]⟩,
  ⟨0x12, 1, 0x44, 0, 1, 0, 1, fun _ _ _ => [F.TRL_PORT_UP_ERR, F.TRL_PORT_DOWN_ERR, F.TRL_PORT_LATE, F.TRL_PORT_DOWN, F.TRL_PORT_UP]⟩,
  ⟨0x12, 1, 0x48, 0, 1, 0, 1, fun _ _ _ => [F.TRL_PATH_PATH, F.TRL_PATH_HOP]⟩,
  ⟨0x12, 1, 0x4C, 0, 1, 0, 1, fun _ _ _ => [F.TRL_TIME_LO_TIME]⟩,
  ⟨0x12, 1, 0x50, 0, 1, 0, 1, fun _ _ _ => [F.TRL_TIME_HI_TIME]⟩,
  ⟨0x12, 1, 0x54, 0, 1, 0, 1, fun _ _ _ => [F.TRL_TIME_SET_LO_TIME]⟩,
  ⟨0x12, 1, 0x58, 0, 1, 0, 1, fun _ _ _ => [F.TRL_TIME_SET_HI_TIME]⟩,
  ⟨0x12, 1, 0x5C, 0, 1, 0, 1, fun _ _ _ => [F.TRL_TIMING_LOCKED, F.TRL_TIMING_LEAD]⟩,
  ⟨0x12, 1, 0x60, 0, 1, 0, 1, fun _ _ _ => [F.TRL_MASTER_SYNC_GO, F.TRL_MASTER_ENUM_GO, F.TRL_MASTER_FS_EN, F.TRL_MASTER_AUTOENUM, F.TRL_MASTER_SYNC_DST]⟩,
  ⟨0x12, 1, 0x64, 0, 1, 0, 1, fun _ _ _ => [F.TRL_HB_PERIOD]⟩,
  ⟨0x12, 1, 0x68, 0, 1, 0, 1, fun _ _ _ => [F.TRL_SEEN_LO_SEEN]⟩,
  ⟨0x12, 1, 0x6C, 0, 1, 0, 1, fun _ _ _ => [F.TRL_SEEN_HI_SEEN]⟩,
  ⟨0x12, 1, 0x70, 4, 2, 0, 1, fun _ n _ => [F.TRL_ALARM_VALID n, F.TRL_ALARM_DIE n, F.TRL_ALARM_CLASS n, F.TRL_ALARM_TILE n, F.TRL_ALARM_SRC n, F.TRL_ALARM_FRAME n, F.TRL_ALARM_T n]⟩,
  ⟨0x12, 1, 0x80, 0, 1, 0, 1, fun _ _ _ => [F.TRL_CMD_GO, F.TRL_CMD_DST, F.TRL_CMD_TYPE, F.TRL_CMD_LEN]⟩,
  ⟨0x12, 1, 0x84, 0, 1, 0, 1, fun _ _ _ => [F.TRL_CMD_STAT_BUSY, F.TRL_CMD_STAT_STATUS, F.TRL_CMD_STAT_RLEN]⟩,
  ⟨0x12, 1, 0x100, 4, 64, 0, 1, fun _ n _ => [F.TRL_BUF_DATA n]⟩,
  ⟨0x13, 1, 0x40, 0, 1, 0, 1, fun _ _ _ => [F.D2D_STAT_UP, F.D2D_STAT_TAKEN, F.D2D_STAT_RETRIES, F.D2D_STAT_LAT]⟩,
  ⟨0x15, 1, 8, 0, 1, 0, 1, fun _ _ _ => [F.PRL_CTRL_AUTOBACK, F.PRL_CTRL_PINFWD, F.PRL_CTRL_EN]⟩,
  ⟨0x15, 1, 0x40, 0, 1, 0, 1, fun _ _ _ => [F.PRL_STAT_UP, F.PRL_STAT_ALIVE, F.PRL_STAT_FAILED, F.PRL_STAT_ROLE_BAD, F.PRL_STAT_OWNER, F.PRL_STAT_PLEAD, F.PRL_STAT_PROLE, F.PRL_STAT_PADDR]⟩,
  ⟨0x15, 1, 0x44, 0, 1, 0, 1, fun _ _ _ => [F.PRL_HB_FAIL_TMO, F.PRL_HB_MISS, F.PRL_HB_PERIOD]⟩,
  ⟨0x15, 1, 0x48, 0, 1, 0, 1, fun _ _ _ => [F.PRL_VOTE_CLASSES, F.PRL_VOTE_WINDOW, F.PRL_VOTE_MODE]⟩,
  ⟨0x15, 1, 0x4C, 0, 1, 0, 1, fun _ _ _ => [F.PRL_SHARED_LED, F.PRL_SHARED_LOOP]⟩,
  ⟨0x15, 1, 0x50, 0, 1, 0, 1, fun _ _ _ => [F.PRL_RMAP_BASE_BASE]⟩,
  ⟨0x15, 1, 0x54, 0, 1, 0, 1, fun _ _ _ => [F.PRL_MIRROR_BASE_BASE]⟩,
  ⟨0x15, 1, 0x58, 0, 1, 0, 1, fun _ _ _ => [F.PRL_PSERIAL_LO_SERIAL]⟩,
  ⟨0x15, 1, 0x5C, 0, 1, 0, 1, fun _ _ _ => [F.PRL_PSERIAL_HI_SERIAL]⟩,
  ⟨0x15, 1, 0x60, 0, 1, 0, 1, fun _ _ _ => [F.PRL_CNT_RETRIES, F.PRL_CNT_MISSED]⟩]

/-- The registers of 14_serial_port.md. -/
def regRows14 : List RegRow := [
  ⟨0x11, 1, 0x40, 0, 1, 0, 1, fun _ _ _ => [F.SPI_CFG_DIV_M1, F.SPI_CFG_CSGAP_M1, F.SPI_CFG_PROTO, F.SPI_CFG_ROLE, F.SPI_CFG_WLEN_M1, F.SPI_CFG_LSBF, F.SPI_CFG_CPHA, F.SPI_CFG_CPOL]⟩,
  ⟨0x11, 1, 0x44, 0, 1, 0, 1, fun _ _ _ => [F.SPI_MXFER_GO, F.SPI_MXFER_HOLD, F.SPI_MXFER_TGT, F.SPI_MXFER_NWORDS]⟩,
  ⟨0x11, 1, 0x48, 0, 1, 0, 1, fun _ _ _ => [F.SPI_STATE_XIP, F.SPI_STATE_SEL, F.SPI_STATE_MBUSY, F.SPI_STATE_LEFT, F.SPI_STATE_STATUS]⟩,
  ⟨0x11, 1, 0x4C, 0, 1, 0, 1, fun _ _ _ => [F.SPI_FIFO_RX_FILL, F.SPI_FIFO_TX_FILL, F.SPI_FIFO_RX_WMARK]⟩,
  ⟨0x11, 1, 0x50, 0, 1, 0, 1, fun _ _ _ => [F.SPI_TX_DATA]⟩,
  ⟨0x11, 1, 0x54, 0, 1, 0, 1, fun _ _ _ => [F.SPI_RX_DATA]⟩,
  ⟨0x11, 1, 0x58, 0, 1, 0, 1, fun _ _ _ => [F.SPI_RX_INFO_VALID, F.SPI_RX_INFO_SHORT, F.SPI_RX_INFO_BITS]⟩,
  ⟨0x11, 1, 0x5C, 0, 1, 0, 1, fun _ _ _ => [F.SPI_SLV_SHORTS, F.SPI_SLV_BUSY]⟩,
  ⟨0x11, 1, 0x60, 0, 1, 0, 1, fun _ _ _ => [F.SPI_PROTO_WEN]⟩,
  ⟨0x11, 1, 0x64, 0, 1, 0, 1, fun _ _ _ => [F.SPI_PROTO_STAT_BUSY, F.SPI_PROTO_STAT_ABORT, F.SPI_PROTO_STAT_STATUS, F.SPI_PROTO_STAT_ADDR]⟩,
  ⟨0x11, 1, 0x68, 0, 1, 0, 1, fun _ _ _ => [F.SPI_XIP_MODEBYTE, F.SPI_XIP_CONT, F.SPI_XIP_ADDR4, F.SPI_XIP_TGT, F.SPI_XIP_CMD, F.SPI_XIP_DUMMY, F.SPI_XIP_PF]⟩,
  ⟨0x11, 1, 0x6C, 0, 1, 0, 1, fun _ _ _ => [F.SPI_XIP_TIM_DIV_M1, F.SPI_XIP_TIM_IDLE_MAX]⟩,
  ⟨0x11, 1, 0x70, 0, 1, 0, 1, fun _ _ _ => [F.SPI_XIP_CNT_MISSES, F.SPI_XIP_CNT_HITS]⟩]

/-- The registers of 15_errors_self_test_and_grafting.md. -/
def regRows15 : List RegRow := [
  ⟨0xA, 1, 8, 0, 1, 0, 1, fun _ _ _ => [F.SPR_CTRL_PERSIST, F.SPR_CTRL_EN]⟩,
  ⟨0xA, 1, 0x40, 0, 1, 0, 1, fun _ _ _ => [F.SPR_POLICY_WINDOW, F.SPR_POLICY_TRANS_MAX]⟩,
  ⟨0xA, 1, 0x44, 0, 1, 0, 1, fun _ _ _ => [F.SPR_LAST_TYPE, F.SPR_LAST_CAUSE, F.SPR_LAST_OUTCOME, F.SPR_LAST_INSTANCE]⟩,
  ⟨0xA, 1, 0x48, 0, 1, 0, 1, fun _ _ _ => [F.SPR_LAST_FRAME_FRAME]⟩,
  ⟨0xA, 1, 0x4C, 0, 1, 0, 1, fun _ _ _ => [F.SPR_CNT_LASTING, F.SPR_CNT_TRANSIENT]⟩,
  ⟨0xA, 1, 0x50, 0, 1, 0, 1, fun _ _ _ => [F.SPR_TABLE_USED]⟩,
  ⟨0xA, 1, 0x54, 0, 1, 0, 1, fun _ _ _ => [F.SPR_SPARES_SRAM, F.SPR_SPARES_CORE, F.SPR_SPARES_SLICE, F.SPR_SPARES_CLU]⟩,
  ⟨0xA, 1, 0x58, 0, 1, 0, 1, fun _ _ _ => [F.SPR_WEAR_FIG]⟩,
  ⟨0xA, 1, 0x5C, 0, 1, 0, 1, fun _ _ _ => [F.SPR_WEAR_LIM_CLU, F.SPR_WEAR_LIM_SRAM, F.SPR_WEAR_LIM_TRIM, F.SPR_WEAR_LIM_CORES]⟩,
  ⟨0xA, 1, 0x60, 0, 1, 0, 1, fun _ _ _ => [F.SPR_DYN_LAST_COUNT]⟩,
  ⟨0xA, 1, 0x64, 0, 1, 0, 1, fun _ _ _ => [F.SPR_DYN_PEAK_COUNT]⟩,
  ⟨0xA, 1, 0x68, 0, 1, 0, 1, fun _ _ _ => [F.SPR_DYN_PREV_COUNT]⟩,
  ⟨0xA, 1, 0x6C, 0, 1, 0, 1, fun _ _ _ => [F.SPR_REQ_GO, F.SPR_REQ_OP, F.SPR_REQ_TYPE, F.SPR_REQ_INSTANCE]⟩,
  ⟨0xA, 1, 0x70, 0, 1, 0, 1, fun _ _ _ => [F.SPR_REQ_STAT_BUSY, F.SPR_REQ_STAT_STATUS]⟩,
  ⟨0xB, 1, 0x40, 0, 1, 0, 1, fun _ _ _ => [F.STS_STATE_BUSY, F.STS_STATE_WAITING, F.STS_STATE_TYPE, F.STS_STATE_INSTANCE]⟩,
  ⟨0xB, 1, 0x44, 0, 1, 0, 1, fun _ _ _ => [F.STS_RESULT_VALID, F.STS_RESULT_OUTCOME, F.STS_RESULT_TYPE, F.STS_RESULT_DETAIL, F.STS_RESULT_INSTANCE]⟩,
  ⟨0xB, 1, 0x48, 0, 1, 0, 1, fun _ _ _ => [F.STS_CNT_FAILS, F.STS_CNT_PASSES]⟩,
  ⟨0xB, 1, 0x4C, 0, 1, 0, 1, fun _ _ _ => [F.STS_TIME_US]⟩,
  ⟨9, 1, 0x40, 0, 1, 0, 1, fun _ _ _ => [F.PRC_MP_LOAD_PEAK, F.PRC_MP_LOAD_OVF, F.PRC_MP_LOAD_BUSY]⟩,
  ⟨9, 1, 0x44, 0, 1, 0, 1, fun _ _ _ => [F.PRC_EVQ_MERGED, F.PRC_EVQ_FILL]⟩,
  ⟨9, 1, 0x48, 0, 1, 0, 1, fun _ _ _ => [F.PRC_MAP_SPARE, F.PRC_MAP_EP, F.PRC_MAP_LP, F.PRC_MAP_CP, F.PRC_MAP_MP]⟩,
  ⟨9, 1, 0x4C, 0, 1, 0, 1, fun _ _ _ => (List.range 5).map (F.PRC_CORE_CORE)⟩,
  ⟨9, 1, 0x50, 0, 1, 0, 1, fun _ _ _ => [F.PRC_WDOG_EXPIRIES, F.PRC_WDOG_TMO]⟩]

/-- Every block-specific register of the 48 kinds of page. -/
def regRows : List RegRow :=
  regRows01 ++ regRows02 ++ regRows03 ++ regRows04 ++ regRows04b ++ regRows05 ++ regRows06 ++ regRows07 ++ regRows08 ++ regRows09 ++ regRows10 ++ regRows11 ++ regRows12 ++ regRows13 ++ regRows14 ++ regRows15

/-! ### The registers of every page (01_anatomy.md) -/

/-- CTRL.EN of a page whose block has no CTRL of its own. -/
def F.CTRL_EN (n : Nat) : Fld := ⟨n, 8, 0, 1, if n = 0x10 ∨ n = 0x0B ∨ n = 0x01 then .ro else .rw, if n = 0x10 ∨ n = 0x0B ∨ n = 0x01 then 1 else 0, .c, 0, 1⟩
/-- STAT.TEAR. -/
def F.STAT_TEAR (n : Nat) : Fld := ⟨n, 0xC, 5, 1, .w1c, 0, .c, 0, 1⟩
/-- STAT.FAULT. -/
def F.STAT_FAULT (n : Nat) : Fld := ⟨n, 0xC, 4, 1, .ro, 0, .c, 0, 1⟩
/-- STAT.DEGRADED. -/
def F.STAT_DEGRADED (n : Nat) : Fld := ⟨n, 0xC, 3, 1, .ro, 0, .c, 0, 1⟩
/-- STAT.GRAFTED. -/
def F.STAT_GRAFTED (n : Nat) : Fld := ⟨n, 0xC, 2, 1, .ro, 0, .c, 0, 1⟩
/-- STAT.IDLE. -/
def F.STAT_IDLE (n : Nat) : Fld := ⟨n, 0xC, 1, 1, .ro, 1, .c, 0, 1⟩
/-- STAT.BUSY. -/
def F.STAT_BUSY (n : Nat) : Fld := ⟨n, 0xC, 0, 1, .ro, 0, .c, 0, 1⟩
/-- BRST.TIMEOUT. -/
def F.BRST_TIMEOUT (n : Nat) : Fld := ⟨n, 0x20, 2, 1, .w1c, 0, .w, 0, 1⟩
/-- BRST.ACTIVE. -/
def F.BRST_ACTIVE (n : Nat) : Fld := ⟨n, 0x20, 1, 1, .ro, 0, .c, 0, 1⟩
/-- BRST.REQ. -/
def F.BRST_REQ (n : Nat) : Fld := ⟨n, 0x20, 0, 1, .wo, 0, .c, 0, 1⟩
/-- BRST_TMO.TMO. -/
def F.BRST_TMO_TMO (n : Nat) : Fld := ⟨n, 0x24, 0, 16, .rw, 0x40, .w, 1, 0xFFFF⟩
/-- ERR_CNT.RESID. -/
def F.ERR_CNT_RESID (n : Nat) : Fld := ⟨n, 0x28, 20, 10, .rw, 0, .w, 0, 0x3FF⟩
/-- ERR_CNT.UNCORR. -/
def F.ERR_CNT_UNCORR (n : Nat) : Fld := ⟨n, 0x28, 10, 10, .rw, 0, .w, 0, 0x3FF⟩
/-- ERR_CNT.CORR. -/
def F.ERR_CNT_CORR (n : Nat) : Fld := ⟨n, 0x28, 0, 10, .rw, 0, .w, 0, 0x3FF⟩
/-- COMMIT.CANCEL. -/
def F.COMMIT_CANCEL (n : Nat) : Fld := ⟨n, 0x2C, 9, 1, .wo, 0, .c, 0, 1⟩
/-- COMMIT.ARM. -/
def F.COMMIT_ARM (n : Nat) : Fld := ⟨n, 0x2C, 8, 1, .wo, 0, .c, 0, 1⟩
/-- COMMIT.BOUNDARY. -/
def F.COMMIT_BOUNDARY (n : Nat) : Fld := ⟨n, 0x2C, 0, 2, .rw, 0, .c, 0, 3⟩
/-- COMMIT_STAT.FRAME. -/
def F.COMMIT_STAT_FRAME (n : Nat) : Fld := ⟨n, 0x30, 8, 24, .ro, 0, .c, 0, 0xFFFFFF⟩
/-- COMMIT_STAT.PENDING. -/
def F.COMMIT_STAT_PENDING (n : Nat) : Fld := ⟨n, 0x30, 0, 1, .ro, 0, .c, 0, 1⟩

end Sys2Proof.Machine
end

