-- ==== Sys2Proof/Machine/Hash.lean ====
section
/-!
DEFINITION. The check codes the spec names: SHA-256 (FIPS 180-4) for plane hashes and digests (CMM_HASH_CTRL, R180,
R226), the CRC-32 of R440 and the CRC-16 of Table 15.4.
-/

namespace Sys2Proof.Machine

/-- A 32-bit word of SHA-256. -/
abbrev ShaWord := BitVec 32

/-- The round constants. -/
def shaK : List ShaWord :=
  [0x428a2f98, 0x71374491, 0xb5c0fbcf, 0xe9b5dba5, 0x3956c25b, 0x59f111f1, 0x923f82a4, 0xab1c5ed5] ++
  [0xd807aa98, 0x12835b01, 0x243185be, 0x550c7dc3, 0x72be5d74, 0x80deb1fe, 0x9bdc06a7, 0xc19bf174] ++
  [0xe49b69c1, 0xefbe4786, 0x0fc19dc6, 0x240ca1cc, 0x2de92c6f, 0x4a7484aa, 0x5cb0a9dc, 0x76f988da] ++
  [0x983e5152, 0xa831c66d, 0xb00327c8, 0xbf597fc7, 0xc6e00bf3, 0xd5a79147, 0x06ca6351, 0x14292967] ++
  [0x27b70a85, 0x2e1b2138, 0x4d2c6dfc, 0x53380d13, 0x650a7354, 0x766a0abb, 0x81c2c92e, 0x92722c85] ++
  [0xa2bfe8a1, 0xa81a664b, 0xc24b8b70, 0xc76c51a3, 0xd192e819, 0xd6990624, 0xf40e3585, 0x106aa070] ++
  [0x19a4c116, 0x1e376c08, 0x2748774c, 0x34b0bcb5, 0x391c0cb3, 0x4ed8aa4a, 0x5b9cca4f, 0x682e6ff3] ++
  [0x748f82ee, 0x78a5636f, 0x84c87814, 0x8cc70208, 0x90befffa, 0xa4506ceb, 0xbef9a3f7, 0xc67178f2]

/-- The initial hash value. -/
def shaInit : List ShaWord :=
  [0x6a09e667, 0xbb67ae85, 0x3c6ef372, 0xa54ff53a, 0x510e527f, 0x9b05688c, 0x1f83d9ab, 0x5be0cd19]

/-- The message schedule, newest word first: `n` more words. -/
def shaExtend : Nat → List ShaWord → List ShaWord
  | 0, l => l
  | n + 1, l =>
    let a := l.getD 14 0
    let b := l.getD 1 0
    let s0 := a.rotateRight 7 ^^^ a.rotateRight 18 ^^^ (a >>> 3)
    let s1 := b.rotateRight 17 ^^^ b.rotateRight 19 ^^^ (b >>> 10)
    shaExtend n ((s1 + l.getD 6 0 + s0 + l.getD 15 0) :: l)

/-- One round on the eight working variables. -/
def shaRound (v : List ShaWord) (kw : ShaWord × ShaWord) : List ShaWord :=
  match v with
  | [a, b, c, d, e, f, g, h] =>
    let s1 := e.rotateRight 6 ^^^ e.rotateRight 11 ^^^ e.rotateRight 25
    let ch := (e &&& f) ^^^ (~~~e &&& g)
    let t1 := h + s1 + ch + kw.1 + kw.2
    let s0 := a.rotateRight 2 ^^^ a.rotateRight 13 ^^^ a.rotateRight 22
    let maj := (a &&& b) ^^^ (a &&& c) ^^^ (b &&& c)
    [t1 + (s0 + maj), a, b, c, d + t1, e, f, g]
  | _ => v

/-- A big-endian number of bytes. -/
def ofBytesBE (l : List Byte) : Nat := l.foldl (fun n b => n * 256 + b.toNat) 0

/-- The `n` low bytes of `v`, most significant first. -/
def bytesBE (n v : Nat) : List Byte := (bytesLE n v).reverse

/-- A list cut into pieces of `k`, at most `n` of them. -/
def pieces {α : Type} (k : Nat) : Nat → List α → List (List α)
  | 0, _ => []
  | _ + 1, [] => []
  | n + 1, l => l.take k :: pieces k n (l.drop k)

/-- One 64-byte block. -/
def shaBlock (h : List ShaWord) (blk : List Byte) : List ShaWord :=
  let w := ((pieces 4 16 blk).map (fun b => BitVec.ofNat 32 (ofBytesBE b))).reverse
  let v := (shaK.zip (shaExtend 48 w).reverse).foldl shaRound h
  (h.zip v).map (fun e => e.1 + e.2)

/-- The message with its padding. -/
def shaPad (m : List Byte) : List Byte :=
  m ++ (0x80 :: List.replicate ((119 - m.length % 64) % 64) 0) ++ bytesBE 8 (8 * m.length)

/-- The eight words of the digest. -/
def sha256Words (m : List Byte) : List ShaWord :=
  (pieces 64 (m.length / 64 + 2) (shaPad m)).foldl shaBlock shaInit

/-- The 32 bytes of the digest. -/
def sha256 (m : List Byte) : List Byte := (sha256Words m).flatMap (fun w => bytesBE 4 w.toNat)

/-- One bit of the reflected CRC-32 of IEEE 802.3 (R440). -/
def crc32Bit (c : BitVec 32) : BitVec 32 := if c.getLsbD 0 then (c >>> 1) ^^^ 0xEDB88320 else c >>> 1

/-- One byte of the CRC-32. -/
def crc32Byte (c : BitVec 32) (b : Byte) : BitVec 32 :=
  (List.range 8).foldl (fun c _ => crc32Bit c) (c ^^^ b.zeroExtend 32)

/-- The CRC-32 of IEEE 802.3 (R440). -/
def crc32 (l : List Byte) : Nat := (~~~(l.foldl crc32Byte 0xFFFFFFFF)).toNat

/-- One bit of the CRC-16 of polynomial 0x1021, most significant bit first (Table 15.4). -/
def crc16Bit (c : BitVec 16) : BitVec 16 := if c.getLsbD 15 then (c <<< 1) ^^^ 0x1021 else c <<< 1

/-- One byte of the CRC-16. -/
def crc16Byte (c : BitVec 16) (b : Byte) : BitVec 16 :=
  let w : BitVec 16 := BitVec.ofNat 16 (b.toNat * 256)
  (List.range 8).foldl (fun c _ => crc16Bit c) (c ^^^ w)

/-- The CRC-16 of polynomial 0x1021 and initial value 0xFFFF. -/
def crc16 (l : List Byte) : Nat := (l.foldl crc16Byte 0xFFFF).toNat

end Sys2Proof.Machine
end

