-- ==== Sys2Proof/Machine/P256.lean ====
section
/-!
DEFINITION. The P-256 curve and ECDSA over it with SHA-256, and HMAC-SHA-256: what the crypto block computes
(07_evidence_frames.md, R223, R231, R232).
-/

namespace Sys2Proof.Machine

/-- The field's prime. -/
def p256P : Nat := 0xffffffff00000001000000000000000000000000ffffffffffffffffffffffff

/-- The order of the base point. -/
def p256N : Nat := 0xffffffff00000000ffffffffffffffffbce6faada7179e84f3b9cac2fc632551

/-- The base point. -/
def p256G : Nat × Nat :=
  (0x6b17d1f2e12c4247f8bce6e563a440f277037d812deb33a0f4a13945d898c296,
   0x4fe342e2fe1a7f9b8ee7eb4a7c0f9e162bce33576b315ececbb6406837bf51f5)

/-- `b ^ e` modulo `m`, from the low bits of `e` upwards. -/
def powMod (m : Nat) : Nat → Nat → Nat → Nat → Nat
  | 0, _, _, acc => acc
  | n + 1, b, e, acc => powMod m n (b * b % m) (e / 2) (if e % 2 = 1 then acc * b % m else acc)

/-- The inverse modulo a prime of 256 bits. -/
def invMod (m a : Nat) : Nat := powMod m 256 (a % m) (m - 2) 1

/-- The chord or tangent of slope `l` through points of x `a` and (x, y) `b`: the third point, mirrored. -/
def p256Third (l xa xb yb : Nat) : Nat × Nat :=
  let x := (l * l + 2 * p256P - xa - xb) % p256P
  (x, (l * (xb + p256P - x) + p256P - yb) % p256P)

/-- The sum of two points; none is the point at infinity. -/
def p256Add : Option (Nat × Nat) → Option (Nat × Nat) → Option (Nat × Nat)
  | none, b => b
  | a, none => a
  | some (xa, ya), some (xb, yb) =>
    if xa = xb then
      if ya = yb && ya != 0 then
        some (p256Third ((3 * xb * xb + 3 * (p256P - 1)) * invMod p256P (2 * yb) % p256P) xa xb yb)
      else none
    else some (p256Third ((yb + p256P - ya) * invMod p256P (xb + p256P - xa) % p256P) xa xb yb)

/-- A multiple of a point, over the `n` low bits of the factor. -/
def p256Mul : Nat → Nat → Option (Nat × Nat) → Option (Nat × Nat) → Option (Nat × Nat)
  | 0, _, _, acc => acc
  | n + 1, k, q, acc => p256Mul n (k / 2) (p256Add q q) (if k % 2 = 1 then p256Add acc q else acc)

/-- The public key of a private key. -/
def p256Public (d : Nat) : Nat × Nat := (p256Mul 256 d (some p256G) none).getD (0, 0)

/-- The device's private key (R232). -/
def privateKey (d : DieId) : Nat := 1 + Config.deviceKey (if d = .a then 0 else 1) % (p256N - 1)

/-- The words of the public key, X then Y (CRY_PUBX_0 to 7, CRY_PUBY_0 to 7). -/
def publicWords (d : DieId) : List Nat × List Nat :=
  let q := p256Public (privateKey d)
  let words (v : Nat) : List Nat := (List.range 8).map (fun i => v / 2 ^ (224 - 32 * i) % 2 ^ 32)
  (words q.1, words q.2)

/-- An ECDSA signature of a message with private key `d` and nonce `k`: r then s, 32 bytes each, big-endian (R231). -/
def ecdsaSign (d k : Nat) (m : List Byte) : List Byte :=
  let r := (p256Public k).1 % p256N
  let s := invMod p256N k * (ofBytesBE (sha256 m) + r * d) % p256N
  bytesBE 32 r ++ bytesBE 32 s

/-- A signature verifies under a public key. -/
def ecdsaOk (q : Nat × Nat) (m sig : List Byte) : Bool :=
  let r := ofBytesBE (sig.take 32)
  let s := ofBytesBE (sig.drop 32)
  let w := invMod p256N s
  let pt := p256Add (p256Mul 256 (ofBytesBE (sha256 m) * w % p256N) (some p256G) none)
    (p256Mul 256 (r * w % p256N) (some q) none)
  decide (sig.length = 64) && decide (0 < r) && decide (r < p256N) && decide (0 < s) && decide (s < p256N) &&
    (match pt with | some (x, _) => x % p256N = r | none => false)

/-- HMAC-SHA-256 under a key of at most 64 bytes (R223). -/
def hmacSha256 (key m : List Byte) : List Byte :=
  let k := padTo 64 key
  sha256 (k.map (· ^^^ 0x5c) ++ sha256 (k.map (· ^^^ 0x36) ++ m))

end Sys2Proof.Machine
end

