-- ==== Sys2Proof/Machine/State.lean ====
section
/-!
DEFINITION. The state of an EXN2560 package: both dies, each with its register fields, its stores and the hidden
state of its blocks; the DRAM of each die; what the package shares; and the queue of waiting commands.  The outcome
reasons and the machine right after reset stand at the end.
-/

namespace Sys2Proof.Machine

/-- What a command sends out of the package, or answers. -/
inductive OutMsg where
  /-- A vector's MSI-X message (R39). -/
  | msix (v : Nat)
  /-- The data of a register read. -/
  | readData (q : Requester) (v : Nat)
  /-- A FRAME_SYNC sent by the master of the chain (R370). -/
  | frameSync
  /-- A Trellis ALARM (R142): die, class, tile, temperature, low 16 bits of the frame number. -/
  | alarm (die : DieId) (cls tile t frame : Nat)
  /-- A tile-hit map handed to the Pair Link (R382): the frame and its 640 bytes. -/
  | pairMap (frame : Nat) (map : List Byte)
  /-- A hot-spot hit handed to the Pair Link (R381): class, tile, temperature, frame, and whether it drives the pin. -/
  | pairHit (cls tile t frame : Nat) (pin : Bool)
  /-- A stagger grant sent to a die of the partner package (R183). -/
  | staggerGrant (die : DieId)
  /-- A stagger request sent to the arbiter (R183, R184); reason 0 withdraws it. -/
  | staggerRequest (die : DieId) (reason : Nat)
  /-- A stagger release sent to the arbiter of the partner package (R183). -/
  | staggerRelease (die : DieId)
  /-- A descriptor completed by a stream engine (R358): the stream; where STATUS is OK the buffer's host address and the bytes written
  there; and the host address of the descriptor's word 12 with the word written to it. -/
  | dma (stream addr : Nat) (bytes : List Byte) (wordAt word : Nat)
  /-- The data of a BAR2 read, and whether the completion is poisoned (R356). -/
  | bar2Data (bytes : List Byte) (poisoned : Bool)
  /-- A frame that the transmit port sends: its frame start number, data type, virtual channel, the embedded-data packet, and
  whether line start and line end packets go with it (R215). -/
  | vtxFrame (fs dt vc : Nat) (emb : List Byte) (lines : Bool)
  /-- The lines of the transmit port's frame, and its frame end packet (R215). -/
  | vtxLines (dt vc : Nat) (lines : List (List Byte))
  /-- An evidence log entry or record handed to the Pair Link (R237, R382). -/
  | pairMirror (bytes : List Byte)
  /-- The data of a register read that takes something away: certificate bytes, a queue entry, a received word. -/
  | regData (v : Nat)
  /-- A SYNC symbol sent by the master (R371). -/
  | trlSync (dst seq : Nat)
  /-- A Trellis packet sent by this unit: the port, DST, TYPE, TAG and payload (Tables 13.6 and 13.7). -/
  | trlPacket (up : Bool) (dst type tag : Nat) (payload : List Byte)
  /-- An ENUM packet sent down the chain (R365). -/
  | trlEnum (assign : Bool) (depth bitmap : Nat)
  /-- The bitmap returned to the master by the last unit (R365). -/
  | trlEnumRsp (bitmap count : Nat)
  /-- A TIME sent downstream: time, path delay, LEAD (R368). -/
  | trlTime (time path lead : Nat)
  /-- A TIME_REQ sent upstream (R368). -/
  | trlTimeReq
  /-- A TIME_RSP sent downstream with its two timestamps (R368). -/
  | trlTimeRsp (t2 t3 : Nat)
  /-- A HEARTBEAT on both ports: serial number, address, pair role, partner's address, both dies' EVT_GRP_SUM, throttle levels by die, DOWN port, lead die (R373). -/
  | trlHeartbeat (serial addr role paddr : Nat) (sums levels : List Nat) (down : Bool) (lead : DieId)
  /-- A LINK_NEW sent upstream (R367). -/
  | trlLinkNew
  /-- A BOOT_REQ sent upstream (R375). -/
  | trlBootReq
  /-- The 2,048 BOOT_DATA packets of the image set, sent downstream (R375). -/
  | trlBootImage
  /-- A Pair Link heartbeat: role, lead die, the jobs without a core and the slices out of service by die, HOTSPOT and throttle levels by die, whether the partner was heard (R380). -/
  | prlBeat (role : Nat) (lead : DieId) (down : List (List Nat)) (slices : List Nat) (hot : List Bool) (levels : List Nat) (heard : Bool)
  /-- A mirror entry refused (R382). -/
  | mirrorRefused
  /-- A heartbeat on the die-to-die link (R376). -/
  | d2dBeat
  /-- A word that the serial port begins to send: a master's transmit word, or a slave's. -/
  | spiOut (w : Nat)
  /-- The execute-in-place reader's line: what it sends on SPI_DO (none where the stream goes on), and the line's bytes. -/
  | xipLine (sent : List Byte) (line : List Byte)
  deriving DecidableEq, Repr

/-- Bytes of a DRAM, by address: addresses rising, no byte listed that equals what an unlisted address reads as. -/
abbrev Memory := List Host.Cell

/-- The MP's event queue (R29): entries of source and occurrence count, newest last, and the overflow entry. -/
structure EvQueue where
  entries : List (Nat × Nat) := []
  overflow : Nat := 0
  deriving DecidableEq, Repr

/-- A high word held for a requester: the requester, the address of its _LO register, the word (R11). -/
structure Held where
  req : Requester
  lo : Nat
  word : Nat
  deriving DecidableEq, Repr

/-- A mailbox behind its registers: a command posted and not yet taken by its core, or taken and its result
(STATUS, DATA) waiting for the completion (R41, R437). -/
structure Mailbox where
  waiting : Bool := false
  result : Option (Nat × Nat) := none
  deriving DecidableEq, Repr

/-- Where the sampling capacitors of a channel's cores stand (R80, R81): for a channel on two cores and for one on one, of each core
the CONV edges at which it began its last conversions, newest first. -/
structure Caps where
  full : List (List Nat) := [[], []]
  single : List (List Nat) := [[], []]
  deriving DecidableEq, Repr

/-- The Rake (02_sensor_port_and_rake.md) behind its registers: the microinstruction store and the low word of one
being written (R62); how much of the word in PC has been begun (R58); a held ROW_START (R61); the scan: whether SCAN is run, the
samples taken since it began with phase 0, the CONV edge of the first sample to come, the sample that is still to end a slot
of a scan that has stopped (its edge and number), and where the cores' capacitors stand (R56, R81); the SEQC cycle at which the word's duration begins, counted from the start, and the instant at which a
WAIT_FRAME word began to wait; pending ticks (R65); the open frame and row (R57); the SEQC cycles of the last ROW_START and
of the frame's FRAME_START (R61); the instants of the last frame start and of the frame timer's last tick (R66); the external
tick divider (R63); the levels the word asks for (R49); the Rake ran when Doze was entered, and starts again at the next tick
(R75); the commit of the frame boundary changed a plane; a frame start is on its way to the other die (R19). -/
structure Rake where
  store : RegMap := []
  low : Option (Nat × Nat) := none
  begun : Nat := 0
  held : Bool := false
  scanning : Bool := false
  off : Nat := 0
  next : Nat := 0
  tail : Option (Nat × Nat) := none
  caps : Caps := {}
  cyc : Nat := 0
  waitAt : Nat := 0
  tick : Bool := false
  early : Bool := false
  frameOpen : Bool := false
  row : Option Nat := none
  blankRow : Bool := false
  rowCyc : Option Nat := none
  frameCyc : Option Nat := none
  lastFrame : Option Nat := none
  timerAt : Option Nat := none
  divided : Nat := 0
  rowen : Bool := false
  biasen : Bool := false
  blindsel : Bool := false
  dozeRan : Bool := false
  again : Bool := false
  planes : Bool := false
  sent : Bool := false
  deriving DecidableEq, Repr

/-- The AFE behind its registers: the outputs that drive (bit as AFE_OUT_EN), those that ramp down (R48, R75), an off
sequence under way (R52), the outputs outside ±2 % since they were GOOD (R438), the consecutive measurements over the limit (R50), the instant of
the last frame-boundary step of each output, the diode readings since the last FRAME_START (R54), and the last valid
focal-plane temperature (R55). -/
structure Afe where
  driven : BitVec 5 := 0
  falling : BitVec 5 := 0
  offSeq : Bool := false
  outside : BitVec 5 := 0
  overs : List Nat := [0, 0, 0, 0, 0]
  stepAt : List (Option Nat) := [none, none, none, none, none]
  fpdSum : List Int := [0, 0]
  fpdCnt : List Nat := [0, 0]
  tf : Int := 0
  deriving DecidableEq, Repr

/-- The frame flags of Table 0.6 (R16). -/
structure FrameFlags where
  settling : Bool := false
  hold : Bool := false
  gap : Bool := false
  drop : Bool := false
  short : Bool := false
  long : Bool := false
  linelen : Bool := false
  arith : Bool := false
  twinfail : Bool := false
  graft : Bool := false
  throttle : Bool := false
  limited : Bool := false
  unsealed : Bool := false
  deriving DecidableEq, Repr

/-- The thermal frame that the last FRAME_START began: its number, its flags so far, its gain state, when it began,
its counts (Tables 4.9, 7.1), the once-per-frame reports already made, whether it has been abandoned, and what the
Sieve latched for it (R120). -/
structure ThermFrame where
  num : Nat := 0
  flags : FrameFlags := {}
  gain : Nat := 0
  start : Nat := 0
  sat : Nat := 0
  arith : Nat := 0
  twin : Nat := 0
  filled : Nat := 0
  unfilled : Nat := 0
  seen : List Nat := []
  abandoned : Bool := false
  tf : Int := 0
  th : Int := 0
  fpa : Int := 0
  calId : Nat := 0
  calGen : Nat := 0
  calHash : List Nat := []
  throttle : Nat := 0
  deriving DecidableEq, Repr

/-- One row of the trim map as delivered into the rings: the row, its bytes, the words of the row that read code 32 with TRIMERR
(R95, R96), and whether it was delivered at all, TRM_CTRL.EN being 1. -/
structure TrimRow where
  row : Nat := 0
  data : Memory := []
  bad : List Nat := []
  on : Bool := false
  deriving DecidableEq, Repr

/-- The trim map (R94 to R99, R104): the SRAM's bytes; whether they are stale; words held invalid; the bypass list;
a switch under way to a new base; the rows that a copy under way has written; a load under way; the rings in force and the
shadow rings; the channels whose rings hold an uncorrectable entry, with the rows in a row of which that is so (Table 15.1). -/
structure Trm where
  sram : Memory := []
  stale : Bool := false
  invalid : List Nat := []
  bypass : List Nat := []
  switching : Option Nat := none
  copied : List Nat := []
  loading : Bool := false
  ring : TrimRow := {}
  shadow : TrimRow := {}
  runs : List (Nat × Nat) := []
  deriving DecidableEq, Repr

/-- A cluster's spare and pending changes (R89, R92, R93): cores to leave at the next ROW_START, cores to return at
the next FRAME_START, the ROW_STARTs left until a decided graft lands, a release and a channel's return pending at
FRAME_START, and the channels that have failed without a spare. -/
structure Clu where
  removing : List (Nat × Nat) := []
  returning : List (Nat × Nat) := []
  landing : Option Nat := none
  releasing : Bool := false
  restoring : List Nat := []
  failed : List Nat := []
  deriving DecidableEq, Repr

/-- A cluster as a row's results see it: whether it converts, its cores out of service, its channels out of service,
and the channel whose AIN the spare serves. -/
structure CluRow where
  converts : Bool
  out0 : Nat
  out1 : Nat
  void : Nat
  spareFor : Option Nat
  deriving DecidableEq, Repr

/-- Samples of one word that fall in a row (R56, R57): the CONV edge one before the first sample's, the number of the first since
scanning began with phase 0, and how many they are. -/
structure ScanSeg where
  edge : Nat
  off : Nat
  len : Nat
  deriving DecidableEq, Repr

/-- A row whose windows are open: the row, its frame, the settings that frame gives it, the scanning in it, and the registers
in force at its ROW_START, which its samples are converted with (R78), the gain correction of its frame (R299), and the
capacitors as the row before left them (R81). -/
structure OpenRow where
  row : Nat
  frame : Nat
  gain : Nat
  skip : Nat
  cnt : Nat
  shift : Nat
  lpm : Bool
  lpCore : Nat
  trims : TrimRow
  clus : List CluRow
  scan : List ScanSeg
  regs : RegFile
  comp : Int := 0
  caps : Caps := {}
  deriving DecidableEq, Repr

/-- An accumulator result (Table 3.3). -/
structure AccResult where
  p : Nat
  e : Nat
  l : Nat
  n : Nat
  ne : Nat
  ovr : Nat
  gain : Nat
  deg : Bool
  under : Bool
  void : Bool
  trimerr : Bool
  deriving DecidableEq, Repr

/-- A row of accumulator results on its way into the Sieve: one list of six for each channel in use. -/
structure AccRow where
  row : Nat
  frame : Nat
  gain : Nat
  shift : Nat
  chans : List (List AccResult)
  deriving DecidableEq, Repr

/-- The converters in common (R84 to R91, R100): rows with open windows, oldest first; the over-range counts of the
frames not completed; the regions that have reported UNDER, by frame; SETTLING due in the next frame and kept from an abandoned one;
the check level's place and the round under way; the last check round; regions with an armed capture; the instant an
arming powered a core up; the gain correction of the frame, in 10^-6 (R299). -/
structure Acb where
  rows : List OpenRow := []
  ovr : List (Nat × Nat) := []
  underSeen : List (Nat × Nat) := []
  settleDue : Bool := false
  level : Nat := 0
  round : Option Nat := none
  roundAt : Nat := 0
  captures : List Nat := []
  warmFrom : Option Nat := none
  comp : Int := 0
  deriving DecidableEq, Repr

/-- The values a frame's rows are corrected and audited with (R120). -/
structure SieveParams where
  frame : Nat := 0
  gain : Nat := 0
  bref : Nat := 0
  twin : Bool := false
  d1Shift : Nat := 10
  d2Shift : Nat := 8
  hShift : Nat := 5
  dtf : Int := 0
  dth : Int := 0
  k : Nat := 0x8000
  plane : Nat := 0
  resp : RegMap := []
  zones : RegMap := []
  viewOpen : Bool := false
  row0 : Nat := 0
  rowsM1 : Nat := 0
  framesM1 : Nat := 31
  stuckRange : Nat := 4
  stuckScene : Nat := 400
  noisy : Nat := 40
  flickers : Nat := 4
  step : Nat := 200
  deriving DecidableEq, Repr

/-- One active pixel as it left its slice (R107, R124): X, Y, T, marked for replacement, its coefficient flags carry
DEFECT, NOAUDIT, and whether no slice corrected it (R134). -/
structure Pix where
  x : Int
  y : Nat
  t : Nat
  mark : Bool
  defect : Bool
  noaudit : Bool
  lost : Bool
  deriving DecidableEq, Repr

/-- A corrected row. -/
structure SieveRow where
  row : Nat
  frame : Nat
  pix : List Pix
  deriving DecidableEq, Repr

/-- The Sieve's slices, rows and captures: results waiting at the entry, the row in the Sieve, rows cleared and held
by the fill stage, the row above these already released; the values of the frame begun last and of the one before;
slices to leave from the next row and to return at the next FRAME_START, the region the spare serves as its own; the pairs of
twin slices of which the first is at its test and the second waits for that test's end (R136); an armed capture; a slice has left
service between frames, so that the next frame carries GRAFT. -/
structure Sieve where
  waiting : List AccRow := []
  inside : Option SieveRow := none
  held : List SieveRow := []
  above : Option SieveRow := none
  cur : SieveParams := {}
  prev : SieveParams := {}
  removing : List Nat := []
  returning : List Nat := []
  spareFor : Option Nat := none
  twins : List (Nat × Nat) := []
  capture : Bool := false
  graftDue : Bool := false
  deriving DecidableEq, Repr

/-- One half of the CMM's row buffer: the row and its frame, its coefficient words by channel and phase, the columns
to be taken as uncorrectable, and the row's dynamic defect bits by active column (R118, R131). -/
structure CoefRow where
  row : Nat
  frame : Nat
  words : List (List Nat)
  bad : List Nat
  dyn : List Bool
  deriving DecidableEq, Repr

/-- The CMM: the halves of the row buffer, newest first; the plane being hashed. -/
structure Cmm where
  halves : List CoefRow := []
  hashing : Option Nat := none
  deriving DecidableEq, Repr

/-- The radiometry's banks and tiles: the response tables (entry 4,096 k + i) and the zone map in force and staged;
the frame whose tiles are being counted, each tile's pixels above threshold, the tiles that reached their count and
those that hit, whether one with PIN hit, the runs of counted frames; the classes that hit, those that sent an ALARM,
and the counted frames in a row that each class hit in; the tiles read with an error, by frame; whether the frame's comparison has
been closed; whether a hit of this die or of the partner holds the pin low, and when the last such hit was. -/
structure Rad where
  resp : RegMap := []
  zones : RegMap := []
  respStaged : RegMap := []
  zonesStaged : RegMap := []
  tileFrame : Nat := 0
  above : RegMap := []
  reached : List Nat := []
  hits : List Nat := []
  pinHit : Bool := false
  runs : RegMap := []
  classes : List Nat := []
  alarmed : List Nat := []
  streaks : RegMap := []
  bad : List (Nat × Nat) := []
  closed : Bool := true
  pinLow : Bool := false
  pinAt : Option Nat := none
  deriving DecidableEq, Repr

/-- The statistics of one audited pixel, with twice the reference R and twice the difference d so that they stay
whole (R129). -/
structure AuditPix where
  row : Nat
  col : Nat
  yMin : Nat
  yMax : Nat
  rMin : Nat
  rMax : Nat
  sum : Int
  sumSq : Nat
  cnt : Nat
  steps : Nat
  prev : Int
  deriving DecidableEq, Repr

/-- The Weeder's audit: the store after the last counted frame, and the store with the rows of the frame under way
(R129); the window and length the band was begun with, once a FRAME_START has begun one; the counted frames completed in it, the frame from which it counts and
the last one completed; map bits changed since the last FRAME_START, with what they held
before (R130). -/
structure Wdr where
  store : List AuditPix := []
  work : List AuditPix := []
  workFrame : Nat := 0
  key : Option (Nat × Nat × Nat) := none
  frames : Nat := 0
  since : Nat := 0
  done : Nat := 0
  fresh : List (Nat × Nat × Bool) := []
  deriving DecidableEq, Repr

/-- A Cloche move under way (R154): closing or opening, the segment (0 boost, 1 run, 2 brake), when this try began, and
whether it repeats a stalled one (R155). -/
structure Move where
  closing : Bool
  seg : Nat
  began : Nat
  again : Bool
  deriving DecidableEq, Repr

/-- The Cloche behind its registers: the Hall balls; the move; when the closure began; neither Hall input asserted for
MOVE_TMO (R157); an opening owed after a repeated closing move; when the heater was enabled, since when the blade has been within
the band, and the sum of the squares of its errors over the readings of the first 10 s there, with their number (R160). -/
structure Clo where
  hall0 : Bool := false
  hall1 : Bool := false
  move : Option Move := none
  closingAt : Option Nat := none
  idle : Bool := false
  reopen : Bool := false
  heatFrom : Option Nat := none
  bandFrom : Option Nat := none
  bandSq : Nat := 0
  bandCnt : Nat := 0
  deriving DecidableEq, Repr

/-- What the CAL records of an accumulated frame (R166): focal-plane and housing temperatures, ΔTf and ΔTh, the blade
temperature, the sum and count of Y. -/
structure CalFrame where
  tf : Int
  th : Int
  dtf : Int
  dth : Int
  blade : Option Int
  ySum : Nat
  yCnt : Nat
  deriving DecidableEq, Repr

/-- A shutter event in progress (R164 to R173): its gain state, F, warm or cold, host request or not; the first settle,
first group A, first group B and last frame; the accumulated frames; the plane in force, SVE_TF0 and SVE_TH0 when it
began; whether the writer runs, has ended accepted, and the commit is armed; and what the writer found. -/
structure CalEvent where
  gain : Nat
  f : Nat
  warm : Bool
  first : Nat
  settleFrame : Nat
  groupA : Nat
  groupB : Nat
  last : Nat
  recs : List (Nat × CalFrame) := []
  plane : Nat
  tf0 : Int
  th0 : Int
  writing : Bool := false
  accepted : Bool := false
  armed : Bool := false
  alt : Nat := 0
  newTf0 : Int := 0
  newTh0 : Int := 0
  hash : List Nat := []
  post : Nat := 0
  gains : Bool := false
  deriving DecidableEq, Repr

/-- A stagger request at the arbiter (R184), with the time it came. -/
structure StaggerReq where
  partner : Bool
  die : DieId
  reason : Nat
  came : Nat
  deriving DecidableEq, Repr

/-- The CAL behind its registers: a host request that is due, and its ARG while it is unanswered; the event; when the event
that is due began to wait, and DEFER_LONG raised for it; when the last event ended, and when the Rake first started (R162,
R163); an event accepted since start-up; when the last one was accepted, and its POST (R179); rejections in a row; the cold
event awaiting its warm one (time, focal-plane temperature); blanking words measured since the last estimates, estimates and
disagreements by trim, trims that wait for a commit, and a spur level computed (R150 to R153); a hash asked for by the CP; a
record being written (slot, generation), one due, when one was last written by itself, and the generations of discarded ones
(R181, R182); the arbiter's requests, the holder of its grant, and when it was last released. -/
structure Cal where
  hostDue : Bool := false
  host : Option Nat := none
  event : Option CalEvent := none
  waitFrom : Nat := 0
  deferred : Bool := false
  endedAt : Option Nat := none
  rakeAt : Option Nat := none
  acceptedOnce : Bool := false
  acceptedAt : Nat := 0
  post : Nat := 0
  rejects : Nat := 0
  cold : Option (Nat × Int) := none
  words : Nat := 0
  ests : List (Nat × Int) := []
  disagree : RegMap := []
  trims : List (Nat × Nat × Nat × Int) := []
  spurKnown : Bool := false
  hash : Bool := false
  hashMbx : Bool := false
  record : Option (Nat × Nat) := none
  recordMbx : Bool := false
  recordDue : Bool := false
  recordAt : Option Nat := none
  lostGens : List Nat := []
  requests : List StaggerReq := []
  holder : Option StaggerReq := none
  releasedAt : Option Nat := none
  deriving DecidableEq, Repr

/-- Something a DMA stream has to deliver (Table 13.2): its stream, its bytes, and the output buffer it lies in. -/
structure DmaItem where
  stream : Nat
  bytes : List Byte
  buf : Option (Nat × Nat × Nat) := none
  deriving DecidableEq, Repr

/-- The PCIe endpoint behind its registers (R354 to R360, R431): the items not yet delivered, oldest first; Bus Master
Enable; D3hot; PE_PERST_N low; the link's width and speed, which PCI_LINK shows (log entry 65); MSI-X Enable and Function Mask (log entry 108); the MSI-X table's words by offset (R355); and ring
addresses by stream whose low word is written and whose high word is not (R11). -/
structure Dma where
  items : List DmaItem := []
  bme : Bool := false
  d3 : Bool := false
  perst : Bool := false
  width : Nat := 0
  speed : Nat := 0
  msixOn : Bool := true
  funcMask : Bool := false
  table : RegMap := []
  ringLo : RegMap := []
  deriving DecidableEq, Repr

/-- The Trellis time of the die: its value in ns at an instant, with the part below 1 ns in units of 10^-8 ns, the
correction of its rate in units of 10^-8 (R299), whether it follows the chain's TIME, and the offset still to be removed, in
10^-8 ns, with the rate of its removal in units of 10^-8 (R369). -/
structure Clock where
  base : Nat := 0
  fine : Nat := 0
  from_ : Nat := 0
  rate : Int := 0
  aligned : Bool := false
  slew : Int := 0
  slewRate : Nat := 0
  deriving DecidableEq, Repr

/-- A unit in an input ring (R193): its first line, its lines, the slot that holds it (none: fill alone), and since
when it is ready. -/
structure RingUnit where
  first : Nat
  count : Nat
  slot : Option Nat
  ready : Option Nat
  deriving DecidableEq, Repr

/-- A posted token (R212): the frame it falls due at (none: the FRAME_START at which the pending SEQ commit applies), the
instant of its GO, VALUE, and the snapshot of the staged fields. -/
structure Token where
  posted : Nat := 0
  due : Option Nat
  value : Nat
  snap : RegMap
  deriving DecidableEq, Repr

/-- An unfinished frame of a context (R193, R196): its number, the camera's number, when it began, its flags, its
token, its settings, the palette, gamma table and colour matrix read at its start (R205), the lines it should have and has
received, the real pixels of each stored line, its padded or truncated lines, whether it has ended, its units not yet finished,
the vision tap 0 lines of its finished units, its embedded data, its output buffers, whether it has waited for one, whether it
is the first after an enabling or a change of crop (R204), the highest throttle level, the Sieve's record of a thermal
frame, and whether it owes its delivery SETTLING for an abandoned frame (Table 0.6). -/
structure CtxFrame where
  num : Nat
  sensor : Nat := 0
  start : Nat := 0
  flags : FrameFlags := {}
  token : Nat := 0
  settings : RegMap := []
  palette : List Nat := []
  gamma : List Nat := []
  matrix : List Int := []
  lines : Nat := 0
  width : Nat := 0
  got : Nat := 0
  lens : List Nat := []
  bad : Nat := 0
  ended : Bool := false
  units : List RingUnit := []
  tap0 : List (List Nat) := []
  emb : List Byte := []
  bufs : List (Nat × Nat) := []
  waited : Bool := false
  fresh : Bool := false
  throttle : Nat := 0
  therm : Option ThermFrame := none
  owes : Bool := false
  deriving DecidableEq, Repr

/-- A line held in a line buffer while its ring has no free slot (R196): its frame, its bytes as stored, its real
pixels. -/
structure HeldLine where
  num : Nat
  bytes : List Byte
  real : Nat
  deriving DecidableEq, Repr

/-- A context behind its registers: when its enabling was written; in force since its source's last frame start; a frame of its
source open; the rest of that frame discarded; unfinished frames, oldest first; lines held, and the frame and line whose need of
a slot has had its victim (R196); tokens; GAP, DROP and SETTLING due; no history in the next frame; thermal frames with HOLD
that wait for an earlier frame or their last row; the histogram of the last frame, with its base and shift (R203). -/
structure Ctx where
  askedAt : Option Nat := none
  active : Bool := false
  rx : Bool := false
  discarding : Bool := false
  frames : List CtxFrame := []
  held : List HeldLine := []
  wants : Option (Nat × Nat) := none
  tokens : List Token := []
  gap : Bool := false
  drop : Bool := false
  settle : Bool := false
  fresh : Bool := true
  holds : List CtxFrame := []
  hist : Option (Nat × Nat × List Nat) := none
  deriving DecidableEq, Repr

/-- An output payload in the output store (R207, R208): context, output, buffer, frame number, bytes, size and
format; complete. -/
structure OutBuf where
  ctx : Nat
  out : Nat
  k : Nat
  num : Nat
  bytes : List Byte := []
  width : Nat := 0
  height : Nat := 0
  stride : Nat := 0
  fmt : Nat := 0
  complete : Bool := false
  deriving DecidableEq, Repr

/-- A frame whose payloads are all complete and that has no ESN yet (R224): the context, its record, its outputs, the GRAFTS
word of its completion, and whether it was complete only while a reset of the evidence block waited (R36). -/
structure DoneFrame where
  ctx : Nat
  frame : CtxFrame
  outs : List OutBuf
  grafts : Nat
  late : Bool := false
  deriving DecidableEq, Repr

/-- A display frame that the transmit port has been offered or sends (R215): its context, its number, the number of the frame
whose buffer it is, its record as it was offered, and the first 64 bytes of its header once it has its number. -/
structure VtxFrame where
  ctx : Nat
  num : Nat
  buf : Nat
  frame : CtxFrame
  head : Option (List Byte) := none
  deriving DecidableEq, Repr

/-- The pipeline behind its registers: the contexts; the context whose unit runs and since when, and the last one that
ran; the intervals in which a unit has run lately, each with whether it began with a switch; the output store; frames
complete in order; the display frame that waits for the transmit port and the one it sends, with UNDERRUN raised. -/
structure Ipp where
  ctx : List Ctx := List.replicate 8 {}
  running : Option Nat := none
  began : Nat := 0
  last : Option Nat := none
  runs : List (Nat × Nat × Bool) := []
  bufs : List OutBuf := []
  done : List DoneFrame := []
  vtxNext : Option VtxFrame := none
  vtx : Option VtxFrame := none
  under : Bool := false
  deriving DecidableEq, Repr

/-- The last frame of a stream in the session (R223, R231): stream, ESN, frame number, tag. -/
structure StreamPos where
  stream : Nat
  esn : Nat
  num : Nat
  tag : List Byte
  deriving DecidableEq, Repr

/-- A record that awaits signature (Table 7.5): TYPE, INFO, SESSION, EPOCH, TIME, NEXT_ESN, LIMIT, KEY, NEXT_COMMIT,
KEY_PREV, its stream entries, and whether a mailbox command waits for it. -/
structure SealReq where
  type : Nat
  info : Nat
  session : Nat
  epoch : Nat
  time : Nat
  next : Nat
  limit : Nat
  key : List Byte
  commit : List Byte
  keyPrev : List Byte
  entries : List StreamPos
  ask : Bool
  deriving DecidableEq, Repr

/-- A session's opening under way (R227): its start kind, whether it runs without keys, its number, its first ESN, its first two
keys, and the hash of its OPEN record. -/
structure Opening where
  kind : Nat
  noKey : Bool
  session : Nat
  first : Nat
  key : List Byte
  nextKey : List Byte
  hash : List Byte
  deriving DecidableEq, Repr

/-- The evidence engine and its processor behind the registers (R224 to R237): the session open, the key of the open
epoch and of the next, frames in the epoch and the instant of the last cut; records that await signature; the streams of
the session and each stream's last frame number plus one; the session's first ESN; the hash of its OPEN and of its last
record; a reservation under way; a close under way (its start, whether a mailbox command waits, whether the FINAL goes to
the seal ring only, the FINAL's slot and hash once signed); a host's seal that waits; the next slot of the seal ring;
PFAIL_N asserted; of the frames that wait for an ESN, those that EVD_STARVE has counted; the number of the session; the key of
an epoch whose SEAL has not been issued; log entries that wait for the EP (Table 1.7); a recovered session that is still to be
opened after a block reset, and an opening whose writes are not all made (R227); the close under way is a power failure's. -/
structure Evd where
  live : Bool := false
  key : List Byte := []
  nextKey : List Byte := []
  count : Nat := 0
  cutAt : Nat := 0
  queue : List SealReq := []
  streams : List StreamPos := []
  lastNum : RegMap := []
  first : Nat := 0
  openHash : List Byte := []
  prevRec : List Byte := []
  reserving : Option Nat := none
  closing : Option Nat := none
  closeAsk : Bool := false
  ringOnly : Bool := false
  finalSigned : Bool := false
  sealAsk : Bool := false
  slot : Nat := 0
  pfail : Bool := false
  starving : List (Nat × Nat) := []
  session : Nat := 0
  unsealed : List Byte := []
  logWaits : List (List Byte) := []
  reopen : Bool := false
  opening : Option Opening := none
  pfClose : Bool := false
  deriving DecidableEq, Repr

/-- A field result whose last sample is taken (R254): the sequence entry, channel, gain, differential, its value or the
sample of an INVALID one, its tags, whether it is queued, its time, and whether it is the last of its run. -/
structure FcvResult where
  entry : Nat
  ch : Nat
  gain : Nat
  diff : Bool
  value : Nat
  urgent : Bool
  invalid : Bool
  part : Bool
  ovr : Bool
  trig : Bool
  queued : Bool
  time : Nat
  last : Bool
  deriving DecidableEq, Repr

/-- A visit of the field converter as it began (R244, R245): the entry, its channel, DIFF, QUEUE and whether the run ends with it;
the gain, count and shift in force; the INVALID samples before the average; of averages that a change of gain discarded the samples,
how many of them were to be INVALID, and the gain (Table 8.3); the samples taken, and whether core 1 took the first one (R243). -/
structure FcvVisit where
  entry : Nat
  ch : Nat
  diff : Bool
  queue : Bool
  last : Bool
  gain : Nat
  cnt : Nat
  shift : Nat
  inv : Nat
  dropped : List (Nat × Nat × Nat) := []
  taken : Nat := 0
  odd : Bool := false
  deriving DecidableEq, Repr

/-- A visit whose last sample has been taken, or of a run that STOP has `cut`, with INVALID samples that are results by themselves
(R247, R251): urgent or main; its first result carries TRIG, its result PARTIAL, its INVALID samples are results; the reference's
correction of the run and the core that low-power mode fixes; the instant of its last sample and the sample period, in PERI cycles;
and its inputs' voltages, where the command that ended it brought them. Its results are delivered 400 ns later (R254). -/
structure FcvEnded where
  visit : FcvVisit
  urgent : Bool
  trig : Bool
  part : Bool
  inv : Bool
  cut : Bool
  comp : Int
  core : Option Nat
  lastAt : Nat
  pace : Nat
  volts : Option (List Int)
  deriving DecidableEq, Repr

/-- The field converter behind its registers: MODE of the run or arming in force, the next result of the main and of the
urgent run carries TRIG, the entry of the main and of the urgent run, the input of the previous sample (channel,
differential, gain), visits whose results are to be delivered, the queue (oldest first), whether results were lost since the last queued
one, and the channels whose averaging changed since their last result; the visit under way; the full-rate sample taken next goes
to core 1 (R243); the gain and offset trims of each core, in 10^-6 and in 10^-6 LSB, and the gain correction of the run, in 10^-6
(R240, R299); the held urgent run's first result carries TRIG; when the start request of the main run landed, until its first
visit ends (R253); the next sample instant, and that of the last sample, in PERI cycles (R243). -/
structure Fcv where
  mode : Nat := 0
  mainTrig : Bool := false
  urgTrig : Bool := false
  heldTrig : Bool := false
  mainEntry : Nat := 0
  urgEntry : Nat := 0
  last : Option (Nat × Bool × Nat) := none
  due : List FcvEnded := []
  queue : List Nat := []
  lost : Bool := false
  changed : List Nat := []
  visit : Option FcvVisit := none
  odd : Bool := false
  cores : List (Int × Int) := []
  comp : Int := 0
  nextTrig : Bool := false
  mainAt : Option Nat := none
  nextAt : Option Nat := none
  sampleAt : Option Nat := none
  deriving DecidableEq, Repr

/-- A control loop behind its registers (R261 to R270): the measurement of the previous evaluation, the integrator, the
mark of the source's value that the last evaluation saw, evaluations in a row without a fresh one, stopped by the hold
limit. -/
structure Loop where
  prev : Option Int := none
  integ : Int := 0
  seen : Option Nat := none
  stale : Nat := 0
  stopped : Bool := false
  deriving DecidableEq, Repr

/-- The loops, and the marks of the sources that come without one of their own: FRAME_STARTs and writes of each
LOOPn_HOSTM. -/
structure Lpc where
  loops : List Loop := List.replicate 16 {}
  frames : Nat := 0
  host : List Nat := List.replicate 16 0
  deriving DecidableEq, Repr

/-- What a PWM pair took at its last wrap (R272, R273): the mode; the period and the dead time in PERI cycles; the high times of
the even and the odd output in sixteenths of a cycle; the bridge's direction; and which outputs were held low. -/
structure PwmForce where
  mode : Nat := 0
  span : Nat := 0
  dt : Nat := 0
  even : Nat := 0
  odd : Nat := 0
  rev : Bool := false
  lowA : Bool := true
  lowB : Bool := true
  deriving DecidableEq, Repr

/-- A PWM pair (R271 to R273): its counter runs, from which place of the period it was started last; the period's
number in the run of 16; what the last wrap took; the bridge leg driven last (1 reverse) and for how many cycles of whole periods
both have been low since; and when each output goes high and low within the period under way, in PERI cycles. -/
structure PwmPair where
  running : Bool := false
  from_ : Nat := 0
  period : Nat := 0
  force : PwmForce := {}
  leg : Option Bool := none
  lowFor : Nat := 0
  waveA : Nat × Nat := (0, 0)
  waveB : Nat × Nat := (0, 0)
  deriving DecidableEq, Repr

/-- An output's high time and direction before a write, and whether it was held low. -/
structure DutyWas where
  out : Nat
  duty : Nat
  rev : Bool
  low : Bool
  deriving DecidableEq, Repr

/-- The PWM: the pairs; each output's high time for the next wrap, in sixteenths of a cycle; the outputs held low since
they were driven off (R274); and, for a wrap of the same PERI cycle, what the duties written in it were (R272). -/
structure Pwm where
  pairs : List PwmPair := List.replicate 8 {}
  duty : List Nat := List.replicate 16 0
  low : BitVec 16 := 0
  fresh : List DutyWas := []
  deriving DecidableEq, Repr

/-- An LED channel (R276 to R281): the fade under way (from, to, periods, periods done); the cycles it is on in this LED
period; the current applied; strobe pulses scheduled (first and last instant); held off by a fault; reference lost. -/
structure LedChan where
  fade : Option (Nat × Nat × Nat × Nat) := none
  onFor : Nat := 0
  code : Nat := 0
  pulses : List (Nat × Nat) := []
  held : Bool := false
  noRef : Bool := false
  deriving DecidableEq, Repr

/-- The LED block: its channels; the LED period's number in the run of four; a commit's instant has come; values armed
for a Trellis SYNC, and the Trellis instant, in ns of the State's clock, at which the SYNC that came takes effect (R371); driven off for good (R283); when the values were armed for a SYNC (R282). -/
structure Led where
  chans : List LedChan := List.replicate 12 {}
  phase : Nat := 0
  due : Bool := false
  sync : Bool := false
  synced : Option Nat := none
  off : Bool := false
  armedAt : Option Nat := none
  deriving DecidableEq, Repr

/-- A temperature sensor behind its registers (R285 to R289): its last valid reading; the same if the sample before was valid
and entered the comparisons; its last valid reading, whatever FAIL says, since the block last began sampling (R112); valid
readings in a row since it was acknowledged; when it failed; its samples. -/
structure Sensor where
  last : Option Int := none
  prev : Option Int := none
  valid : Option Int := none
  good : Nat := 0
  failAt : Nat := 0
  count : Nat := 0
  deriving DecidableEq, Repr

/-- A zone of temperature sensors behind its registers (R287 to R298): the zone temperature and the shutdown temperature at
the last sample; the spare that serves a failed member (member, spare, valid readings so far); the level below which a held
zone does not fall; valid readings since the zone had none. -/
structure Zone where
  prev : Option Int := none
  shut : Option Int := none
  graft : Option (Nat × Nat × Nat) := none
  floor : Nat := 0
  back : Nat := 0
  deriving DecidableEq, Repr

/-- A throttle action, or the leaving of one, that waits for its block's frame boundary (R293): its level and field, whether it
is being left, and when the MP ordered it. -/
structure ThrottleStep where
  level : Nat
  fld : Fld
  leaving : Bool
  since : Nat
  deriving DecidableEq, Repr

/-- The THM (10_thermal_management.md) behind its registers: the sensors; the zones; the orderly stop under way and its deadline passed; levels whose actions the MP has begun
to take (R293), actions that wait for a pending commit (level, field), those that wait for a frame boundary, and actions taken (level, field, the value before, the
value set), newest first; the hidden trims of Table 10.7: time base, array, field, VDET, VBLIND, VREFC. -/
structure Thm where
  sens : List Sensor := List.replicate 10 {}
  zones : List Zone := List.replicate 4 {}
  stopping : Bool := false
  deadline : Bool := false
  acted : Nat := 0
  waiting : List (Nat × Fld) := []
  due : List ThrottleStep := []
  taken : List (Nat × Fld × Nat × Nat) := []
  trims : List Int := [0, 0, 0, 0, 0, 0]
  deriving DecidableEq, Repr

/-- The fuse array of a die (R311, Table 11.3), which nothing changes: serial number, options, factory repairs, the
56 pin states, the PWM outputs held safe, the execute-in-place reader's settings (R399), whether a device key is
present (R232), and the IDs of the PCIe function (Table 13.1). -/
structure Fuses where
  serial : Nat := 0
  exportPart : Bool := false
  locked : Bool := false
  rrestart : Bool := false
  rfilt : Bool := false
  repairs : Nat := 0
  pins : List Nat := List.replicate 56 0
  pwmSafe : Nat := 0
  addr4 : Bool := false
  tgt : Nat := 0
  cmd : Nat := 0
  dummy : Nat := 0
  div : Nat := 0
  key : Bool := true
  vendor : Nat := 0
  revision : Nat := 0
  subVendor : Nat := 0
  subsystem : Nat := 0
  deriving DecidableEq, Repr

/-- What holds a configurable pin (R314, R315): a pull or level of the fuse map, or the block that drives it. -/
inductive PinDrive where
  | highZ | pullUp | pullDown | low | high | block
  deriving DecidableEq, Repr

/-- A reset source as it is asserted (Table 11.1): its place in the order of R312 (1 power-on, 2 PORST_N, 3 thermal restart,
4 RESET_N pin, 5 clock monitor, 6 watchdog, 7 command), its reach and cause codes (RST_CAUSE), its detail, and whether it
lasts until it is released. -/
structure ResetSource where
  order : Nat
  reach : Nat
  cause : Nat
  detail : Nat
  held : Bool
  deriving DecidableEq, Repr

/-- A reset episode (R308 to R312): the latched reach, the sources still asserted (their places in the order), the source
recorded, whether a fuse load is needed and not complete, whether it has begun (R311), the restarts of the load (R310). -/
structure Episode where
  reach : Nat
  active : List Nat
  best : ResetSource
  loading : Bool
  begun : Bool
  restarts : Nat
  deriving DecidableEq, Repr

/-- A start in progress (Table 11.5): the step in progress; the image set is in place (step 5); the base set is in place
(step 7); when reset was released; whether the DRAM was kept (R322); the session's opening has begun (step 9). -/
structure Start where
  step : Nat
  go : Bool := false
  base : Bool := false
  at_ : Nat := 0
  dram : Bool := false
  opening : Bool := false
  deriving DecidableEq, Repr

/-- The start-up and power state (11_reset_startup_and_power_states.md) behind the registers: limited mode (R324);
whether the processor cores run, and the jobs whose core is being replaced (R27): 0 MP, 1 CP, 2 LP, 3 EP; a reset episode;
sources absorbed by an orderly stop (R301); a start in progress; a failed start that waits for its retry, or for a limited
start (the instant of its release; R323); Dormant, and its latched wake configuration (PWR_WAKE); a power state change under way; the power
state that the die is in, which PWR_STATE shows (log entry 65); a wake in Hold, and whether its evidence cut is made (R328);
the supplies below their power-on threshold and the banks B2 to B4 without supply (R424); PKGCFG_BAD holds; the fuse shadows are
lost and not loaded again (R311); the state that a waiting wake resumes to (R327, R328); and the falls of PORST_N (2) and RESET_N (4)
that the filter holds, each with the instant at which it is taken as an assertion (R310); the pages whose class P fields the MP is
still to reload after a block reset (R346). -/
structure Boot where
  limited : Bool := false
  cores : Bool := false
  down : List Nat := []
  episode : Option Episode := none
  absorbed : List ResetSource := []
  start : Option Start := none
  retry : Bool := false
  limitedDue : Option Nat := none
  cutMade : Bool := false
  dormant : Bool := false
  wake : Nat := 0
  going : Option Nat := none
  power : Nat := 0
  wokenAt : Option Nat := none
  low : BitVec 3 := 0
  banks : BitVec 3 := 0
  pkgBad : Bool := false
  unfused : Bool := false
  wakeTo : Nat := 0
  filt : List (Nat × Nat) := []
  reloads : List Nat := []
  deriving DecidableEq, Repr

/-- A physical page of the Seed Tray (12_seed_tray.md): its 64 bytes, the groups that read uncorrectable, and the page
tag: sequence number, write count, CRC-32; of logical page 2, the lockout base that the page holds with the hashes (log entry
109). -/
structure PhysPage where
  data : List Byte := List.replicate 64 0
  bad : BitVec 8 := 0
  seq : Nat := 0
  writes : Nat := 0
  crc : Nat := 0x758D6336
  base : Nat := 0
  deriving DecidableEq, Repr

/-- A tally slot: value, generation, commit CRC matching, write count (R343, R349). -/
structure TallySlot where
  value : Nat := 0
  gen : Nat := 0
  valid : Bool := false
  writes : Nat := 0
  deriving DecidableEq, Repr

/-- What a Seed Tray write does (R334, R336, R343, R347, R349): bytes into a logical page from an offset; a logical page written
again from one copy because the other is bad; the lockout base; a tally's new value, or an amount added to it; a retired physical
page's content into a spare, with the cause; the move of a physical page to a spare recorded in the spare map. -/
inductive NvsWrite where
  | page (n off : Nat) (bytes : List Byte)
  | mend (n bad : Nat)
  | base (value : Nat)
  | tally (t value : Nat)
  | add (t amount : Nat)
  | retire (phys cause : Nat)
  | moved (home phys spare : Nat)
  deriving DecidableEq, Repr

/-- Whom the completion of a write concerns: nobody, the host's operation, the opening of a session, or a mailbox with its status
and DATA. -/
inductive NvsTag where
  | none
  | host
  | opening
  | mbx (n status data : Nat)
  deriving DecidableEq, Repr

/-- A write that is requested: its priority (Table 12.4), what it does and whom it concerns. -/
structure NvsReq where
  prio : Nat
  what : NvsWrite
  tag : NvsTag
  deriving DecidableEq, Repr

/-- A host operation: OP, PAGE, OFFSET, LEN, and the ECC state of the groups of copy A and copy B as they read. -/
structure NvsOp where
  op : Nat
  page : Nat
  off : Nat
  len : Nat
  ea : List Ecc
  eb : List Ecc
  deriving DecidableEq, Repr

/-- A write of NVS_UNLOCK that waits for the store (R335, R339, R347): SET or GO, KIND, and the password. -/
structure PwdAsk where
  set : Bool
  kind : Nat
  pwd : Nat
  deriving DecidableEq, Repr

/-- The Seed Tray behind its registers: physical pages other than factory ones; tallies; the journal's intents, newest
first; the spare map (physical page, spare); physical pages and tally slots that have failed without a spare; the
queue, the write in progress, and the host operation and the unlocks waiting for it; whether attempts are refused and
since when; the place of the next evidence log entry and the count of entries. -/
structure Nvs where
  pages : List (Nat × PhysPage) := []
  tallies : List (List TallySlot) := List.replicate 22 (List.replicate 8 {})
  journal : List (Nat × Nat) := []
  map : List (Nat × Nat) := []
  dead : List Nat := []
  queue : List NvsReq := []
  doing : Option NvsReq := none
  op : Option NvsOp := none
  asks : List PwdAsk := []
  refusing : Bool := false
  refusedAt : Nat := 0
  logNext : Nat := 0
  logUsed : Nat := 0
  deriving DecidableEq, Repr

/-- The alarm vote (R381): by class, one more than the frame of the last hit of this package and of the partner's; the
frames in which PAIR_ALARM has been raised for a class, plus one; the partner's HOTSPOT condition (R380). -/
structure Vote where
  own : RegMap := []
  partner : RegMap := []
  raised : RegMap := []
  partnerHot : Bool := false
  deriving DecidableEq, Repr


/-- The Trellis Link behind its registers, of the lead die: the address claimed in the CLAIM phase; the phase of an
enumeration that this master runs (1 CLAIM, 2 ASSIGN); the instants of the chain ticks to come, in ns of the package's
clock; the master's LEAD (µs), the last three TIME offsets and when this member's TIME_REQ left; the tag of the last
command; the SEQ of the next SYNC sent and of the last seen; the destination of a SYNC of this master that is to take
effect here; the ports that have been up (bit 0 UP, 1 DOWN), and those that are up, which TRL_PORT shows (log entry 65); the address to be stored in page 3; the BOOT_DATA packets
received. -/
structure Trl where
  claim : Option Nat := none
  stage : Nat := 0
  ticks : List Nat := []
  lead : Nat := 50
  offsets : List Int := []
  t1 : Option Nat := none
  tag : Nat := 0
  seq : Nat := 0
  seen : Option Nat := none
  ownSync : Option Nat := none
  used : BitVec 2 := 0
  ports : BitVec 2 := 0
  store : Option Nat := none
  boot : Nat := 0
  deriving DecidableEq, Repr

/-- The Pair Link behind its registers: heartbeats missed for MISS periods; since when the partner is heard again after a
failure; whether the partner's last heartbeat said that it had heard this package; the next slot of each die's map ring and
of the mirror ring. -/
structure Prl where
  missed : Bool := false
  backAt : Option Nat := none
  heard : Bool := true
  nextMap : List Nat := [0, 0]
  nextMirror : Nat := 0
  deriving DecidableEq, Repr

/-- The serial port behind its registers (R386 to R402): the transmit words; the receive entries (word, short, bits); SS_N
low at the slave, and the transmit word being shifted there; the protocol engine: 0 idle, 1 taking data words, 2 not
ready, 3 its marker being sent, 4 its data being sent; the command, the data words taken, the words still to be sent
after the one under way, when it is ready; the reader's lines, oldest first, those of them fetched ahead and not yet asked
for, the address at which its stream goes on, whether the flash
takes reads without a command, and the line it was asked for last. -/
structure Spi where
  tx : List Nat := []
  rx : List (Nat × Bool × Nat) := []
  sel : Bool := false
  shift : Option Nat := none
  phase : Nat := 0
  cmd : Nat := 0
  data : List Nat := []
  left : List Nat := []
  ready : Nat := 0
  lines : List (Nat × List Byte) := []
  ahead : List Nat := []
  stream : Option Nat := none
  bare : Bool := false
  lastLine : Option Nat := none
  deriving DecidableEq, Repr

/-- A resource of Table 15.1 that is not plainly in service: out of service, waiting for its test (in order of
`since`), under test, its test spoilt by a further error (R410), lasting, kept by a graft table entry, the cause
(Table 15.4), and whether the host asked for the test (R415). -/
structure Resource where
  type : Nat
  inst : Nat
  waiting : Bool
  testing : Bool
  spoilt : Bool
  lasting : Bool
  cause : Nat
  since : Nat
  hostTest : Bool
  deriving DecidableEq, Repr

/-- Sparing and self-test (15_errors_self_test_and_grafting.md): the inventory of resources out of service, the 64
most recent transient faults (type, instance, Trellis time in ms), lasting faults waiting for their graft table
entry, the start of the running test, SRAM rows in use as spares per bank, DRAM rows corrected lately, and a host
request under way. -/
structure Spr where
  inventory : List Resource := []
  transients : List (Nat × Nat × Nat) := []
  toWrite : List (Nat × Nat × Nat) := []
  testAt : Nat := 0
  sramUsed : List (Nat × Nat) := []
  dramCorr : List (Nat × Nat × Nat) := []
  dramUsed : Nat := 0
  request : Option (Nat × Nat × Nat) := none
  deriving DecidableEq, Repr


/-- What the last command on a die set: the events that fired, and the write-one-to-clear bits that the hardware set, by field;
a write of the same PERI cycle does not clear them (R9). -/
structure Hits where
  fired : BitVec 640 := 0
  bits : RegMap := []
  deriving DecidableEq, Repr

/-- One die. -/
structure Die where
  /-- Register values in force. -/
  live : RegFile := {}
  /-- Written RWS values that have not taken effect (R4, R37). -/
  stage : RegFile := {}
  /-- EVT_RAW of the 640 events (R33). -/
  evRaw : BitVec 640 := 0
  /-- EVT_EN. -/
  evEn : BitVec 640 := 0
  /-- EVT_PEND. -/
  evPend : BitVec 640 := 0
  /-- MSI-X mask bits of the eight vectors (R39); PCIe starts with every vector masked (log entry 13). -/
  msixMask : BitVec 8 := 0xFF
  /-- MSI-X pending bits of the eight vectors. -/
  msixPend : BitVec 8 := 0
  /-- The MP's event queue. -/
  evq : EvQueue := {}
  /-- High words held for their requesters. -/
  held : List Held := []
  /-- The eight mailboxes. -/
  mbx : List Mailbox := List.replicate 8 {}
  /-- The model's own counter behind its free values (log entry 9). -/
  free : Nat := 0
  /-- The model's own record of what the last command sent out or answered (log entry 4). -/
  out : List OutMsg := []
  /-- DRAM writes of the command being carried out: empty between commands (log entry 4). -/
  wr : List (Nat × List Byte) := []
  /-- The model's own record of the bits that the last command on the die set (log entry 90). -/
  hits : Hits := {}
  /-- When the pending commit of each page was armed (R37). -/
  arms : RegMap := []
  /-- The Rake. -/
  rake : Rake := {}
  /-- The AFE. -/
  afe : Afe := {}
  /-- The thermal frame begun last. -/
  frame : ThermFrame := {}
  /-- The next thermal frame delivered carries GAP, for a frame number used up without a frame (R51). -/
  gapDue : Bool := false
  /-- The trim map. -/
  trm : Trm := {}
  /-- The clusters. -/
  clu : List Clu := List.replicate 32 {}
  /-- The converters in common. -/
  acb : Acb := {}
  /-- The Sieve. -/
  sieve : Sieve := {}
  /-- The CMM. -/
  cmm : Cmm := {}
  /-- Radiometry and hot-spot. -/
  rad : Rad := {}
  /-- The Weeder. -/
  wdr : Wdr := {}
  /-- The thermal frame begun before the last one, for its rows still under way. -/
  prevFrame : ThermFrame := {}
  /-- The Cloche. -/
  clo : Clo := {}
  /-- Calibration. -/
  cal : Cal := {}
  /-- The SHA-256 words of each gain state's plane as the MP retained them when the plane came into force (R322; empty: unknown). -/
  planeHash : List (List Nat) := [[], [], []]
  /-- The PCIe endpoint and its stream engines. -/
  dma : Dma := {}
  /-- The Trellis time. -/
  clock : Clock := {}
  /-- The image pipeline. -/
  ipp : Ipp := {}
  /-- The evidence engine. -/
  evd : Evd := {}
  /-- The field converter. -/
  fcv : Fcv := {}
  /-- The control loops. -/
  lpc : Lpc := {}
  /-- The PWM. -/
  pwm : Pwm := {}
  /-- The lamps. -/
  led : Led := {}
  /-- The temperature sensors. -/
  thm : Thm := {}
  /-- The fuse array. -/
  fuses : Fuses := {}
  /-- The DRAM's contents are lost in the command being carried out: false between commands (log entry 4). -/
  dramCut : Bool := false
  /-- Start-up and power states. -/
  boot : Boot := {}
  /-- The Seed Tray. -/
  nvs : Nvs := {}
  /-- The alarm vote of the pair. -/
  vote : Vote := {}
  /-- The Trellis Link. -/
  trl : Trl := {}
  /-- The Pair Link. -/
  prl : Prl := {}
  /-- The always-on image store holds a verified image set (R322, R375). -/
  images : Bool := false
  /-- The serial port. -/
  spi : Spi := {}
  /-- Sparing and self-test. -/
  spr : Spr := {}
  deriving DecidableEq, Repr

/-- The package and the queue of commands. -/
structure State where
  /-- The commands that wait, first in first out. -/
  pending : List Instr := []
  /-- The package: true for an EXN2560-D (fuse). -/
  dual : Bool := true
  /-- Die A. -/
  dieA : Die := {}
  /-- Die B. -/
  dieB : Die := {}
  /-- Die A's DRAM. -/
  memA : Memory := []
  /-- Die B's DRAM. -/
  memB : Memory := []
  /-- The model's own record of Die A as the last command on it found it (R10; log entry 90). -/
  wasA : Die := {}
  /-- The same of Die B. -/
  wasB : Die := {}
  /-- The model's time, in PERI cycles of 4 ns (log entry 3). -/
  now : Nat := 0
  /-- RESET_N is driven low from outside. -/
  resetN : Bool := false
  /-- The instant of its last fall (R310). -/
  resetNAt : Nat := 0
  /-- The lead die's RESET_N input is masked after its own drive (R309). -/
  unmasking : Bool := false
  deriving DecidableEq, Repr

/-- Why a command stops the model. -/
inductive Fault where
  /-- A command names Die B of an EXN2560-S, which has one die (Table 0.1). Raised by every command that names a
  die. Safe: the machine of that package has nothing that could carry the command out. -/
  | noSuchDie
  deriving DecidableEq, Repr

/-- Why a command has no meaning here. -/
inductive Refusal where
  /-- The command's row has no meaning yet. Raised by Dispatch.lean alone. Safe: the model stops. -/
  | notModelled (mnemonic : String)
  deriving DecidableEq, Repr

/-- A register file with these values put into it. -/
def RegFile.ofList (l : List (Fld × Nat)) : RegFile := l.foldl (fun r e => r.put e.1 e.2) {}

/-- A die right after a power-on reset is released: every field at the Reset its register table gives, the fields of
Reset HW as the power-on leaves them, the fuses all 0 but for the device key (R232), and the start at its lock step (R311, R312, R317, Table 11.5). Log
entry 5 names the values that the spec does not state. -/
def Die.atReset (d : DieId) : Die :=
  { live := RegFile.ofList ([
      (F.SYS_IDENT_PKG, 1), (F.SYS_IDENT_DIE, if d = .b then 1 else 0), (F.SYS_IDENT_LEAD, if d = .a then 1 else 0),
      (F.EVT_PKG_SUM_DIE_B, 1), (F.RST_CAUSE_REACH, 6), (F.RST_CAUSE_DETAIL, 7), (F.RST_CAUSE_CAUSE, 1),
      (F.RST_START_STEP, 2), (F.FUS_STAT_LOADED, 1), (F.CRY_STATE_KEY, 1)] ++
      ((publicWords d).1.zipIdx).map (fun e => (F.CRY_PUBX_WORD e.2, e.1)) ++
      ((publicWords d).2.zipIdx).map (fun e => (F.CRY_PUBY_WORD e.2, e.1)))
    boot := { start := some { step := 2 } }
    free := if d = .b then 1 else 0 }

/-- The package right after a power-on reset is released and its fuses are loaded, before its start sequence (Table
11.5) has run; RESET_N is still masked after the package's own drive (R309), and no command waits. -/
def State.reset : State := { dieA := Die.atReset .a, dieB := Die.atReset .b, unmasking := true }

end Sys2Proof.Machine
end

