-- ==== Sys2Proof/Machine/Ops.lean ====
section
/-!
DEFINITION. The operations every meaning is written with: reading and writing fields, staging and committing,
firing events, the DRAM, and carrying a command out on one die or on every die of the package.
-/

namespace Sys2Proof.Machine

/-- Bits from a test of the places below `n`. -/
def maskOf (n : Nat) (p : Nat → Bool) : Nat := (List.range n).foldl (fun m i => if p i then m + 2 ^ i else m) 0

/-! ### Fields -/

/-- A field's Reset on this die: SEQ_SYNC.SRC resets to 1 on Die B, and SEQ_FRAME_LEN to an export part's length where
SEQ_LIMITS.EXPORT is 1 (02_sensor_port_and_rake.md). -/
def Die.resetOf (x : Die) (f : Fld) : Nat :=
  if f.key = F.SEQ_SYNC_SRC.key then (x.live.look F.SYS_IDENT_DIE).getD 0
  else if f.key = F.SEQ_FRAME_LEN_LEN.key && (x.live.look F.SEQ_LIMITS_EXPORT).getD 0 = 1 then 0x54C564
  else f.rst

/-- The value of a field in force. -/
def Die.get (x : Die) (f : Fld) : Nat := (x.live.look f).getD (x.resetOf f)

/-- A one-bit field, as a truth value. -/
def Die.on (x : Die) (f : Fld) : Bool := x.get f != 0

/-- A field's value read as two's complement. -/
def Die.getS (x : Die) (f : Fld) : Int := toSigned f.width (x.get f)

/-- The die with a field in force set. -/
def Die.set (x : Die) (f : Fld) (v : Nat) : Die := { x with live := x.live.put f (v % 2 ^ f.width) }

/-- The die with a one-bit field in force set or cleared. -/
def Die.setB (x : Die) (f : Fld) (b : Bool) : Die := x.set f (if b then 1 else 0)

/-- The die with a signed field in force set. -/
def Die.setS (x : Die) (f : Fld) (i : Int) : Die := x.set f (ofSigned f.width i)

/-- What a read of an RWS field returns: the value written last (R4). -/
def Die.written (x : Die) (f : Fld) : Nat := (x.stage.look f).getD (x.get f)

/-- The die with a value staged for an RWS field. -/
def Die.stageVal (x : Die) (f : Fld) (v : Nat) : Die := { x with stage := x.stage.put f (v % 2 ^ f.width) }

/-- A bit of a field set or cleared. -/
def Die.setBit (x : Die) (f : Fld) (i : Nat) (b : Bool) : Die :=
  let v := x.get f
  x.set f (if b then v ||| 2 ^ i else v - (if v.testBit i then 2 ^ i else 0))

/-- A bit of a field. -/
def Die.bitOf (x : Die) (f : Fld) (i : Nat) : Bool := (x.get f).testBit i

/-- A count field raised by `n`, saturating at its largest value. -/
def Die.count (x : Die) (f : Fld) (n : Nat := 1) : Die := x.set f (min (x.get f + n) (2 ^ f.width - 1))

/-- A counter field raised by one, wrapping. -/
def Die.incr (x : Die) (f : Fld) : Die := x.set f (x.get f + 1)

/-- Bits of a write-one-to-clear field set by the hardware, which a write of the same PERI cycle does not clear (R9). -/
def Die.raise (x : Die) (f : Fld) (v : Nat) : Die :=
  { x.set f (x.get f ||| v) with hits := { x.hits with bits := x.hits.bits.put f.key ((x.hits.bits.look f.key).getD 0 ||| v) } }

/-- A field raised to `v` if it lies lower (a peak field). -/
def Die.peak (x : Die) (f : Fld) (v : Nat) : Die := if x.get f < v then x.set f v else x

/-- A 64-bit value held in a pair of 32-bit fields. -/
def Die.get64 (x : Die) (lo hi : Fld) : Nat := x.get hi * 2 ^ 32 + x.get lo

/-- The pair of fields set to a 64-bit value. -/
def Die.set64 (x : Die) (lo hi : Fld) (v : Nat) : Die := (x.set lo v).set hi (v / 2 ^ 32)

/-- The next free value below `2 ^ w`; each die counts by twos, so that two dies do not share a value. -/
def Die.freeVal (x : Die) (w : Nat) : Nat × Die :=
  (Config.freeNat w x.free % 2 ^ w, { x with free := x.free + 2 })

/-- The next free truth value. -/
def Die.freeBit (x : Die) : Bool × Die := (Config.freeBool 0 x.free, { x with free := x.free + 2 })

/-- `n` bytes that the spec leaves open. -/
def Die.freeBytes (x : Die) : Nat → List Byte × Die
  | 0 => ([], x)
  | n + 1 =>
    let (v, y) := x.freeVal 8
    let (l, z) := Die.freeBytes y n
    (BitVec.ofNat 8 v :: l, z)

/-- A quotient whose rounding the spec leaves open: exact where it is whole, one of its two neighbours otherwise. -/
def Die.openRound (x : Die) (num den : Nat) : Nat × Die :=
  if num % den = 0 then (num / den, x)
  else let (b, y) := x.freeBit; (num / den + (if b then 1 else 0), y)

/-- A value that the spec leaves open between two bounds. -/
def Die.freeBetween (x : Die) (lo hi : Nat) : Nat × Die :=
  if hi ≤ lo then (lo, x) else let (v, y) := x.freeVal 32; (lo + v % (hi - lo + 1), y)

/-- A list made from another one, with open values taken in order. -/
def Die.thread {α β : Type} (f : Die → α → β × Die) (x : Die) : List α → List β × Die
  | [] => ([], x)
  | a :: r =>
    let (b, y) := f x a
    let (l, z) := Die.thread f y r
    (b :: l, z)

/-- A message recorded as sent. -/
def Die.send (x : Die) (m : OutMsg) : Die := { x with out := x.out ++ [m] }

/-- Bytes to be written to the die's DRAM when the command ends. -/
def Die.dramWrite (x : Die) (addr : Nat) (bs : List Byte) : Die := { x with wr := x.wr ++ [(addr, bs)] }

/-! ### The DRAM -/

/-- The byte at an address; a byte that nothing has written reads 0 (log entry 6). -/
def Memory.read : Memory → Nat → Byte
  | [], _ => 0
  | (a, b) :: r, k => if a = k then b else Memory.read r k

/-- The memory with one byte written, in canonical form. -/
def Memory.write : Memory → Nat → Byte → Memory
  | [], k, v => if v = 0 then [] else [(k, v)]
  | (a, b) :: r, k, v =>
    if k < a then (if v = 0 then (a, b) :: r else (k, v) :: (a, b) :: r)
    else if k = a then (if v = 0 then r else (k, v) :: r)
    else (a, b) :: Memory.write r k v

/-- Every listed address lies at or above `lo`, the addresses rise strictly, and no listed byte is 0. -/
def Memory.wfFrom : Memory → Nat → Bool
  | [], _ => true
  | (a, b) :: r, lo => decide (lo ≤ a) && decide (b ≠ 0) && Memory.wfFrom r (a + 1)

/-- The canonical form. -/
def Memory.wf (m : Memory) : Bool := m.wfFrom 0

/-- Consecutive bytes written from an address upwards; bytes beyond the usable DRAM are not written. -/
def Memory.writeBytes : Memory → Nat → List Byte → Memory
  | m, _, [] => m
  | m, a, b :: r => Memory.writeBytes (if a < Config.dramBytes then m.write a b else m) (a + 1) r

/-- Several runs of bytes written in order. -/
def Memory.writeAll (m : Memory) (l : List (Nat × List Byte)) : Memory :=
  l.foldl (fun m e => m.writeBytes e.1 e.2) m

/-- `n` bytes from an address. -/
def Memory.readBytes (m : Memory) (a : Nat) : Nat → List Byte
  | 0 => []
  | n + 1 => m.read a :: Memory.readBytes m (a + 1) n

/-- A little-endian number of `n` bytes. -/
def Memory.readLE (m : Memory) (a n : Nat) : Nat := ofBytesLE (m.readBytes a n)

/-! ### Events (R33 to R35, R39) -/

/-- The pages of Table 1.11. -/
def listedPage (p : Nat) : Bool :=
  p ≤ 0x0B || (0x10 ≤ p && p ≤ 0x15) || (0x20 ≤ p && p ≤ 0x29) || (0x30 ≤ p && p ≤ 0x33) ||
  (0x38 ≤ p && p ≤ 0x3B) || (0x40 ≤ p && p ≤ 0x47) || p = 0x50 || p = 0x51 || p = 0x58 ||
  (0x80 ≤ p && p ≤ 0x9F)

/-- Table 1.11: the first event and the count of events a page's block owns. -/
def pageEvents (p : Nat) : Nat × Nat :=
  if p = 0x00 then (0, 4) else if p = 0x01 then (8, 8) else if p = 0x02 then (16, 8)
  else if p = 0x03 then (24, 8) else if p = 0x04 then (4, 4) else if p = 0x05 then (32, 32)
  else if p = 0x06 ∨ p = 0x07 then (636, 4) else if p = 0x08 then (627, 9) else if p = 0x09 then (620, 7)
  else if p = 0x0A then (608, 6) else if p = 0x0B then (614, 6) else if p = 0x10 then (64, 32)
  else if p = 0x11 then (96, 8) else if p = 0x12 then (104, 8) else if p = 0x13 then (112, 4)
  else if p = 0x14 then (116, 6) else if p = 0x15 then (122, 6) else if p = 0x20 then (128, 16)
  else if p = 0x21 then (144, 16) else if p = 0x22 then (160, 16) else if p = 0x23 then (176, 8)
  else if 0x24 ≤ p ∧ p ≤ 0x27 then (184 + 2 * (p - 0x24), 2) else if p = 0x28 then (320, 16)
  else if p = 0x29 then (336, 16) else if p = 0x30 then (352, 8) else if p = 0x31 then (360, 8)
  else if p = 0x32 then (368, 8) else if p = 0x33 then (376, 8) else if p = 0x38 then (384, 32)
  else if p = 0x39 then (416, 16) else if p = 0x3A then (432, 8) else if p = 0x3B then (440, 8)
  else if 0x40 ≤ p ∧ p ≤ 0x43 then (448 + 16 * (p - 0x40), 16) else if p = 0x44 then (512, 8)
  else if p = 0x45 then (520, 8) else if p = 0x46 then (528, 8) else if p = 0x47 then (536, 8)
  else if p = 0x50 then (544, 16) else if p = 0x51 then (560, 16) else if p = 0x58 then (576, 32)
  else if 0x80 ≤ p ∧ p ≤ 0x9F then (192 + 4 * (p - 0x80), 4) else (116, 0)

/-- The first page of a page's block: the block's ID code (Table 1.11). -/
def blockCode (p : Nat) : Nat :=
  if p = 0x07 then 0x06 else if 0x24 ≤ p ∧ p ≤ 0x27 then 0x24 else if 0x40 ≤ p ∧ p ≤ 0x43 then 0x40
  else if 0x80 ≤ p ∧ p ≤ 0x9F then 0x80 else p

/-- A page's ACC_ERR event (R33). -/
def accErrOf (p : Nat) : Nat := (pageEvents p).1

/-- The 32-bit word of an event register that holds a page's own events: event e in bit e mod 32 (R33). -/
def eventWord (v : BitVec 640) (p : Nat) : Nat :=
  let (e, n) := pageEvents p
  bits v.toNat e n <<< (e % 32)

/-- Runs of the events that the event tables leave reserved, first and count (R77, R105, R148, R187, R219, R239, R260, R284,
R306, R331, R353, R418). -/
def reservedRuns : List (Nat × Nat) :=
  [(15, 1), (18, 6), (28, 4), (43, 21), (77, 19), (142, 2), (151, 9), (167, 9), (181, 3), (335, 1), (346, 6), (367, 1), (375, 1),
   (381, 3), (400, 16), (421, 11), (434, 6), (447, 1), (463, 1), (479, 1), (495, 1), (511, 1), (518, 2), (522, 6), (532, 4),
   (540, 4), (555, 5), (563, 13), (618, 2), (623, 4)]

/-- The events that no table reserves. -/
def namedEvents : BitVec 640 := ~~~ BitVec.ofNat 640 (reservedRuns.foldl (fun m r => m + (2 ^ r.2 - 1) <<< r.1) 0)

/-- The mask of a page's own events among the 640. -/
def eventMask (p : Nat) : BitVec 640 :=
  let (e, n) := pageEvents p
  BitVec.ofNat 640 ((2 ^ n - 1) <<< e) &&& namedEvents

/-- A written word of an event register, spread onto the page's own events; the bits of reserved events are reserved (R6). -/
def eventSpread (p w : Nat) : BitVec 640 :=
  let (e, n) := pageEvents p
  BitVec.ofNat 640 (bits w (e % 32) n <<< e) &&& namedEvents

/-- Group `g` holds an enabled, pending event (R21). -/
def Die.groupOn (x : Die) (g : Nat) : Bool := bits (x.evPend &&& x.evEn).toNat (32 * g) 32 != 0

/-- The vector that group `g` is mapped to. -/
def Die.vecOf (x : Die) (g : Nat) : Nat := x.get (F.EVT_VEC_MAP_VEC (g / 8) (g % 8))

/-- Some group mapped to vector `v` holds an enabled, pending event. -/
def Die.vecOn (x : Die) (v : Nat) : Bool := (List.range 20).any (fun g => x.groupOn g && x.vecOf g = v)

/-- Vector `v`'s message: sent, or kept pending while the vector or the function is masked (R39, R354). -/
def Die.vecMessage (x : Die) (v : Nat) : Die :=
  if !x.dma.msixOn then x
  else if x.msixMask.getLsbD v || x.dma.funcMask then { x with msixPend := x.msixPend ||| BitVec.twoPow 8 v } else x.send (.msix v)

/-- A masked vector is pending only while it has an event to tell: as PCIe defines the pending bits, one whose events are
all gone again stops being pending (R39; log entry 91). -/
def Die.settleMsix (x : Die) : Die :=
  { x with msixPend := x.msixPend &&& BitVec.ofNat 8 (maskOf 8 x.vecOn) }

/-- The messages that a change from `x` to `y` sends: a vector whose set of enabled, pending events was empty and is
so no longer (R39). -/
def Die.notify (x y : Die) : Die :=
  (List.range 8).foldl (fun z v => if !x.vecOn v && y.vecOn v then z.vecMessage v else z) y

/-- R28: the place of an event's source in the MP's order of work, 0 served first (log entry 8). -/
def eventPriority (e : Nat) : Nat :=
  if 32 ≤ e ∧ e ≤ 63 then 0 else if 8 ≤ e ∧ e ≤ 31 then 1 else if 64 ≤ e ∧ e ≤ 95 then 2
  else if 320 ≤ e ∧ e ≤ 351 then 3 else if 544 ≤ e ∧ e ≤ 575 then 4 else if 627 ≤ e ∧ e ≤ 635 then 5 else 6

/-- The entry of source `e` with its occurrence count raised. -/
def EvQueue.merge (l : List (Nat × Nat)) (e : Nat) : List (Nat × Nat) :=
  match l with
  | [] => []
  | (s, n) :: r => if s = e then (s, n + 1) :: r else (s, n) :: EvQueue.merge r e

/-- The lowest priority among the sources present. -/
def EvQueue.lowest (l : List (Nat × Nat)) : Nat := l.foldl (fun m a => max m (eventPriority a.1)) 0

/-- An entry of higher priority than `p` waits (R28). -/
def EvQueue.before (q : EvQueue) (p : Nat) : Bool := q.entries.any (fun a => eventPriority a.1 < p)

/-- The place of the newest entry of priority `p`. -/
def EvQueue.newestAt (l : List (Nat × Nat)) (p : Nat) : Nat :=
  (l.foldl (fun (acc : Nat × Nat) a => (acc.1 + 1, if eventPriority a.1 = p then acc.1 else acc.2)) (0, 0)).2

/-- The entry that a full queue gives up to a new source (R29). -/
def EvQueue.victim (q : EvQueue) : Nat := EvQueue.newestAt q.entries (EvQueue.lowest q.entries)

/-- An event entering the MP's queue; the second part says that the queue was full (R29). -/
def EvQueue.push (q : EvQueue) (e : Nat) : EvQueue × Bool :=
  if q.entries.length < 256 then ({ q with entries := q.entries ++ [(e, 1)] }, false)
  else if q.entries.any (fun a => a.1 = e) then ({ q with entries := EvQueue.merge q.entries e }, true)
  else ({ entries := q.entries.eraseIdx q.victim ++ [(e, 1)],
          overflow := q.overflow + ((q.entries.getD q.victim (0, 0)).2) }, true)

/-- The queue's depth shown in PRC_EVQ and PRC_MP_LOAD. -/
def Die.showQueue (x : Die) : Die :=
  (x.set F.PRC_EVQ_FILL x.evq.entries.length).peak F.PRC_MP_LOAD_PEAK x.evq.entries.length

/-- An event's pending bit set and signalled. -/
def Die.pend (x : Die) (e : Nat) : Die :=
  Die.notify x { x with evPend := x.evPend ||| BitVec.twoPow 640 e
                        hits := { x.hits with fired := x.hits.fired ||| BitVec.twoPow 640 e } }

/-- A momentary event fires (R29, R34). A full queue also raises MP_OVERLOAD, event 620, and sets OVF. -/
def Die.fire (x : Die) (e : Nat) : Die :=
  let y := x.pend e
  let (q, full) := y.evq.push e
  let merged := y.evq.entries.any (fun a => a.1 = e)
  let z := ({ y with evq := q }).showQueue
  if full then
    let z := (if merged then z.count F.PRC_EVQ_MERGED else z).raise F.PRC_MP_LOAD_OVF 1
    ({ z with evq := (z.evq.push 620).1 }).pend 620
  else z

/-- A condition-type event's state: its change from 0 to 1 fires the event (R34). -/
def Die.cond (x : Die) (e : Nat) (b : Bool) : Die :=
  let was := x.evRaw.getLsbD e
  let y := { x with evRaw := if b then x.evRaw ||| BitVec.twoPow 640 e
                             else x.evRaw &&& ~~~ BitVec.twoPow 640 e }
  if b && !was then y.fire e else y

/-- The block of a page reports a rejected or ignored access. -/
def Die.accErr (x : Die) (p : Nat) : Die := x.fire (accErrOf p)

/-- The events of a page lost, as a reset that clears its class C fields loses them (R34). -/
def Die.dropEvents (x : Die) (p : Nat) : Die :=
  Die.settleMsix { x with evRaw := x.evRaw &&& ~~~ eventMask p, evPend := x.evPend &&& ~~~ eventMask p,
                          evEn := x.evEn &&& ~~~ eventMask p }

/-- What every block reset does to a page: the class C and class P fields and the events of that page return to
their starting values (R20, R34). -/
def Die.pageReset (x : Die) (p : Nat) : Die :=
  ({ x with live := x.live.blockLoss p, stage := x.stage.blockLoss p }).dropEvents p

/-- The part of the offset that slewing has removed by an instant, in 10^-8 ns (R369). -/
def Clock.slewed (c : Clock) (now : Nat) : Nat := min c.slew.natAbs ((now - c.from_) * 4 * c.slewRate)

/-- The Trellis time at an instant, in units of 10^-8 ns: 4 ns a PERI cycle, at the corrected rate (R299), with the offset
slewed out of it (R369). -/
def Clock.fineAt (c : Clock) (now : Nat) : Nat :=
  let v := c.base * 100000000 + c.fine + ((now - c.from_) * 4 * (100000000 + c.rate).toNat)
  if c.slew < 0 then v - c.slewed now else v + c.slewed now

/-- The same clock told from a later instant on. -/
def Clock.rebase (c : Clock) (now : Nat) : Clock :=
  let v := c.fineAt now
  let rest : Int := (c.slew.natAbs - c.slewed now : Nat)
  { c with base := v / 100000000, fine := v % 100000000, from_ := now, slew := if c.slew < 0 then -rest else rest }

/-- The Trellis time of the die at an instant, in ns (R368, R369). -/
def Die.timeNs (x : Die) (now : Nat) : Nat := x.clock.fineAt now / 100000000

/-- The rate correction changed from an instant on. -/
def Die.setRate (x : Die) (rate : Int) (now : Nat) : Die :=
  { x with clock := { x.clock.rebase now with rate := rate } }

/-! ### Commits (R37, R38) -/

/-- The entries of one page of a map. -/
def RegMap.ofPage (m : RegMap) (p : Nat) : RegMap := m.filter (fun e => e.1 / 0x20000 = p)

/-- The map with every entry of another put into it. -/
def RegMap.putAll (m add : RegMap) : RegMap := add.foldr (fun e m => m.put e.1 e.2) m

/-- The staged values of a page take effect together. -/
def Die.applyStage (x : Die) (p : Nat) : Die :=
  { x with
    live := { p := x.live.p.putAll (x.stage.p.ofPage p), a := x.live.a.putAll (x.stage.a.ofPage p)
              w := x.live.w.putAll (x.stage.w.ofPage p), c := x.live.c.putAll (x.stage.c.ofPage p) }
    stage := { p := x.stage.p.dropPage p, a := x.stage.a.dropPage p
               w := x.stage.w.dropPage p, c := x.stage.c.dropPage p } }

/-- A commit is armed on a page and has not applied. -/
def Die.commitPending (x : Die) (p : Nat) : Bool := x.on (F.COMMIT_STAT_PENDING p)

/-- A page's armed commit applies: its staged values take effect and COMMIT_STAT tells the frame. -/
def Die.commitNow (x : Die) (p frame : Nat) : Die :=
  ((x.applyStage p).set (F.COMMIT_STAT_FRAME p) frame).set (F.COMMIT_STAT_PENDING p) 0

/-- A commit of the page is armed for boundary `b`. -/
def Die.armedFor (x : Die) (p b : Nat) : Bool := x.commitPending p && x.get (F.COMMIT_BOUNDARY p) = b

/-- The page's commit was armed in a PERI cycle before that of an instant (R37). -/
def Die.armedBefore (x : Die) (p now : Nat) : Bool := x.arms.look p != some now

/-! ### Mailboxes (R41) -/

/-- Table 1.5: a mailbox's command taken up by its core; its result waits for the completion. -/
def Die.mbxResult (x : Die) (n status data : Nat) : Die :=
  { x with mbx := fillSet {} x.mbx n { waiting := false, result := some (status, data) } }

/-- A mailbox's command posted: BUSY, OPCODE and TAG (R41). -/
def Die.mbxPost (x : Die) (n opcode tag arg : Nat) : Die :=
  let y := (((x.set (F.MBX_CMD_OPCODE n) opcode).set (F.MBX_CMD_TAG n) tag).set (F.MBX_ARG_ARG n) arg).set
    (F.MBX_RSP_BUSY n) 1
  { y with mbx := fillSet {} y.mbx n { waiting := true, result := none } }

/-- Table 1.5: the job that serves a mailbox: 0 MP, 1 CP, 2 LP, 3 EP. -/
def mbxJob (n : Nat) : Nat := if 1 ≤ n ∧ n ≤ 3 then n else 0

/-- A job's core runs: started, not being replaced, and the die not in Hold (R27, R328, R437); in recovery, the MP alone
(R325). -/
def Die.jobRuns (x : Die) (j : Nat) : Bool :=
  x.boot.cores && !x.boot.down.contains j && x.boot.power != 2 && (x.get F.RST_START_KIND != 3 || j = 0)

/-- The power state of the die, and PWR_STATE.STATE that shows it. -/
def Die.setPower (x : Die) (st : Nat) : Die := { x.set F.PWR_STATE_STATE st with boot := { x.boot with power := st } }

/-- The command in a mailbox is taken by its core (R437). -/
def Die.mbxTake (x : Die) (n : Nat) : Die := { x with mbx := fillSet {} x.mbx n { waiting := false, result := none } }

/-- A command that its core has looked at and cannot carry out yet waits on: the Seed Tray's pages that it reads are being written
(R335). -/
def Die.mbxAgain (x : Die) (n : Nat) : Die := { x with mbx := fillSet {} x.mbx n { waiting := true, result := none } }

/-- A block takes new work: no reset of it is asked for (R36); what it refuses meanwhile it reports with its ACC_ERR (log
entry 92). -/
def Die.takes (x : Die) (p : Nat) : Bool := !x.on (F.BRST_ACTIVE p)

/-- A mailbox's core takes its command now: its job runs (R437), and of the MP no work of higher priority waits (R28). -/
def Die.mbxFree (x : Die) (n : Nat) : Bool := x.jobRuns (mbxJob n) && (mbxJob n != 0 || !x.evq.before 5)

/-- A command written to a mailbox: ignored with COLL while BUSY (R41); posted otherwise, and carried out when the core
that serves the mailbox comes to it (R28, R437). -/
def Die.mbxCommand (x : Die) (n opcode tag arg : Nat) (serve : Die → Die) : Die :=
  if x.on (F.MBX_RSP_BUSY n) then x.raise (F.MBX_RSP_COLL n) 1
  else if !x.takes 0x08 then x.accErr 0x08
  else
    let y := x.mbxPost n opcode tag arg
    if y.mbxFree n then serve (y.mbxTake n) else y

/-- A page's commit armed for a boundary at an instant, unless one is pending (R37). -/
def Die.armPage (x : Die) (p b now : Nat) : Die :=
  if x.commitPending p then x
  else { (x.set (F.COMMIT_BOUNDARY p) b).set (F.COMMIT_STAT_PENDING p) 1 with arms := x.arms.put p now }

/-- The pair role: 0 standalone, 1 primary, 2 secondary (R318). -/
def Die.pairRole (x : Die) : Nat :=
  let c := x.get F.SYS_IDENT_PKGCFG
  if (x.on F.FUS_OPT_LOCKED && 12 ≤ c) || (!x.on F.SYS_IDENT_PKG && 4 ≤ c && c < 12) then 0 else c / 4

/-- R315: pins that their block drives leave their fuse-map states. -/
def Die.configure (x : Die) (pins : List Nat) : Die :=
  pins.foldl (fun y k => y.set (F.FUS_PIN_CONFIGURED (k / 8) (k % 8)) 1) x

/-- The Pair Link carries pair traffic (R379, R380): trained, the roles one of each, heartbeats heard. -/
def Die.pairUp (x : Die) : Bool := x.on F.PRL_STAT_UP && !x.on F.PRL_STAT_ROLE_BAD && !x.prl.missed

/-! ### Carrying a command out -/

/-- What a command sees besides the die it acts on: which die that is, whether the package has two, the die's DRAM,
the other die, the time, and, for a write in the PERI cycle of what the command before it did, the bits that that set (R9). -/
structure Env where
  die : DieId
  dual : Bool
  mem : Memory
  peer : Die
  now : Nat
  tied : Option Hits := none

/-- The name that a die has (SYS_IDENT.DIE). -/
def Die.id (x : Die) : DieId := if x.on F.SYS_IDENT_DIE then .b else .a

/-- One of the dies. -/
def State.die (s : State) : DieId → Die
  | .a => s.dieA
  | .b => s.dieB

/-- One of the DRAMs. -/
def State.mem (s : State) : DieId → Memory
  | .a => s.memA
  | .b => s.memB

/-- What a command on a die sees. -/
def State.env (s : State) (d : DieId) : Env :=
  { die := d, dual := s.dual, mem := s.mem d, peer := s.die d.other, now := s.now }

/-- The package with one die and its DRAM replaced. -/
def State.withDie (s : State) (d : DieId) (x : Die) (m : Memory) : State :=
  match d with
  | .a => { s with dieA := x, memA := m }
  | .b => { s with dieB := x, memB := m }

/-- The die is held in a reset episode, or is in Dormant: nothing but resets and wakes reaches it. -/
def Die.inReset (x : Die) : Bool := x.boot.episode.isSome || x.boot.dormant

/-- What happens to a die that is not held in reset. -/
def whileRunning (f : Env → Die → Die) (env : Env) (x : Die) : Die := if x.inReset then x else f env x

/-- A die as a command finds it: nothing sent, nothing to be written and no bit set yet. -/
def State.fresh (s : State) (d : DieId) : Die := { s.die d with out := [], wr := [], dramCut := false, hits := {} }

/-- A die as the last command on it found it. -/
def State.was (s : State) : DieId → Die
  | .a => s.wasA
  | .b => s.wasB

/-- The bits that the command before an access set on its die, where the access is tied to it (R9). -/
def State.hits (s : State) (d : DieId) (tie : Bool) : Option Hits := if tie then some (s.die d).hits else none

/-- The bits of a field that the hardware set in the PERI cycle of a write (R9). -/
def justSet (tied : Option Hits) (f : Fld) : Nat :=
  match tied with
  | some w => (w.bits.look f.key).getD 0
  | none => 0

/-- Of the bits that a write would clear in a write-one-to-clear field, those that it does clear (R9). -/
def clearable (tied : Option Hits) (f : Fld) (v : Nat) : Nat := v - (v &&& justSet tied f)

/-- The package with a die put on record, as a command finds it. -/
def State.mark (s : State) (d : DieId) : State :=
  match d with
  | .a => { s with wasA := s.dieA }
  | .b => { s with wasB := s.dieB }

/-- A die between commands: no DRAM write of a command is left. -/
def Die.settled (x : Die) : Die := { x with wr := [], dramCut := false }

/-- The package with one die as a command has left it: the die's DRAM writes are carried out. -/
def State.settle (s : State) (d : DieId) (x : Die) : State :=
  s.withDie d x.settled (Memory.writeAll (if x.dramCut then [] else s.mem d) x.wr)

/-- A change of one die, whatever state it is in. -/
def State.runAlways (s : State) (d : DieId) (f : Env → Die → Die) : State := (s.mark d).settle d (f (s.env d) (s.fresh d))

/-- A change of one die that keeps the messages it has sent. -/
def State.alsoOn (s : State) (d : DieId) (f : Env → Die → Die) : State := s.settle d (f (s.env d) (s.die d))

/-- A change of one die while it is not held in reset. -/
def State.runOn (s : State) (d : DieId) (f : Env → Die → Die) : State := s.runAlways d (whileRunning f)

/-- A change of the die that a command reaches second; a die that the change leaves as it was is not touched. -/
def State.reach (s : State) (d : DieId) (f : Env → Die → Die) : State :=
  if whileRunning f (s.env d) (s.fresh d) = s.fresh d then s else s.runOn d f

/-- The die exists in the package. -/
def State.has (s : State) : DieId → Bool
  | .a => true
  | .b => s.dual

/-- A command on one die: its effect, or the fault that the package has no such die. -/
def onDie (d : DieId) (s : State) (f : Env → Die → Die) : Host.Outcome State Fault Refusal :=
  if s.has d then .next (s.runOn d f) else .fault .noSuchDie

/-- A command on one die that reaches it in reset as well. -/
def onDieAlways (d : DieId) (s : State) (f : Env → Die → Die) : Host.Outcome State Fault Refusal :=
  if s.has d then .next (s.runAlways d f) else .fault .noSuchDie

/-- A command that acts on a die and, after it, on the other die of the package. -/
def onBoth (d : DieId) (s : State) (f g : Env → Die → Die) : Host.Outcome State Fault Refusal :=
  if s.has d then .next (if s.has d.other then (s.runOn d f).reach d.other g else s.runOn d f) else .fault .noSuchDie

/-- A command on every die of the package. -/
def onPackage (s : State) (f : Env → Die → Die) : Host.Outcome State Fault Refusal :=
  .next (if s.dual then (s.runOn .a f).runOn .b f else s.runOn .a f)

/-- A command on every die of the package, also one in reset. -/
def onPackageAlways (s : State) (f : Env → Die → Die) : Host.Outcome State Fault Refusal :=
  .next (if s.dual then (s.runAlways .a f).runAlways .b f else s.runAlways .a f)

end Sys2Proof.Machine
end

