-- ==== Sys2Proof/Machine/Frames.lean ====
section
/-!
DEFINITION. The frames that are under way in the image pipeline, as the blocks before it touch them: what takes a frame
off its context, and what marks the frames that are open (R16, R23, R51, R198, R294).
-/

namespace Sys2Proof.Machine

/-- The pipeline's hidden state changed. -/
def Die.onIpp (x : Die) (f : Ipp → Ipp) : Die := { x with ipp := f x.ipp }

/-- The evidence engine's hidden state changed. -/
def Die.onEvd (x : Die) (f : Evd → Evd) : Die := { x with evd := f x.evd }

/-- The next ESN. -/
def Die.esn (x : Die) : Nat := x.get64 F.EVD_ESN_LO_ESN F.EVD_ESN_HI_ESN

/-- The committed limit L (R225). -/
def Die.esnLimit (x : Die) : Nat := x.get64 F.EVD_LIMIT_LO_LIMIT F.EVD_LIMIT_HI_LIMIT

/-- The EVD takes frames into tagging: enabled by the start-up sequence, its session open, not closed and no close under way. -/
def Die.tagging (x : Die) : Bool :=
  x.on (F.CTRL_EN 0x50) && x.evd.live && !x.on F.EVD_CTRL_CLOSED && x.evd.closing.isNone && x.evd.opening.isNone && !x.evd.reopen

/-- No number is reserved for the next frame (R226). -/
def Die.noNumber (x : Die) : Bool := x.tagging && decide (x.esnLimit ≤ x.esn)

/-- EVD_STARVE counts each frame that waits while no number is reserved, once (R226). -/
def Die.countWaiting (x : Die) : Die :=
  let ids := x.ipp.done.map (fun e => (e.ctx, e.frame.num))
  let fresh := ids.filter (fun i => !x.evd.starving.contains i)
  if x.noNumber then (x.count F.EVD_STARVE_COUNT fresh.length).onEvd (fun e => { e with starving := ids })
  else x.onEvd (fun e => { e with starving := e.starving.filter ids.contains })

/-- A complete frame waits for its numbers (R224, R226); `late` marks one that came after the request of a reset (R36). -/
def Die.awaitNumbers (x : Die) (e : DoneFrame) : Die :=
  (x.onIpp (fun i => { i with done := i.done ++ [{ e with late := !x.takes 0x50 }] })).countWaiting

/-- A context. -/
def Die.ctxOf (x : Die) (n : Nat) : Ctx := x.ipp.ctx.getD n {}

/-- A context changed. -/
def Die.onCtx (x : Die) (n : Nat) (f : Ctx → Ctx) : Die :=
  x.onIpp (fun i => { i with ctx := fillSet {} i.ctx n (f (x.ctxOf n)) })

/-- A context's unfinished frame changed. -/
def Die.onCtxFrame (x : Die) (n num : Nat) (f : CtxFrame → CtxFrame) : Die :=
  x.onCtx n (fun k => { k with frames := k.frames.map (fun r => if r.num = num then f r else r) })

/-- The contexts whose source is the thermal stream; in limited mode only context 0 delivers (R324). -/
def Die.streamCtxs (x : Die) : List Nat :=
  (List.range 8).filter (fun n => x.get (F.CTX_SRC_SRC n) = 0 && (n = 0 || !x.boot.limited))

/-- The contexts in force on the thermal stream. -/
def Die.thermalCtxs (x : Die) : List Nat := x.streamCtxs.filter (fun n => (x.ctxOf n).active)

/-- The record of thermal frame `n`, if it is one of the last two begun. -/
def Die.frame? (x : Die) (n : Nat) : Option ThermFrame :=
  if x.frame.num = n then some x.frame else if x.prevFrame.num = n then some x.prevFrame else none

/-- The frame flags word (Table 7.2). -/
def FrameFlags.word (g : FrameFlags) : Nat :=
  maskOf 13 (fun i => [g.settling, g.hold, g.gap, g.drop, g.short, g.long, g.linelen, g.arith, g.twinfail, g.graft,
    g.throttle, g.limited, g.unsealed].getD i false)

/-- The flags in force of a frame that completes: the Sieve's, for a thermal frame, and the context's own (R16, R294). -/
def CtxFrame.final (f : CtxFrame) : FrameFlags :=
  let g := match f.therm with
    | some t => { t.flags with gap := t.flags.gap || f.flags.gap, drop := f.flags.drop, graft := t.flags.graft || f.flags.graft
                               settling := t.flags.settling || f.flags.settling }
    | none => f.flags
  { g with throttle := f.throttle != 0 }

/-- The first frame of a context after frame `num`. -/
def Ctx.nextAfter (k : Ctx) (num : Nat) : Option Nat :=
  (((k.frames ++ k.holds).map (·.num)).filter (num < ·)).foldl (fun m n => match m with
    | some a => some (min a n)
    | none => some n) none

/-- What frame `num` leaves to the next frame delivered on its context (R17, R100, R197, R198): a frame begun after it, or the
next one. -/
def Die.passOn (x : Die) (n num : Nat) (gap drop settle : Bool) : Die :=
  match (x.ctxOf n).nextAfter num with
  | some m =>
    let mark (f : CtxFrame) : CtxFrame :=
      if f.num = m then { f with flags := { f.flags with gap := f.flags.gap || gap, drop := f.flags.drop || drop
                                                         settling := f.flags.settling || settle },
                                         owes := f.owes || settle } else f
    x.onCtx n (fun k => { k with frames := k.frames.map mark, holds := k.holds.map mark })
  | none => x.onCtx n (fun k => { k with gap := k.gap || gap, drop := k.drop || drop, settle := k.settle || settle })

/-- The port sends, or has been offered, a display frame from this buffer. -/
def Ipp.portReads (i : Ipp) (n buf : Nat) : Bool :=
  i.vtx.any (fun v => v.ctx = n && v.buf = buf) || i.vtxNext.any (fun v => v.ctx = n && v.buf = buf)

/-- A frame taken off its context: its unit in progress stops, its slots, lines and buffers are freed, its remaining lines are
discarded (R196). A display buffer that the port is reading stays until it has been sent (R209, R216). The first frame of an
enabling leaves that to the next one (R204). -/
def Die.removeFrame (x : Die) (n num : Nat) : Die :=
  let k := x.ctxOf n
  match k.frames.find? (fun f => f.num = num) with
  | none => x.onCtx n (fun k => { k with holds := k.holds.filter (fun f => f.num != num) })
  | some f =>
    let first := (k.frames.head?.map (·.num)) = some num
    let y := x.onCtx n (fun k => { k with frames := k.frames.filter (fun f => f.num != num)
                                          held := k.held.filter (fun l => l.num != num)
                                          discarding := k.discarding || (k.rx && !f.ended)
                                          fresh := k.fresh || f.fresh })
    y.onIpp (fun i => { i with
      running := if first && i.running = some n then none else i.running
      bufs := i.bufs.filter (fun b => b.complete || b.ctx != n || b.num != num ||
        (b.out = 0 && i.vtx.any (fun v => v.ctx = n && v.buf = num)))
      vtxNext := i.vtxNext.filter (fun v => v.ctx != n || v.num != num) })

/-- The unfinished frame `num` of a context, a HOLD frame among them. -/
def Die.unfinished? (x : Die) (n num : Nat) : Option CtxFrame :=
  ((x.ctxOf n).frames ++ (x.ctxOf n).holds).find? (fun f => f.num = num)

/-- What an unfinished frame of which nothing is delivered leaves to the next frame delivered (R17, R198, Table 0.6): GAP, the
DROP that it was to carry, and the SETTLING that it owed for an abandoned frame; with `settling`, its own SETTLING, which
only an abandoned frame hands on. -/
def Die.handOn (x : Die) (n num : Nat) (settling : Bool) : Die :=
  match x.unfinished? n num with
  | some f => x.passOn n num true f.flags.drop (settling || f.owes)
  | none => x.passOn n num true false settling

/-- An unfinished frame of which nothing is delivered, taken off its context, but not an abandoned one. -/
def Die.takeOut (x : Die) (n num : Nat) : Die :=
  if (x.unfinished? n num).isSome then (x.handOn n num false).removeFrame n num else x

/-- The buffers of frames that are lost are free, but for one that the port reads (R209, R216). -/
def Die.freeOrphans (x : Die) : Die :=
  x.onIpp (fun i => { i with bufs := i.bufs.filter (fun b =>
    b.complete || (x.unfinished? b.ctx b.num).isSome || i.done.any (fun e => e.ctx = b.ctx && e.frame.num = b.num) ||
      (b.out = 0 && i.portReads b.ctx b.num)) })

/-- The flags of every frame that a context is receiving changed. -/
def Die.onOpenFrames (x : Die) (f : FrameFlags → FrameFlags) : Die :=
  x.onIpp (fun i => { i with ctx := i.ctx.map (fun k =>
    { k with frames := k.frames.map (fun r => if r.ended then r else { r with flags := f r.flags }) }) })

/-- R294: a thermal level that is in force before a frame's last unit completes. -/
def Die.noteThrottle (x : Die) (level : Nat) : Die :=
  x.onIpp (fun i => { i with ctx := i.ctx.map (fun k =>
    { k with frames := k.frames.map (fun r => { r with throttle := max r.throttle level })
             holds := k.holds.map (fun r => { r with throttle := max r.throttle level }) }) })

end Sys2Proof.Machine
end

