-- ==== Sys2Proof/Machine/Sensor.lean ====
section
/-!
DEFINITION. The sensor port's outputs and focal-plane diodes (02_sensor_port_and_rake.md, R46 to R55, R438): switching
on and off in order, ramps, GOOD and VRANGE, the off sequence, and the diode readings.
-/

namespace Sys2Proof.Machine

/-- AFE_OUT_EN's bit of an output. -/
def F.afeEn : AfeOut → Fld
  | .vsd => F.AFE_OUT_EN_VSD
  | .vsa => F.AFE_OUT_EN_VSA
  | .vrefc => F.AFE_OUT_EN_VREFC
  | .vblind => F.AFE_OUT_EN_VBLIND
  | .vdet => F.AFE_OUT_EN_VDET

/-- The five outputs in the order of Table 2.4. -/
def afeOuts : List AfeOut := [.vsd, .vsa, .vrefc, .vblind, .vdet]

/-- The place of an output in the order of Table 2.4. -/
def afeOrder : AfeOut → Nat
  | .vsd => 1
  | .vsa => 2
  | .vrefc => 3
  | .vblind => 4
  | .vdet => 4

/-- An output that ramps (R48). -/
def afeRamps (o : AfeOut) : Bool := o = .vblind || o = .vdet

/-- An output is GOOD (R438). -/
def Die.outGood (x : Die) (o : AfeOut) : Bool := x.bitOf F.AFE_OUT_STAT_GOOD o.idx

/-- An output's enable. -/
def Die.outEn (x : Die) (o : AfeOut) : Bool := x.on (F.afeEn o)

/-- The AFE's hidden state changed. -/
def Die.onAfe (x : Die) (f : Afe → Afe) : Die := { x with afe := f x.afe }

/-- A bit of a small set. -/
def setAt {w : Nat} (v : BitVec w) (i : Nat) (b : Bool) : BitVec w :=
  if b then v ||| BitVec.twoPow w i else v &&& ~~~ BitVec.twoPow w i

/-- VRANGE, event 146: an enabled output that was GOOD lies outside ±2 % while not ramping (R438); the monitor is
AFE_CTRL.EN's. -/
def Die.afeVrange (x : Die) : Die := x.cond 146 (x.on (F.CTRL_EN 0x21) && x.afe.outside != 0)

/-- BIASEN at the ball (R49). R73's 'with NOBIAS at 1, BIASEN and BLINDSEL stay low under R49' is read as R49's own gate: they
stay low because VDET and VBLIND are not GOOD, not because of NOBIAS (log entry 95). -/
def Die.biasenPin (x : Die) : Bool := x.rake.biasen && x.outGood .vdet

/-- BLINDSEL at the ball (R49). -/
def Die.blindselPin (x : Die) : Bool := x.rake.blindsel && x.outGood .vblind

/-- An output stops driving: no longer ramping, GOOD or out of its window. -/
def Die.outOff (x : Die) (o : AfeOut) : Die :=
  ((x.setBit F.AFE_OUT_STAT_GOOD o.idx false).setBit F.AFE_OUT_STAT_RAMPING o.idx false).onAfe
    (fun a => { a with driven := setAt a.driven o.idx false, falling := setAt a.falling o.idx false,
                       outside := setAt a.outside o.idx false, overs := fillSet 0 a.overs o.idx 0
                       stepAt := fillSet none a.stepAt o.idx none })

/-- The outputs that are disabled and wait for those of higher order go off once these are off: VREFC after VDET and
VBLIND, then VSA, then VSD (R47). -/
def Die.afeCascade (x : Die) : Die :=
  let up (x : Die) (o : AfeOut) : Bool :=
    afeOuts.any (fun p => afeOrder o < afeOrder p && x.afe.driven.getLsbD p.idx)
  [AfeOut.vrefc, .vsa, .vsd].foldl (fun x o => if !x.outEn o && !up x o then x.outOff o else x) x

/-- R47: output `o` may be enabled: every output of lower order is enabled and GOOD, and `o` has no trip cause. -/
def Die.mayEnable (x : Die) (o : AfeOut) : Bool :=
  afeOuts.all (fun p => afeOrder o ≤ afeOrder p || (x.outEn p && x.outGood p)) &&
    !x.bitOf F.AFE_TRIP_CAUSE o.idx

/-- An output is enabled: VDET and VBLIND begin to ramp up, the others settle (R47, R48). -/
def Die.enableOut (x : Die) (o : AfeOut) : Die :=
  if x.outEn o then x
  else
    let y := ((x.set (F.afeEn o) 1).setBit F.AFE_OUT_STAT_TRIPPED o.idx false).onAfe
      (fun a => { a with driven := setAt a.driven o.idx true, falling := setAt a.falling o.idx false
                         stepAt := fillSet none a.stepAt o.idx none })
    if afeRamps o then (y.setBit F.AFE_OUT_STAT_RAMPING o.idx true).setBit F.AFE_OUT_STAT_GOOD o.idx false else y

/-- An output begins to ramp down (R48, R75). -/
def Die.rampDown (x : Die) (o : AfeOut) : Die :=
  ((x.setBit F.AFE_OUT_STAT_RAMPING o.idx true).setBit F.AFE_OUT_STAT_GOOD o.idx false).onAfe
    (fun a => { a with falling := setAt a.falling o.idx true, outside := setAt a.outside o.idx false })

/-- One output's enable cleared: VDET and VBLIND ramp down, the others wait for their turn (R47, R48). -/
def Die.dropOut (x : Die) (o : AfeOut) : Die :=
  if !x.outEn o then x
  else
    let y := x.set (F.afeEn o) 0
    if afeRamps o then y.rampDown o else y

/-- An output disabled, with every enabled output of higher order, highest first (R47). -/
def Die.disableOut (x : Die) (o : AfeOut) : Die :=
  let y := afeOuts.reverse.foldl (fun x p => if o = p ∨ afeOrder o < afeOrder p then x.dropOut p else x) x
  y.afeCascade.afeVrange

/-- The off sequence of Table 2.5: all five outputs off at once, whatever ramps (R52). -/
def Die.afeOff (x : Die) : Die :=
  let y := afeOuts.reverse.foldl (fun x o => (x.set (F.afeEn o) 0).outOff o) x
  (((((y.onAfe (fun a => { a with offSeq := true })).set F.AFE_IMON0_VBLIND 0).set F.AFE_IMON0_VDET 0).set
    F.AFE_IMON1_VSD 0).set F.AFE_IMON1_VSA 0).afeVrange

/-- AFE_OUTPUT_ENABLE (R47). -/
def execAfeOutputEnable (d : DieId) (o : AfeOut) (s : State) : Host.Outcome State Fault Refusal :=
  onDie d s fun _ x => if x.mayEnable o then x.enableOut o else x.accErr 0x21

/-- AFE_OUTPUT_DISABLE (R47). -/
def execAfeOutputDisable (d : DieId) (o : AfeOut) (s : State) : Host.Outcome State Fault Refusal :=
  onDie d s fun _ x => x.disableOut o

/-- RAMP_DONE (R48): a ramp up ends GOOD at the set value, a ramp down ends at 0 V. Only an output that ramps can end
a ramp (log entry 2). -/
def execRampDone (d : DieId) (o : AfeOut) (s : State) : Host.Outcome State Fault Refusal :=
  onDie d s fun _ x =>
    if !x.bitOf F.AFE_OUT_STAT_RAMPING o.idx then x
    else
      let y := x.setBit F.AFE_OUT_STAT_RAMPING o.idx false
      if x.outEn o && !x.afe.falling.getLsbD o.idx then ((y.setBit F.AFE_OUT_STAT_GOOD o.idx true).afeVrange).fire 147
      else ((y.outOff o).afeCascade.afeVrange).fire 147

/-- The 100 µs after a frame-boundary step of an output, in which it keeps the GOOD state it had (R438). -/
def Die.outStepping (x : Die) (o : AfeOut) (now : Nat) : Bool :=
  match x.afe.stepAt.getD o.idx none with
  | some t => decide (now < t + 25000)
  | none => false

/-- OUTPUT_GOOD (R438): an enabled output that is not ramping, and has not just stepped, lies within ±2 % of its set value. -/
def execOutputGood (d : DieId) (o : AfeOut) (s : State) : Host.Outcome State Fault Refusal :=
  onDie d s fun env x =>
    if x.outEn o && x.afe.driven.getLsbD o.idx && !x.bitOf F.AFE_OUT_STAT_RAMPING o.idx && !x.outStepping o env.now then
      ((x.setBit F.AFE_OUT_STAT_GOOD o.idx true).onAfe
        (fun a => { a with outside := setAt a.outside o.idx false })).afeVrange
    else x

/-- OFF_DONE (R52, Table 2.14). -/
def execOffDone (d : DieId) (s : State) : Host.Outcome State Fault Refusal :=
  onDie d s fun _ x =>
    if x.afe.offSeq then (x.onAfe (fun a => { a with offSeq := false })).fire 150 else x

/-- The CAUSE bits written 1 are cleared; TRIP, event 145, clears with them, and with the bit the output's TRIPPED
(R50). -/
def Die.clearTripCause (x : Die) (val : Nat) : Die :=
  let y := afeOuts.foldl (fun x o => if val.testBit o.idx then
    (x.setBit F.AFE_TRIP_CAUSE o.idx false).setBit F.AFE_OUT_STAT_TRIPPED o.idx false else x) x
  y.cond 145 (y.get F.AFE_TRIP_CAUSE != 0)

/-- TRIP_CAUSE_CLEAR (R50): a W1C write of AFE_TRIP.CAUSE. -/
def execTripCauseClear (d : DieId) (val : PendMask) (s : State) : Host.Outcome State Fault Refusal :=
  onDie d s fun _ x => x.clearTripCause (clearable (s.hits d val.tie) F.AFE_TRIP_CAUSE val.bits)

/-- R55: a reading is valid from -50 °C to +150 °C, in units of 0.25 mK. -/
def fpdValid (code : Int) : Bool := -200000 ≤ code && code ≤ 600000

/-- FPD_READING (R54, R55): a valid reading enters the mean of the frame; an open, shorted or out-of-range one sets
FAIL and FPD_FAIL. The converters run while AFE_CTRL.EN is 1. -/
def execFpdReading (d : DieId) (diode : Fin 2) (code : Option Int) (s : State) : Host.Outcome State Fault Refusal :=
  onDie d s fun _ x =>
    if !x.on (F.CTRL_EN 0x21) then x
    else
      let n := diode.val
      match code with
      | some c =>
        if fpdValid c then
          ((x.set (F.AFE_FPD_FAIL n) 0).onAfe (fun a =>
            { a with fpdSum := fillSet 0 a.fpdSum n (a.fpdSum.getD n 0 + c),
                     fpdCnt := fillSet 0 a.fpdCnt n (a.fpdCnt.getD n 0 + 1) })).cond (148 + n) false
        else (x.set (F.AFE_FPD_FAIL n) 1).cond (148 + n) true
      | none => (x.set (F.AFE_FPD_FAIL n) 1).cond (148 + n) true

/-- The mean of a diode's readings, to the nearest code, a half rounding up (log entry 12). -/
def fpdMean (sum : Int) (cnt : Nat) : Int := (2 * sum + cnt) / (2 * cnt)

/-- One diode's latch at FRAME_START (R54); without a reading since the last one it keeps its value. -/
def Die.latchDiode (x : Die) (n : Nat) : Die :=
  let cnt := x.afe.fpdCnt.getD n 0
  if cnt = 0 then x
  else (x.setS (F.AFE_FPD_TEMP n) (fpdMean (x.afe.fpdSum.getD n 0) cnt)).set (F.AFE_FPD_VALID n) 1

/-- The focal-plane temperature of the frame (R54, R55): the selected diode, or the mean of both with an arithmetic
shift; the other diode alone when one has failed; the last valid value when none is left. Before any valid reading the model
holds 0, 0 °C: its own choice (log entry 95). -/
def Die.frameTf (x : Die) : Int :=
  let a := x.getS (F.AFE_FPD_TEMP 0)
  let b := x.getS (F.AFE_FPD_TEMP 1)
  let okA := x.on (F.AFE_FPD_VALID 0) && !x.on (F.AFE_FPD_FAIL 0)
  let okB := x.on (F.AFE_FPD_VALID 1) && !x.on (F.AFE_FPD_FAIL 1)
  match x.get F.AFE_FPD_CFG_SEL with
  | 0 => if okA then a else x.afe.tf
  | 1 => if okB then b else x.afe.tf
  | _ => if okA && okB then asr (a + b + 1) 1 else if okA then a else if okB then b else x.afe.tf

/-- The focal-plane values latched at a FRAME_START (R54). -/
def Die.latchFpd (x : Die) : Die :=
  let y := (x.latchDiode 0).latchDiode 1
  y.onAfe (fun a => { a with fpdSum := [0, 0], fpdCnt := [0, 0], tf := y.frameTf })

end Sys2Proof.Machine
end

