-- ==== Sys2Proof/Machine/Wear.lean ====
section
/-!
DEFINITION. The wear figures that follow a single register (15_errors_self_test_and_grafting.md, Table 15.6, R414): each is
brought up to date where its source changes.
-/

namespace Sys2Proof.Machine

/-- Wear figure `n` is set or not; WEAR is the condition that any is (R414). -/
def Die.wearBit (x : Die) (n : Nat) (b : Bool) : Die :=
  let y := x.setBit F.SPR_WEAR_FIG n b
  y.cond 612 (y.get F.SPR_WEAR_FIG != 0)

/-- Figures 1 and 2: the counts of the last two sweeps against WDR_DYN_LIM. -/
def Die.sweepWorn (x : Die) : Bool := x.get F.WDR_DYN_LIM_LIMIT < x.get F.SPR_DYN_LAST_COUNT
def Die.sweepGrows (x : Die) : Bool :=
  x.get F.SPR_DYN_PREV_COUNT + x.get F.WDR_DYN_LIM_LIMIT / 8 < x.get F.SPR_DYN_LAST_COUNT

/-- Figures 1 and 2 brought up to date. -/
def Die.showSweepWear (x : Die) : Die := (x.wearBit 1 x.sweepWorn).wearBit 2 x.sweepGrows

/-- Figure 4: the clusters whose spare is grafted. -/
def Die.sparesWorn (x : Die) : Bool :=
  x.get F.SPR_WEAR_LIM_CLU ≤ ((List.range 32).filter (fun c => x.on (F.CLU_GRAFT_ACTIVE c))).length

/-- A gain or offset trim of a cluster lies within the margin of either end of its range. -/
def Die.cluTrimWorn (x : Die) (c : Nat) : Bool :=
  let m : Int := x.get F.SPR_WEAR_LIM_TRIM
  let out (f : Fld) : Bool := decide (127 - m ≤ x.getS f) || decide (x.getS f ≤ -128 + m)
  (List.range 17).any (fun j =>
    out (F.CLU_CTRIM0_GAIN c j) || out (F.CLU_CTRIM0_OFFSET c j) || out (F.CLU_CTRIM1_GAIN c j) || out (F.CLU_CTRIM1_OFFSET c j))

/-- Figure 5: such a trim of any cluster. -/
def Die.trimWorn (x : Die) : Bool := (List.range 32).any x.cluTrimWorn

/-- Figure 5 brought up to date after the trims of one cluster have changed. -/
def Die.showTrimWear (x : Die) (c : Nat) : Die :=
  if x.cluTrimWorn c then x.wearBit 5 true else if x.bitOf F.SPR_WEAR_FIG 5 then x.wearBit 5 x.trimWorn else x

end Sys2Proof.Machine
end

