-- ==== Sys2Proof/Machine/Sparing.lean ====
section
/-!
DEFINITION. The inventory of resources (15_errors_self_test_and_grafting.md, R404 to R410): what an error does to a
resource's state.  The blocks decide when a removal or a return lands; the tests, the graft table and the requests are
in Grafting.lean.
-/

namespace Sys2Proof.Machine

/-- The SPR's state changed. -/
def Die.onSpr (x : Die) (f : Spr → Spr) : Die := { x with spr := f x.spr }

/-- The entry of a resource that is not plainly in service. -/
def Die.resource? (x : Die) (ty inst : Nat) : Option Resource :=
  x.spr.inventory.find? (fun r => r.type = ty && r.inst = inst)

/-- The inventory with one entry replaced. -/
def Spr.replace (s : Spr) (r : Resource) : Spr :=
  { s with inventory := s.inventory.map (fun q => if q.type = r.type && q.inst = r.inst then r else q) }

/-- The inventory without one entry. -/
def Spr.remove (s : Spr) (ty inst : Nat) : Spr :=
  { s with inventory := s.inventory.filter (fun q => !(q.type = ty && q.inst = inst)) }

/-- STS_STATE.WAITING: resources that wait for a test, at most 127. -/
def Die.showWaiting (x : Die) : Die :=
  x.set F.STS_STATE_WAITING (min 127 (x.spr.inventory.filter (fun r => r.waiting)).length)

/-- The 64-bit frame number of the thermal context. -/
def Die.frameNum (x : Die) : Nat := x.get64 F.SEQ_FRAME_NUM_LO_NUM F.SEQ_FRAME_NUM_HI_NUM

/-- A change of graft state sets GRAFT in the frames under way (R23). -/
def Die.markGraft (x : Die) : Die :=
  let x := x.onOpenFrames (fun g => { g with graft := true })
  if x.rake.frameOpen then { x with frame := { x.frame with flags := { x.frame.flags with graft := true } } } else x

/-- A resource of types 1 to 5 is out of service and no spare stands in for it: its channel's results are VOID, or its
region has no slice of its own and not the spare; for a spare channel or the spare slice itself nothing stands in (NO_SPARE,
Table 15.7). -/
def Die.unspared (x : Die) (r : Resource) : Bool :=
  let chan (i : Nat) : Bool := (x.get (F.CLU_VOID_VOID (i / 16))).testBit (i % 16)
  if r.type = 1 then
    if r.inst < 1024 then chan (r.inst / 2)
    else x.bitOf (F.CLU_CORE0_OUT_OUT (r.inst / 2 - 512)) 16 && x.bitOf (F.CLU_CORE1_OUT_OUT (r.inst / 2 - 512)) 16
  else if r.type = 2 then decide (512 ≤ r.inst) || chan r.inst
  else if r.type = 3 then decide (r.inst = 4) || x.get (F.SVE_SLICE_SLICE r.inst) != 4
  else false

/-- A lasting fault of a type is in the inventory. -/
def Die.lastingOf (x : Die) (ty : Nat) : Bool := x.spr.inventory.any (fun r => r.type = ty && r.lasting)

/-- Wear figure 6: the spare slice or the spare core stands in for a lasting fault (Table 15.6). -/
def Die.serversWorn (x : Die) : Bool :=
  (x.lastingOf 3 && (List.range 4).any (fun r => x.get (F.SVE_SLICE_SLICE r) = 4)) || (x.lastingOf 4 && x.get F.PRC_MAP_SPARE = 7)

/-- Two resources of a type suffered their errors in the same PERI cycle (R405). -/
def Die.sameCycle (x : Die) (ty a b : Nat) : Bool :=
  match x.resource? ty a, x.resource? ty b with
  | some p, some q => p.since = q.since
  | _, _ => false

/-- A core or channel of a cluster. -/
def Resource.ofCluster (r : Resource) (c : Nat) : Bool :=
  let chan := if r.type = 1 then r.inst / 2 else r.inst
  (r.type = 1 || r.type = 2) && (if chan < 512 then chan / 16 else chan - 512) = c

/-- NO_SPARE brought up to date. -/
def Die.showNoSpare (x : Die) : Die := x.cond 617 (x.spr.inventory.any x.unspared)

/-- SPR_LAST.OUTCOME of the fault it names. -/
def Die.noteOutcome (x : Die) (ty inst outcome : Nat) : Die :=
  if x.get F.SPR_LAST_TYPE = ty && x.get F.SPR_LAST_INSTANCE = inst then x.set F.SPR_LAST_OUTCOME outcome else x

/-- A fault that has proved transient: counted, and kept among the 64 most recent with its time in ms (R408, R409). -/
def Die.noteTransient (x : Die) (ty inst now : Nat) : Die :=
  let y := x.onSpr (fun s => { s with transients := ((ty, inst, x.timeNs now / 1000000) :: s.transients).take 64 })
  (y.count F.SPR_CNT_TRANSIENT).noteOutcome ty inst 1

/-- A resource leaves the inventory: it is back in service, and its frame carries GRAFT where a spare stood in for it (R407). -/
def Die.resBack (x : Die) (ty inst : Nat) : Die :=
  let y := (((x.onSpr (fun s => s.remove ty inst)).showWaiting).fire 609).showNoSpare
  if ty = 7 || ty = 9 then y else y.markGraft

/-- A fault has proved lasting (R408, R412): its graft stays, and it waits for its entry in the table. -/
def Die.classLasting (x : Die) (r : Resource) (cause outcome : Nat) : Die :=
  let y := x.onSpr (fun s =>
    { s.replace { r with lasting := true, testing := false, waiting := false, spoilt := false, cause := cause } with
      toWrite := s.toWrite ++ [(r.type, r.inst, cause)] })
  let y := (((y.count F.SPR_CNT_LASTING).noteOutcome r.type r.inst outcome).fire 610).showWaiting
  if r.type = 4 then y.set (F.PRC_CORE_CORE r.inst) 4 else y

/-- This pass would be the fault that makes the resource's transient faults lasting (R409). -/
def Die.repeats (x : Die) (r : Resource) (now : Nat) : Bool :=
  let t := x.timeNs now / 1000000
  let n := (x.spr.transients.filter (fun e => e.1 = r.type && e.2.1 = r.inst &&
    decide (t ≤ e.2.2 + x.get F.SPR_POLICY_WINDOW * 3600000))).length
  x.get F.SPR_POLICY_TRANS_MAX ≤ n + 1

/-- An error takes a resource out of service and marks it for its test; on a resource under test it spoils the test;
on one already out it changes nothing, but a host request of the same cycle is merged into it (R405, R410). `now` orders the
waiting resources. -/
def Die.resError (x : Die) (ty inst cause now : Nat) : Die :=
  match x.resource? ty inst with
  | some r =>
    if r.testing then x.onSpr (fun s => s.replace { r with spoilt := true })
    else if r.cause = 7 && r.since = now && !r.lasting then
      let y := x.onSpr (fun s => s.replace { r with cause := cause })
      if y.get F.SPR_LAST_TYPE = ty && y.get F.SPR_LAST_INSTANCE = inst then y.set F.SPR_LAST_CAUSE cause else y
    else x
  | none =>
    let y := x.onSpr (fun s => { s with inventory := s.inventory ++ [
      { type := ty, inst := inst, waiting := decide (ty ≤ 5), testing := false, spoilt := false, lasting := false,
        cause := cause, since := now, hostTest := false }] })
    (((((((y.set F.SPR_LAST_TYPE ty).set F.SPR_LAST_CAUSE cause).set F.SPR_LAST_OUTCOME 0).set
      F.SPR_LAST_INSTANCE inst).set F.SPR_LAST_FRAME_FRAME x.frameNum).showWaiting).fire 609).showNoSpare

end Sys2Proof.Machine
end

