-- ==== Sys2Proof/Machine/Arrays.lean ====
section
/-!
DEFINITION. The array converters (03_array_converters_and_trims.md): conversion, the averaging windows, blanking
checks, cores and spare channels, and the pixel trim map.
-/

namespace Sys2Proof.Machine

/-! ### Clusters, channels and cores -/

/-- Cluster `c` is in use (R67). -/
def Die.cluInUse (x : Die) (c : Nat) : Bool := c ≤ x.get F.SEQ_ARRAY_NCLU_M1

/-- The clusters in use. -/
def Die.clusters (x : Die) : List Nat := List.range (x.get F.SEQ_ARRAY_NCLU_M1 + 1)

/-- The Rake runs: SEQ_PC.STATE is running, waiting or stopping. -/
def Die.rakeRuns (x : Die) : Bool :=
  let s := x.get F.SEQ_PC_STATE
  s = 1 || s = 2 || s = 3

/-- Cluster `c` converts: not while ACB_CTRL.EN is 0 and the Rake runs, nor while its CLU_CTRL.EN is 0 (R439). -/
def Die.converts (x : Die) (c : Nat) : Bool :=
  x.cluInUse c && (x.on F.ACB_CTRL_EN || !x.rakeRuns) && x.on (F.CLU_CTRL_EN c)

/-- A channel's instance among the resources: 16c + j, or 512 + c for the spare (Table 15.1). -/
def chanInst (c j : Nat) : Nat := if j < 16 then 16 * c + j else 512 + c

/-- A core's instance among the resources. -/
def coreInst (c j core : Nat) : Nat := 2 * chanInst c j + core

/-- The register that shows the cores of a kind out of service. -/
def F.coreOut (c core : Nat) : Fld := if core = 0 then F.CLU_CORE0_OUT_OUT c else F.CLU_CORE1_OUT_OUT c

/-- A core is out of service. -/
def Die.coreOut (x : Die) (c j core : Nat) : Bool := x.bitOf (F.coreOut c core) j

/-- The hidden state of a cluster. -/
def Die.cluOf (x : Die) (c : Nat) : Clu := x.clu.getD c {}

/-- The hidden state of a cluster changed. -/
def Die.onClu (x : Die) (c : Nat) (f : Clu → Clu) : Die := { x with clu := fillSet {} x.clu c (f (x.cluOf c)) }

/-- The converters' common state changed. -/
def Die.onAcb (x : Die) (f : Acb → Acb) : Die := { x with acb := f x.acb }

/-- The channel a spare has been decided for, and whether its graft has landed (R92). -/
def Die.spareOn (x : Die) (c : Nat) : Option (Nat × Bool) :=
  if x.on (F.CLU_GRAFT_ACTIVE c) then some (x.get (F.CLU_GRAFT_CH c), (x.cluOf c).landing.isNone) else none

/-- A channel is degraded: exactly one of its cores is out of service. -/
def Die.degraded (x : Die) (c j : Nat) : Bool := x.coreOut c j 0 != x.coreOut c j 1

/-- A channel, or the spare, gives no valid data: it has failed, or both its cores are out (R89, R93). -/
def Die.chanDead (x : Die) (c j : Nat) : Bool := (x.cluOf c).failed.contains j || (x.coreOut c j 0 && x.coreOut c j 1)

/-- A channel is out of service and no spare in service stands in for it (R89, R93). -/
def Die.chanVoid (x : Die) (c j : Nat) : Bool :=
  match x.spareOn c with
  | some (k, true) => if k = j then x.chanDead c 16 else x.chanDead c j
  | _ => x.chanDead c j

/-- CLU_VOID, DEGRADED and GRAFTED of a cluster's page and the wear of the spare channels, brought up to date (R23, R93, R414,
Table 3.8). -/
def Die.showClu (x : Die) (c : Nat) : Die :=
  let v := maskOf 16 (fun j => x.chanVoid c j)
  let d := (List.range 16).any (fun j => x.degraded c j || v.testBit j)
  ((((x.set (F.CLU_VOID_VOID c) v).setB (F.STAT_DEGRADED (0x80 + c)) d).setB (F.STAT_GRAFTED (0x80 + c))
    (x.on (F.CLU_GRAFT_ACTIVE c))).cond (195 + 4 * c) (d && x.cluInUse c)).wearBit 4 x.sparesWorn

/-- ACB_DEG_CNT: channels degraded and out of service in the clusters in use. -/
def Die.showDeg (x : Die) : Die :=
  let cnt (p : Nat → Nat → Bool) := (x.clusters.map (fun c => ((List.range 16).filter (p c)).length)).sum
  ((x.set F.ACB_DEG_CNT_VOID (cnt (fun c j => x.chanVoid c j))).set F.ACB_DEG_CNT_DEG
    (cnt (fun c j => x.degraded c j && !x.chanVoid c j)))

/-- A change of graft state in cluster `c` lands: GRAFT of the cluster and of the SPR, and the frame's flag
(R23, R89, R93). -/
def Die.graftLands (x : Die) (c : Nat) : Die := ((((x.showClu c).showDeg.markGraft).fire (194 + 4 * c)).fire 609).showNoSpare

/-- A decided graft lands (R92). -/
def Die.landGraft (x : Die) (c : Nat) : Die := (x.onClu c (fun k => { k with landing := none })).graftLands c

/-- The spare is free to stand in: not taken, not failed, both its cores in service. That a spare with one core out of service
is not free is the model's own reading (R92; log entry 93). -/
def Die.spareFree (x : Die) (c : Nat) : Bool :=
  !x.on (F.CLU_GRAFT_ACTIVE c) && !(x.cluOf c).failed.contains 16 && !x.coreOut c 16 0 && !x.coreOut c 16 1

/-- The spare's graft onto channel `j` is decided; it lands at the second ROW_START or the next FRAME_START (R92). -/
def Die.decideGraft (x : Die) (c j cause : Nat) : Die :=
  let y := (((x.set (F.CLU_GRAFT_ACTIVE c) 1).set (F.CLU_GRAFT_CH c) j).set (F.CLU_GRAFT_CAUSE c) cause).onClu c
    (fun k => { k with landing := some 2 })
  y.showClu c

/-- The spare leaves the channel it served at the next FRAME_START, or at once while the Rake is stopped (R93). -/
def Die.releaseDue (x : Die) (c : Nat) : Die :=
  if x.on (F.CLU_GRAFT_ACTIVE c) then x.onClu c (fun k => { k with releasing := true }) else x

/-- A channel fails: it is out of service, its results VOID until the spare's graft lands; without a free spare, with
AUTOGRAFT 0, or in a cluster that does not convert (R439), it stays so. A failed spare leaves the channel it served, which
stays out of service (R91 to R93, R406). -/
def Die.failChannel (x : Die) (c j cause now : Nat) : Die :=
  let y := x.resError 2 (chanInst c j) cause now
  let later (q : Nat) : Bool := decide (j < q) && y.sameCycle 2 (chanInst c j) (chanInst c q)
  let y := y.onClu c (fun k => if k.failed.contains j then k
    else { k with failed := k.failed.filter (fun q => !later q) ++ j :: k.failed.filter later })
  if j = 16 then (y.releaseDue c).graftLands c
  else if x.on (F.CLU_CTRL_AUTOGRAFT c) && x.converts c && (x.spareFree c || (x.on (F.CLU_GRAFT_ACTIVE c) &&
      (x.cluOf c).landing = some 2 && x.get (F.CLU_GRAFT_CAUSE c) != 1 && later (x.get (F.CLU_GRAFT_CH c)))) then
    (y.decideGraft c j 2).showDeg
  else y.graftLands c

/-- The cause of a core's fault, as the inventory has it. -/
def Die.coreCause (x : Die) (c j core : Nat) : Nat := ((x.resource? 1 (coreInst c j core)).map (·.cause)).getD 1

/-- A core has left service: with its second core a channel is out of service (R89). -/
def Die.landRemoval (x : Die) (c j core now : Nat) : Die :=
  let y := (x.setBit (F.coreOut c core) j true).graftLands c
  if y.coreOut c j (1 - core) && !(y.cluOf c).failed.contains j then y.failChannel c j (y.coreCause c j core) now else y

/-- The removals that wait for a ROW_START land in cluster `c` (R89). -/
def Die.landRemovals (x : Die) (c now : Nat) : Die :=
  (x.cluOf c).removing.foldl (fun x (e : Nat × Nat) => x.landRemoval c e.1 e.2 now) (x.onClu c (fun k => { k with removing := [] }))

/-- A decided graft nears the ROW_START at which it lands (R92). -/
def Die.countLanding (x : Die) (c : Nat) : Die :=
  match (x.cluOf c).landing with
  | some n => if n ≤ 1 then x.landGraft c else x.onClu c (fun k => { k with landing := some (n - 1) })
  | none => x

/-- What a ROW_START does to a cluster: a graft decided earlier lands at the second one, and removals land; a graft that they
decide counts from the next (R89, R92). -/
def Die.cluRowStart (x : Die) (c now : Nat) : Die := (x.countLanding c).landRemovals c now

/-- A failed channel that waits is replaced when the spare is free, AUTOGRAFT is 1 and the cluster converts: the one that failed
first (R92, R439). -/
def Die.graftWaiting (x : Die) (c : Nat) : Die :=
  if x.on (F.CLU_CTRL_AUTOGRAFT c) && x.spareFree c && x.converts c then
    match ((x.cluOf c).failed.filter (· < 16)).head? with
    | some j => (x.decideGraft c j 2).showDeg
    | none => x
  else x

/-- The spare released (R93). -/
def Die.releaseSpare (x : Die) (c : Nat) : Die :=
  ((x.set (F.CLU_GRAFT_ACTIVE c) 0).set (F.CLU_GRAFT_CAUSE c) 0).onClu c
    (fun k => { k with releasing := false, landing := none })

/-- A channel that passed its test returns; the spare that stood in for it is released (R93). -/
def Die.restoreChannel (x : Die) (c j : Nat) : Die :=
  let y := (x.onClu c (fun k => { k with failed := k.failed.filter (· != j) }))
  let y := (y.setBit (F.coreOut c 0) j false).setBit (F.coreOut c 1) j false
  match y.spareOn c with
  | some (k, _) => if k = j then y.releaseSpare c else y
  | none => y

/-- The release of a spare lands: the channel it stood in for returns, unless the spare has left because it failed (R93). -/
def Die.landRelease (x : Die) (c : Nat) : Die :=
  let ch := x.get (F.CLU_GRAFT_CH c)
  let y := if (x.cluOf c).failed.contains 16 then x
           else (x.onClu c (fun k => { k with failed := k.failed.filter (· != ch) })).onSpr (fun s => s.remove 2 (chanInst c ch))
  (((y.releaseSpare c).showWaiting).graftLands c).graftWaiting c

/-- What a FRAME_START does to a cluster: a decided graft lands, cores and channels return, the spare is released
(R89, R92, R93). A return whose removal has not landed yet waits for the next one. -/
def Die.cluFrameStart (x : Die) (c : Nat) : Die :=
  let y := if (x.cluOf c).landing.isSome then x.landGraft c else x
  let k := y.cluOf c
  let y := y.onClu c (fun k => { k with returning := k.returning.filter (k.removing.contains ·), restoring := [] })
  let y := (k.returning.filter (fun e => !k.removing.contains e)).foldl
    (fun y (e : Nat × Nat) => (y.setBit (F.coreOut c e.2) e.1 false).graftLands c) y
  let y := k.restoring.foldl (fun y j => ((y.restoreChannel c j).graftLands c).graftWaiting c) y
  if k.releasing then y.landRelease c else y

/-- A core is to leave service: at the next ROW_START, or at once while the Rake is stopped (R89). -/
def Die.removeCore (x : Die) (c j core now : Nat) : Die :=
  if x.coreOut c j core || (x.cluOf c).removing.contains (j, core) then x
  else
    let y := x.onClu c (fun k => { k with removing := k.removing ++ [(j, core)],
                                          returning := k.returning.filter (· != (j, core)) })
    if x.rakeRuns then y else y.landRemovals c now

/-! ### Conversion (R78, R79) -/

/-- One LSB is 1.2 V / 16,384: the denominator of a core's value, with the voltages in nanovolts and the pedestal in
1,023rds, times 8,192 for the gain trim and a million for the gain correction. -/
def convDen : Int := 3069000000000 * 8192 * 1000000

/-- The core's trimmed value before rounding, times `convDen`: 8,192 + x / LSB with x of R78, then the gain trim about
8,192, the gain correction common to every core (R299), and the offset trim of Table 3.1. -/
def convNum (again ped col pix : Nat) (gainTrim offTrim comp v : Int) : Int :=
  let dif := (v - 200000000) * 1023 - (ped : Int) * 1200000000 - ((col : Int) - 512) * 250000 * 1023
    - ((pix : Int) - 32) * 2000000 * 1023
  8192 * convDen + (2 ^ again : Nat) * 40960 * dif * (8192 + gainTrim) * (1000000 + comp) + offTrim * 2048 * 3069000000000 * 1000000

/-- The code of a sample and its over-range bit (R79). -/
def convCode (again ped col pix : Nat) (gainTrim offTrim comp v : Int) : Nat × Bool :=
  let r := (2 * convNum again ped col pix gainTrim offTrim comp v + convDen) / (2 * convDen)
  ((clampI 0 16383 r).toNat, decide (16384 ≤ r))

/-! ### The averaging window (R82 to R88) -/

/-- The accumulator result of one column's own samples, in order, with `k` skipped and `t` summed (R82, R84, R86). A sample
that was lost (none) keeps its place and is not summed (R81). -/
def window (k t shift gain : Nat) (deg trimerr : Bool) (codes : List (Option (Nat × Bool))) : AccResult :=
  let w := ((codes.drop k).take t).filterMap id
  let early := w.take (t / 2)
  let late := w.drop (t / 2)
  let sum (l : List (Nat × Bool)) := (l.map (·.1)).sum
  { p := (sum early + sum late + (if shift = 0 then 0 else 2 ^ (shift - 1))) >>> shift
    e := sum early, l := sum late, n := w.length, ne := early.length
    ovr := (w.filter (·.2)).length, gain := gain, deg := deg
    under := decide (w.length < t), void := w.isEmpty, trimerr := trimerr }

/-- A single-core channel takes slot `i` of a scan word (R87): its slot's pair of rounds, counted from the start of scanning,
begins in the word and has two whole rounds of it, and in the pair it takes phases 0, 2 and 4 of the first round and 1, 3 and
5 of the second. -/
def slotTaken (g : ScanSeg) (i : Nat) : Bool :=
  let o := g.off + i
  let start := 12 * (o / 12)
  decide (g.off ≤ start) && decide (start + 12 ≤ g.off + g.len) && (if o % 12 < 6 then o % 2 = 0 else o % 2 = 1)

/-- A core takes a sample at a CONV edge: fewer than two of its sampling capacitors are occupied by the samples it began to
convert at the edges `starts`, or still holds for them, newest first; a conversion takes two CONV cycles (R80, R81). -/
def coreTakes (starts : List Nat) (t : Nat) : Bool := ((starts.take 2).filter (fun s => t < s + 2)).length < 2

/-- The edge at which a core begins to convert a sample that it takes at edge `t`. -/
def coreStart (starts : List Nat) (t : Nat) : Nat := max t (match starts with | s :: _ => s + 2 | [] => 0)

/-- The slots of a scan in order, for a channel on two cores or on one, whose capacitors stand as given: how they stand afterwards,
and of each slot the phase, whether the channel takes it (R87), and whether its core has room for it (R80, R81). -/
def scanRun (single : Bool) (caps : List (List Nat)) (scan : List ScanSeg) : List (List Nat) × List (Nat × Bool × Bool) :=
  let slots := scan.flatMap (fun g => (List.range g.len).map (fun i => (g.edge + i + 1, g.off + i, !single || slotTaken g i)))
  let r := slots.foldl (fun (a : List (List Nat) × List (Nat × Bool × Bool)) e =>
    let core := if single then 0 else e.2.1 % 2
    let starts := a.1.getD core []
    if !e.2.2 then (a.1, (e.2.1 % 6, false, false) :: a.2)
    else if coreTakes starts e.1 then (fillSet [] a.1 core (coreStart starts e.1 :: starts.take 1), (e.2.1 % 6, true, true) :: a.2)
    else (a.1, (e.2.1 % 6, true, false) :: a.2)) (caps, [])
  (r.1, r.2.reverse)

/-- The slots of a row's scan. -/
def scanSamples (single : Bool) (caps : Caps) (scan : List ScanSeg) : List (Nat × Bool × Bool) :=
  (scanRun single (if single then caps.single else caps.full) scan).2

/-- The capacitors after a scan. -/
def Caps.after (caps : Caps) (scan : List ScanSeg) : Caps :=
  { full := (scanRun false caps.full scan).1, single := (scanRun true caps.single scan).1 }

/-- The own samples of a phase: for each, the number of its slot among the phase's slots in the row, and whether it is lost. -/
def ownSamples (samples : List (Nat × Bool × Bool)) (ph : Nat) : List (Nat × Bool) :=
  ((samples.filter (fun e => e.1 = ph)).zipIdx.filter (fun e => e.1.2.1)).map (fun e => (e.2, !e.1.2.2))

/-- The result of a column whose channel does not convert or is out of service (R93, R439): it has received none of its samples by
the row's end, so it carries UNDER with VOID (R86). -/
def voidResult (gain : Nat) (deg trimerr : Bool) : AccResult :=
  { p := 0, e := 0, l := 0, n := 0, ne := 0, ovr := 0, gain := gain, deg := deg, under := true, void := true
    trimerr := trimerr }

/-- The trim map index of a channel's phase (R94). -/
def trimIndex (chan phase : Nat) : Nat := 6 * chan + phase

/-- The trim map column of a channel's phase (Table 2.1). -/
def trimColumn (chan phase : Nat) : Nat := if phase < 5 then 5 * chan + phase else 2560 + chan

/-- The bytes of a delivered row that lie in a memory from `lo`. -/
def trimSlice (mem : Memory) (lo : Nat) : Memory :=
  (mem.filter (fun c => lo ≤ c.1 && c.1 < lo + 2464)).map (fun c => (c.1 - lo, c.2))

/-- The DRAM offset of the trim map's master copy in force. -/
def Die.trimBase (x : Die) : Nat := x.get F.TRM_MAP_BASE_BASE * 4096

/-- A byte run of a memory replaced. -/
def Memory.patch (m : Memory) (a : Nat) (bs : List Byte) : Memory :=
  (bs.foldl (fun (acc : Memory × Nat) b => (acc.1.write acc.2 b, acc.2 + 1)) (m, a)).1

/-- The bytes of a row as they are delivered (R95 to R97): from the DRAM copy at `src`, or from the SRAM, with the words of the
bypass list from the master copy. -/
def Die.trimBytes (x : Die) (mem : Memory) (src : Option Nat) (row : Nat) : Memory :=
  match src with
  | some base => trimSlice mem (base + row * 2464)
  | none =>
    (x.trm.bypass.filter (fun w => w / 308 = row)).foldl (fun m w => m.patch (w % 308 * 8) (mem.readBytes (x.trimBase + w * 8) 8))
      (trimSlice x.trm.sram (row * 2464))

/-- The pixel trim of an index in a delivered row, and whether it carries TRIMERR (R95, R96). A ring that was not delivered, with
TRM_CTRL.EN at 0, holds code 32 and carries none. -/
def trimEntry (t : TrimRow) (k : Nat) : Nat × Bool :=
  if !t.on then (32, false)
  else if t.bad.contains (k / 10) then (32, true)
  else (bits (t.data.readLE (k / 10 * 8) 8) (6 * (k % 10)) 6, false)

/-- The column bias trim of index `i` of cluster `c` (CLU_CBIAS_k). -/
def Die.colBias (x : Die) (c i : Nat) : Nat :=
  if i % 2 = 0 then x.get (F.CLU_CBIAS_EVEN c (i / 2)) else x.get (F.CLU_CBIAS_ODD c (i / 2))

/-- The gain and offset trims of a core (CLU_CTRIM0_j, CLU_CTRIM1_j). -/
def Die.coreTrim (x : Die) (c j core : Nat) : Int × Int :=
  if core = 0 then (x.getS (F.CLU_CTRIM0_GAIN c j), x.getS (F.CLU_CTRIM0_OFFSET c j))
  else (x.getS (F.CLU_CTRIM1_GAIN c j), x.getS (F.CLU_CTRIM1_OFFSET c j))

/-- A cluster as the rows that start now see it. -/
def Die.cluRow (x : Die) (c : Nat) : CluRow :=
  { converts := x.converts c
    out0 := x.get (F.CLU_CORE0_OUT_OUT c)
    out1 := x.get (F.CLU_CORE1_OUT_OUT c)
    void := maskOf 16 (fun j => x.chanVoid c j)
    spareFor := match x.spareOn c with | some (k, true) => some k | _ => none }

/-- The core that converts a phase: by its parity at full rate; the remaining core of a degraded channel; the
low-power core otherwise (R80, R87, R88, R90). -/
def convCore (r : OpenRow) (out0 out1 : Bool) (phase : Nat) : Nat :=
  if out0 then 1 else if out1 then 0 else if r.lpm then r.lpCore else phase % 2

/-- The six results of local channel `j` of cluster `c` for a row (R78 to R90), from what AIN shows at the phase's slots;
`full` and `single` are the row's samples for a channel on two cores and on one. -/
def Die.chanResults (x : Die) (r : OpenRow) (full single : List (Nat × Bool × Bool)) (c j : Nat) (k : CluRow)
    (volts : List (List Int)) : List AccResult :=
  let u := if k.spareFor = some j then 16 else j
  let out0 := k.out0.testBit u
  let out1 := k.out1.testBit u
  let deg := out0 != out1
  let skip := if deg then r.skip / 2 else r.skip
  let cnt := if deg then r.cnt / 2 else r.cnt
  (List.range 6).map (fun ph =>
    let (pix, err) := trimEntry r.trims (trimIndex (16 * c + j) ph)
    if !k.converts || k.void.testBit j || (out0 && out1) then voidResult r.gain deg err
    else
      let core := convCore r out0 out1 ph
      let z := { x with live := r.regs }
      let (gt, ot) := z.coreTrim c u core
      let conv := convCode (z.get (F.ACB_GAIN_AGAIN r.gain)) (z.get (F.ACB_GAIN_PED r.gain)) (z.colBias c (6 * j + ph)) pix gt ot
        r.comp
      let seen := volts.getD ph []
      let own := ownSamples (if out0 || out1 || r.lpm then single else full) ph
      let codes := (own.filter (fun e => e.1 < seen.length)).map (fun e => if e.2 then none else some (conv (seen.getD e.1 0)))
      window skip cnt r.shift r.gain deg err codes)

/-- The results of every channel in use, in channel order. -/
def Die.rowResults (x : Die) (r : OpenRow) (volts : List (List (List Int))) : List (List AccResult) :=
  let full := scanSamples false r.caps r.scan
  let single := scanSamples true r.caps r.scan
  (List.range (16 * r.clus.length)).map (fun ch =>
    match r.clus[ch / 16]? with
    | some k => x.chanResults r full single (ch / 16) (ch % 16) k (volts.getD ch [])
    | none => [])

/-- Local channel `j` runs at full rate or in low-power mode in a row: it converts, and no core of it is out of service. -/
def CluRow.whole (k : CluRow) (j : Nat) : Bool :=
  let u := if k.spareFor = some j then 16 else j
  k.converts && !k.void.testBit j && !k.out0.testBit u && !k.out1.testBit u

/-- A region's UNDER results: those of channels at full rate or in low-power mode are counted, and the first of a frame, of any
channel, raises WIN_UNDER (R86). -/
def Die.countUnder (x : Die) (row : OpenRow) (chans : List (List AccResult)) (r : Nat) : Die :=
  let own := (((chans.zipIdx).drop (128 * r)).take 128).map (fun e => (e.2, (e.1.filter (·.under)).length))
  let whole (ch : Nat) : Bool := match row.clus[ch / 16]? with | some k => k.whole (ch % 16) | none => false
  let n := ((own.filter (fun e => whole e.1)).map (·.2)).sum
  let y := if n = 0 then x else x.count (F.ACB_UNDER_CNT_COUNT r) n
  if own.all (fun e => e.2 = 0) || y.acb.underSeen.contains (row.frame, r) then y
  else (y.onAcb (fun a => { a with underSeen := a.underSeen ++ [(row.frame, r)] })).fire (185 + 2 * r)

/-- A region's armed capture takes its pixel's result when the row holds it (ACB_CAP_CTRL). -/
def Die.takeCapture (x : Die) (row : AccRow) (r : Nat) : Die :=
  let col := x.get (F.ACB_CAP_CTRL_COL r)
  let ch := if col < 2560 then col / 5 else col - 2560
  let ph := if col < 2560 then col % 5 else 5
  if x.acb.captures.contains r && x.get (F.ACB_CAP_CTRL_ROW r) = row.row then
    match row.chans[ch]? with
    | none => x
    | some l =>
      match l[ph]? with
      | none => x
      | some a =>
        let y := x.onAcb (fun b => { b with captures := b.captures.filter (· != r) })
        let y := (((y.set (F.ACB_CAP_CTRL_DONE r) 1).set (F.ACB_CAP_E_SUM r) a.e).set (F.ACB_CAP_L_SUM r) a.l)
        let y := (((y.set (F.ACB_CAP_P_N r) a.n).set (F.ACB_CAP_P_P r) a.p).set (F.ACB_CAP_F_NE r) a.ne)
        let y := ((y.set (F.ACB_CAP_F_GAIN r) a.gain).set (F.ACB_CAP_F_OVR r) a.ovr).setB (F.ACB_CAP_F_TRIMERR r) a.trimerr
        (((y.setB (F.ACB_CAP_F_VOID r) a.void).setB (F.ACB_CAP_F_UNDER r) a.under).setB (F.ACB_CAP_F_DEG r) a.deg).set
          (F.ACB_CAP_FRAME_FRAME r) row.frame
  else x

/-- A frame is completed: it has ended, and none of its rows has open windows. -/
def Die.frameClosed (x : Die) (n : Nat) : Bool :=
  !(x.rake.frameOpen && x.frame.num = n) && !x.acb.rows.any (fun r => r.frame = n)

/-- The over-range counts of the frames that are completed, shown and judged (ACB_OVR_CNT, event 177). -/
def Die.closeOvr (x : Die) : Die :=
  (x.acb.ovr.filter (fun e => x.frameClosed e.1)).foldl (fun y e =>
    let z := (y.set F.ACB_OVR_CNT_COUNT (min e.2 0xFFFFFFFF)).onAcb (fun a => { a with ovr := a.ovr.filter (fun f => f.1 != e.1) })
    if x.get F.ACB_OVR_LIM_LIMIT != 0 && x.get F.ACB_OVR_LIM_LIMIT < e.2 then z.fire 177 else z) x

/-- The regions in use. -/
def Die.regions (x : Die) : List Nat := List.range (x.get F.SEQ_ARRAY_NCLU_M1 / 8 + 1)

/-- Frame `n` is one of the last two begun and has been abandoned or lost: no further row of it enters the Sieve. -/
def Die.frameLost (x : Die) (n : Nat) : Bool :=
  if x.frame.num = n then x.frame.abandoned else x.prevFrame.num = n && x.prevFrame.abandoned

/-! ### Scanning (R56, R57) -/

/-- The samples that fall within `cycles` SEQC cycles from here: at the CONV edges after this instant, up to the end. -/
def Die.scanPart (x : Die) (cycles : Nat) : List ScanSeg :=
  let r := x.rake
  let lo := r.cyc / 3 + 1
  let hi := (r.cyc + cycles) / 3
  let first := max lo r.next
  (match r.tail with
    | some (e, o) => if e ≤ hi then [⟨e - 1, o, 1⟩] else []
    | none => []) ++
  (if r.scanning && first ≤ hi then [⟨first - 1, r.off, hi + 1 - first⟩] else [])

/-- The samples of `cycles` SEQC cycles belong to the row that is open (R57). -/
def Die.addScan (x : Die) (cycles : Nat) : Die :=
  let l := x.scanPart cycles
  if l.isEmpty then x
  else if x.rake.frameOpen && x.rake.row.isSome then
    x.onAcb (fun a => match a.rows.getLast? with
      | some r =>
        if r.frame = x.frame.num && some r.row = x.rake.row then
          { a with rows := a.rows.dropLast ++ [{ r with scan := r.scan ++ l }] }
        else a
      | none => a)
  else x

/-- SEQC cycles go by: the scan goes on over them. -/
def Die.pass (x : Die) (cycles : Nat) : Die :=
  let l := x.scanPart cycles
  let taken := (l.map (·.len)).sum - (match x.rake.tail with | some (e, _) => if e ≤ (x.rake.cyc + cycles) / 3 then 1 else 0 | none => 0)
  { x with rake := { x.rake with cyc := x.rake.cyc + cycles, off := x.rake.off + taken, caps := x.rake.caps.after l
                                 tail := x.rake.tail.filter (fun e => (x.rake.cyc + cycles) / 3 < e.1) } }

/-- The time that a WAIT_FRAME word has waited goes by, at 0.6 SEQC cycles a PERI cycle of the model's time: a scan that runs on
takes its samples, and they belong to the open row. -/
def Die.waitSoFar (x : Die) (now : Nat) : Die :=
  if x.rakeRuns && 7 ≤ x.rake.begun && x.rake.waitAt < now && (x.rake.scanning || x.rake.tail.isSome) then
    let n := (now - x.rake.waitAt) * 3 / 5
    let y := (x.addScan n).pass n
    { y with rake := { y.rake with waitAt := now } }
  else x

/-- WINDOWS_CLOSE (R85): the oldest open row's results are formed and wait at the Sieve's entry; the samples that a scan has gone on
taking in a WAIT_FRAME word are among them. -/
def execWindowsClose (d : DieId) (cycles : Nat) (volts : List (List (List Int))) (s : State) :
    Host.Outcome State Fault Refusal :=
  onDie d s fun env x =>
    let x := x.waitSoFar env.now
    match x.acb.rows with
    | [] => x
    | r :: rest =>
      let chans := x.rowResults r volts
      let row : AccRow := { row := r.row, frame := r.frame, gain := r.gain, shift := r.shift, chans := chans }
      let n := (chans.map (fun l => (l.map (·.ovr)).sum)).sum
      let y := x.onAcb (fun a => { a with rows := rest, ovr := a.ovr.map (fun e => if e.1 = r.frame then (e.1, e.2 + n) else e) })
      let y := y.regions.foldl (fun y g =>
        ((y.set (F.ACB_CLOSE_CYCLES g) (min cycles 65535)).countUnder r chans g).takeCapture row g) y
      (if y.frameLost r.frame then y else { y with sieve := { y.sieve with waiting := y.sieve.waiting ++ [row] } }).closeOvr

/-! ### Blanking checks (R91) -/

/-- The check levels of R91. -/
def checkLevel (i : Nat) : Nat := 2048 + 4096 * (i % 4)

/-- A blanking word of at least 2.0 µs, 300 SEQC cycles, starts a check round (R91). That CHK_STALE ends here alone, and not
as the Rake stops or CHK_EN is written 0, is the model's own choice (log entry 93). -/
def Die.startRound (x : Die) (cycles now : Nat) : Die :=
  if x.on F.ACB_CTRL_CHK_EN && x.on F.ACB_CTRL_EN && 300 ≤ cycles then
    (x.onAcb (fun a => { a with round := some a.level, level := (a.level + 1) % 4, roundAt := now })).cond 180 false
  else x

/-- A core takes part in the round: in service, its channel not failed, and not powered down by low-power mode, which leaves it no
power to convert with: R91 speaks of each core and does not say what a round does with such a one, so that is the model's own
choice (log entry 93). -/
def Die.coreChecked (x : Die) (c j core : Nat) : Bool :=
  !x.coreOut c j core && !(x.cluOf c).failed.contains j && !(x.cluOf c).removing.contains (j, core) &&
    !(x.on F.ACB_MODE_LPM && !x.coreOut c j (1 - core) && x.get F.ACB_MODE_LPCORE != core)

/-- How far the sum of a core's eight conversions lies from eight times the level. -/
def checkDev (level sum : Nat) : Nat := (sum - 8 * level) + (8 * level - sum)

/-- A failed check reported (R91, CLU_CHK_STAT); that LAST_ERR takes the mean's deviation rounded down is the model's own
choice (log entry 93). -/
def Die.noteCheck (x : Die) (c j core dev : Nat) : Die :=
  ((((x.count (F.CLU_CHK_STAT_FAILS c)).set (F.CLU_CHK_STAT_LAST_ERR c) (min 255 (dev / 8))).set
    (F.CLU_CHK_STAT_LAST_CORE c) core).set (F.CLU_CHK_STAT_LAST_CH c) j).fire (193 + 4 * c)

/-- One channel's check judged (R91): a core that failed leaves service, and with both failed the channel has failed as well. -/
def Die.judgeChannel (x : Die) (c level now j : Nat) (sums : Nat × Nat) : Die :=
  let tol := 8 * x.get F.ACB_CHK_TOL
  let d0 := checkDev level sums.1
  let d1 := checkDev level sums.2
  let f0 := x.coreChecked c j 0 && tol < d0
  let f1 := x.coreChecked c j 1 && tol < d1
  let y := if f0 then x.noteCheck c j 0 d0 else x
  let y := if f1 then y.noteCheck c j 1 d1 else y
  if !x.on F.ACB_CTRL_AUTOCORE then y
  else if f0 && f1 then
    let z := (y.resError 1 (coreInst c j 0) 1 now).resError 1 (coreInst c j 1) 1 now
    ((z.failChannel c j 1 now).removeCore c j 0 now).removeCore c j 1 now
  else if f0 then (y.resError 1 (coreInst c j 0) 1 now).removeCore c j 0 now
  else if f1 then (y.resError 1 (coreInst c j 1) 1 now).removeCore c j 1 now
  else y

/-- CHECK_ROUND_END (R91): each core's mean is judged against the level of the round. -/
def execCheckRoundEnd (d : DieId) (c : Fin 32) (sums : CheckSums) (s : State) : Host.Outcome State Fault Refusal :=
  onDie d s fun env x =>
    match x.acb.round with
    | none => x
    | some i =>
      if !x.converts c.val then x
      else (List.range 17).foldl (fun y j =>
        match sums[j]? with
        | some v => y.judgeChannel c.val (checkLevel i) env.now j v
        | none => y) x

/-- CHK_STALE (R91): no round for 1 s while the Rake runs with CHK_EN set. -/
def execChkStale (d : DieId) (s : State) : Host.Outcome State Fault Refusal :=
  onDie d s fun _ x => if x.rakeRuns && x.on F.ACB_CTRL_CHK_EN then x.cond 180 true else x

/-! ### Requests of the cluster pages -/

/-- A request to a page's block: while a reset of the block waits it takes none (R36). -/
def Die.ask (x : Die) (p : Nat) (f : Die → Die) : Die := if x.takes p then f x else x.accErr p

/-- CLU_CORE_REQ.REMOVE: the core leaves service as by an error with cause host request (R89, Table 15.1). -/
def Die.coreRequest (x : Die) (c ch core now : Nat) : Die :=
  if 16 < ch || 1 < core then x.accErr (0x80 + c)
  else
    let y := (x.set (F.CLU_CORE_REQ_CH c) ch).set (F.CLU_CORE_REQ_CORE c) core
    if y.coreOut c ch core then y else (y.resError 1 (coreInst c ch core) 7 now).removeCore c ch core now

/-- CLU_CORE_REQ.RETURN: the core returns at the next FRAME_START (R89). -/
def Die.coreBack (x : Die) (c ch core : Nat) : Die :=
  if 16 < ch || 1 < core then x.accErr (0x80 + c)
  else
    let y := (x.set (F.CLU_CORE_REQ_CH c) ch).set (F.CLU_CORE_REQ_CORE c) core
    if y.coreOut c ch core || (y.cluOf c).removing.contains (ch, core) then
      (y.onClu c (fun k => { k with returning := k.returning.filter (· != (ch, core)) ++ [(ch, core)] })).onSpr
        (fun s => s.remove 1 (coreInst c ch core))
    else y

/-- CLU_GRAFT.GRAFT: the spare is grafted onto channel `ch`; ignored with ACC_ERR while it is taken (R92), and in a cluster
that does not convert: R439 says that its channels are never grafted and not what becomes of the request, so ignoring it with
ACC_ERR is the model's own choice (log entry 93). A spare that is out of service leaves the request without effect and without
ACC_ERR: the model's own choice too (log entry 93). -/
def Die.graftRequest (x : Die) (c ch : Nat) : Die :=
  if 15 < ch then x.accErr (0x80 + c)
  else if x.on (F.CLU_GRAFT_ACTIVE c) || !x.converts c then x.accErr (0x80 + c)
  else
    let y := x.set (F.CLU_GRAFT_REQCH c) ch
    if y.spareFree c then y.decideGraft c ch 1 else y

/-- CLU_GRAFT.RELEASE: the spare is released at the next FRAME_START (R93). -/
def Die.releaseRequest (x : Die) (c : Nat) : Die := x.releaseDue c

/-- ACB_GANG.ARM: every CLU page of a cluster in use whose commit is not pending is armed for the next frame boundary
(R103). -/
def Die.gangArm (x : Die) : Die :=
  x.clusters.foldl (fun x c =>
    if x.commitPending (0x80 + c) then x
    else (x.set (F.COMMIT_BOUNDARY (0x80 + c)) 0).set (F.COMMIT_STAT_PENDING (0x80 + c)) 1) x

/-- ACB_CAP_CTRL.ARM: the next result of the pixel named is captured; a column outside the region is rejected. -/
def Die.armCapture (x : Die) (r row col : Nat) : Die :=
  if (640 * r ≤ col ∧ col ≤ 640 * r + 639 ∨ 2560 + 128 * r ≤ col ∧ col ≤ 2560 + 128 * r + 127) ∧ row ≤ 2047 then
    (((x.set (F.ACB_CAP_CTRL_ROW r) row).set (F.ACB_CAP_CTRL_COL r) col).set (F.ACB_CAP_CTRL_DONE r) 0).onAcb
      (fun a => { a with captures := a.captures.filter (· != r) ++ [r] })
  else x.accErr (0x24 + r)

/-- CORE_REMOVE (R89). -/
def execCoreRemove (d : DieId) (c : Fin 32) (ch core : Nat) (s : State) : Host.Outcome State Fault Refusal :=
  onDie d s fun env x => x.ask (0x80 + c.val) (fun x => x.coreRequest c.val ch core env.now)

/-- CORE_RETURN (R89). -/
def execCoreReturn (d : DieId) (c : Fin 32) (ch core : Nat) (s : State) : Host.Outcome State Fault Refusal :=
  onDie d s fun _ x => x.ask (0x80 + c.val) (fun x => x.coreBack c.val ch core)

/-- CHANNEL_GRAFT (R92). -/
def execChannelGraft (d : DieId) (c : Fin 32) (ch : Nat) (s : State) : Host.Outcome State Fault Refusal :=
  onDie d s fun _ x => x.ask (0x80 + c.val) (fun x => x.graftRequest c.val ch)

/-- CHANNEL_RELEASE (R93). -/
def execChannelRelease (d : DieId) (c : Fin 32) (s : State) : Host.Outcome State Fault Refusal :=
  onDie d s fun _ x => x.ask (0x80 + c.val) (fun x => x.releaseRequest c.val)

/-- GANG_ARM (R103). -/
def execGangArm (d : DieId) (s : State) : Host.Outcome State Fault Refusal := onDie d s fun _ x => x.gangArm

/-- ACB_CAPTURE_ARM (ACB_CAP_CTRL). -/
def execAcbCaptureArm (d : DieId) (r : Fin 4) (row col : Nat) (s : State) : Host.Outcome State Fault Refusal :=
  onDie d s fun _ x => x.ask (0x24 + r.val) (fun x => x.armCapture r.val row col)

/-! ### The trim map (R94 to R99, R104) -/

/-- The trim map's state changed. -/
def Die.onTrm (x : Die) (f : Trm → Trm) : Die := { x with trm := f x.trm }

/-- One row of the SRAM overwritten with the row of the copy at `base` (R97). -/
def trimCopyRow (sram mem : Memory) (base row : Nat) : Memory :=
  let lo := row * 2464
  sram.filter (fun c => c.1 < lo) ++ (trimSlice mem (base + lo)).map (fun c => (c.1 + lo, c.2)) ++
    sram.filter (fun c => lo + 2464 ≤ c.1)

/-- The bytes of the master copy at `base`, as the SRAM holds them: addresses counted from the start of the map. -/
def trimCopy (mem : Memory) (base : Nat) : Memory :=
  (mem.filter (fun c => base ≤ c.1 && c.1 < base + 5046272)).map (fun c => (c.1 - base, c.2))

/-- Where the rows are delivered from: the base of a switch under way, the master copy while the SRAM is stale, or
the SRAM (R97, R104). -/
def Die.trimSource (x : Die) : Option Nat :=
  match x.trm.switching with
  | some b => some b
  | none => if x.trm.stale then some x.trimBase else none

/-- A word's SRAM error noted: counted and reported; an uncorrectable one is a fault of its word (R96, Table 15.1). -/
def Die.noteTrim (x : Die) (row word now : Nat) : Ecc → Die
  | .clean => x
  | .corrected =>
    ((((x.count (F.ERR_CNT_CORR 0x22)).set F.TRM_ERR_ADDR_UNCORR 0).set F.TRM_ERR_ADDR_ROW row).set
      F.TRM_ERR_ADDR_WORD word).fire 161
  | .uncorrectable =>
    ((((((x.count (F.ERR_CNT_UNCORR 0x22)).set F.TRM_ERR_ADDR_UNCORR 1).set F.TRM_ERR_ADDR_ROW row).set
      F.TRM_ERR_ADDR_WORD word).onTrm (fun t => { t with invalid := t.invalid ++ [row * 308 + word] })).fire 162).resError 7
      (row * 308 + word) 5 now

/-- A word goes on the bypass list while that has room (R96). -/
def Die.bypassWord (x : Die) (w : Nat) : Die :=
  if x.trm.bypass.contains w || 64 ≤ x.trm.bypass.length then x
  else ((x.onTrm (fun t => { t with bypass := t.bypass ++ [w] })).set F.TRM_BYPASS_USED (x.trm.bypass.length + 1)).markGraft

/-- A rewritten word reads well again: its fault was transient (R96). -/
def Die.trimWordGood (x : Die) (w now : Nat) : Die :=
  match x.resource? 7 w with
  | some r => if r.lasting then x else (x.noteTransient 7 w now).resBack 7 w
  | none => x

/-- The SRAM has been written whole: the words that were to be rewritten read well again. -/
def Die.trimWordsGood (x : Die) (now : Nat) : Die :=
  (x.spr.inventory.filter (fun r => r.type = 7)).foldl (fun y r => y.trimWordGood r.inst now) x

/-- The words of a row that cannot be delivered from the SRAM. -/
def badWords (row : Nat) (errs : List (Nat × Ecc)) (invalid bypass : List Nat) : List Nat :=
  ((errs.filter (fun e => e.2 = Ecc.uncorrectable)).map (·.1)) ++
    ((invalid.filter (fun w => w / 308 = row && !bypass.contains w)).map (· % 308))

/-- A row copied into the SRAM as it goes, while a switch or a re-copy runs (R97, R104). -/
def Die.copyTrimRow (x : Die) (mem : Memory) (base row : Nat) : Die :=
  if x.trm.copied.contains row || x.get F.SEQ_ARRAY_ROWS_M1 < row then x
  else
    (x.onTrm (fun t => { t with sram := trimCopyRow t.sram mem base row, copied := t.copied ++ [row]
                                invalid := t.invalid.filter (fun w => w / 308 != row) })).set F.TRM_SWITCH_ROWS_LEFT
      (x.get F.TRM_SWITCH_ROWS_LEFT - 1)

/-- The first row outside the window that a copy under way has not written. -/
def Die.nextOutside (x : Die) : Option Nat :=
  let a := x.get F.SEQ_WIN_ROW0
  let b := a + x.get F.SEQ_WIN_ROWS_M1
  (List.range (x.get F.SEQ_ARRAY_ROWS_M1 + 1)).find? (fun r => (r < a || b < r) && !x.trm.copied.contains r)

/-- The next row's delivery into the shadow rings begins (R95); `errs` are the SRAM words that do not read clean.
While a switch runs the row is copied as it goes, and with it one row outside the window (R97; log entry 94). -/
def Die.deliverTrims (x : Die) (mem : Memory) (row : Nat) (errs : List (Nat × Ecc)) (now : Nat) : Die :=
  let src := x.trimSource
  let on := x.on (F.CTRL_EN 0x22)
  let errs := if on then errs.filter (fun e => !x.trm.bypass.contains (row * 308 + e.1)) else []
  let y := if src.isSome then x else errs.foldl (fun x e => x.noteTrim row e.1 now e.2) x
  let bad := if src.isSome then [] else badWords row errs x.trm.invalid x.trm.bypass
  let y := y.onTrm (fun t => { t with shadow := { row := row, data := if on then x.trimBytes mem src row else [], bad := bad, on := on } })
  match src with
  | some base =>
    if y.on F.TRM_SWITCH_ACTIVE then
      let z := y.copyTrimRow mem base row
      match z.nextOutside with | some r => z.copyTrimRow mem base r | none => z
    else y
  | none => y

/-- The channels in use that have an entry in the words of a row. -/
def Die.wordChannels (x : Die) (words : List Nat) : List Nat :=
  ((words.flatMap (fun w => [10 * w / 6, (10 * w + 5) / 6, (10 * w + 9) / 6])).filter (fun ch =>
    decide (ch < 512) && x.cluInUse (ch / 16))).eraseDups

/-- The rings of the next row come into force: a channel whose ring holds an uncorrectable entry in three rows in a row has
failed, or the spare where that stands in for it (Table 15.1; log entry 93). -/
def Die.ringFaults (x : Die) (now : Nat) : Die :=
  let runs := if x.trm.shadow.row = x.trm.ring.row + 1 then x.trm.runs else []
  let runs := (x.wordChannels x.trm.shadow.bad).map (fun ch => (ch, ((runs.find? (fun e => e.1 = ch)).map (·.2)).getD 0 + 1))
  (runs.filter (fun e => e.2 = 3)).foldl (fun y e =>
    let c := e.1 / 16
    let j := if y.on (F.CLU_GRAFT_ACTIVE c) && y.get (F.CLU_GRAFT_CH c) = e.1 % 16 then 16 else e.1 % 16
    if (y.cluOf c).failed.contains j then y else y.failChannel c j 5 now) (x.onTrm (fun t => { t with runs := runs }))

/-- At a ROW_START the shadow positions become the rings in force; words not delivered by then read code 32 with
TRIMERR, LATE is raised and the row counted (R95). A ring that comes into force with TRM_CTRL.EN at 0 holds code 32. -/
def Die.swapTrims (x : Die) (late : List Nat) (now : Nat) : Die :=
  let on := x.on (F.CTRL_EN 0x22) && x.trm.shadow.on
  let late := if on then late else []
  let y := (x.ringFaults now).onTrm (fun t => { t with ring := { t.shadow with bad := t.shadow.bad ++ late, on := on } })
  if late.isEmpty then y else (y.count F.TRM_LATE_CNT_COUNT).fire 163

/-- A new trim map's base takes effect at a frame boundary: the switch begins (R97). -/
def Die.beginSwitch (x : Die) : Die :=
  ((x.onTrm (fun t => { t with switching := some (x.get F.TRM_STAGE_BASE_BASE * 4096), copied := [] })).set F.TRM_SWITCH_ACTIVE 1).set
    F.TRM_SWITCH_ROWS_LEFT (x.get F.SEQ_ARRAY_ROWS_M1 + 1)

/-- TRM_LOAD.GO: a full load begins; accepted only while the Rake is stopped (R99). -/
def Die.trimLoad (x : Die) : Die :=
  if x.rakeRuns || !x.takes 0x22 then x.accErr 0x22
  else ((x.onTrm (fun t => { t with loading := true })).set F.TRM_LOAD_ERR 0).set (F.STAT_IDLE 0x22) 0

/-- TRM_LOAD (R99). -/
def execTrmLoad (d : DieId) (s : State) : Host.Outcome State Fault Refusal := onDie d s fun _ x => x.trimLoad

/-- LOAD_DONE (R99, R104): the SRAM holds the master copy again; words whose DRAM read was uncorrectable are held
invalid. -/
def Die.loadDone (x : Die) (mem : Memory) (bad : List Nat) (now : Nat) : Die :=
  if x.trm.loading || (x.trm.stale && x.on F.TRM_SWITCH_ACTIVE) then
    let y := x.onTrm (fun t => { t with sram := trimCopy mem x.trimBase, copied := [], stale := false, loading := false, invalid := bad })
    let y := y.trimWordsGood now
    ((((y.setB F.TRM_LOAD_ERR (!bad.isEmpty)).set F.TRM_SWITCH_ACTIVE 0).set F.TRM_SWITCH_ROWS_LEFT 0).set
      (F.STAT_IDLE 0x22) 1).fire 164
  else x

/-- LOAD_DONE. -/
def execLoadDone (d : DieId) (bad : List Nat) (s : State) : Host.Outcome State Fault Refusal :=
  onDie d s fun env x => x.loadDone env.mem bad env.now

/-- SWITCH_DONE (R97): the new map is copied whole and TRM_MAP_BASE takes its base. -/
def execSwitchDone (d : DieId) (s : State) : Host.Outcome State Fault Refusal :=
  onDie d s fun env x =>
    match x.trm.switching with
    | none => x
    | some b =>
      let y := x.onTrm (fun t => { t with sram := trimCopy env.mem b, switching := none, copied := [], stale := false, invalid := [] })
      let y := y.trimWordsGood env.now
      (((y.set F.TRM_MAP_BASE_BASE (b / 4096)).set F.TRM_SWITCH_ACTIVE 0).set F.TRM_SWITCH_ROWS_LEFT 0).fire 165

/-- TRM_REPAIR (R96): an invalid word is rewritten from the master copy; when it fails again it goes on the bypass
list while that has room, as a lasting fault, and REPAIR_FAIL is raised. One that reads well was a transient fault. -/
def execTrmRepair (d : DieId) (row word : Nat) (ok : Bool) (s : State) : Host.Outcome State Fault Refusal :=
  onDie d s fun env x =>
    let w := row * 308 + word
    if !x.trm.invalid.contains w then x
    else
      let off := w * 8
      let y := x.onTrm (fun t => { t with sram := t.sram.patch off (env.mem.readBytes (x.trimBase + off) 8) })
      if ok then (y.onTrm (fun t => { t with invalid := t.invalid.filter (· != w) })).trimWordGood w env.now
      else if y.trm.bypass.contains w then y
      else
        let z := ((y.bypassWord w).fire 166).resError 7 w 5 env.now
        match z.resource? 7 w with
        | some r => if r.lasting then z else z.classLasting r 5 2
        | none => z

end Sys2Proof.Machine
end

