-- ==== Sys2Proof/Machine/Loops.lean ====
section
/-!
DEFINITION. The control loops and the PWM (09_loops_pwm_and_lamps.md, R261 to R275).
-/

namespace Sys2Proof.Machine

/-- The loops' hidden state changed. -/
def Die.onLpc (x : Die) (f : Lpc → Lpc) : Die := { x with lpc := f x.lpc }

/-- A loop's hidden state. -/
def Die.loop (x : Die) (n : Nat) : Loop := x.lpc.loops.getD n {}

/-- A loop's hidden state changed. -/
def Die.onLoop (x : Die) (n : Nat) (f : Loop → Loop) : Die :=
  x.onLpc (fun l => { l with loops := fillSet {} l.loops n (f (x.loop n)) })

/-- The PWM's hidden state changed. -/
def Die.onPwm (x : Die) (f : Pwm → Pwm) : Die := { x with pwm := f x.pwm }

/-- A pair's hidden state. -/
def Die.pair (x : Die) (k : Nat) : PwmPair := x.pwm.pairs.getD k {}

/-- A pair's hidden state changed. -/
def Die.onPair (x : Die) (k : Nat) (f : PwmPair → PwmPair) : Die :=
  x.onPwm (fun p => { p with pairs := fillSet {} p.pairs k (f (x.pair k)) })

/-! ### The PWM -/

/-- Place `m` of the bit set. -/
def bit16 (m : Nat) : BitVec 16 := BitVec.twoPow 16 m

/-- The Cloche owns pair `k` (R275). -/
def Die.cloOwns (x : Die) (k : Nat) : Bool := x.on F.CLO_CTRL_EN && x.get F.CLO_DRV_PAIR = k

/-- The blade heater's loop is loop `n`, and enabled by CLO_HTR (R159, R160). -/
def Die.bladeLoop (x : Die) (n : Nat) : Bool := x.on F.CLO_HTR_EN && x.get F.CLO_HTR_LOOP = n

/-- Loop `n` is enabled. -/
def Die.loopEn (x : Die) (n : Nat) : Bool := x.on (F.LOOP_CFG_EN n) || x.bladeLoop n

/-- An enabled loop other than `n` owns output `m`. -/
def Die.loopOwns (x : Die) (m : Nat) (but : Option Nat := none) : Bool :=
  (List.range 16).any (fun n => some n != but && x.loopEn n && x.get (F.LOOP_CFG_OUT n) = m)

/-- The owner of output `m`: 0 the host, 1 a loop, 2 the Cloche. -/
def Die.ownerOf (x : Die) (m : Nat) : Nat := if x.cloOwns (m / 2) then 2 else if x.loopOwns m then 1 else 0

/-- PWM_OWN brought up to date. -/
def Die.showOwners (x : Die) : Die := (List.range 16).foldl (fun y m => y.set (F.PWM_OWN_OWN m) (x.ownerOf m)) x

/-- What an output's duty, direction and hold are, kept for a wrap of the same PERI cycle, once (R272). -/
def Die.keepDuty (x : Die) (m : Nat) : Die :=
  if x.pwm.fresh.any (fun w => w.out = m) then x
  else x.onPwm (fun p => { p with fresh := p.fresh ++
    [{ out := m, duty := p.duty.getD m 0, rev := x.on (F.PWM_DUTY_SIGN m), low := p.low.getLsbD m }] })

/-- The outputs that a duty written for output `m` drives: in modes 1 and 2 the even output's register serves both (Table 9.3). -/
def Die.drivenBy (x : Die) (m : Nat) : BitVec 16 :=
  if x.get (F.PWM_PAIR_CFG_MODE (m / 2)) = 0 then bit16 m else bit16 (m / 2 * 2) ||| bit16 (m / 2 * 2 + 1)

/-- An output's duty in sixteenths of a cycle and its sign written to its register, for the pair's next wrap (R265,
R272); a whole period of the greatest length, which the register has no room for, shows as the register's largest value. -/
def Die.writeDuty (x : Die) (m sixteenths : Nat) (rev : Bool) : Die :=
  let r := min sixteenths (2 ^ 28 - 1)
  let x := (x.keepDuty (m / 2 * 2)).keepDuty (m / 2 * 2 + 1)
  let y := ((x.set (F.PWM_DUTY_HIGH m) (r / 16)).set (F.PWM_DUTY_FRAC m) r).setB (F.PWM_DUTY_SIGN m) rev
  y.onPwm (fun p => { p with duty := fillSet 0 p.duty m sixteenths, low := p.low &&& ~~~ x.drivenBy m })

/-- The duty, direction and hold of output `m` that a wrap now takes: a duty written in the wrap's own PERI cycle waits for the
wrap after it (R272). -/
def Die.dutyAt (x : Die) (m : Nat) : DutyWas :=
  match x.pwm.fresh.find? (fun w => w.out = m) with
  | some w => w
  | none => { out := m, duty := x.pwm.duty.getD m 0, rev := x.on (F.PWM_DUTY_SIGN m), low := x.pwm.low.getLsbD m }

/-- The 4-bit reversal of a number. -/
def rev4 (j : Nat) : Nat := bits j 0 1 * 8 + bits j 1 1 * 4 + bits j 2 1 * 2 + bits j 3 1

/-- The high cycles of period `j` of a run of 16, for a duty in sixteenths (R272). -/
def highCycles (sixteenths j period : Nat) : Nat :=
  if sixteenths = 0 then 0
  else min period (sixteenths / 16 + (if rev4 (j % 16) < sixteenths % 16 then 1 else 0))

/-- The Cloche's drive (R154): reverse or forward, and the duty as a fraction of 255; none in the brake and at rest. Which
leg closes the blade the spec does not say (log entry 40). -/
def Die.cloDrive (x : Die) : Option (Bool × Nat) :=
  match x.clo.move with
  | some m =>
    let boost := if m.closing then x.get F.CLO_PROF_CLOSE_BOOST_DUTY else x.get F.CLO_PROF_OPEN_BOOST_DUTY
    let run := if m.closing then x.get F.CLO_PROF_CLOSE_RUN else x.get F.CLO_PROF_OPEN_RUN
    if m.seg = 0 then some (m.closing != Config.closesForward, boost)
    else if m.seg = 1 then some (m.closing != Config.closesForward, run) else none
  | none => none

/-- What a wrap of pair `k` takes (R272, R273): the mode, the period and the dead time of its registers, the duties of its
outputs; the segments of the Cloche's pair set its legs (R154, R275). -/
def Die.pairForce (x : Die) (k : Nat) : PwmForce :=
  let span := x.get (F.PWM_PAIR_PER_PER_M1 k) + 1
  let a := x.dutyAt (2 * k)
  let b := x.dutyAt (2 * k + 1)
  let f : PwmForce :=
    { mode := x.get (F.PWM_PAIR_CFG_MODE k), span := span, dt := x.get (F.PWM_PAIR_CFG_DT k), even := a.duty, odd := b.duty
      rev := a.rev, lowA := a.low, lowB := b.low }
  if x.cloOwns k then
    match x.cloDrive with
    | some (rev, d) => { f with mode := 2, even := (2 * d * span * 16 + 255) / 510, rev := rev, lowA := x.pwm.low.getLsbD (2 * k)
                                lowB := x.pwm.low.getLsbD (2 * k + 1) }
    | none => { f with mode := 2, even := 0 }
  else f

/-- The dead time still to run at a wrap before the leg `rev` may be driven (R273; log entry 41). -/
def PwmPair.deadTime (p : PwmPair) (f : PwmForce) : Nat :=
  match p.leg with
  | some was => if was = f.rev then 0 else f.dt - p.lowFor
  | none => 0

/-- When the two outputs of a pair are high in period `j` (Table 9.3, R272): within a bridge the leg driven goes high once `rise`
cycles of the period are over. -/
def PwmForce.waves (f : PwmForce) (j rise : Nat) : (Nat × Nat) × (Nat × Nat) :=
  let h := highCycles f.even j f.span
  let w (low : Bool) (a b : Nat) : Nat × Nat := if low || b ≤ a then (0, 0) else (a, b)
  match f.mode with
  | 0 => (w f.lowA 0 h, w f.lowB 0 (highCycles f.odd j f.span))
  | 1 => (w f.lowA 0 h, w f.lowB (h + f.dt) (f.span - f.dt))
  | _ => if f.rev then ((0, 0), w f.lowB rise h) else (w f.lowA rise h, (0, 0))

/-- A pair's next period (R272, R273): what it takes is in force, and where a leg of a bridge is driven, it is the last driven. -/
def PwmPair.wrap (p : PwmPair) (f : PwmForce) : PwmPair :=
  let j := (p.period + 1) % 16
  let (a, b) := f.waves j (p.deadTime f)
  let driven := a != (0, 0) || b != (0, 0)
  { p with
    period := j, from_ := 0, force := f, waveA := a, waveB := b
    leg := if f.mode != 2 then none else if driven then some f.rev else p.leg
    lowFor := if f.mode != 2 || driven then 0 else p.lowFor + f.span }

/-- A pair's counter starts or restarts in period 0 of its run, at its phase (R271): no wrap, so that what the last one took stays
in force. A dead time under way is kept in whole. -/
def PwmPair.start (p : PwmPair) (phase perM1 : Nat) : PwmPair :=
  let span := perM1 + 1
  let at_ := phase * span / 256
  let rise := max p.waveA.1 (if p.force.mode = 2 then p.waveB.1 else 0)
  let f := { p.force with span := span }
  let (a, b) := f.waves 0 (if rise = 0 then 0 else at_ + rise)
  { p with running := true, period := 0, from_ := at_, force := f, waveA := a, waveB := b }

/-- PWM_WRAP (R272, R273): the pair's new period takes the duties, the mode and the period length written. -/
def execPwmWrap (d : DieId) (k : Fin 8) (s : State) : Host.Outcome State Fault Refusal :=
  onDie d s fun _ x =>
    if !(x.pair k.val).running || !x.on (F.CTRL_EN 0x3A) || x.boot.power = 3 then x
    else x.onPair k.val (fun p => p.wrap (x.pairForce k.val))

/-- The counters of the pairs named start at their phase (R271), and their pins are driven (R315); with the counters disabled nothing starts and ACC_ERR is
raised (log entry 42). -/
def Die.startPairs (x : Die) (val : Nat) : Die :=
  if !x.on (F.CTRL_EN 0x3A) then x.accErr 0x3A
  else (List.range 8).foldl (fun y k =>
    if val.testBit k then
      (y.onPair k (fun p => p.start (y.get (F.PWM_PAIR_CFG_PHASE k)) (y.get (F.PWM_PAIR_PER_PER_M1 k)))).configure
        [13 + 2 * k, 14 + 2 * k]
    else y) x

/-- PWM_START (R271): a write to PWM_START. -/
def execPwmStart (d : DieId) (val : Nat) (s : State) : Host.Outcome State Fault Refusal :=
  onDie d s fun _ x => x.startPairs val

/-- Outputs made fixed-safe (R274); PWM_SAFE bits are never cleared by software. -/
def Die.addSafe (x : Die) (val : Nat) : Die := x.set F.PWM_SAFE_SAFE (x.get F.PWM_SAFE_SAFE ||| (val % 65536))

/-- PWM_SAFE_SET (R274): a W1S write to PWM_SAFE. -/
def execPwmSafeSet (d : DieId) (val : Nat) (s : State) : Host.Outcome State Fault Refusal :=
  onDie d s fun _ x => x.addSafe val

/-- The outputs of a set driven low in the period under way, and held low until they are given a duty again (R274; log
entry 43). -/
def Die.driveLow (x : Die) (set : Nat) : Die :=
  (List.range 8).foldl (fun y k => y.onPair k (fun p => { p with
      force := { p.force with lowA := p.force.lowA || set.testBit (2 * k), lowB := p.force.lowB || set.testBit (2 * k + 1) }
      waveA := if set.testBit (2 * k) then (0, 0) else p.waveA
      waveB := if set.testBit (2 * k + 1) then (0, 0) else p.waveB }))
    (x.onPwm (fun p => { p with
      low := p.low ||| BitVec.ofNat 16 set
      fresh := p.fresh.map (fun w => { w with low := w.low || set.testBit w.out }) }))

/-- The PWM_SAFE outputs driven low (R274). -/
def Die.safeLow (x : Die) : Die := x.driveLow (x.get F.PWM_SAFE_SAFE)

/-- The PWM_SAFE outputs driven off, with SAFE_OFF, event 433 (R274, Table 9.6). -/
def Die.safeOff (x : Die) : Die := x.safeLow.fire 433

/-- Every counter stopped and every output low (R283). -/
def Die.pwmStop (x : Die) : Die :=
  (List.range 8).foldl (fun y k => y.onPair k (fun p => { leg := p.leg })) x

/-! ### Loops -/

/-- Table 9.1: the source and its selector; the blade heater's loop measures THD[CLO_HTR.TSEL] (R159). -/
def Die.loopSource (x : Die) (n : Nat) : Nat × Nat :=
  if x.bladeLoop n then (1, x.get F.CLO_HTR_TSEL) else (x.get (F.LOOP_CFG_SRC n), x.get (F.LOOP_CFG_SEL n))

/-- R262: a field result through a curve. -/
def Die.curve (x : Die) (j value : Nat) : Int :=
  let i := value >>> 12
  let f : Int := (value % 4096 : Nat)
  let c (k : Nat) : Int := x.getS (F.LPC_CURVE_POINT j k)
  c i + asr ((c (i + 1) - c i) * f + 2048) 12

/-- Table 9.1: what loop `n`'s source reads, whether it reports a failed sensor, and the mark by which a newer value is
told; none where it has given nothing. -/
def Die.loopRead (x : Die) (n : Nat) : Option Int × Bool × Nat :=
  let (src, sel) := x.loopSource n
  match src with
  | 0 =>
    let v := x.get (F.FCV_RES_VALUE sel)
    let m : Int := if x.get (F.LOOP_CFG_CURVE n) < 8 then x.curve (x.get (F.LOOP_CFG_CURVE n)) v else (v : Nat)
    let ok := x.on (F.FCV_RES_VALID sel)
    (if ok then some m else none, !ok, x.get (F.FCV_RES_NEW sel))
  | 1 =>
    let k := x.thm.sens.getD sel {}
    (if k.last.isNone then none else some (x.getS (F.THM_SENS_TEMP sel)), x.on (F.THM_SENS_FAIL sel), k.count)
  | 2 =>
    let a := x.on (F.AFE_FPD_FAIL 0)
    let b := x.on (F.AFE_FPD_FAIL 1)
    let bad := match x.get F.AFE_FPD_CFG_SEL with
      | 0 => a
      | 1 => b
      | _ => a || b
    (if x.lpc.frames = 0 then none else some (asr (x.afe.tf + 2) 2), bad, x.lpc.frames)
  | _ => (if x.lpc.host.getD n 0 = 0 then none else some (x.getS (F.LOOP_HOSTM_M n)), false, x.lpc.host.getD n 0)

/-- R265: a duty of `u` / 32,767 written for loop `n`'s output, rounded to the nearest sixteenth of a cycle. -/
def Die.loopDrive (x : Die) (n : Nat) (u : Int) : Die :=
  let m := x.get (F.LOOP_CFG_OUT n)
  let p := x.get (F.PWM_PAIR_PER_PER_M1 (m / 2)) + 1
  let a := u.natAbs * p * 16
  x.writeDuty m ((2 * a + 32767) / (2 * 32767)) (decide (u < 0) && x.get (F.PWM_PAIR_CFG_MODE (m / 2)) = 2)

/-- Loop `n` carries a heater or a cooler (R267); so does the blade heater's (R159). -/
def Die.loopHot (x : Die) (n : Nat) : Bool := x.get (F.LOOP_CFG_KIND n) != 0 || x.bladeLoop n

/-- The output off for a HEATER or TEC loop, SAFE for a GENERAL one (R268, R270); a tripped loop's stays off (R269). -/
def Die.loopRest (x : Die) (n : Nat) : Die :=
  if x.loopHot n || x.bitOf F.LPC_TRIP_TRIP n then x.loopDrive n 0 else x.loopDrive n (x.getS (F.LOOP_SAFE_IMAX_SAFE n))

/-- Loop `n` is shared, and the partner package owns it (R383). -/
def Die.sharedLoop (x : Die) (n : Nat) : Bool := x.pairRole != 0 && !x.on F.PRL_STAT_OWNER && x.bitOf F.PRL_SHARED_LOOP n

/-- Loop `n` is enabled and nothing has stopped it: the hold limit (R268), Hold or Dormant (R270), an orderly stop (Table 10.8), a
partner that owns it (R383). -/
def Die.loopLive (x : Die) (n : Nat) : Bool :=
  x.loopEn n && !(x.loop n).stopped && x.boot.power < 2 && !x.thm.stopping && !x.sharedLoop n

/-- Loop `n` is being evaluated (R261). -/
def Die.loopRuns (x : Die) (n : Nat) : Bool := x.on (F.CTRL_EN 0x39) && x.loopLive n

/-- LPC_RUN.RUN and the LPC's IDLE. -/
def Die.showLoops (x : Die) : Die :=
  (List.range 16).foldl (fun y n => y.setBit F.LPC_RUN_RUN n (x.loopRuns n)) x

/-- MFAULT, event 417. -/
def Die.showMfault (x : Die) : Die := x.cond 417 (x.get F.LPC_RUN_MFAULT != 0)

/-- TRIP, event 418. -/
def Die.showTrip (x : Die) : Die := x.cond 418 (x.get F.LPC_TRIP_TRIP != 0)

/-- The integrator set, and shown in LOOPn_I. -/
def Die.setInteg (x : Die) (n : Nat) (i : Int) : Die :=
  (x.onLoop n (fun l => { l with integ := i })).setS (F.LOOP_I_VALUE n) (satS 32 i)

/-- The enabled shared loops of a package that does not own them are held off, with their integrators at 0 (R383). -/
def Die.holdShared (x : Die) : Die :=
  (List.range 16).foldl (fun y n =>
    if y.sharedLoop n then (if y.loopEn n then y.loopDrive n 0 else y).setInteg n 0 else y) x

/-- The set point: LOOPn_SP, or CLO_HTR.TARGET for the blade heater (Table 9.2). -/
def Die.loopSp (x : Die) (n : Nat) : Int :=
  if x.bladeLoop n then 10 * x.getS F.CLO_HTR_TARGET else x.getS (F.LOOP_SP_VALUE n)

/-- The control law of R264 with the measurement `m`; the answer is u. -/
def Die.control (x : Die) (n : Nat) (m : Int) : Die × Int :=
  let slew : Int := (x.get (F.LOOP_SLEW_VALUE n) : Nat)
  let s0 := x.getS (F.LOOP_SPE_VALUE n)
  let sp := x.loopSp n
  let s := if slew = 0 then sp else clampI (s0 - slew) (s0 + slew) sp
  let e := satS 32 (s - m)
  let l := x.loop n
  let g := x.get (F.LOOP_KD_GSHIFT n)
  let ki := x.getS (F.LOOP_KPKI_KI n)
  let p := x.getS (F.LOOP_KPKI_KP n) * e
  let dd := x.getS (F.LOOP_KD_KD n) * (l.prev.getD m - m)
  let lim : Int := (x.get (F.LOOP_SAFE_IMAX_IMAX n) * 2 ^ g : Nat)
  let i' := clampI (-lim) lim (l.integ + ki * e)
  let q : Int := if g = 0 then 0 else (2 ^ (g - 1) : Nat)
  let v := asr (p + i' + dd + q) g
  let dmin := x.getS (F.LOOP_DLIM_DMIN n)
  let dmax := x.getS (F.LOOP_DLIM_DMAX n)
  let u := clampI dmin dmax v
  let keep := (decide (dmax < v) && decide (0 < ki * e)) || (decide (v < dmin) && decide (ki * e < 0))
  let y := (x.setS (F.LOOP_SPE_VALUE n) s).setB (F.LOOP_U_SAT n) (decide (v < dmin) || decide (dmax < v))
  ((if keep then y else y.setInteg n i').setS (F.LOOP_U_U n) u, u)

/-- An evaluation (R262 to R265, R269). -/
def Die.evaluate (x : Die) (n : Nat) : Die :=
  let (read, failed, mark) := x.loopRead n
  let l := x.loop n
  let fresh := read.isSome && l.seen != some mark
  let stale := if fresh then 0 else l.stale + 1
  let m := if fresh then read.getD 0 else x.getS (F.LOOP_M_VALUE n)
  let outside := decide (m < x.getS (F.LOOP_MLO_LIMIT n)) || decide (x.getS (F.LOOP_MHI_LIMIT n) < m)
  let was := x.bitOf F.LPC_RUN_MFAULT n
  let bad := failed || decide (x.get (F.LOOP_CFG_STALE_MAX n) < stale) || outside || (was && !fresh)
  let trip := decide (x.getS (F.LOOP_MTRIP_LIMIT n) < m)
  let y := (x.onLoop n (fun l => { l with seen := if read.isSome then some mark else l.seen, stale := stale })).set
    (F.LOOP_U_STALE n) (min stale 15)
  let y := (y.setS (F.LOOP_M_VALUE n) m).setBit F.LPC_RUN_MFAULT n bad
  let y := (if trip then y.raise F.LPC_TRIP_TRIP (2 ^ n) else y)
  let off := y.bitOf F.LPC_TRIP_TRIP n
  let (y, u) :=
    if bad then
      match y.get (F.LOOP_CFG_FAULT_ACT n) with
      | 0 => (y, none)
      | 1 => (y.set (F.LOOP_U_U n) (y.get (F.LOOP_SAFE_IMAX_SAFE n)), some (y.getS (F.LOOP_SAFE_IMAX_SAFE n)))
      | _ => (y.set (F.LOOP_U_U n) 0, some 0)
    else let (z, u) := y.control n m; (z, some u)
  let y := y.onLoop n (fun l => { l with prev := some m })
  let y := if off then y.loopDrive n 0 else match u with
    | some v => y.loopDrive n v
    | none => y
  (y.showMfault).showTrip

/-- LOOP_EVALUATION (R261): edges at which the evaluation had not begun are skipped, each with OVERRUN; then the loop is
evaluated. The LP's share of its time, LPC_LOAD.BUSY, is a free value (log entry 44). -/
def execLoopEvaluation (d : DieId) (n : Fin 16) (skipped : Nat) (s : State) : Host.Outcome State Fault Refusal :=
  onDie d s fun _ x =>
    if !x.loopRuns n.val then x
    else
      let y := (List.range (min skipped 65536)).foldl (fun y _ => y.fire 419) (x.count F.LPC_LOAD_OVERRUNS skipped)
      if !y.jobRuns 2 then y
      else
        let (v, y) := y.freeVal 10
        (y.set F.LPC_LOAD_BUSY v).evaluate n.val

/-- LOOP_HOLD_TIMEOUT (R268): the hardware watches an enabled loop whether or not the loops are evaluated. The output goes off, or
to SAFE for a GENERAL loop; HOLD_TMO; the loop waits for EN to be written 1 again. -/
def execLoopHoldTimeout (d : DieId) (n : Fin 16) (s : State) : Host.Outcome State Fault Refusal :=
  onDie d s fun _ x =>
    if !x.loopLive n.val then x
    else
      let y := ((x.loopRest n.val).raise F.LPC_TRIP_TMO (2 ^ n.val)).onLoop n.val (fun l => { l with stopped := true })
      (y.showLoops).fire 420

/-- A W1C write to LPC_TRIP (R268, R269). -/
def Die.clearTrips (x : Die) (val : Nat) : Die :=
  ((List.range 16).foldl (fun y n =>
    let y := if val.testBit n then y.setBit F.LPC_TRIP_TRIP n false else y
    if val.testBit (16 + n) then y.setBit F.LPC_TRIP_TMO n false else y) x).showTrip

/-- LOOP_TRIP_CLEAR (R269). -/
def execLoopTripClear (d : DieId) (val : PendMask) (s : State) : Host.Outcome State Fault Refusal :=
  onDie d s fun _ x =>
    x.clearTrips (clearable (s.hits d val.tie) F.LPC_TRIP_TRIP (bits val.bits 0 16) +
      2 ^ 16 * clearable (s.hits d val.tie) F.LPC_TRIP_TMO (bits val.bits 16 16))

/-- The outputs that a HEATER or TEC loop on output `m` makes fixed-safe (R267). -/
def Die.hotOutputs (x : Die) (m : Nat) : Nat :=
  2 ^ m ||| (if x.get (F.PWM_PAIR_CFG_MODE (m / 2)) = 2 then 2 ^ (m / 2 * 2) ||| 2 ^ (m / 2 * 2 + 1) else 0)

/-- A loop begins with no measurement before it. -/
def Die.loopFresh (x : Die) (n : Nat) : Die :=
  ((x.onLoop n (fun l => { l with prev := none, seen := none, stale := 0, stopped := false })).setBit F.LPC_RUN_MFAULT n
    false).showMfault

/-- R266: loop `n` of a kind may be enabled on output `out`. -/
def Die.loopAllowed (x : Die) (n kind out : Nat) : Bool :=
  let pmode := x.get (F.PWM_PAIR_CFG_MODE (out / 2))
  let bridge := out % 2 = 0 && pmode = 2
  !x.loopOwns out (some n) && !x.cloOwns (out / 2) && (decide (0 ≤ x.getS (F.LOOP_DLIM_DMIN n)) || bridge) &&
    (kind != 2 || bridge) && (out % 2 = 0 || pmode = 0)

/-- R266, R267: a write to LOOPn_CFG. -/
def Die.writeLoopCfg (x : Die) (n val : Nat) : Die :=
  let en := val.testBit 31
  let kind := bits val 28 3
  let act := bits val 26 2
  let src := bits val 24 2
  let sel := bits val 8 5
  let out := bits val 0 4
  let was := x.loopEn n
  let same := x.get (F.LOOP_CFG_KIND n) = kind && x.get (F.LOOP_CFG_FAULT_ACT n) = act && x.get (F.LOOP_CFG_SRC n) = src &&
    x.get (F.LOOP_CFG_CURVE n) = bits val 20 4 && x.get (F.LOOP_CFG_STALE_MAX n) = bits val 16 4 &&
    x.get (F.LOOP_CFG_SEL n) = sel && x.get (F.LOOP_CFG_OUT n) = out
  let range := kind < 3 && act < 3 && (kind = 0 || act != 0) && bits val 20 4 ≤ 8 && (src != 1 || sel ≤ 9)
  if !range || (was && !same) || (en && !was && !x.loopAllowed n kind out) then x.accErr 0x39
  else
    let y := ((((((((x.setB (F.LOOP_CFG_EN n) en).set (F.LOOP_CFG_KIND n) kind).set (F.LOOP_CFG_FAULT_ACT n) act).set
      (F.LOOP_CFG_SRC n) src).set (F.LOOP_CFG_CURVE n) (bits val 20 4)).set (F.LOOP_CFG_STALE_MAX n) (bits val 16 4)).set
      (F.LOOP_CFG_SEL n) sel).set (F.LOOP_CFG_OUT n) out)
    let y := if en && (!was || (x.loop n).stopped) then y.loopFresh n else y
    let y := if en && kind != 0 then y.addSafe (y.hotOutputs out) else y
    (y.holdShared.showLoops).showOwners

/-- LOOP_ENABLE (R266, R267): a write to LOOPn_CFG. -/
def execLoopEnable (d : DieId) (n : Fin 16) (val : Nat) (s : State) : Host.Outcome State Fault Refusal :=
  onDie d s fun _ x => x.writeLoopCfg n.val val

/-- Every loop stops (R270): its output off or SAFE, its integrator cleared; it starts later as a loop newly enabled does. -/
def Die.loopsStop (x : Die) : Die :=
  ((List.range 16).foldl (fun y n =>
    ((if y.loopEn n then y.loopRest n else y).setInteg n 0).onLoop n (fun _ => {})) x).showLoops

/-- A write to LOOPn_HOSTM makes it fresh (Table 9.1). -/
def Die.hostMeasured (x : Die) (n : Nat) : Die :=
  x.onLpc (fun l => { l with host := fillSet 0 l.host n (l.host.getD n 0 + 1) })

/-- The blade heater's loop begins (R159, R267): its output is fixed-safe. -/
def Die.bladeLoopOn (x : Die) : Die :=
  let n := x.get F.CLO_HTR_LOOP
  (((x.loopFresh n).addSafe (x.hotOutputs (x.get (F.LOOP_CFG_OUT n)))).showLoops).showOwners

/-- The blade heater's loop ends, its output off (R160). -/
def Die.bladeLoopOff (x : Die) : Die :=
  let n := x.get F.CLO_HTR_LOOP
  ((((x.loopDrive n 0).setInteg n 0).onLoop n (fun l => { l with prev := none })).showLoops).showOwners

end Sys2Proof.Machine
end

