-- ==== Sys2Proof/Machine/Nvs.lean ====
section
/-!
DEFINITION. The Seed Tray (12_seed_tray.md): logical pages in two copies, tallies in eight slots, the queue of writes,
power-up completion, host operations, passwords, wear and spares.
-/

namespace Sys2Proof.Machine

/-- The Seed Tray's hidden state changed. -/
def Die.onNvs (x : Die) (f : Nvs → Nvs) : Die := { x with nvs := f x.nvs }

/-- An entry of a list of pairs replaced or added. -/
def assocPut {α : Type} (l : List (Nat × α)) (k : Nat) (v : α) : List (Nat × α) :=
  (k, v) :: l.filter (fun e => e.1 != k)

/-- The entry of a key. -/
def assocGet {α : Type} (l : List (Nat × α)) (k : Nat) : Option α := (l.find? (fun e => e.1 = k)).map (·.2)

/-! ### Pages and tallies -/

/-- A physical page. -/
def Nvs.phys (s : Nvs) (p : Nat) : PhysPage := (assocGet s.pages p).getD {}

/-- The physical page of a logical page's copy (R332): the spare map may have moved it. -/
def Nvs.copyAt (s : Nvs) (n copy : Nat) : Nat := (assocGet s.map (2 * n + copy)).getD (2 * n + copy)

/-- A copy of a logical page. -/
def Nvs.copy (s : Nvs) (n copy : Nat) : PhysPage := s.phys (s.copyAt n copy)

/-- A copy is complete: its tag's CRC matches its data (R334). -/
def PhysPage.complete (p : PhysPage) : Bool := p.bad = 0 && crc32 p.data = p.crc

/-- A copy of a logical page can be read: it has not failed without a spare (R350), and it is complete. -/
def Nvs.whole (s : Nvs) (n copy : Nat) : Bool := !s.dead.contains (s.copyAt n copy) && (s.copy n copy).complete

/-- The copy that a read takes: the newer of two complete ones, or the only complete one (R334, R335, R350). -/
def Nvs.newer (s : Nvs) (n : Nat) : Option Nat :=
  if s.whole n 0 && s.whole n 1 then some (if (s.copy n 1).seq = ((s.copy n 0).seq + 1) % 65536 then 1 else 0)
  else if s.whole n 0 then some 0 else if s.whole n 1 then some 1 else none

/-- The sequence number of a page's next write. -/
def Nvs.nextSeq (s : Nvs) (n : Nat) : Nat := match s.newer n with | some c => ((s.copy n c).seq + 1) % 65536 | none => 0

/-- The bytes of a logical page; zeros where no copy is complete. -/
def Nvs.logical (s : Nvs) (n : Nat) : List Byte :=
  match s.newer n with
  | some c => (s.copy n c).data
  | none => List.replicate 64 0

/-- Several logical pages in order. -/
def Nvs.logicals (s : Nvs) (n count : Nat) : List Byte := (List.range count).flatMap (fun i => s.logical (n + i))

/-- `g` follows `h` as a 32-bit serial number. -/
def serialAfter (g h : Nat) : Bool := let d := (g + 2 ^ 32 - h) % 2 ^ 32; 0 < d && d < 2 ^ 31

/-- The slot that holds a tally's value, with its place (R343). -/
def tallyNewest (l : List TallySlot) : Option (Nat × TallySlot) :=
  (l.zipIdx).foldl (fun best e =>
    if !e.1.valid then best
    else match best with
      | some (i, b) => if serialAfter e.1.gen b.gen then some (e.2, e.1) else some (i, b)
      | none => some (e.2, e.1)) none

/-- A tally's value. -/
def Nvs.tally (s : Nvs) (t : Nat) : Nat :=
  match tallyNewest (s.tallies.getD t []) with
  | some (_, b) => b.value
  | none => 0

/-- The physical page of slot `i` of a tally: the spare map may have moved it (R332, R349). -/
def Nvs.slotAt (s : Nvs) (t i : Nat) : Nat := (assocGet s.map (3840 + 8 * t + i)).getD (3840 + 8 * t + i)

/-- The slot of a tally in rotation after slot `cur`, leaving out failed ones; none where no other is left (R343, R350). -/
def Nvs.slotAfter (s : Nvs) (t cur n : Nat) : Option Nat :=
  ((List.range n).map (fun i => (cur + 1 + i) % 8)).find? (fun i => !s.dead.contains (s.slotAt t i))

/-- The slot of a tally that is written next (R343). -/
def Nvs.nextSlot (s : Nvs) (t : Nat) : Option Nat :=
  s.slotAfter t (match tallyNewest (s.tallies.getD t []) with | some (i, _) => i | none => 7) 8

/-- A slot of a tally changed. -/
def Nvs.onSlot (s : Nvs) (t i : Nat) (f : TallySlot → TallySlot) : Nvs :=
  { s with tallies := fillSet [] s.tallies t (fillSet {} (s.tallies.getD t []) i (f ((s.tallies.getD t []).getD i {}))) }

/-- A tally's new value with the next generation in a slot (R343); a value below the current one is refused (R344). -/
def Nvs.putTally (s : Nvs) (t v : Nat) (slot : Nat) : Nvs :=
  if v < s.tally t then s
  else
    let gen := match tallyNewest (s.tallies.getD t []) with | some (_, b) => (b.gen + 1) % 2 ^ 32 | none => 0
    s.onSlot t slot (fun b => { value := v, gen := gen, valid := true, writes := b.writes + 1 })

/-- The bytes of a page with some replaced, from an offset, wrapping at its end (R337). -/
def mergePage (old : List Byte) (off : Nat) (bytes : List Byte) : List Byte :=
  (bytes.zipIdx).foldl (fun l e => listSet l ((off + e.2) % 64) e.1) old

/-- A physical page rewritten whole, with the lockout base that page 2 holds. -/
def PhysPage.rewrite (p : PhysPage) (data : List Byte) (seq base : Nat) : PhysPage :=
  { data := data, bad := 0, seq := seq, writes := p.writes + 1, crc := crc32 data, base := base }

/-- The lockout base that logical page 2 holds (Table 12.2, R347; log entry 109). -/
def Nvs.storedBase (s : Nvs) : Nat := match s.newer 2 with | some c => (s.copy 2 c).base | none => 0

/-- The writes requested and not complete: the one in progress, then the queue. -/
def Nvs.pending (s : Nvs) : List NvsReq := s.doing.toList ++ s.queue

/-- The lockout base, and the count of tally 6: what is stored, or is on its way to the store (R347). -/
def Nvs.lockBase (s : Nvs) : Nat :=
  s.pending.foldl (fun b r => match r.what with | .base v => v | _ => b) s.storedBase

/-- The value of tally 6, with the failed attempts that are on their way to it (R347). -/
def Nvs.failTally (s : Nvs) : Nat := s.tally 6 + (s.pending.filter (fun r => r.what = .add 6 1)).length

/-- n of R347: the tally's value less the value stored at the last successful unlock. -/
def Nvs.fails (s : Nvs) : Nat := s.failTally - s.lockBase

/-- The place of a physical page's number in the spare map: the logical page and the byte of the spare's entry (log entry 109). -/
def mapEntry (spare : Nat) : Nat × Nat := ((spare - 4032) / 32, 2 * ((spare - 4032) % 32))

/-- The logical page that a write writes. -/
def NvsWrite.logical? : NvsWrite → Option Nat
  | .page n _ _ => some n
  | .mend n _ => some n
  | .base _ => some 2
  | .moved _ _ sp => some (mapEntry sp).1
  | _ => none

/-- The bytes that a write of a logical page leaves there (R334, R336, R349). -/
def Nvs.bytesOf (s : Nvs) (n : Nat) : NvsWrite → List Byte
  | .page _ off bytes => mergePage (s.logical n) off bytes
  | .mend _ bad => (s.copy n (1 - bad)).data
  | .moved home _ sp => mergePage (s.logical n) (mapEntry sp).2 (bytesLE 2 (home + 1))
  | _ => s.logical n

/-- The lockout base that a write of a logical page leaves there. -/
def Nvs.baseOf (s : Nvs) (n : Nat) : NvsWrite → Nat
  | .base v => v
  | .mend _ bad => (s.copy n (1 - bad)).base
  | _ => match s.newer n with | some c => (s.copy n c).base | none => 0

/-- The page that the write in progress writes. -/
def Nvs.writing (s : Nvs) : Option Nat := s.doing.bind (fun r => r.what.logical?)

/-- The store can be read: READY (R339), and none of `count` pages from `first` is being written (R335). -/
def Die.canRead (x : Die) (first count : Nat) : Bool :=
  x.on F.NVS_STATE_READY && (match x.nvs.writing with | some n => n < first || first + count ≤ n | none => true)

/-! ### What the registers show -/

/-- A spare page is free: no page has moved there or is on its way, and it has not failed itself. -/
def Nvs.spareFree (s : Nvs) (p : Nat) : Bool :=
  !s.map.any (fun e => e.2 = p) && !s.dead.contains p &&
    !s.pending.any (fun r => match r.what with | .moved _ _ sp => sp = p | _ => false)

/-- The lowest spare page that is free (R349). -/
def Nvs.freeSpare (s : Nvs) : Option Nat := ((List.range 64).map (4032 + ·)).find? s.spareFree

/-- Spare pages left. -/
def Nvs.sparesLeft (s : Nvs) : Nat := (((List.range 64).map (4032 + ·)).filter s.spareFree).length

/-- A physical page is being retired. -/
def Nvs.leaving (s : Nvs) (phys : Nat) : Bool :=
  s.pending.any (fun r => match r.what with | .retire p _ => p = phys | .moved _ p _ => p = phys | _ => false)

/-- The physical page written most, the slots of the tallies among them. -/
def Nvs.mostWritten (s : Nvs) : Nat × Nat :=
  let m := s.pages.foldl (fun m e => if m.2 < e.2.writes then (e.1, e.2.writes) else m) (0, 0)
  s.tallies.zipIdx.foldl (fun m l => l.1.zipIdx.foldl (fun m e =>
    if m.2 < e.1.writes then (s.slotAt l.2 e.2, e.1.writes) else m) m) m

/-- The spare map can no longer change: both copies of logical page 0 or 1 have failed (R350). -/
def Nvs.mapFailed (s : Nvs) : Bool := [0, 1].any (fun n => [0, 1].all (fun c => s.dead.contains (s.copyAt n c)))

/-- The length of a certificate in DER, at most 2,048: what its outermost header says (R232). -/
def certLength (b : List Byte) : Nat :=
  let at_ (i : Nat) : Nat := (b.getD i 0).toNat
  if at_ 0 != 0x30 then 0
  else min 2048
    (if at_ 1 < 0x80 then 2 + at_ 1 else if at_ 1 = 0x81 then 3 + at_ 2 else if at_ 1 = 0x82 then 4 + 256 * at_ 2 + at_ 3 else 0)

/-- WEAR of the Cloche, and with it wear figure 0 (R159, R414). -/
def Die.showCloWear (x : Die) : Die :=
  let worn := decide (1000 * x.get F.CLO_WEAR_LIMIT < x.get F.CLO_MOVES_COUNT)
  (x.cond 344 worn).wearBit 0 worn

/-- The registers that show stored values and wear (Table 12.5, R349, R350), once the store is READY (R339). -/
def Die.showNvs (x : Die) : Die :=
  if !x.on F.NVS_STATE_READY then x else
  let s := x.nvs
  let (p, w) := s.mostWritten
  let y := (((x.set F.NVS_WEAR_PAGE p).set F.NVS_WEAR_MAX_COUNT (w / 65536)).set F.NVS_WEAR_USED (64 - s.sparesLeft)).setB
    F.NVS_STATE_RDONLY s.mapFailed
  let low := decide (s.sparesLeft ≤ y.get F.NVS_SPARE_WARN_LEFT)
  let y := ((y.cond 71 low).cond 72 s.mapFailed).wearBit 8 low
  let y := (y.set F.CLO_MOVES_COUNT (s.tally 2)).set F.NVS_LOCKOUT_FAILS (min 65535 s.fails)
  let y := if y.evd.live then y else y.set64 F.EVD_LIMIT_LO_LIMIT F.EVD_LIMIT_HI_LIMIT (s.tally 0)
  ((y.set F.EVD_SESSION_SESSION (s.tally 1)).set F.CRY_CERT_LEN_LEN (certLength (s.logicals 32 32))).showCloWear

/-! ### Requests (R341, R342) -/

/-- The writers are stopped: an orderly thermal stop, PFAIL_N or a close with a writer other than the EP, or a store that takes
no write (R234, R342, R350). -/
def Die.nvsMay (x : Die) (r : NvsReq) : Bool :=
  x.on F.NVS_STATE_READY && !x.nvs.mapFailed &&
    (if x.on F.NVS_STATE_STOPPED then r.what = .add 5 1 else !(x.on F.NVS_STATE_EP_ONLY || x.evd.closing.isSome) || r.prio ≤ 2)

/-- A write requested (R341). -/
def Die.nvsRequest (x : Die) (prio : Nat) (what : NvsWrite) (tag : NvsTag := .none) : Die :=
  x.onNvs (fun s => { s with queue := s.queue ++ [{ prio := prio, what := what, tag := tag }] })

/-- Pages of a region requested in order from a list of bytes. -/
def Die.nvsPages (x : Die) (prio n : Nat) (bytes : List Byte) : Die :=
  ((pieces 64 (bytes.length / 64 + 1) bytes).zipIdx).foldl
    (fun y e => y.nvsRequest prio (.page (n + e.2) 0 (padTo 64 e.1))) x

/-- The pending write to start next: the highest priority, the first requested among equals (R341). -/
def Die.nvsNext (x : Die) : Option NvsReq :=
  (x.nvs.queue.filter (fun r => x.nvsMay r)).foldl (fun best r => match best with
    | some b => if r.prio < b.prio then some r else some b
    | none => some r) none

/-- The queue without the first request equal to `r`. -/
def dropFirst (r : NvsReq) : List NvsReq → List NvsReq
  | [] => []
  | q :: l => if q = r then l else q :: dropFirst r l

/-- A host operation completes: STATUS, BUSY, OP_DONE (R352). -/
def Die.opDone (x : Die) (status : Nat) : Die :=
  ((x.set F.NVS_OP_STAT_STATUS status).set F.NVS_OP_STAT_BUSY 0).fire 65

/-- With the spare map failed every requested write completes with WORN and writes nothing (R350); a mailbox has no status of that
meaning, and what its command ends with is open (log entry 109). -/
def Die.wornWrites (x : Die) : Die :=
  x.nvs.queue.foldl (fun y r => match r.tag with
    | .host => y.opDone 6
    | .mbx n _ data => let (v, z) := y.freeVal 16; z.mbxResult n v data
    | _ => y) (x.onNvs (fun s => { s with queue := [] }))

/-- NVS_WRITE_START (R341): a page write begins with its intent in the journal (R334); none starts while the store's reset waits
(R36), nor in a store that is read-only (R350). -/
def execNvsWriteStart (d : DieId) (s : State) : Host.Outcome State Fault Refusal :=
  onDie d s fun _ x =>
    if x.nvs.doing.isSome || !x.takes 0x10 then x
    else if x.nvs.mapFailed then x.wornWrites
    else match x.nvsNext with
      | none => x
      | some r =>
        let y := x.onNvs (fun s => { s with queue := dropFirst r s.queue, doing := some r })
        match r.what.logical? with
        | some n => y.onNvs (fun s => { s with journal := ((n, s.nextSeq n) :: s.journal).take 128 })
        | none => y

/-! ### Host operations (R333 to R337, R352) -/

/-- The read and write rights of a logical page (Table 12.2): 0 free, 1 by password, 2 never. -/
def pageRights (n : Nat) : Nat × Nat :=
  if n = 2 then (2, 2) else if n < 1328 then (0, 2) else if n < 1624 then (0, 1) else (1, 1)

/-- The SHA-256 that stands for a password: the serial number followed by it (12, Passwords). -/
def Die.pwdHash (x : Die) (pwd : Nat) : List Byte :=
  sha256 (bytesLE 8 (x.get64 F.SYS_SERIAL_LO_SERIAL F.SYS_SERIAL_HI_SERIAL) ++ bytesLE 8 pwd)

/-- The stored hash of a kind: 1 READ, 2 WRITE. -/
def Die.pwdStored (x : Die) (kind : Nat) : List Byte := ((x.nvs.logical 2).drop (32 * (kind - 1))).take 32

/-- A password is unset: none was ever stored, or it is zero. -/
def Die.pwdUnset (x : Die) (kind : Nat) : Bool :=
  x.pwdStored kind = List.replicate 32 0 || x.pwdStored kind = x.pwdHash 0

/-- A region's password need not be given: unset, or unlocked (R333, R347). -/
def Die.pwdOpen (x : Die) (kind : Nat) : Bool :=
  x.pwdUnset kind || (if kind = 1 then x.on F.NVS_STATE_UNLOCK_R else x.on F.NVS_STATE_UNLOCK_W)

/-- The host may read a logical page. -/
def Die.mayRead (x : Die) (n : Nat) : Bool :=
  (pageRights n).1 = 0 || ((pageRights n).1 = 1 && x.pwdOpen 1)

/-- The host may write a logical page. -/
def Die.mayWrite (x : Die) (n : Nat) : Bool := (pageRights n).2 = 1 && x.pwdOpen 2

/-- Bytes placed in the buffer from page byte OFFSET on, wrapping (R337). -/
def Die.fillBuffer (x : Die) (data : List Byte) (off len : Nat) : Die :=
  let old := (List.range 16).flatMap (fun k => bytesLE 4 (x.get (F.NVS_BUF_DATA k)))
  let new := (List.range 64).map (fun i => if i < len then data.getD ((off + i) % 64) 0 else old.getD i 0)
  (List.range 16).foldl (fun y k => y.set (F.NVS_BUF_DATA k) (ofBytesLE ((new.drop (4 * k)).take 4))) x

/-- The buffer's bytes. -/
def Die.bufferBytes (x : Die) (len : Nat) : List Byte :=
  ((List.range 16).flatMap (fun k => bytesLE 4 (x.get (F.NVS_BUF_DATA k)))).take len

/-- The state of group `g` of a copy as it reads. -/
def groupState (p : PhysPage) (e : List Ecc) (g : Nat) : Ecc := if p.bad.getLsbD g then .uncorrectable else e.getD g .clean

/-- The code of a group's state in NVS_OP_STAT. -/
def eccCode : Ecc → Nat
  | .clean => 0
  | .corrected => 1
  | .uncorrectable => 2

/-- The states of the eight groups of a copy. -/
def groupStates (p : PhysPage) (e : List Ecc) : List Ecc := (List.range 8).map (groupState p e)

/-- GRP of NVS_OP_STAT. -/
def Die.setGroups (x : Die) (l : List Ecc) : Die :=
  (l.zipIdx).foldl (fun y e => y.set (F.NVS_OP_STAT_GRP e.2) (eccCode e.1)) x

/-- A physical page replaced. -/
def Die.putPhys (x : Die) (p : Nat) (v : PhysPage) : Die := x.onNvs (fun s => { s with pages := assocPut s.pages p v })

/-- Corrected groups of a read: counted, written back, CORR (R336). -/
def Die.noteCorr (x : Die) (l : List Ecc) : Die :=
  l.foldl (fun y e => if e = .corrected then (y.count (F.ERR_CNT_CORR 0x10)).fire 68 else y) x

/-- A logical read for the host (R335 to R337); a bad copy is rewritten as a write of the NVS's own (R334, R341). -/
def Die.hostRead (x : Die) (o : NvsOp) : Die :=
  let s := x.nvs
  let first := s.newer o.page
  let st (c : Nat) := groupStates (s.copy o.page c) (if c = 0 then o.ea else o.eb)
  let ok (c : Nat) := s.whole o.page c && !(st c).contains .uncorrectable
  let deliver (y : Die) (c : Nat) : Die :=
    (((y.setGroups (st c)).noteCorr (st c)).fillBuffer (s.copy o.page c).data o.off o.len).opDone 0
  match first with
  | some c =>
    if ok c then deliver x c
    else if ok (1 - c) then deliver (x.nvsRequest 5 (.mend o.page c)) (1 - c)
    else
      (((((x.setGroups (st c)).fillBuffer (List.replicate 64 0) o.off o.len).set F.NVS_ERR_UNCORR 1).set F.NVS_ERR_CAUSE 3).set
        F.NVS_ERR_PAGE (s.copyAt o.page c)).opDone 4 |>.fire 69
  | none =>
    (((((x.setGroups (st 0)).fillBuffer (List.replicate 64 0) o.off o.len).set F.NVS_ERR_UNCORR 1).set F.NVS_ERR_CAUSE 3).set
      F.NVS_ERR_PAGE (s.copyAt o.page 0)).opDone 4 |>.fire 69

/-- A diagnostic read of one copy as it stands; its corrected groups count as those of every read (R336). -/
def Die.diagRead (x : Die) (o : NvsOp) (c : Nat) : Die :=
  let p := x.nvs.copy o.page c
  let st := groupStates p (if c = 0 then o.ea else o.eb)
  (((x.setGroups st).noteCorr st).fillBuffer p.data o.off o.len).opDone 0

/-- A host operation waits: for READY, or for the end of a write of the page that it reads, be it the page of the passwords (R335,
R339). -/
def Die.opWaits (x : Die) (o : NvsOp) : Bool :=
  !x.on F.NVS_STATE_READY ||
    (o.op ≤ 3 && ((o.op ≠ 1 && x.nvs.writing = some o.page) || (1328 ≤ o.page && x.nvs.writing = some 2)))

/-- A host operation carried out, or kept waiting. -/
def Die.runOp (x : Die) (o : NvsOp) : Die :=
  if x.opWaits o then x.onNvs (fun s => { s with op := some o })
  else
    let y := x.onNvs (fun s => { s with op := none })
    let halted := y.on F.NVS_STATE_STOPPED || y.on F.NVS_STATE_EP_ONLY
    if o.op = 4 then
      (if 21 < o.page then y.opDone 5
       else (y.set64 F.NVS_TALLY_LO_VALUE F.NVS_TALLY_HI_VALUE (y.nvs.tally o.page)).opDone 0)
    else if o.op = 5 then
      (if 21 < o.page then y.opDone 5
       else if o.page < 16 then y.opDone 2
       else if y.get F.NVS_TALLY_ADD_ADD = 0 then y.opDone 1
       else if halted then y.opDone 3
       else if y.nvs.mapFailed then y.opDone 6
       else y.nvsRequest 6 (.add o.page (y.get F.NVS_TALLY_ADD_ADD)) .host)
    else if 1919 < o.page then y.opDone 5
    else if o.len = 0 then y.opDone 1
    else if o.op = 1 then
      (if !y.mayWrite o.page then y.opDone 2
       else if halted then y.opDone 3
       else if y.nvs.mapFailed then y.opDone 6
       else y.nvsRequest 6 (.page o.page o.off (y.bufferBytes o.len)) .host)
    else if !y.mayRead o.page then y.opDone 2
    else if o.op = 0 then y.hostRead o
    else y.diagRead o (o.op - 2)

/-- NVS_OP written with GO (R352): ignored while BUSY; OP 6 and 7 and a LEN above 64 are rejected. -/
def Die.nvsGo (x : Die) (o : NvsOp) : Die :=
  if x.on F.NVS_OP_STAT_BUSY || !x.takes 0x10 || 5 < o.op || 64 < o.len || 63 < o.off || 4095 < o.page then x.accErr 0x10
  else
    let y := (((x.set F.NVS_OP_OP o.op).set F.NVS_OP_PAGE o.page).set F.NVS_OP_OFFSET o.off).set F.NVS_OP_LEN o.len
    (y.set F.NVS_OP_STAT_BUSY 1).runOp o

/-- NVS_READ (R335). -/
def execNvsRead (d : DieId) (page off len : Nat) (ea eb : List Ecc) (s : State) : Host.Outcome State Fault Refusal :=
  onDie d s fun _ x => x.nvsGo { op := 0, page := page, off := off, len := len, ea := ea, eb := eb }

/-- NVS_WRITE (R334). -/
def execNvsWrite (d : DieId) (page off len : Nat) (s : State) : Host.Outcome State Fault Refusal :=
  onDie d s fun _ x => x.nvsGo { op := 1, page := page, off := off, len := len, ea := [], eb := [] }

/-- NVS_DIAG_READ_A. -/
def execNvsDiagReadA (d : DieId) (page off len : Nat) (ea : List Ecc) (s : State) : Host.Outcome State Fault Refusal :=
  onDie d s fun _ x => x.nvsGo { op := 2, page := page, off := off, len := len, ea := ea, eb := [] }

/-- NVS_DIAG_READ_B. -/
def execNvsDiagReadB (d : DieId) (page off len : Nat) (eb : List Ecc) (s : State) : Host.Outcome State Fault Refusal :=
  onDie d s fun _ x => x.nvsGo { op := 3, page := page, off := off, len := len, ea := [], eb := eb }

/-- TALLY_READ (R343). -/
def execTallyRead (d : DieId) (t : Nat) (s : State) : Host.Outcome State Fault Refusal :=
  onDie d s fun _ x => x.nvsGo { op := 4, page := t, off := x.get F.NVS_OP_OFFSET, len := x.get F.NVS_OP_LEN, ea := [], eb := [] }

/-- TALLY_ADD (R344). -/
def execTallyAdd (d : DieId) (t : Nat) (s : State) : Host.Outcome State Fault Refusal :=
  onDie d s fun _ x => x.nvsGo { op := 5, page := t, off := x.get F.NVS_OP_OFFSET, len := x.get F.NVS_OP_LEN, ea := [], eb := [] }

/-! ### Completions (R334, R343, R349, R350) -/

/-- A write that is the next one of its priority (R349). -/
def Die.nvsFirst (x : Die) (prio : Nat) (what : NvsWrite) : Die :=
  x.onNvs (fun s => { s with queue := { prio := prio, what := what, tag := .none } :: s.queue })

/-- A physical page has failed: it will move to a spare as the next write, or, with no spare left, is out (R349,
R350). -/
def Die.failPhys (x : Die) (prio phys cause : Nat) : Die :=
  let y := ((x.set F.NVS_ERR_UNCORR 0).set F.NVS_ERR_CAUSE cause).set F.NVS_ERR_PAGE phys
  if y.nvs.leaving phys then y
  else if y.nvs.freeSpare.isSome then y.nvsFirst prio (.retire phys cause)
  else y.onNvs (fun s => { s with dead := s.dead ++ [phys] })

/-- A completed write reported to whom it concerns. -/
def Die.nvsTell (x : Die) (tag : NvsTag) (status : Nat) : Die :=
  match tag with
  | .none => x
  | .opening => x
  | .host => x.opDone status
  | .mbx n st data => x.mbxResult n st data

/-- A page of the evidence log now holds a whole entry, the newest. -/
def Nvs.logged (s : Nvs) (n : Nat) : Nvs :=
  if 576 ≤ n && n < 704 then { s with logNext := (n - 575) % 128, logUsed := min 128 (s.logUsed + 1) } else s

/-- A copy whose write failed: a group read back different twice. Its tag still holds the old sequence number and a CRC that does
not match; what its bytes are is open (R338, R349). -/
def Die.spoilCopy (x : Die) (p : Nat) : Die :=
  let (b, y) := x.freeBytes 64
  let old := y.nvs.phys p
  y.putPhys p { old with data := b, bad := 0, crc := (crc32 b + 1) % 2 ^ 32, writes := old.writes + 1 }

/-- A move recorded in the spare map is in force (R349): the physical page is retired, and a tally's slot that moved has its
spare's write count. -/
def Die.pageMoved (x : Die) (home phys sp : Nat) : Die :=
  let y := x.onNvs (fun s => { s with map := assocPut s.map home sp, dead := s.dead ++ [phys] })
  let y := if home < 3840 then y
    else y.onNvs (fun s => s.onSlot ((home - 3840) / 8) ((home - 3840) % 8) (fun b => { b with writes := (s.phys sp).writes }))
  y.fire 70

/-- The bytes a page write leaves in its two copies (R334). -/
def Die.finishPage (x : Die) (r : NvsReq) (n : Nat) (failed : List Nat) : Die :=
  let s := x.nvs
  let data := s.bytesOf n r.what
  let put (y : Die) (c : Nat) : Die :=
    let p := s.copyAt n c
    if s.dead.contains p then y
    else if failed.contains c then (y.spoilCopy p).failPhys r.prio p 1
    else
      let w := (s.phys p).rewrite data (s.nextSeq n) (s.baseOf n r.what)
      let z := y.putPhys p w
      if 8000000000 ≤ w.writes then z.failPhys r.prio p 2 else z
  let y := put (put (x.onNvs (fun s => { s with doing := none })) 0) 1
  let worn := [0, 1].any (fun c => y.nvs.dead.contains (s.copyAt n c))
  let y := y.onNvs (fun s => s.logged n)
  let y := match r.what with
    | .moved home phys sp => if y.nvs.mapFailed then y else y.pageMoved home phys sp
    | _ => y
  (y.nvsTell r.tag (if worn then 6 else 0)).showNvs

/-- What a retired physical page's spare receives: the content of the logical page, from the copy that is whole; of a tally's slot,
the slot's. -/
def Nvs.homeContent (s : Nvs) (home phys : Nat) : PhysPage :=
  match if home < 3840 then s.newer (home / 2) else none with
  | some c => s.copy (home / 2) c
  | none => s.phys phys

/-- A retired physical page's content lies in the lowest free spare; the move is recorded in the spare map next (R349). -/
def Die.finishRetire (x : Die) (prio phys : Nat) : Die :=
  let y := x.onNvs (fun s => { s with doing := none })
  match y.nvs.freeSpare with
  | none => y.onNvs (fun s => { s with dead := s.dead ++ [phys] })
  | some sp =>
    let home := (y.nvs.map.find? (fun e => e.2 = phys)).map (·.1) |>.getD phys
    let z := y.putPhys sp { y.nvs.homeContent home phys with writes := (y.nvs.phys sp).writes + 1 }
    z.nvsFirst prio (.moved home phys sp)

/-- A tally's value written in a slot (R343); a slot at its wear limit is retired (R349). The sum of PWD_RESETS is the end of a
password recovery (R348). -/
def Die.slotWritten (x : Die) (r : NvsReq) (t v i : Nat) : Die :=
  let y := x.onNvs (fun s => s.putTally t v i)
  let y := if 8000000000 ≤ ((y.nvs.tallies.getD t []).getD i {}).writes then y.failPhys r.prio (y.nvs.slotAt t i) 2 else y
  let y := if t = 7 then y.fire 75 else y
  let y := if r.tag = .host then y.set64 F.NVS_TALLY_LO_VALUE F.NVS_TALLY_HI_VALUE (y.nvs.tally t) else y
  (y.showNvs).nvsTell r.tag 0

/-- TALLY_WRITE_DONE (R343, R344): the new value is in its slot; a slot that failed is retired, and the write completes in the next
one (R349); with no slot left it completes with WORN (R350). -/
def execTallyWriteDone (d : DieId) (failed : Bool) (s : State) : Host.Outcome State Fault Refusal :=
  onDieAlways d s fun _ x =>
    match x.nvs.doing with
    | some r =>
      let go (t v : Nat) : Die :=
        let y := x.onNvs (fun s => { s with doing := none })
        match y.nvs.nextSlot t with
        | none => y.nvsTell r.tag 6
        | some i =>
          if !failed then y.slotWritten r t v i
          else
            let z := (y.onNvs (fun s => s.onSlot t i (fun b => { b with valid := false, writes := b.writes + 1 }))).failPhys r.prio
              (y.nvs.slotAt t i) 1
            match z.nvs.slotAfter t i 7 with
            | none => z.showNvs.nvsTell r.tag 6
            | some j => z.slotWritten r t v j
      match r.what with
      | .tally t v => go t v
      | .add t n => go t (min (x.nvs.tally t + n) (2 ^ 64 - 1))
      | _ => x
    | none => x

/-! ### Power-up completion (R339) -/

/-- The capture of an interrupted copy, and its groups against the copy kept. -/
def Die.captureTorn (x : Die) (page copy action : Nat) (found kept : PhysPage) : Die :=
  let grp (l : List Byte) (g : Nat) : List Byte := (l.drop (8 * g)).take 8
  let y := (((x.raise F.NVS_TORN_STAT_VALID 1).set F.NVS_TORN_STAT_ACTION action).set F.NVS_TORN_STAT_COPY copy).set
    F.NVS_TORN_STAT_PAGE page
  let y := (List.range 8).foldl (fun y g => y.set (F.NVS_TORN_STAT_GRP g)
    (if found.bad.getLsbD g then 2 else if grp found.data g = grp kept.data g then 0 else 1)) y
  (List.range 16).foldl (fun y k => y.set (F.NVS_TORN_DATA k)
    (if found.bad.getLsbD (k / 2) then 0 else ofBytesLE ((found.data.drop (4 * k)).take 4))) y

/-- One copy written from the other. -/
def Die.copyOver (x : Die) (n to_ : Nat) : Die :=
  let good := x.nvs.copy n (1 - to_)
  let p := x.nvs.copyAt n to_
  x.putPhys p ((x.nvs.phys p).rewrite good.data good.seq good.base)

/-- The action on the page that the newest intent names (R339); a page with a copy that has failed for good has no copy to make
whole, and its other copy stands as it is (R350). -/
def Die.completeTorn (x : Die) : Die :=
  match x.nvs.journal with
  | [] => x
  | (n, seq) :: _ =>
    let a := x.nvs.copy n 0
    let b := x.nvs.copy n 1
    if x.nvs.dead.contains (x.nvs.copyAt n 0) || x.nvs.dead.contains (x.nvs.copyAt n 1) then
      (if x.nvs.whole n 0 || x.nvs.whole n 1 then x else (x.captureTorn n 0 3 a b).fire 67)
    else if a.data = b.data && a.seq = b.seq && a.complete && b.complete then x
    else if a.complete && a.seq = seq then
      (((((x.captureTorn n 1 1 b a).copyOver n 1).onNvs (fun s => s.logged n)).count F.NVS_CNT_FINISHES).fire 67)
    else if b.complete then ((((x.captureTorn n 0 2 a b).copyOver n 0).count F.NVS_CNT_ROLLBACKS).fire 67)
    else if a.complete then ((((x.captureTorn n 1 2 b a).copyOver n 1).count F.NVS_CNT_ROLLBACKS).fire 67)
    else (x.captureTorn n 0 3 a b).fire 67

/-- How long attempts are refused for, in seconds, with `n` failed ones (R347). -/
def lockSeconds (n : Nat) : Nat := min 3600 (2 ^ (min n 20 - 8))

/-- Attempts are refused from now on (R347). -/
def Die.startLockout (x : Die) (now : Nat) : Die :=
  let n := x.nvs.fails
  if n < 8 then x
  else ((x.onNvs (fun s => { s with refusing := true, refusedAt := now })).set F.NVS_LOCKOUT_REMAIN (lockSeconds n)).cond 74 true

/-! ### Passwords (R347) -/

/-- The password in NVS_PWD. -/
def Die.pwdOffered (x : Die) : Nat := x.get64 F.NVS_PWD_LO_PWD F.NVS_PWD_HI_PWD

/-- An attempt to unlock (R347): neither checked nor counted while attempts are refused. A match requests the tally's value as the
new base, in page 2; a mismatch requests one more in tally 6. -/
def Die.tryUnlock (x : Die) (kind pwd now : Nat) : Die :=
  if x.nvs.refusing then x
  else if x.pwdHash pwd = x.pwdStored kind || (pwd = 0 && x.pwdUnset kind) then
    let y := (if kind = 1 then x.set F.NVS_STATE_UNLOCK_R 1 else x.set F.NVS_STATE_UNLOCK_W 1)
    (y.nvsRequest 5 (.base y.nvs.failTally)).set F.NVS_LOCKOUT_FAILS 0
  else
    let y := (x.nvsRequest 5 (.add 6 1)).fire 73
    (y.set F.NVS_LOCKOUT_FAILS (min 65535 y.nvs.fails)).startLockout now

/-- A password stored (R347): with WRITE unlocked or unset. -/
def Die.storePassword (x : Die) (kind pwd : Nat) : Die :=
  if x.pwdOpen 2 then x.nvsRequest 5 (.page 2 (32 * (kind - 1)) (x.pwdHash pwd)) else x.accErr 0x10

/-- A write of NVS_UNLOCK that needs the stored passwords: it waits while they cannot be read (R335, R339), behind those that wait
already. -/
def Die.pwdAsk (x : Die) (a : PwdAsk) (now : Nat) : Die :=
  if !x.canRead 2 1 || !x.nvs.asks.isEmpty then x.onNvs (fun s => { s with asks := s.asks ++ [a] })
  else if a.set then x.storePassword a.kind a.pwd
  else x.tryUnlock a.kind a.pwd now

/-- KIND of NVS_UNLOCK taken with the password; 0 and 3 are rejected. -/
def Die.pwdKind (x : Die) (set : Bool) (kind now : Nat) : Die :=
  if kind ≠ 1 ∧ kind ≠ 2 then x.accErr 0x10
  else (x.set F.NVS_UNLOCK_KIND kind).pwdAsk { set := set, kind := kind, pwd := x.pwdOffered } now

/-- NVS_UNLOCK.GO (R347). -/
def Die.unlock (x : Die) (kind now : Nat) : Die := x.pwdKind false kind now

/-- PWD_UNLOCK (R347). -/
def execPwdUnlock (d : DieId) (kind : Nat) (s : State) : Host.Outcome State Fault Refusal :=
  onDie d s fun env x => x.unlock kind env.now

/-- NVS_UNLOCK.LOCK ends both unlocks (R347). -/
def Die.lock (x : Die) : Die := (x.set F.NVS_STATE_UNLOCK_R 0).set F.NVS_STATE_UNLOCK_W 0

/-- PWD_LOCK (R347). -/
def execPwdLock (d : DieId) (s : State) : Host.Outcome State Fault Refusal := onDie d s fun _ x => x.lock

/-- NVS_UNLOCK.SET stores NVS_PWD as the password of KIND, with WRITE unlocked or unset (R347). -/
def Die.setPassword (x : Die) (kind now : Nat) : Die := x.pwdKind true kind now

/-- PWD_SET (R347). -/
def execPwdSet (d : DieId) (kind : Nat) (s : State) : Host.Outcome State Fault Refusal :=
  onDie d s fun env x => x.setPassword kind env.now

/-- LOCKOUT_END (R347): attempts are accepted again. -/
def execLockoutEnd (d : DieId) (s : State) : Host.Outcome State Fault Refusal :=
  onDie d s fun _ x =>
    if x.nvs.refusing then
      ((x.onNvs (fun s => { s with refusing := false })).set F.NVS_LOCKOUT_REMAIN 0).cond 74 false
    else x

/-! ### What waited for the store (R335, R339) -/

/-- The unlocks and the host operation that waited go on, as far as they can. -/
def Die.storeFree (x : Die) (now : Nat) : Die :=
  let y := x.nvs.asks.foldl (fun y a => y.pwdAsk a now) (x.onNvs (fun s => { s with asks := [] }))
  match y.nvs.op with
  | some o => y.runOp o
  | none => y

/-- NVS_POWERUP (R339): the store becomes READY, the lockout's wait runs again (R347), and what waited goes on. -/
def execNvsPowerup (d : DieId) (s : State) : Host.Outcome State Fault Refusal :=
  onDie d s fun env x =>
    if x.on F.NVS_STATE_READY || x.nvs.doing.isSome then x
    else ((((x.completeTorn.set F.NVS_STATE_READY 1).showNvs).fire 66).startLockout env.now).storeFree env.now

/-- PAGE_WRITE_DONE (R334): the write's copies are complete; what waited for the page goes on. -/
def execPageWriteDone (d : DieId) (failed : List Nat) (s : State) : Host.Outcome State Fault Refusal :=
  onDieAlways d s fun env x =>
    match x.nvs.doing with
    | some r =>
      (match r.what, r.what.logical? with
        | .retire p _, _ => (x.finishRetire r.prio p).showNvs
        | _, some n => (x.finishPage r n failed).storeFree env.now
        | _, none => x)
    | none => x

end Sys2Proof.Machine
end

