-- ==== Sys2Proof/Machine/Vote.lean ====
section
/-!
DEFINITION. The alarm vote of a redundant pair (13_links.md, R381): PAIR_ALARM from this package's hits and the
partner's.
-/

namespace Sys2Proof.Machine

/-- The die holds the lead role of its package (R22, R378). -/
def Die.leads (x : Die) : Bool := x.on F.SYS_IDENT_LEAD

/-- Two frame numbers lie within a window of each other. -/
def withinFrames (w a b : Nat) : Bool := a ≤ b + w && b ≤ a + w

/-- PAIR_ALARM, event 126, for a frame of a class, once. -/
def Die.pairAlarm (x : Die) (key frame : Nat) : Die :=
  if x.vote.raised.look key = some (frame + 1) then x
  else ({ x with vote := { x.vote with raised := x.vote.raised.put key (frame + 1) } }).fire 126

/-- A hit enters the vote: with mode 0 the first hit of a frame in either package raises PAIR_ALARM; with mode 1 it is
raised when both packages have hit the class within WINDOW frames of each other (R381). -/
def Die.voteHit (x : Die) (own : Bool) (cls frame : Nat) : Die :=
  let y := { x with vote := if own then { x.vote with own := x.vote.own.put cls (frame + 1) }
                            else { x.vote with partner := x.vote.partner.put cls (frame + 1) } }
  if !(y.pairRole = 1 || y.pairRole = 2) || !(y.on F.PRL_CTRL_EN) || !(y.get F.PRL_VOTE_CLASSES).testBit cls then y
  else if y.get F.PRL_VOTE_MODE = 0 then y.pairAlarm (if own then 16 else 17) frame
  else
    match (if own then y.vote.partner else y.vote.own).look cls with
    | some g => if withinFrames (y.get F.PRL_VOTE_WINDOW) (frame + 1) g then y.pairAlarm cls frame else y
    | none => y

end Sys2Proof.Machine
end

