-- ==== Sys2Proof/Machine/Sieve.lean ====
section
/-!
DEFINITION. The Sieve (04_sieve.md): the correction arithmetic, coefficient rows, radiometric conversion, Weeder
marking, residues and slices, twin mode, hot-spot zones and their maps, banks, and the values that belong to frames.
The fill stage and the audit are in Weeder.lean.
-/

namespace Sys2Proof.Machine

/-! ### Frames -/

/-- The Sieve's hidden state changed. -/
def Die.onSieve (x : Die) (f : Sieve → Sieve) : Die := { x with sieve := f x.sieve }

/-- The radiometry's hidden state changed. -/
def Die.onRad (x : Die) (f : Rad → Rad) : Die := { x with rad := f x.rad }

/-- The record of thermal frame `n` changed. -/
def Die.onFrame (x : Die) (n : Nat) (f : ThermFrame → ThermFrame) : Die :=
  if x.frame.num = n then { x with frame := f x.frame }
  else if x.prevFrame.num = n then { x with prevFrame := f x.prevFrame } else x

/-- The flags of thermal frame `n` changed. -/
def Die.onFlags (x : Die) (n : Nat) (f : FrameFlags → FrameFlags) : Die :=
  x.onFrame n (fun r => { r with flags := f r.flags })

/-- An event that frame `n` raises once. -/
def Die.fireOnce (x : Die) (n e : Nat) : Die :=
  match x.frame? n with
  | some r => if r.seen.contains e then x
              else (x.onFrame n (fun r => { r with seen := r.seen ++ [e] })).fire e
  | none => x

/-- Frame `n` is counted (R129): neither HOLD nor SETTLING, not abandoned. -/
def Die.counted (x : Die) (n : Nat) : Bool :=
  match x.frame? n with
  | some r => !r.flags.hold && !r.flags.settling && !r.abandoned
  | none => false

/-- Frame `n` has had its FRAME_END marker. -/
def Die.frameEnded (x : Die) (n : Nat) : Bool := !(x.rake.frameOpen && x.frame.num = n)

/-- Some row of frame `n` has not left the Sieve. -/
def Die.rowsToCome (x : Die) (n : Nat) : Bool :=
  x.acb.rows.any (fun r => r.frame = n) || x.sieve.waiting.any (fun r => r.frame = n) ||
    (match x.sieve.inside with | some r => r.frame = n | none => false)

/-- Every row of frame `n` in the Sieve and the fill stage is discarded (R51). -/
def Die.discardRows (x : Die) (n : Nat) : Die :=
  x.onSieve (fun s => { s with waiting := s.waiting.filter (fun r => r.frame != n)
                               inside := s.inside.filter (fun r => r.frame != n)
                               held := s.held.filter (fun r => r.frame != n)
                               above := s.above.filter (fun r => r.frame != n) })

/-- No thermal frame is produced for frame `n`: its number is used up and the next one delivered carries GAP
(R51, R106, R198), also where no context has the frame yet. One that is `abandoned` hands its SETTLING on (Table 0.6). -/
def Die.loseFrame (x : Die) (n : Nat) (abandoned : Bool) : Die :=
  match x.frame? n with
  | some r =>
    if r.abandoned then x
    else
      let y := x.onFrame n (fun r => { r with abandoned := true })
      let l := (List.range 8).filter (fun m => y.get (F.CTX_SRC_SRC m) = 0)
      if l.isEmpty then { y with gapDue := true }
      else l.foldl (fun y m => (y.handOn m n (abandoned && r.flags.settling)).removeFrame m n) y
  | none => x

/-- The values of frame `n` (R120). -/
def Die.sieveParams (x : Die) (n : Nat) : SieveParams := if x.sieve.prev.frame = n then x.sieve.prev else x.sieve.cur

/-! ### The correction arithmetic (R108 to R114) -/

/-- INV(n): 2^20 / n to the nearest integer (R108). -/
def inv (n : Nat) : Nat := if n = 0 then 0 else (2 * 2 ^ 20 + n) / (2 * n)

/-- The mean sample M of a result (R108). -/
def meanM (a : AccResult) (shift : Nat) : Nat := (a.p * 2 ^ shift * 16 * inv a.n + 2 ^ 19) >>> 20

/-- The mean of a half window (R109). -/
def meanHalf (sum n : Nat) : Nat := (sum * 16 * inv n + 2 ^ 19) >>> 20

/-- The self-heating slope S (R109). -/
def slope (a : AccResult) : Int :=
  if a.ne = 0 ∨ a.n = a.ne then 0 else (meanHalf a.l (a.n - a.ne) : Int) - meanHalf a.e a.ne

/-- A coefficient word (Table 4.4). -/
structure Coef where
  g : Nat
  o : Int
  d1 : Int
  d2 : Int
  h : Int
  flags : Nat

/-- The fields of a coefficient word. -/
def coefOf (w : Nat) : Coef :=
  { g := bits w 48 16, o := toSigned 16 (bits w 32 16), d1 := toSigned 10 (bits w 22 10)
    d2 := toSigned 8 (bits w 14 8), h := toSigned 6 (bits w 8 6), flags := bits w 0 8 }

/-- The late word (R119): G 16,384, flags DEFECT. -/
def lateWord : Nat := 0x4000000000000001

/-- ±524,287. -/
def sat19 (i : Int) : Int := clampI (-524287) 524287 i

/-- A shift with rounding, halves towards +∞ (R113). -/
def roundShift (v : Int) (s : Nat) : Int := if s = 0 then v else asr (v + (2 ^ (s - 1) : Nat)) s

/-- What the correction makes of one pixel: A, S, X, Y, and whether X or Y saturated. -/
structure Corrected where
  a : Int
  s : Int
  x : Int
  y : Nat
  sat : Bool

/-- R110, R112 to R114: one pixel corrected, with the errors that residue failures put into A, X and Y. -/
def correct (p : SieveParams) (c : Coef) (m : Nat) (s b ea ex ey : Int) : Corrected :=
  let a := sat19 ((m : Int) - b + ea)
  let t1 := sat19 (roundShift (c.d1 * p.dtf) p.d1Shift)
  let t2 := sat19 (roundShift (c.d2 * p.dth) p.d2Shift)
  let t3 := sat19 (roundShift (c.h * s) p.hShift)
  let xr := a - 2 * c.o - t1 - t2 - t3 + ex
  let x := sat19 xr
  let yr := asr (x * c.g + 2 ^ 15) 16 + p.k + ey
  { a := a, s := s, x := x, y := satU 16 yr, sat := decide (x ≠ xr) || decide (yr < 0) || decide (65535 < yr) }

/-- The mean of references (Table 4.3). -/
def meanRefs (l : List Int) : Int := asr (l.sum * inv l.length + 2 ^ 19) 20

/-- Radiometric conversion (R121, R122). -/
def toT (resp : RegMap) (gain y : Nat) : Nat :=
  let e := (resp.look (4096 * gain + y / 16)).getD 0
  satU 16 ((bits e 0 16 : Int) + asr (toSigned 16 (bits e 16 16) * (y % 16 : Nat) + 8) 4)

/-! ### Coefficient rows (R115 to R119, R131) -/

/-- The trim map column of a channel's blind pixel. -/
def blindCol (ch : Nat) : Nat := 2560 + ch

/-- A row's coefficient words by channel, from the plane at `base`. -/
def coefWords (mem : Memory) (base row channels : Nat) : List (List Nat) :=
  (List.range channels).map (fun ch => (List.range 6).map (fun ph =>
    mem.readLE (base + (3072 * row + trimColumn ch ph) * 8) 8))

/-- The DRAM offset of the dynamic defect map. -/
def Die.dmapBase (x : Die) : Nat := x.get F.WDR_DMAP_BASE_BASE * 4096

/-- A row's bits of the dynamic defect map. -/
def dmapRow (mem : Memory) (base row : Nat) : List Bool :=
  (mem.readBytes (base + 320 * row) 320).flatMap (fun b => (List.range 8).map (fun i => b.toNat.testBit i))

/-- The columns of the array in use. -/
def Die.columns (x : Die) : Nat := 80 * (x.get F.SEQ_ARRAY_NCLU_M1 + 1)

/-- The channels in use. -/
def Die.channels (x : Die) : Nat := 16 * (x.get F.SEQ_ARRAY_NCLU_M1 + 1)

/-- The frame that a fetch of `row` serves: an earlier frame's row still to enter the Sieve, or the frame begun
last. -/
def Die.fetchFrame (x : Die) (row : Nat) : Nat :=
  let p := x.sieve.prev.frame
  if (x.acb.rows.any (fun r => r.row = row && r.frame = p) || x.sieve.waiting.any (fun r => r.row = row && r.frame = p))
      && !x.cmm.halves.any (fun h => h.row = row && h.frame = p) then p else x.sieve.cur.frame

/-- CMM_FETCH_DONE (R118, R119): the row's coefficient words and dynamic defect bits lie in a half of the row
buffer. -/
def execCmmFetchDone (d : DieId) (row cycles : Nat) (bad : List Nat) (s : State) : Host.Outcome State Fault Refusal :=
  onDie d s fun env x =>
    if !x.on F.CMM_CTRL_EN then x
    else
      let fr := x.fetchFrame row
      let p := x.sieveParams fr
      let dyn := (x.wdr.fresh.filter (fun e => e.1 = row)).foldl (fun l e => listSet l e.2.1 e.2.2)
        (dmapRow env.mem x.dmapBase row)
      let half : CoefRow := { row := row, frame := fr, words := coefWords env.mem p.plane row x.channels, bad := bad
                              dyn := dyn }
      let y := { x with cmm := { x.cmm with halves := (half :: x.cmm.halves).take 2 } }
      let y := (y.set F.CMM_FETCH_LAST (min cycles 65535)).peak F.CMM_FETCH_MAX (min cycles 65535)
      bad.foldl (fun y k => ((((y.count (F.ERR_CNT_UNCORR 0x33)).set F.CMM_ERR_ADDR_GAIN p.gain).set
        F.CMM_ERR_ADDR_ROW row).set F.CMM_ERR_ADDR_COL k).fire 378) y

/-! ### Slices (R134, R135) -/

/-- A slice is out of service. -/
def Die.sliceOut (x : Die) (s : Nat) : Bool := x.bitOf F.SVE_SLICE_OUT s

/-- The slice that serves region `r`; 7 where none does. -/
def Die.sliceOf (x : Die) (r : Nat) : Nat := x.get (F.SVE_SLICE_SLICE r)

/-- Region `r` is served by a slice of another region: not its own, not the spare standing in for it, not none at all. -/
def Die.sliceShared (x : Die) (r : Nat) : Bool :=
  x.sliceOf r != r && x.sliceOf r != 7 && !(x.sliceOf r = 4 && x.sieve.spareFor = some r)

/-- The twin slice of a region: the next after its primary among those in service (R135). -/
def Die.twinOf (x : Die) (r : Nat) : Nat :=
  let p := x.sliceOf r
  (([1, 2, 3, 4].map (fun i => (p + i) % 5)).find? (fun s => !x.sliceOut s)).getD 7

/-- Twin mode is in force: set for the frame, every region on a slice of its own, and a second slice in service. -/
def Die.twinInForce (x : Die) (p : SieveParams) : Bool :=
  p.twin && x.regions.all (fun r => !x.sliceShared r && x.twinOf r < 5)

/-- What the SVE page shows of its slices (R23, R134, Table 1.3). -/
def Die.showSlices (x : Die) : Die :=
  let y := (x.setB F.SVE_SLICE_SPARE_BUSY ((List.range 4).any (fun r => x.sliceOf r = 4))).setB F.SVE_SLICE_TWINACT
    (x.twinInForce x.sieve.cur)
  let y := y.setB (F.STAT_GRAFTED 0x30) ((List.range 4).any (fun r => y.sliceOf r = 4))
  let y := y.setB (F.STAT_DEGRADED 0x30) ((List.range 4).any (fun r => y.sliceShared r))
  let y := y.setB (F.STAT_FAULT 0x30) ((List.range 4).any (fun r => y.sliceOf r = 7))
  y.cond 356 ((List.range 4).any (fun r => y.sliceShared r))

/-- Region `r` given to a slice: the spare if it is free, else the first in service in the order of R134. -/
def Die.assignSlice (x : Die) (r : Nat) : Die :=
  if !x.sliceOut r then x.set (F.SVE_SLICE_SLICE r) r
  else if !x.sliceOut 4 && x.sieve.spareFor.isNone then
    (x.set (F.SVE_SLICE_SLICE r) 4).onSieve (fun s => { s with spareFor := some r })
  else
    match [(r + 1) % 4, (r + 2) % 4, (r + 3) % 4, 4].find? (fun s => !x.sliceOut s) with
    | some s => x.set (F.SVE_SLICE_SLICE r) s
    | none => x.set (F.SVE_SLICE_SLICE r) 7

/-- A change of the slices is reported (R134, R23). -/
def Die.sliceChanged (x : Die) : Die := ((((x.showSlices.fire 355).markGraft).fire 609).showNoSpare).wearBit 6 x.serversWorn

/-- The spare goes to region `r` when the one it serves lost its slice in the same PERI cycle and has the higher number; that one
is given to another slice (R405). -/
def Die.firstSpare (x : Die) (r : Nat) : Die :=
  match x.sieve.spareFor with
  | some q =>
    if r < q && q < 4 && x.sliceOut r && x.sliceOut q && x.sameCycle 3 r q then
      ((x.set (F.SVE_SLICE_SLICE r) 4).onSieve (fun s => { s with spareFor := some r })).assignSlice q
    else x
  | none => x

/-- A slice leaves service, and the regions it serves are given to others (R134). -/
def Die.dropSlice (x : Die) (s : Nat) : Die :=
  if x.sliceOut s then x
  else
    let y := x.setBit F.SVE_SLICE_OUT s true
    let y := if s = 4 then y.onSieve (fun v => { v with spareFor := none }) else y
    (((List.range 4).foldl (fun y r => if x.sliceOf r = s then y.assignSlice r else y) y).firstSpare s).sliceChanged

/-- Of some regions whose slices are out of service, the one whose slice suffered its error first; the lower number in the same
PERI cycle (R405). -/
def Die.firstOut (x : Die) (l : List Nat) : Option Nat :=
  let at_ (r : Nat) : Nat := ((x.resource? 3 r).map (·.since)).getD 0
  l.foldl (fun b r => match b with
    | some q => if at_ r < at_ q then some r else some q
    | none => some r) none

/-- The region that the spare stands in for: the one it stood in for already, or else the first of those it serves. -/
def Die.spareRegion (x : Die) : Option Nat :=
  let on4 := (List.range 4).filter (fun r => x.sliceOf r = 4)
  match x.sieve.spareFor with
  | some q => if on4.contains q then some q else x.firstOut on4
  | none => x.firstOut on4

/-- A spare that has become free takes the region of a slice that has waited for one (R406). -/
def Die.spareAgain (x : Die) : Die :=
  let y := x.onSieve (fun v => { v with spareFor := x.spareRegion })
  if y.sliceOut 4 || y.sieve.spareFor.isSome then y
  else match y.firstOut ((List.range 4).filter (fun r => y.sliceOut r && y.sliceOf r != 7)) with
    | some r => y.assignSlice r
    | none => y

/-- A slice returns: its own region comes back to it, the spare that served it is released, and it takes regions left
without a slice (R134). -/
def Die.restoreSlice (x : Die) (s : Nat) : Die :=
  if !x.sliceOut s then x
  else
    let y := x.setBit F.SVE_SLICE_OUT s false
    let y := if y.sieve.spareFor = some s then y.onSieve (fun v => { v with spareFor := none }) else y
    let y := if s < 4 then y.set (F.SVE_SLICE_SLICE s) s else y
    let y := (List.range 4).foldl (fun y r => if x.sliceOf r = 7 && r != s then y.assignSlice r else y) y
    y.spareAgain.sliceChanged

/-- The removals that waited for the next row land (R134). -/
def Die.landSlices (x : Die) : Die :=
  x.sieve.removing.foldl (fun y s => y.dropSlice s) (x.onSieve (fun s => { s with removing := [] }))

/-- A slice is to leave service from the next row to enter; with no row in the Sieve, at once (R134). Between frames the change is
one of the frame that begins next, whose rows are the first that it touches (log entry 104). -/
def Die.removeSlice (x : Die) (s : Nat) : Die :=
  if x.sliceOut s || x.sieve.removing.contains s then x
  else
    let y := x.onSieve (fun v => { v with removing := v.removing ++ [s], returning := v.returning.filter (· != s) })
    if y.sieve.inside.isSome then y
    else if x.rake.frameOpen || !x.sieve.waiting.isEmpty then y.landSlices
    else y.landSlices.onSieve (fun v => { v with graftDue := true })

/-- An error in a slice: it leaves service and is marked for its test (R134, R405). -/
def Die.failSlice (x : Die) (s cause now : Nat) : Die := if s < 5 then (x.resError 3 s cause now).removeSlice s else x

/-- The test of slice `s`, the first of two twins, is over: the second one's follows (R136). -/
def Die.nextTwin (x : Die) (s now : Nat) : Die :=
  (x.sieve.twins.filter (fun e => e.1 = s)).foldl (fun y e => y.failSlice e.2 3 now)
    (x.onSieve (fun v => { v with twins := v.twins.filter (fun e => e.1 != s) }))

/-- The slices that return at a FRAME_START (R134). One whose removal has not landed yet has not left, and stays. -/
def Die.returnSlices (x : Die) (now : Nat) : Die :=
  let l := x.sieve.returning
  let y := x.onSieve (fun s => { s with returning := [], removing := s.removing.filter (fun k => !l.contains k) })
  l.foldl (fun y s => y.nextTwin s now) (l.foldl (fun y s => y.restoreSlice s) y)

/-- A residue failure reported (R133): RESID, its count and its place. -/
def Die.noteResid (x : Die) (slice stage row col : Nat) : Die :=
  ((((((x.count (F.ERR_CNT_RESID 0x30)).set F.SVE_RESID_LAST_SLICE slice).set F.SVE_RESID_LAST_STAGE stage).set
    F.SVE_RESID_LAST_ROW row).set F.SVE_RESID_LAST_COL col).fire 353)

/-! ### Hot-spot zones (R137 to R143) -/

/-- A tile's entry in a frame's zone map; a tile read with an error in that frame is RAD_TILE_DEF, counted at its first pixel in
its first frame (R143). -/
def Die.tileEntry (x : Die) (p : SieveParams) (tile : Nat) : Nat :=
  if x.rad.bad.contains (p.frame, tile) then
    x.get F.RAD_TILE_DEF_CLASS <<< 20 + x.get F.RAD_TILE_DEF_ALARM <<< 18 + x.get F.RAD_TILE_DEF_PIN <<< 17
      + x.get F.RAD_TILE_DEF_EN <<< 16 + x.get F.RAD_TILE_DEF_THRESH
  else (p.zones.look tile).getD 0

/-- A pixel's temperature exceeds its tile's threshold in an enabled tile (R138). -/
def aboveThresh (e t : Nat) : Bool := bit e 16 && decide (bits e 0 16 < t)

/-- HOTSPOT, event 370: the pin is driven low. -/
def Die.showPin (x : Die) : Die := x.cond 370 x.rad.pinLow

/-- The first hit of a frame recorded (R139). -/
def Die.recordHit (x : Die) (row col cls t frame : Nat) (twin : Bool) : Die :=
  ((((((((x.set F.RAD_HIT_POS_ROW row).set F.RAD_HIT_POS_COL col).set F.RAD_HIT_INFO_VALID 1).setB
    F.RAD_HIT_INFO_TWIN twin).set F.RAD_HIT_INFO_CLASS cls).set F.RAD_HIT_INFO_T t).set F.RAD_HIT_FRAME_FRAME frame)).fire 369

/-- An ALARM is due for a class: it did not hit in the previous counted frame, or REPEAT counted frames of hits have
passed (R142). -/
def Die.alarmDue (x : Die) (cls frame : Nat) : Bool :=
  let n := (x.rad.streaks.look cls).getD 0
  let r := x.get F.RAD_ALARM_REPEAT
  n = 0 || (decide (0 < r) && n % r = 0 && x.counted frame)

/-- A hit in an ALARM tile: at most one ALARM of its class in a frame (R142). -/
def Die.alarmHit (x : Die) (env : Env) (cls tile t frame : Nat) : Die :=
  if x.rad.alarmed.contains cls then x
  else
    let y := x.onRad (fun r => { r with alarmed := r.alarmed ++ [cls] })
    if x.alarmDue cls frame then (y.send (.alarm env.die cls tile t (frame % 65536))).fire 373 else y

/-- A tile hits at a pixel (R138, R139, R142, R381). -/
def Die.tileHit (x : Die) (env : Env) (e tile row col t frame : Nat) (twin : Bool) : Die :=
  let cls := bits e 20 4
  let pin := bit e 17
  let y := if x.rad.hits.isEmpty then x.recordHit row col cls t frame twin else x
  let y := y.onRad (fun r => { r with hits := r.hits ++ [tile], pinHit := r.pinHit || pin
                                      classes := if r.classes.contains cls then r.classes else r.classes ++ [cls] })
  let y := if pin && y.on F.RAD_CTRL_PIN_EN then (y.onRad (fun r => { r with pinLow := true, pinAt := some env.now })).showPin else y
  let y := if bit e 18 && y.on F.RAD_CTRL_ALARM_EN then y.alarmHit env cls tile t frame else y
  let y := y.send (.pairHit cls tile t frame pin)
  if y.leads then y.voteHit true cls frame else y

/-- A pixel above its tile's threshold is counted; the one that completes the count is the tile's hit, when the tile
reached its count in the counted frames before (R138). The second part says that it hit. -/
def Die.countPixel (x : Die) (env : Env) (e tile row col t frame : Nat) (twin : Bool) : Die × Bool :=
  let n := (x.rad.above.look tile).getD 0 + 1
  let y := x.onRad (fun r => { r with above := r.above.put tile n })
  if n ≠ bits e 24 4 + 1 then (y, false)
  else
    let y := y.onRad (fun r => { r with reached := r.reached ++ [tile] })
    if (y.rad.runs.look tile).getD 0 < bits e 28 4 then (y, false)
    else (y.tileHit env e tile row col t frame twin, true)

/-- The pin rises (R140). -/
def Die.releasePin (x : Die) : Die := (x.onRad (fun r => { r with pinLow := false })).showPin

/-- RAD_HS_CLR written (R140): acts only while PINMODE is 0, and not in the PERI cycle of a hit (log entry 3). -/
def Die.clearPin (x : Die) (now : Nat) : Die :=
  if x.on F.RAD_CTRL_PINMODE || x.rad.pinAt = some now then x else x.releasePin

/-- HOTSPOT_CLEAR (R140). -/
def execHotspotClear (d : DieId) (s : State) : Host.Outcome State Fault Refusal :=
  onDie d s fun env x => x.clearPin env.now

/-- The tile-hit map: 640 bytes, the frame number, zeros (R141). -/
def hitMap (hits : List Nat) : List Byte :=
  (List.range 640).map (fun b => BitVec.ofNat 8 (maskOf 8 (fun i => hits.contains (80 * (b / 10) + 8 * (b % 10) + i))))

/-- The tile-hit map of the frame compared last goes into the ring and to the pair (R141, R382). -/
def Die.writeMap (x : Die) : Die :=
  let n := x.rad.tileFrame
  let slot := if x.on F.RAD_MAP_IDX_WRITTEN then (x.get F.RAD_MAP_IDX_SLOT + 1) % 16 else 0
  let m := hitMap x.rad.hits
  let y := x.dramWrite (x.get F.RAD_MAP_BASE_BASE * 4096 + 1024 * slot) (padTo 1024 (m ++ bytesLE 8 n))
  ((((y.set F.RAD_MAP_IDX_SLOT slot).set F.RAD_MAP_IDX_WRITTEN 1).set F.RAD_MAP_IDX_FRAME n)).send (.pairMap n m)

/-- The counted frames in a row that each class has hit in, after a counted frame (R142). -/
def nextStreaks (runs : RegMap) (hit : List Nat) : RegMap := hit.foldl (fun m c => m.put c ((runs.look c).getD 0 + 1)) []

/-- The runs of the tiles after a counted frame: one more for a tile that reached its count, none for the others. -/
def nextRuns (runs : RegMap) (reached : List Nat) : RegMap :=
  reached.foldl (fun m t => m.put t (min 16 ((runs.look t).getD 0 + 1))) []

/-- The comparison of a frame ends (R138, R140 to R142): its count of tiles, its map, and, for a counted frame, the runs
of tiles and classes and the release of the pin. -/
def Die.closeTiles (x : Die) : Die :=
  if x.rad.closed then x
  else
    let n := x.rad.tileFrame
    let hold := match x.frame? n with | some r => r.flags.hold || r.abandoned | none => true
    let y := x.set F.RAD_HIT_CNT_TILES x.rad.hits.length
    let y := if hold || !x.on F.RAD_CTRL_HS_EN then y else y.writeMap
    let y := if x.counted n then
        let z := y.onRad (fun r => { r with runs := nextRuns r.runs r.reached, streaks := nextStreaks r.streaks r.classes })
        if x.on F.RAD_CTRL_PINMODE && !x.rad.pinHit then z.releasePin else z
      else y
    y.onRad (fun r => { r with closed := true, above := [], reached := [], hits := [], pinHit := false, classes := []
                               alarmed := [] })

/-- TILE_MAP_WRITE (R141): the last row of an ended frame has left the Sieve. -/
def execTileMapWrite (d : DieId) (s : State) : Host.Outcome State Fault Refusal :=
  onDie d s fun _ x =>
    if x.frameEnded x.rad.tileFrame && !x.rowsToCome x.rad.tileFrame then x.closeTiles else x

/-- The first row of a frame to be compared opens its counts; a frame before it that is still open is closed. -/
def Die.openTiles (x : Die) (frame : Nat) : Die :=
  if x.rad.tileFrame = frame && !x.rad.closed then x
  else x.closeTiles.onRad (fun r => { r with tileFrame := frame, closed := false })

/-! ### A row through the Sieve -/

/-- A blind pixel's reference in a row, when it is valid (R110, R111). -/
structure BlindRef where
  ref : Int
  valid : Bool

/-- A pixel's coefficient word as it enters: the late word where it is late or uncorrectable (R119). -/
def wordAt (off : Bool) (late bad : List Nat) (words : List (List Nat)) (ch ph : Nat) : Nat :=
  if off || late.contains (trimColumn ch ph) || bad.contains (trimColumn ch ph) then lateWord
  else ((words.getD ch []).getD ph lateWord)

/-- The blind references of a row (R110, R111); `errs` are added by failures of a blind lane. -/
def blindRefs (row : AccRow) (word : Nat → Nat → Nat) (errs : Nat → Int) : List BlindRef :=
  (row.chans.zipIdx).map (fun e =>
    match e.1[5]? with
    | some a =>
      let c := coefOf (word e.2 5)
      { ref := (meanM a row.shift : Int) - 2 * c.o + errs e.2
        valid := !a.void && !a.trimerr && !bit c.flags 0 && !bit c.flags 3 }
    | none => { ref := 0, valid := false })

/-- The channels from `lo`, `n` of them, whose blind pixel is valid. -/
def validRefs (refs : List BlindRef) (lo n : Nat) : List Nat :=
  (List.range n).filterMap (fun i => match refs[lo + i]? with
    | some r => if r.valid then some (lo + i) else none
    | none => none)

/-- The channels whose references form B of channel `ch` (Table 4.3, R111); none where B is 0. -/
def refChannels (bref : Nat) (refs : List BlindRef) (ch : Nat) : List Nat :=
  let own := validRefs refs ch 1
  let clu := validRefs refs (16 * (ch / 16)) 16
  let reg := validRefs refs (128 * (ch / 128)) 128
  if bref = 3 then [] else if bref = 0 && !own.isEmpty then own
  else if bref ≤ 1 && !clu.isEmpty then clu else reg

/-- B of a channel from the channels that form it: a reference by itself, or their mean. -/
def refOf (bref : Nat) (refs : List BlindRef) (ch : Nat) (l : List Nat) : Int :=
  let val (i : Nat) : Int := match refs[i]? with | some r => r.ref | none => 0
  if l.isEmpty then 0 else if bref = 0 && l = [ch] then val ch else meanRefs (l.map val)

/-- A pixel as it leaves its slice; `table` is the stage at which an uncorrectable table or zone map entry failed it, `twinTable` the
same of its copy, `copy` what the twin slice makes of its Y and T. -/
structure Passed where
  col : Nat
  c : Corrected
  t : Nat
  flags : Nat
  dyn : Bool
  invalid : Bool
  ovrsat : Bool
  arith : Bool
  twinArith : Bool
  dep : Bool
  table : Option Nat
  twinTable : Option Nat
  copy : Nat × Nat
  diff : Option (Nat × Nat)
  mark : Bool
  lost : Bool

/-- The fault errors of a pixel over a range of stages. -/
def errSum (l : List ResidFault) (lo hi : Nat) : Int :=
  ((l.filter (fun f => lo ≤ f.stage && f.stage ≤ hi)).map (·.err)).sum

/-- A residue check detects an error that is not divisible by 7 (R132). -/
def residDetected (f : ResidFault) : Bool := f.err % 7 != 0

/-- Y and T of a pixel as a slice with these faults makes them (R108 to R114, R122, R123). -/
def Die.sliceResult (x : Die) (p : SieveParams) (row : AccRow) (c : Coef) (b : Int) (ovrsat : Bool) (a : AccResult)
    (faults : List ResidFault) : Corrected × Nat :=
  let k := correct p c (meanM a row.shift) (slope a) b (errSum faults 1 3) (errSum faults 4 5) (errSum faults 6 7)
  let conv := satU 16 ((toT p.resp row.gain k.y : Int) + errSum faults 8 10)
  (k, if !x.on F.RAD_CTRL_EN then 0 else if ovrsat then 65535 else conv)

/-- One active pixel through its slice (R108 to R114, R122 to R124, R132, R133, R136); `badCols` are the columns that read their
zone map entry with an uncorrectable error. -/
def Die.passPixel (x : Die) (p : SieveParams) (row : AccRow) (f : RowFaults) (twin : Bool) (word : Nat → Nat → Nat)
    (dyn : List Bool) (badCols : List Nat) (b : Int) (failed : Bool) (ch ph : Nat) (a : AccResult) : Passed :=
  let col := 5 * ch + ph
  let lost := x.sliceOf (col / 640) = 7
  let own := f.resid.filter (fun r => !r.blind && !r.twin && r.col = col)
  let c := coefOf (word ch ph)
  let twins := f.resid.filter (fun r => !r.blind && r.twin && r.col = col)
  let ovrsat := x.on F.RAD_CTRL_OVRSAT && 0 < a.ovr
  let (k, conv) := x.sliceResult p row c b ovrsat a own
  let t := if lost then 0 else conv
  let badEntry (y : Nat) : Option Nat :=
    if f.entries.contains (4096 * row.gain + y / 16) then some 8 else if badCols.contains col then some 9 else none
  let table := badEntry k.y
  let arith := own.any residDetected || table.isSome
  let other := x.sliceResult p row c b ovrsat a twins
  let copy := match f.twin.find? (fun e => e.1 = col) with
    | some e => e.2
    | none => (other.1.y, other.2)
  let twinTable := if twin then badEntry copy.1 else none
  let twinArith := twin && twins.any residDetected || twinTable.isSome
  let diff := if twin && !arith && !twinArith && (copy.1 != k.y || copy.2 != t) then some copy else none
  let dynBit := dyn.getD col false
  let cause := (bit c.flags 0 || (dynBit && x.on F.WDR_CTRL_USEDYN) || a.void || a.trimerr ||
    arith || twinArith || failed || diff.isSome) && !ovrsat
  { col := col, c := k, t := t, flags := c.flags, dyn := dynBit, invalid := a.void || a.trimerr, ovrsat := ovrsat
    arith := arith && !lost, twinArith := twinArith && !lost, dep := failed && !lost, table := if lost then none else table
    twinTable := if lost then none else twinTable
    copy := copy, diff := if lost then none else diff
    mark := x.on F.WDR_CTRL_EN && cause && !lost, lost := lost }

/-- What each result of a pixel offers to its tile: the primary's T, and in twin mode the twin's (R138). -/
def Passed.offers (q : Passed) (twin copy : Bool) : Option Nat :=
  if q.lost || bit q.flags 1 then none
  else if copy then (if !twin || q.twinArith then none else some (if q.ovrsat then q.t else q.copy.2))
  else if q.ovrsat then some q.t
  else if twin then (if q.arith || (q.mark && q.twinArith) then none else some q.t)
  else if q.mark then none else some q.t

/-- One result of a row compared against its tile; the accumulator holds the columns counted and those that hit. -/
def Die.comparePixel (env : Env) (p : SieveParams) (row frame : Nat) (copy : Bool) (acc : Die × List Nat × List Nat)
    (col t : Nat) : Die × List Nat × List Nat :=
  let tile := 80 * (row / 32) + col / 32
  let e := acc.1.tileEntry p tile
  if aboveThresh e t && !acc.2.1.contains col then
    let r := acc.1.countPixel env e tile row col t frame copy
    (r.1, col :: acc.2.1, if r.2 then col :: acc.2.2 else acc.2.2)
  else acc

/-- The row's pixels in the order in which they leave their slices: by local column, then region. -/
def leaveOrder (l : List Passed) : List Passed :=
  (List.range 640).flatMap (fun i => (List.range 4).filterMap (fun r => l[640 * r + i]?))

/-- The hot-spot comparison of a row: every primary result, then every twin result. The second part lists the columns
that hit (R138). -/
def Die.compareRow (x : Die) (env : Env) (p : SieveParams) (row frame : Nat) (twin : Bool) (l : List Passed) : Die × List Nat :=
  if !x.on F.RAD_CTRL_HS_EN || !p.viewOpen then (x, [])
  else
    let order := leaveOrder l
    let run (copy : Bool) (acc : Die × List Nat × List Nat) : Die × List Nat × List Nat :=
      order.foldl (fun acc q => match q.offers twin copy with
        | some t => Die.comparePixel env p row frame copy acc q.col t
        | none => acc) acc
    let r := run false (x, [], [])
    let r := if twin then run true r else r
    (r.1, r.2.2)

/-- The twin results of a row counted; more than SVE_TWIN.LIMIT in a frame send both slices to their tests, the second once the
first one's is over (R136). Which two slices are concerned where the pixels that disagree lie in several regions is the model's own
choice: those of the region of the pixel that passes the limit, in column order of the row (log entry 104). -/
def Die.noteTwins (x : Die) (now frame : Nat) (l : List Passed) : Die :=
  let d := l.filter (fun q => q.diff.isSome)
  match d.head? with
  | none => x
  | some q =>
    let was := match x.frame? frame with | some r => r.twin | none => 0
    let y := ((x.onFrame frame (fun r => { r with twin := r.twin + d.length })).onFlags frame
      (fun g => { g with twinfail := true })).fireOnce frame 354
    let lim := x.get F.SVE_TWIN_LIMIT
    if was ≤ lim && lim < was + d.length then
      let at' := (d.getD (lim - was) q).col / 640
      let p := y.sliceOf at'
      let t := y.twinOf at'
      ((y.fire 359).failSlice p 3 now).onSieve (fun v => { v with twins := if t < 5 then v.twins ++ [(p, t)] else v.twins })
    else y

/-- The residue failures of a row: each is reported, and its slice leaves service while AUTOGRAFT is 1
(R133, R134). What SVE_RESID_LAST.COL, a local column, shows of a failure in a blind lane is the model's own choice: the channel
within its region, modulo 128 (log entry 104). -/
def Die.noteResids (x : Die) (now row frame : Nat) (twin : Bool) (f : RowFaults) (l : List Passed) : Die :=
  let auto := x.on F.SVE_CTRL_AUTOGRAFT
  let fail (y : Die) (slice : Nat) : Die := if auto then y.failSlice slice 2 now else y
  let resid := f.resid.filter residDetected
  let entry := l.filter (fun q => q.table.isSome && !resid.any (fun r => !r.blind && !r.twin && r.col = q.col))
  let y := resid.foldl (fun y r =>
    let reg := if r.blind then r.col / 128 else r.col / 640
    let s := if r.twin then x.twinOf reg else x.sliceOf reg
    if s = 7 || (r.twin && !twin) then y
    else fail (y.noteResid (if r.blind then 5 else s) r.stage row (if r.blind then r.col % 128 else r.col % 640)) s) x
  let y := entry.foldl (fun y q => fail (y.noteResid (x.sliceOf (q.col / 640)) (q.table.getD 8) row (q.col % 640)) (x.sliceOf (q.col / 640))) y
  let copies := l.filter (fun q => q.twinTable.isSome && !resid.any (fun r => !r.blind && r.twin && r.col = q.col))
  let y := copies.foldl (fun y q => fail (y.noteResid (x.twinOf (q.col / 640)) (q.twinTable.getD 8) row (q.col % 640)) (x.twinOf (q.col / 640))) y
  let n := (l.filter (fun q => q.arith || q.twinArith || q.dep)).length
  if n = 0 && !resid.any (fun r => r.blind && x.sliceOf (r.col / 128) ≠ 7) then y
  else (y.onFrame frame (fun r => { r with arith := r.arith + n })).onFlags frame (fun g => { g with arith := true })

/-- The armed capture takes its pixel (SVE_CAP_CTRL). -/
def Die.sieveCapture (x : Die) (row : AccRow) (refs : List Int) (hits : List Nat) (l : List Passed) : Die :=
  let col := x.get F.SVE_CAP_CTRL_COL
  if !x.sieve.capture || x.get F.SVE_CAP_CTRL_ROW ≠ row.row then x
  else
    let y := ((x.onSieve (fun s => { s with capture := false })).set F.SVE_CAP_CTRL_DONE 1).set F.SVE_CAP_FRAME_FRAME row.frame
    let clr (y : Die) : Die := ((((((((y.set F.SVE_CAP_S_VALUE 0).set F.SVE_CAP_X_VALUE 0).set F.SVE_CAP_YT_T 0).set
      F.SVE_CAP_YT_Y 0).set F.SVE_CAP_F_SLICE 0).set F.SVE_CAP_F_INVALID 0).set F.SVE_CAP_F_OVRSAT 0).set F.SVE_CAP_F_HIT 0)
    let clr2 (y : Die) : Die := ((((((clr y).set F.SVE_CAP_F_MARKED 0).set F.SVE_CAP_F_SAT 0).set F.SVE_CAP_F_TWINFAIL 0).set
      F.SVE_CAP_F_ARITH 0).set F.SVE_CAP_F_DYN 0).set F.SVE_CAP_F_FLAGS 0
    if 2560 ≤ col then (clr2 y).setS F.SVE_CAP_A_VALUE (refs.getD (col - 2560) 0)
    else
      match l[col]? with
      | none => x
      | some q =>
        let y := (((y.setS F.SVE_CAP_A_VALUE q.c.a).setS F.SVE_CAP_S_VALUE q.c.s).setS F.SVE_CAP_X_VALUE q.c.x)
        let y := ((y.set F.SVE_CAP_YT_T q.t).set F.SVE_CAP_YT_Y q.c.y).set F.SVE_CAP_F_SLICE (x.sliceOf (col / 640))
        let y := ((y.setB F.SVE_CAP_F_INVALID q.invalid).setB F.SVE_CAP_F_OVRSAT q.ovrsat).setB F.SVE_CAP_F_HIT (hits.contains col)
        let y := ((y.setB F.SVE_CAP_F_MARKED q.mark).setB F.SVE_CAP_F_SAT q.c.sat).setB F.SVE_CAP_F_TWINFAIL q.diff.isSome
        ((y.setB F.SVE_CAP_F_ARITH q.arith).setB F.SVE_CAP_F_DYN q.dyn).set F.SVE_CAP_F_FLAGS q.flags

/-- A row in limited mode: P, or A + 8 >> 4 about 32,768 with every coefficient 0 (R324). -/
def Die.limitedRow (x : Die) (row : AccRow) : SieveRow :=
  let p := x.sieveParams row.frame
  let refs := blindRefs row (fun _ _ => 0) (fun _ => 0)
  let pix := (row.chans.zipIdx).flatMap (fun e =>
    let b := refOf p.bref refs e.2 (refChannels p.bref refs e.2)
    (e.1.take 5).map (fun a =>
      let v := if x.on F.RST_BOOT_LIMFMT then satU 16 (asr (sat19 ((meanM a row.shift : Int) - b) + 8) 4 + 32768)
               else min a.p 65535
      { x := 0, y := v, t := v, mark := false, defect := false, noaudit := true, lost := false }))
  { row := row.row, frame := row.frame, pix := pix }

/-- A row corrected, checked and compared (R106 to R143). Which pixels and which check an uncorrectable entry fails is the model's own
choice where R132 says only 'the next check': a zone map entry fails the tile's first column of the row in which it is first read, at
stage 9; a response table entry fails every pixel that reads it, at stage 8 (log entry 104). -/
def Die.enterRow (x : Die) (env : Env) (row : AccRow) (f : RowFaults) : Die :=
  let fr := row.frame
  let p := x.sieveParams fr
  let twin := x.twinInForce p
  let half := x.cmm.halves.find? (fun h => h.row = row.row && h.frame = fr)
  let words := match half with | some h => h.words | none => []
  let bad := match half with | some h => h.bad | none => []
  let dyn := match half with | some h => h.dyn | none => []
  let off := !x.on F.CMM_CTRL_EN
  let word := wordAt off f.late bad words
  let x := if !off && (half.isNone || !f.late.isEmpty) then (x.count F.CMM_LATE_CNT_COUNT).fire 377 else x
  let x := f.entries.foldl (fun x _ => x.fire 374) x
  let tiles := f.tiles.filter (fun t => !x.rad.bad.contains (fr, t))
  let x := tiles.foldl (fun x t => (x.onRad (fun r => { r with bad := r.bad ++ [(fr, t)] })).fire 374) x
  let badCols := if x.on F.RAD_CTRL_HS_EN then (tiles.filter (fun t => t / 80 = row.row / 32)).map (fun t => 32 * (t % 80)) else []
  let x := x.onSieve (fun s => { s with inside := some { row := row.row, frame := fr, pix := [] } })
  let refs := blindRefs row word (fun ch => errSum (f.resid.filter (fun r => r.blind && r.col = ch)) 0 15)
  let lost := p.bref ≤ 2 && x.regions.any (fun r => (validRefs refs (128 * r) 128).isEmpty)
  let x := if lost then x.fireOnce fr 358 else x
  let bs := (List.range row.chans.length).map (fun ch => refChannels p.bref refs ch)
  let vals := (bs.zipIdx).map (fun e => refOf p.bref refs e.2 e.1)
  let px := (row.chans.zipIdx).flatMap (fun e =>
    let dep := bs.getD e.2 []
    let failed := f.resid.any (fun r => r.blind && residDetected r && dep.contains r.col)
    ((e.1.take 5).zipIdx).map (fun a => x.passPixel p row f twin word dyn badCols (vals.getD e.2 0) failed e.2 a.2 a.1))
  let y := x.noteResids env.now row.row fr twin f px
  let y := if twin then y.noteTwins env.now fr px else y
  let y := y.onFrame fr (fun r => { r with sat := r.sat + (px.filter (fun q => q.c.sat && !q.lost)).length })
  let y := if px.any (fun q => q.ovrsat && !q.lost) then y.fireOnce fr 372 else y
  let (y, hits) := (y.openTiles fr).compareRow env p row.row fr twin px
  let y := y.sieveCapture row (refs.map (fun r => r.ref)) hits px
  let pix := px.map (fun q => ({ x := q.c.x, y := q.c.y, t := q.t, mark := q.mark, defect := bit q.flags 0
                                 noaudit := bit q.flags 2, lost := q.lost } : Pix))
  y.onSieve (fun s => { s with inside := some { row := row.row, frame := fr, pix := pix } })

/-- The oldest waiting row enters when the Sieve is clear (R106, R107). -/
def Die.sieveEntry (x : Die) (env : Env) (f : RowFaults) : Die :=
  match x.sieve.inside, x.sieve.waiting with
  | none, row :: rest =>
    let y := x.onSieve (fun s => { s with waiting := rest })
    if y.boot.limited then y.onSieve (fun s => { s with inside := some (y.limitedRow row) })
    else if !y.on (F.CTRL_EN 0x30) then y.loseFrame row.frame false
    else
      let z := y.landSlices
      (if y.sieve.removing.isEmpty then z else z.onFlags row.frame (fun g => { g with graft := true })).enterRow env row f
  | _, _ => x

/-- SIEVE_ROW_CLEAR (R107): the row is clear and the fill stage holds it. -/
def execSieveRowClear (d : DieId) (s : State) : Host.Outcome State Fault Refusal :=
  onDie d s fun _ x =>
    match x.sieve.inside with
    | some r => x.onSieve (fun s => { s with inside := none, held := s.held ++ [r] })
    | none => x

/-! ### Requests, hashes, captures -/

/-- SVE_SLICE_REQ.REMOVE (R134, Table 15.1: cause 7). -/
def Die.sliceRequest (x : Die) (n now : Nat) : Die :=
  if 4 < n || !x.takes 0x30 then x.accErr 0x30
  else
    let y := x.set F.SVE_SLICE_REQ_SLICE n
    if y.sliceOut n then y else y.failSlice n 7 now

/-- SVE_SLICE_REQ.RETURN: the slice returns at the next FRAME_START (R134). -/
def Die.sliceBack (x : Die) (n : Nat) : Die :=
  if 4 < n || !x.takes 0x30 then x.accErr 0x30
  else
    let y := x.set F.SVE_SLICE_REQ_SLICE n
    if y.sliceOut n || y.sieve.removing.contains n then
      (y.onSieve (fun s => { s with returning := s.returning.filter (· != n) ++ [n] })).onSpr (fun s => s.remove 3 n)
    else y

/-- SLICE_REMOVE (R134). -/
def execSliceRemove (d : DieId) (n : Nat) (s : State) : Host.Outcome State Fault Refusal :=
  onDie d s fun env x => x.sliceRequest n env.now

/-- SLICE_RETURN (R134). -/
def execSliceReturn (d : DieId) (n : Nat) (s : State) : Host.Outcome State Fault Refusal :=
  onDie d s fun _ x => x.sliceBack n

/-- Bytes of a coefficient plane (R116). -/
def planeBytes : Nat := 50331648

/-- The DRAM offset of the plane of a gain state in force. -/
def Die.planeBase (x : Die) (k : Nat) : Nat := x.get (F.CMM_PLANE_BASE k) * 4096

/-- CMM_HASH_CTRL.GO: a hash of the selected plane begins; ignored while one runs. -/
def Die.hashGo (x : Die) (sel : Nat) : Die :=
  if x.on F.CMM_HASH_CTRL_BUSY || !x.takes 0x33 then x.accErr 0x33
  else
    let base := if sel = 3 then x.get F.CMM_HASH_BASE_BASE * 4096 else x.planeBase sel
    ({ x with cmm := { x.cmm with hashing := some base } }.set F.CMM_HASH_CTRL_SEL sel).set F.CMM_HASH_CTRL_BUSY 1

/-- PLANE_HASH_GO. -/
def execPlaneHashGo (d : DieId) (sel : Nat) (s : State) : Host.Outcome State Fault Refusal :=
  onDie d s fun _ x => x.hashGo (sel % 4)

/-- A plane hash completes: SHA-256 over the plane's bytes in address order (R180). -/
def Die.hashDone (x : Die) (mem : Memory) : Die :=
  match x.cmm.hashing with
  | none => x
  | some base =>
    let w := sha256Words (mem.readBytes base planeBytes)
    let y := (w.zipIdx).foldl (fun y e => y.set (F.CMM_HASH_DIGEST e.2) e.1.toNat)
      { x with cmm := { x.cmm with hashing := none } }
    (y.set F.CMM_HASH_CTRL_BUSY 0).fire 379

/-- SVE_CAP_CTRL.ARM: the next pass of the pixel named is captured. -/
def Die.armSieveCapture (x : Die) (row col : Nat) : Die :=
  if 2047 < row || 3071 < col || !x.takes 0x30 then x.accErr 0x30
  else (((x.set F.SVE_CAP_CTRL_ROW row).set F.SVE_CAP_CTRL_COL col).set F.SVE_CAP_CTRL_DONE 0).onSieve
    (fun s => { s with capture := true })

/-- SIEVE_CAPTURE_ARM. -/
def execSieveCaptureArm (d : DieId) (row col : Nat) (s : State) : Host.Outcome State Fault Refusal :=
  onDie d s fun _ x => x.armSieveCapture row col

/-! ### Commits and frame starts -/

/-- A commit of the RAD page: the staged bank is in force and its copy back begins (R144). -/
def Die.radCommit (x : Die) (frame : Nat) : Die :=
  ((x.commitNow 0x32 frame).onRad (fun r => { r with resp := r.respStaged, zones := r.zonesStaged })).set F.RAD_BANK_COPYING 1

/-- BANK_APPLIED (R144): the staged bank equals the bank in force again. -/
def execBankApplied (d : DieId) (s : State) : Host.Outcome State Fault Refusal :=
  onDie d s fun _ x =>
    if x.on F.RAD_BANK_COPYING then
      ((x.onRad (fun r => { r with respStaged := r.resp, zonesStaged := r.zones })).set F.RAD_BANK_COPYING 0).fire 371
    else x

/-- A commit of the CMM page: PLANE_APPLIED when a plane in force changes (R146). -/
def Die.cmmCommit (x : Die) (frame : Nat) : Die :=
  let y := x.commitNow 0x33 frame
  if (List.range 3).any (fun k => x.planeBase k != y.planeBase k) then y.fire 380 else y

/-- The housing temperature of THSEL, and whether a failed sensor's last valid reading stands in (R112). -/
def Die.housing (x : Die) : Option Int × Bool :=
  let sel := x.get F.SVE_DRIFT_THSEL
  if sel < 10 then
    let failed := x.on (F.THM_SENS_FAIL sel)
    match (x.thm.sens.getD sel {}).valid with
    | some v => (some v, failed)
    | none => (none, true)
  else if sel = 10 then (some (x.getS F.SVE_TH_HOST_TH), false) else (none, false)

/-- The drift temperatures of the frame that begins (R112): ΔTf, ΔTh and their registers. -/
def Die.latchDrift (x : Die) : Die × Int × Int :=
  let rf := x.afe.tf - x.getS F.SVE_TF0_TF0
  let tf := clampI (-131071) 131071 rf
  let (h, holding) := x.housing
  let rh := match h with | some t => t - x.getS F.SVE_TH0_TH0 | none => 0
  let th := clampI (-32767) 32767 rh
  let satF := decide (tf ≠ rf)
  let satH := decide (th ≠ rh)
  let y := ((((x.setB F.SVE_DTF_SAT satF).setS F.SVE_DTF_DTF tf).setB F.SVE_DTH_SAT satH).setB F.SVE_DTH_HOLDING holding).setS
    F.SVE_DTH_DTH th
  (y.cond 357 (satF || satH), tf, th)

/-- What a FRAME_START does in the Sieve (R112, R120, R130, R134, R143): the values of the frame are latched, tiles are
restored, dynamic defect bits take effect, slices return. `openView` says that the Cloche is at its open rest. -/
def Die.sieveFrameStart (x : Die) (now : Nat) (openView : Bool) : Die :=
  let (y, tf, th) := x.latchDrift
  let house := match x.housing.1 with | some t => t | none => x.getS F.SVE_TH0_TH0
  let y := { y with frame := { y.frame with tf := x.afe.tf, th := house } }
  let g := y.frame.gain
  let p : SieveParams :=
    { frame := y.frame.num, gain := g, bref := y.get F.SVE_MODE_BREF, twin := y.on F.SVE_MODE_TWIN
      d1Shift := y.get F.SVE_DRIFT_D1_SHIFT, d2Shift := y.get F.SVE_DRIFT_D2_SHIFT, hShift := y.get F.SVE_DRIFT_H_SHIFT
      dtf := tf, dth := th, k := y.get (F.SVE_K_K g), plane := y.planeBase g, resp := y.rad.resp, zones := y.rad.zones
      viewOpen := openView, row0 := y.get F.SEQ_WIN_ROW0, rowsM1 := y.get F.SEQ_WIN_ROWS_M1
      framesM1 := y.get F.WDR_AUDIT_FRAMES_M1, stuckRange := y.get F.WDR_STUCK_RANGE, stuckScene := y.get F.WDR_STUCK_SCENE
      noisy := y.get F.WDR_NOISY_LIMIT, flickers := y.get F.WDR_FLICKER_COUNT, step := y.get F.WDR_FLICKER_STEP }
  let y := y.onSieve (fun s => { s with prev := s.cur, cur := p })
  let y := (y.onRad (fun r => { r with bad := r.bad.filter (fun e => e.1 = y.prevFrame.num) })).returnSlices now
  { y with wdr := { y.wdr with fresh := [] } }.showSlices

/-- The blade leaves its open rest while frame `cur` is open: no later pixel of it is compared (R138). -/
def Die.viewLost (x : Die) : Die :=
  if x.rake.frameOpen then x.onSieve (fun s => { s with cur := { s.cur with viewOpen := false } }) else x

end Sys2Proof.Machine
end

