-- ==== Sys2Proof/Machine/Cloche.lean ====
section
/-!
DEFINITION. The Cloche (05_calibration_and_cloche.md, R154 to R160, R165): the segments of a move, stalls and faults,
the Hall inputs, the blade's open rest and the heater.  What a move's end means to a shutter event is in Cal.lean.
-/

namespace Sys2Proof.Machine

/-- What happened to the blade in a step. -/
inductive CloNote where
  | closed | opened | stalled | faulted | forced | hallFail
  deriving DecidableEq, Repr

/-- The Cloche's hidden state changed. -/
def Die.onClo (x : Die) (f : Clo → Clo) : Die := { x with clo := f x.clo }

/-- SHALL0 and SHALL1 after their polarity bits. -/
def Die.halls (x : Die) : Bool × Bool := (x.clo.hall0 != x.on F.CLO_DRV_HALL0_POL, x.clo.hall1 != x.on F.CLO_DRV_HALL1_POL)

/-- HALL_FAIL holds (R157): both Hall inputs asserted, or neither for MOVE_TMO; the inputs are EN's. -/
def Die.hallFailed (x : Die) : Bool := x.on F.CLO_CTRL_EN && ((x.halls.1 && x.halls.2) || x.clo.idle)

/-- The Cloche is at rest at its open position (R165). -/
def Die.openRest (x : Die) : Bool :=
  !x.on F.CLO_CTRL_EN || (x.clo.move.isNone && x.halls.1 && !x.halls.2 && !x.hallFailed)

/-- The Cloche is at rest closed. -/
def Die.closedRest (x : Die) : Bool := x.on F.CLO_CTRL_EN && x.clo.move.isNone && x.halls.2 && !x.halls.1

/-- CLO_FAULT is asserted (R155). -/
def Die.cloFaulted (x : Die) : Bool := x.evRaw.getLsbD 345

/-- A closing move can be started (R155, R157, R163). -/
def Die.canClose (x : Die) : Bool := x.on F.CLO_CTRL_EN && !x.hallFailed && !x.cloFaulted

/-- CLO_POS.STATE. -/
def Die.cloState (x : Die) : Nat :=
  if x.openRest then 1
  else match x.clo.move with
    | some m => if m.closing then 2 else 4
    | none => if x.cloFaulted then 5 else if x.closedRest then 3 else 0

/-- The registers and conditions of the Cloche brought up to date; away from its open rest the frame under way carries
HOLD and no later pixel of it is compared (R138, R157, R165). -/
def Die.showClo (x : Die) : Die :=
  let y := (((x.setB F.CLO_POS_HALL0 x.halls.1).setB F.CLO_POS_HALL1 x.halls.2).set F.CLO_POS_STATE x.cloState).setB
    (F.STAT_IDLE 0x29) x.clo.move.isNone
  let y := y.cond 341 y.hallFailed
  if y.openRest then y
  else
    let z := y.viewLost
    if z.rake.frameOpen then z.onFlags z.frame.num (fun g => { g with hold := true }) else z

/-- The brake and boost times of a direction, in 0.1 ms. -/
def Die.cloBrake (x : Die) (closing : Bool) : Nat := if closing then x.get F.CLO_PROF_CLOSE_BRAKE else x.get F.CLO_PROF_OPEN_BRAKE

/-- The boost time of a direction. -/
def Die.cloBoost (x : Die) (closing : Bool) : Nat := if closing then x.get F.CLO_PROF_CLOSE_BOOST else x.get F.CLO_PROF_OPEN_BOOST

/-- The target Hall input of a direction is asserted. -/
def Die.cloTarget (x : Die) (closing : Bool) : Bool := if closing then x.halls.2 else x.halls.1

/-- A move begins, from its boost segment, or from the run segment where the boost has no length (R154); its segments set the legs
of the pair, whatever drove it off before (R275). -/
def Die.cloBegin (x : Die) (closing again : Bool) (now : Nat) : Die :=
  let seg := if x.cloBoost closing = 0 then 1 else 0
  (x.onClo (fun c => { c with move := some { closing := closing, seg := seg, began := now, again := again }, idle := false
                              closingAt := if closing && !again then some now else c.closingAt
                              reopen := c.reopen && closing })
    |>.onPwm (fun p => { p with low := p.low &&& ~~~ (bit16 (2 * x.get F.CLO_DRV_PAIR) ||| bit16 (2 * x.get F.CLO_DRV_PAIR + 1)) })).showClo

/-- Milliseconds since an instant, at most 255. -/
def msSince (now t : Nat) : Nat := min 255 ((now - t) / 250000)

/-- A move has come to rest (R154, R159). -/
def Die.cloRest (x : Die) (m : Move) (now : Nat) : Die × List CloNote :=
  let y := (x.onClo (fun c => { c with move := none })).nvsRequest 5 (.add 2 1)
  if m.closing then
    let y := ((y.set F.CLO_POS_CLOSE_T (msSince now m.began)).showClo).fire 337
    if y.clo.reopen then (y.cloBegin false false now, [.closed]) else (y, [.closed])
  else
    let y := match y.clo.closingAt with | some t => y.set F.CLO_POS_CLOSURE (msSince now t) | none => y
    ((((y.set F.CLO_POS_OPEN_T (msSince now m.began)).onClo (fun c => { c with closingAt := none })).showClo).fire 338, [.opened])

/-- A move has stalled: STALL, one repeat, then the drive off and CLO_FAULT; after a closing move one opening move at
once, FORCED (R155). -/
def Die.cloStall (x : Die) (m : Move) (now : Nat) : Die × List CloNote :=
  let y := x.fire 339
  if !m.again then (y.cloBegin m.closing true now, [.stalled])
  else
    let y := ((y.onClo (fun c => { c with move := none })).cond 345 true).showClo
    if m.closing then ((y.fire 340).cloBegin false false now, [.stalled, .faulted, .forced]) else (y, [.stalled, .faulted])

/-- The segments that end without a further happening: the run segment with its target asserted, and a brake of no
length (R154). -/
def Die.cloSettle (x : Die) (now : Nat) : Nat → Die × List CloNote
  | 0 => (x, [])
  | n + 1 =>
    match x.clo.move with
    | none => (x, [])
    | some m =>
      if m.seg = 1 && x.cloTarget m.closing then
        let y := x.onClo (fun c => { c with move := some { m with seg := 2 } })
        if x.cloBrake m.closing = 0 then
          let (z, l) := y.cloRest m now
          let (z, k) := z.cloSettle now n
          (z, l ++ k)
        else (y, [])
      else (x, [])

/-- A move begins and runs as far as nothing further is needed. -/
def Die.cloMove (x : Die) (closing : Bool) (now : Nat) : Die × List CloNote := (x.cloBegin closing false now).cloSettle now 4

/-- The brake segment ends: at rest, or stalled (R154, R155). -/
def Die.cloBrakeEnd (x : Die) (now : Nat) : Die × List CloNote :=
  match x.clo.move with
  | some m =>
    if m.seg ≠ 2 then (x, [])
    else
      let (y, l) := if x.cloTarget m.closing then x.cloRest m now else x.cloStall m now
      let (z, k) := y.cloSettle now 4
      (z, l ++ k)
  | none => (x, [])

/-- MOVE_TMO has run out with the target not asserted (R155). -/
def Die.cloTimeout (x : Die) (now : Nat) : Die × List CloNote :=
  match x.clo.move with
  | some m =>
    if m.seg = 2 || x.cloTarget m.closing then (x, [])
    else
      let (y, l) := x.cloStall m now
      let (z, k) := y.cloSettle now 4
      (z, l ++ k)
  | none => (x, [])

/-- The Hall balls change (R154, R157). -/
def Die.cloHalls (x : Die) (h0 h1 : Bool) (now : Nat) : Die × List CloNote :=
  let was := x.hallFailed
  let y := x.onClo (fun c => { c with hall0 := h0, hall1 := h1 })
  let y := (y.onClo (fun c => { c with idle := c.idle && !y.halls.1 && !y.halls.2 })).showClo
  let (z, l) := y.cloSettle now 4
  (z, (if z.hallFailed && !was then [.hallFail] else []) ++ l)

/-- Homing (R158): an opening move unless SHALL0 is asserted. -/
def Die.cloHomeMove (x : Die) (now : Nat) : Die × List CloNote :=
  if !x.on F.CLO_CTRL_EN || x.cloFaulted || x.clo.move.isSome || x.halls.1 then (x.showClo, []) else x.cloMove false now

/-- The drive is switched off where the blade stands. -/
def Die.cloOff (x : Die) : Die := (x.onClo (fun c => { c with move := none, reopen := false })).showClo

/-- The heater is switched off; it stays off until it is next enabled (R160). -/
def Die.heaterOff (x : Die) : Die :=
  ((if x.on F.CLO_HTR_EN then (x.set F.CLO_HTR_EN 0).bladeLoopOff else x).set F.CLO_HTR_STAT_READY 0).onClo
    (fun c => { c with heatFrom := none, bandFrom := none })

/-- The blade lies within ±100 mK of TARGET (R160). -/
def Die.bladeInBand (x : Die) : Bool :=
  x.on F.CLO_HTR_STAT_VALID && decide ((x.getS F.CLO_HTR_STAT_TEMP - 10 * x.getS F.CLO_HTR_TARGET).natAbs ≤ 100)

/-- How long the blade has stayed within the band, counted `afresh` from the heater's enabling or a change of TARGET; outside
it READY ends (R160; the counting afresh is DEDUCED, log entry 97). -/
def Die.heaterBand (x : Die) (afresh : Bool) (now : Nat) : Die :=
  let y := if afresh || !x.bladeInBand then (x.set F.CLO_HTR_STAT_READY 0).onClo (fun c => { c with bandFrom := none }) else x
  if y.bladeInBand && y.on F.CLO_HTR_EN && y.clo.bandFrom.isNone then
    y.onClo (fun c => { c with bandFrom := some now, bandSq := 0, bandCnt := 0 }) else y

/-- The nearest integer to √(a / b). -/
def sqrtRound (a b : Nat) : Nat := (Nat.sqrt (4 * a / b) + 1) / 2

/-- A reading's error from TARGET, in mK. -/
def Die.bladeError (x : Die) : Nat := (x.getS F.CLO_HTR_STAT_TEMP - 10 * x.getS F.CLO_HTR_TARGET).natAbs

/-- A reading taken within the 10 s that make the blade READY (R160). -/
def Die.noteBlade (x : Die) (now : Nat) : Die :=
  match x.clo.bandFrom with
  | some t => if now ≤ t + 2500000000 then
      x.onClo (fun c => { c with bandSq := c.bandSq + x.bladeError ^ 2, bandCnt := c.bandCnt + 1 }) else x
  | none => x

/-- The blade heater's loop may be enabled as loop `n` (R266). -/
def Die.bladeAllowed (x : Die) (n : Nat) : Bool := x.loopEn n || x.loopAllowed n (x.get (F.LOOP_CFG_KIND n)) (x.get (F.LOOP_CFG_OUT n))

/-- The heater is enabled: EN written 1 starts a loop that R268 has stopped again, and is rejected where R266 forbids the loop. -/
def Die.heaterOn (x : Die) (now : Nat) : Die :=
  if x.on F.CLO_HTR_EN then
    (if (x.loop (x.get F.CLO_HTR_LOOP)).stopped then (x.loopFresh (x.get F.CLO_HTR_LOOP)).showLoops else x)
  else if !x.bladeAllowed (x.get F.CLO_HTR_LOOP) then x.accErr 0x29
  else (((x.set F.CLO_HTR_EN 1).onClo (fun c => { c with heatFrom := some now })).heaterBand true now).bladeLoopOn

/-- The blade diode's reading, in mK (R160): READY ends outside ±100 mK of TARGET; above TMAX the heater trips until
the blade is 5 °C cooler; an invalid reading switches it off. -/
def Die.bladeReading (x : Die) (reading : Option Int) (now : Nat) : Die :=
  match reading with
  | none => ((x.set F.CLO_HTR_STAT_VALID 0).heaterOff)
  | some t =>
    let y := ((x.set F.CLO_HTR_STAT_VALID 1).setS F.CLO_HTR_STAT_TEMP t).heaterBand false now |>.noteBlade now
    let tmax : Int := 1000 * (y.get F.CLO_HTR_TMAX : Nat)
    if tmax < t then ((y.heaterOff).set F.CLO_HTR_STAT_TRIP 1).cond 343 true
    else if y.on F.CLO_HTR_STAT_TRIP && decide (t ≤ tmax - 5000) then (y.set F.CLO_HTR_STAT_TRIP 0).cond 343 false
    else y

end Sys2Proof.Machine
end

