-- ==== Sys2Proof/Machine/Cal.lean ====
section
/-!
DEFINITION. Calibration (05_calibration_and_cloche.md): background calibration, when a closure is due, the shutter
event from its plan to its commit, acceptance, gain refinement, drift prediction, and the stagger group.
-/

namespace Sys2Proof.Machine

/-- Calibration's hidden state changed. -/
def Die.onCal (x : Die) (f : Cal → Cal) : Die := { x with cal := f x.cal }

/-- The shutter event changed. -/
def Die.onEvent (x : Die) (f : CalEvent → CalEvent) : Die := x.onCal (fun c => { c with event := c.event.map f })

/-! ### Background calibration (R150 to R153) -/

/-- The trim of a cluster's channel: 0 and 1 the gain and offset of core 0, 2 and 3 of core 1, 4 the skew. -/
def F.bgTrim (c ch kind : Nat) : Fld :=
  if kind = 0 then F.CLU_CTRIM0_GAIN c ch else if kind = 1 then F.CLU_CTRIM0_OFFSET c ch
  else if kind = 2 then F.CLU_CTRIM1_GAIN c ch else if kind = 3 then F.CLU_CTRIM1_OFFSET c ch else F.CLU_SKEW_SKEW c ch

/-- An estimate of a trim (R150): cluster, channel, which trim, and the code that would bring it to the ideal. -/
structure TrimEst where
  clu : Nat
  ch : Nat
  kind : Nat
  est : Int

/-- `a` / `b` rounded to the nearest integer, halves towards +∞. -/
def nearestInt (a b : Int) : Int := (2 * a + b) / (2 * b)

/-- 512 codes over the 12,288 codes between the two levels of R150. -/
def bgSpan : Int := 512 * 12288

/-- The estimates of a core's gain and offset trims from its sums at 2,048 and 14,336, with the trims in force then (R150, Table
3.1): the measured line is the ideal one times the gain error with the offset added. Their rounding to whole codes is a DESIGN
CHOICE (log entry 97), and a core whose two sums leave it no gain has free values. -/
def Die.coreEsts (x : Die) (c ch core : Nat) (m : Nat × Nat) : List TrimEst × Die :=
  let g := x.getS (F.bgTrim c ch (2 * core))
  let o := x.getS (F.bgTrim c ch (2 * core + 1))
  let d : Int := (m.2 : Int) - m.1
  let (fg, y) := x.freeVal 16
  let (fo, y) := y.freeVal 16
  let eg := if d ≤ 0 then toSigned 16 fg else nearestInt ((8192 + g) * bgSpan) d - 8192
  let eo := if d ≤ 0 then toSigned 16 fo else nearestInt ((256 * (o + 32768) - (m.1 + m.2)) * 24576) d
  ([{ clu := c, ch := ch, kind := 2 * core, est := eg }, { clu := c, ch := ch, kind := 2 * core + 1, est := eo }],
    if d ≤ 0 then y else x)

/-- The estimates of a channel: of each core measured that converts, and of the skew where both do (R150, R151). -/
def Die.chanEsts (x : Die) (e : BgEst) : List TrimEst × Die :=
  if !(x.converts e.clu && e.ch < 17) then ([], x)
  else
    let on (k : Nat) := x.coreChecked e.clu e.ch k
    let (a, y) := match e.core0 with | some m => if on 0 then x.coreEsts e.clu e.ch 0 m else ([], x) | none => ([], x)
    let (b, z) := match e.core1 with | some m => if on 1 then y.coreEsts e.clu e.ch 1 m else ([], y) | none => ([], y)
    let s := match e.skew with
      | some t => if on 0 && on 1 then
          [{ clu := e.clu, ch := e.ch, kind := 4, est := x.getS (F.bgTrim e.clu e.ch 4) - nearestInt t 512 }] else []
      | none => []
    (a ++ b ++ s, z)

/-- A blanking word: what the checks of R91 leave of it, beyond its first 1.5 µs, 225 SEQC cycles, is measured (R150). -/
def Die.bgWord (x : Die) (cycles : Nat) : Die :=
  if x.on F.CAL_CTRL_BG_EN && x.takes 0x28 && x.jobRuns 1 && 225 < cycles then x.onCal (fun c => { c with words := c.words + 1 }) else x

/-- The agreement tolerance of a kind of trim (R151). -/
def Die.bgTol (x : Die) (kind : Nat) : Nat :=
  if kind = 0 ∨ kind = 2 then x.get F.CAL_BG_TOL_G else if kind = 1 ∨ kind = 3 then x.get F.CAL_BG_TOL_O
  else x.get F.CAL_BG_TOL_S

/-- One code from `t` towards half of `sum`. -/
def stepTowards (t sum : Int) : Int := if 2 * t < sum then t + 1 else if sum < 2 * t then t - 1 else t

/-- A trim moved by one code towards the mean of two estimates, within its field (R151). -/
def Die.moveTrim (x : Die) (e : TrimEst) (sum : Int) : Die :=
  let f := F.bgTrim e.clu e.ch e.kind
  let w : Int := (2 ^ (f.width - 1) : Nat)
  let v := clampI (-w) (w - 1) (stepTowards (x.getS f) sum)
  if v = x.getS f then x
  else x.onCal (fun c => { c with trims := c.trims ++ [(e.clu, e.ch, e.kind, v)] })

/-- One estimate judged against the one before it (R151). -/
def Die.judgeEst (x : Die) (e : TrimEst) : Die :=
  let key := (F.bgTrim e.clu e.ch e.kind).key
  let prev := assocGet x.cal.ests key
  let y := x.onCal (fun c => { c with ests := assocPut c.ests key e.est })
  match prev with
  | none => y
  | some p =>
    if (e.est - p).natAbs ≤ x.bgTol e.kind then (y.onCal (fun c => { c with disagree := c.disagree.put key 0 })).moveTrim e (e.est + p)
    else
      let n := (x.cal.disagree.look key).getD 0 + 1
      if n = 8 then (y.onCal (fun c => { c with disagree := c.disagree.put key 0 })).fire 330
      else y.onCal (fun c => { c with disagree := c.disagree.put key n })

/-- CAL_STATE.BG_IDLE: the background calibration is stopped, and no trim waits to be written; stopped, it measures afresh
(R152). -/
def Die.showBg (x : Die) : Die :=
  let y := if x.on F.CAL_CTRL_BG_EN then x else x.onCal (fun c => { c with words := 0 })
  y.setB F.CAL_STATE_BG_IDLE (!y.on F.CAL_CTRL_BG_EN && y.cal.trims.isEmpty)

/-- The trims that wait are staged in every cluster whose commit is not pending, and armed through ACB_GANG; a record of them is
due (R151, R152, R181). -/
def Die.armTrims (x : Die) : Die :=
  let go := x.cal.trims.filter (fun t => !x.commitPending (0x80 + t.1))
  let y := go.foldl (fun y t => let f := F.bgTrim t.1 t.2.1 t.2.2.1
                                y.stageVal f (ofSigned f.width t.2.2.2)) x
  if go.isEmpty then x
  else ((y.onCal (fun c =>
    { c with trims := c.trims.filter (fun t => x.commitPending (0x80 + t.1)), recordDue := true })).gangArm).showBg

/-- The spur level in 0.1 dBFS of an amplitude of `a` / 2^34 of 8,192 codes: the nearest to 200 log10 (R153). -/
def spurLevel (a : Nat) : Int :=
  let p := a ^ 400
  let fits (l : Int) : Bool := decide (2 ^ 13600 * 10 ^ (2 * l - 1).toNat ≤ p * 10 ^ (1 - 2 * l).toNat)
  ((List.range 3000).map (fun i => (200 : Int) - (i : Nat))).find? fits |>.getD (-2800)

/-- SPUR: the level last computed lies above the limit (R153). -/
def Die.showSpur (x : Die) : Die :=
  x.cond 329 (x.cal.spurKnown && decide (x.getS F.CAL_BG_SPUR_LIM < x.getS F.CAL_Q_SPUR_SPUR))

/-- The worst spur reported (R153); the level of no amplitude at all is left open by the rule. -/
def Die.noteSpur (x : Die) (l : List SpurDiff) : Die :=
  let amp (e : SpurDiff) : Nat := e.offset.natAbs + e.gain.natAbs
  match l.foldl (fun (m : Option SpurDiff) e => match m with
      | some b => if amp b < amp e then some e else m
      | none => some e) none with
  | none => x
  | some w =>
    let (v, x) := if amp w = 0 then x.freeVal 16 else (ofSigned 16 (spurLevel (amp w)), x)
    (((x.set F.CAL_Q_SPUR_CH w.chan).set F.CAL_Q_SPUR_SPUR v).onCal (fun c => { c with spurKnown := true })).showSpur

/-- The cluster of a channel numbered as CAL_Q_SPUR.CH numbers it. -/
def spurClu (ch : Nat) : Nat := if ch < 512 then ch / 16 else ch - 512

/-- BG_ESTIMATE (R150 to R153): 512 blanking words give the estimates, of the clusters in use. How the CP obtains the differences that
an update leaves the spec does not say; the model takes them from the command's second operand, tied to nothing in the first (DESIGN
CHOICE, log entry 105). -/
def execBgEstimate (d : DieId) (ests : List BgEst) (spurs : List SpurDiff) (s : State) :
    Host.Outcome State Fault Refusal :=
  onDie d s fun _ x =>
    if x.on F.CAL_CTRL_BG_EN && x.takes 0x28 && x.jobRuns 1 && 512 ≤ x.cal.words then
      let y := x.onCal (fun c => { c with words := c.words - 512 })
      let y := ests.foldl (fun y e => let (l, z) := y.chanEsts e; l.foldl (fun z t => z.judgeEst t) z) y
      y.armTrims.noteSpur (spurs.filter (fun e => x.converts (spurClu e.chan)))
    else x

/-! ### When a closure is due (R162, R163, R179) -/

/-- Table 5.3: the place of a reason, 0 first. -/
def reasonPlace (r : Nat) : Nat := if r = 4 then 0 else if r = 5 then 1 else if r = 1 then 2 else if r = 3 then 3 else 4

/-- The first reason that holds. -/
def firstReason (l : List Nat) : Nat := ([4, 5, 1, 3, 2].find? (fun r => l.contains r)).getD 0

/-- Seconds since the last accepted event (CAL_AGE). -/
def Die.calAge (x : Die) (now : Nat) : Nat := min 1048575 ((now - x.cal.acceptedAt) / 250000000)

/-- `sec` seconds have passed since an instant. -/
def secsPassed (now since sec : Nat) : Bool := sec * 250000000 ≤ now - since

/-- The first event's time has come, with none accepted since the start-up (Table 5.3). -/
def Die.firstDue (x : Die) (now : Nat) : Bool :=
  !x.cal.acceptedOnce && (match x.cal.rakeAt with
    | some t => secsPassed now t (x.get F.CAL_POLICY_FIRST)
    | none => false)

/-- The interval in seconds: MAX_INT minutes, a quarter of it while ACCEPT_FAIL is asserted (R174). -/
def Die.interval (x : Die) : Nat := x.get F.CAL_POLICY_MAX_INT * (if x.evRaw.getLsbD 328 then 15 else 60)

/-- The reasons of Table 5.3 that hold (R162). -/
def Die.calReasons (x : Die) (now : Nat) : List Nat :=
  let auto := x.on F.CAL_CTRL_EN && x.on F.CAL_CTRL_AUTO
  [(4, auto && x.evRaw.getLsbD 357), (5, x.cal.hostDue), (1, auto && x.firstDue now),
   (3, auto && decide (x.get F.CAL_DRIFT1_LIMIT ≤ x.get F.CAL_PRED_PRED)), (2, auto && decide (x.interval ≤ x.calAge now))].filterMap
    (fun e => if e.2 then some e.1 else none)

/-- The reason that holds shown in CAL_STATE; an event that becomes due raises DUE and asks for the grant, one whose reason
changes asks for it anew, and one whose reasons have lapsed withdraws its request (R162, R184). -/
def Die.showDue (x : Die) (now : Nat) : Die :=
  let r := firstReason (x.calReasons now)
  if x.cal.event.isSome || 1 < x.get F.CAL_STATE_PHASE then x
  else if r = 0 then
    if x.get F.CAL_STATE_PHASE = 1 then
      (((x.set F.CAL_STATE_PHASE 0).set F.CAL_STATE_REASON 0).set F.CAL_PAIR_WAIT 0).send (.staggerRequest x.id 0) else x
  else if x.get F.CAL_STATE_PHASE = 1 then
    if x.get F.CAL_STATE_REASON = r then x else (x.set F.CAL_STATE_REASON r).send (.staggerRequest x.id r)
  else
    let y := (((x.set F.CAL_STATE_PHASE 1).set F.CAL_STATE_REASON r).set F.CAL_PAIR_WAIT 1).onCal
      (fun c => { c with waitFrom := now, deferred := false })
    (y.send (.staggerRequest x.id r)).fire 325

/-- INHIBIT_LONG (R163). -/
def Die.showInhibit (x : Die) (now : Nat) : Die :=
  x.cond 334 (x.on F.CAL_CTRL_INHIBIT && decide (x.get F.CAL_POLICY_MAX_INT * 60 < x.calAge now))

/-- R179: the predicted residual of the frame that begins. -/
def Die.predicted (x : Die) (now : Nat) : Nat :=
  min 65535 (x.cal.post + x.get F.CAL_DRIFT0_KF * (x.getS F.SVE_DTF_DTF).natAbs / 4000
    + x.get F.CAL_DRIFT0_KH * (x.getS F.SVE_DTH_DTH).natAbs / 1000 + x.get F.CAL_DRIFT1_KT * (x.calAge now / 60))

/-- The drift and interval figures of a FRAME_START, and the reasons they give (R162, R163, R179). -/
def Die.calTrack (x : Die) (now : Nat) : Die :=
  let y := (x.set F.CAL_AGE_AGE (x.calAge now)).set F.CAL_PRED_PRED (x.predicted now)
  (y.showInhibit now).showDue now

/-- CAL_TIMER_DUE (R162): the time of the first event, or the interval, when it has come. -/
def execCalTimerDue (d : DieId) (first : Bool) (s : State) : Host.Outcome State Fault Refusal :=
  onDie d s fun env x =>
    if x.jobRuns 1 && (if first then x.firstDue env.now else decide (x.interval ≤ x.calAge env.now)) then
      (x.showInhibit env.now).showDue env.now
    else x

/-- DEFER_TIMEOUT (R163): the event has waited DEFER_MAX seconds; DEFER_LONG once, and it goes on waiting. -/
def execDeferTimeout (d : DieId) (s : State) : Host.Outcome State Fault Refusal :=
  onDie d s fun env x =>
    if x.get F.CAL_STATE_PHASE = 1 && !x.cal.deferred && secsPassed env.now x.cal.waitFrom (x.get F.CAL_POLICY_DEFER_MAX) then
      (x.onCal (fun c => { c with deferred := true })).fire 327 else x

/-! ### The plan (R164) -/

/-- The closing move time the plan takes, in 0.1 ms. -/
def Die.planClose (x : Die) : Nat :=
  if x.get F.CLO_POS_CLOSE_T = 0 then 10 * x.get F.CLO_TMAX_MOVE_TMO + x.get F.CLO_PROF_CLOSE_BRAKE
  else 10 * x.get F.CLO_POS_CLOSE_T

/-- Frames from the start of the closing move to the first that begins after the blade has come to rest; 0.1 ms is
5,000 of the CONV cycles in which SEQ_FRAME_LEN counts. -/
def Die.planFirst (x : Die) : Nat := x.planClose * 5000 / x.get F.SEQ_FRAME_LEN_LEN + 1

/-- F: the largest that ends within FORCE; 0 where none fits (R164). -/
def Die.planF (x : Die) : Nat :=
  let frames := x.get F.CLO_TMAX_FORCE * 50000 / x.get F.SEQ_FRAME_LEN_LEN
  min (x.get F.CAL_OFS_FRAMES_M1 + 1) ((frames - (x.planFirst + x.get F.CAL_OFS_SETTLE)) / 2)

/-- The die of the package that runs the Pair Link: the lead die. -/
def Die.pairDie (x peer : Die) : Die := if x.leads then x else peer

/-- R185: a pair secondary runs no event while the Pair Link is down and the partner not declared failed. Whether that holds also
where CAL_PAIR.PAIR is 0 the spec does not say; the model bars the secondary only while PAIR is 1 (DESIGN CHOICE, log entry 105). -/
def Die.pairBars (x peer : Die) : Bool :=
  let p := x.pairDie peer
  x.on F.CAL_PAIR_PAIR && x.pairRole = 2 && !p.pairUp && !p.on F.PRL_STAT_FAILED

/-- The partner's dies belong to the die's stagger group (R183): while the link is down the primary, and once the partner is
declared failed the survivor, runs its events as a standalone package (R185). -/
def Die.partnerIn (x peer : Die) : Bool :=
  let p := x.pairDie peer
  x.on F.CAL_PAIR_PAIR && !p.on F.PRL_STAT_FAILED && (x.pairRole = 2 || (x.pairRole = 1 && p.pairUp))

/-- The HOTSPOT condition holds on a die of the stagger group that this package sees: the partner's, while it is in the group, by the
last Pair Link heartbeat that the lead die has heard (R163, R380). -/
def Die.groupHot (x peer : Die) : Bool :=
  x.evRaw.getLsbD 370 || (x.on F.CAL_PAIR_LOCAL && peer.evRaw.getLsbD 370) || (x.partnerIn peer && (x.pairDie peer).vote.partnerHot)

/-- The die is alone in its stagger group. -/
def Die.alone (x : Die) (env : Env) : Bool := !(x.on F.CAL_PAIR_LOCAL && env.dual) && !x.partnerIn env.peer

/-- MIN_INT seconds have passed since the last event ended (R163). -/
def Die.restOver (x : Die) (now : Nat) : Bool :=
  match x.cal.endedAt with
  | some t => secsPassed now t (x.get F.CAL_POLICY_MIN_INT)
  | none => true

/-- Nothing holds a due event back (R163, R183, R185). From which instant the DEFER_MAX seconds for which a hot spot may hold an event
back are counted the spec does not say; the model counts from when the event became due (DESIGN CHOICE, log entry 105). -/
def Die.mayStart (x peer : Die) (now : Nat) : Bool :=
  let host := x.get F.CAL_STATE_REASON = 5
  x.get F.CAL_STATE_PHASE = 1 && x.takes 0x28 && x.takes 0x29 && x.on F.CAL_CTRL_EN && x.jobRuns 1 && x.canClose && x.rakeRuns && x.boot.power = 0 &&
    x.on F.CAL_PAIR_GRANT && !x.pairBars peer && x.clo.move.isNone &&
    (host || (!x.on F.CAL_CTRL_INHIBIT && x.restOver now &&
      (secsPassed now x.cal.waitFrom (x.get F.CAL_POLICY_DEFER_MAX) || !x.groupHot peer)))

/-- A warm event is possible (R176). -/
def Die.mayWarm (x : Die) (now : Nat) : Bool :=
  match x.cal.cold with
  | some (t, tf) => x.on F.CAL_CTRL_GREF_EN && now - t ≤ x.get F.CAL_GREF_PAIR_MAX * 15000000000 &&
      x.on F.CLO_HTR_STAT_READY && (x.afe.tf - tf).natAbs ≤ 2000
  | none => false

/-- A host request answered (Table 5.10). -/
def Die.answerHost (x : Die) (status : Nat) : Die :=
  if x.cal.host.isSome then (x.onCal (fun c => { c with host := none })).mbxResult 1 status 0 else x

/-- An event has ended (R163). -/
def Die.eventOver (x : Die) (now : Nat) : Die := x.onCal (fun c => { c with event := none, endedAt := some now })

/-! ### Abandonment (R155, R156, R167, R173) -/

/-- A finished or abandoned event's phase: opening while the blade is not at its open rest, then idle. -/
def Die.phaseOver (x : Die) : Die :=
  (((x.set F.CAL_STATE_PHASE (if x.openRest then 0 else 6)).set F.CAL_STATE_REASON 0).set F.CAL_STATE_F 0).set F.CAL_STATE_WARM 0

/-- The blade opens at once if it is not open; a repeated closing move ends first (R155, R167). -/
def Die.openAtOnce (x : Die) (now : Nat) : Die × List CloNote :=
  if x.openRest || x.cloFaulted then (x, [])
  else match x.clo.move with
    | some m => if !m.closing then (x, []) else if m.again then (x.onClo (fun c => { c with reopen := true }), [])
                else x.cloMove false now
    | none => x.cloMove false now

/-- The event is abandoned: its results are discarded and the planes in force stay (R167). -/
def Die.calAbandon (x : Die) (result now : Nat) : Die :=
  match x.cal.event with
  | none => x
  | some e =>
    if e.armed then x
    else
      let y := x.eventOver now
      let y := if e.warm then y.heaterOff else y
      let y := (y.set F.CAL_RES_RESULT result).fire 324
      (y.openAtOnce now).1.phaseOver

/-- What the blade's doings mean to the event: a stall, a fault, a forced opening or HALL_FAIL abandons it; opened, a
finished event is idle. -/
def Die.calNotes (r : Die × List CloNote) (now : Nat) : Die :=
  let y := if r.2.any (fun n => n = .stalled || n = .faulted || n = .forced || n = .hallFail) then r.1.calAbandon 5 now else r.1
  if y.cal.event.isNone && y.get F.CAL_STATE_PHASE = 6 then y.phaseOver else y

/-- The grant is lost: an event in progress is abandoned (R167). -/
def Die.loseGrant (x : Die) (now : Nat) : Die :=
  if x.on F.CAL_PAIR_GRANT then (x.calAbandon 5 now).set F.CAL_PAIR_GRANT 0 else x

/-- A die that may run no event any more loses the grant of the partner's arbiter (R167, R185). -/
def Die.barred (x : Die) (env : Env) : Die := if x.pairBars env.peer then x.loseGrant env.now else x

/-! ### Cloche commands -/

/-- A CLO_CMD write: ignored while an event or a move is in progress, while the drive is off or faulted, and of a closing move
under HALL_FAIL, or without the grant in a group of several dies (R155, R157, R158, R183, R187). -/
def Die.cloCommand (x : Die) (env : Env) (home closing : Bool) : Die :=
  if x.cal.event.isSome || x.clo.move.isSome || !x.takes 0x29 || !x.on F.CLO_CTRL_EN || x.cloFaulted ||
      (closing && (x.hallFailed || !(x.on F.CAL_PAIR_GRANT || x.alone env))) then x.accErr 0x29
  else if home then Die.calNotes (x.cloHomeMove env.now) env.now else Die.calNotes (x.cloMove closing env.now) env.now

/-- CLO_HOME (R158). -/
def execCloHome (d : DieId) (s : State) : Host.Outcome State Fault Refusal :=
  onDie d s fun env x => x.cloCommand env true false

/-- CLO_OPEN (R158). -/
def execCloOpen (d : DieId) (s : State) : Host.Outcome State Fault Refusal :=
  onDie d s fun env x => x.cloCommand env false false

/-- CLO_CLOSE (R158). -/
def execCloClose (d : DieId) (s : State) : Host.Outcome State Fault Refusal :=
  onDie d s fun env x => x.cloCommand env false true

/-- The CLO enabled: with AUTOHOME it homes (R158, R275). -/
def Die.cloEnable (x : Die) (now : Nat) : Die :=
  if x.on F.CLO_CTRL_EN then x
  else
    let y := (x.set F.CLO_CTRL_EN 1).showClo.showOwners
    if y.on F.CLO_CTRL_AUTOHOME then Die.calNotes (y.cloHomeMove now) now else y

/-- CLO_ENABLE (R158). -/
def execCloEnable (d : DieId) (s : State) : Host.Outcome State Fault Refusal := onDie d s fun env x => x.cloEnable env.now

/-- BOOST_END (R154): the run segment begins. -/
def execBoostEnd (d : DieId) (s : State) : Host.Outcome State Fault Refusal :=
  onDie d s fun env x =>
    match x.clo.move with
    | some m => if m.seg = 0 then
        Die.calNotes ((x.onClo (fun c => { c with move := some { m with seg := 1 } })).cloSettle env.now 4) env.now else x
    | none => x

/-- HALL_CHANGE (R154, R157); while bank B3 has no supply both inputs read 0 (R424). -/
def execHallChange (d : DieId) (hall0 hall1 : Bool) (s : State) : Host.Outcome State Fault Refusal :=
  onDieAlways d s fun env x =>
    let on := !x.boot.banks.getLsbD 1
    if x.inReset then x.onClo (fun c => { c with hall0 := on && hall0, hall1 := on && hall1 })
    else Die.calNotes (x.cloHalls (on && hall0) (on && hall1) env.now) env.now

/-- BRAKE_END (R154, R155). -/
def execBrakeEnd (d : DieId) (s : State) : Host.Outcome State Fault Refusal :=
  onDie d s fun env x => Die.calNotes (x.cloBrakeEnd env.now) env.now

/-- MOVE_TIMEOUT (R155). -/
def execMoveTimeout (d : DieId) (s : State) : Host.Outcome State Fault Refusal :=
  onDie d s fun env x => Die.calNotes (x.cloTimeout env.now) env.now

/-- FORCED_OPEN (R156): no opening move has begun FORCE ms after a closing move began. -/
def execForcedOpen (d : DieId) (s : State) : Host.Outcome State Fault Refusal :=
  onDie d s fun env x =>
    let closing := match x.clo.move with | some m => m.closing | none => true
    if x.on F.CLO_CTRL_EN && x.clo.closingAt.isSome && closing && !x.openRest && !x.cloFaulted then
      let (y, l) := (x.fire 340).cloMove false env.now
      Die.calNotes (y, .forced :: l) env.now
    else x

/-- HALL_IDLE_TIMEOUT (R157). -/
def execHallIdleTimeout (d : DieId) (s : State) : Host.Outcome State Fault Refusal :=
  onDie d s fun env x =>
    if x.on F.CLO_CTRL_EN && x.clo.move.isNone && !x.halls.1 && !x.halls.2 && !x.clo.idle then
      Die.calNotes ((x.onClo (fun c => { c with idle := true })).showClo, [.hallFail]) env.now
    else x

/-- HTR_READY (R160): 10 s within the band without a break. The rms error is that of the readings taken in those 10 s, each with the
same weight, rounded to the nearest 0.1 mK (log entry 97); without a reading among them it is what the command says. -/
def execHtrReady (d : DieId) (err : Nat) (s : State) : Host.Outcome State Fault Refusal :=
  onDie d s fun env x =>
    if x.on F.CLO_HTR_EN && x.bladeInBand && !x.on F.CLO_HTR_STAT_READY &&
        x.clo.bandFrom.any (fun t => secsPassed env.now t 10) then
      let t := match x.clo.heatFrom with | some t => (env.now - t) / 250000000 | none => 0
      let rms := if x.clo.bandCnt = 0 then err else sqrtRound (100 * x.clo.bandSq) x.clo.bandCnt
      (((x.set F.CLO_HTR_STAT_READY 1).set F.CLO_HTR_Q_SETTLE (min 65535 t)).set F.CLO_HTR_Q_ERR (min 65535 rms)).fire 342
    else x

/-! ### The shutter event (R164 to R167) -/

/-- SHUTTER_EVENT_START (R163, R164): the event is planned and the closing move begins, or it does not fit. -/
def execShutterEventStart (d : DieId) (s : State) : Host.Outcome State Fault Refusal :=
  onDie d s fun env x =>
    if !x.mayStart env.peer env.now then x
    else
      let host := x.get F.CAL_STATE_REASON = 5
      let f := x.planF
      let y := x.set F.CAL_PAIR_WAIT 0
      if f = 0 then
        let y := ((y.set F.CAL_RES_RESULT 7).fire 326).eventOver env.now
        let y := if host then (y.answerHost 5).onCal (fun c => { c with hostDue := false }) else y
        (y.set F.CAL_STATE_PHASE 0).set F.CAL_STATE_REASON 0
      else
        let warm := x.mayWarm env.now && (!host || x.cal.host = some 1)
        let n := x.frame.num
        let s0 := n + x.planFirst
        let a := s0 + x.get F.CAL_OFS_SETTLE
        let g := x.get F.SEQ_FCFG_GAIN
        let ev : CalEvent :=
          { gain := g, f := f, warm := warm, first := n, settleFrame := s0, groupA := a, groupB := a + f, last := a + 2 * f - 1
            plane := x.planeBase g, tf0 := x.getS F.SVE_TF0_TF0, th0 := x.getS F.SVE_TH0_TH0 }
        let y := y.onCal (fun c => { c with event := some ev, cold := if warm then c.cold else none, hostDue := c.hostDue && !host })
        let y := if !warm && y.on F.CAL_CTRL_GREF_EN then y.heaterOff else y
        let y := (((y.set F.CAL_STATE_PHASE 2).set F.CAL_STATE_F f).setB F.CAL_STATE_WARM warm).setB F.CAL_STATE_PAIRED warm
        Die.calNotes ((if host then y.answerHost 0 else y).fire 321 |>.cloMove true env.now) env.now

/-- What is recorded of an accumulated frame at its FRAME_START (R166). -/
def Die.calRecord (x : Die) : CalFrame :=
  { tf := x.frame.tf, th := x.frame.th, dtf := x.sieve.cur.dtf, dth := x.sieve.cur.dth
    blade := if x.on F.CLO_HTR_STAT_VALID then some (x.getS F.CLO_HTR_STAT_TEMP) else none, ySum := 0, yCnt := 0 }

/-- The event moves on at the FRAME_START of frame `n`: it is abandoned by a SETTLING frame, and the groups begin where the plan
has them (R164, R167; log entry 97). -/
def Die.eventFrame (x : Die) (e : CalEvent) (now : Nat) : Die :=
  let n := x.frame.num
  if e.settleFrame ≤ n && n ≤ e.last && x.frame.flags.settling then x.calAbandon 5 now
  else
    let y := if e.groupA ≤ n && n ≤ e.last then x.onEvent (fun e => { e with recs := e.recs ++ [(n, x.calRecord)] }) else x
    if n = e.groupB then y.set F.CAL_STATE_PHASE 5
    else if n = e.groupA then y.set F.CAL_STATE_PHASE 4
    else if n = e.settleFrame then y.set F.CAL_STATE_PHASE 3 else y

/-- The plane writer begins once the last row of group B has been accumulated (R169). -/
def Die.startWriter (x : Die) : Die :=
  match x.cal.event with
  | some e =>
    if !e.writing && e.last ≤ x.frame.num && x.frameEnded e.last && (e.recs.any (fun r => r.1 = e.last)) &&
        !x.acb.rows.any (fun r => r.frame = e.last) && !x.sieve.waiting.any (fun r => r.frame = e.last) then
      (x.onEvent (fun e => { e with writing := true })).set F.CAL_STATE_PHASE 7
    else x
  | none => x

/-- The FRAME_END of the last frame of group B: the opening move begins (R164). -/
def Die.calFrameEnd (x : Die) (now : Nat) : Die :=
  match x.cal.event with
  | some e =>
    if x.frame.num = e.last && !e.writing && !e.armed then
      (Die.calNotes ((x.set F.CAL_STATE_PHASE 6).openAtOnce now) now).startWriter
    else x
  | none => x

/-- The work area's offsets (Table 5.7). -/
def workB : Nat := 0x01400000
def workCold : Nat := 0x02800000
def workGest : Nat := 0x03C00000
def workStat : Nat := 0x04600000

/-- The DRAM offset of the work area. -/
def Die.workBase (x : Die) : Nat := x.get F.CAL_WORK_BASE * 4096

/-- The place of a pixel in raster order of the window. -/
def Die.workIndex (x : Die) (row col : Nat) : Nat := (row - x.get F.SEQ_WIN_ROW0) * x.columns + col

/-- An accumulator word: EXCL and a 24-bit signed sum. -/
def accWord (excl : Bool) (sum : Int) : Nat := (if excl then 2 ^ 31 else 0) + ofSigned 24 sum

/-- A pixel's X added to its word; the first frame of a group starts it afresh (R166). -/
def accAdd (fresh : Bool) (w : Nat) (p : Pix) : Nat :=
  let sum : Int := if fresh then 0 else toSigned 24 w
  accWord ((!fresh && bit w 31) || p.mark || p.defect || p.lost) (sum + p.x)

/-- The row just corrected is accumulated when its frame belongs to a group (R166). -/
def Die.calAccumulate (x : Die) (mem : Memory) : Die :=
  match x.cal.event, x.sieve.inside with
  | some e, some r =>
    if e.recs.any (fun q => q.1 = r.frame) && !e.writing then
      let base := x.workBase + (if e.groupB ≤ r.frame then workB else 0) + 4 * x.workIndex r.row 0
      let fresh := r.frame = e.groupA || r.frame = e.groupB
      let ws := (r.pix.zipIdx).map (fun p => accAdd fresh (mem.readLE (base + 4 * p.2) 4) p.1)
      let y := x.dramWrite base (ws.flatMap (bytesLE 4))
      (y.onEvent (fun e => { e with recs := e.recs.map (fun q => if q.1 = r.frame then
        (q.1, { q.2 with ySum := q.2.ySum + (r.pix.map (·.y)).sum, yCnt := q.2.yCnt + r.pix.length }) else q) })).startWriter
    else x
  | _, _ => x

/-- The lead die counts the hits that the other die has just sent it in the vote of its package (R381). -/
def Die.peerHits (x : Die) (env : Env) : Die :=
  if x.leads && x.on F.D2D_STAT_UP then
    env.peer.out.foldl (fun y m => match m with | .pairHit cls _ _ frame _ => y.voteHit true cls frame | _ => y) x
  else x

/-- SIEVE_ROW_ENTRY (R106, R107, R166): the oldest waiting row enters when the Sieve is clear. -/
def execSieveRowEntry (d : DieId) (f : RowFaults) (s : State) : Host.Outcome State Fault Refusal :=
  onBoth d s (fun env x => (x.sieveEntry env f).calAccumulate env.mem) (fun env x => x.peerHits env)

/-! ### The plane writer (R168 to R171, R175 to R177) -/

/-- A mean rounded to the nearest code, halves towards +∞ (R169). -/
def meanCode (l : List Int) : Int := if l.isEmpty then 0 else (2 * l.sum + l.length) / (2 * l.length)

/-- The blade's mean reading in mK over the accumulated frames, when every one has it (R168). -/
def bladeMean (l : List CalFrame) : Option Int :=
  if l.all (fun r => r.blade.isSome) && !l.isEmpty then some (meanCode (l.filterMap (·.blade))) else none

/-- The scene equivalent of a blade temperature in mK: round((θ + 273.15) × 64) (R168). -/
def sceneT (t : Int) : Int := ((t + 273150) * 128 + 1000) / 2000

/-- Y_b (R168): from the blade through the response table, or the mean of Y; the smallest Y whose T reaches Tb. -/
def Die.targetY (x : Die) (resp : RegMap) (e : CalEvent) (free : Nat) : Nat :=
  let rs := e.recs.map (·.2)
  match (if x.on F.CAL_OFS_TARGET then none else bladeMean rs) with
  | some t =>
    let tb := sceneT t + x.getS F.CAL_BLADE_OFFSET
    ((List.range 65536).find? (fun y => decide (tb ≤ (toT resp e.gain y : Int)))).getD (free % 65536)
  | none =>
    let n := (rs.map (·.yCnt)).sum
    if n = 0 then free % 65536 else (2 * (rs.map (·.ySum)).sum + n) / (2 * n)

/-- What the plane writer knows of one active pixel of the window: its word, the sums, EXCL, its place. -/
structure WorkPix where
  row : Nat
  col : Nat
  word : Nat
  sa : Int
  sb : Int
  excl : Bool

/-- The window's pixels as the plane writer reads them. -/
def Die.workPixels (x : Die) (mem : Memory) (e : CalEvent) : List WorkPix :=
  (List.range (x.get F.SEQ_WIN_ROWS_M1 + 1)).flatMap (fun r =>
    let row := x.get F.SEQ_WIN_ROW0 + r
    (List.range x.columns).map (fun col =>
      let a := mem.readLE (x.workBase + 4 * x.workIndex row col) 4
      let b := mem.readLE (x.workBase + workB + 4 * x.workIndex row col) 4
      { row := row, col := col, word := mem.readLE (e.plane + (3072 * row + col) * 8) 8
        sa := toSigned 24 a, sb := toSigned 24 b, excl := bit a 31 || bit b 31 }))

/-- (S_A − S_B) × G: Ŷ_A − Ŷ_B in units of 1 / (65,536 F) step (R170). -/
def WorkPix.delta (p : WorkPix) : Int := (p.sa - p.sb) * (bits p.word 48 16 : Nat)

/-- (S_A + S_B) × G: Ŷ_old less K in units of 1 / (131,072 F) step. -/
def WorkPix.total (p : WorkPix) : Int := (p.sa + p.sb) * (bits p.word 48 16 : Nat)

/-- n Σv² − (Σv)²: the variance of a list, times n². -/
def spread (l : List Int) : Nat := ((l.length : Int) * (l.map (fun v => v * v)).sum - l.sum * l.sum).toNat


/-- A pixel's A-equivalent (R176): X̄ + 2O + t1m + t2m. -/
def aEquiv (xbar t1 t2 : Int) (c : Coef) : Int := xbar + 2 * c.o + t1 + t2

/-- Xt (R168); a pixel whose gain is 0 has none: left open. -/
def targetX (yb k g : Nat) (free : Int) : Int :=
  if g = 0 then free else (((yb : Int) - k) * 65536 + (g / 2 : Nat)) / (g : Nat)

/-- What the writer makes of a pixel: the new word, its A-equivalent and its new estimate where it forms one. -/
structure Written where
  p : WorkPix
  agrees : Bool
  word : Nat
  aeq : Int
  est : Nat

/-- A word with G and O replaced. -/
def withGO (w g : Nat) (o : Int) : Nat := g % 65536 * 2 ^ 48 + ofSigned 16 o * 2 ^ 32 + w % 2 ^ 32

/-- The gain terms of a warm event (R177): the responsivity r of a pixel valid in both events. -/
def responsivity (g : Nat) (aw ac : Int) : Int := asr ((g : Int) * (aw - ac)) 16

/-- The estimate e = round(16,384 × r̄ / r), with r̄ = sum / n; left open for a pixel whose r is 0. -/
def gainEst (sum : Int) (n : Nat) (r : Int) (free : Nat) : Nat :=
  if r = 0 ∨ n = 0 then free % 65536
  else satU 16 ((2 * 16384 * sum * (if r < 0 then -1 else 1) + n * r.natAbs) / (2 * n * r.natAbs))

/-- The new gain (R177): G × c / 16,384 with c the mean of two estimates, limited. -/
def newGain (g e prev maxstep : Nat) : Nat :=
  let c2 := clampI (2 * 16384 - 2 * maxstep) (2 * 16384 + 2 * maxstep) ((e + prev : Nat) : Int)
  satU 16 ((2 * (g : Int) * c2 + 32768) / 65536)

/-- The whole of a plane writer's pass: Table 5.6's figures and the words it writes. -/
structure Pass where
  out : List Written
  bad : Nat
  excl : Nat
  yb : Nat
  mdtf : Int
  mdth : Int

/-- The first pass over the window: agreement and new offsets (R168 to R171). `gain` gives a pixel's new G. -/
def Die.writerPass (x : Die) (env : Env) (e : CalEvent) (gain : WorkPix → Nat) : Pass :=
  let rs := e.recs.map (·.2)
  let mdtf := meanCode (rs.map (·.dtf))
  let mdth := meanCode (rs.map (·.dth))
  let k := x.get (F.SVE_K_K e.gain)
  let yb := x.targetY x.rad.resp e (Config.freeNat 16 x.free)
  let tol : Int := x.get F.CAL_ACPT_PIX_TOL * 65536 * e.f
  let out := (x.workPixels env.mem e).map (fun p =>
    let c := coefOf p.word
    let agrees := !p.excl && decide ((p.delta.natAbs : Int) ≤ tol)
    let xbar : Int := (p.sa + p.sb + (e.f : Int)) / (2 * (e.f : Int))
    let t1 := sat19 (roundShift (c.d1 * mdtf) (x.get F.SVE_DRIFT_D1_SHIFT))
    let t2 := sat19 (roundShift (c.d2 * mdth) (x.get F.SVE_DRIFT_D2_SHIFT))
    let g := gain p
    let xt := targetX yb k g (toSigned 32 (Config.freeNat 20 p.word % 2 ^ 32))
    let o := satS 16 (c.o + asr (xbar + t1 + t2 - xt + 1) 1)
    ({ p := p, agrees := agrees, word := if agrees then withGO p.word g o else p.word
       aeq := aEquiv xbar t1 t2 c, est := 0 } : Written))
  { out := out, bad := (out.filter (fun w => !w.p.excl && !w.agrees)).length, excl := (out.filter (fun w => w.p.excl)).length
    yb := yb, mdtf := mdtf, mdth := mdth }

/-- The bytes of the alternate plane: the plane in force with the window's new words (R169). -/
def Die.planeImage (x : Die) (mem : Memory) (e : CalEvent) (l : List Written) : List Byte :=
  (List.range 2048).flatMap (fun row =>
    (List.range 3072).flatMap (fun col =>
      let here := row - x.get F.SEQ_WIN_ROW0
      if x.get F.SEQ_WIN_ROW0 ≤ row && here ≤ x.get F.SEQ_WIN_ROWS_M1 && col < x.columns then
        match l[here * x.columns + col]? with
        | some w => bytesLE 8 w.word
        | none => mem.readBytes (e.plane + (3072 * row + col) * 8) 8
      else mem.readBytes (e.plane + (3072 * row + col) * 8) 8))

/-- The first and last of a list of frames differ by more than `tol`. -/
def driftApart (l : List Int) (tol : Nat) : Bool :=
  match l.head?, l.getLast? with
  | some a, some b => tol < (b - a).natAbs
  | _, _ => false

/-- The result of Table 5.6's tests: 1 accepted, 2 pixel agreement, 3 mean agreement, 4 stability. `open_` answers the
mean test when no pixel agrees. -/
def Die.judgeEvent (x : Die) (e : CalEvent) (p : Pass) (open_ : Bool) : Nat :=
  let ds := (p.out.filter (·.agrees)).map (fun w => w.p.delta)
  let rs := e.recs.map (·.2)
  let blade := rs.filterMap (·.blade)
  if x.get F.CAL_MAXBAD_MAXBAD < p.bad then 2
  else if (if ds.isEmpty then open_ else decide (x.get F.CAL_ACPT_MEAN_TOL * 65536 * e.f * ds.length < 16 * ds.sum.natAbs)) then 3
  else if driftApart (rs.map (·.tf)) (x.get F.CAL_ACPT_TF_TOL) then 4
  else if blade.length = rs.length && driftApart blade (x.get F.CAL_ACPT_BLADE_TOL) then 4
  else 1

/-- The quality figures PRE and POST of an event (R175); left open when no pixel agrees. -/
def Die.noteQuality (x : Die) (e : CalEvent) (p : Pass) : Die :=
  let good := p.out.filter (·.agrees)
  let n := good.length
  if n = 0 then
    let (a, y) := x.freeVal 16
    let (b, y) := y.freeVal 16
    (y.set F.CAL_Q_FPN_PRE a).set F.CAL_Q_FPN_POST b
  else
    let vd := spread (good.map (fun w => w.p.delta))
    let vs := spread (good.map (fun w => w.p.total))
    let slope := (toSigned 16 (bits ((x.rad.resp.look (4096 * e.gain + p.yb / 16)).getD 0) 16 16)).natAbs * 10000
    let den := n * n * (131072 * e.f) ^ 2 * 1024 ^ 2
    (x.set F.CAL_Q_FPN_PRE (min 65535 (sqrtRound ((vs - vd) * slope ^ 2) den))).set F.CAL_Q_FPN_POST
      (min 65535 (sqrtRound (vd * slope ^ 2) den))

/-- The COLD area's word of a pixel (Table 5.7). -/
def coldWord (w : Written) : Nat := (if w.agrees then 0 else 2 ^ 31) + ofSigned 31 w.aeq

/-- A cold event's A-equivalents stored, and the blade heated for the warm one (R176). -/
def Die.storeCold (x : Die) (e : CalEvent) (p : Pass) (now : Nat) : Die :=
  let y := x.dramWrite (x.workBase + workCold) (p.out.flatMap (fun w => bytesLE 4 (coldWord w)))
  match bladeMean (e.recs.map (·.2)) with
  | some t =>
    (((y.setS F.CLO_HTR_TARGET ((t + 5) / 10 + 10 * (y.get F.CAL_GREF_DELTA : Nat))).heaterBand true now).heaterOn now).set
      F.CAL_STATE_PAIRED 1
      |>.onCal (fun c => { c with cold := some (now, meanCode (e.recs.map (·.2.tf))) })
  | none => y

/-- The gain estimates of a warm event: each agreeing pixel's index, estimate and stored estimate (R177). -/
def Die.gainEsts (x : Die) (mem : Memory) (p : Pass) : List (Nat × Nat × Nat) :=
  let valid := (p.out.zipIdx).filter (fun w => w.1.agrees && !bit (mem.readLE (x.workBase + workCold + 4 * w.2) 4) 31)
  let rs := valid.map (fun w => (w.2, responsivity (bits w.1.p.word 48 16) w.1.aeq
    (toSigned 31 (mem.readLE (x.workBase + workCold + 4 * w.2) 4))))
  let sum := (rs.map (·.2)).sum
  rs.map (fun r => (r.1, gainEst sum rs.length r.2 (Config.freeNat 17 r.1), mem.readLE (x.workBase + workGest + 2 * r.1) 2))

/-- The pixels whose two estimates agree (R177). -/
def agreeing (tol : Nat) (l : List (Nat × Nat × Nat)) : List (Nat × Nat × Nat) :=
  l.filter (fun e => e.2.2 != 0 && e.2.1 ≤ e.2.2 + tol && e.2.2 ≤ e.2.1 + tol)

/-- The second pass of a warm event: the gains it applies, or none and the estimates to be stored (R177). -/
def Die.gainPass (x : Die) (env : Env) (e : CalEvent) (p : Pass) : Pass × Option (List (Nat × Nat)) × Bool :=
  let l := x.gainEsts env.mem p
  let good := agreeing (x.get F.CAL_GREF_TOL) l
  let was := l.any (fun e => e.2.2 != 0)
  if was && l.length - good.length ≤ x.get F.CAL_MAXBAD_MAXBAD then
    let tab := good.map (fun e => (e.1, e))
    let g (q : WorkPix) : Nat :=
      let old := bits q.word 48 16
      match assocGet tab (x.workIndex q.row q.col) with
      | some t => newGain old t.2.1 t.2.2 (x.get F.CAL_GREF_MAXSTEP)
      | none => old
    (x.writerPass env e g, none, true)
  else (p, some (l.map (fun e => (e.1, e.2.1))), false)

/-- The GEST area rewritten: estimates stored, or every entry empty (R177). -/
def Die.storeGest (x : Die) (mem : Memory) (n : Nat) (l : Option (List (Nat × Nat))) : Die :=
  let tab := l.map (fun l => l.map (fun e => (e.1, e.2)))
  let bs := (List.range n).flatMap (fun i => match tab with
    | none => [0, 0]
    | some t => match assocGet t i with
      | some v => bytesLE 2 v
      | none => mem.readBytes (x.workBase + workGest + 2 * i) 2)
  x.dramWrite (x.workBase + workGest) bs

/-- The set has changed since the event began (R173). -/
def Die.setChanged (x : Die) (e : CalEvent) : Bool :=
  x.planeBase e.gain != e.plane || x.getS F.SVE_TF0_TF0 != e.tf0 || x.getS F.SVE_TH0_TH0 != e.th0

/-- The commit of an accepted event is armed, once neither the CMM's nor the SVE's is pending (R172, R173). -/
def Die.armEvent (x : Die) (e : CalEvent) (now : Nat) : Die :=
  if x.commitPending 0x33 || x.commitPending 0x30 then x
  else
    let y := (List.range 3).foldl (fun y k => if x.planeBase k = e.plane then y.stageVal (F.CMM_PLANE_BASE k) (e.alt / 4096) else y) x
    let y := (y.stageVal F.SVE_TF0_TF0 (ofSigned 21 e.newTf0)).stageVal F.SVE_TH0_TH0 (ofSigned 20 e.newTh0)
    let y := (y.armPage 0x33 0 now).armPage 0x30 0 now
    let y := if y.on F.CMM_CTRL_LINKCAL then (y.armPage 0x32 0 now).armPage 0x22 0 now else y
    y.onEvent (fun e => { e with armed := true })

/-- A rejected event (R174). -/
def Die.rejectEvent (x : Die) (result now : Nat) : Die :=
  let y := (x.eventOver now).onCal (fun c => { c with rejects := c.rejects + 1 })
  ((((y.set F.CAL_RES_RESULT result).count F.CAL_CNT_REJECTED).fire 323).cond 328 (3 ≤ y.cal.rejects)).phaseOver

/-- PLANE_WRITER_DONE (R169 to R177): the alternate plane is written, its hash taken, the tests made, and the commit of
an accepted event armed. -/
def execPlaneWriterDone (d : DieId) (s : State) : Host.Outcome State Fault Refusal :=
  onDie d s fun env x =>
    match x.cal.event with
    | none => x
    | some e =>
      if !e.writing || e.accepted || !x.jobRuns 1 then x
      else
        let p := x.writerPass env e (fun q => bits q.word 48 16)
        let (open_, x) := x.freeBit
        let res := x.judgeEvent e p open_
        let warm := e.warm && res = 1
        let (p2, gest, applied) := if warm then x.gainPass env e p else (p, none, false)
        let alt := x.get (F.CAL_ALT_BASE e.gain) * 4096
        let img := x.planeImage env.mem e p2.out
        let (st, x) := x.freeBytes 4096
        let y := (x.dramWrite alt img).dramWrite (x.workBase + workStat) st
        let y := if warm then y.storeGest env.mem p.out.length gest else y
        let y := if e.warm then y.heaterOff.set F.CAL_STATE_PAIRED 0 |>.onCal (fun c => { c with cold := none }) else y
        let y := ((y.set F.CAL_RES_BAD p.bad).set F.CAL_EXCL_EXCL p.excl).noteQuality e p
        if res ≠ 1 then y.rejectEvent res env.now
        else if y.setChanged e then y.calAbandon 6 env.now
        else
          let y := if applied then y.fire 331 else y
          let y := if !e.warm && y.on F.CAL_CTRL_GREF_EN then y.storeCold e p env.now else y
          let rs := e.recs.map (·.2)
          let e := { e with accepted := true, alt := alt, newTf0 := meanCode (rs.map (·.tf)), newTh0 := meanCode (rs.map (·.th))
                            hash := (sha256Words img).map (·.toNat), post := y.get F.CAL_Q_FPN_POST, gains := applied }
          let y := (((y.set F.CAL_RES_RESULT 1).count F.CAL_CNT_ACCEPTED).cond 328 false).set F.CAL_STATE_PHASE 8
          (y.onCal (fun c => { c with event := some e, rejects := 0 })).armEvent e env.now

/-- The CAL_HASH words set. -/
def Die.setHash (x : Die) (l : List Nat) : Die := (l.zipIdx).foldl (fun y e => y.set (F.CAL_HASH_DIGEST e.2) e.1) x

/-- The FRAME_START at which an accepted event's commit applies (R172): generation, hash and alternate plane; one whose
commit was cancelled is discarded. -/
def Die.eventApplied (x : Die) (e : CalEvent) (now : Nat) : Die :=
  let y := x.eventOver now
  if x.planeBase e.gain ≠ e.alt then ((y.set F.CAL_RES_RESULT 6).fire 324).phaseOver
  else
    let same := (List.range 3).filter (fun g => x.planeBase g = e.alt)
    let y := { y with planeHash := same.foldl (fun l g => fillSet [] l g e.hash) y.planeHash }
    let y := (((y.set F.CAL_SET_GEN_GEN (y.get F.CAL_SET_GEN_GEN + 1)).setHash e.hash).set (F.CAL_ALT_BASE e.gain) (e.plane / 4096)).onCal
      (fun c => { c with acceptedOnce := true, acceptedAt := now, post := e.post, recordDue := true })
    ((y.set F.CAL_AGE_AGE 0).fire 322).phaseOver

/-- The SHA-256 words of the plane of a gain state. -/
def Die.planeDigest (x : Die) (mem : Memory) (g : Nat) : List Nat :=
  (sha256Words (mem.readBytes (x.planeBase g) planeBytes)).map (·.toNat)

/-- The hashes of the planes in force retained (R322). -/
def Die.retainHashes (x : Die) (mem : Memory) : Die := { x with planeHash := (List.range 3).map (x.planeDigest mem) }

/-- The CP asks the CMM for the hash of the plane in force of the current gain state (R180). -/
def Die.askHash (x : Die) : Die :=
  let y := (List.range 8).foldl (fun y n => y.set (F.CAL_HASH_DIGEST n) 0) (x.onCal (fun c => { c with hash := true }))
  if y.on F.CMM_HASH_CTRL_BUSY then y else y.hashGo (y.get F.SEQ_FCFG_GAIN % 4)

/-- What a FRAME_START does to calibration (R151, R162, R172, R173, R179, R180); `planes` says that a commit of the CMM
changed a plane at it. -/
def Die.calFrameStart (x : Die) (now : Nat) (planes : Bool) : Die :=
  if !x.jobRuns 1 then x
  else
    let x := x.armTrims
    let y := match x.cal.event with
      | some e =>
        if e.armed then (if x.commitPending 0x33 then x else x.eventApplied e now)
        else if x.frame.gain ≠ e.gain then x.calAbandon 5 now
        else if e.accepted then (if x.setChanged e then x.calAbandon 6 now else x.armEvent e now)
        else if e.writing then x else x.eventFrame e now
      | none => x
    let own := match x.cal.event with | some e => e.armed | none => false
    let y := if planes && !own then (y.set F.CAL_SET_GEN_GEN 0).askHash else y
    y.calTrack now

/-- HASH_DONE (R180): a hash the CP asked for goes into CAL_HASH. While throttle level 1 is in force plane hashing is deferred
(Table 10.5), so that a hash asked for or begun does not end until the level is left (log entry 107). -/
def execHashDone (d : DieId) (s : State) : Host.Outcome State Fault Refusal :=
  onDie d s fun env x =>
    let base := if 1 ≤ x.thm.acted then none else x.cmm.hashing
    let y := if 1 ≤ x.thm.acted then x else x.hashDone env.mem
    if base.isNone || !y.cal.hash then y
    else if base ≠ some (y.planeBase (y.get F.SEQ_FCFG_GAIN)) then y.hashGo (y.get F.SEQ_FCFG_GAIN % 4)
    else
      let z := (y.setHash ((List.range 8).map (fun n => y.get (F.CMM_HASH_DIGEST n)))).onCal (fun c => { c with hash := false })
      let z := z.retainHashes env.mem
      if z.cal.hashMbx then (z.onCal (fun c => { c with hashMbx := false })).mbxResult 1 0 0 else z

/-! ### Mailbox 1 (Table 5.10) -/

/-- CAL_EVENT (R162, R163). -/
def Die.serveCalEvent (x : Die) (arg now : Nat) : Die :=
  if 1 < arg then x.mbxResult 1 3 0
  else if x.cal.event.isSome || !x.on F.CAL_CTRL_EN || !x.canClose then x.mbxResult 1 5 0
  else (x.onCal (fun c => { c with host := some arg, hostDue := true })).showDue now

/-- CAL_ABORT (R167). -/
def Die.serveCalAbort (x : Die) (now : Nat) : Die :=
  match x.cal.event with
  | some e => if e.armed then x.mbxResult 1 1 0 else (x.calAbandon 5 now).mbxResult 1 0 0
  | none => x.mbxResult 1 1 0

/-- CAL_HASH (R180). -/
def Die.serveCalHash (x : Die) : Die := (x.onCal (fun c => { c with hashMbx := true })).askHash

/-- CAL_EVENT. -/
def execCalEvent (d : DieId) (tag arg : Nat) (s : State) : Host.Outcome State Fault Refusal :=
  onDie d s fun env x => x.mbxCommand 1 0x0100 tag arg (fun y => y.serveCalEvent arg env.now)

/-- CAL_ABORT. -/
def execCalAbort (d : DieId) (tag arg : Nat) (s : State) : Host.Outcome State Fault Refusal :=
  onDie d s fun env x => x.mbxCommand 1 0x0101 tag arg (fun y => y.serveCalAbort env.now)

/-- CAL_HASH. -/
def execCalHash (d : DieId) (tag arg : Nat) (s : State) : Host.Outcome State Fault Refusal :=
  onDie d s fun _ x => x.mbxCommand 1 0x0104 tag arg (fun y => y.serveCalHash)

/-! ### Staggering (R183 to R185) -/

/-- Request `a` is granted before `b` (R184): by reason, time of request, pair primary before secondary, Die A before Die B. The
arbiter's own package is the primary, or alone. -/
def StaggerReq.before (a b : StaggerReq) : Bool :=
  let key (r : StaggerReq) := [reasonPlace r.reason, r.came, r.partner.toNat, if r.die = .a then 0 else 1]
  decide (key a < key b)

/-- The request that is granted first. -/
def staggerFirst (l : List StaggerReq) : Option StaggerReq :=
  l.foldl (fun m r => match m with
    | some b => if r.before b then some r else m
    | none => some r) none

/-- The die is the arbiter of a stagger group: the lead die of a primary or standalone package, or a die that its package's other
die does not join (R183, R185). -/
def Die.arbitrates (x peer : Die) : Bool :=
  if x.leads then !(x.pairRole = 2 && x.partnerIn peer) else !x.on F.CAL_PAIR_LOCAL

/-- The arbiter's group holds a die: its own, the package's other die when LOCAL joins it and the link between them is up, and
the partner's dies. -/
def Die.inGroup (x peer : Die) (partner : Bool) (who : DieId) : Bool :=
  if partner then x.pairRole = 1 && x.partnerIn peer
  else who = x.id || (x.leads && x.on F.CAL_PAIR_LOCAL && x.on F.D2D_STAT_UP)

/-- A die's request leaves the arbiter. -/
def dropRequest (l : List StaggerReq) (partner : Bool) (who : DieId) : List StaggerReq :=
  l.filter (fun r => r.partner != partner || r.die != who)

/-- The arbiter's grant comes back from a die (R183). -/
def Die.takeBack (x : Die) (partner : Bool) (who : DieId) (now : Nat) : Die :=
  if x.cal.holder.any (fun r => r.partner = partner && r.die = who) then
    x.onCal (fun c => { c with holder := none, releasedAt := some now }) else x

/-- STAGGER_REQUEST (R184): the request reaches the arbiter; a changed reason keeps its place in time; reason 0 withdraws the
request, and of a die of the partner's gives its grant up. -/
def execStaggerRequest (d : DieId) (partner : Bool) (who : DieId) (reason : Nat) (s : State) :
    Host.Outcome State Fault Refusal :=
  onDie d s fun env x =>
    if !x.arbitrates env.peer then x
    else if reason = 0 then
      let y := x.onCal (fun c => { c with requests := dropRequest c.requests partner who })
      if partner then y.takeBack true who env.now else y
    else if !x.inGroup env.peer partner who then x
    else
      let came := ((x.cal.requests.find? (fun r => r.partner = partner && r.die = who)).map (·.came)).getD env.now
      let r : StaggerReq := { partner := partner, die := who, reason := reason, came := came }
      x.onCal (fun c => { c with requests := dropRequest c.requests partner who ++ [r] })

/-- The requests that still wait, of dies that belong to the group. -/
def Die.liveRequests (x peer : Die) (l : List StaggerReq) : List StaggerReq :=
  l.filter (fun r => x.inGroup peer r.partner r.die &&
    (r.partner || (if r.die = x.id then x else peer).on F.CAL_PAIR_WAIT))

/-- The grant is out (R183): its holder belongs to the group and has not given it up, or its blade is not open. -/
def Die.grantOut (x peer : Die) : Bool :=
  x.cal.holder.any (fun r =>
    if r.partner then x.inGroup peer true r.die
    else let y := if r.die = x.id then x else peer
         y.on F.CAL_PAIR_GRANT || !y.openRest)

/-- GAP milliseconds have passed since the last release (R183). -/
def Die.gapOver (x : Die) (now : Nat) : Bool :=
  match x.cal.releasedAt with
  | some t => x.get F.CAL_PAIR_GAP * 250000 ≤ now - t
  | none => true

/-- The arbiter may give the grant: it is free, and GAP has passed (R183). -/
def Die.mayGrant (x peer : Die) (now : Nat) : Bool := x.arbitrates peer && !x.grantOut peer && x.gapOver now

/-- STAGGER_GRANT (R183, R184): the arbiter gives the free grant to the first request; or a grant of the partner's arbiter
arrives, which a die that does not wait gives back. -/
def execStaggerGrant (d : DieId) (arrives : Bool) (s : State) : Host.Outcome State Fault Refusal :=
  let x := s.die d
  let peer := s.die d.other
  let own := !arrives && !x.inReset && x.mayGrant peer s.now
  let next := if own then staggerFirst (x.liveRequests peer x.cal.requests) else none
  onBoth d s
    (fun env x =>
      if arrives then
        if x.pairRole = 2 && x.partnerIn env.peer && !x.pairBars env.peer then
          (if x.on F.CAL_PAIR_WAIT then x.set F.CAL_PAIR_GRANT 1 else x.send (.staggerRelease x.id))
        else x
      else if !own then x
      else
        let l := x.liveRequests env.peer x.cal.requests
        match next with
        | none => x.onCal (fun c => { c with requests := l, holder := none })
        | some r =>
          let y := x.onCal (fun c => { c with holder := some r, requests := l.filter (· != r) })
          if r.partner then y.send (.staggerGrant r.die)
          else if r.die = d then y.set F.CAL_PAIR_GRANT 1 else y)
    (fun _ x =>
      match next with
      | some r => if !r.partner && r.die != d && x.on F.CAL_PAIR_WAIT then x.set F.CAL_PAIR_GRANT 1 else x
      | none => x)

/-- The other die's part when die `d` gives its grant up: it may be the arbiter (R183, R186). -/
def Die.grantBack (x : Die) (d : DieId) (now : Nat) : Die := x.takeBack false d now

/-- STAGGER_RELEASE (R183): a die gives its grant up with its Cloche at rest open; the arbiter's grant is free again. -/
def execStaggerRelease (d : DieId) (s : State) : Host.Outcome State Fault Refusal :=
  let due := (s.die d).on F.CAL_PAIR_GRANT && (s.die d).openRest && !(s.die d).inReset
  onBoth d s
    (fun env x => if due then ((x.set F.CAL_PAIR_GRANT 0).grantBack d env.now).send (.staggerRelease d) else x)
    (fun env x => if due then x.grantBack d env.now else x)

end Sys2Proof.Machine
end

