-- ==== Sys2Proof/Machine/Pcie.lean ====
section
/-!
DEFINITION. The PCIe endpoint (13_links.md, R354 to R360, R431): the stream engines that deliver items into host
memory, the window onto the DRAM, and the link.
-/

namespace Sys2Proof.Machine

/-- The endpoint's hidden state changed. -/
def Die.onDma (x : Die) (f : Dma → Dma) : Die := { x with dma := f x.dma }

/-- Table 13.2: a stream whose items wait when there is no descriptor. -/
def streamWaits (s : Nat) : Bool := s < 24 || s = 40 || s = 41

/-- The engines may write: Bus Master Enable, not in D3hot, the link up (R360). -/
def Die.dmaRuns (x : Die) : Bool := x.dma.bme && !x.dma.d3 && x.dma.width != 0

/-- The descriptors of stream `s` from HEAD up to TAIL (R357). -/
def Die.descriptors (x : Die) (s : Nat) : Nat :=
  let size := 2 ^ x.get (F.STR_CFG_SIZE_LOG2 s)
  (x.get (F.STR_IDX_TAIL s) % size + size - x.get (F.STR_IDX_HEAD s) % size) % size

/-- The host address of the descriptor at HEAD: 16 bytes each, from the ring's address on (R357). -/
def Die.descriptorAt (x : Die) (s : Nat) : Nat :=
  x.get (F.STR_RING_LO_ADDR s) / 64 * 64 + 2 ^ 32 * x.get (F.STR_RING_HI_ADDR s) +
    16 * (x.get (F.STR_IDX_HEAD s) % 2 ^ x.get (F.STR_CFG_SIZE_LOG2 s))

/-- The descriptor at HEAD is written (Table 13.3, R358): the item into its buffer, then word 12 with DONE, STATUS and the bytes
written. -/
def Die.sendItem (x : Die) (s status addr : Nat) (bytes : List Byte) : Die :=
  x.send (.dma s addr bytes (x.descriptorAt s + 12) (2 ^ 31 + 2 ^ 28 * status + bytes.length))

/-- An item of stream `s` can go out. -/
def Die.streamReady (x : Die) (s : Nat) : Bool := x.dmaRuns && x.on (F.STR_CFG_EN s) && x.descriptors s != 0

/-- The items of a stream. -/
def Die.itemsOf (x : Die) (s : Nat) : List DmaItem := x.dma.items.filter (fun i => i.stream = s)

/-- Stream `s` has an item that waits for a descriptor (R359). -/
def Die.streamHeld (x : Die) (s : Nat) : Bool := streamWaits s && !(x.itemsOf s).isEmpty && !x.streamReady s

/-- STRs_CFG.WAIT of the streams and STREAM_WAIT, event 118 (R359). -/
def Die.showWait (x : Die) : Die :=
  let y := (List.range 42).foldl (fun y s => y.setB (F.STR_CFG_WAIT s) (x.streamHeld s)) x
  y.cond 118 ((List.range 42).any (fun s => x.streamHeld s))

/-- The discarding streams drop the items beyond their descriptors (R359). -/
def Die.dropExcess (x : Die) (s : Nat) : Die :=
  let mine := x.itemsOf s
  let keep := if x.dmaRuns && x.on (F.STR_CFG_EN s) then x.descriptors s else 0
  if streamWaits s || mine.length ≤ keep then x
  else
    let y := x.onDma (fun m => { m with items := m.items.filter (fun i => i.stream != s) ++ mine.take keep })
    (List.range (mine.length - keep)).foldl (fun y _ => ((y.count F.PCI_SLOST_COUNT).set F.PCI_SLOST_LAST s).fire 121) y

/-- An item handed to its stream. -/
def Die.dmaPost (x : Die) (i : DmaItem) : Die :=
  ((x.onDma (fun m => { m with items := m.items ++ [i] })).dropExcess i.stream).showWait

/-- The list without its first item of stream `s`. -/
def dropItem : List DmaItem → Nat → List DmaItem
  | [], _ => []
  | i :: r, s => if i.stream = s then r else i :: dropItem r s

/-- A descriptor completes: HEAD, PCI_SDONE and STREAM_DONE, in that order (R358). -/
def Die.descriptorDone (x : Die) (s : Nat) : Die :=
  let y := x.set (F.STR_IDX_HEAD s) ((x.get (F.STR_IDX_HEAD s) + 1) % 2 ^ x.get (F.STR_CFG_SIZE_LOG2 s))
  let y := y.raise (F.PCI_SDONE_DONE (s / 32)) (2 ^ (s % 32))
  if y.on (F.STR_CFG_IRQ s) then y.fire 117 else y

/-- TAIL_ADVANCE (R357): descriptors posted to a stream. -/
def execTailAdvance (d : DieId) (s tail : Nat) (st : State) : Host.Outcome State Fault Refusal :=
  onDie d st fun _ x => if s < 42 && x.takes 0x14 then (x.set (F.STR_IDX_TAIL s) tail).showWait else x.accErr 0x14

/-- DESCRIPTOR_COMPLETE (R358, R359): the oldest item of the stream goes into the buffer of `len` bytes at `addr` that the
descriptor at HEAD, read from host memory, names (Table 13.3); a
buffer shorter than the item completes with TOOSMALL and the item goes to the next descriptor. -/
def execDescriptorComplete (d : DieId) (s addr len : Nat) (st : State) : Host.Outcome State Fault Refusal :=
  onDie d st fun _ x =>
    match (x.itemsOf s).head? with
    | none => x
    | some i =>
      if !x.streamReady s then x
      else if len < i.bytes.length then
        (((x.sendItem s 1 addr []).descriptorDone s).dropExcess s).showWait
      else
        let y := (x.sendItem s 0 addr i.bytes).onDma (fun m => { m with items := dropItem m.items s })
        ((y.descriptorDone s).dropExcess s).showWait

/-- DESCRIPTOR_READ_ERROR (R360): the engine stops; its descriptor completes with ABORTED where it can be written. -/
def execDescriptorReadError (d : DieId) (s kind : Nat) (written : Bool) (st : State) : Host.Outcome State Fault Refusal :=
  onDie d st fun _ x =>
    if !x.streamReady s then x
    else
      let y := if written then (x.sendItem s 2 0 []).descriptorDone s else x
      let y := (y.set (F.STR_CFG_ERR s) 1).set (F.STR_CFG_EN s) 0
      let y := ((y.count F.PCI_DMA_ERR_COUNT).set F.PCI_DMA_ERR_KIND kind).set F.PCI_DMA_ERR_STREAM s
      ((y.fire 120).dropExcess s).showWait

/-- A BAR2 access beyond the usable DRAM (R356). -/
def Die.bar2Beyond (x : Die) : Die := ((x.count F.PCI_DMA_ERR_COUNT).set F.PCI_DMA_ERR_KIND 0).fire 120

/-- BAR2_ACCESS (R356). -/
def execBar2Access (d : DieId) (off len : Nat) (data : Option (List Byte)) (ecc : Ecc) (st : State) :
    Host.Outcome State Fault Refusal :=
  onDie d st fun env x =>
    let a := x.get F.PCI_BAR2_BASE_BASE * 1048576 + off
    match data with
    | some bs => if Config.dramBytes < a + bs.length then x.bar2Beyond else x.dramWrite a bs
    | none =>
      if Config.dramBytes < a + len then x.bar2Beyond.send (.bar2Data (List.replicate len 0) false)
      else if ecc = .uncorrectable then
        (x.count (F.ERR_CNT_UNCORR 0x58)).send (.bar2Data (env.mem.readBytes a len) true)
      else
        let y := if ecc = .corrected then x.count (F.ERR_CNT_CORR 0x58) else x
        y.send (.bar2Data (env.mem.readBytes a len) false)

/-- What stops or restarts the engines: waiting streams wait, discarding streams drop (R360). -/
def Die.dmaChanged (x : Die) : Die := ((List.range 42).foldl (fun y s => y.dropExcess s) x).showWait

/-- BUS_MASTER_DISABLE (R360). -/
def execBusMasterDisable (d : DieId) (off : Bool) (st : State) : Host.Outcome State Fault Refusal :=
  onDie d st fun _ x => (x.onDma (fun m => { m with bme := !off })).dmaChanged

/-- D3HOT_ENTRY (R356, R360). -/
def execD3hotEntry (d : DieId) (enter : Bool) (st : State) : Host.Outcome State Fault Refusal :=
  onDie d st fun _ x => (x.onDma (fun m => { m with d3 := enter })).dmaChanged

/-- The link comes to a width and speed (Table 13.16: PCI_LINK, LINK_CHANGE). -/
def Die.linkTo (x : Die) (width speed : Nat) : Die :=
  let w := x.dma.width
  let rate := if width = 0 then 0 else speed
  if w = width && x.dma.speed = rate then x
  else
    let y := (((x.set F.PCI_LINK_WIDTH width).set F.PCI_LINK_SPEED rate).onDma (fun m =>
      { m with width := width, speed := rate })).fire 119
    (if w = 0 then y else y.count F.PCI_LINK_RETRAINS).dmaChanged

/-- A width and speed that the endpoint trains to (Table 13.1); width 0 is the link down. -/
def linkOk (width speed : Nat) : Bool := width = 0 || ((width = 1 || width = 2 || width = 4) && 1 ≤ speed && speed ≤ 4)

/-- PCIE_LINK_CHANGE (R360): no link comes up while PE_PERST_N holds the endpoint in reset (R431), and none of a width or a speed
that the endpoint does not support (R354). -/
def execPcieLinkChange (d : DieId) (width speed : Nat) (st : State) : Host.Outcome State Fault Refusal :=
  onDie d st fun _ x =>
    if ((x.dma.perst || x.boot.banks.getLsbD 0) && width != 0) || !linkOk width speed then x else x.linkTo width speed

/-- The words of the function's type 0 header that Table 13.1 fixes, by offset: vendor and device ID, revision and class code,
subsystem IDs. -/
def Die.configHeader (x : Die) (off : Nat) : Option Nat :=
  if off = 0x00 then some (0x2560 * 2 ^ 16 + x.fuses.vendor)
  else if off = 0x08 then some (0x0480 * 2 ^ 16 + x.fuses.revision)
  else if off = 0x2C then some (x.fuses.subsystem * 2 ^ 16 + x.fuses.subVendor)
  else none

/-- The function's configuration space at its PCIe starting values: Bus Master Enable 0, D0, every vector masked, none
pending (log entry 13). -/
def Die.configReset (x : Die) : Die :=
  ({ x.onDma (fun m => { m with bme := false, d3 := false, msixOn := true, funcMask := false, table := [] }) with msixMask := 0xFF, msixPend := 0 }).dmaChanged

/-- The endpoint goes into reset (R431): its link and its configuration space. -/
def Die.endpointReset (x : Die) : Die := (x.linkTo 0 0).configReset

/-- PE_PERST (R431). While bank B2 has no supply the ball reads 0 whatever the board drives (R424). -/
def execPePerst (d : DieId) (low : Bool) (st : State) : Host.Outcome State Fault Refusal :=
  onDieAlways d st fun _ x =>
    let y := x.onDma (fun m => { m with perst := low })
    if low && !x.inReset then y.endpointReset else y

end Sys2Proof.Machine
end

