-- ==== Sys2Proof/Machine/GraftTable.lean ====
section
/-!
DEFINITION. The graft table in the Seed Tray (15_errors_self_test_and_grafting.md, Tables 15.4 and 15.5, R411, R412), and
what a finished sweep of the Weeder leaves in its header.
-/

namespace Sys2Proof.Machine

/-- A logical page as it will read once the writes requested for it have been carried out. -/
def Nvs.planned (s : Nvs) (n : Nat) : List Byte :=
  s.pending.foldl (fun b r => match r.what with
    | .page m off bytes => if m = n then mergePage b off bytes else b
    | _ => b) (s.logical n)

/-- A little-endian number in a list of bytes. -/
def leAt (l : List Byte) (off n : Nat) : Nat := ofBytesLE ((l.drop off).take n)

/-- The first page of the graft table: its header. -/
def graftPage : Nat := 752

/-- Entry `i` of the graft table. -/
def Nvs.graftEntry (s : Nvs) (i : Nat) : List Byte := ((s.planned (graftPage + 1 + i / 4)).drop (16 * (i % 4))).take 16

/-- An entry in force (R411): its state and its CRC-16. -/
def graftInForce (e : List Byte) : Bool := leAt e 0 1 = 0xA5 && leAt e 14 2 = crc16 (e.take 14)

/-- A graft table entry. -/
structure GraftEntry where
  type : Nat
  cause : Nat
  inst : Nat
  deriving DecidableEq, Repr

/-- The places and contents of the entries in force. -/
def Nvs.grafts (s : Nvs) : List (Nat × GraftEntry) :=
  (List.range 252).filterMap (fun i =>
    let e := s.graftEntry i
    if graftInForce e then some (i, { type := leAt e 1 1, cause := leAt e 2 1, inst := bits (leAt e 4 4) 0 20 }) else none)

/-- The bytes of an entry (Table 15.4). -/
def graftBytes (ty cause spare inst ms : Nat) : List Byte :=
  let b := bytesLE 1 0xA5 ++ bytesLE 1 ty ++ bytesLE 1 cause ++ bytesLE 1 spare ++ bytesLE 4 inst ++ bytesLE 6 ms
  b ++ bytesLE 2 (crc16 b)

/-- The header written again, its generation advanced (Table 15.5). -/
def Die.writeGraftHeader (x : Die) : Die :=
  let h := x.nvs.planned graftPage
  let sram := (x.spr.sramUsed.map (·.2)).sum
  x.nvsRequest 3 (.page graftPage 0 (padTo 64 (bytesLE 2 0x4754 ++ bytesLE 1 1 ++ bytesLE 1 0 ++ bytesLE 4 (leAt h 4 4 + 1) ++
    bytesLE 2 x.nvs.grafts.length ++ bytesLE 2 0 ++ bytesLE 4 (x.get F.SPR_DYN_LAST_COUNT) ++
    bytesLE 4 (x.get F.SPR_DYN_PEAK_COUNT) ++ bytesLE 4 sram ++ bytesLE 4 (x.get F.SPR_DYN_PREV_COUNT))))

/-- At a start the MP corrects a header that a power loss has left behind its entries (R411). -/
def Die.mendGraftHeader (x : Die) : Die :=
  if leAt (x.nvs.planned graftPage) 8 2 = x.nvs.grafts.length then x else x.writeGraftHeader

/-- SPR_TABLE.USED and TABLE_FULL (R412). -/
def Die.showTable (x : Die) : Die := x.set F.SPR_TABLE_USED x.nvs.grafts.length

/-- The Weeder's sweep is done: the counts move on, and the header holds them (R412). -/
def Die.sweepDone (x : Die) : Die :=
  let n := x.get F.WDR_DYN_CNT_COUNT
  let y := ((x.set F.SPR_DYN_PREV_COUNT (x.get F.SPR_DYN_LAST_COUNT)).set F.SPR_DYN_LAST_COUNT n).peak F.SPR_DYN_PEAK_COUNT n
  (if y.on F.SPR_CTRL_PERSIST then y.writeGraftHeader else y).showSweepWear

/-- The counts of the header read back into their registers, at a start or after a block reset. -/
def Die.loadGraftHeader (x : Die) : Die :=
  let h := x.nvs.planned graftPage
  (((x.set F.SPR_DYN_LAST_COUNT (leAt h 12 4)).set F.SPR_DYN_PEAK_COUNT (leAt h 16 4)).set F.SPR_DYN_PREV_COUNT
    (leAt h 24 4)).showTable

end Sys2Proof.Machine
end

