-- ==== Sys2Proof/Machine/Weeder.lean ====
section
/-!
DEFINITION. The Weeder behind the slices (04_sieve.md, R125 to R131): the fill stage, a frame's closing figures, the
dynamic tests and the dynamic defect map.
-/

namespace Sys2Proof.Machine

/-! ### The fill stage (R125 to R128) -/

/-- The Y of a valid neighbour: in the row, not marked, corrected by a slice. -/
def SieveRow.valid (r : SieveRow) (col : Nat) : Option Nat :=
  match r.pix[col]? with
  | some p => if p.mark || p.lost then none else some p.y
  | none => none

/-- The same, for a row that may not exist and a column `d` less one to the right of `col`: 0 left, 1 here, 2 right. -/
def neighbour (r : Option SieveRow) (col d : Nat) : Option Nat :=
  match r with
  | some r => if col + d = 0 then none else r.valid (col + d - 1)
  | none => none

/-- Insertion into a rising list. -/
def insertNat (v : Nat) : List Nat → List Nat
  | [] => [v]
  | a :: r => if v ≤ a then v :: a :: r else a :: insertNat v r

/-- The lower median of a list (R125). -/
def lowerMedian (l : List Nat) : Nat := (l.foldl (fun s v => insertNat v s) []).getD ((l.length - 1) / 2) 0

/-- The complete direction of least difference, the first among equals (R125). -/
def bestDirection (l : List (Option Nat × Option Nat)) : Option (Nat × Nat) :=
  l.foldl (fun m e => match e.1, e.2 with
    | some a, some b =>
      (match m with
       | some (c, d) => if (max a b - min a b) < (max c d - min c d) then some (a, b) else m
       | none => some (a, b))
    | _, _ => m) none

/-- R125: the new Y from the eight neighbours; none where no neighbour is valid. -/
def fillAround (up here down : Option SieveRow) (col : Nat) : Option Nat :=
  let n (r : Option SieveRow) (d : Nat) := neighbour r col d
  let l := ([n up 0, n up 1, n up 2, n here 0, n here 2, n down 0, n down 1, n down 2]).filterMap id
  if l.isEmpty then none
  else
    let m := lowerMedian l
    match bestDirection [(n here 0, n here 2), (n up 1, n down 1), (n up 0, n down 2), (n up 2, n down 0)] with
    | some (a, b) => some (max (min a b) (min (max a b) m))
    | none => some m

/-- The nearest valid value of a row within six columns to one side, with its distance (R126). -/
def nearest (r : SieveRow) (col : Nat) (right : Bool) : Option (Nat × Nat) :=
  ((List.range 6).map (· + 1)).findSome? (fun d =>
    if right then (r.valid (col + d)).map (fun v => (v, d))
    else if d ≤ col then (r.valid (col - d)).map (fun v => (v, d)) else none)

/-- R126: the new Y along the row; none where neither side has a valid pixel. -/
def fillAlong (r : SieveRow) (col : Nat) : Option Nat :=
  match nearest r col false, nearest r col true with
  | some (a, dl), some (b, dr) =>
    some ((a : Int) + (((b : Int) - a) * dl + ((dl + dr) / 2 : Nat)).tdiv ((dl + dr : Nat) : Int)).toNat
  | some (a, _), none => some a
  | none, some (b, _) => some b
  | none, none => none

/-- The new Y of a marked pixel, where R125 or R126 gives one. -/
def fillValue (up down : Option SieveRow) (r : SieveRow) (col : Nat) : Option Nat :=
  match fillAround up (some r) down col with
  | some y => some y
  | none => fillAlong r col

/-- The marked columns whose fill fails a residue check: by a fault of the fill stage, or since the conversion of the new Y reads a
table entry with an uncorrectable error (R132, R133). -/
def fillBad (gain : Nat) (conv : Bool) (up down : Option SieveRow) (r : SieveRow) (f : FillFaults) : List Nat :=
  (List.range r.pix.length).filter (fun col => match r.pix[col]? with
    | some p => p.mark && !p.lost && (f.resid.contains col || conv && (match fillValue up down r col with
      | some y => f.entries.contains (4096 * gain + y / 16)
      | none => false))
    | none => false)

/-- A row after the fill: what each marked pixel received, and the counts of filled and unfilled pixels
(R125 to R127, R133, R134); `bad` are the marked pixels whose fill failed a residue check. -/
def fillRow (resp : RegMap) (gain : Nat) (conv : Bool) (up down : Option SieveRow) (r : SieveRow) (bad : List Nat) :
    List Pix × Nat × Nat :=
  let l := (r.pix.zipIdx).map (fun e =>
    let p := e.1
    if bad.contains e.2 then ({ p with t := 0 }, false, true)
    else if p.lost then ({ p with t := 0 }, false, true)
    else if !p.mark then (p, false, false)
    else match fillValue up down r e.2 with
      | some y => ({ p with y := y, t := if conv then toT resp gain y else 0 }, true, false)
      | none => ({ p with t := 0 }, false, true))
  (l.map (·.1), (l.filter (·.2.1)).length, (l.filter (·.2.2)).length)

/-- The oldest held row may be filled: the row below it has cleared, or it ends its frame's window (R128). -/
def Die.fillReady (x : Die) : Bool :=
  match x.sieve.held with
  | [] => false
  | _ :: _ :: _ => true
  | [r] =>
    (r.frame = x.frame.num && r.row = x.get F.SEQ_WIN_ROW0 + x.get F.SEQ_WIN_ROWS_M1) ||
      (x.frameEnded r.frame && !x.rowsToCome r.frame)

/-- The row releases the last of its frame. -/
def Die.lastOfFrame (x : Die) (r : SieveRow) : Bool :=
  x.frameEnded r.frame && !x.rowsToCome r.frame && !x.sieve.held.any (fun h => h.frame = r.frame)

/-- The figures of a frame whose last row is released (SVE_FSTAT, SVE_SAT_CNT, WDR_FSTAT). -/
def Die.closeStats (x : Die) (n : Nat) : Die :=
  match x.frame? n with
  | some f =>
    ((((x.set F.SVE_FSTAT_ARITH (min 65535 f.arith)).set F.SVE_FSTAT_TWINFAIL (min 65535 f.twin)).set F.SVE_SAT_CNT_COUNT
      (min (2 ^ 24 - 1) f.sat)).set F.WDR_FSTAT_FILLED (min 65535 f.filled)).set F.WDR_FSTAT_UNFILLED (min 65535 f.unfilled)
  | none => x

/-! ### The dynamic tests (R129, R130) -/

/-- A row of a frame belongs to the band that the audit is at; a band that began anew at a later frame has no part in it. -/
def Die.inBand (x : Die) (p : SieveParams) (row : Nat) : Bool :=
  x.wdr.key.isSome && x.wdr.since ≤ p.frame && p.row0 ≤ row && (row - p.row0) / 8 = x.get F.WDR_AUDIT_STAT_BAND

/-- The band's counted frames are complete (R129); no band has been begun before a FRAME_START at which AUDIT is 1. -/
def Die.bandFull (x : Die) : Bool :=
  match x.wdr.key with
  | some k => k.2.2 < x.wdr.frames
  | none => false

/-- One recording of a pixel: Y, twice R and twice d, with the flicker step (R129). After frames in which it was not recorded, d
is compared with the one recorded last: the model's own reading of d_previous (log entry 73). -/
def AuditPix.record (a : AuditPix) (y r2 step : Nat) : AuditPix :=
  let d2 : Int := 2 * (y : Int) - r2
  { a with yMin := min a.yMin y, yMax := max a.yMax y, rMin := min a.rMin r2, rMax := max a.rMax r2
           sum := a.sum + d2, sumSq := a.sumSq + (d2 * d2).toNat, cnt := a.cnt + 1
           steps := if 2 * step < (d2 - a.prev).natAbs then a.steps + 1 else a.steps, prev := d2 }

/-- The first recording of a pixel. -/
def auditFirst (row col y r2 : Nat) : AuditPix :=
  let d2 : Int := 2 * (y : Int) - r2
  { row := row, col := col, yMin := y, yMax := y, rMin := r2, rMax := r2, sum := d2, sumSq := (d2 * d2).toNat, cnt := 1
    steps := 0, prev := d2 }

/-- A pixel recorded in a store. -/
def auditPut (l : List AuditPix) (row col y r2 step : Nat) : List AuditPix :=
  if l.any (fun a => a.row = row && a.col = col) then
    l.map (fun a => if a.row = row && a.col = col then a.record y r2 step else a)
  else l ++ [auditFirst row col y r2]

/-- A released row of the audited band recorded, with the values of its frame (R120, R129): not NOAUDIT, not marked, both row
neighbours unmarked. A pixel of the first or last column has one neighbour and no R; that it is never recorded, and so never
judged, is the model's own choice (log entry 73). -/
def Die.auditRow (x : Die) (r : SieveRow) : Die :=
  let p := x.sieveParams r.frame
  if !x.on F.WDR_CTRL_AUDIT || !x.inBand p r.row || x.bandFull then x
  else
    let base := if x.wdr.workFrame = r.frame then x.wdr.work else x.wdr.store
    let l := (r.pix.zipIdx).foldl (fun l e =>
      if e.1.noaudit || e.1.mark || e.1.lost || e.2 = 0 then l
      else match r.valid (e.2 - 1), r.valid (e.2 + 1) with
        | some a, some b => auditPut l r.row e.2 e.1.y (a + b) p.step
        | _, _ => l) base
    { x with wdr := { x.wdr with work := l, workFrame := r.frame } }

/-- A frame is complete: when it is counted its recordings stand (R129). WDR_AUDIT_STAT.FRAME has six bits and stays at 63 for the
64th (log entry 73). -/
def Die.auditFrameDone (x : Die) (n : Nat) : Die :=
  if !x.on F.WDR_CTRL_AUDIT || x.wdr.key.isNone || !x.counted n || x.bandFull || n < x.wdr.since then x
  else
    let y := { x with wdr := { x.wdr with store := if x.wdr.workFrame = n then x.wdr.work else x.wdr.store
                                          frames := x.wdr.frames + 1, done := n } }
    y.set F.WDR_AUDIT_STAT_FRAME (min 63 y.wdr.frames)

/-- The audit starts again at band 0 (R129, R147). -/
def Die.auditRestart (x : Die) : Die :=
  ({ x with wdr := { x.wdr with store := [], work := [], workFrame := 0, frames := 0, since := x.frame.num } }.set F.WDR_AUDIT_STAT_BAND 0).set
    F.WDR_AUDIT_STAT_FRAME 0

/-- What the audit's band was begun with. -/
def Die.auditKey (x : Die) : Nat × Nat × Nat :=
  (x.get F.SEQ_WIN_ROW0, x.get F.SEQ_WIN_ROWS_M1, x.get F.WDR_AUDIT_FRAMES_M1)

/-- A FRAME_START at which the window rows or WDR_AUDIT have changed discards the partial band (R129). An audit that was off until
now counts from the frame that begins: one switched on in mid-frame has not recorded that frame whole. -/
def Die.auditFrameStart (x : Die) : Die :=
  let y := x.setB F.WDR_AUDIT_STAT_ACTIVE (x.on F.WDR_CTRL_AUDIT)
  if !x.on F.WDR_CTRL_AUDIT then y
  else
    let z := { y with wdr := { y.wdr with key := some x.auditKey
                                          since := if x.on F.WDR_AUDIT_STAT_ACTIVE then y.wdr.since else x.frame.num } }
    if x.wdr.key = some x.auditKey then z else if x.wdr.key.isNone then z else z.auditRestart.fire 366

/-- The first test of Table 4.7 that a pixel fails: 1 stuck, 2 noisy, 3 flickering, 0 none. -/
def SieveParams.failedTest (p : SieveParams) (a : AuditPix) : Nat :=
  let f : Int := p.framesM1 + 1
  let lim : Int := p.noisy
  if a.yMax - a.yMin ≤ p.stuckRange ∧ 2 * p.stuckScene ≤ a.rMax - a.rMin then 1
  else if 4 * f * f * lim * lim < f * (a.sumSq : Int) - a.sum * a.sum then 2
  else if p.flickers ≤ a.steps then 3 else 0

/-- DYN_LIMIT, event 363. -/
def Die.showDyn (x : Die) : Die := x.cond 363 (x.get F.WDR_DYN_LIM_LIMIT < x.get F.WDR_DYN_CNT_COUNT)

/-- One pixel judged against its bit of the map (R130): the die, and the bit. -/
def Die.judgePixel (x : Die) (p : SieveParams) (a : AuditPix) (old : Bool) : Die × Bool :=
  if 2 * a.cnt < p.framesM1 + 1 then (x, old)
  else
    let t := p.failedTest a
    let note (y : Die) : Die := { y with wdr := { y.wdr with fresh := y.wdr.fresh ++ [(a.row, a.col, old)] } }
    if t ≠ 0 then
      if old then (x, true)
      else ((((((note x).count F.WDR_DYN_CNT_COUNT).set F.WDR_LAST_TEST t).set F.WDR_LAST_ROW a.row).set
        F.WDR_LAST_COL a.col).fire 362, true)
    else if x.on F.WDR_CTRL_AUTOCLR && old then
      ((note x).set F.WDR_DYN_CNT_COUNT (x.get F.WDR_DYN_CNT_COUNT - 1), false)
    else (x, old)

/-- Eight bits as a byte. -/
def byteOfBits (l : List Bool) : Byte := BitVec.ofNat 8 (maskOf 8 (fun i => l.getD i false))

/-- A row's bytes of the map from its bits. -/
def dmapBytes (l : List Bool) : List Byte := (List.range 320).map (fun i => byteOfBits ((l.drop (8 * i)).take 8))

/-- One row of the band judged, its bits of the map written when they change. -/
def Die.judgeRow (x : Die) (mem : Memory) (p : SieveParams) (row : Nat) : Die :=
  let bits := dmapRow mem x.dmapBase row
  let (y, new) := (x.wdr.store.filter (fun a => a.row = row)).foldl (fun (acc : Die × List Bool) a =>
    let r := acc.1.judgePixel p a (acc.2.getD a.col false)
    (r.1, listSet acc.2 a.col r.2)) (x, bits)
  if new = bits then y else y.dramWrite (x.dmapBase + 320 * row) (dmapBytes new)

/-- BAND_JUDGE (R120, R129, R130): each pixel of the band is judged with the values of the last frame counted in it, and the
audit moves to the next band. -/
def execBandJudge (d : DieId) (s : State) : Host.Outcome State Fault Refusal :=
  onDie d s fun env x =>
    if !x.on F.WDR_CTRL_AUDIT || !x.bandFull then x
    else
      let band := x.get F.WDR_AUDIT_STAT_BAND
      let p := x.sieveParams x.wdr.done
      let rows := (List.range 8).map (fun i => p.row0 + 8 * band + i)
      let y := (rows.foldl (fun y r => y.judgeRow env.mem p r) x).showDyn
      let last := p.rowsM1 / 8 ≤ band
      let y := ({ y with wdr := { y.wdr with store := [], work := [], workFrame := 0, frames := 0 } }.set F.WDR_AUDIT_STAT_FRAME 0).set
        F.WDR_AUDIT_STAT_BAND (if last then 0 else band + 1)
      let y := y.fire 361
      if last then (y.fire 365).sweepDone else y

/-! ### Releasing a row -/

/-- The oldest held row filled and released: the die after it and the row (R125 to R128, R133). While WDR_CTRL.EN is 0 nothing is
filled (R124). -/
def Die.releaseRow (x : Die) (f : FillFaults) : Option (Die × SieveRow) :=
  match x.sieve.held with
  | [] => none
  | r :: rest =>
    if !x.fillReady then none
    else
      let p := x.sieveParams r.frame
      let up := x.sieve.above.filter (fun u => u.frame = r.frame && u.row + 1 = r.row)
      let down := rest.head?.filter (fun u => u.frame = r.frame && r.row + 1 = u.row)
      let limited := x.boot.limited
      let fills := !limited && x.on F.WDR_CTRL_EN
      let conv := x.on F.RAD_CTRL_EN
      let bad := if fills then fillBad p.gain conv up down r f else []
      let (pix, filled, unfilled) := if fills then fillRow p.resp p.gain conv up down r bad else (r.pix, 0, 0)
      let y := x.onSieve (fun s => { s with held := rest, above := some r })
      let y := if fills && conv then f.entries.foldl (fun y _ => y.fire 374) y else y
      let y := bad.foldl (fun y c => let (st, y) := y.freeVal 4
                                     y.noteResid 6 st r.row (c % 640)) y
      let y := if bad.isEmpty then y
        else (y.onFrame r.frame (fun f => { f with arith := f.arith + bad.length })).onFlags r.frame (fun g => { g with arith := true })
      let y := y.onFrame r.frame (fun f => { f with filled := f.filled + filled, unfilled := f.unfilled + unfilled })
      let y := if unfilled ≠ 0 then y.fireOnce r.frame 364 else y
      let y := if limited then y else y.auditRow r
      let y := if y.lastOfFrame r then (y.closeStats r.frame).auditFrameDone r.frame else y
      some (y, { r with pix := pix })

end Sys2Proof.Machine
end

