-- ==== Sys2Proof/Machine/Ipp.lean ====
section
/-!
DEFINITION. The image pipeline's contexts, input rings, scheduler and tokens (06_camera_inputs_and_pipeline.md, R190 to R198,
R206, R212 to R214).
-/

namespace Sys2Proof.Machine

/-! ### Contexts -/

/-- What a context carries (Table 6.3). -/
inductive CtxKind where
  | thermal | raw | yuv | user
  deriving DecidableEq, Repr

/-- Bits of a RAW data type's sample (Table 6.1). -/
def rawBits (dt : Nat) : Nat :=
  if dt = 0x2A then 8 else if dt = 0x2B then 10 else if dt = 0x2C then 12 else if dt = 0x2D then 14
  else if dt = 0x2E then 16 else 0

/-- A long packet data type of Table 6.1 that a context can take. -/
def dtAllowed (dt : Nat) : Bool := rawBits dt != 0 || dt = 0x1E || (0x30 ≤ dt && dt ≤ 0x37)

/-- The kind of context `n`. -/
def Die.ctxKind (x : Die) (n : Nat) : CtxKind :=
  if x.get (F.CTX_SRC_SRC n) = 0 then .thermal
  else
    let dt := x.get (F.CTX_SRC_DT n)
    if rawBits dt != 0 then .raw else if dt = 0x1E then .yuv else .user

/-- The RWS fields that a context's token arms (R212): its window and STA_CFGn. -/
def ctxFields (n : Nat) : List Fld :=
  [F.CTX_CROP_XY_Y0 n, F.CTX_CROP_XY_X0 n, F.CTX_CROP_WH_H n, F.CTX_CROP_WH_W n, F.CTX_PROC_BLACK n, F.CTX_PROC_BAYER n,
   F.CTX_PROC_MONO n, F.CTX_PROC_VTAP n, F.CTX_PROC_TONE n, F.CTX_PROC_PAL n, F.CTX_PROC_COLSET n, F.CTX_PROC_GAMMA n,
   F.CTX_NR_TNR_K n, F.CTX_NR_TNR_MOT n, F.CTX_NR_SNR n, F.CTX_NR_TNR_EN n, F.CTX_NR_SNR_EN n, F.CTX_TONE_WIN_HIGH n,
   F.CTX_TONE_WIN_LOW n, F.CTX_DISP_EN n, F.CTX_DISP_FMT n, F.CTX_DISP_W n, F.CTX_DISP_H n, F.CTX_CODE_EN n,
   F.CTX_CODE_FMT n, F.CTX_CODE_W n, F.CTX_CODE_H n, F.CTX_VIS_EN n, F.CTX_VIS_FMT n, F.STA_CFG_BASE n, F.STA_CFG_SHIFT n]

/-- A setting of the frame. -/
def CtxFrame.val (f : CtxFrame) (g : Fld) : Nat := (f.settings.look g.key).getD g.rst

/-- A setting of the frame that is one bit. -/
def CtxFrame.flag (f : CtxFrame) (g : Fld) : Bool := f.val g != 0

/-- The outputs a frame has enabled: 0 display, 1 coding, 2 vision. -/
def CtxFrame.outputs (f : CtxFrame) (n : Nat) : List Nat :=
  (if f.flag (F.CTX_DISP_EN n) then [0] else []) ++ (if f.flag (F.CTX_CODE_EN n) then [1] else []) ++
    (if f.flag (F.CTX_VIS_EN n) then [2] else [])

/-- Bytes of a stored line (R193). -/
def Die.lineBytes (x : Die) (n width : Nat) : Nat :=
  match x.ctxKind n with
  | .thermal => 2 * width
  | .raw => if x.get (F.CTX_SRC_DT n) = 0x2A then width else 2 * width
  | .yuv => 2 * width
  | .user => width

/-- A length rounded up to a multiple of 64. -/
def up64 (n : Nat) : Nat := (n + 63) / 64 * 64

/-- Lines of a unit (CTXn_SRC.SHARE). -/
def Die.unitLines (x : Die) (n lines : Nat) : Nat :=
  match x.get (F.CTX_SRC_SHARE n) with
  | 0 => max 1 lines
  | 1 => 32
  | _ => 64

/-- The DRAM address of line `i` of a frame whose unit begins at line `first` in slot `k`. -/
def Die.lineAddr (x : Die) (n : Nat) (f : CtxFrame) (k first i : Nat) : Nat :=
  let stride := up64 (x.lineBytes n f.width)
  x.get (F.CTX_IN_BASE_BASE n) * 4096 + k * (x.unitLines n f.lines * stride) + (i - first) * stride

/-- The slots of a context's ring that hold units. -/
def Ctx.slots (k : Ctx) : List Nat := k.frames.flatMap (fun f => f.units.filterMap (·.slot))

/-- A free slot of the ring. -/
def Die.freeSlot (x : Die) (n : Nat) : Option Nat :=
  (List.range (x.get (F.CTX_SRC_IN_SLOTS_M1 n) + 1)).find? (fun s => !(x.ctxOf n).slots.contains s)

/-! ### Lines into the rings (R193, R196) -/

/-- A frame whose lines have all arrived at its ring: the last unit is ready, with the lines of zero that complete a
short frame (R193, R200; log entry 30). -/
def CtxFrame.close (f : CtxFrame) (now : Nat) : CtxFrame :=
  let stored := f.lens.length
  match f.units.getLast? with
  | some u =>
    if u.ready.isNone then
      { f with units := f.units.dropLast ++ [{ u with count := f.lines - u.first, ready := some now }] }
    else if stored < f.lines then
      { f with units := f.units ++ [{ first := stored, count := f.lines - stored, slot := none, ready := some now }] }
    else f
  | none =>
    if stored < f.lines || f.lines = 0 then
      { f with units := [{ first := stored, count := f.lines - stored, slot := none, ready := some now }] }
    else f

/-- The ended frames of a context that hold no line back are closed. -/
def Die.closeFrames (x : Die) (n now : Nat) : Die :=
  x.onCtx n (fun k => { k with frames := k.frames.map (fun f =>
    if f.ended && !k.held.any (fun l => l.num = f.num) && f.tap0.length + (f.units.map (·.count)).sum < max 1 f.lines
    then f.close now else f) })

/-- A line put into the ring, or none where it needs a slot and none is free (R193). -/
def Die.placeLine (x : Die) (n now : Nat) (l : HeldLine) : Option Die :=
  match (x.ctxOf n).frames.find? (fun f => f.num = l.num) with
  | none => some x
  | some f =>
    let i := f.lens.length
    let ul := x.unitLines n f.lines
    let put (first count s : Nat) (units : List RingUnit) : Die :=
      let u : RingUnit := { first := first, count := count, slot := some s
                            ready := if i + 1 = first + count then some now else none }
      (x.onCtxFrame n f.num (fun f => { f with units := units ++ [u], lens := f.lens ++ [l.real] })).dramWrite
        (x.lineAddr n f s first i) l.bytes
    if i % ul = 0 then
      match x.freeSlot n with
      | none => none
      | some s => some (put i (min ul (f.lines - i)) s f.units)
    else
      match f.units.getLast? with
      | some u => match u.slot with
        | some s => some (put u.first u.count s f.units.dropLast)
        | none => some x
      | none => some x

/-- The held lines of a context go into its ring while there is room. -/
def Die.flushLines (x : Die) (n now : Nat) : Nat → Die
  | 0 => x
  | fuel + 1 =>
    match (x.ctxOf n).held with
    | [] => x
    | l :: r =>
      match (x.onCtx n (fun k => { k with held := r })).placeLine n now l with
      | some y => Die.flushLines y n now fuel
      | none => x

/-- Bytes held in the line buffer that context `n` uses: its port's, or the thermal write buffer. -/
def Die.bufferFill (x : Die) (n : Nat) : Nat :=
  let src := x.get (F.CTX_SRC_SRC n)
  (((List.range 8).filter (fun m => x.get (F.CTX_SRC_SRC m) = src)).map
    (fun m => ((x.ctxOf m).held.map (fun l => up64 l.bytes.length)).sum)).sum

/-- The size of that buffer (R188, R193). -/
def Die.bufferSize (x : Die) (n : Nat) : Nat := if x.get (F.CTX_SRC_SRC n) = 0 then 65536 else 131072

/-- CSI_BUF of a camera context's port. -/
def Die.showBuffer (x : Die) (n : Nat) : Die :=
  let src := x.get (F.CTX_SRC_SRC n)
  if src = 0 then x
  else (x.set (F.CSI_BUF_FILL (src - 1)) (x.bufferFill n / 64)).peak (F.CSI_BUF_PEAK (src - 1)) (x.bufferFill n / 64)

/-- The transmit port is offered a display frame whose first unit has completed (R215, R216); in limited mode the port is off (R324). -/
def Die.vtxOffer (x : Die) (n : Nat) (f : CtxFrame) (buf fmt : Nat) : Die :=
  if x.boot.limited || !x.on (F.CTRL_EN 0x47) || x.get F.VTX_CTRL_SRC != n || fmt = 1 then x
  else if x.ipp.vtx.isSome || x.ipp.vtxNext.isSome then (x.count F.VTX_STAT_SKIPPED).fire 538
  else x.onIpp (fun i => { i with vtxNext := some { ctx := n, num := f.num, buf := buf, frame := f } })

/-! ### HOLD frames (R206) -/

/-- A HOLD frame repeats the buffers of the last frame of its context that was formed before it and not lost since; with none,
nothing is delivered of it. -/
def Die.resend (x : Die) (n : Nat) (grafts : Nat) (f : CtxFrame) : Die :=
  let mine := x.ipp.bufs.filter (fun b => b.ctx = n && b.num < f.num && !b.bytes.isEmpty)
  let num := (mine.map (·.num)).foldl max 0
  let outs := [0, 1, 2].filterMap (fun o => mine.find? (fun b => b.out = o && b.num = num))
  let y := (x.count F.OUT_HOLD_CNT_COUNT).fire 530
  if outs.isEmpty then y.passOn n f.num true f.flags.drop f.owes
  else
    let y := y.awaitNumbers { ctx := n, frame := f, outs := outs, grafts := grafts }
    match outs.find? (fun b => b.out = 0) with
    | some b => y.vtxOffer n f b.num b.fmt
    | none => y

/-- The GRAFTS word of a thermal frame that completes now (Table 7.1). -/
def Die.graftsWord (x : Die) (num : Nat) : Nat :=
  min 1023 (x.get F.ACB_DEG_CNT_DEG + x.get F.ACB_DEG_CNT_VOID) +
  1024 * (min 63 ((x.clusters.filter (fun c => x.on (F.CLU_GRAFT_ACTIVE c))).length)) +
  (if x.on F.SVE_SLICE_SPARE_BUSY then 65536 else 0) +
  (if (List.range 4).any (fun r => x.sliceShared r) then 131072 else 0) +
  (if [F.PRC_MAP_MP, F.PRC_MAP_CP, F.PRC_MAP_LP, F.PRC_MAP_EP].any (fun f => x.get f = 4) then 262144 else 0) +
  (if x.twinInForce (x.sieveParams num) then 524288 else 0)

/-- A HOLD frame can go out: no earlier frame is unfinished, and its last row has left the fill stage. -/
def Die.holdReady (x : Die) (n : Nat) (f : CtxFrame) : Bool :=
  !(x.ctxOf n).frames.any (fun g => g.num < f.num) && !x.rowsToCome f.num && !x.sieve.held.any (fun h => h.frame = f.num)

/-- A HOLD frame with the Sieve's record of it as it stands; of a frame whose record has gone, as it stood last. -/
def Die.withRecord (x : Die) (f : CtxFrame) : CtxFrame :=
  match x.frame? f.num with
  | some r => { f with therm := some r }
  | none => f

/-- The records of the HOLD frames that wait are kept before a frame start drops the older of them. -/
def Die.keepRecords (x : Die) : Die :=
  x.onIpp (fun i => { i with ctx := i.ctx.map (fun k => { k with holds := k.holds.map x.withRecord }) })

/-- HOLD frames go out in order, with the Sieve's record of them. -/
def Die.flushHolds (x : Die) (n : Nat) : Die :=
  let go := (x.ctxOf n).holds.takeWhile (x.holdReady n)
  go.foldl (fun y f => y.resend n (y.graftsWord f.num) (y.withRecord f))
    (x.onCtx n (fun k => { k with holds := k.holds.drop go.length }))

/-! ### Whole frames lost (R196, R197) -/

/-- The newest unfinished frame of context `n` is dropped. -/
def Die.dropFrame (x : Die) (n : Nat) : Die :=
  match (x.ctxOf n).frames.getLast? with
  | none => x
  | some f =>
    let y := ((x.passOn n f.num false true false).takeOut n f.num).flushHolds n
    ((y.set F.IPP_DROP_LAST n).count F.IPP_DROP_COUNT).fire 513

/-- The victim: the context of lowest priority among those with an unfinished frame, of equal ones the higher number
(R196). -/
def Die.victim (x : Die) : Option Nat :=
  ((List.range 8).filter (fun n => !(x.ctxOf n).frames.isEmpty)).foldl
    (fun b n => match b with
      | none => some n
      | some m => if x.get (F.CTX_SRC_PRIO n) ≤ x.get (F.CTX_SRC_PRIO m) then some n else some m) none

/-- The held lines of a context go into its ring; each need of a slot that none meets has one victim, at once, and with another
context's frame dropped it is a wait, RING_WAIT (R196). -/
def Die.settleLines (x : Die) (n now : Nat) : Nat → Die
  | 0 => x
  | fuel + 1 =>
    let y := x.flushLines n now ((x.ctxOf n).held.length)
    match (y.ctxOf n).held with
    | [] => y.onCtx n (fun k => { k with wants := none })
    | l :: _ =>
      let need := (((y.ctxOf n).frames.find? (fun f => f.num = l.num)).map (fun f => (l.num, f.lens.length)))
      if (y.ctxOf n).wants = need then y
      else match y.victim with
        | none => y
        | some v =>
          let z := (y.onCtx n (fun k => { k with wants := need })).dropFrame v
          if v = n then Die.settleLines z n now fuel
          else (z.fire 516).flushLines v now ((z.ctxOf v).held.length)

/-- A line of context `n` arrives at its writer: into the ring, or held while the scheduler drops a victim's frame, or
lost with the context's own frame when the line buffer fills (R196). -/
def Die.pushLine (x : Die) (n now : Nat) (l : HeldLine) : Die :=
  let y := x.onCtx n (fun k => { k with held := k.held ++ [l] })
  let y := (y.showBuffer n).settleLines n now ((y.ctxOf n).held.length + 1)
  let y :=
    if y.bufferSize n < y.bufferFill n then
      let src := y.get (F.CTX_SRC_SRC n)
      let z := if src = 0 then y else y.fire (461 + 16 * (src - 1))
      z.dropFrame n
    else y
  (y.closeFrames n now).showBuffer n

/-! ### Tokens (R212 to R214) -/

/-- CTXn_TOKEN_STAT.PENDING. -/
def Die.showTokens (x : Die) (n : Nat) : Die := x.set (F.CTX_TOKEN_PENDING n) (x.ctxOf n).tokens.length

/-- A token takes effect: its snapshot, VALUE and TOKEN_APPLIED; a change of the crop or of TNR_EN restarts the history
(R204, R212). -/
def Die.applyToken (x : Die) (n : Nat) (t : Token) : Die :=
  let y := (ctxFields n).foldl (fun y f => y.set f ((t.snap.look f.key).getD (y.get f))) x
  let marks := [F.CTX_CROP_XY_Y0 n, F.CTX_CROP_XY_X0 n, F.CTX_CROP_WH_H n, F.CTX_CROP_WH_W n, F.CTX_NR_TNR_EN n]
  let y := if marks.any (fun f => x.get f != y.get f) then y.onCtx n (fun k => { k with fresh := true }) else y
  (y.set (F.CTX_TOKEN_STAT_VALUE n) t.value).fire 515

/-- The tokens due at the frame start of frame `num`, at `now`, apply in the order posted. One posted in the PERI cycle in which
this frame start is signalled counts from this frame, so it falls due one frame later (R212). -/
def Die.dueTokens (x : Die) (n num now : Nat) : Die :=
  let later (t : Token) : Token := match t.due with
    | some k => if t.posted = now then { t with due := some (k + 1) } else t
    | none => t
  let due (t : Token) : Bool := match t.due with | some k => k ≤ num | none => !x.commitPending 0x20
  let all := (x.ctxOf n).tokens.map later
  let y := x.onCtx n (fun k => { k with tokens := all.filter (fun t => !due t) })
  ((all.filter due).foldl (fun y t => y.applyToken n t) y).showTokens n

/-- The tokens that wait are discarded (R213, R217). -/
def Die.dropTokens (x : Die) (n : Nat) : Die := (x.onCtx n (fun k => { k with tokens := [] })).showTokens n

/-- TOKEN_POST (R212, R213, R214). -/
def Die.postToken (x : Die) (n value now : Nat) : Die :=
  if 8 ≤ n then x.accErr 0x44
  else if 8 ≤ (x.ctxOf n).tokens.length then (x.accErr 0x44).fire 514
  else
    let y := x.set (F.CTX_TOKEN_VALUE n) value
    let due :=
      if x.get (F.CTX_SRC_SRC n) = 0 then
        if x.on F.IPP_CTRL_LINKSEQ && x.commitPending 0x20 then none else some (x.frameNum + 1)
      else some (x.get64 (F.CTX_FRAME_LO_NUM n) (F.CTX_FRAME_HI_NUM n) + 1 + x.get (F.CTX_SRC_DELAY n))
    let t : Token := { posted := now, due := due, value := value % 65536, snap := (ctxFields n).map (fun f => (f.key, x.written f)) }
    (y.onCtx n (fun k => { k with tokens := k.tokens ++ [t] })).showTokens n

/-- TOKEN_POST. -/
def execTokenPost (d : DieId) (n value : Nat) (s : State) : Host.Outcome State Fault Refusal :=
  onDie d s fun env x => x.postToken n value env.now

/-! ### The sizes of the outputs (R207) -/

/-- The size an output is delivered in. -/
def CtxFrame.outSize (f : CtxFrame) (n o : Nat) : Nat × Nat × Nat :=
  if o = 0 then (f.val (F.CTX_DISP_W n), f.val (F.CTX_DISP_H n), f.val (F.CTX_DISP_FMT n))
  else if o = 1 then (f.val (F.CTX_CODE_W n), f.val (F.CTX_CODE_H n), f.val (F.CTX_CODE_FMT n))
  else if f.val (F.CTX_VIS_FMT n) = 3 then (f.width, f.lines, 3)
  else (f.val (F.CTX_CROP_WH_W n), f.val (F.CTX_CROP_WH_H n), f.val (F.CTX_VIS_FMT n))

/-- The bytes of an output's line (Table 6.6). -/
def CtxFrame.lineLen (f : CtxFrame) (n o : Nat) : Nat :=
  let (w, _, fmt) := f.outSize n o
  if o = 0 then (if fmt = 0 then w else if fmt = 1 then 3 * w else 2 * w)
  else if o = 1 then (if fmt = 0 then w else 2 * w)
  else if fmt < 2 then 2 * w else w

/-- The length of an output's payload, 0 of one that is not enabled (R207). -/
def CtxFrame.payload (f : CtxFrame) (n o : Nat) : Nat :=
  let (_, h, fmt) := f.outSize n o
  if (f.outputs n).contains o then
    up64 (f.lineLen n o) * (if o = 1 then h + h / 2 else if o = 2 && fmt = 2 then 3 * h else h) else 0

end Sys2Proof.Machine
end

