-- ==== Sys2Proof/Machine/Pipeline.lean ====
section
/-!
DEFINITION. What the pipeline does to a pixel and what a finished frame delivers (06_camera_inputs_and_pipeline.md, R203
to R211, R216): the stages of Table 6.5, the output payloads of Table 6.6 and the statistics record of Table 6.7.
-/

namespace Sys2Proof.Machine

/-! ### The stages before the outputs (R203) -/

/-- The samples of a stored line. -/
def storedSamples (kind : CtxKind) (dt : Nat) (bytes : List Byte) : List Nat :=
  let rec pairs : List Byte → List Nat
    | a :: b :: r => (a.toNat + 256 * b.toNat) :: pairs r
    | _ => []
  match kind with
  | .thermal => pairs bytes
  | .raw => if dt = 0x2A then bytes.map (·.toNat) else pairs bytes
  | .yuv => bytes.map (·.toNat)
  | .user => bytes.map (·.toNat)

/-- Stage 1: a RAW sample brought to 12 bits. -/
def to12 (dt v : Nat) : Nat :=
  match rawBits dt with
  | 8 => 16 * v
  | 10 => 4 * v
  | 14 => min 4095 ((v + 2) / 4)
  | 16 => min 4095 ((v + 8) / 16)
  | _ => v

/-- Stage 2: the black level of a RAW sample. -/
def blackLevel (black v : Nat) : Nat :=
  let d := 4096 - black
  min 4095 ((2 * ((v - black) * 4096) + d) / (2 * d))

/-- Stages 1 and 2 of a sample. -/
def Die.tapZero (x : Die) (n : Nat) (f : CtxFrame) (v : Nat) : Nat :=
  match x.ctxKind n with
  | .raw => blackLevel (f.val (F.CTX_PROC_BLACK n)) (to12 (x.get (F.CTX_SRC_DT n)) v)
  | _ => v

/-- Stage 4: a sample with its history. -/
def temporal (k mot v h : Nat) : Nat :=
  if (v - h) + (h - v) < mot then ((v : Int) + asr (((h : Int) - v) * k + 128) 8).toNat else v

/-- The address of the history of line `i`. -/
def Die.histAddr (x : Die) (n samples i : Nat) : Nat := x.get (F.CTX_TNR_BASE_BASE n) * 4096 + 2 * samples * i

/-- Stage 4 of line `i` (R203, R204). -/
def Die.temporalLine (x : Die) (mem : Memory) (n : Nat) (f : CtxFrame) (i : Nat) (l : List Nat) : List Nat :=
  if !f.flag (F.CTX_NR_TNR_EN n) || f.fresh || f.final.gap || f.final.settling then l
  else
    let a := x.histAddr n l.length i
    (l.zipIdx).map (fun e => temporal (f.val (F.CTX_NR_TNR_K n)) (f.val (F.CTX_NR_TNR_MOT n)) e.1 (mem.readLE (a + 2 * e.2) 2))

/-- A sample of a picture, by row and column. -/
def sampleAt (rows : List (List Nat)) (r c : Int) : Option Nat :=
  if r < 0 || c < 0 then none else (rows[r.toNat]?).bind (fun l => l[c.toNat]?)

/-- How far apart neighbours of one colour site lie: rows, columns. -/
def Die.siteStep (x : Die) (n : Nat) (f : CtxFrame) (c : Nat) : Nat × Nat :=
  match x.ctxKind n with
  | .raw => if f.flag (F.CTX_PROC_MONO n) then (1, 1) else (2, 2)
  | .yuv => if c % 2 = 1 then (1, 2) else (1, 4)
  | _ => (1, 1)

/-- Stage 5: the mean of a sample and its eight neighbours of the same site that differ from it by no more than 16 × SNR,
rounded to nearest. -/
def spatial (rows : List (List Nat)) (thr dr dc r c v : Nat) : Nat :=
  let offs : List (Int × Int) := [(-1, -1), (-1, 0), (-1, 1), (0, -1), (0, 1), (1, -1), (1, 0), (1, 1)]
  let near := (offs.filterMap (fun o => sampleAt rows ((r : Int) + o.1 * dr) ((c : Int) + o.2 * dc))).filter
    (fun w => (v - w) + (w - v) ≤ thr)
  let l := v :: near
  (2 * l.sum + l.length) / (2 * l.length)

/-- Stage 5 of a whole frame. -/
def Die.spatialFrame (x : Die) (n : Nat) (f : CtxFrame) (rows : List (List Nat)) : List (List Nat) :=
  if !f.flag (F.CTX_NR_SNR_EN n) then rows
  else (rows.zipIdx).map (fun r => (r.1.zipIdx).map (fun e =>
    let (dr, dc) := x.siteStep n f e.2
    spatial rows (16 * f.val (F.CTX_NR_SNR n)) dr dc r.2 e.2 e.1))

/-- Stage 9: the crop of a picture with `per` samples for each pixel. -/
def CtxFrame.crop (f : CtxFrame) (n per : Nat) (rows : List (List Nat)) : List (List Nat) :=
  ((rows.drop (f.val (F.CTX_CROP_XY_Y0 n))).take (f.val (F.CTX_CROP_WH_H n))).map (fun l =>
    (l.drop (per * f.val (F.CTX_CROP_XY_X0 n))).take (per * f.val (F.CTX_CROP_WH_W n)))

/-! ### Output payloads (Table 6.6) -/

/-- A plane's lines, each filled to its stride with bytes that the spec leaves open. -/
def Die.planeBytes (x : Die) (rows : List (List Byte)) : List Byte × Die :=
  rows.foldl (fun (b : List Byte × Die) r =>
    let (pad, y) := b.2.freeBytes (up64 r.length - r.length)
    (b.1 ++ r ++ pad, y)) ([], x)

/-- A colour as R, G, B, each from 0 to some greatest value. -/
abbrev Colour := Nat × Nat × Nat

/-- A picture whose samples the spec gives no rule for, `h` lines of `w` (log entry 33). -/
def Die.openPicture (x : Die) (bits w h : Nat) : List (List Nat) × Die :=
  x.thread (fun y _ => y.thread (fun z _ => z.freeVal bits) (List.replicate w ())) (List.replicate h ())

/-! ### Tone mapping of a thermal picture (R203) -/

/-- LOW to 0 and HIGH to 255, linearly; the rounding between is open. -/
def Die.toneIndex (x : Die) (low high t : Nat) : Nat × Die :=
  if t ≤ low then (0, x) else if high ≤ t then (255, x) else x.openRound ((t - low) * 255) (high - low)

/-- The point of a histogram that `pct` per cent of it do not exceed, open within its bin; open when nothing was counted. -/
def Die.histPoint (x : Die) (base shift : Nat) (bins : List Nat) (pct : Nat) : Nat × Die :=
  match (List.range 1024).find? (fun i => pct * bins.sum ≤ 100 * (bins.take (i + 1)).sum && bins.sum != 0) with
  | some i => let (v, y) := x.freeVal shift; (base + i * 2 ^ shift + v, y)
  | none => x.freeVal 16

/-- The index of a temperature by equalisation: between the share of the histogram below its bin and the share that its bin ends
at. -/
def Die.equalIndex (x : Die) (base shift : Nat) (bins : List Nat) (t : Nat) : Nat × Die :=
  let i := min 1023 ((t - base) >>> shift)
  if bins.sum = 0 then x.freeVal 8
  else x.freeBetween ((bins.take i).sum * 255 / bins.sum) (((bins.take (i + 1)).sum * 255 + bins.sum - 1) / bins.sum)

/-- The palette indexes of a thermal picture: mode 0 with the window of the registers, modes 1 and 2 by the previous frame's
histogram, open where there is none. -/
def Die.toneRows (x : Die) (n : Nat) (f : CtxFrame) (rows : List (List Nat)) : List (List Nat) × Die :=
  let each (g : Die → Nat → Nat × Die) (y : Die) := y.thread (fun z r => z.thread g r) rows
  match f.val (F.CTX_PROC_TONE n), (x.ctxOf n).hist with
  | 0, _ => each (fun y t => y.toneIndex (f.val (F.CTX_TONE_WIN_LOW n)) (f.val (F.CTX_TONE_WIN_HIGH n)) t) x
  | 1, some (base, shift, bins) =>
    let (low, y) := x.histPoint base shift bins 1
    let (high, y) := y.histPoint base shift bins 99
    each (fun y t => y.toneIndex low high t) y
  | _, some (base, shift, bins) => each (fun y t => y.equalIndex base shift bins t) x
  | _, none => each (fun y _ => y.freeVal 8) x

/-- A palette entry. -/
def paletteColour (palette : List Nat) (i : Nat) : Colour :=
  let e := palette.getD i 0
  (bits e 16 8, bits e 8 8, bits e 0 8)

/-! ### Camera colours (R203, R205) -/

/-- The colour of a site: 0 red, 1 green, 2 blue (CTXn_PROC.BAYER). -/
def bayerSite (bayer r c : Nat) : Nat :=
  let i := 2 * (r % 2) + c % 2
  match bayer with
  | 0 => [0, 1, 1, 2].getD i 1
  | 1 => [1, 0, 2, 1].getD i 1
  | 2 => [1, 2, 0, 1].getD i 1
  | _ => [2, 1, 1, 0].getD i 1

/-- A RAW sample as a colour: a monochrome sample is all three; of a mosaic the site's own is the sample, and the spec gives no
rule for the others. -/
def Die.demosaic (x : Die) (mono : Bool) (site v : Nat) : Colour × Die :=
  if mono then ((v, v, v), x)
  else
    let (a, y) := x.freeVal 12
    let (b, y) := y.freeVal 12
    ((if site = 0 then v else a, if site = 1 then v else if site = 0 then a else b, if site = 2 then v else b), y)

/-- One row of the colour matrix on a colour, in 1/4,096 of a 10-bit output step, limited to the range (R205). The sample enters as the
integer that it is, of 12 bits or of 8, with no scaling to the 10 bits of the result: the model's choice, for the rule gives the scale
of neither (log entry 98). -/
def matrixRow (m : List Int) (k : Nat) (c : Colour) : Nat :=
  (clampI 0 (1023 * 4096)
    (m.getD (3 * k) 0 * c.1 + m.getD (3 * k + 1) 0 * c.2.1 + m.getD (3 * k + 2) 0 * c.2.2 + 4096 * m.getD (9 + k) 0)).toNat

/-- A gamma table at a matrix result, interpolated between its entries; the rounding is open (R205). -/
def Die.gammaAt (x : Die) (table : List Nat) (v : Nat) : Nat × Die :=
  let a := table.getD (v / 4096) 0 % 1024
  let b := table.getD (v / 4096 + 1) 0 % 1024
  let k := v % 4096
  if k = 0 then (a, x) else x.openRound (a * (4096 - k) + b * k) 4096

/-- Three values made from three, with open values taken in order. -/
def Die.colourOf (x : Die) (f : Die → Nat → Nat × Die) (c : Colour) : Colour × Die :=
  let (r, y) := f x c.1
  let (g, y) := f y c.2.1
  let (b, y) := f y c.2.2
  ((r, g, b), y)

/-- A camera colour of 10 bits: the matrix, and of a RAW source the gamma table. -/
def Die.cameraColour (x : Die) (n : Nat) (f : CtxFrame) (c : Colour) : Colour × Die :=
  let m := (matrixRow f.matrix 0 c, matrixRow f.matrix 1 c, matrixRow f.matrix 2 c)
  if x.ctxKind n = .raw then x.colourOf (fun y v => y.gammaAt f.gamma v) m else x.colourOf (fun y v => y.openRound v 4096) m

/-- The cropped picture of a camera in colour. -/
def Die.cameraRows (x : Die) (n : Nat) (f : CtxFrame) (spat : List (List Nat)) : List (List Colour) × Die :=
  let x0 := f.val (F.CTX_CROP_XY_X0 n)
  let y0 := f.val (F.CTX_CROP_XY_Y0 n)
  if x.ctxKind n = .raw then
    x.thread (fun y row => y.thread (fun z e =>
      let (c, z) := z.demosaic (f.flag (F.CTX_PROC_MONO n)) (bayerSite (f.val (F.CTX_PROC_BAYER n)) (y0 + row.2) (x0 + e.2)) e.1
      z.cameraColour n f c) row.1.zipIdx) (f.crop n 1 spat).zipIdx
  else
    x.thread (fun y l => y.thread (fun z p =>
      z.cameraColour n f (l.getD (2 * p + 1) 0, l.getD (4 * (p / 2)) 0, l.getD (4 * (p / 2) + 2) 0))
      ((List.range (f.val (F.CTX_CROP_WH_W n))).map (x0 + ·))) ((spat.drop y0).take (f.val (F.CTX_CROP_WH_H n)))

/-- Stages 7 to 9 of a picture: the palette indexes of a thermal one, and the cropped picture in colour. -/
structure Formed where
  idx : List (List Nat) := []
  rgb : List (List Colour) := []

/-- The palette's RGB, or the camera's colours (R203). -/
def Die.colourRows (x : Die) (n : Nat) (f : CtxFrame) (rows : List (List Nat)) : Formed × Die :=
  if x.ctxKind n = .thermal then
    let (idx, y) := x.toneRows n f (f.crop n 1 rows)
    ({ idx := idx, rgb := idx.map (fun l => l.map (paletteColour f.palette)) }, y)
  else
    let (rgb, y) := x.cameraRows n f rows
    ({ rgb := rgb }, y)

/-- The greatest component of a context's colours. -/
def Die.colourTop (x : Die) (n : Nat) : Nat := if x.ctxKind n = .thermal then 255 else 1023

/-- Stage 10: a picture as it is where its size stays; the spec gives no rule for the scaler's samples. -/
def Die.scaled (x : Die) (n : Nat) (f : CtxFrame) (w h top : Nat) (rows : List (List Colour)) : List (List Colour) × Die :=
  if w = f.val (F.CTX_CROP_WH_W n) && h = f.val (F.CTX_CROP_WH_H n) then (rows, x)
  else x.thread (fun y _ => y.thread (fun z _ => z.colourOf (fun z _ => z.freeBetween 0 top) (0, 0, 0)) (List.replicate w ()))
    (List.replicate h ())

/-! ### BT.709, limited range (R203; log entry 98) -/

/-- 10,000 times the luma of a colour. -/
def luma (c : Colour) : Nat := 2126 * c.1 + 7152 * c.2.1 + 722 * c.2.2

/-- Y of a colour with components up to `top`, in 8 bits and `2 ^ k` times finer, to the nearest. -/
def yOf (k top : Nat) (c : Colour) : Nat := (2 * 2 ^ k * (219 * luma c + 160000 * top) + 10000 * top) / (20000 * top)

/-- U (`blue`) or V of a colour, to the nearest. -/
def chromaOf (k top : Nat) (blue : Bool) (c : Colour) : Nat :=
  let den : Int := (if blue then 18556 else 15748) * top
  let num : Int := 224 * (10000 * (if blue then c.2.2 else c.1 : Int) - luma c) + 128 * den
  ((2 * 2 ^ k * num + den) / (2 * den)).toNat

/-- The chroma of a block of pixels: open between the least and the greatest of its pixels'. -/
def Die.blockChroma (x : Die) (k top : Nat) (blue : Bool) (l : List Colour) : Nat × Die :=
  let v := l.map (chromaOf k top blue)
  x.freeBetween (v.foldl min (v.headD 0)) (v.foldl max 0)

/-- A sample's bytes: one of 8 bits, or two with the value in [15:6]. -/
def sampleBytes (k v : Nat) : List Byte := if k = 0 then bytesLE 1 v else bytesLE 2 (64 * v)

/-- A line of UYVY. -/
def Die.uyvyLine (x : Die) (top : Nat) (l : List Colour) : List Byte × Die :=
  let (bs, y) := x.thread (fun y i =>
    let pair := (l.drop (2 * i)).take 2
    let (u, y) := y.blockChroma 0 top true pair
    let (v, y) := y.blockChroma 0 top false pair
    (bytesLE 1 u ++ bytesLE 1 (yOf 0 top (pair.getD 0 (0, 0, 0))) ++ bytesLE 1 v ++ bytesLE 1 (yOf 0 top (pair.getD 1 (0, 0, 0))), y))
    (List.range (l.length / 2))
  (bs.flatten, y)

/-- A line of the UV plane of 4:2:0, of two lines of the picture. -/
def Die.uvLine (x : Die) (k top : Nat) (a b : List Colour) : List Byte × Die :=
  let (bs, y) := x.thread (fun y i =>
    let block := (a.drop (2 * i)).take 2 ++ (b.drop (2 * i)).take 2
    let (u, y) := y.blockChroma k top true block
    let (v, y) := y.blockChroma k top false block
    (sampleBytes k u ++ sampleBytes k v, y)) (List.range (a.length / 2))
  (bs.flatten, y)

/-- A component of 8 bits of a colour; the rounding is open. -/
def Die.toByte (x : Die) (top v : Nat) : Nat × Die :=
  if top = 255 then (v, x) else let (w, y) := x.openRound v 4; (min 255 w, y)

/-- The display payload and its stride; Y8 of a colour picture is its luma in the limited range of UYVY (log entry 98). -/
def Die.displayOut (x : Die) (n : Nat) (f : CtxFrame) (pic : Formed) : (List Byte × Die) × Nat :=
  let (w, h, fmt) := f.outSize n 0
  let top := x.colourTop n
  let stride := up64 (f.lineLen n 0)
  if x.ctxKind n = .thermal && fmt = 0 then
    let (idx, y) := if w = f.val (F.CTX_CROP_WH_W n) && h = f.val (F.CTX_CROP_WH_H n) then (pic.idx, x) else x.openPicture 8 w h
    (y.planeBytes (idx.map (fun l => l.map (BitVec.ofNat 8))), stride)
  else
    let (rgb, y) := x.scaled n f w h top pic.rgb
    if fmt = 0 then (y.planeBytes (rgb.map (fun l => l.map (fun c => BitVec.ofNat 8 (yOf 0 top c)))), stride)
    else
      let (ls, y) := y.thread (fun y l =>
        if fmt = 1 then
          let (bs, y) := y.thread (fun y c => let (d, y) := y.colourOf (fun z v => z.toByte top v) c
                                              (bytesLE 1 d.1 ++ bytesLE 1 d.2.1 ++ bytesLE 1 d.2.2, y)) l
          (bs.flatten, y)
        else y.uyvyLine top l) rgb
      (y.planeBytes ls, stride)

/-- The coding payload: Y, then UV. -/
def Die.codingOut (x : Die) (n : Nat) (f : CtxFrame) (pic : Formed) : (List Byte × Die) × Nat :=
  let (w, h, fmt) := f.outSize n 1
  let k := if fmt = 0 then 0 else 2
  let top := x.colourTop n
  let (rgb, y) := x.scaled n f w h top pic.rgb
  let ys := rgb.map (fun l => l.flatMap (fun c => sampleBytes k (yOf k top c)))
  let (uv, y) := y.thread (fun y i => y.uvLine k top (rgb.getD (2 * i) []) (rgb.getD (2 * i + 1) [])) (List.range (h / 2))
  (y.planeBytes (ys ++ uv), up64 (f.lineLen n 1))

/-- The vision payload: the thermal temperatures or the linear raw samples of the tap, the tap's colour planes, or the bytes as
received. The tap after both noise stages shares the picture `pic` with the other outputs. -/
def Die.visionOut (x : Die) (n : Nat) (f : CtxFrame) (spat : List (List Nat)) (pic : Formed) : (List Byte × Die) × Nat :=
  let fmt := f.val (F.CTX_VIS_FMT n)
  let late := f.flag (F.CTX_PROC_VTAP n)
  let rows := if late then spat else f.tap0
  let stride := up64 (f.lineLen n 2)
  if fmt < 2 then (x.planeBytes ((f.crop n 1 rows).map (fun l => l.flatMap (fun v => bytesLE 2 v))), stride)
  else if fmt = 2 then
    let (own, y) := if late then (pic, x) else x.colourRows n f f.tap0
    let (out, y) := y.thread (fun y l => y.thread (fun y c => y.colourOf (fun z v => z.toByte (x.colourTop n) v) c) l) own.rgb
    let plane (g : Colour → Nat) := out.map (fun l => l.map (fun c => BitVec.ofNat 8 (g c)))
    (y.planeBytes (plane (·.1) ++ plane (·.2.1) ++ plane (·.2.2)), stride)
  else (x.planeBytes (f.tap0.map (fun l => l.map (BitVec.ofNat 8))), stride)

/-- A frame's output formed in its buffer. -/
def Die.fillBuf (x : Die) (n : Nat) (f : CtxFrame) (spat : List (List Nat)) (pic : Formed) (o k : Nat) : Die × OutBuf :=
  let r := if o = 0 then x.displayOut n f pic else if o = 1 then x.codingOut n f pic else x.visionOut n f spat pic
  let (w, h, fmt) := f.outSize n o
  (r.1.2, { ctx := n, out := o, k := k, num := f.num, bytes := r.1.1, width := w, height := h, stride := r.2, fmt := fmt })

/-! ### Statistics (R210, R211) -/

/-- A counted sample: its row and column in the crop and its value. -/
abbrev Counted := Nat × Nat × Nat

/-- The counted samples of the crop in raster order: real pixels, and of a thermal context those of T above 0 (R211). -/
def Die.countedPixels (x : Die) (n : Nat) (f : CtxFrame) : List Counted :=
  let y0 := f.val (F.CTX_CROP_XY_Y0 n)
  let x0 := f.val (F.CTX_CROP_XY_X0 n)
  let kind := x.ctxKind n
  let value (l : List Nat) (c : Nat) : Nat := if kind = .yuv then 16 * l.getD (2 * c + 1) 0 else l.getD c 0
  ((List.range (f.val (F.CTX_CROP_WH_H n))).flatMap (fun r =>
    match f.tap0[y0 + r]?, f.lens[y0 + r]? with
    | some l, some real =>
      ((List.range (f.val (F.CTX_CROP_WH_W n))).filter (fun c => x0 + c < real)).map (fun c => (r, c, value l (x0 + c)))
    | _, _ => [])).filter (fun e => kind != .thermal || e.2.2 != 0)

/-- The zone of a place along an axis of `size` pixels in `n` zones. -/
def zoneOf (size n i : Nat) : Nat := min (n - 1) (i / max 1 (size / n))

/-- The rounded mean of a list; 0 of none. -/
def meanRound (l : List Nat) : Nat := if l.isEmpty then 0 else (2 * l.sum + l.length) / (2 * l.length)

/-- The first sample that no other one beats. -/
def firstBest (better : Nat → Nat → Bool) : List Counted → Option Counted
  | [] => none
  | a :: r => some (r.foldl (fun b e => if better e.2.2 b.2.2 then e else b) a)

/-- A minimum or maximum as the record holds it; open when nothing is counted. -/
def Die.extreme (x : Die) : Option Counted → List Byte × Die
  | some (r, c, v) => (bytesLE 2 v ++ bytesLE 2 c ++ bytesLE 2 r, x)
  | none => x.freeBytes 6

/-- The histogram of a frame (R211). -/
def Die.histogram (x : Die) (n : Nat) (f : CtxFrame) : List Nat :=
  let base := f.val (F.STA_CFG_BASE n)
  let shift := f.val (F.STA_CFG_SHIFT n)
  let bin (v : Nat) : Nat := if x.ctxKind n = .thermal then min 1023 ((v - base) >>> shift) else v / 4
  let px := (x.countedPixels n f).map (fun e => bin e.2.2)
  (List.range 1024).map (fun b => px.count b)

/-- The statistics record of a frame (Table 6.7). -/
def Die.statRecord (x : Die) (n : Nat) (f : CtxFrame) : List Byte × Die :=
  let px := x.countedPixels n f
  let thermal := x.ctxKind n = .thermal
  let base := f.val (F.STA_CFG_BASE n)
  let shift := f.val (F.STA_CFG_SHIFT n)
  let w := f.val (F.CTX_CROP_WH_W n)
  let h := f.val (F.CTX_CROP_WH_H n)
  let (lo, y) := x.extreme (firstBest (fun a b => a < b) px)
  let (hi, y) := y.extreme (firstBest (fun a b => b < a) px)
  let hist := (x.histogram n f).flatMap (bytesLE 4)
  let zones := (List.range 12).flatMap (fun zr => (List.range 16).flatMap (fun zc =>
    bytesLE 2 (meanRound ((px.filter (fun e => zoneOf h 12 e.1 = zr && zoneOf w 16 e.2.1 = zc)).map (·.2.2)))))
  (bytesLE 2 0x5354 ++ bytesLE 1 1 ++ bytesLE 1 n ++ bytesLE 4 f.final.word ++ bytesLE 8 f.num ++ bytesLE 2 f.token ++
    bytesLE 2 f.lens.length ++ bytesLE 2 f.sensor ++ bytesLE 2 (if thermal then base else 0) ++ bytesLE 4 px.length ++
    bytesLE 1 (if thermal then shift else 2) ++ bytesLE 3 0 ++ lo ++ hi ++ bytesLE 4 0 ++
    bytesLE 8 (px.map (·.2.2)).sum ++ bytesLE 8 0 ++ hist ++ zones ++ bytesLE 64 0, y)

/-- The record of a delivered frame is written (R210): not for a pass-through context, and only while STA_CTRL.EN is 1. -/
def Die.writeRecord (x : Die) (n : Nat) (f : CtxFrame) : Die :=
  if x.ctxKind n = .user || !x.on (F.CTRL_EN 0x45) then x
  else
    let (r, y) := x.statRecord n f
    (((y.set F.STA_LAST_CTX n).set F.STA_LAST_FRAME f.num).fire 521).dmaPost { stream := 24 + n, bytes := r }

/-! ### The end of a unit -/

/-- The store keeps, of each output, the last complete buffer, those being filled, and the one the port sends. -/
def Die.pruneBufs (x : Die) (n o : Nat) : Die :=
  let last := ((x.ipp.bufs.filter (fun b => b.ctx = n && b.out = o && b.complete)).getLast?).map (·.k)
  x.onIpp (fun i => { i with bufs := i.bufs.filter (fun b =>
    b.ctx != n || b.out != o || !b.complete || some b.k = last || (o = 0 && i.portReads n b.num)) })

/-- Where a payload lies in its context's output store (R208): the outputs in order, three buffers of each, every one with room
for the output's largest configured payload, which the host alone knows (log entry 37). -/
def outPlace (o : OutBuf) : Nat :=
  3 * ((List.range o.out).map (Config.storeRoom o.ctx)).sum + o.k * Config.storeRoom o.ctx o.out

/-- A buffer's trailer is written: it is complete, and the complete one before it is free (R209, R220). -/
def Die.bufDone (x : Die) (b : OutBuf) : Die :=
  let same (c : OutBuf) : Bool := c.ctx = b.ctx && c.out = b.out && c.k = b.k && c.num = b.num
  (x.onIpp (fun i => { i with bufs := i.bufs.map (fun c => if same c then { c with complete := true } else c) })).pruneBufs b.ctx b.out

/-- Some output of a frame is formed of the picture in colour behind both noise stages. -/
def CtxFrame.usesColour (f : CtxFrame) (n : Nat) : Bool :=
  f.bufs.any (fun b => b.1 < 2) || (f.bufs.any (fun b => b.1 = 2) && f.val (F.CTX_VIS_FMT n) = 2 && f.flag (F.CTX_PROC_VTAP n))

/-- The last unit of a frame is done (R208 to R210, R224): its history and payloads are written, its record made, and the
frame waits for its numbers. -/
def Die.completeFrame (x : Die) (env : Env) (n : Nat) (f : CtxFrame) : Die :=
  let tnr := (f.tap0.zipIdx).map (fun e => x.temporalLine env.mem n f e.2 e.1)
  let y := if f.flag (F.CTX_NR_TNR_EN n) then
      (tnr.zipIdx).foldl (fun y e => y.dramWrite (y.histAddr n e.1.length e.2) (e.1.flatMap (fun v => bytesLE 2 v))) x
    else x
  let spat := y.spatialFrame n f tnr
  let (pic, y) := if f.usesColour n then y.colourRows n f spat else ({}, y)
  let (y, outs) := f.bufs.foldl (fun (a : Die × List OutBuf) b =>
    let (z, o) := a.1.fillBuf n f spat pic b.1 b.2
    (z, a.2 ++ [o])) (y, [])
  let y := y.onIpp (fun i => { i with bufs := i.bufs.filter (fun b => b.complete || b.ctx != n || b.num != f.num) ++ outs })
  let y := outs.foldl (fun y o => y.dramWrite (y.get (F.OUT_BASE_BASE n) * 4096 + outPlace o) o.bytes) y
  let y := y.writeRecord n f
  let y := y.onCtx n (fun k => { k with frames := k.frames.filter (fun g => g.num != f.num)
                                        hist := some (f.val (F.STA_CFG_BASE n), f.val (F.STA_CFG_SHIFT n), x.histogram n f) })
  let y := if outs.isEmpty then y
    else y.awaitNumbers { ctx := n, frame := f, outs := outs, grafts := x.graftsWord f.num }
  y.flushHolds n

/-- The oldest frame of a context is complete once it has ended and its last unit is done. -/
def Die.completeHead (x : Die) (env : Env) (n : Nat) : Die :=
  match (x.ctxOf n).frames with
  | [] => x
  | f :: _ =>
    let done := max 1 f.lines ≤ f.tap0.length + (if f.lines = 0 then 1 else 0)
    if f.ended && f.units.isEmpty && done then x.completeFrame env n f else x

/-- The lines of a unit at vision tap 0: from its slot, or lines of zero (R200); samples whose read was uncorrectable are
zero (R205). -/
def Die.unitRows (x : Die) (mem : Memory) (n : Nat) (f : CtxFrame) (u : RingUnit) (bad : List (Nat × Nat)) : List (List Nat) :=
  let kind := x.ctxKind n
  let dt := x.get (F.CTX_SRC_DT n)
  let size := x.lineBytes n f.width
  let zero := (storedSamples kind dt (List.replicate size 0))
  (List.range u.count).map (fun j =>
    let i := u.first + j
    let raw := match u.slot with
      | some s => if i < f.lens.length then storedSamples kind dt (mem.readBytes (x.lineAddr n f s u.first i) size) else zero
      | none => zero
    (raw.zipIdx).map (fun e => x.tapZero n f (if bad.contains (i, e.2) then 0 else e.1)))

/-- UNIT_DONE (R195, R203 to R211, R216). -/
def Die.finishUnit (x : Die) (env : Env) (n : Nat) (bad : List (Nat × Nat)) : Die :=
  let y := x.onIpp (fun i => { i with running := none, last := some n
                                      runs := (i.runs.filter (fun r => env.now < r.2.1 + 250000)) ++
                                        [(i.began, env.now, i.last != some n)] })
  let y := (y.set (F.STAT_IDLE 0x44) 1).set (F.STAT_BUSY 0x44) 0
  match (y.ctxOf n).frames with
  | [] => y
  | f :: _ =>
    match f.units with
    | [] => y
    | u :: rest =>
      let mine := bad.filter (fun b => u.first ≤ b.1 && b.1 < u.first + u.count && b.1 < f.lens.length)
      let y := mine.foldl (fun y _ => (y.count (F.ERR_CNT_UNCORR 0x44)).fire 517) y
      let rows := y.unitRows env.mem n f u mine
      let g := { f with units := rest, tap0 := f.tap0 ++ rows }
      let y := y.onCtxFrame n f.num (fun _ => g)
      let y := if u.first = 0 && f.bufs.any (fun b => b.1 = 0) then y.vtxOffer n g f.num (f.val (F.CTX_DISP_FMT n)) else y
      let y := if rest.isEmpty then y.completeHead env n else y
      let y := y.settleLines n env.now ((y.ctxOf n).held.length + 1)
      (y.closeFrames n env.now).showBuffer n

/-- UNIT_DONE. -/
def execUnitDone (d : DieId) (bad : List (Nat × Nat)) (s : State) : Host.Outcome State Fault Refusal :=
  onDie d s fun env x =>
    match x.ipp.running with
    | none => x
    | some n => x.finishUnit env n bad

/-- IPP_LOAD over the last 1 ms; the rounding of BUSY is open. -/
def Die.showLoad (x : Die) (now : Nat) : Die :=
  let from_ := now - 250000
  let all := x.ipp.runs ++ (if x.ipp.running.isSome then [(x.ipp.began, now, x.ipp.last != x.ipp.running)] else [])
  let busy := (all.map (fun r => r.2.1 - max r.1 from_)).sum
  let (b, y) := x.openRound (min busy 250000 * 1023) 250000
  (y.set F.IPP_LOAD_BUSY b).set F.IPP_LOAD_SWITCHES (min 65535 (all.filter (fun r => r.2.2 && from_ ≤ r.1)).length)

end Sys2Proof.Machine
end

