-- ==== Sys2Proof/Machine/Streams.lean ====
section
/-!
DEFINITION. The streams through the pipeline (06_camera_inputs_and_pipeline.md, R190, R191, R194, R198, R199, R206, R209): a
frame's start and end, the thermal stream, and the start of a unit.
-/

namespace Sys2Proof.Machine

/-! ### Frame starts and ends -/

/-- The table area (R205). -/
def Die.tableBase (x : Die) : Nat := x.get F.IPP_TBL_BASE_BASE * 4096

/-- The palette that a thermal context's frame start reads (R205). -/
def Die.palette (x : Die) (mem : Memory) (n : Nat) : List Nat :=
  if x.ctxKind n = .thermal then
    (List.range 256).map (fun i => mem.readLE (x.tableBase + 0x400 * x.get (F.CTX_PROC_PAL n) + 4 * i) 4)
  else []

/-- The gamma table that a RAW context's frame start reads (R205). -/
def Die.gammaTable (x : Die) (mem : Memory) (n : Nat) : List Nat :=
  if x.ctxKind n = .raw then
    (List.range 1024).map (fun i => mem.readLE (x.tableBase + 0x2000 + 0x800 * x.get (F.CTX_PROC_GAMMA n) + 2 * i) 2)
  else []

/-- The colour matrix and offsets that a camera context's frame start reads (R205). -/
def Die.colourMatrix (x : Die) (mem : Memory) (n : Nat) : List Int :=
  if x.ctxKind n = .raw || x.ctxKind n = .yuv then
    (List.range 12).map (fun i => toSigned 16 (mem.readLE (x.tableBase + 0x6000 + 0x40 * x.get (F.CTX_PROC_COLSET n) + 2 * i) 2))
  else []

/-- A frame start of context `n`'s source (R190, R198, R204, R212): the context is enabled or disabled at it, its number
advances, due tokens apply and a frame begins. A frame that is not `taken`, because a reset of the port waits, is lost, and so
is a camera's frame that starts in the cycle in which the enabling is written (R198; log entry 98). -/
def Die.ctxStart (x : Die) (env : Env) (n num sensor lines width : Nat) (settling taken : Bool) (throttle : Nat) : Die :=
  let k := x.ctxOf n
  if !x.on (F.CTX_SRC_EN n) then
    if k.active then (x.dropTokens n).onCtx n (fun k => { k with active := false, rx := false, discarding := false }) else x
  else if !k.active && k.askedAt = some env.now && x.get (F.CTX_SRC_SRC n) != 0 then
    (x.passOn n num true false false).set64 (F.CTX_FRAME_LO_NUM n) (F.CTX_FRAME_HI_NUM n) num
  else
    let y := if k.active then x else x.onCtx n (fun k => { k with active := true, fresh := true })
    let y := (y.set64 (F.CTX_FRAME_LO_NUM n) (F.CTX_FRAME_HI_NUM n) num).dueTokens n num env.now
    let k := y.ctxOf n
    let f : CtxFrame :=
      { num := num, sensor := sensor, start := y.timeNs env.now
        flags := { gap := k.gap, drop := k.drop, settling := k.settle || settling }
        owes := k.settle
        token := y.get (F.CTX_TOKEN_STAT_VALUE n), settings := (ctxFields n).map (fun f => (f.key, y.get f))
        palette := y.palette env.mem n, gamma := y.gammaTable env.mem n, matrix := y.colourMatrix env.mem n
        lines := lines, width := width, fresh := k.fresh, throttle := throttle }
    if taken then
      y.onCtx n (fun k => { k with frames := k.frames ++ [f], rx := true, discarding := false, gap := false, drop := false
                                   settle := false, fresh := false })
    else y.passOn n num true false false

/-- The end of the frame that context `n` receives (R193, R199, R200): a camera frame with too few lines carries SHORT;
its embedded data goes to the context's stream; one whose last unit is done already is complete. -/
def Die.ctxEnd (x : Die) (env : Env) (n : Nat) : Die :=
  let k := x.ctxOf n
  if !k.rx then x
  else if k.discarding then x.onCtx n (fun k => { k with rx := false, discarding := false })
  else
    match k.frames.getLast? with
    | none => x.onCtx n (fun k => { k with rx := false })
    | some f =>
      let src := x.get (F.CTX_SRC_SRC n)
      let short := src != 0 && f.got < f.lines
      let y := x.onCtxFrame n f.num (fun f => { f with ended := true, flags := { f.flags with short := short } })
      let y := y.onCtx n (fun k => { k with rx := false })
      let y := if short then y.fire (458 + 16 * (src - 1)) else y
      let y := (y.closeFrames n env.now).completeHead env n
      if f.emb.isEmpty then y else y.dmaPost { stream := 32 + n, bytes := f.emb }

/-! ### The thermal stream (R191, R206) -/

/-- What a FRAME_START does to the thermal context. -/
def Die.ippFrameStart (x : Die) (env : Env) : Die :=
  x.streamCtxs.foldl
    (fun y n => y.ctxStart env n y.frame.num 0 (y.get F.SEQ_WIN_ROWS_M1 + 1) y.columns y.frame.flags.settling true
      (y.get F.THM_LEVEL_LEVEL)) x

/-- A limited-mode frame that has ended goes straight to its stream (R324): FMT 3, two bytes for each pixel. -/
def Die.limitedDone (x : Die) (n : Nat) (f : CtxFrame) : Die :=
  let w := 2 * f.width
  let (bytes, y) := f.tap0.foldl (fun (b : List Byte × Die) row =>
    let (pad, y) := b.2.freeBytes (up64 w - w)
    (b.1 ++ row.flatMap (fun t => bytesLE 2 t) ++ pad, y)) ([], x)
  let o : OutBuf := { ctx := n, out := 2, k := 0, num := f.num, bytes := bytes, width := w, height := f.lines
                      stride := up64 w, fmt := 3, complete := true }
  let y := y.onCtx n (fun k => { k with frames := k.frames.filter (fun g => g.num != f.num), rx := false })
  y.awaitNumbers { ctx := n, frame := f, outs := [o], grafts := x.graftsWord f.num }

/-- The thermal frame `num` has had its FRAME_END and all its rows have left the fill stage. -/
def Die.thermalEnd (x : Die) (env : Env) (num : Nat) : Die :=
  x.thermalCtxs.foldl (fun x n =>
    match (x.ctxOf n).frames.find? (fun f => f.num = num) with
    | none => x
    | some f =>
      let y := x.onCtxFrame n num (fun f => { f with therm := x.frame? num })
      if x.boot.limited then y.limitedDone n { f with therm := x.frame? num } else y.ctxEnd env n) x

/-- A released row enters the thermal context's ring (R191); rows of a HOLD frame are not written to it (R206). -/
def Die.thermalRow (x : Die) (env : Env) (r : SieveRow) : Die :=
  let hold := match x.frame? r.frame with | some f => f.flags.hold | none => true
  let y := x.thermalCtxs.foldl (fun x n =>
    match (x.ctxOf n).frames.find? (fun f => f.num = r.frame) with
    | none => x
    | some f =>
      if x.boot.limited then
        x.onCtxFrame n r.frame (fun f => { f with tap0 := f.tap0 ++ [r.pix.map (·.t)], got := f.got + 1 })
      else if hold || (x.ctxOf n).discarding || f.lines ≤ f.got then x
      else
        let y := x.onCtxFrame n r.frame (fun f => { f with got := f.got + 1 })
        y.pushLine n env.now { num := r.frame, bytes := r.pix.flatMap (fun p => bytesLE 2 p.t), real := r.pix.length }) x
  if y.lastOfFrame r then
    let z := y.thermalEnd env r.frame
    z.thermalCtxs.foldl (fun z n => z.flushHolds n) z
  else y

/-- What a FRAME_END does to the thermal context: a HOLD frame repeats the last open frame's buffers under its own
header (R206); any other ends once its rows have all been released. -/
def Die.ippFrameEnd (x : Die) (env : Env) : Die :=
  let num := x.frame.num
  if x.frame.flags.hold && !x.boot.limited then
    x.thermalCtxs.foldl (fun x n =>
      match (x.ctxOf n).frames.find? (fun f => f.num = num) with
      | none => x
      | some f =>
        let y := (x.removeFrame n num).onCtx n (fun c => { c with rx := false, discarding := false
                                                                  holds := c.holds ++ [f] })
        y.flushHolds n) x
  else if !x.rowsToCome num && !x.sieve.held.any (fun h => h.frame = num) then x.thermalEnd env num else x

/-- FILL_ROW_RELEASE (R125 to R128, R191): the oldest row of the fill stage is filled and released. -/
def execFillRowRelease (d : DieId) (f : FillFaults) (s : State) : Host.Outcome State Fault Refusal :=
  onDie d s fun env x =>
    match x.releaseRow f with
    | some (y, r) => y.thermalRow env r
    | none => x

/-! ### Units (R194, R195, R209) -/

/-- A buffer of an output that may not be written: being filled, the last complete one, waiting for its number, read by
a stream or by the transmit port (R209). -/
def Die.bufBusy (x : Die) (n o k : Nat) : Bool :=
  x.ipp.bufs.any (fun b => b.ctx = n && b.out = o && b.k = k) ||
    x.ipp.done.any (fun e => e.outs.any (fun b => b.ctx = n && b.out = o && b.k = k)) ||
    x.dma.items.any (fun i => i.buf = some (n, o, k))

/-- A free buffer of an output. -/
def Die.freeBuf (x : Die) (n o : Nat) : Option Nat := [0, 1, 2].find? (fun k => !x.bufBusy n o k)

/-- The outputs of a frame that need a buffer: none while the OUT is off. -/
def Die.bufNeeds (x : Die) (n : Nat) (f : CtxFrame) : List Nat :=
  if x.on (F.CTRL_EN 0x46) then (f.outputs n).filter (fun o => !f.bufs.any (fun b => b.1 = o)) else []

/-- The oldest ready unit of a context, with its frame: not of a frame that carries HOLD. -/
def Die.readyUnit (x : Die) (n : Nat) : Option (CtxFrame × RingUnit) :=
  match (x.ctxOf n).frames with
  | [] => none
  | f :: _ =>
    let hold := x.get (F.CTX_SRC_SRC n) = 0 && (match x.frame? f.num with | some r => r.flags.hold | none => false)
    if hold then none
    else match f.units with
      | [] => none
      | u :: _ => if u.ready.isSome then some (f, u) else none

/-- A context's unit could start but for its output store. -/
def Die.starved (x : Die) (n : Nat) : Bool :=
  match x.readyUnit n with
  | none => false
  | some (f, _) => (x.bufNeeds n f).any (fun o => (x.freeBuf n o).isNone)

/-- Contexts whose first unit waits for a buffer raise BUF_WAIT, once for each frame (R209). -/
def Die.noteWaits (x : Die) : Die :=
  (List.range 8).foldl (fun x n =>
    match x.readyUnit n with
    | none => x
    | some (f, _) =>
      if x.starved n && !f.waited then (x.onCtxFrame n f.num (fun f => { f with waited := true })).fire 531 else x) x

/-- The context whose ready unit starts: highest PRIO, then ready first, then lower number (R194). -/
def Die.nextUnit (x : Die) : Option Nat :=
  let key (n : Nat) : Nat × Nat := (x.get (F.CTX_SRC_PRIO n), match x.readyUnit n with | some (_, u) => u.ready.getD 0 | none => 0)
  ((List.range 8).filter (fun n => (x.readyUnit n).isSome && !x.starved n)).foldl
    (fun b n => match b with
      | none => some n
      | some m =>
        let (p, t) := key n
        let (q, u) := key m
        if q < p || (p = q && t < u) then some n else some m) none

/-- The frame takes a buffer for each of its outputs. -/
def Die.takeBufs (x : Die) (n : Nat) (f : CtxFrame) : Die :=
  (x.bufNeeds n f).foldl (fun x o =>
    match x.freeBuf n o with
    | none => x
    | some k => (x.onCtxFrame n f.num (fun f => { f with bufs := f.bufs ++ [(o, k)] })).onIpp
        (fun i => { i with bufs := i.bufs ++ [{ ctx := n, out := o, k := k, num := f.num }] })) x

/-- The pipeline takes up new units: enabled, and no block reset of it under way (R36). -/
def Die.ippAccepts (x : Die) : Bool :=
  x.on F.IPP_CTRL_EN && !x.boot.limited && [0x44, 0x45, 0x46].all (fun p => !x.on (F.BRST_ACTIVE p))

/-- UNIT_START (R194, R209). -/
def execUnitStart (d : DieId) (s : State) : Host.Outcome State Fault Refusal :=
  onDie d s fun env x =>
    if x.ipp.running.isSome || !x.ippAccepts then x
    else
      let y := x.noteWaits
      match y.nextUnit with
      | none => y
      | some n =>
        match y.readyUnit n with
        | none => y
        | some (f, _) =>
          (((y.takeBufs n f).onIpp (fun i => { i with running := some n, began := env.now })).set (F.STAT_IDLE 0x44) 0).set
            (F.STAT_BUSY 0x44) 1

end Sys2Proof.Machine
end

