-- ==== Sys2Proof/Machine/Evd.lean ====
section
/-!
DEFINITION. Evidence (07_evidence_frames.md, R220 to R238): numbers, headers and tags, sessions, epochs and records, the
close, the log, and the crypto block.
-/

namespace Sys2Proof.Machine

/-- The session runs without keys (R233). -/
def Die.noKey (x : Die) : Bool := x.on F.EVD_START_NOKEY

/-! ### The evidence log (R237, Table 7.9) -/

/-- The bytes of a log entry. -/
def logEntry (ty session time a b : Nat) (hash : List Byte) : List Byte :=
  bytesLE 1 ty ++ bytesLE 3 0 ++ bytesLE 4 session ++ bytesLE 8 time ++ bytesLE 6 a ++ bytesLE 2 0 ++ bytesLE 8 b ++
    padTo 32 hash

/-- Entries on their way to the log. -/
def Nvs.logQueued (s : Nvs) : Nat :=
  (s.pending.filter (fun r => match r.what with | .page n _ _ => 576 ≤ n && n < 704 | _ => false)).length

/-- The die's traffic reaches the partner: over the Pair Link, which the lead die runs, and from the other die over the link
between the dies (R376, R382). -/
def Die.reachesPartner (x : Die) (env : Env) : Bool :=
  (x.pairDie env.peer).pairUp && (x.leads || x.on F.D2D_STAT_UP)

/-- A redundant pair with the mirror on sends an entry or a record to the partner; MIRROR_FAIL where it cannot be sent, or
where the partner, whose ring this package does not see, refuses it (R237, R382; log entry 99). -/
def Die.mirror (x : Die) (env : Env) (bytes : List Byte) : Die :=
  if (x.pairRole != 1 && x.pairRole != 2) || !x.on F.EVD_CTRL_MIRROR then x
  else if x.reachesPartner env then
    let (refused, y) := (x.send (.pairMirror bytes)).freeBit
    if refused then y.fire 554 else y
  else x.fire 554

/-- An entry requested of the Seed Tray, and mirrored. -/
def Die.logRequest (x : Die) (env : Env) (bytes : List Byte) (tag : NvsTag := .none) : Die :=
  (x.nvsRequest 2 (.page (576 + (x.nvs.logNext + x.nvs.logQueued) % 128) 0 bytes) tag).mirror env bytes

/-- An entry of the log: the EP writes it, once it runs (R237, Table 1.7). -/
def Die.logWrite (x : Die) (env : Env) (bytes : List Byte) : Die :=
  if x.jobRuns 3 then x.logRequest env bytes else x.onEvd (fun e => { e with logWaits := e.logWaits ++ [bytes] })

/-- The log's entries, oldest first. -/
def Nvs.logEntries (s : Nvs) : List (List Byte) :=
  (List.range s.logUsed).map (fun i => s.logical (576 + (s.logNext + 128 - s.logUsed + i) % 128))

/-- A little-endian field of an entry or a record. -/
def fieldOf (l : List Byte) (off n : Nat) : Nat := ofBytesLE ((l.drop off).take n)

/-- The newest CLOSE entry. -/
def Nvs.lastClose (s : Nvs) : Option (List Byte) := (s.logEntries.filter (fun e => fieldOf e 0 1 = 2)).getLast?

/-- The FINAL slot that the newest CLOSE entry does not name (R234). -/
def Nvs.otherSlot (s : Nvs) : Nat := match s.lastClose with | some e => 1 - min 1 (fieldOf e 24 1) | none => 0

/-- What a FINAL slot holds. -/
def Nvs.finalAt (s : Nvs) (slot : Nat) : List Byte :=
  let b := s.logicals (704 + 24 * slot) 22
  b.take (min 1408 (256 + 48 * fieldOf b 0x12 1))

/-- A record is a FINAL. -/
def isFinal (r : List Byte) : Bool := fieldOf r 0 4 = 0x4C414553 && fieldOf r 5 1 = 2

/-! ### Records (R231) -/

/-- The DIE byte (Table 7.1). -/
def dieByte (env : Env) : Nat := (if env.die = .b then 1 else 0) + (if env.dual then 2 else 0)

/-- The device's serial number. -/
def Die.serial (x : Die) : Nat := x.get64 F.SYS_SERIAL_LO_SERIAL F.SYS_SERIAL_HI_SERIAL

/-- A stream entry (Table 7.6). -/
def StreamPos.entry (p : StreamPos) : List Byte :=
  bytesLE 1 p.stream ++ bytesLE 1 0 ++ bytesLE 6 p.esn ++ bytesLE 8 p.num ++ padTo 32 p.tag

/-- A record without its signature. -/
def Die.recordBody (x : Die) (env : Env) (r : SealReq) : List Byte :=
  bytesLE 4 0x4C414553 ++ bytesLE 1 1 ++ bytesLE 1 r.type ++ bytesLE 2 (256 + 48 * r.entries.length) ++ bytesLE 8 x.serial ++
    bytesLE 1 (dieByte env) ++ bytesLE 1 (x.get F.TRL_ADDR_ADDR) ++ bytesLE 1 r.entries.length ++ bytesLE 1 r.info ++
    bytesLE 4 r.session ++ bytesLE 4 r.epoch ++ bytesLE 4 0 ++ bytesLE 8 r.time ++ bytesLE 6 r.next ++ bytesLE 2 0 ++
    bytesLE 6 r.limit ++ bytesLE 10 0 ++ padTo 32 r.key ++ padTo 32 r.commit ++ padTo 32 r.keyPrev ++ padTo 32 x.evd.prevRec ++
    r.entries.flatMap StreamPos.entry

/-- A random number of 256 bits from the generator: open. -/
def Die.random (x : Die) : Nat × Die :=
  let (b, y) := x.freeBytes 32
  (ofBytesLE b, y)

/-- The EP signs a record and writes it to the seal ring (R230, R231): the die and the record. -/
def Die.issue (x : Die) (env : Env) (r : SealReq) : Die × List Byte :=
  let body := x.recordBody env r
  let (k, y) := x.random
  let rec_ := body ++ ecdsaSign (privateKey env.die) (1 + k % (p256N - 1)) body
  let (t, y) := y.freeVal 16
  let y := (y.count F.CRY_SIGN_COUNT).set F.CRY_SIGN_TIME (t % 451)
  let slot := y.evd.slot
  let y := if y.boot.limited then y else y.dramWrite (y.get F.EVD_SEAL_BASE_BASE * 4096 + 2048 * slot) rec_
  let y := ((y.set F.EVD_SEAL_IDX_EPOCH r.epoch).set F.EVD_SEAL_IDX_TYPE r.type).set F.EVD_SEAL_IDX_SLOT slot
  let y := y.onEvd (fun e => { e with slot := (slot + 1) % 16, prevRec := sha256 rec_ })
  (((y.dmaPost { stream := 40, bytes := rec_ }).mirror env rec_).fire 545, rec_)

/-! ### Epochs (R229, R230) -/

/-- EVD_EPOCH.WAITING and SEAL_WAIT. -/
def Die.showQueueEvd (x : Die) : Die :=
  let w := !x.evd.queue.isEmpty
  let y := x.setB F.EVD_EPOCH_WAITING w
  if w then y else y.cond 552 false

/-- A cut: the epoch closes, its record awaits signature, and the next epoch opens with a new key behind it. -/
def Die.cut (x : Die) (env : Env) (ask : Bool) : Die :=
  let e := x.evd
  let n := x.get F.EVD_EPOCH_EPOCH
  let (key, y) := x.freeBytes 32
  let r : SealReq :=
    { type := 1, info := 0, session := e.session, epoch := n, time := x.timeNs env.now, next := x.esn
      limit := x.esnLimit, key := e.key, commit := sha256 e.nextKey, keyPrev := [], entries := e.streams, ask := ask }
  ((y.set F.EVD_EPOCH_EPOCH (n + 1)).onEvd (fun e =>
    { e with queue := e.queue ++ [r], unsealed := e.key, key := e.nextKey, nextKey := key, count := 0, cutAt := env.now
             sealAsk := false })).showQueueEvd

/-- A cut may be made: none while a record awaits signature, and none without keys (R230, R233). -/
def Die.mayCut (x : Die) : Bool := x.tagging && !x.noKey && x.evd.queue.isEmpty

/-- The cut after 64 frames (R230). -/
def Die.cutFull (x : Die) (env : Env) : Die := if x.mayCut && 64 ≤ x.evd.count then x.cut env false else x

/-- EPOCH_CUT (R230): 64 frames in the epoch, or 1 s since the previous cut and at least one frame; none while a record
awaits signature, and none without keys. -/
def execEpochCut (d : DieId) (s : State) : Host.Outcome State Fault Refusal :=
  onDie d s fun env x =>
    let due := 64 ≤ x.evd.count || (1 ≤ x.evd.count && x.evd.cutAt + 250000000 ≤ env.now)
    if x.mayCut && due then x.cut env false else x

/-! ### Numbers, headers and tags (R221 to R226) -/

/-- The header of a Wenah frame (Table 7.1). -/
def Die.header256 (x : Die) (env : Env) (e : DoneFrame) (b : OutBuf) (prevEsn missing : Nat) (gap : Bool) : List Byte :=
  let f := e.frame
  let t := f.therm
  let g := { f.final with gap := f.final.gap || gap, limited := x.boot.limited || f.final.limited }
  let lines := if g.short then f.lens.length else if g.long then f.got else f.lines
  let ofT (h : ThermFrame → Nat) : Nat := match t with | some r => h r | none => 0
  let key := bytesLE 1 4 ++ ((List.range 8).flatMap (fun i => bytesBE 4 (x.get (F.CRY_PUBX_WORD i)))) ++
    ((List.range 8).flatMap (fun i => bytesBE 4 (x.get (F.CRY_PUBY_WORD i))))
  let hash := match t with | some r => padTo 32 (r.calHash.flatMap (bytesBE 4)) | none => List.replicate 32 0
  bytesLE 4 0x48414E57 ++ bytesLE 1 1 ++ bytesLE 1 b.out ++ bytesLE 1 e.ctx ++ bytesLE 1 (dieByte env) ++ bytesLE 8 x.serial ++
    bytesLE 8 f.num ++ bytesLE 6 x.esn ++ bytesLE 1 (x.get F.TRL_ADDR_ADDR) ++ bytesLE 1 f.throttle ++ bytesLE 4 g.word ++
    bytesLE 4 (if x.noKey then 0xFFFFFFFF else x.get F.EVD_EPOCH_EPOCH) ++ bytesLE 8 f.start ++ bytesLE 8 (x.timeNs env.now) ++
    bytesLE 4 x.evd.session ++ bytesLE 2 f.token ++ bytesLE 2 f.sensor ++ bytesLE 6 prevEsn ++ bytesLE 2 lines ++
    bytesLE 4 b.bytes.length ++ bytesLE 2 b.width ++ bytesLE 2 b.height ++ bytesLE 2 b.stride ++ bytesLE 1 b.fmt ++
    bytesLE 1 (match t with | some r => r.gain | none => 0xFF) ++ bytesLE 2 f.bad ++ bytesLE 2 0 ++
    bytesLE 4 (match t with | some r => r.calId | none => x.get F.CAL_SET_ID_ID) ++
    bytesLE 4 (match t with | some r => r.calGen | none => x.get F.CAL_SET_GEN_GEN) ++ hash ++ bytesLE 4 e.grafts ++
    bytesLE 4 Config.firmware ++ bytesLE 8 Config.firmwareId ++
    bytesLE 4 (match t with | some r => ofSigned 32 r.fpa | none => 0) ++ bytesLE 4 (min missing 0xFFFFFFFF) ++
    bytesLE 2 (ofT (fun r => min 65535 r.filled)) ++ bytesLE 2 (ofT (fun r => min 65535 r.unfilled)) ++
    bytesLE 2 (ofT (fun r => min 65535 r.arith)) ++ bytesLE 2 (ofT (fun r => min 65535 r.twin)) ++
    bytesLE 6 x.evd.first ++ bytesLE 1 (x.get F.EVD_START_KIND) ++ bytesLE 1 (if x.clock.aligned then 1 else 0) ++ bytesLE 8 0 ++
    sha256 key ++ bytesLE 48 0

/-- The last number that a stream used up, plus one, and whether the stream has a frame in the session: of a context's frame that is
complete and waits in front of frame `num`, or of the stream's last tagged one. -/
def Die.streamLast (x : Die) (ctx out num : Nat) : Option Nat × Bool :=
  let ahead := (x.ipp.done.filter (fun e => e.ctx = ctx && e.frame.num < num && e.outs.any (fun b => b.out = out))).getLast?
  let st := 3 * ctx + out
  match ahead with
  | some e => (some (e.frame.num + 1), true)
  | none => (x.evd.lastNum.look st, x.evd.streams.any (fun p => p.stream = st))

/-- MISSING, and the GAP that it means (Tables 7.1, 7.4): frame numbers used up between the stream's previous frame and frame
`num`; a stream's first frame in an unclean session carries GAP. -/
def Die.missing (x : Die) (ctx out num : Nat) : Nat × Bool :=
  let (last, some_) := x.streamLast ctx out num
  let missing := match last with | some l => num - l | none => 0
  let kind := x.get F.EVD_START_KIND
  (missing, if some_ || kind = 2 then decide (missing ≠ 0) else decide (kind = 1))

/-- The port has been offered the frame whose header this is: its first 64 bytes are what the port sends (R215). -/
def Die.noteHead (x : Die) (ctx num out : Nat) (head : List Byte) : Die :=
  x.onIpp (fun i => { i with vtxNext := i.vtxNext.map (fun v =>
    if out = 0 && v.ctx = ctx && v.num = num then { v with head := some (head.take 64) } else v) })

/-- One output of a complete frame receives its ESN and tag and is handed to its stream (R223, R224). -/
def Die.tagOne (x : Die) (env : Env) (e : DoneFrame) (b : OutBuf) : Die :=
  let st := 3 * e.ctx + b.out
  let prev := x.evd.streams.find? (fun p => p.stream = st)
  let (missing, gap) := x.missing e.ctx b.out e.frame.num
  let head := x.header256 env e b (match prev with | some p => p.esn | none => 0) missing gap
  let hash := sha256 b.bytes
  let key := if x.noKey then List.replicate 32 0 else x.evd.key
  let tag := hmacSha256 key (head ++ hash ++ (match prev with | some p => p.tag | none => x.evd.openHash))
  let pos : StreamPos := { stream := st, esn := x.esn, num := e.frame.num, tag := tag }
  let low := x.evd.streams.filter (fun p => p.stream < st)
  let high := x.evd.streams.filter (fun p => st < p.stream)
  let y := x.onEvd (fun v => { v with streams := low ++ [pos] ++ high, lastNum := v.lastNum.put st (e.frame.num + 1)
                                      count := v.count + 1 })
  let y := (y.set64 F.EVD_ESN_LO_ESN F.EVD_ESN_HI_ESN (x.esn + 1)).noteHead e.ctx e.frame.num b.out head
  y.dmaPost { stream := st, bytes := head ++ b.bytes ++ hash ++ tag, buf := some (b.ctx, b.out, b.k) }

/-- R225: when the next ESN reaches L − 2,048 the EP, while it runs, asks for a new limit. -/
def Die.reserve (x : Die) : Die :=
  if x.jobRuns 3 && x.tagging && x.evd.reserving.isNone && x.esnLimit ≤ x.esn + 2048 then
    (x.nvsRequest 1 (.tally 0 (x.esn + 4096))).onEvd (fun e => { e with reserving := some (x.esn + 4096) })
  else x

/-- The outputs of the oldest complete frame receive their numbers while numbers are reserved. -/
def Die.tagOuts (x : Die) (env : Env) (e : DoneFrame) : List OutBuf → Die
  | [] => (x.onIpp (fun i => { i with done := i.done.drop 1 })).fire 529
  | b :: r =>
    if x.esnLimit ≤ x.esn then x.onIpp (fun i => { i with done := { e with outs := b :: r } :: i.done.drop 1 })
    else Die.tagOuts ((((x.tagOne env e b).bufDone b).cutFull env).reserve) env e r

/-- STARVE, event 548: the next ESN equals L; the frames that wait are counted, and the log notes the start (R226, R237). -/
def Die.showStarve (x : Die) (env : Env) : Die :=
  let y := (x.cond 548 x.noNumber).countWaiting
  if x.noNumber && !x.evRaw.getLsbD 548 then
    y.logWrite env (logEntry 4 x.evd.session (x.timeNs env.now) x.esnLimit 0 [])
  else y

/-- ESN_ASSIGN (R224 to R226): the oldest complete frame; one that came after the request of a block reset waits for it (R36). -/
def Die.assign (x : Die) (env : Env) : Die :=
  if !x.tagging then x
  else match x.ipp.done with
    | [] => x.reserve
    | e :: _ => if e.late && !x.takes 0x50 then x.reserve else (x.reserve.tagOuts env e e.outs).showStarve env

/-- ESN_ASSIGN. -/
def execEsnAssign (d : DieId) (s : State) : Host.Outcome State Fault Refusal := onDie d s fun env x => x.assign env

/-! ### The close (R234, R235, Table 7.7) -/

/-- Every complete frame is tagged, as far as numbers are reserved. -/
def Die.assignAll (x : Die) (env : Env) : Nat → Die
  | 0 => x
  | n + 1 => if x.ipp.done.isEmpty then x else Die.assignAll (x.assign env) env n

/-- The record that ends the session or its part: FINAL (2) or RECOVER (3), with an epoch whose seal was never issued
folded in (R228, R234). -/
def Die.endRecord (x : Die) (env : Env) (ty : Nat) : SealReq :=
  let e := x.evd
  { type := ty, info := if e.unsealed.isEmpty then 0 else 1, session := e.session, epoch := x.get F.EVD_EPOCH_EPOCH
    time := x.timeNs env.now, next := x.esn, limit := x.esnLimit, key := e.key, commit := []
    keyPrev := e.unsealed, entries := e.streams, ask := false }

/-- The CLOSE entry is requested, last of all (R234). -/
def Die.closeEntry (x : Die) (env : Env) (hash : List Byte) : Die :=
  x.logWrite env (logEntry 2 x.evd.session (x.timeNs env.now) x.esn x.nvs.otherSlot hash)

/-- A request that stops unwritten: the firmware's parameter sets, calibration records, recovery image and zeroed areas, one that a
mailbox command waits for, and the host's. -/
def NvsReq.ofSave (r : NvsReq) : Bool :=
  (3 ≤ r.prio && (match r.tag with | .mbx _ _ _ => true | .host => true | _ => false)) ||
    (4 ≤ r.prio && (match r.what with | .page n _ _ => (64 ≤ n && n < 576) || (816 ≤ n && n < 1920) | _ => false))

/-- The Seed Tray stops for the firmware and the host: the writes that have not started end unwritten, and the commands and the
operation that asked for them complete with HALTED (R342, Table 12.6). -/
def Die.haltSaves (x : Die) : Die :=
  let lost := x.nvs.queue.filter NvsReq.ofSave
  let y := x.onNvs (fun s => { s with queue := s.queue.filter (fun r => !r.ofSave) })
  let y := lost.foldl (fun y r => match r.tag with
    | .mbx n _ _ => y.mbxResult n 7 0
    | .host => y.opDone 3
    | _ => y) y
  let y := if x.cal.recordMbx then y.mbxResult 1 7 0 else y
  { y with cal := { y.cal with record := none, recordMbx := false } }

/-- A close begins: frames complete now are tagged, the final cut is made, and the other writers of the Seed Tray stop
(Table 7.7); EVD_CLOSE.DONE says nothing of it yet. -/
def Die.beginClose (x : Die) (env : Env) (ask ringOnly : Bool) : Die :=
  if !x.tagging then x
  else
    let y := x.haltSaves.assignAll env (x.ipp.done.length + 1)
    let r := y.endRecord env 2
    let y := y.onEvd (fun e => { e with closing := some env.now, closeAsk := ask, ringOnly := ringOnly, finalSigned := y.noKey
                                        queue := if y.noKey then [] else [r], sealAsk := false })
    let y := ((y.cond 548 false).set F.EVD_CLOSE_DONE 0).showQueueEvd
    if y.noKey && !ringOnly then y.closeEntry env [] else y

/-- PFAIL_ASSERT (R234, R342): PFAIL_N is low: a shutter event in progress is abandoned (R167), only EP writes start, and
the close begins on each die; in Hold there is no close (R328). -/
def Die.pfailLow (x : Die) (env : Env) : Die :=
  if x.evd.pfail then x
  else if x.boot.power = 2 then ((x.onEvd (fun e => { e with pfail := true })).set F.NVS_STATE_EP_ONLY 1).haltSaves
  else
    let y := ((x.haltSaves.onEvd (fun e => { e with pfail := true })).set F.NVS_STATE_EP_ONLY 1).fire 549
    let z := (y.calAbandon 5 env.now).beginClose env false false
    if y.evd.closing.isNone then z.onEvd (fun e => { e with pfClose := e.closing.isSome }) else z

/-- PFAIL_ASSERT. -/
def execPfailAssert (s : State) : Host.Outcome State Fault Refusal := onPackageAlways s fun env x => 
    if x.inReset then (x.onEvd (fun e => { e with pfail := true })).set F.NVS_STATE_EP_ONLY 1 else x.pfailLow env

/-- A write of the close is still to come. -/
def Die.closeWrites (x : Die) : Bool :=
  let mine (r : NvsReq) : Bool := match r.what with | .page n _ _ => 576 ≤ n && n < 752 | _ => false
  !x.evd.logWaits.isEmpty || x.nvs.queue.any mine || (match x.nvs.doing with | some r => mine r | none => false)

/-- CLOSE_DONE (R234): the FINAL and the CLOSE entry are written; a power failure's close is counted in tally 4 (Table 12.5). -/
def execCloseDone (d : DieId) (s : State) : Host.Outcome State Fault Refusal :=
  onDie d s fun env x =>
    match x.evd.closing with
    | some t =>
      if !x.evd.finalSigned || x.closeWrites || x.evd.ringOnly then x
      else
        let y := ((x.set F.EVD_CLOSE_DONE 1).set F.EVD_CLOSE_TIME (min 8191 ((env.now - t) / 250))).set F.EVD_CTRL_CLOSED 1
        let y := (y.onEvd (fun e => { e with closing := none, live := false, closeAsk := false })).fire 550
        let y := if x.evd.pfClose then (y.onEvd (fun e => { e with pfClose := false })).nvsRequest 2 (.add 4 1) else y
        if x.evd.closeAsk then y.mbxResult 3 0 0 else y
    | none => x

/-! ### Signing (R230) -/

/-- The record that awaits signature first can be signed: the EP runs, the crypto block takes work (R36), and the seal ring has a
slot (R230, R359). -/
def Die.maySign (x : Die) : Bool := x.jobRuns 3 && x.takes 0x51 && !x.noKey && (x.itemsOf 40).length < 16

/-- SEALED (R230): the record is signed and lies in the seal ring; a FINAL goes on to its Seed Tray slot (R234). -/
def execSealed (d : DieId) (s : State) : Host.Outcome State Fault Refusal :=
  onDie d s fun env x =>
    match x.evd.queue with
    | [] => x
    | r :: rest =>
      if !x.maySign then x
      else
        let slot := x.evd.slot
        let (y, bytes) := (x.onEvd (fun e => { e with queue := rest })).issue env r
        let y := if r.ask then y.mbxResult 3 0 slot else y
        let y := (if r.type = 1 then y.onEvd (fun e => { e with unsealed := [] }) else y).showQueueEvd
        if r.type = 2 then
          let y := y.onEvd (fun e => { e with finalSigned := true })
          if y.evd.ringOnly then y
          else (y.nvsPages 2 (704 + 24 * y.nvs.otherSlot) (padTo 1408 bytes)).closeEntry env (sha256 bytes)
        else if y.evd.sealAsk && y.tagging then
          (if y.evd.count = 0 then (y.onEvd (fun e => { e with sealAsk := false })).mbxResult 3 1 0 else y.cut env true)
        else y.cutFull env

/-- SEAL_WAIT (Table 7.11): a record has awaited signature for 1 s. -/
def execSealWait (d : DieId) (s : State) : Host.Outcome State Fault Refusal :=
  onDie d s fun _ x => if x.evd.queue.isEmpty then x else x.cond 552 true

/-! ### Sessions (R227, R228, R233, R236, Table 7.4) -/

/-- A FINAL slot holds a FINAL record whose signature verifies; any other content counts as empty (R236). -/
def Nvs.finalValid (s : Nvs) (d : DieId) (slot : Nat) : Bool :=
  let r := s.finalAt slot
  let n := r.length - 64
  isFinal r && ecdsaOk (p256Public (privateKey d)) (r.take n) (r.drop n)

/-- The hash that an unclean session's OPEN names: of a FINAL of the session that ended without a CLOSE, when the slot
that the newest CLOSE does not name holds one and its signature verifies; else FINAL_LOST if the slot held anything
(R236). -/
def Die.lostFinal (x : Die) (env : Env) : Die × List Byte :=
  let held := x.nvs.finalAt x.nvs.otherSlot
  if x.nvs.finalValid env.die x.nvs.otherSlot && fieldOf held 0x14 4 = x.nvs.tally 1 then (x, sha256 held)
  else if held.any (· != 0) then (x.fire 553, []) else (x, [])

/-- The log's newest entry, when it is a CLOSE. -/
def Nvs.closedBy (s : Nvs) : Option (List Byte) := s.logEntries.getLast?.filter (fun e => fieldOf e 0 1 = 2)

/-- The session whose chain state the die holds is still open: the log's newest entry is not its CLOSE (R228, R235). -/
def Die.stillOpen (x : Die) : Bool :=
  x.evd.live && (match x.nvs.closedBy with | some e => fieldOf e 4 4 != x.evd.session % 2 ^ 32 | none => true)

/-- The start kind and the first ESN of the session that is opened now (Table 7.4). -/
def Die.startKind (x : Die) : Nat × Nat :=
  if x.stillOpen then (2, x.esn)
  else match x.nvs.closedBy with
    | some e => (0, fieldOf e 16 6)
    | none => if x.nvs.logUsed = 0 then (3, 1) else (1, x.nvs.tally 0)

/-- What ends the session before: the RECOVER record of one still open, with its log entry; or what the log and the FINAL slots hold
of it. The hash that the OPEN record's PREV_REC takes (R228, R236). -/
def Die.endPrevious (x : Die) (env : Env) (noKey : Bool) : Die × List Byte :=
  if x.stillOpen then
    if x.noKey || noKey then (x, [])
    else
      let (y, bytes) := (x.onEvd (fun e => { e with queue := e.queue.filter (fun r => r.type = 4) })).issue env (x.endRecord env 3)
      (y.logRequest env (logEntry 3 x.evd.session (x.timeNs env.now) x.esn 0 (sha256 bytes)) .opening, sha256 bytes)
  else match x.nvs.closedBy with
    | some e => (x, (e.drop 32).take 32)
    | none => if x.nvs.logUsed = 0 then (x, []) else x.lostFinal env

/-- The OPEN record. -/
def openRecord (kind session first time : Nat) (key : List Byte) : SealReq :=
  { type := 0, info := kind, session := session, epoch := 0, time := time, next := first, limit := first + 4096
    key := [], commit := sha256 key, keyPrev := [], entries := [], ask := false }

/-- The EP begins the opening of a session (R227): it determines the start kind, issues any RECOVER record and the OPEN record, and
requests of the Seed Tray their log entries, the session's number and the reservation. Until all are written the chain state stays
the previous session's, and a reset repeats the opening (Table 7.8; log entry 109). -/
def Die.openSession (x : Die) (env : Env) : Die :=
  let noKey := x.evRaw.getLsbD 561 || x.evRaw.getLsbD 562 || !x.on F.CRY_STATE_KEY
  let (kind, first) := x.startKind
  let session := x.nvs.tally 1 + 1
  let (y, prev) := x.endPrevious env noKey
  let (k1, y) := y.freeBytes 32
  let (k2, y) := y.freeBytes 32
  let y := y.onEvd (fun e => { e with prevRec := prev })
  let (y, hash) : Die × List Byte :=
    if noKey then (y, []) else
      let (z, bytes) := y.issue env (openRecord kind session first (x.timeNs env.now) k1)
      (z, sha256 bytes)
  let y := y.logRequest env (logEntry 1 session (x.timeNs env.now) first kind hash) .opening
  let y := (y.nvsRequest 2 (.tally 1 session) .opening).nvsRequest 1 (.tally 0 (first + 4096)) .opening
  (y.onEvd (fun e => { e with opening := some { kind := kind, noKey := noKey, session := session, first := first, key := k1
                                                nextKey := k2, hash := padTo 32 hash } })).showQueueEvd

/-- The opening's writes have completed: the session is open (R227). -/
def Die.opened (x : Die) (env : Env) (o : Opening) : Die :=
  let y := (x.set F.EVD_START_KIND o.kind).setB F.EVD_START_NOKEY o.noKey
  let y := y.set F.EVD_EPOCH_EPOCH (if o.noKey then 0x7FFFFFFF else 1)
  let y := y.set64 F.EVD_ESN_LO_ESN F.EVD_ESN_HI_ESN o.first
  let y := y.onEvd (fun e =>
    { e with live := true, key := o.key, nextKey := o.nextKey, count := 0, cutAt := env.now
             queue := e.queue.filter (fun r => r.type = 4), streams := []
             lastNum := if o.kind = 2 then e.lastNum else [], first := o.first, openHash := o.hash
             reserving := none, closing := none, closeAsk := false, ringOnly := false, finalSigned := false, sealAsk := false
             starving := [], session := o.session, unsealed := [], reopen := false, opening := none })
  let y := (y.showQueueEvd).set64 F.EVD_LIMIT_LO_LIMIT F.EVD_LIMIT_HI_LIMIT (y.nvs.tally 0)
  let y := (y.set (F.CTRL_EN 0x50) 1).set F.EVD_CTRL_CLOSED 0
  let y := y.fire 546
  (if o.kind = 1 then y.fire 551 else y).showStarve env

/-- The EP's work on a session that is to be opened: it ends the opening once the writes have completed, and begins one that a block
reset asks for once the log can be read and no entry is on its way to it. -/
def Die.openingWork (x : Die) (env : Env) : Die :=
  if !x.jobRuns 3 then x
  else match x.evd.opening with
    | some o => if x.nvs.pending.any (fun r => r.tag = .opening) then x else x.opened env o
    | none =>
      if x.evd.reopen && x.canRead 576 176 && x.nvs.logQueued = 0 && x.evd.logWaits.isEmpty then x.openSession env else x

/-- The EP runs again (Table 1.7): the log entries that waited for it are written, a session that waited is opened, and the limit is
looked at again. -/
def Die.epBack (x : Die) (env : Env) : Die :=
  let y := x.evd.logWaits.foldl (fun y e => y.logRequest env e) (x.onEvd (fun e => { e with logWaits := [] }))
  (y.openingWork env).reserve

/-- RESERVED (R225): the tally holds the new limit, and the EP has seen that it does; at a session's opening, which commits its own
reservation, the session is then open (R227). -/
def execReserved (d : DieId) (s : State) : Host.Outcome State Fault Refusal :=
  onDie d s fun env x =>
    if x.evd.opening.isSome then x.openingWork env
    else match x.evd.reserving with
    | some v =>
      if x.jobRuns 3 && v ≤ x.nvs.tally 0 then
        let y := x.set64 F.EVD_LIMIT_LO_LIMIT F.EVD_LIMIT_HI_LIMIT (x.nvs.tally 0)
        ((y.onEvd (fun e => { e with reserving := none })).fire 547).showStarve env
      else x
    | none => x

/-! ### The crypto block (R232, R233) -/

/-- CERT_DATA_READ (R232): four bytes of the certificate, 0 beyond its length, and IDX advances. The length that CRY_CERT_LEN shows is
0 until the store is READY (R339); no writer on the die writes the certificate's pages, which hold what the factory put there. -/
def Die.certRead (x : Die) : Die × Nat :=
  let i := x.get F.CRY_CERT_IDX_IDX
  let bytes := (x.nvs.logicals 32 32).take (x.get F.CRY_CERT_LEN_LEN)
  (x.set F.CRY_CERT_IDX_IDX (i + 1), ofBytesBE (padTo 4 ((bytes.drop (4 * i)).take 4)))

/-- CERT_DATA_READ. -/
def execCertDataRead (d : DieId) (s : State) : Host.Outcome State Fault Refusal :=
  onDie d s fun _ x => let (y, v) := x.certRead; y.send (.regData v)

/-- RNG_HEALTH_FAIL (R233): the generator has failed; from here on the session runs without keys (log entry 36). -/
def execRngHealthFail (d : DieId) (s : State) : Host.Outcome State Fault Refusal :=
  onDie d s fun _ x =>
    let y := (x.set F.CRY_STATE_RNG_OK 0).cond 562 true
    let y := y.onEvd (fun e => { e with opening := e.opening.map (fun o => { o with noKey := true }) })
    if x.evd.live then
      ((y.set F.EVD_START_NOKEY 1).onEvd (fun e => { e with queue := [], sealAsk := false })).showQueueEvd
    else y

/-! ### Mailbox 3 (Table 7.10) -/

/-- EVD_SEAL: a cut at once, answered when its record is in the seal ring. -/
def Die.serveSeal (x : Die) (env : Env) : Die :=
  if !x.tagging then x.mbxResult 3 1 0
  else if x.noKey then x.mbxResult 3 5 0
  else if !x.evd.queue.isEmpty then x.onEvd (fun e => { e with sealAsk := true })
  else if x.evd.count = 0 then x.mbxResult 3 1 0
  else x.cut env true

/-- EVD_ATTEST: a record over the host's nonce. -/
def Die.serveAttest (x : Die) (env : Env) (arg : Nat) : Die :=
  if x.noKey || !x.evd.live then x.mbxResult 3 5 0
  else if Config.dramBytes < arg + 32 then x.mbxResult 3 3 0
  else
    let r : SealReq :=
      { type := 4, info := 0, session := x.evd.session, epoch := 0, time := x.timeNs env.now, next := x.esn
        limit := x.esnLimit, key := env.mem.readBytes arg 32, commit := [], keyPrev := [], entries := x.evd.streams, ask := true }
    (x.onEvd (fun e => { e with queue := e.queue ++ [r] })).showQueueEvd

/-- EVD_CLOSE: the close of Table 7.7; OK at once when the evidence is closed already. -/
def Die.serveClose (x : Die) (env : Env) : Die :=
  if x.evd.closing.isSome then x.onEvd (fun e => { e with closeAsk := true })
  else if !x.tagging then x.mbxResult 3 0 0
  else x.beginClose env true false

/-- EVD_FINAL: the newest stored FINAL record copied into DRAM, once none of its pages is being written (R335). -/
def Die.serveFinal (x : Die) (d : DieId) (arg : Nat) : Die :=
  if !x.canRead 704 48 then x.mbxAgain 3 else
  let l := ([0, 1].filter (x.nvs.finalValid d)).map x.nvs.finalAt
  let best := l.foldl (fun (b : Option (List Byte)) r => match b with
    | some c => if fieldOf c 0x14 4 < fieldOf r 0x14 4 then some r else b
    | none => some r) none
  match best with
  | none => x.mbxResult 3 1 0
  | some r =>
    if Config.dramBytes < arg + 2048 then x.mbxResult 3 3 0
    else (x.dramWrite arg r).mbxResult 3 0 (fieldOf r 0x14 4)

/-- EVD_LOG: the log copied into DRAM, oldest entry first, once none of its pages is being written (R335). -/
def Die.serveLog (x : Die) (arg : Nat) : Die :=
  if !x.canRead 576 128 then x.mbxAgain 3
  else if Config.dramBytes < arg + 8192 then x.mbxResult 3 3 0
  else (x.dramWrite arg x.nvs.logEntries.flatten).mbxResult 3 0 x.nvs.logUsed

/-- EVD_SEAL (R230). -/
def execEvdSeal (d : DieId) (tag arg : Nat) (s : State) : Host.Outcome State Fault Refusal :=
  onDie d s fun env x => x.mbxCommand 3 0x0300 tag arg (fun y => y.serveSeal env)

/-- EVD_ATTEST (R231). -/
def execEvdAttest (d : DieId) (tag arg : Nat) (s : State) : Host.Outcome State Fault Refusal :=
  onDie d s fun env x => x.mbxCommand 3 0x0301 tag arg (fun y => y.serveAttest env arg)

/-- EVD_CLOSE (R235). -/
def execEvdClose (d : DieId) (tag arg : Nat) (s : State) : Host.Outcome State Fault Refusal :=
  onDie d s fun env x => x.mbxCommand 3 0x0302 tag arg (fun y => y.serveClose env)

/-- EVD_FINAL (R236). -/
def execEvdFinal (d : DieId) (tag arg : Nat) (s : State) : Host.Outcome State Fault Refusal :=
  onDie d s fun env x => x.mbxCommand 3 0x0303 tag arg (fun y => y.serveFinal env.die arg)

/-- EVD_LOG (R237). -/
def execEvdLog (d : DieId) (tag arg : Nat) (s : State) : Host.Outcome State Fault Refusal :=
  onDie d s fun _ x => x.mbxCommand 3 0x0304 tag arg (fun y => y.serveLog arg)

end Sys2Proof.Machine
end

