-- ==== Sys2Proof/Machine/Fcv.lean ====
section
/-!
DEFINITION. The field converter (08_field_converter.md): samples, visits and results, the runs of the main and the urgent
sequence, the queue and the window comparators.
-/

namespace Sys2Proof.Machine

/-- The field converter's hidden state changed. -/
def Die.onFcv (x : Die) (f : Fcv → Fcv) : Die := { x with fcv := f x.fcv }

/-! ### Samples and results (R240, R241, R245, R246) -/

/-- A field sample (R240, R241): the code and its over-range bit. The input voltage is in nV; LSB is 1.2 V / 16,384. The core's gain
trim and the reference's correction `comp` (R299) are in 10^-6, its offset trim in 10^-6 LSB. -/
def fieldCode (gain : Nat) (diff : Bool) (v : Int) (trim : Int × Int := (0, 0)) (comp : Int := 0) : Nat × Bool :=
  let den : Int := 1200000000 * 10 ^ 12
  let num := v * (2 ^ gain : Nat) * 16384 * (1000000 + trim.1) * (1000000 + comp) + trim.2 * 1000000 * 1200000000
  let r := (2 * num + den) / (2 * den) + (if diff then 8192 else 0)
  if 16384 ≤ r then (0x3FFF, true) else if r < 0 then (0, false) else (r.toNat, false)

/-- The samples tagged INVALID at the start of a visit (R245). -/
def invalidCount (last : Option (Nat × Bool × Nat)) (ch : Nat) (diff : Bool) (gain settle : Nat) : Nat :=
  match last with
  | none => 9 + max settle 16
  | some (c, f, g) =>
    let input := c != ch || f != diff
    if input && g != gain then 9 + max settle 16 else if input then 9 + settle else if g != gain then 9 + 16 else 0

/-- The scaled sum (R246). -/
def scaled (sum shift : Nat) : Nat := (sum + (if shift = 0 then 0 else 2 ^ (shift - 1))) >>> shift

/-- R246: a channel setting whose largest result would not fit 16 bits. -/
def chcfgTooBig (cntM1 shift : Nat) : Bool := 65535 < scaled ((cntM1 + 1) * 16383) shift

/-- One sample period, in PERI cycles: PACE_M1 + 1 CONV cycles (R243). -/
def Die.fcvPace (x : Die) : Nat := 5 * (x.get F.FCV_CFG_PACE_M1 + 1)

/-- The first CONV edge at least `d` PERI cycles after `now`; that the edges fall on every fifth PERI cycle is the model's own choice
(log entry 100). -/
def convEdge (now d : Nat) : Nat := 5 * ((now + d + 4) / 5)

/-- A visit to an entry begins: its fields and its channel's settings are read (R244, R245, Table 8.3). -/
def Die.newVisit (x : Die) (k : Nat) : FcvVisit :=
  let ch := x.get (F.FCV_SEQ_CH k)
  let diff := x.on (F.FCV_SEQ_DIFF k)
  let gain := x.get (F.FCV_CHCFG_GAIN ch)
  { entry := k, ch := ch, diff := diff, queue := x.on (F.FCV_SEQ_QUEUE k), last := x.on (F.FCV_SEQ_LAST k) || k = 63, gain := gain
    cnt := x.get (F.FCV_CHCFG_AVG_CNT_M1 ch) + 1, shift := x.get (F.FCV_CHCFG_AVG_SHIFT ch), odd := x.fcv.odd
    inv := invalidCount x.fcv.last ch diff gain (x.get (F.FCV_CHCFG_SETTLE_CNT ch)) }

/-- The samples of a visit before its average begins anew at the gain in force. -/
def FcvVisit.before (v : FcvVisit) : Nat := (v.dropped.map (·.1)).sum

/-- The samples of a visit. -/
def FcvVisit.samples (v : FcvVisit) : Nat := v.before + v.inv + v.cnt

/-- The samples taken since the average began anew. -/
def FcvVisit.since (v : FcvVisit) : Nat := v.taken - v.before

/-- `n` samples have been taken: at full rate the cores have taken turns (R243). -/
def Die.fieldTaken (x : Die) (n : Nat) : Die :=
  if x.on F.FCV_CFG_LPM then x else x.onFcv (fun f => { f with odd := xor f.odd (n % 2 = 1) })

/-- The samples that an ended visit has. -/
def FcvEnded.samples (e : FcvEnded) : Nat := if e.cut then e.visit.taken else e.visit.samples

/-- The sample `i` of an ended visit, taken at a gain (R240, R243). -/
def Die.fieldSample (x : Die) (e : FcvEnded) (gain i : Nat) (v : Int) : Nat × Bool :=
  fieldCode gain e.visit.diff v (x.fcv.cores.getD (e.core.getD ((i + (if e.visit.odd then 1 else 0)) % 2)) (0, 0)) e.comp

/-- The results that an ended visit forms from its samples: INVALID ones, then, of a whole visit, the result itself, whose value is
open where a change of the averaging while it ran leaves it beyond 16 bits; none where the samples are too few (R245 to R248,
Table 8.3). Each carries the time of its last sample in µs. -/
def Die.results (x : Die) (e : FcvEnded) (volts : List Int) : Option (List FcvResult × Die) :=
  let v := e.visit
  if volts.length < e.samples then none
  else
    let code (gain i : Nat) : Nat × Bool := x.fieldSample e gain i (volts.getD i 0)
    let time (i : Nat) : Nat := x.timeNs (e.lastAt - e.pace * (e.samples - 1 - i)) / 1000
    let base : FcvResult :=
      { entry := v.entry, ch := v.ch, gain := v.gain, diff := v.diff, value := 0, urgent := e.urgent, invalid := false, part := false
        ovr := false, trig := false, queued := v.queue, time := 0, last := false }
    let bad (gain at_ n : Nat) : List FcvResult :=
      if e.inv then
        (List.range n).map (fun i =>
          { base with gain := gain, value := (code gain (at_ + i)).1, invalid := true, time := time (at_ + i) })
      else []
    let (early, at_) := v.dropped.foldl (fun (a : List FcvResult × Nat) s =>
      (a.1 ++ bad s.2.2 a.2 (min s.1 s.2.1), a.2 + s.1)) ([], 0)
    let first := early ++ bad v.gain at_ (min v.inv v.since)
    let mine := (List.range v.cnt).map (fun i => code v.gain (at_ + v.inv + i))
    let sum := Sys2Proof.Machine.scaled (mine.map (·.1)).sum v.shift
    let (value, y) := if sum < 65536 || e.cut then (sum, x) else x.freeVal 16
    let r := { base with value := value, part := e.part, ovr := mine.any (·.2), last := v.last, time := time (e.samples - 1) }
    match if e.cut then first else first ++ [r] with
    | a :: t => some ({ a with trig := e.trig } :: t, y)
    | [] => some ([], y)

/-- FCV_CHCFG of a channel changes (Table 8.3); `x` is the die before the write. A new gain discards an average under way, and a new
one begins after 25 samples tagged INVALID; a new count or shift applies at once to an average under way, which closes with the
samples that it has where that is enough, and otherwise to the next visit. -/
def Die.visitChanged (g x : Die) (ch gain cnt shift : Nat) : Die :=
  match g.fcv.visit with
  | none => g
  | some v =>
    let newGain := gain != x.get (F.FCV_CHCFG_GAIN ch)
    let newAvg := cnt != x.get (F.FCV_CHCFG_AVG_CNT_M1 ch) + 1 || shift != x.get (F.FCV_CHCFG_AVG_SHIFT ch)
    let under := v.inv < v.since
    if v.ch != ch then g
    else
      let v := if newAvg && under then { v with cnt := if newGain then cnt else max cnt (v.since - v.inv), shift := shift } else v
      let v := if newGain then { v with gain := gain, inv := 25, dropped := v.dropped ++ [(v.since, v.inv, v.gain)] } else v
      g.onFcv (fun f => { f with visit := some v })

/-! ### The queue (R255, R256) -/

/-- A queue entry (Table 8.6). -/
def FcvResult.word (r : FcvResult) (win lost : Bool) : Nat :=
  let b (i : Nat) (v : Bool) : Nat := if v then 2 ^ i else 0
  r.value * 2 ^ 48 + r.entry * 2 ^ 42 + r.ch * 2 ^ 37 + r.gain * 2 ^ 34 + b 33 r.diff + b 32 r.urgent + b 31 r.invalid +
    b 30 r.part + b 29 r.ovr + b 28 win + b 27 r.trig + b 26 lost + r.time % 2 ^ 24

/-- FCV_QSTAT.FILL and Q_WMARK, event 389. -/
def Die.showFill (x : Die) : Die :=
  (x.set F.FCV_QSTAT_FILL x.fcv.queue.length).cond 389 (x.get F.FCV_QCFG_WMARK ≤ x.fcv.queue.length)

/-- A result enters the queue, or is counted as lost (R255). -/
def Die.enqueue (x : Die) (r : FcvResult) (win : Bool) : Die :=
  let n := x.fcv.queue.length
  if !r.queued then x
  else if 256 ≤ n || (240 ≤ n && !r.urgent) then
    ((x.count F.FCV_QSTAT_LOST).onFcv (fun f => { f with lost := true })).fire 390
  else (x.onFcv (fun f => { f with queue := f.queue ++ [r.word win f.lost], lost := false })).showFill

/-- The oldest entry removed: its low and high words; of an empty queue 0 and 0xFFFF_FFFF (R256). -/
def Die.popField (x : Die) : Die × Nat × Nat :=
  match x.fcv.queue with
  | [] => (x, 0, 0xFFFFFFFF)
  | w :: r => ((x.onFcv (fun f => { f with queue := r })).showFill, w % 2 ^ 32, w / 2 ^ 32)

/-! ### Window comparators (R257) -/

/-- What a result does to comparator `k`: the die, and whether the result took it outside. -/
def Die.compareWin (x : Die) (k ch v : Nat) : Die × Bool :=
  if !x.on (F.FCV_WIN_CFG_EN k) || x.get (F.FCV_WIN_CFG_CH k) != ch then (x, false)
  else
    let lo := x.get (F.FCV_WIN_LIM_LOW k)
    let hi := x.get (F.FCV_WIN_LIM_HIGH k)
    let hy := x.get (F.FCV_WIN_CFG_HYST k)
    if x.on (F.FCV_WIN_CFG_OUTSIDE k) then
      (if lo + hy ≤ v && v + hy ≤ hi then x.set (F.FCV_WIN_CFG_OUTSIDE k) 0 else x, false)
    else if v < lo || hi < v then ((x.set (F.FCV_WIN_CFG_OUTSIDE k) 1).fire (392 + k), true)
    else (x, false)

/-- A result is delivered (R254): FCV_RES, the comparators, the queue and the events. -/
def Die.deliverField (x : Die) (r : FcvResult) : Die :=
  if r.invalid then x.enqueue r false
  else
    let c := r.ch
    let y := ((x.set (F.FCV_RES_VALID c) 1).setB (F.FCV_RES_PARTIAL c) r.part).setB (F.FCV_RES_OVR c) r.ovr
    let y := ((y.incr (F.FCV_RES_NEW c)).set (F.FCV_RES_GAIN c) r.gain).set (F.FCV_RES_VALUE c) r.value
    let (y, win) := (List.range 8).foldl (fun (b : Die × Bool) k =>
      let (z, w) := b.1.compareWin k c r.value
      (z, b.2 || w)) (y, false)
    let y := y.enqueue r win
    let y := if r.ovr then y.fire 391 else y
    if r.last then y.fire (if r.urgent then 386 else 385) else y

/-! ### Runs (R244, R249 to R253) -/

/-- The run that converts: urgent or main, its entry and whether its first result is still to come with TRIG. -/
def Die.fcvRun (x : Die) : Option (Bool × Nat × Bool) :=
  if x.get F.FCV_STATE_URG != 0 then some (true, x.fcv.urgEntry, x.fcv.urgTrig)
  else if x.get F.FCV_STATE_MAIN = 2 then some (false, x.fcv.mainEntry, x.fcv.mainTrig)
  else none

/-- The visit under way, or the one that begins with the sample to come. -/
def Die.visitNow (x : Die) (k : Nat) : FcvVisit := x.fcv.visit.getD (x.newVisit k)

/-- A sample taken less than 360 ns ago is still in its core (R243). -/
def Die.coreBusy (x : Die) (now : Nat) : Bool := x.fcv.sampleAt.any (fun t => now < t + 90)

/-- FCV_STATE.ENTRY, IDLE and BUSY (R259). -/
def Die.showFcv (x : Die) (now : Nat) : Die :=
  let m := x.get F.FCV_STATE_MAIN
  let u := x.get F.FCV_STATE_URG
  let busy := m = 2 || m = 3 || m = 4 || u != 0
  let y := x.set F.FCV_STATE_ENTRY (if u != 0 then x.fcv.urgEntry else x.fcv.mainEntry)
  (y.setB (F.STAT_IDLE 0x38) (!busy && !x.coreBusy now)).setB (F.STAT_BUSY 0x38) busy

/-- The correction of the converter's reference that a run takes at its start (R299, Table 10.7). -/
def Die.fieldComp (x : Die) : Int := if x.on F.THM_COMP_FCV then x.thm.trims.getD 2 0 else 0

/-- The converter is powered and runs: enabled, in Run or Doze (R258). -/
def Die.fcvRuns (x : Die) : Bool := x.on F.FCV_CTRL_EN && x.boot.power < 2

/-- The converter takes requests: it runs, and its block takes new work (R36). -/
def Die.fcvOn (x : Die) : Bool := x.fcvRuns && x.takes 0x38

/-- A main run begins: MODE and START apply (R249). -/
def Die.startMain (x : Die) (trig : Bool) (at_ : Option Nat := none) : Die :=
  (x.set F.FCV_STATE_MAIN 2).onFcv (fun f =>
    { f with mode := x.get F.FCV_MAIN_MODE, mainEntry := x.get F.FCV_MAIN_START, mainTrig := trig, comp := x.fieldComp
             mainAt := at_ })

/-- A main run has taken its last sample: once only in mode 0, armed in modes 1 and 2, again in mode 3 (Table 8.4). -/
def Die.endMain (x : Die) : Die :=
  match x.fcv.mode with
  | 0 => x.set F.FCV_STATE_MAIN 0
  | 3 => x.startMain false
  | _ => x.set F.FCV_STATE_MAIN 1

/-- An urgent run has taken its last sample: a held request runs again, else the main run resumes by repeating its entry,
or a held one begins (R252, R253). -/
def Die.endUrgent (x : Die) : Die :=
  if x.get F.FCV_STATE_URG = 2 then
    (x.set F.FCV_STATE_URG 1).onFcv (fun f => { f with urgEntry := x.get F.FCV_URG_START, urgTrig := f.nextTrig, comp := x.fieldComp })
  else
    let y := x.set F.FCV_STATE_URG 0
    match y.get F.FCV_STATE_MAIN with
    | 3 => y.set F.FCV_STATE_MAIN 2
    | 4 => y.startMain y.fcv.heldTrig
    | _ => y

/-- What is to be delivered of a visit of the run under way, with its last sample taken at the instant `t`. -/
def Die.ended (x : Die) (v : FcvVisit) (urgent trig cut : Bool) (t : Nat) (volts : Option (List Int)) : FcvEnded :=
  { visit := v, urgent := urgent, trig := trig, part := !cut && x.fcv.changed.contains v.ch, inv := v.cnt = 1 && x.on F.FCV_CTRL_QINV
    cut := cut, comp := x.fcv.comp, core := if x.on F.FCV_CFG_LPM then some (x.get F.FCV_CFG_LPCORE) else none
    lastAt := t, pace := x.fcvPace, volts := volts }

/-- The visit `v` has taken its last sample, at the instant `t`: its results wait for their delivery and the run goes on. -/
def Die.endVisit (x : Die) (v : FcvVisit) (t : Nat) (volts : Option (List Int)) : Die :=
  match x.fcvRun with
  | none => x
  | some (urgent, k, trig) =>
    let y := x.onFcv (fun f => { f with
      due := f.due ++ [x.ended v urgent trig false t volts], mainAt := if urgent then f.mainAt else none
      changed := f.changed.filter (· != v.ch), visit := none
      urgTrig := if urgent then false else f.urgTrig, mainTrig := if urgent then f.mainTrig else false
      urgEntry := if urgent then k + 1 else f.urgEntry, mainEntry := if urgent then f.mainEntry else k + 1 })
    let z := if v.last then (if urgent then y.endUrgent else y.endMain) else y
    if z.fcvRun.isNone then z.onFcv (fun f => { f with nextAt := none }) else z

/-- The samples of a visit up to its sample `n`, the last one at the instant `t`, have been taken. -/
def Die.takeSamples (x : Die) (v : FcvVisit) (n t : Nat) : Die :=
  (x.fieldTaken (n - v.taken)).onFcv (fun f =>
    { f with visit := some { v with taken := n }, last := some (v.ch, v.diff, v.gain), sampleAt := some t
             nextAt := some (t + x.fcvPace) })

/-- The sample instant `t` of the run under way: it takes a sample, the first of a visit, or its last; an average whose count a change
has met closes (Table 8.3). -/
def Die.fcvSample (x : Die) (t : Nat) : Die :=
  match x.fcvRun with
  | none => x.onFcv (fun f => { f with nextAt := none })
  | some (_, k, _) =>
    let v := x.visitNow k
    if v.samples ≤ v.taken then x.endVisit v (x.fcv.sampleAt.getD t) none
    else
      let y := x.takeSamples v (v.taken + 1) t
      if v.taken + 1 = v.samples then y.endVisit { v with taken := v.taken + 1 } t none else y

/-- The sample instants that have been reached, at most `n` of them. -/
def Die.fcvCatch (x : Die) (now : Nat) : Nat → Die
  | 0 => x
  | n + 1 =>
    match x.fcv.nextAt with
    | some t => if t ≤ now then (x.fcvSample t).fcvCatch now n else x
    | none => x

/-- The converter over a PERI cycle in which no command is taken up (R243; log entry 3): the sample instant that has come; while it
does not run, its samples wait. -/
def Die.fcvTick (x : Die) (now : Nat) : Die :=
  let come := x.fcv.nextAt.any (· ≤ now)
  let y := if !come then x
    else if x.fcvRuns then x.fcvCatch now 4
    else x.onFcv (fun f => { f with nextAt := some (now + x.fcvPace) })
  if come || x.fcv.sampleAt.any (fun t => t + 90 = now) then y.showFcv now else y

/-- The visit under way has taken all its samples, the last at the instant `t`, with the voltages that the command brings; none where
these are too few. -/
def Die.forceEnd (x : Die) (t : Nat) (volts : List Int) : Die :=
  match x.fcvRun with
  | none => x
  | some (_, k, _) =>
    let v := x.visitNow k
    if !x.fcvRuns || volts.length < v.samples then x
    else (x.takeSamples v v.samples t).endVisit { v with taken := v.samples } t (some volts)

/-! ### Requests (R249 to R253) -/

/-- A start request of the main sequence while a run is in progress or held (Table 8.4). -/
def Die.mainBusy (x : Die) : Die :=
  match x.fcv.mode with
  | 1 => (x.count F.FCV_CNT1_OVERRUN).fire 387
  | 2 => (x.count F.FCV_CNT1_TRIG_MISS).fire 388
  | _ => x.accErr 0x38

/-- The first sample instant of a run that begins in an idle converter: the first CONV edge at least 40 ns after its request, or, of
an edge of FTRIG, 60 ns and the DELAY after it (R249, R250). -/
def Die.firstSample (x : Die) (trig : Bool) (now : Nat) : Nat :=
  if trig then convEdge now (15 + 5 * x.get F.FCV_TRIG_DELAY) else convEdge now 10

/-- A start request of the main sequence at the instant `now` (R249, R253). -/
def Die.requestMain (x : Die) (trig : Bool) (now : Nat) : Die :=
  let m := x.get F.FCV_STATE_MAIN
  if m = 2 || m = 3 || m = 4 then x.mainBusy
  else if x.get F.FCV_STATE_URG != 0 then
    (x.set F.FCV_STATE_MAIN 4).onFcv (fun f => { f with mode := x.get F.FCV_MAIN_MODE, heldTrig := trig })
  else (x.startMain trig (some now)).onFcv (fun f => { f with nextAt := some (x.firstSample trig now) })

/-- FCV_MAIN.GO (R249, Table 8.4). During a run the row of the run's own mode governs: a GO in a run of mode 0 is refused, and of the
other modes the sequence is armed already. -/
def Die.mainGo (x : Die) (now : Nat) : Die :=
  let m := x.get F.FCV_STATE_MAIN
  let mode := x.get F.FCV_MAIN_MODE
  if !x.fcvOn then x.accErr 0x38
  else if m = 2 || m = 3 || m = 4 then (if x.fcv.mode = 0 then x.accErr 0x38 else x)
  else if mode = 2 then (x.set F.FCV_STATE_MAIN 1).onFcv (fun f => { f with mode := 2 })
  else x.requestMain false now

/-- The run under way ends without its visit's result; INVALID samples that are results by themselves are still delivered (R247,
R251). -/
def Die.cutVisit (x : Die) : Die :=
  match x.fcv.visit with
  | none => x
  | some v =>
    let e := x.ended v false x.fcv.mainTrig true (x.fcv.sampleAt.getD 0) none
    x.onFcv (fun f => { f with visit := none, due := if e.inv && v.queue && 0 < v.taken then f.due ++ [e] else f.due })

/-- FCV_MAIN.STOP (R251): the run ends at its next sample instant, with the average in progress, and the sequence is disarmed. -/
def Die.mainStop (x : Die) (now : Nat) : Die :=
  let y := if x.get F.FCV_STATE_MAIN = 2 && x.get F.FCV_STATE_URG = 0 then x.cutVisit.onFcv (fun f => { f with nextAt := none }) else x
  (y.set F.FCV_STATE_MAIN 0).showFcv now

/-- FCV_MAIN_GO. -/
def execFcvMainGo (d : DieId) (start mode : Nat) (s : State) : Host.Outcome State Fault Refusal :=
  onDie d s fun env x => (((x.set F.FCV_MAIN_START start).set F.FCV_MAIN_MODE mode).mainGo env.now).showFcv env.now

/-- FCV_MAIN_STOP. -/
def execFcvMainStop (d : DieId) (start mode : Nat) (s : State) : Host.Outcome State Fault Refusal :=
  onDie d s fun env x => ((x.set F.FCV_MAIN_START start).set F.FCV_MAIN_MODE mode).mainStop env.now

/-- What an urgent request at the instant `now` does to the main run: a run whose own request landed in the same PERI cycle is held
(R253); any other is suspended at its first sample instant at least 20 ns on, and the samples of its visit are discarded; one whose
last sample falls before has ended (R252). -/
def Die.yieldMain (x : Die) (now : Nat) : Die :=
  if x.get F.FCV_STATE_MAIN != 2 then x
  else if x.fcv.mainAt = some now then
    (x.set F.FCV_STATE_MAIN 4).onFcv (fun f => { f with heldTrig := f.mainTrig, visit := none })
  else
    let y := match x.fcv.nextAt with
      | some t => if t < now + 5 then x.fcvSample t else x
      | none => x
    if y.get F.FCV_STATE_MAIN != 2 then y else (y.set F.FCV_STATE_MAIN 3).onFcv (fun f => { f with visit := none })

/-- An urgent request at the instant `now` (R252, R253): it pre-empts a main run, or is held or merged. -/
def Die.urgentGo (x : Die) (trig : Bool) (now : Nat) : Die :=
  if !x.fcvOn then x.accErr 0x38
  else match x.get F.FCV_STATE_URG with
    | 0 =>
      let y := x.yieldMain now
      ((y.set F.FCV_STATE_URG 1).onFcv (fun f =>
        { f with urgEntry := x.get F.FCV_URG_START, urgTrig := trig, comp := x.fieldComp
                 nextAt := some (match f.nextAt with | some t => t | none => x.firstSample trig now) })).showFcv now
    | 1 => (x.set F.FCV_STATE_URG 2).onFcv (fun f => { f with nextTrig := trig })
    | _ => x.count F.FCV_CNT2_URG_MERGED

/-- FCV_URG_GO. -/
def execFcvUrgGo (d : DieId) (start : Nat) (s : State) : Host.Outcome State Fault Refusal :=
  onDie d s fun env x => (x.set F.FCV_URG_START start).urgentGo false env.now

/-- FTRIG_EDGE (R249, R250); the input sees none while bank B3 has no supply (R424). -/
def execFtrigEdge (d : DieId) (rising : Bool) (s : State) : Host.Outcome State Fault Refusal :=
  onDie d s fun env x =>
    let e := x.get F.FCV_TRIG_EDGE
    if !(e = 3 || (e = 1 && rising) || (e = 2 && !rising)) || !x.fcvOn || x.boot.banks.getLsbD 1 then x
    else if x.on F.FCV_TRIG_DEST then x.urgentGo true env.now
    else if x.fcv.mode = 2 && x.get F.FCV_STATE_MAIN != 0 then (x.requestMain true env.now).showFcv env.now
    else x

/-- FCV_PERIOD_TICK (R249, Table 8.4). -/
def execFcvPeriodTick (d : DieId) (s : State) : Host.Outcome State Fault Refusal :=
  onDie d s fun env x =>
    if x.fcv.mode = 1 && x.get F.FCV_STATE_MAIN != 0 && x.fcvOn then (x.requestMain false env.now).showFcv env.now else x

/-- URGENT_RUN_END (R252): the urgent run takes its last sample. -/
def execUrgentRunEnd (d : DieId) (volts : List Int) (s : State) : Host.Outcome State Fault Refusal :=
  onDie d s fun env x =>
    if x.get F.FCV_STATE_URG != 0 && (x.visitNow x.fcv.urgEntry).last then (x.forceEnd env.now volts).showFcv env.now else x

/-- The oldest visit's results are delivered, with the INVALID ones before (R247, R254). -/
def Die.deliverNext (x : Die) (volts : List Int) : Die :=
  match x.fcv.due with
  | [] => x
  | e :: t =>
    match x.results e (e.volts.getD volts) with
    | some (l, y) => l.foldl (fun y r => y.deliverField r) (y.onFcv (fun f => { f with due := t }))
    | none => x

/-- FCV_RESULT_DELIVERY (R245 to R248, R254 to R257): 400 ns after its last summed sample. Where the visit under way has not come to
its last sample by the sample instants, the command says that it took it 400 ns ago, and the instants go on from there. -/
def execFcvResultDelivery (d : DieId) (volts : List Int) (s : State) : Host.Outcome State Fault Refusal :=
  onDie d s fun env x =>
    if !x.on F.FCV_CTRL_EN then x
    else
      let y := if x.fcv.due.isEmpty then (x.forceEnd (env.now - 100) volts).fcvCatch env.now 64 else x
      (y.deliverNext volts).showFcv env.now

/-! ### Reads of the queue (R256, R11) -/

/-- A high word held for a requester. -/
def Die.hold (x : Die) (q : Requester) (lo word : Nat) : Die :=
  { x with held := x.held.filter (fun h => h.req != q || h.lo != lo) ++ [{ req := q, lo := lo, word := word }] }

/-- A read of FCV_Q_LO by a requester: the die and the low word. -/
def Die.readFieldLo (x : Die) (q : Requester) : Die × Nat :=
  let (y, lo, hi) := x.popField
  (y.hold q 0x38060 hi, lo)

/-- A read of FCV_Q_HI: the word held for the requester, or, without one, the oldest entry's high word, with TEAR; of an
empty queue that word is open. -/
def Die.readFieldHi (x : Die) (q : Requester) : Die × Nat :=
  match x.held.find? (fun h => h.req = q && h.lo = 0x38060) with
  | some h => ({ x with held := x.held.filter (fun k => k != h) }, h.word)
  | none =>
    let y := x.raise (F.STAT_TEAR 0x38) 1
    match y.fcv.queue with
    | w :: _ => (y, w / 2 ^ 32)
    | [] => let (v, z) := y.freeVal 32; (z, v)

/-- FCV_QUEUE_READ. -/
def execFcvQueueRead (d : DieId) (q : Requester) (s : State) : Host.Outcome State Fault Refusal :=
  onDie d s fun _ x => let (y, v) := x.readFieldLo q; y.send (.readData q v)

/-- FCV_QUEUE_PEEK. -/
def execFcvQueuePeek (d : DieId) (q : Requester) (s : State) : Host.Outcome State Fault Refusal :=
  onDie d s fun _ x => let (y, v) := x.readFieldHi q; y.send (.readData q v)

/-- The self-calibration of the converter at start-up (R240): each core's trims take values of their own, within the mismatch that
R243's text leaves between the cores, ±2 LSB of offset and ±0.05 % of gain. -/
def Die.calibrateField (x : Die) : Die :=
  let (l, y) := x.thread (fun y _ =>
    let (g, y) := y.freeBetween 0 500
    let (o, y) := y.freeBetween 0 2000000
    (((g : Int) - 250, (o : Int) - 1000000), y)) [0, 1]
  y.onFcv (fun f => { f with cores := l })

/-- What a reset of the block does beyond its page (R259): every run ends, requests, averages and results are dropped,
the queue is empty and the comparators are inside. A change of a channel's averaging still marks its next result (R248). -/
def Die.fcvStop (x : Die) : Die :=
  let y := { x with fcv := { odd := x.fcv.odd, cores := x.fcv.cores, changed := x.fcv.changed } }
  let y := (List.range 32).foldl (fun y c =>
    (((((y.set (F.FCV_RES_VALID c) 0).set (F.FCV_RES_PARTIAL c) 0).set (F.FCV_RES_OVR c) 0).set (F.FCV_RES_NEW c) 0).set
      (F.FCV_RES_GAIN c) 0).set (F.FCV_RES_VALUE c) 0) y
  let y := (List.range 8).foldl (fun y k => y.set (F.FCV_WIN_CFG_OUTSIDE k) 0) y
  (((y.set F.FCV_STATE_MAIN 0).set F.FCV_STATE_URG 0).showFcv 0).showFill

end Sys2Proof.Machine
end

