-- ==== Sys2Proof/Machine/Lamps.lean ====
section
/-!
DEFINITION. The lamps (09_loops_pwm_and_lamps.md, R276 to R283).
-/

namespace Sys2Proof.Machine

/-- The LED block's hidden state changed. -/
def Die.onLed (x : Die) (f : Led → Led) : Die := { x with led := f x.led }

/-- A channel's hidden state. -/
def Die.lamp (x : Die) (k : Nat) : LedChan := x.led.chans.getD k {}

/-- A channel's hidden state changed. -/
def Die.onLamp (x : Die) (k : Nat) (f : LedChan → LedChan) : Die :=
  x.onLed (fun l => { l with chans := fillSet {} l.chans k (f (x.lamp k)) })

/-- R278, Table 9.4: the level L of a brightness, rounded to the nearest; no level falls midway. -/
def ledLevel (curve b : Nat) : Nat :=
  let near (num den : Nat) : Nat := (2 * num + den) / (2 * den)
  match curve with
  | 0 => near (65535 * b) 4095
  | 1 =>
    if 100 * b ≤ 8 * 4095 then near (65535 * (1000 * b)) (4095 * 9033)
    else near (65535 * (100 * b + 16 * 4095) ^ 3) ((116 * 4095) ^ 3)
  | _ => near (65535 * (b * b)) (4095 * 4095)

/-- The cycles a channel is on in LED period `j` of a run of four, at level `l` (R278). -/
def ledCycles (l j : Nat) : Nat :=
  if l = 65535 then 16384 else l / 4 + (if bits j 0 1 * 2 + bits j 1 1 < l % 4 then 1 else 0)

/-- R277: the current applied. -/
def Die.ledCurrent (x : Die) (k : Nat) : Nat :=
  min (if x.on (F.LED_CFG_DRIVE k) then 4095 else 255)
    ((x.get (F.LED_CUR_CODE k) * x.get (F.LED_BINTAB_FACTOR (x.get (F.LED_CFG_BIN k))) + 16384) / 32768)

/-- R279: the level after `i` of `n` periods, halves towards the target. -/
def fadeAt (b0 b1 n i : Nat) : Nat :=
  if b0 ≤ b1 then b0 + (2 * ((b1 - b0) * i) + n) / (2 * n) else b0 - (2 * ((b0 - b1) * i) + n) / (2 * n)

/-- The periods that a fade takes: FADE ms over 65.536 µs, rounded up. -/
def fadePeriods (ms : Nat) : Nat := (ms * 1000000 + 65535) / 65536

/-- A channel can be on: LED_CTRL.EN, no stop (R283), and not shared with the partner that owns it (R383). -/
def Die.ledLit (x : Die) (k : Nat) : Bool :=
  x.on (F.CTRL_EN 0x3B) && !x.led.off && x.boot.power != 3 &&
    !(x.pairRole != 0 && !x.on F.PRL_STAT_OWNER && x.bitOf F.PRL_SHARED_LED k)

/-- A fade is discarded. -/
def Die.fadeOff (x : Die) (k : Nat) : Die := (x.set (F.LED_STAT_FADING k) 0).onLamp k (fun c => { c with fade := none })

/-- The level in force is the target: FADE_DONE, event 441 (R279). -/
def Die.fadeDone (x : Die) (k b : Nat) : Die := ((x.set (F.LED_STAT_B k) b).fadeOff k).fire 441

/-- A fade begins from the level in force; without a length, or with the target in force already, it ends at once (R279). In strobe
mode there is none, and a target that is applied there changes no level (R280; log entry 106). -/
def Die.fadeFrom (x : Die) (k : Nat) : Die :=
  let b0 := x.get (F.LED_STAT_B k)
  let b1 := x.get (F.LED_LEVEL_B k)
  let n := fadePeriods (x.get (F.LED_LEVEL_FADE k))
  if x.get (F.LED_CFG_MODE k) = 2 then x
  else if n = 0 || b0 = b1 then x.fadeDone k b1
  else (x.set (F.LED_STAT_FADING k) 1).onLamp k (fun c => { c with fade := some (b0, b1, n, 0) })

/-- A fade's next step (R279): it ends at the boundary at which the rounded level reaches the target. -/
def Die.fadeStep (x : Die) (k : Nat) : Die :=
  match (x.lamp k).fade with
  | some (b0, b1, n, i) =>
    let b := fadeAt b0 b1 n (i + 1)
    if b = b1 then x.fadeDone k b1
    else (x.set (F.LED_STAT_B k) b).onLamp k (fun c => { c with fade := some (b0, b1, n, i + 1) })
  | none => x

/-- REF_LOST, event 446. -/
def Die.showRefLost (x : Die) : Die :=
  x.cond 446 ((List.range 12).any (fun k => (x.lamp k).noRef && x.get (F.LED_CFG_MODE k) = 2))

/-- R315: the pins of the channels whose MODE in force is not 0 are driven. -/
def Die.configureLamps (x : Die) : Die :=
  x.configure (((List.range 12).filter (fun k => x.get (F.LED_CFG_MODE k) != 0)).map (29 + ·))

/-- Channels that a commit has put into strobe mode have no fade any more (R280). -/
def Die.strobeModes (x : Die) : Die :=
  ((List.range 12).foldl (fun y k => if y.get (F.LED_CFG_MODE k) = 2 then y.fadeOff k else y) x).showRefLost

/-- A commit of the LED page applies (R282); SYNC_APPLIED, event 445, and COUNT where a SYNC brought it. -/
def Die.ledCommit (x : Die) (frame : Nat) : Die :=
  let targets := (List.range 12).filter (fun k => (x.stage.look (F.LED_LEVEL_B k)).isSome)
  let y := (x.commitNow 0x3B frame).onLed (fun l => { l with due := false, sync := false, synced := none })
  let y := if x.led.synced.isSome then (y.count F.LED_SYNC_COUNT).fire 445 else y
  targets.foldl (fun y k => y.fadeFrom k) y.strobeModes.configureLamps

/-- A channel at an LED period boundary: what LSNS read at the end of its on-time, its return from a cleared fault, and
its pulse for the period that begins (R276 to R278, R281). -/
def Die.lampPeriod (x : Die) (k : Nat) (sns : Nat) : Die :=
  let c := x.lamp k
  let gate := x.on (F.LED_CFG_DRIVE k)
  let y := if !gate then x.set (F.LED_SNS_SNS k) 0 else if c.onFor = 0 then x else x.set (F.LED_SNS_SNS k) sns
  let held := y.bitOf F.LED_FAULT_OPEN k || y.bitOf F.LED_FAULT_SHORT k
  let y := if held then y else y.set (F.LED_STAT_FAULT k) 0
  let on := y.ledLit k && !held && y.get (F.LED_CFG_MODE k) = 1
  let l := ledLevel (y.get (F.LED_CFG_CURVE k)) (y.get (F.LED_STAT_B k))
  y.onLamp k (fun c => { c with
    held := held, code := y.ledCurrent k, onFor := if on then ledCycles l y.led.phase else 0
    pulses := if y.get (F.LED_CFG_MODE k) = 2 then c.pulses else [] })

/-- An LED period boundary: a commit whose instant has come applies. -/
def Die.ledBoundary (x : Die) (sns : List Nat) (now : Nat) : Die :=
  let y := x.onLed (fun l => { l with phase := (l.phase + 1) % 4 })
  let y := (List.range 12).foldl (fun y k => y.fadeStep k) y
  let y := if y.commitPending 0x3B && (y.led.due || y.led.synced.any (fun t => decide (t ≤ 4 * now))) then y.ledCommit y.frame.num else y
  (List.range 12).foldl (fun y k => y.lampPeriod k (sns.getD k 0)) y

/-- LED_PERIOD_BOUNDARY (R276 to R279, R282). -/
def execLedPeriodBoundary (d : DieId) (sns : List Nat) (s : State) : Host.Outcome State Fault Refusal :=
  onDie d s fun env x => x.ledBoundary sns env.now

/-- A reference reaches a channel in strobe mode (R280): one pulse, 80 ns ± 20 ns after DELAY; a pulse in progress makes
it a miss, STROBE_MISS, event 444. -/
def Die.strobe (x : Die) (k now : Nat) : Die :=
  let y := (x.onLamp k (fun c => { c with noRef := false })).showRefLost
  let c := y.lamp k
  if c.pulses.any (fun p => p.1 ≤ now && now < p.2) then y.fire 444
  else
    let width := y.get (F.LED_STROBE_VALUE k) * 250
    if width = 0 || !y.ledLit k || c.held then y
    else
      let (v, y) := y.freeVal 32
      let t := now + y.get (F.LED_SDELAY_VALUE k) * 250 + 15 + v % 11
      y.onLamp k (fun c => { c with pulses := c.pulses ++ [(t, t + width)] })

/-- STROBE_REFERENCE (R280, Table 9.5): the channels in strobe mode whose reference it is. -/
def execStrobeReference (d : DieId) (ref vc : Nat) (s : State) : Host.Outcome State Fault Refusal :=
  onDie d s fun env x =>
    (List.range 12).foldl (fun y k =>
      if y.get (F.LED_CFG_MODE k) = 2 && y.get (F.LED_CFG_REF k) = ref &&
          (ref = 0 || 4 < ref || y.get (F.LED_CFG_REFVC k) = vc) then y.strobe k env.now else y) x

/-- STROBE_PULSE_END (R280): the oldest pulse of a channel is over. -/
def execStrobePulseEnd (d : DieId) (k : Fin 12) (sns : Nat) (s : State) : Host.Outcome State Fault Refusal :=
  onDie d s fun _ x =>
    match (x.lamp k.val).pulses with
    | _ :: r =>
      let y := if x.on (F.LED_CFG_DRIVE k.val) then x.set (F.LED_SNS_SNS k.val) sns else x
      y.onLamp k.val (fun c => { c with pulses := r })
    | [] => x

/-- REF_LOST (R280): no reference for 1 s; the channel stays off. -/
def execRefLost (d : DieId) (k : Fin 12) (s : State) : Host.Outcome State Fault Refusal :=
  onDie d s fun _ x =>
    if x.get (F.LED_CFG_MODE k.val) = 2 then
      (x.onLamp k.val (fun c => { c with noRef := true, pulses := [] })).showRefLost
    else x

/-- LED_FAULT_DETECT (R281): the channel is held off. OPEN is found while the channel is on; SHORT is a gate's alone, and is found
whether the channel is on, off, or held off for an OPEN fault. -/
def execLedFaultDetect (d : DieId) (k : Fin 12) (short : Bool) (s : State) : Host.Outcome State Fault Refusal :=
  onDie d s fun env x =>
    let c := x.lamp k.val
    let lit := c.onFor != 0 || c.pulses.any (fun p => p.1 ≤ env.now && env.now < p.2)
    let found := if short then x.on (F.LED_CFG_DRIVE k.val) && !x.bitOf F.LED_FAULT_SHORT k.val else lit && !c.held
    if !found then x
    else
      let y := x.onLamp k.val (fun c => { c with held := true, onFor := 0, pulses := [] })
      if short then ((y.raise F.LED_FAULT_SHORT (2 ^ k.val)).set (F.LED_STAT_FAULT k.val) 2).fire 443
      else ((y.raise F.LED_FAULT_OPEN (2 ^ k.val)).set (F.LED_STAT_FAULT k.val) 1).fire 442

/-- A W1C write to LED_FAULT; the channels return at the next LED period boundary (R281). -/
def Die.clearLampFaults (x : Die) (val : Nat) : Die :=
  (List.range 12).foldl (fun y k =>
    let y := if val.testBit k then y.setBit F.LED_FAULT_OPEN k false else y
    if val.testBit (16 + k) then y.setBit F.LED_FAULT_SHORT k false else y) x

/-- LED_FAULT_CLEAR (R281). -/
def execLedFaultClear (d : DieId) (val : PendMask) (s : State) : Host.Outcome State Fault Refusal :=
  onDie d s fun _ x =>
    x.clearLampFaults (clearable (s.hits d val.tie) F.LED_FAULT_OPEN (bits val.bits 0 12) +
      2 ^ 16 * clearable (s.hits d val.tie) F.LED_FAULT_SHORT (bits val.bits 16 12))

/-- R282: the staged values armed for the next Trellis SYNC; ignored with ACC_ERR while a commit is pending. -/
def Die.ledArm (x : Die) (now : Nat) : Die :=
  if x.commitPending 0x3B then x.accErr 0x3B
  else (x.set (F.COMMIT_STAT_PENDING 0x3B) 1).onLed (fun l => { l with sync := true, synced := none, due := false, armedAt := some now })

/-- LED_SYNC_ARM (R282). -/
def execLedSyncArm (d : DieId) (s : State) : Host.Outcome State Fault Refusal :=
  onDie d s fun env x => x.ledArm env.now

/-- A SYNC takes effect at this unit: armed values wait for the next LED period boundary, those armed in the same PERI cycle for
the next SYNC (R282). -/
def Die.ledSynced (x : Die) (at_ now : Nat) : Die :=
  if x.led.sync && x.led.synced.isNone && x.commitPending 0x3B && x.led.armedAt != some now then
    x.onLed (fun l => { l with synced := some at_ })
  else x

/-- A frame start makes a commit armed for it due (R282). -/
def Die.ledFrame (x : Die) : Die :=
  if x.armedFor 0x3B 0 && !x.led.sync then x.onLed (fun l => { l with due := true }) else x

/-- Every channel off at once, fades and pulses discarded (R283). -/
def Die.lampsOff (x : Die) : Die :=
  (List.range 12).foldl (fun y k =>
    (y.set (F.LED_STAT_FADING k) 0).onLamp k (fun c => { c with fade := none, onFor := 0, pulses := [] })) x

/-- LEDk_STAT.ON brought up to date (R278, R280): where in its LED period a channel is on the spec does not say, so that
a channel on for part of it reads a free value (log entry 45). -/
def Die.showLamp (x : Die) (k now : Nat) : Die :=
  let c := x.lamp k
  if x.get (F.LED_CFG_MODE k) = 2 then x.setB (F.LED_STAT_ON k) (c.pulses.any (fun p => p.1 ≤ now && now < p.2))
  else if c.onFor = 0 then x.set (F.LED_STAT_ON k) 0
  else if 16384 ≤ c.onFor then x.set (F.LED_STAT_ON k) 1
  else let (b, y) := x.freeBit; y.setB (F.LED_STAT_ON k) b

end Sys2Proof.Machine
end

