-- ==== Sys2Proof/Machine/Serial.lean ====
section
/-!
DEFINITION. The clocked serial port (14_serial_port.md) but for its register protocol, which is in RegAccess.lean; and the
configurable pins (R314, R315).
-/

namespace Sys2Proof.Machine

/-- The serial port's hidden state changed. -/
def Die.onSpi (x : Die) (f : Spi → Spi) : Die := { x with spi := f x.spi }

/-- A word leaves the port; while bank B2 has no supply its outputs are high-impedance, and nothing does (R424). -/
def Die.spiSend (x : Die) (w : Nat) : Die := if x.boot.banks.getLsbD 0 then x else x.send (.spiOut w)

/-- STAT.IDLE of the serial port (R402); the reader fetches a line within one command. -/
def Die.spiIdle (x : Die) : Bool :=
  !x.on F.SPI_STATE_MBUSY && (x.on F.SPI_STATE_XIP || !x.on F.SPI_STATE_SEL) && !x.spi.sel

/-- The FIFO fills, the oldest entry's description and RX_AVAIL, event 98 (R394). -/
def Die.showSpi (x : Die) : Die :=
  let y := (x.set F.SPI_FIFO_RX_FILL x.spi.rx.length).set F.SPI_FIFO_TX_FILL x.spi.tx.length
  let y := match x.spi.rx with
    | (w, short, n) :: _ =>
      (((y.set F.SPI_RX_INFO_VALID 1).setB F.SPI_RX_INFO_SHORT short).set F.SPI_RX_INFO_BITS n).set F.SPI_RX_DATA w
    | [] => (((y.set F.SPI_RX_INFO_VALID 0).set F.SPI_RX_INFO_SHORT 0).set F.SPI_RX_INFO_BITS 0).set F.SPI_RX_DATA 0
  y.cond 98 (y.get F.SPI_FIFO_RX_WMARK ≤ x.spi.rx.length)

/-- A received word enters the receive FIFO, or is lost with RX_OVF, event 101 (R394). -/
def Die.rxPush (x : Die) (w : Nat) (short : Bool) (n : Nat) : Die :=
  if 16 ≤ x.spi.rx.length then x.fire 101
  else (x.onSpi (fun s => { s with rx := s.rx ++ [(w, short, n)] })).showSpi

/-- Bits of a word (R388). -/
def Die.wordBits (x : Die) : Nat := x.get F.SPI_CFG_WLEN_M1 + 1

/-- The host's port as a master, not held by the reader (R399). -/
def Die.spiMaster (x : Die) : Bool := x.on (F.CTRL_EN 0x11) && !x.on F.SPI_CFG_ROLE && !x.on F.SPI_STATE_XIP

/-- A transfer ends: SPI_STATE.STATUS and XFER_DONE, event 97. -/
def Die.xferEnd (x : Die) (status : Nat) : Die :=
  (((x.set F.SPI_STATE_MBUSY 0).set F.SPI_STATE_LEFT 0).set F.SPI_STATE_STATUS status).fire 97

/-- R390: a write of SPI_MXFER with GO; ignored with ACC_ERR while a transfer is in progress, while the reader owns the
port (R399), and where the port is no master in host use (log entry 46). A GO to another target ends a hold first. -/
def Die.masterGo (x : Die) (hold : Bool) (tgt nwords : Nat) : Die :=
  if !x.spiMaster || x.on F.SPI_STATE_MBUSY || !x.takes 0x11 then x.accErr 0x11
  else
    let y := if x.on F.SPI_STATE_SEL && x.get F.SPI_MXFER_TGT != tgt then x.set F.SPI_STATE_SEL 0 else x
    let y := ((y.setB F.SPI_MXFER_HOLD hold).set F.SPI_MXFER_TGT tgt).set F.SPI_MXFER_NWORDS nwords
    if nwords = 0 then y.xferEnd 1
    else (((y.set F.SPI_STATE_MBUSY 1).set F.SPI_STATE_LEFT nwords).set F.SPI_STATE_SEL 1).configure [41, 42, 44, 45, 46, 47]

/-- SPI_MASTER_GO (R389, R390). -/
def execSpiMasterGo (d : DieId) (hold : Bool) (tgt nwords : Nat) (s : State) : Host.Outcome State Fault Refusal :=
  onDie d s fun _ x => x.masterGo hold (tgt % 8) (nwords % 65536)

/-- The transfer's words shift while both FIFOs allow (R390). -/
def Die.shiftWords (x : Die) : List Nat → Die
  | [] => x
  | w :: r =>
    match x.spi.tx with
    | t :: rest =>
      if !x.on F.SPI_STATE_MBUSY || 16 ≤ x.spi.rx.length then x
      else
        let m := 2 ^ x.wordBits
        let y := ((x.spiSend (t % m)).onSpi (fun s => { s with tx := rest })).rxPush (w % m) false x.wordBits
        let left := y.get F.SPI_STATE_LEFT - 1
        let y := y.set F.SPI_STATE_LEFT left
        if left = 0 then ((if y.on F.SPI_MXFER_HOLD then y else y.set F.SPI_STATE_SEL 0).xferEnd 0)
        else y.shiftWords r
    | [] => x

/-- XFER_DONE (R390): the words shift (as zeros while bank B2 has no supply, R424); with the last one SS_N rises unless HOLD is 1. -/
def execXferDone (d : DieId) (din : List Nat) (s : State) : Host.Outcome State Fault Refusal :=
  onDie d s fun _ x => (x.shiftWords (if x.boot.banks.getLsbD 0 then din.map (fun _ => 0) else din)).showSpi

/-- A write to SPI_TX; to a full FIFO, or while the reader owns the port, it is ignored with ACC_ERR (R399). -/
def Die.txPush (x : Die) (val : Nat) : Die :=
  if 16 ≤ x.spi.tx.length || x.on F.SPI_STATE_XIP || !x.takes 0x11 then x.accErr 0x11
  else (x.onSpi (fun s => { s with tx := s.tx ++ [val % 2 ^ 32] })).showSpi

/-- SPI_TX_WRITE. -/
def execSpiTxWrite (d : DieId) (val : Nat) (s : State) : Host.Outcome State Fault Refusal :=
  onDie d s fun _ x => x.txPush val

/-- A read of SPI_RX removes the oldest entry; on an empty FIFO it returns 0 (R394). -/
def Die.rxPop (x : Die) : Die × Nat :=
  match x.spi.rx with
  | (w, _, _) :: r => ((x.onSpi (fun s => { s with rx := r })).showSpi, w)
  | [] => (x, 0)

/-- SPI_RX_READ. -/
def execSpiRxRead (d : DieId) (q : Requester) (s : State) : Host.Outcome State Fault Refusal :=
  onDie d s fun _ x => let (y, v) := x.rxPop; y.send (.readData q v)

/-! ### The slave (R391 to R394) -/

/-- The slave answers: EN, ROLE. -/
def Die.spiSlave (x : Die) : Bool := x.on (F.CTRL_EN 0x11) && x.on F.SPI_CFG_ROLE && !x.on F.SPI_STATE_XIP

/-- A busy word is sent: counted, BUSY_SENT, event 100 (R393). -/
def Die.busyWord (x : Die) : Die :=
  ((x.count F.SPI_SLV_BUSY).fire 100).spiSend (0xAAAAAAAA % 2 ^ x.wordBits)

/-- A slave word starts and takes its transmit word: from the FIFO (R393), or from the protocol engine (R395, R396). -/
def Die.wordStart (x : Die) (now : Nat) : Die :=
  if x.on F.SPI_CFG_PROTO then
    match x.spi.phase with
    | 2 =>
      if x.spi.ready ≤ now then
        (x.onSpi (fun s => { s with phase := 3 })).spiSend (0x5A5A0000 + x.get F.SPI_PROTO_STAT_STATUS)
      else x.busyWord
    | 3 | 4 =>
      match x.spi.left with
      | w :: r => (x.onSpi (fun s => { s with phase := 4, left := r })).spiSend w
      | [] => x.spiSend 0
    | _ => x.spiSend 0
  else
    match x.spi.tx with
    | t :: r => ((x.onSpi (fun s => { s with tx := r, shift := some t })).spiSend (t % 2 ^ x.wordBits)).showSpi
    | [] => (x.onSpi (fun s => { s with shift := none })).busyWord

/-- SS_N falls (R393): the first word starts; not while a reset of the port waits (R36). -/
def Die.selectFalls (x : Die) (now : Nat) : Die :=
  if !x.spiSlave || x.spi.sel || !x.takes 0x11 then x
  else (((x.onSpi (fun s => { s with sel := true })).set F.SPI_STATE_SEL 1).configure [41, 42, 44]).wordStart now

/-- SS_N_FALL (R393). -/
def execSsNFall (d : DieId) (s : State) : Host.Outcome State Fault Refusal :=
  onDie d s fun env x => x.selectFalls env.now

/-- A protocol transaction is over. -/
def Die.protoEnd (x : Die) : Die :=
  (x.onSpi (fun s => { s with phase := 0, data := [], left := [] })).set F.SPI_PROTO_STAT_BUSY 0

/-- A transaction is in progress: one whose command was refused is over at once, though its marker is still to come (R395). -/
def Die.inTransaction (x : Die) : Bool := x.spi.phase != 0 && !(2 ≤ x.spi.phase && x.get F.SPI_PROTO_STAT_STATUS = 2)

/-- A transaction is cut: PROTO_ABORT, event 103 (R397). -/
def Die.protoAbort (x : Die) : Die := ((x.raise F.SPI_PROTO_STAT_ABORT 1).fire 103).protoEnd

/-- SS_N_RISE (R391, R392, R397): a short word is delivered right-aligned, its transmit word dropped; a transaction whose
data words have not all arrived whole is aborted. -/
def execSsNRise (d : DieId) (edges val : Nat) (s : State) : Host.Outcome State Fault Refusal :=
  onDie d s fun _ x =>
    if !x.spi.sel || x.boot.banks.getLsbD 0 then x
    else
      let y := (x.onSpi (fun s => { s with sel := false, shift := none })).set F.SPI_STATE_SEL 0
      let short := 0 < edges && edges < x.wordBits
      if x.on F.SPI_CFG_PROTO then
        let ph := y.spi.phase
        let written := bits y.spi.cmd 30 2 = 2 && 2 ≤ ph
        let y := if short then (y.count F.SPI_SLV_SHORTS).fire 99 else y
        if ph = 0 then y else if !x.inTransaction || (written && !short) then y.protoEnd else y.protoAbort
      else if short then ((y.count F.SPI_SLV_SHORTS).fire 99).rxPush (val % 2 ^ edges) true edges
      else y

/-- A whole slave word in FIFO operation (R391). -/
def Die.fifoWord (x : Die) (w now : Nat) : Die :=
  (x.rxPush (w % 2 ^ x.wordBits) false x.wordBits).wordStart now

/-! ### Execute in place (R399 to R401) -/

/-- What a new read sends before its data (R400). -/
def Die.xipHeader (x : Die) (addr : Nat) (bare : Bool) : List Byte :=
  let a : List Byte := (bytesLE (if x.on F.SPI_XIP_ADDR4 then 4 else 3) addr).reverse
  let n := x.get F.SPI_XIP_DUMMY
  let dummy : List Byte := if x.get F.SPI_XIP_CONT = 2 && n != 0
    then BitVec.ofNat 8 (x.get F.SPI_XIP_MODEBYTE) :: List.replicate (n - 1) 0 else List.replicate n 0
  (if bare then [] else [BitVec.ofNat 8 (x.get F.SPI_XIP_CMD)]) ++ a ++ dummy

/-- A line is fetched, in place of the oldest of four (R401): on the stream where it goes on there, by a new read otherwise
(R400). While bank B2 has no supply its inputs read 0 (R424). -/
def Die.xipFetch (x : Die) (line : Nat) (data : List Byte) : Die :=
  let cont := x.get F.SPI_XIP_CONT
  let goesOn := x.spi.stream = some (32 * line) && cont != 0
  let bare := x.spi.bare && cont = 2
  let sent := if goesOn then [] else x.xipHeader (32 * line) bare
  let data := if x.boot.banks.getLsbD 0 then padTo 32 [] else padTo 32 data
  ((x.send (.xipLine sent data)).set F.SPI_STATE_SEL (if cont = 0 then 0 else 1)).onSpi (fun s =>
    { s with lines := (s.lines ++ [(line, data)]).drop (s.lines.length - 3), stream := if cont = 0 then none else some (32 * line + 32)
             bare := cont = 2 })

/-- The lines ahead of `line` that the reader fetches on the same select (R401). -/
def Die.xipAhead (x : Die) (line : Nat) : List (List Byte) → Nat → Die
  | _, 0 => x
  | [], _ => x
  | data :: r, n + 1 =>
    let y := if x.spi.lines.any (fun l => l.1 = line + 1) || x.spi.stream != some (32 * (line + 1)) then x
             else (x.xipFetch (line + 1) data).onSpi (fun s => { s with ahead := (line + 1) :: s.ahead })
    y.xipAhead (line + 1) r n

/-- A read through the reader (R401): a hit, or a miss that fetches its line and discards those fetched ahead; while reads
stay sequential, up to PF lines ahead. -/
def Die.xipAsk (x : Die) (addr : Nat) (flash : List (List Byte)) : Die :=
  let line := addr / 32
  let seq := x.spi.lastLine = some line || (x.spi.lastLine.map (· + 1)) = some line
  let hit := x.spi.lines.any (fun l => l.1 = line)
  let pf := x.get F.SPI_XIP_PF
  let y := if hit then (x.count F.SPI_XIP_CNT_HITS).onSpi (fun s =>
        { s with ahead := s.ahead.filter (fun l => l != line) })
    else ((x.count F.SPI_XIP_CNT_MISSES).onSpi (fun s =>
      { s with lines := s.lines.filter (fun l => !s.ahead.contains l.1), ahead := [] })).xipFetch line (flash.headD [])
  let y := y.onSpi (fun s => { s with lastLine := some line })
  if seq then y.xipAhead line flash.tail pf else y

/-- XIP_READ (R399 to R401): the reader begins only when the port is idle and no hold is in force, and takes no new read while a reset
of the port waits (R36). -/
def execXipRead (d : DieId) (addr : Nat) (flash : List (List Byte)) (s : State) : Host.Outcome State Fault Refusal :=
  onDie d s fun _ x =>
    if !x.on F.SPI_STATE_XIP && !x.spiIdle || !x.takes 0x11 then x
    else ((x.set F.SPI_STATE_XIP 1).configure [41, 42, 44, 45, 46, 47]).xipAsk addr flash

/-- The reader's select ends (R400): SS_N rises; once the start is complete the port goes back to its host (R399). -/
def Die.xipRelease (x : Die) : Die :=
  let y := (x.onSpi (fun s => { s with stream := none })).set F.SPI_STATE_SEL 0
  if y.on F.RST_START_DONE then (y.set F.SPI_STATE_XIP 0).onSpi (fun s => { s with bare := false }) else y

/-- XIP_IDLE_TIMEOUT (R400). -/
def execXipIdleTimeout (d : DieId) (s : State) : Host.Outcome State Fault Refusal :=
  onDie d s fun _ x => if x.on F.SPI_STATE_XIP then x.xipRelease else x

end Sys2Proof.Machine
end

