-- ==== Sys2Proof/Machine/Commit.lean ====
section
/-!
DEFINITION. When a page's block is idle, which boundaries its commits accept, what an armed commit does when it applies,
and the arming with its links (R37, R38, R70, R90, R100 to R103, R145, R146, R218, R282).
-/

namespace Sys2Proof.Machine

/-- STAT.IDLE of a page, by the chapter of its block. -/
def Die.idle (x : Die) (p : Nat) : Bool :=
  if p = 0x10 then x.nvs.doing.isNone
  else if p = 0x11 then x.spiIdle
  else if p = 0x14 then !(List.range 42).any (fun s => x.streamReady s && !(x.itemsOf s).isEmpty)
  else if p = 0x20 then !x.rakeRuns
  else if p = 0x21 then x.get F.AFE_OUT_STAT_RAMPING = 0 && !x.afe.offSeq
  else if p = 0x22 then !x.rakeRuns && x.acb.rows.isEmpty && !x.trm.loading
  else if (0x23 ≤ p && p ≤ 0x27) || 0x80 ≤ p then !x.rakeRuns && x.acb.rows.isEmpty
  else if p = 0x28 then x.get F.CAL_STATE_PHASE = 0 && x.on F.CAL_STATE_BG_IDLE
  else if p = 0x29 then x.clo.move.isNone
  else if 0x30 ≤ p && p ≤ 0x33 then
    !x.rakeRuns && x.sieve.waiting.isEmpty && x.sieve.inside.isNone && x.sieve.held.isEmpty
  else if p = 0x38 then x.on (F.STAT_IDLE 0x38)
  else if 0x40 ≤ p && p ≤ 0x43 then x.on (F.STAT_IDLE p)
  else if 0x44 ≤ p && p ≤ 0x47 then x.ipp.running.isNone
  else if p = 0x50 then x.ipp.done.all (·.late)
  else if p = 0x51 then x.evd.queue.isEmpty || !x.takes 0x51
  else true

/-- STAT.IDLE and, where the spec names it, STAT.BUSY brought up to date. -/
def Die.showStat (x : Die) (p : Nat) : Die :=
  let y := x.setB (F.STAT_IDLE p) (x.idle p)
  if p = 0x20 then y.setB (F.STAT_BUSY p) (x.rakeRuns)
  else if x.idle p then y.set (F.STAT_BUSY p) 0 else y

/-- The boundaries that a page's COMMIT accepts (R101, R145, R186, R218, R238, R259, R282, R305, R332, R351, R384, R402,
R417); 0 frame, 1 row, 2 idle, 3 immediate. A page whose chapter names none accepts all. -/
def boundaryOk (p b : Nat) : Bool :=
  if (0x22 ≤ p && p ≤ 0x27) || 0x80 ≤ p || (0x30 ≤ p && p ≤ 0x33) then b = 0 || b = 2
  else if p = 0x29 then b = 2
  else if p = 0x3B then b = 0 || b = 3
  else if (1 ≤ p && p ≤ 4) then b = 3
  else if p = 0x05 || (0x09 ≤ p && p ≤ 0x15) || p = 0x38 || (0x40 ≤ p && p ≤ 0x47) || p = 0x50 || p = 0x51 then b = 2 || b = 3
  else true

/-- The values whose change R100 marks with SETTLING: the gain state, the channel gain and pedestal of the state in force,
the averaging window, the converter mode, the three biases. -/
def Die.settleKey (x : Die) : List Nat :=
  let g := x.get F.SEQ_FCFG_GAIN
  [g, x.get (F.ACB_GAIN_PED g), x.get (F.ACB_GAIN_AGAIN g), x.get F.ACB_WIN_SHIFT, x.get F.ACB_WIN_CNT, x.get F.ACB_WIN_SKIP,
   x.get F.ACB_MODE_LPM, x.get F.ACB_MODE_LPCORE, x.get F.AFE_VDET_CODE, x.get F.AFE_VBLIND_CODE, x.get F.AFE_VREFC_CODE]

/-- An AFE commit: at a frame boundary the outputs whose code changes step, and keep their GOOD for 100 µs (R48, R438). -/
def Die.afeCommit (x : Die) (frame now : Nat) : Die :=
  let step := x.get (F.COMMIT_BOUNDARY 0x21) = 0
  let y := x.commitNow 0x21 frame
  let moved (o : AfeOut) : Bool := match o with
    | .vdet => x.get F.AFE_VDET_CODE != y.get F.AFE_VDET_CODE
    | .vblind => x.get F.AFE_VBLIND_CODE != y.get F.AFE_VBLIND_CODE
    | .vrefc => x.get F.AFE_VREFC_CODE != y.get F.AFE_VREFC_CODE
    | _ => false
  afeOuts.foldl (fun y o => if step && moved o && y.outEn o then y.onAfe (fun a => { a with stepAt := fillSet none a.stepAt o.idx (some now) }) else y) y

/-- The number of the frame that a FRAME_START begins. -/
def Die.nextFrame (x : Die) : Nat := (x.frameNum + 1) % 2 ^ 64

/-- ACB_STATE brought up to date: LPM in force, the gain of the frame, cores that are powered up for a clearing of LPM. -/
def Die.showAcb (x : Die) : Die :=
  ((x.set F.ACB_STATE_LPM (x.get F.ACB_MODE_LPM)).set F.ACB_STATE_GAIN (x.get F.SEQ_FCFG_GAIN)).setB F.ACB_STATE_WARMUP
    (x.acb.warmFrom.isSome || x.thm.due.any (fun e => e.leaving && e.fld.key = F.ACB_MODE_LPM.key))

/-- A page's armed commit applies at an instant, with what it brings about in its block; those of the IPP and STA pages
arm no field of a context, and those pages have no other staged field (R218). -/
def Die.commitPage (x : Die) (p frame now : Nat) : Die :=
  let key := x.settleKey
  let y :=
    if p = 0x21 then x.afeCommit frame now
    else if p = 0x22 then
      let y := x.commitNow p frame
      if (x.stage.look F.TRM_STAGE_BASE_BASE).isSome then y.beginSwitch else y
    else if p = 0x23 then
      let y := ((x.commitNow p frame).onAcb (fun a => { a with warmFrom := none })).showAcb
      if x.get F.ACB_MODE_LPM != y.get F.ACB_MODE_LPM || x.get F.ACB_MODE_LPCORE != y.get F.ACB_MODE_LPCORE then y.fire 179 else y
    else if p = 0x32 then x.radCommit frame
    else if p = 0x33 then x.cmmCommit frame
    else if p = 0x44 || p = 0x45 then (x.set (F.COMMIT_STAT_FRAME p) frame).set (F.COMMIT_STAT_PENDING p) 0
    else if 0x80 ≤ p then (x.commitNow p frame).showTrimWear (p - 0x80)
    else x.commitNow p frame
  if y.settleKey != key then y.onAcb (fun a => { a with settleDue := true }) else y

/-- The ACB common page's commit waits until a core it powers up has had 200 µs (R90). -/
def Die.warmedUp (x : Die) (now : Nat) : Bool :=
  match x.acb.warmFrom with
  | some t => t + 50000 ≤ now
  | none => true

/-- The pages whose commits can follow the Rake's markers: all that accept the frame boundary, but for the LED page's, which
has a boundary of its own (R282). -/
def rakePages : List Nat := (List.range 0xA0).filter (fun p => listedPage p && boundaryOk p 0 && p != 0x3B)

/-- The commits armed for boundary `b` of the Rake in an earlier PERI cycle apply (R37). -/
def Die.commitBoundary (x : Die) (b frame now : Nat) : Die :=
  rakePages.foldl (fun y p =>
    if y.armedFor p b && y.armedBefore p now && (p != 0x23 || y.warmedUp now) then y.commitPage p frame now else y) x

/-- The ACB common page armed: a clearing of LPM powers its core up from now on (R90). -/
def Die.armAcb (x : Die) (b now : Nat) : Die :=
  if x.commitPending 0x23 then x
  else
    let y := x.armPage 0x23 b now
    if y.on F.ACB_MODE_LPM && y.written F.ACB_MODE_LPM = 0 then (y.onAcb (fun a => { a with warmFrom := some now })).showAcb else y

/-- A page's ARM with its links: SEQ arms the AFE (R70) and the ACB common page (R102) as well; the CMM arms the
SVE, RAD and TRM pages (R146); an LED commit for an immediate boundary is due at once (R282). -/
def Die.armLinked (x : Die) (p b now : Nat) : Die :=
  if p = 0x20 then
    let y := x.armPage 0x20 b now
    let y := if y.on F.SEQ_CTRL_LINKAFE then y.armPage 0x21 b now else y
    if y.on F.ACB_CTRL_LINKSEQ && boundaryOk 0x23 b then y.armAcb b now else y
  else if p = 0x23 then x.armAcb b now
  else if p = 0x33 && x.on F.CMM_CTRL_LINKCAL then (((x.armPage 0x33 b now).armPage 0x30 b now).armPage 0x32 b now).armPage 0x22 b now
  else if p = 0x3B then
    (x.armPage p b now).onLed (fun l => { l with due := decide (b = 3), sync := false, synced := none })
  else x.armPage p b now

end Sys2Proof.Machine
end

