-- ==== Sys2Proof/Machine/Rake.lean ====
section
/-!
DEFINITION. The Rake's stop, the abandoning of a frame, and the AFE's current measurements (02_sensor_port_and_rake.md,
R50 to R52, R59, R60, R74, R438).
-/

namespace Sys2Proof.Machine

/-- The Rake's hidden state changed. -/
def Die.onRake (x : Die) (f : Rake → Rake) : Die := { x with rake := f x.rake }

/-- A thermal frame under way is abandoned (R51): its number is used up, its rows and open windows are discarded, a
SETTLING it carried goes to the next frame delivered (R100), and an event that was accumulating it ends (R167). -/
def Die.abandonFrame (x : Die) (now : Nat) : Die :=
  if !x.rake.frameOpen then x
  else
    let n := x.frame.num
    let y := ((x.onRake (fun r => { r with frameOpen := false, row := none, blankRow := false })).loseFrame n true).discardRows n
    let y := y.onAcb (fun a => { a with rows := a.rows.filter (fun r => r.frame != n), ovr := a.ovr.filter (fun e => e.1 != n)
                                        settleDue := a.settleDue || x.frame.flags.settling })
    match y.cal.event with
    | some e => if e.settleFrame ≤ n && n ≤ e.last then y.calAbandon 5 now else y
    | none => y

/-- The Rake stops, whatever the cause, without the report of it (R74): EN is cleared, the outputs go to their stop states with ROWADR held (R59),
a frame in progress is abandoned, a pending tick is discarded (R65), an event in progress is abandoned (R167). A fault is
recorded with the word's address (R59). -/
def Die.rakeQuit (x : Die) (fault : Option Nat) (now : Nat) : Die :=
  if !x.rakeRuns then x
  else
    let y := x.abandonFrame now
    let y := y.onRake (fun r => { r with held := false, scanning := false, tail := none, tick := false, early := false, begun := 0, again := false
                                         row := none, blankRow := false, rowen := false, biasen := false
                                         blindsel := false })
    let y := (y.set F.SEQ_CTRL_EN 0).set F.SEQ_PC_STATE (if fault.isSome then 4 else 0)
    let y := match fault with
      | some c => ((y.set F.SEQ_FAULT_CAUSE c).set F.SEQ_FAULT_ADDR (y.get F.SEQ_PC_PC)).cond 139 true
      | none => y
    y.calAbandon 5 now

/-- The Rake stops and reports STOPPED (R74). -/
def Die.rakeHalt (x : Die) (fault : Option Nat) (now : Nat) : Die :=
  if !x.rakeRuns then x else (x.rakeQuit fault now).fire 140

/-- The current of an output in a sample. -/
def afeCurrent (m : AfeSample) : AfeOut → Nat
  | .vsd => m.vsd
  | .vsa => m.vsa
  | .vrefc => m.vrefc
  | .vblind => m.vblind
  | .vdet => m.vdet

/-- The limit of an output's current, in units of 50 µA; VREFC leaves the comparison to its fixed clamp (R50). -/
def Die.afeLimit (x : Die) : AfeOut → Option Nat
  | .vsd => some (20 * x.get F.AFE_ILIM_VSD)
  | .vsa => some (20 * x.get F.AFE_ILIM_VSA)
  | .vrefc => none
  | .vblind => some (20 * x.get F.AFE_ILIM_VBLIND)
  | .vdet => some (20 * x.get F.AFE_ILIM_VDET)

/-- One output of a measurement, while it drives: consecutive measurements over its limit (R50); GOOD while enabled, within
±2 % and not ramping, but kept for 100 µs after a frame-boundary step (R438). -/
def Die.sampleOut (x : Die) (m : AfeSample) (now : Nat) (o : AfeOut) : Die :=
  if !x.afe.driven.getLsbD o.idx then x
  else
    let above := match x.afeLimit o with
      | some l => decide (l < afeCurrent m o)
      | none => false
    let y := x.onAfe (fun a => { a with overs := fillSet 0 a.overs o.idx (if above then a.overs.getD o.idx 0 + 1 else 0) })
    if !y.outEn o || y.bitOf F.AFE_OUT_STAT_RAMPING o.idx || y.outStepping o now then y
    else
      let ok := m.inRange.getLsbD o.idx
      let was := y.outGood o
      (y.setBit F.AFE_OUT_STAT_GOOD o.idx ok).onAfe (fun a =>
        { a with outside := setAt a.outside o.idx (!ok && (was || a.outside.getLsbD o.idx))
                 stepAt := fillSet none a.stepAt o.idx none })

/-- The word in force has begun in this SEQC cycle with the FRAME_START marker, whose commits have not applied yet. -/
def Die.boundaryNow (x : Die) (mark : Nat) : Bool := x.rakeRuns && x.rake.begun = 0 && mark = 1

/-- CURRENT_SAMPLE (R50, R72, R438): the measurement is shown; an output over its limit for FILT measurements trips. TRIPPED is
set for that output alone, although all five go off: the model's own reading (log entry 95). A frame-boundary commit of the
same SEQC cycle acts after the trip, and its values come into force. -/
def execCurrentSample (d : DieId) (m : AfeSample) (s : State) : Host.Outcome State Fault Refusal :=
  onDie d s fun env x =>
    if x.afe.driven = 0 then x
    else
      let y := (((x.set F.AFE_IMON0_VDET (min 4095 m.vdet)).set F.AFE_IMON0_VBLIND (min 4095 m.vblind)).set F.AFE_IMON1_VSA
        (min 4095 m.vsa)).set F.AFE_IMON1_VSD (min 4095 m.vsd)
      let y := (afeOuts.foldl (fun y o => y.sampleOut m env.now o) y).afeVrange
      let hit := afeOuts.filter (fun o => y.afe.driven.getLsbD o.idx && y.get F.AFE_TRIP_FILT ≤ y.afe.overs.getD o.idx 0)
      if hit.isEmpty then y
      else
        let y := hit.foldl (fun y o => (y.raise F.AFE_TRIP_CAUSE (2 ^ o.idx)).setBit F.AFE_OUT_STAT_TRIPPED o.idx true) y
        let z := ((y.rakeHalt (some 5) env.now).afeOff).cond 145 true
        if x.boundaryNow (bits ((x.rake.store.look (x.get F.SEQ_PC_PC)).getD 0) 22 4) then
          z.commitBoundary 0 x.nextFrame env.now
        else z

end Sys2Proof.Machine
end

