-- ==== Sys2Proof/Machine/Reset.lean ====
section
/-!
DEFINITION. Reset (11_reset_startup_and_power_states.md, R307 to R317, R329, R330): sources, episodes, what a reset of each
reach leaves, and the release.  The starts are in Start.lean.
-/

namespace Sys2Proof.Machine

/-- The start-up state changed. -/
def Die.onBoot (x : Die) (f : Boot → Boot) : Die := { x with boot := f x.boot }

/-! ### What a reset leaves (R330, Table 11.9) -/

/-- The register values that a die reset of a reach keeps. -/
def RegFile.dieLoss (r : RegFile) (reach : Nat) : RegFile :=
  { p := [], a := if reach < 5 then r.a else [], w := if reach < 4 then r.w else [], c := [] }

/-- The fields without a retention class, which show hardware, and LEAD, which is Die A's after a package reset and stays with Die B until then (R378). -/
def Die.hardwired (x : Die) (env : Env) : Die :=
  (((x.setB F.SYS_IDENT_DIE (env.die = .b)).setB F.SYS_IDENT_PKG env.dual).setB F.SYS_IDENT_LEAD (env.die = .a)).setB
    F.EVT_PKG_SUM_DIE_B env.dual

/-- The Seed Tray at a die reset (R340): the write in progress goes on, told to nobody; what was only requested is
dropped. -/
def Nvs.afterReset (s : Nvs) : Nvs :=
  { s with queue := [], op := none, asks := [], doing := s.doing.map (fun r => { r with tag := .none }), refusing := false }

/-- The chain state that a die warm reset keeps (R228). -/
def Evd.afterReset (e : Evd) (reach : Nat) : Evd :=
  if reach < 4 then
    { live := e.live, key := e.key, nextKey := e.nextKey, count := e.count, unsealed := e.unsealed, session := e.session
      streams := e.streams, lastNum := e.lastNum, first := e.first, openHash := e.openHash, prevRec := e.prevRec
      slot := e.slot, pfail := e.pfail }
  else { pfail := e.pfail }

/-- The endpoint's link and configuration outlive a die reset, not a package reset (Table 11.1; log entry 51). -/
def Dma.afterReset (m : Dma) (reach : Nat) : Dma :=
  if reach < 5 then { bme := m.bme, d3 := m.d3, perst := m.perst, width := m.width, speed := m.speed, msixOn := m.msixOn,
                           funcMask := m.funcMask, table := m.table } else { perst := m.perst }

/-- A die after the assertion of a reset of die reach or wider: its pins in their off states (R314, R316), its cores
stopped, every store and every block in its starting state but for what Table 11.9 keeps. The DRAM of a die warm reset is
judged at its start (R322). -/
def Die.afterReset (x : Die) (env : Env) (reach : Nat) : Die :=
  let y : Die :=
    { live := x.live.dieLoss reach, stage := x.stage.dieLoss reach, free := x.free, out := x.out, fuses := x.fuses
      dramCut := x.dramCut || decide (4 ≤ reach)
      msixMask := if reach < 5 then x.msixMask else 0xFF, msixPend := if reach < 5 then x.msixPend else 0
      rake := { store := if reach < 4 then x.rake.store else [] }
      clo := { hall0 := x.clo.hall0, hall1 := x.clo.hall1 }
      cal := { acceptedAt := if reach < 4 then x.cal.acceptedAt else env.now, post := if reach < 4 then x.cal.post else 0 }
      dma := x.dma.afterReset reach, clock := { from_ := env.now }, evd := x.evd.afterReset reach, nvs := x.nvs.afterReset
      trl := if reach < 5 then { x.trl with boot := 0, offsets := [], t1 := none, store := none } else {}
      lpc := if reach < 4 then { loops := x.lpc.loops.map (fun l => { integ := l.integ }) } else {}
      images := x.images && decide (reach < 5)
      planeHash := if reach < 4 then x.planeHash else [[], [], []]
      boot := { episode := x.boot.episode, retry := x.boot.retry, low := x.boot.low
                banks := x.boot.banks, pkgBad := x.boot.pkgBad && decide (reach < 5)
                unfused := x.boot.unfused || decide (5 ≤ reach), filt := x.boot.filt } }
  let y := ((y.hardwired env).set F.PWR_SUPPLY_WARN (x.get F.PWR_SUPPLY_WARN)).setB F.NVS_STATE_EP_ONLY x.evd.pfail
  let y := if reach < 5 then y.set F.SYS_IDENT_LEAD (x.get F.SYS_IDENT_LEAD) else y
  y.set F.CLK_STAT_REF_OK (x.get F.CLK_STAT_REF_OK)

/-! ### A Seed Tray write cut by a power loss or the trip (R338, R344) -/

/-- A copy whose write was cut during group `g` (8: the page tag), which holds its old bytes, its new bytes, or reads
uncorrectable. -/
def PhysPage.torn (p : PhysPage) (new : List Byte) (g how : Nat) : PhysPage :=
  let old := p.data
  let data := (List.range 64).map (fun i =>
    if i / 8 < g || (i / 8 = g && how = 1) then new.getD i 0 else old.getD i 0)
  { p with data := data, bad := if how = 2 && g < 8 then p.bad ||| BitVec.twoPow 8 g else p.bad }

/-- The write in progress is cut, at a point that the spec leaves open: in copy A or copy B of a page, at any group; a
tally's slot is left without a valid commit. -/
def Die.cutWrite (x : Die) : Die :=
  match x.nvs.doing with
  | none => x
  | some r =>
    let y := x.onNvs (fun s => { s with doing := none })
    match r.what, r.what.logical? with
    | _, some n =>
      let (second, y) := y.freeBit
      let (g, y) := y.freeVal 4
      let (how, y) := y.freeVal 2
      let s := x.nvs
      let new := s.bytesOf n r.what
      let put (y : Die) (c : Nat) (p : PhysPage) : Die := if s.dead.contains (s.copyAt n c) then y else y.putPhys (s.copyAt n c) p
      let tear (y : Die) (c : Nat) : Die := put y c ((s.copy n c).torn new (g % 9) (how % 3))
      if second then tear (put y 0 ((s.copy n 0).rewrite new (s.nextSeq n) (s.baseOf n r.what))) 1 else tear y 0
    | .tally t _, _ | .add t _, _ =>
      match y.nvs.nextSlot t with
      | some i => y.onNvs (fun s => s.onSlot t i (fun b => { b with valid := false }))
      | none => y
    | _, none => y

/-! ### Episodes (R308, R312) -/

/-- The fuse load is running (R311). -/
def Episode.loadRuns (e : Episode) : Bool := e.loading && e.begun

/-- A fuse load that an episode needs can begin: for power-on reach once the power-on and PORST_N sources are released (R311). -/
def loadMay (reach : Nat) (active : List Nat) : Bool := reach < 6 || !active.any (fun o => o ≤ 2)

/-- Whether the recorded source gives way to another (R312). -/
def ResetSource.better (a b : ResetSource) : Bool := b.reach < a.reach || (a.reach = b.reach && a.order < b.order)

/-- A source asserted: it begins an episode or joins it (R308). During a fuse load it restarts the load where `restart` says so, and
lets it run to its end otherwise (R310). -/
def Episode.join (e? : Option Episode) (src : ResetSource) (restart : Bool) : Episode :=
  let mine := if src.held then [src.order] else []
  match e? with
  | none =>
    let loading := decide (5 ≤ src.reach)
    { reach := src.reach, active := mine, best := src, loading := loading, begun := loading && loadMay src.reach mine, restarts := 0 }
  | some e =>
    let both := src.order = 1 && e.best.order = 1
    let active := (if src.order = 1 then e.active.filter (fun o => o != 3) else e.active).filter (fun o => !mine.contains o) ++ mine
    let reach := max e.reach src.reach
    let loading := e.loading || decide (5 ≤ src.reach)
    { reach := reach
      active := active
      best := if both then { e.best with detail := e.best.detail ||| src.detail } else if src.better e.best then src else e.best
      loading := loading
      begun := if e.loadRuns && !restart then true else loading && loadMay reach active
      restarts := if e.loadRuns && restart then min 255 (e.restarts + 1) else e.restarts }

/-- A source released; a fuse load that has waited for it begins (R311). -/
def Episode.leave (e : Episode) (order : Nat) : Episode :=
  let active := e.active.filter (fun o => o != order)
  { e with active := active, begun := e.begun || (e.loading && loadMay e.reach active) }

/-- A source of die reach or wider asserted on a die (R307 to R309). During an orderly stop it is absorbed (R301, R302),
but for the trip and the loss of a supply. -/
def Die.assertSource (x : Die) (env : Env) (src : ResetSource) : Die :=
  if x.thm.stopping && src.order != 1 && src.order != 3 then
    x.onBoot (fun b => { b with absorbed := b.absorbed ++ [src] })
  else
    let y := if src.order = 1 then x.cutWrite else x
    let e := Episode.join y.boot.episode src y.fuses.rrestart
    let y := y.onBoot (fun b => { b with episode := some e, dormant := false })
    y.afterReset env e.reach

/-- A lasting source released. -/
def Die.releaseSource (x : Die) (order : Nat) : Die :=
  x.onBoot (fun b => { b with
    episode := b.episode.map (fun e => e.leave order)
    absorbed := b.absorbed.map (fun a => if a.order = order then { a with held := false } else a)
    filt := b.filt.filter (fun p => p.1 != order) })

/-- The thermal restart source (R301, R303), with what a stop absorbed. -/
def Die.thermalRestart (x : Die) (env : Env) : Die :=
  let waiting := x.boot.absorbed
  let y := x.assertSource env { order := 3, reach := 5, cause := 3, detail := 0, held := true }
  waiting.foldl (fun y a => y.assertSource env a) y

/-! ### Sources (Table 11.1) -/

/-- Some die of the package is in an episode: the lead die drives RESET_N low (R309). -/
def State.driving (s : State) : Bool := s.dieA.boot.episode.isSome || (s.dual && s.dieB.boot.episode.isSome)

/-- SUPPLY_FALL (R307, R423). -/
def execSupplyFall (supply : Fin 3) (s : State) : Host.Outcome State Fault Refusal :=
  onPackageAlways s fun env x =>
    let y := x.onBoot (fun b => { b with low := b.low ||| BitVec.twoPow 3 supply.val })
    y.assertSource env { order := 1, reach := 6, cause := 1, detail := 2 ^ supply.val, held := true }

/-- SUPPLY_RECOVER (R307). -/
def execSupplyRecover (s : State) : Host.Outcome State Fault Refusal :=
  onPackageAlways s fun _ x => (x.onBoot (fun b => { b with low := 0 })).releaseSource 1

/-- The PORST_N and RESET_N pin sources. -/
def pinSource (order : Nat) : ResetSource :=
  { order := order, reach := if order = 2 then 6 else 5, cause := order, detail := 0, held := true }

/-- The filter's length: 500 ns (R310). -/
def pinFilter : Nat := 125

/-- The filter is on (R310): as FUS_OPT shows it, and as the fuses have it until they are loaded. -/
def Die.filters (x : Die) : Bool := if x.boot.unfused then x.fuses.rfilt else x.on F.FUS_OPT_RFILT

/-- A pin that has been low since `from_` (R310): with the filter it is taken as asserted 500 ns after its fall. -/
def Die.pinLow (x : Die) (env : Env) (order from_ : Nat) : Die :=
  if x.filters && env.now < from_ + pinFilter then
    x.onBoot (fun b => { b with filt := b.filt.filter (fun p => p.1 != order) ++ [(order, from_ + pinFilter)] })
  else x.assertSource env (pinSource order)

/-- The falls that the filter has held for 500 ns are taken as assertions; one of RESET_N is not, while the input is masked
(R309, R310). -/
def Die.takePins (x : Die) (env : Env) (masked : Bool) : Die :=
  let due := x.boot.filt.filter (fun p => p.2 ≤ env.now)
  due.foldl (fun y p => if p.1 = 4 && masked then y else y.assertSource env (pinSource p.1))
    (x.onBoot (fun b => { b with filt := b.filt.filter (fun p => env.now < p.2) }))

/-- The same on every die of the package. -/
def State.takePins (s : State) : State :=
  if s.dieA.boot.filt.isEmpty && s.dieB.boot.filt.isEmpty then s
  else
    let masked := s.driving || s.unmasking
    let t := s.alsoOn .a (fun env x => x.takePins env masked)
    if s.dual then t.alsoOn .b (fun env x => x.takePins env masked) else t

/-- PORST_N_FALL (R310). -/
def execPorstNFall (s : State) : Host.Outcome State Fault Refusal := onPackageAlways s fun env x => x.pinLow env 2 env.now

/-- PORST_N_RISE (R310). -/
def execPorstNRise (s : State) : Host.Outcome State Fault Refusal := onPackageAlways s fun _ x => x.releaseSource 2

/-- The RESET_N pin source on every die. -/
def State.resetPin (s : State) : Host.Outcome State Fault Refusal := onPackageAlways s fun env x => x.pinLow env 4 s.resetNAt

/-- RESET_N_FALL (R309): ignored while the input is masked. -/
def execResetNFall (s : State) : Host.Outcome State Fault Refusal :=
  let t := { s with resetN := true, resetNAt := s.now }
  if s.driving || s.unmasking then .next t else t.resetPin

/-- RESET_N_RISE (R309). -/
def execResetNRise (s : State) : Host.Outcome State Fault Refusal :=
  onPackageAlways { s with resetN := false } fun _ x => x.releaseSource 4

/-- RESET_N_UNMASK (R309): a low level still present begins a new episode of package reach. -/
def execResetNUnmask (s : State) : Host.Outcome State Fault Refusal :=
  if !s.unmasking || s.driving then .next s
  else
    let t := { s with unmasking := false }
    if s.resetN then t.resetPin else .next t

/-- CLOCK_FAULT (R320). -/
def execClockFault (d : DieId) (absent : Bool) (s : State) : Host.Outcome State Fault Refusal :=
  onDieAlways d s fun env x =>
    let y := if absent then x.set F.CLK_STAT_REF_OK 0 else x
    (y.count F.CLK_CNT_LOSSES).assertSource env { order := 5, reach := 4, cause := 5, detail := 8, held := true }

/-- CLOCK_RECOVERED (R307). -/
def execClockRecovered (d : DieId) (s : State) : Host.Outcome State Fault Refusal :=
  onDieAlways d s fun _ x => (x.set F.CLK_STAT_REF_OK 1).releaseSource 5

/-- A command source of a reach and detail. -/
def commandSource (reach detail : Nat) : ResetSource := { order := 7, reach := reach, cause := 6, detail := detail, held := false }

/-- RST_CMD's key (R313). -/
def rstKey : Nat := 0xC1D5

/-- A reset command of die reach on a die. -/
def Die.rstCommand (x : Die) (env : Env) (key reach : Nat) : Die :=
  if key = rstKey then x.assertSource env (commandSource reach 1) else x.accErr 0x01

/-- RST_DIE_WARM (R313). -/
def execRstDieWarm (d : DieId) (key : Nat) (s : State) : Host.Outcome State Fault Refusal :=
  onDie d s fun env x => x.rstCommand env key 3

/-- RST_DIE_COLD (R313). -/
def execRstDieCold (d : DieId) (key : Nat) (s : State) : Host.Outcome State Fault Refusal :=
  onDie d s fun env x => x.rstCommand env key 4

/-- RST_PACKAGE (R313): both dies, whichever was written. -/
def execRstPackage (d : DieId) (key : Nat) (s : State) : Host.Outcome State Fault Refusal :=
  if key = rstKey && s.has d && !(s.die d).inReset then
    onPackageAlways s fun env x => x.assertSource env (commandSource 5 1)
  else onDie d s fun _ x => x.accErr 0x01

/-- PCIE_FLR (R356): die warm; the link, the configuration space and the BAR assignments are kept (Table 11.1). -/
def execPcieFlr (d : DieId) (s : State) : Host.Outcome State Fault Refusal :=
  onDie d s fun env x => x.assertSource env (commandSource 3 3)

/-- MP_RESET_ORDER (R323): the retry of a failed start. -/
def execMpResetOrder (d : DieId) (s : State) : Host.Outcome State Fault Refusal :=
  onDie d s fun env x => if x.boot.retry then x.assertSource env (commandSource 4 5) else x

/-- A resume from Hold begins: the clocks restart (Table 11.8). -/
def Die.beginResume (x : Die) (target now : Nat) : Die :=
  (((x.set F.PWR_REQ_STATE target).set F.PWR_STATE_BUSY 1).set F.CLK_GATE_RUN 0x3F).onBoot (fun b =>
    { b with going := some target, wokenAt := some now })

/-- PFAIL_RESTART (R235): after a close, a die warm reset; without one, the Seed Tray's writers go on, and a wake in
Hold that has waited begins (R328). -/
def execPfailRestart (d : DieId) (s : State) : Host.Outcome State Fault Refusal :=
  onDieAlways d s fun env x =>
    if !x.evd.pfail || x.evd.closing.isSome then x
    else
      let y := (x.onEvd (fun e => { e with pfail := false })).set F.NVS_STATE_EP_ONLY 0
      if x.inReset then y
      else if y.boot.power = 2 then
        (if y.boot.wokenAt.isSome && !y.boot.going.isSome then y.beginResume y.boot.wakeTo env.now else y)
      else if x.on F.EVD_CTRL_CLOSED then y.assertSource env (commandSource 3 6) else y

/-- DORMANT_WAKE (R329): an enabled source; of FTRIG the edge that PWR_WAKE names. -/
def execDormantWake (d : DieId) (source : Fin 4) (s : State) : Host.Outcome State Fault Refusal :=
  onDieAlways d s fun env x =>
    let on_ := x.boot.wake.testBit (match source with | 0 => 0 | 1 => 2 | 2 => 1 | 3 => 3)
    if x.boot.dormant && on_ then
      let y := if source.val = 2 then x.onEvd (fun e => { e with pfail := false }) else x
      y.assertSource env (commandSource 4 4)
    else x

/-! ### The fuse load and the release (R309 to R312, R314, R317 to R319) -/

/-- The array without what an uncorrectable word held of it, which acts as zero (R321). -/
def Fuses.without (f : Fuses) : FuseItem → Fuses
  | .serialLo => { f with serial := f.serial / 2 ^ 32 * 2 ^ 32 }
  | .serialHi => { f with serial := f.serial % 2 ^ 32 }
  | .exportPart => { f with exportPart := false }
  | .locked => { f with locked := false }
  | .rrestart => { f with rrestart := false }
  | .rfilt => { f with rfilt := false }
  | .repairs => { f with repairs := 0 }
  | .pwmSafe => { f with pwmSafe := 0 }
  | .pin i => { f with pins := fillSet 0 f.pins i.val 0 }
  | .addr4 => { f with addr4 := false }
  | .tgt => { f with tgt := 0 }
  | .cmd => { f with cmd := 0 }
  | .dummy => { f with dummy := 0 }
  | .div => { f with div := 0 }
  | .key => { f with key := false }
  | .vendor => { f with vendor := 0 }
  | .revision => { f with revision := 0 }
  | .subVendor => { f with subVendor := 0 }
  | .subsystem => { f with subsystem := 0 }

/-- The class A fields that show the fuses (R311), with what was `lost` of them reading zero (R321). -/
def Die.loadShadows (x : Die) (env : Env) (lost : List FuseItem) : Die :=
  let f : Fuses := lost.foldl Fuses.without x.fuses
  let y := x.set64 F.SYS_SERIAL_LO_SERIAL F.SYS_SERIAL_HI_SERIAL f.serial
  let y := (((y.setB F.SEQ_LIMITS_EXPORT f.exportPart).setB F.FUS_OPT_EXPORT f.exportPart).setB F.FUS_OPT_LOCKED f.locked).setB
    F.FUS_OPT_RRESTART f.rrestart
  let y := ((y.setB F.FUS_OPT_RFILT f.rfilt).set F.FUS_STAT_REPAIRS f.repairs).set F.PWM_SAFE_SAFE f.pwmSafe
  let y := (List.range 51).foldl (fun y i => y.set (F.FUS_PIN_STATE (i / 8) (i % 8)) (f.pins.getD i 0)) y
  let y := ((((y.setB F.SPI_XIP_ADDR4 f.addr4).set F.SPI_XIP_TGT f.tgt).set F.SPI_XIP_CMD f.cmd).set F.SPI_XIP_DUMMY
    f.dummy).set F.SPI_XIP_TIM_DIV_M1 f.div
  if f.key then
    let (px, py) := publicWords env.die
    (List.range 8).foldl (fun y i => (y.set (F.CRY_PUBX_WORD i) (px.getD i 0)).set (F.CRY_PUBY_WORD i) (py.getD i 0))
      (y.set F.CRY_STATE_KEY 1)
  else y.set F.CRY_STATE_KEY 0

/-- The PKGCFG ball read (R318): the code is the 100 mV band of its voltage, given in µV; above 1.6 V the ball is open, which reads
code 0. -/
def pkgCode (volts : Nat) : Nat := if 1600000 < volts then 0 else min 15 (volts / 100000)

/-- A fuse load ends: the shadows, the straps and PKGCFG (R311, R317 to R319). -/
def Die.fusesLoaded (x : Die) (env : Env) (boot : Nat) (clkmode : Bool) (volts restarts : Nat) (corr : Bool)
    (uncorr : Option (List FuseItem)) : Die :=
  let y := x.loadShadows env (uncorr.getD [])
  let y := ((((y.set F.FUS_STAT_RESTARTS restarts).setB F.FUS_STAT_UNCORR uncorr.isSome).setB F.FUS_STAT_CORR corr).set
    F.FUS_STAT_LOADED 1)
  let code := pkgCode volts
  let bad := decide (1600000 < volts) || (y.on F.FUS_OPT_LOCKED && 12 ≤ code)
  let y := ((y.set F.SYS_IDENT_BOOT boot).setB F.SYS_IDENT_CLKMODE clkmode).set F.SYS_IDENT_PKGCFG code
  let y := (y.set F.TRL_ADDR_MODE (code % 4)).setB F.TRL_ADDR_MASTER (code % 4 = 2)
  y.onBoot (fun b => { b with unfused := false, pkgBad := bad })

/-- A step of the start begins. -/
def Die.stepTo (x : Die) (n : Nat) : Die :=
  (x.set F.RST_START_STEP n).onBoot (fun b => { b with start := b.start.map (fun st => { st with step := n }) })

/-- The step in progress. -/
def Die.startStep (x : Die) : Nat := match x.boot.start with | some st => st.step | none => 0

/-- What the fuses and the straps say that a start shows (R34, R318, R319, R321; Table 13.11): the conditions of the FUS page, and
the pair's owner. -/
def Die.fuseConditions (x : Die) : Die :=
  let y := (x.setB F.PRL_STAT_OWNER (x.pairRole = 1)).cond 6 x.boot.pkgBad
  let y := y.cond 7 (y.on F.FUS_STAT_UNCORR)
  if y.on F.FUS_STAT_CORR && !y.on F.RST_SKIP_FUSE then y.fire 5 else y

/-- FUSE_LOAD_DONE (R311, R317 to R319): the load of an episode, or step 1 of the start after a wake from Dormant. -/
def execFuseLoadDone (d : DieId) (boot : Nat) (clkmode : Bool) (pkgcfg : Nat) (corr : Bool) (uncorr : Option (List FuseItem))
    (s : State) : Host.Outcome State Fault Refusal :=
  onDieAlways d s fun env x =>
    match x.boot.episode with
    | some e =>
      if !e.loadRuns then x
      else (x.fusesLoaded env boot clkmode pkgcfg e.restarts corr uncorr).onBoot (fun b =>
        { b with episode := some { e with loading := false, begun := false } })
    | none =>
      if x.startStep = 1 then ((x.fusesLoaded env boot clkmode pkgcfg 0 corr uncorr).fuseConditions).stepTo 2 else x

/-! ### Pins (R314 to R316) -/

/-- The pins of Table 11.3 that are inputs only. -/
def inputOnly (i : Nat) : Bool := i = 43 || (48 ≤ i && i ≤ 50)

/-- What holds configurable pin `i` (R314 to R316): a weak pull-down before the fuses are loaded; its block once that drives it; off
for a PWM output of the fixed-safe class; its fuse-map state otherwise. -/
def Die.pinDrive (x : Die) (i : Nat) : PinDrive :=
  if x.boot.unfused then .pullDown
  else if x.on (F.FUS_PIN_CONFIGURED (i / 8) (i % 8)) && !inputOnly i then .block
  else if 13 ≤ i && i < 29 && x.bitOf F.PWM_SAFE_SAFE (i - 13) then .low
  else match x.get (F.FUS_PIN_STATE (i / 8) (i % 8)) with
    | 0 => .highZ
    | 1 => .pullUp
    | 3 => if inputOnly i then .pullDown else .low
    | 4 => if inputOnly i then .pullDown else .high
    | _ => .pullDown

/-- A Trellis port in use is down (R367): one that has been up since the link began. -/
def Die.portLost (x : Die) : Bool :=
  x.trl.used &&& ~~~ x.trl.ports != 0

/-- The conditions present at a release (R34): each fires anew. -/
def Die.presentConditions (x : Die) : Die :=
  let y := x.fuseConditions
  ((((y.cond 26 (y.get F.PWR_SUPPLY_WARN != 0)).cond 107 y.portLost).cond 139 (y.get F.SEQ_FAULT_CAUSE != 0)).cond 145
    (y.get F.AFE_TRIP_CAUSE != 0)).showTrip

/-- Reset is released: RST_CAUSE is written and the start begins, at its lock step, or with the fuse load where the shadows are lost,
as after Dormant (R311, R312, R322). A warm reset does
not end limited mode, recovery or a halt (R324, R325). -/
def Die.release (x : Die) (e : Episode) (now : Nat) : Die :=
  let y := ((x.set F.RST_CAUSE_REACH e.reach).set F.RST_CAUSE_DETAIL e.best.detail).set F.RST_CAUSE_CAUSE e.best.cause
  let again := e.best.cause = 6 && e.best.detail = 5
  let y := if again then y else ((y.set F.RST_START_TRIES 0).set F.RST_START_FAILSTEP 0).set F.RST_START_ERR 0
  let skipped := !(decide (5 ≤ e.reach) || (e.best.cause = 6 && e.best.detail = 4))
  let y := (((y.setB F.RST_SKIP_FUSE skipped).set F.RST_SKIP_DRAM 0).set F.RST_SKIP_BASE 0).set F.RST_SKIP_FW 0
  let was := y.get F.RST_START_KIND
  let kind := if 4 ≤ e.reach then 0 else if 2 ≤ was then was else 1
  let step := if x.boot.unfused then 1 else 2
  let y := (y.set F.RST_START_STEP step).set F.RST_START_KIND kind
  let y := y.onBoot (fun b => { b with episode := none, retry := false, limited := decide (kind = 2)
                                       start := if kind = 4 then none else some { step := step, at_ := now } })
  (((y.presentConditions).cond 11 (kind = 2)).cond 13 (kind = 3)).cond 14 (kind = 4)

/-- RESET_RELEASE (R309): with no source left and the fuses loaded where the reach asks for it. The last episode of the
package to end lets go of RESET_N. -/
def execResetRelease (d : DieId) (s : State) : Host.Outcome State Fault Refusal :=
  let ready := match (s.die d).boot.episode with | some e => e.active.isEmpty && !e.loading | none => false
  if !s.has d then .fault .noSuchDie
  else if !ready then .next s
  else
    let t := s.runAlways d (fun env x => match x.boot.episode with | some e => x.release e env.now | none => x)
    .next { t with unmasking := !t.driving }

/-- SUPPLY_WARN (R331): a monitored supply crosses 95 % of nominal. -/
def execSupplyWarn (supply : Fin 3) (low : Bool) (s : State) : Host.Outcome State Fault Refusal :=
  onPackageAlways s fun _ x =>
    let y := x.setBit F.PWR_SUPPLY_WARN supply.val low
    if y.inReset then y else y.cond 26 (y.get F.PWR_SUPPLY_WARN != 0)

end Sys2Proof.Machine
end

