-- ==== Sys2Proof/Machine/Thermal.lean ====
section
/-!
DEFINITION. Temperature sensors, zones, throttle levels and their actions, the orderly stop, the trip and the thermal
latch, and the compensation of the references (10_thermal_management.md, R285 to R305).
-/

namespace Sys2Proof.Machine

/-! ### Sensors and zones -/

/-- The thermal block's hidden state changed. -/
def Die.onThm (x : Die) (f : Thm → Thm) : Die := { x with thm := f x.thm }

/-- A sensor's hidden state. -/
def Die.sensor (x : Die) (k : Nat) : Sensor := x.thm.sens.getD k {}

/-- A sensor's hidden state changed. -/
def Die.onSensor (x : Die) (k : Nat) (f : Sensor → Sensor) : Die :=
  x.onThm (fun t => { t with sens := fillSet {} t.sens k (f (t.sens.getD k {})) })

/-- A zone's hidden state. -/
def Die.zone (x : Die) (z : Nat) : Zone := x.thm.zones.getD z {}

/-- A zone's hidden state changed. -/
def Die.onZone (x : Die) (z : Nat) (f : Zone → Zone) : Die :=
  x.onThm (fun t => { t with zones := fillSet {} t.zones z (f (t.zones.getD z {})) })

/-- A sensor is measured: an internal one always, a remote diode while it and the block are enabled. -/
def Die.sensed (x : Die) (k : Nat) : Bool := 6 ≤ k || (x.on F.THM_CTRL_EN && x.on (F.THM_DIODE_EN k))

/-- A zone runs (Table 10.2): zone 0 always, the others while they and the block are enabled. -/
def Die.zoneOn (x : Die) (z : Nat) : Bool := z = 0 || (x.on F.THM_CTRL_EN && x.on (F.THM_ZONE_CFG_EN z))

/-- The sensors named by a zone's mask. -/
def Die.members (x : Die) (z : Nat) : List Nat := (List.range 10).filter (fun k => x.bitOf (F.THM_ZONE_CFG_MASK z) k)

/-- A sensor is valid: measured and not failed. One that has not been sampled yet counts as valid (log entry 52). -/
def Die.sensorValid (x : Die) (k : Nat) : Bool := x.sensed k && !x.on (F.THM_SENS_FAIL k)

/-- The failed member that a zone's spare stands for, once the spare has given two valid readings (R297). -/
def Zone.replaced (g : Zone) (k : Nat) : Bool :=
  match g.graft with
  | some (m, _, n) => m = k && 2 ≤ n
  | none => false

/-- A member holds its zone (R297): failed, not acknowledged and not replaced. -/
def Die.holds (x : Die) (z k : Nat) : Bool :=
  x.sensed k && x.on (F.THM_SENS_FAIL k) && !x.on (F.THM_SENS_ACKED k) && !(x.zone z).replaced k

/-- What a member contributes to its zone's temperature (R288). -/
def Die.contribution (x : Die) (z k : Nat) : Option Int :=
  if x.sensorValid k then (x.sensor k).last
  else if x.holds z k then (x.sensor k).last.map (· + 5000)
  else none

/-- The larger of two contributions, the first on a tie. -/
def hotter (a : Option (Int × Nat)) (b : Option (Int × Nat)) : Option (Int × Nat) :=
  match a, b with
  | none, b => b
  | a, none => a
  | some p, some q => if p.1 < q.1 then some q else some p

/-- The contributions of a zone's members and grafted spare, by sensor number. -/
def Die.contributions (x : Die) (z : Nat) : List (Int × Nat) :=
  let spare := match (x.zone z).graft with | some (_, s, _) => some s | none => none
  (List.range 10).filterMap (fun k =>
    if spare = some k then (x.sensor k).last.map (fun t => (t, k))
    else if x.bitOf (F.THM_ZONE_CFG_MASK z) k then (x.contribution z k).map (fun t => (t, k))
    else none)

/-- A zone's temperature and the sensor that gives it (R288). -/
def Die.zoneTemp (x : Die) (z : Nat) : Option (Int × Nat) := (x.contributions z).foldl (fun m c => hotter m (some c)) none

/-- A sensor counts in a zone's shutdown comparison and trip: a valid member, or the grafted spare (R289, R303). -/
def Die.counts (x : Die) (z k : Nat) : Bool :=
  x.sensorValid k && (x.bitOf (F.THM_ZONE_CFG_MASK z) k ||
    (match (x.zone z).graft with | some (_, s, _) => decide (s = k) | none => false))

/-- A zone's shutdown temperature (R289). -/
def Die.shutTemp (x : Die) (z : Nat) : Option Int :=
  ((List.range 10).filter (x.counts z)).foldl (fun m k =>
    match m, (x.sensor k).last with
    | none, v => v
    | m, none => m
    | some a, some b => some (max a b)) none

/-- The zone has nothing to judge (R298): no valid member, no grafted spare, no substitute. -/
def Die.noSensor (x : Die) (z : Nat) : Bool :=
  (x.zone z).graft.isNone && !(x.members z).any (fun k => x.sensorValid k || (x.contribution z k).isSome)

/-- A threshold of a zone, in mK. -/
def Die.thr (x : Die) (f : Nat → Fld) (z : Nat) : Int := 1000 * (x.get (f z) : Nat)

/-! ### Levels and conditions (R291, R292) -/

/-- The zones that run. -/
def Die.zonesOn (x : Die) : List Nat := (List.range 4).filter x.zoneOn

/-- The fast condition of a zone (R286). -/
def Die.zoneFast (x : Die) (z : Nat) : Bool :=
  x.get (F.THM_ZONE_STAT_LEVEL z) != 0 || x.on (F.THM_ZONE_STAT_HELD z) ||
    (match x.zoneTemp z with
     | some (t, _) => decide (x.thr F.THM_ZONE_THR_THROT z - 1000 * (x.get F.THM_RATE_NEAR : Nat) ≤ t)
     | none => false)

/-- The die's level brought up to date: LEVEL at each change, a rise counted and kept as the peak, the flag of the frames
under way (R292, R294). -/
def Die.showLevel (x : Die) : Die :=
  let old := x.get F.THM_LEVEL_LEVEL
  let new := x.zonesOn.foldl (fun m z => max m (x.get (F.THM_ZONE_STAT_LEVEL z))) (x.get F.THM_LEVEL_FLOOR)
  if new = old then x.cond 34 (new != 0)
  else
    let y := ((x.set F.THM_LEVEL_LEVEL new).peak F.THM_LEVEL_PEAK new).fire 35
    let y := if old < new then y.count F.THM_CNT_RAISES else y
    (y.noteThrottle new).cond 34 (new != 0)

/-- The conditions of the block brought up to date. -/
def Die.showThm (x : Die) : Die :=
  let y := x.showLevel
  let failed := (List.range 10).filter (fun k => y.on (F.THM_SENS_FAIL k))
  let y := y.set F.THM_FAIL_FAILED (maskOf 10 (fun k => failed.contains k))
  let y := y.cond 33 (y.zonesOn.any (fun z => y.on (F.THM_ZONE_STAT_WARN z)))
  let y := y.cond 37 (failed.any (fun k => !y.on (F.THM_SENS_ACKED k)))
  let y := y.cond 38 (y.zonesOn.any (fun z => y.on (F.THM_ZONE_STAT_NOSENSOR z)))
  let y := y.cond 40 (y.zonesOn.any (fun z => y.on (F.THM_ZONE_STAT_HELD z)))
  y.cond 41 (y.zonesOn.any y.zoneFast)

/-- A condition that two consecutive samples move (R287): up at or above `hi`, down below `lo`. -/
def crossed (was : Bool) (hi lo : Int) (a b : Option Int) : Bool :=
  match a, b with
  | some p, some q => if hi ≤ p ∧ hi ≤ q then true else if p < lo ∧ q < lo then false else was
  | _, _ => was

/-- A zone that does not run keeps nothing (log entry 53). -/
def Die.clearZone (x : Die) (z : Nat) : Die :=
  (((((((x.onZone z (fun _ => {})).set (F.THM_ZONE_STAT_WARN z) 0).set (F.THM_ZONE_STAT_THROT z) 0).set
    (F.THM_ZONE_STAT_HELD z) 0).set (F.THM_ZONE_STAT_NOSENSOR z) 0).set (F.THM_ZONE_STAT_LEVEL z) 0).set
    (F.THM_ZONE_STAT_SRC z) 15).set (F.THM_ZONE_STAT_TEMP z) 0

/-- What a zone shows of its sensors, and its hold (R288, R297, R298): the end of a hold frees its level; nothing to judge
is level 7. -/
def Die.showZone (x : Die) (z : Nat) : Die :=
  if !x.zoneOn z then x.clearZone z
  else
    let held := (x.members z).any (x.holds z)
    let y := match x.zoneTemp z with
      | some (t, k) => (x.setS (F.THM_ZONE_STAT_TEMP z) t).set (F.THM_ZONE_STAT_SRC z) k
      | none => (x.set (F.THM_ZONE_STAT_TEMP z) 0).set (F.THM_ZONE_STAT_SRC z) 15
    let y := (y.setB (F.THM_ZONE_STAT_HELD z) held).onZone z (fun g => if held then g else { g with floor := 0 })
    if y.noSensor z then
      ((y.set (F.THM_ZONE_STAT_NOSENSOR z) 1).set (F.THM_ZONE_STAT_LEVEL z) 7).onZone z (fun g => { g with back := 0 })
    else y

/-- Every zone, the level and the conditions brought up to date after a change of settings or a block reset. -/
def Die.showThermal (x : Die) : Die := ((List.range 4).foldl (fun y z => y.showZone z) x).showThm

/-- A sample of a zone whose comparisons use it (R287, R291, R292): `valid` says that the sample is a valid reading. -/
def Die.zoneSample (x : Die) (z : Nat) (valid : Bool) : Die :=
  let x := x.showZone z
  if !x.zoneOn z then x
  else
    let g := x.zone z
    let t := (x.zoneTemp z).map (·.1)
    let hy := x.thr F.THM_ZONE_THR_HYST z
    let warn := x.thr F.THM_ZONE_THR_WARN z
    let throt := x.thr F.THM_ZONE_THR_THROT z
    let wasT := x.on (F.THM_ZONE_STAT_THROT z)
    let nowT := crossed wasT throt (throt - hy) g.prev t
    let y := x.setB (F.THM_ZONE_STAT_WARN z) (crossed (x.on (F.THM_ZONE_STAT_WARN z)) warn (warn - hy) g.prev t)
    let y := y.setB (F.THM_ZONE_STAT_THROT z) nowT
    let none_ := y.on (F.THM_ZONE_STAT_NOSENSOR z)
    let back := if none_ && valid then g.back + 1 else g.back
    let y := if none_ && valid && 2 ≤ back then y.set (F.THM_ZONE_STAT_NOSENSOR z) 0 else y
    let y := if nowT && !wasT && !none_ then y.set (F.THM_ZONE_STAT_LEVEL z) (min 7 (y.get (F.THM_ZONE_STAT_LEVEL z) + 1)) else y
    y.onZone z (fun g => { g with prev := t, back := back, shut := y.shutTemp z })

/-- A zone that a failed sensor no longer serves is judged again without it, and an upward crossing that it had begun is discarded
(R288, R289, R298). -/
def Die.zoneLoss (x : Die) (z : Nat) : Die :=
  let y := x.showZone z
  y.onZone z (fun g => { g with shut := y.shutTemp z })

/-! ### The orderly stop and the trip (R300 to R303) -/

/-- The orderly stop begins on a die (Table 10.8). -/
def Die.orderlyStop (x : Die) (env : Env) : Die :=
  if x.thm.stopping then x
  else
    let closing := x.evd.closing.isSome
    let y := ((x.haltSaves.fire 36).set F.NVS_STATE_STOPPED 1).nvsRequest 5 (.add 5 1)
    let y := y.onThm (fun t => { t with stopping := true, deadline := false })
    let y := ((y.rakeHalt none env.now).calAbandon 5 env.now).loopsStop
    let y := ((y.cloOff.heaterOff).afeOff).safeOff
    let y := y.lampsOff.onLed (fun l => { l with off := true })
    if closing then y.onEvd (fun e => { e with ringOnly := true }) else y.beginClose env false true

/-- The trip on a die (R303). -/
def Die.trip (x : Die) (env : Env) : Die := x.cutWrite.thermalRestart env

/-- A reading counts towards the trip of some zone: two consecutive readings at or above SHUT + 10 °C. -/
def Die.tripHit (x : Die) (k : Nat) (prev : Option Int) (v : Int) : Bool :=
  match prev with
  | none => false
  | some p => x.zonesOn.any (fun z => x.counts z k && decide (x.thr F.THM_ZONE_THR_SHUT z + 10000 ≤ min p v))

/-- A zone's shutdown temperature crosses SHUT with this sample (R287, R289). -/
def Die.shutHit (x : Die) (z : Nat) (prev : Option Int) : Bool :=
  match prev, x.shutTemp z with
  | some p, some q => decide (x.thr F.THM_ZONE_THR_SHUT z ≤ min p q)
  | _, _ => false

/-! ### Failures and spares (R285, R296) -/

/-- A spare already serves a failed member other than `k` (R296). -/
def Die.spareTaken (x : Die) (s k : Nat) : Bool :=
  (List.range 4).any (fun w => match (x.zone w).graft with | some (m, t, _) => t = s && m != k | none => false)

/-- A spare is grafted into a zone for a failed member (R296). -/
def Die.graftSensor (x : Die) (z k : Nat) : Die :=
  let s := x.get (F.THM_ZONE_CFG_SPARE z)
  if x.zoneOn z && x.bitOf (F.THM_ZONE_CFG_MASK z) k && s < 10 && x.sensorValid s && !x.bitOf (F.THM_ZONE_CFG_MASK z) s
      && (x.zone z).graft.isNone && !x.spareTaken s k then
    ((x.onZone z (fun g => { g with graft := some (k, s, 0) })).markGraft).fire 39
  else x

/-- A spare is taken out of the zones where it stands for a failed member, or is itself the failed one. -/
def Die.releaseSensor (x : Die) (k : Nat) (spare : Bool) : Die :=
  (List.range 4).foldl (fun y z =>
    match (y.zone z).graft with
    | some (m, s, _) =>
      if (if spare then s else m) = k then (y.onZone z (fun g => { g with graft := none })).markGraft else y
    | none => y) x

/-- A sensor fails (R285, R296, R297): its zones hold the level they have. -/
def Die.failSensor (x : Die) (k now : Nat) : Die :=
  let y := ((x.set (F.THM_SENS_FAIL k) 1).set (F.THM_SENS_ACKED k) 0).count F.THM_CNT_FAILS
  let y := y.onSensor k (fun s => { s with failAt := now, good := 0 })
  let (cause, y) := y.freeVal 5
  let y := y.resError 6 k cause now
  let y := y.releaseSensor k true
  (List.range 4).foldl (fun y z =>
    if y.zoneOn z && y.bitOf (F.THM_ZONE_CFG_MASK z) k then
      (y.onZone z (fun g => { g with floor := max g.floor (y.get (F.THM_ZONE_STAT_LEVEL z)) })).graftSensor z k
    else y) y

/-- A sensor that was acknowledged has given 16 valid readings in a row (R285). -/
def Die.recoverSensor (x : Die) (k now : Nat) (v : Int) : Die :=
  let y := ((x.set (F.THM_SENS_FAIL k) 0).set (F.THM_SENS_ACKED k) 0).set (F.THM_SENS_CAUSE k) 0
  let y := (y.setS (F.THM_SENS_TEMP k) v).onSensor k (fun s => { s with last := some v, prev := none, good := 0 })
  ((y.releaseSensor k false).noteTransient 6 k now).resBack 6 k

/-- The spare's valid reading counted where it serves (R297). -/
def Die.countSpare (x : Die) (k : Nat) : Die :=
  (List.range 4).foldl (fun y z => y.onZone z (fun g =>
    match g.graft with
    | some (m, s, n) => if s = k then { g with graft := some (m, s, min 2 (n + 1)) } else g
    | none => g)) x

/-- The zones that a sensor's sample reaches: those it is a member of, and those it serves as a spare. -/
def Die.reaches (x : Die) (k : Nat) : List Nat :=
  x.zonesOn.filter (fun z => x.bitOf (F.THM_ZONE_CFG_MASK z) k ||
    (match (x.zone z).graft with | some (_, s, _) => decide (s = k) | none => false))

/-- A valid reading that enters the comparisons: the trip, the zones, the orderly stop. -/
def Die.goodSample (x : Die) (env : Env) (k : Nat) (v : Int) : Die :=
  let prev := (x.sensor k).prev
  let y := ((x.setS (F.THM_SENS_TEMP k) v).set (F.THM_SENS_CAUSE k) 0).onSensor k (fun s => { s with last := some v, prev := some v })
  let y := y.countSpare k
  if y.tripHit k prev v then y.trip env
  else
    let zs := y.reaches k
    let before := zs.map (fun z => (z, (y.zone z).shut))
    let y := (zs.foldl (fun y z => y.zoneSample z true) y).showThm
    if before.any (fun b => y.shutHit b.1 b.2) then y.orderlyStop env else y

/-- The limits of a sensor's valid range, in mK (Table 10.1). -/
def sensorRange (k : Nat) : Int × Int := if k < 6 then (-55000, 150000) else (-50000, 150000)

/-- A reading judged: its temperature, or the cause of its failure (R285). -/
def Die.judgeReading (x : Die) (k : Nat) : ThermRead → Option Int × Nat
  | .openCircuit => (none, 1)
  | .shorted => (none, 2)
  | .temp m =>
    let v := if k < 6 then m + 100 * x.getS (F.THM_DIODE_OFFSET k) else m
    if (sensorRange k).1 ≤ v ∧ v ≤ (sensorRange k).2 then (some v, 0) else (none, 3)

/-- A sensor's reading (R285 to R303). -/
def Die.sample (x : Die) (env : Env) (k : Nat) (r : ThermRead) : Die :=
  if !x.sensed k then x
  else
    let (v, cause) := x.judgeReading k r
    let y := (x.setB (F.THM_SENS_VALID k) v.isSome).onSensor k (fun s =>
      { s with count := s.count + 1, valid := if v.isSome then v else s.valid })
    let failed := y.on (F.THM_SENS_FAIL k)
    let y := match v with
      | some v =>
        if !failed then y.goodSample env k v
        else if y.on (F.THM_SENS_ACKED k) then
          let y := y.onSensor k (fun s => { s with good := s.good + 1 })
          if 16 ≤ (y.sensor k).good then
            let y := y.recoverSensor k env.now v
            ((y.reaches k).foldl (fun y z => y.showZone z) y).showThm
          else y
        else y
      | none =>
        let y := (y.set (F.THM_SENS_CAUSE k) cause).onSensor k (fun s => { s with prev := none, good := 0 })
        let zs := y.reaches k
        let y := if failed then y else y.failSensor k env.now
        (zs.foldl (fun y z => if (y.contributions z).any (fun c => c.2 = k) then y.zoneSample z false else y.zoneLoss z) y).showThm
    if y.get F.CLO_HTR_TSEL = k && !y.inReset then y.bladeReading (if y.on (F.THM_SENS_FAIL k) then none else v) env.now else y

/-- SENSOR_SAMPLE (R285). -/
def execSensorSample (d : DieId) (k : Fin 10) (r : ThermRead) (s : State) : Host.Outcome State Fault Refusal :=
  onDie d s fun env x => x.sample env k.val r

/-- LEVEL_STEP_UP (Table 10.4). -/
def execLevelStepUp (d : DieId) (z : Fin 4) (s : State) : Host.Outcome State Fault Refusal :=
  onDie d s fun _ x =>
    let z := z.val
    let hot := match x.zoneTemp z with
      | some (t, _) => decide (x.thr F.THM_ZONE_THR_THROT z ≤ t)
      | none => false
    if x.zoneOn z && x.on (F.THM_ZONE_STAT_THROT z) && !x.on (F.THM_ZONE_STAT_NOSENSOR z) && hot then
      (x.set (F.THM_ZONE_STAT_LEVEL z) (min 7 (x.get (F.THM_ZONE_STAT_LEVEL z) + 1))).showThm
    else x

/-- LEVEL_STEP_DOWN (Table 10.4): a held zone does not fall below the level it had at the failure (R297). -/
def execLevelStepDown (d : DieId) (z : Fin 4) (s : State) : Host.Outcome State Fault Refusal :=
  onDie d s fun _ x =>
    let z := z.val
    let level := x.get (F.THM_ZONE_STAT_LEVEL z)
    if x.zoneOn z && !x.on (F.THM_ZONE_STAT_THROT z) && !x.on (F.THM_ZONE_STAT_NOSENSOR z) && decide ((x.zone z).floor < level) then
      (x.set (F.THM_ZONE_STAT_LEVEL z) (level - 1)).showThm
    else x

/-- THM_FAIL.ACK (R297): sensors that failed before this cycle. -/
def Die.ackSensors (x : Die) (val now : Nat) : Die :=
  let hit := (List.range 10).filter (fun k =>
    val.testBit k && x.on (F.THM_SENS_FAIL k) && !x.on (F.THM_SENS_ACKED k) && decide ((x.sensor k).failAt < now))
  let y := hit.foldl (fun y k => (y.set (F.THM_SENS_ACKED k) 1).onSensor k (fun s => { s with good := 0 })) x
  ((List.range 4).foldl (fun y z => y.showZone z) y).showThm

/-- SENSOR_ACK (R297). -/
def execSensorAck (d : DieId) (val : Nat) (s : State) : Host.Outcome State Fault Refusal :=
  onDie d s fun env x => x.ackSensors val env.now

/-! ### Throttle actions (R293, Table 10.5) -/

/-- The fields that a level's action sets, with the values, where it changes them. -/
def Die.actionFields (x : Die) (level : Nat) : List (Fld × Nat) :=
  let cams := (List.range 8).filter (fun n => x.get (F.CTX_SRC_SRC n) != 0)
  let rate : Fld × Nat :=
    if x.on F.SEQ_SYNC_SRC then (F.SEQ_SYNC_DIV_M1, min 256 (2 * (x.get F.SEQ_SYNC_DIV_M1 + 1)) - 1)
    else (F.SEQ_FRAME_LEN_LEN, min 50000000 (2 * x.get F.SEQ_FRAME_LEN_LEN))
  match level with
  | 1 => [(F.SVE_MODE_TWIN, 0), (F.WDR_CTRL_AUDIT, 0)]
  | 2 => (List.range 8).map (fun n => (F.CTX_NR_TNR_EN n, 0))
  | 3 => (cams.filter (fun n => x.get (F.CTX_SRC_PRIO n) < x.get F.THM_POLICY_KEEP)).map (fun n => (F.CTX_SRC_EN n, 0))
  | 4 => [(F.ACB_MODE_LPM, 1)]
  | 5 => rate :: cams.map (fun n => (F.CTX_SRC_EN n, 0))
  | 6 => rate :: (List.range 4).map (fun p => (F.CTRL_EN (0x40 + p), 0))
  | 7 => rate :: (List.range 8).map (fun n => (F.CTX_CODE_EN n, 0))
  | _ => []

/-- The context whose token carries a field that an action sets (R212, Table 10.5). -/
def tokenOf (f : Fld) : Option Nat :=
  (List.range 8).find? (fun n => f.key = (F.CTX_NR_TNR_EN n).key || f.key = (F.CTX_CODE_EN n).key)

/-- The value that an action finds in a field: a token's field as it is written, any other as it is in force. -/
def Die.actionVal (x : Die) (f : Fld) : Nat := if (tokenOf f).isSome then x.written f else x.get f

/-- An action on a field must wait: its page's commit is pending (R293), or its context's token queue is full (R213). -/
def Die.actionHeld (x : Die) (f : Fld) : Bool :=
  x.commitPending f.page || (match tokenOf f with | some n => decide (8 ≤ (x.ctxOf n).tokens.length) | none => false)

/-- What follows from a field that an action, or the end of one, has changed. -/
def Die.actionEffect (x : Die) (f : Fld) (now : Nat) : Die :=
  if f.key = F.ACB_MODE_LPM.key then ((x.onAcb (fun a => { a with settleDue := true })).fire 179).showAcb
  else if f.page = 0x40 || f.page = 0x41 || f.page = 0x42 || f.page = 0x43 then
    x.cond (462 + 16 * (f.page - 0x40)) false
  else match (List.range 8).find? (fun n => f.key = (F.CTX_SRC_EN n).key) with
    | some n => if x.on f then x.onCtx n (fun k => { k with askedAt := some now }) else x
    | none => x

/-- A value that an action, or the end of one, gives a field: through the context's token where it is a token's field, with a VALUE
that the spec does not give (Table 10.5; log entry 107). -/
def Die.giveField (x : Die) (f : Fld) (v now : Nat) : Die :=
  match tokenOf f with
  | some n =>
    let (val, y) := (x.stageVal f v).freeVal 16
    y.postToken n val now
  | none => (x.set f v).actionEffect f now

/-- A field set by an action: the value before and the value set are kept. -/
def Die.takeAction (x : Die) (level : Nat) (f : Fld) (v now : Nat) : Die :=
  if x.actionVal f = v then x
  else (x.onThm (fun t => { t with taken := (level, f, x.actionVal f, v) :: t.taken })).giveField f v now

/-- An action on a field left again: the value before returns, unless the host has written the field meanwhile. -/
def Die.leaveAction (x : Die) (e : Nat × Fld × Nat × Nat) (now : Nat) : Die :=
  let y := x.onThm (fun t => { t with taken := t.taken.filter (fun q => !(q.1 = e.1 && q.2.1.key = e.2.1.key)) })
  if y.actionVal e.2.1 = e.2.2.2 then y.giveField e.2.1 e.2.2.1 now else y

/-- An action of a level taken on a field. -/
def Die.actOn (x : Die) (level : Nat) (f : Fld) (now : Nat) : Die :=
  match (x.actionFields level).find? (fun e => e.1.key = f.key) with
  | some e => x.takeAction level e.1 e.2 now
  | none => x

/-- The field's block takes an action at a frame boundary only, and frames go on: it waits for the next one (R293); of the fields
that are not staged, the Weeder's AUDIT is such a one. -/
def Die.atBoundary (x : Die) (f : Fld) : Bool :=
  x.rakeRuns && (f.key = F.WDR_CTRL_AUDIT.key || (f.acc = .rws && boundaryOk f.page 0 && f.page < 0x40))

/-- A waiting action, or its end, is carried out. -/
def Die.stepNow (x : Die) (e : ThrottleStep) (now : Nat) : Die :=
  let y := x.onThm (fun t => { t with due := t.due.filter (fun q => q != e) })
  if e.leaving then
    match y.thm.taken.find? (fun q => q.1 = e.level && q.2.1.key = e.fld.key) with
    | some q => y.leaveAction q now
    | none => y
  else y.actOn e.level e.fld now

/-- The frame boundary: the actions that wait for it are carried out, but for a page whose commit was pending until now, and
for the end of low-power mode before its core has had 200 µs (R90, R293). -/
def Die.throttleBoundary (x : Die) (busy : List Nat) (now : Nat) : Die :=
  (x.thm.due.filter (fun e => !busy.contains e.fld.page &&
    !(e.leaving && e.fld.key = F.ACB_MODE_LPM.key && decide (now < e.since + 50000)))).foldl (fun y e => y.stepNow e now) x

/-- The MP's work on the level in force: actions of levels above it are left, newest first, those up to it are taken, level
by level; a block with a pending commit waits for it, and one that changes at frame boundaries waits for the next. -/
def Die.throttleActions (x : Die) (now : Nat) : Die :=
  let level := x.get F.THM_LEVEL_LEVEL
  let x := x.onThm (fun t => { t with due := t.due.filter (fun e => if e.leaving then level < e.level else e.level ≤ level) })
  let x := if x.rakeRuns then x else x.thm.due.foldl (fun y e => y.stepNow e now) x
  let leave := x.thm.taken.filter (fun e => level < e.1 && !x.actionHeld e.2.1 &&
    !x.thm.due.any (fun q => q.leaving && q.level = e.1 && q.fld.key = e.2.1.key))
  let y := leave.foldl (fun y e =>
    if y.atBoundary e.2.1 then (y.onThm (fun t => { t with due := t.due ++ [⟨e.1, e.2.1, true, now⟩] })).showAcb
    else y.leaveAction e now) x
  let y := y.onThm (fun t => { t with waiting := t.waiting.filter (fun w => w.1 ≤ level), acted := min t.acted level })
  let y := (List.range level).foldl (fun y i =>
    if y.thm.acted ≤ i then
      y.onThm (fun t => { t with waiting := t.waiting ++ (y.actionFields (i + 1)).map (fun e => (i + 1, e.1)), acted := i + 1 })
    else y) y
  y.thm.waiting.foldl (fun y w =>
    if y.actionHeld w.2 then y
    else
      let y := y.onThm (fun t => { t with waiting := t.waiting.filter (fun q => !(q.1 = w.1 && q.2.key = w.2.key)) })
      if y.atBoundary w.2 then y.onThm (fun t => { t with due := t.due ++ [⟨w.1, w.2, false, now⟩] })
      else y.actOn w.1 w.2 now) y

/-- Entry to Hold (R304): no action is taken there, and none is under way; what the blocks that stop lose of the actions is
forgotten, so that the MP takes the actions of the level in force when the die resumes. -/
def Die.throttleForget (x : Die) : Die :=
  x.onThm (fun t => { t with acted := 0, waiting := [], due := [], taken := t.taken.filter (fun e => e.2.1.keep = .w) })

/-- THROTTLE_ACTION (R293, R295, R304). -/
def execThrottleAction (d : DieId) (s : State) : Host.Outcome State Fault Refusal :=
  onDie d s fun env x => if x.jobRuns 0 && !x.thm.stopping then x.throttleActions env.now else x

/-! ### The other die, the latch, and the compensation -/

/-- The thermal restart stands on the die (R301, R303). -/
def Die.tripped (x : Die) : Bool := match x.boot.episode with | some e => e.active.contains 3 | none => false

/-- D2D_STOP_SIGNAL (R300, R303): what the other die has begun, this one begins; the trip acts on a die in reset or in Dormant as
well. -/
def execD2dStopSignal (d : DieId) (trip : Bool) (s : State) : Host.Outcome State Fault Refusal :=
  if trip then onDieAlways d s fun env x => if env.dual && env.peer.tripped && !x.tripped then x.trip env else x
  else onDie d s fun env x => if env.dual && (env.peer.thm.stopping || env.peer.tripped) then x.orderlyStop env else x

/-- THERMAL_LATCH (R301): both dies' deadlines have passed, or one has tripped (R303); it holds the whole package. -/
def execThermalLatch (s : State) : Host.Outcome State Fault Refusal :=
  if [s.dieA, s.dieB].any (fun x => x.thm.stopping || x.tripped) then
    onPackageAlways s fun env x => if x.tripped then x else x.thermalRestart env
  else .next s

/-- The trims of a quantity's model held to their limits, and whether one lies at it newly (Table 10.7). -/
def limitTrims (lim : Int) (old new : List Int) : List Int × Bool :=
  let l := new.map (clampI (-lim) lim)
  (l, (l.zip old).any (fun p => (p.1 = lim || p.1 = -lim) && p.2 != p.1))

/-- Some hidden trims replaced. -/
def Die.setTrims (x : Die) (at_ : Nat) (l : List Int) : Die :=
  l.zipIdx.foldl (fun y e => y.onThm (fun t => { t with trims := fillSet 0 t.trims (at_ + e.2) e.1 })) x

/-- The crystal's correction at a temperature, in 0.01 ppm, with `up` choosing where the spec leaves the rounding open. -/
def crystalTrim (c1 c2 t0 t : Int) (up : Bool) : Int :=
  let dt := t - 1000 * t0
  -- c1 is in 0.01 ppm per K and c2 in 0.001 ppm per K², dt in mK
  let num := c1 * dt * 10000 + c2 * dt * dt
  let q := num / 10000000
  if num % 10000000 = 0 then q else if up then q + 1 else q

/-- The compensation of a quantity, once per interval (R299). -/
def Die.compensate (x : Die) (q : Nat) (trims : List Int) (now : Nat) : Die :=
  let old (i : Nat) : Int := x.thm.trims.getD i 0
  match q with
  | 0 =>
    if x.on F.THM_COMP_XTAL && !x.clock.aligned then
      match (x.sensor (x.get F.THM_COMP_XSEL)).last with
      | none => x
      | some t =>
        let (up, y) := x.freeBit
        let v := crystalTrim (x.getS F.THM_XTAL_C1) (x.getS F.THM_XTAL_C2) (x.getS F.THM_XTAL_T0) t up
        let (l, hit) := limitTrims 10000 [old 0] [v]
        let y := (y.setTrims 0 l).setRate (l.getD 0 0) now
        if hit then y.fire 42 else y
    else x
  | 1 =>
    if x.on F.THM_COMP_ACB then
      let (l, hit) := limitTrims 2000 [old 1] [trims.getD 0 0]
      if hit then (x.setTrims 1 l).fire 42 else x.setTrims 1 l
    else x
  | 2 =>
    if x.on F.THM_COMP_FCV then
      let (l, hit) := limitTrims 2000 [old 2] [trims.getD 0 0]
      if hit then (x.setTrims 2 l).fire 42 else x.setTrims 2 l
    else x
  | _ =>
    if x.on F.THM_COMP_BIAS then
      let step (i : Nat) : Int := clampI (old (3 + i) - 100) (old (3 + i) + 100) (trims.getD i 0)
      let (l, hit) := limitTrims 4000 [old 3, old 4, old 5] [step 0, step 1, step 2]
      if hit then (x.setTrims 3 l).fire 42 else x.setTrims 3 l
    else x

/-- COMP_UPDATE (R299): the trims of the factory coefficients' models come with the command. -/
def execCompUpdate (d : DieId) (q : Fin 4) (trims : List Int) (s : State) : Host.Outcome State Fault Refusal :=
  onDie d s fun env x => x.compensate q.val trims env.now

end Sys2Proof.Machine
end

