-- ==== Sys2Proof/Machine/RakeRun.lean ====
section
/-!
DEFINITION. The Rake running its program (02_sensor_port_and_rake.md, R56 to R66, R73, R74): microinstructions, markers,
frame ticks, start and stop.  A word acts in six stages, in the order of R58; a command that names one of them carries out
the ones before it first, and the command that ends the word carries out those that are left.
-/

namespace Sys2Proof.Machine

/-! ### Microinstructions (Table 2.6) -/

/-- A microinstruction. -/
structure RakeWord where
  seqop : Nat
  target : Nat
  cycles : Nat
  rowop : Nat
  ldc0 : Bool
  ldc1 : Bool
  rowen : Bool
  biasen : Bool
  blindsel : Bool
  scan : Nat
  mark : Nat
  deriving DecidableEq, Repr

/-- The fields of a 64-bit microinstruction. -/
def rakeWord (w : Nat) : RakeWord :=
  { seqop := bits w 60 4, target := bits w 52 8, cycles := bits w 36 16 + 1, rowop := bits w 33 3, ldc0 := bit w 32
    ldc1 := bit w 31, rowen := bit w 30, biasen := bit w 29, blindsel := bit w 28, scan := bits w 26 2, mark := bits w 22 4 }

/-- A reserved encoding (R59). -/
def RakeWord.reserved (w : RakeWord) : Bool := 6 ≤ w.seqop || 3 ≤ w.rowop || w.scan = 3 || 8 ≤ w.mark

/-- The word of the store that the Rake is in. -/
def Die.rakeNow (x : Die) : RakeWord := rakeWord ((x.rake.store.look (x.get F.SEQ_PC_PC)).getD 0)

/-- The 64 bits of a word of the standard program. -/
def rakeBits (seqop target dur rowop ldc ctl scan mark : Nat) : Nat :=
  seqop * 2 ^ 60 + target * 2 ^ 52 + (dur - 1) * 2 ^ 36 + rowop * 2 ^ 33 + ldc * 2 ^ 31 + ctl * 2 ^ 28 + scan * 2 ^ 26 +
    mark * 2 ^ 22

/-- The standard program (Table 2.9); on an export part the active row's word lasts 4,716 cycles (Table 2.12). -/
def standardProgram (exportPart : Bool) : RegMap :=
  [(0, rakeBits 4 0 1 0 0 0 0 0), (1, rakeBits 0 0 2 0 3 0 0 1), (2, rakeBits 3 2 1113 0 0 0 0 4),
   (3, rakeBits 0 0 2 2 0 3 0 0), (4, rakeBits 0 0 2 0 0 7 0 0),
   (5, rakeBits 0 0 (if exportPart then 4716 else 1206) 0 0 7 1 3), (6, rakeBits 2 8 1 0 0 7 0 0),
   (7, rakeBits 1 11 1 0 0 0 0 0), (8, rakeBits 0 0 1 0 0 3 0 0), (9, rakeBits 0 0 2 1 0 3 0 0),
   (10, rakeBits 1 5 2 0 0 7 0 0), (11, rakeBits 1 0 1 0 0 0 0 2)]

/-! ### Markers (Table 2.8) -/

/-- The FRAME_START marker (R37, R51, R54, R58, R100, R112, R165): a frame still open is abandoned, the frame count
advances, and every block begins the frame. -/
def Die.frameStart (x : Die) (env : Env) (next : List (Nat × Ecc)) : Die :=
  let x := x.abandonFrame env.now
  let n := x.nextFrame
  let settling := x.acb.settleDue
  let fr : ThermFrame :=
    { num := n, gain := x.get F.SEQ_FCFG_GAIN, start := x.timeNs env.now
      flags := { settling := settling, hold := !x.openRest, gap := x.gapDue, graft := x.sieve.graftDue
                 limited := x.boot.limited } }
  let left := x.gapDue && !(List.range 8).any (fun m => x.get (F.CTX_SRC_SRC m) = 0 && x.on (F.CTX_SRC_EN m))
  let y := { x.keepRecords with prevFrame := x.frame, frame := fr, gapDue := left }.onSieve (fun s => { s with graftDue := false })
  let y := y.set64 F.SEQ_FRAME_NUM_LO_NUM F.SEQ_FRAME_NUM_HI_NUM n
  let y := (y.onRake (fun r => { r with frameOpen := true, row := none, frameCyc := some r.cyc, lastFrame := some env.now
                                        blankRow := false, sent := x.leads && x.on F.D2D_STAT_UP })).fire 129
  let y := (y.setB F.ACB_STATE_SETTLING settling).onAcb (fun a =>
    { a with settleDue := false, underSeen := a.underSeen.filter (fun e => e.1 + 1 = n), ovr := a.ovr ++ [(n, 0)]
             comp := if x.on F.THM_COMP_ACB then x.thm.trims.getD 1 0 else 0 })
  let y := if settling then y.fire 178 else y
  let y := (y.latchFpd).onLpc (fun l => { l with frames := l.frames + 1 })
  let y := (y.sieveFrameStart env.now y.openRest).auditFrameStart
  let y := y.clusters.foldl (fun y c => y.cluFrameStart c) y
  let y := y.calFrameStart env.now y.rake.planes
  let y := { y with frame := { y.frame with fpa := y.getS (F.AFE_FPD_TEMP 0), calId := y.get F.CAL_SET_ID_ID
                                            calGen := y.get F.CAL_SET_GEN_GEN
                                            calHash := (List.range 8).map (fun i => y.get (F.CAL_HASH_DIGEST i)) } }
  let y := (y.deliverTrims env.mem (y.get F.SEQ_WIN_ROW0) next env.now).ippFrameStart env
  y.ledFrame.showAcb

/-- The FRAME_END marker (R57, R74): a stop at frame end takes effect. -/
def Die.frameEnd (x : Die) (env : Env) : Die :=
  let y := x.fire 130
  let y :=
    if y.rake.frameOpen then
      let y := y.onRake (fun r => { r with frameOpen := false, row := none, blankRow := false })
      ((y.calFrameEnd env.now).ippFrameEnd env).closeOvr
    else y
  if y.get F.SEQ_PC_STATE = 3 then y.rakeHalt none env.now else y

/-- The CSEL lines, one-hot, in the SEQC cycle that has been reached (R56): the phase of the slot under way; none before the first
CONV edge of a scan. -/
def Die.cselPins (x : Die) : Nat :=
  match x.rake.tail with
  | some (_, o) => 2 ^ (o % 6)
  | none => if x.rake.scanning && x.rake.next ≤ x.rake.cyc / 3 + 1 then 2 ^ (x.rake.off % 6) else 0

/-- The ROW_START marker in a frame (R57, R85, R89, R95): the row's windows open. Outside a frame it opens no row. That the next
row delivered is the one after RA as it stands here, and none after the array's last row, also for programs that change RA
otherwise than by NEXT, is the model's own reading of 'RA as it stands one row earlier' (log entry 95). -/
def Die.rowStart (x : Die) (env : Env) (late : List Nat) (next : List (Nat × Ecc)) : Die :=
  let x := x.onRake (fun k => { k with rowCyc := some k.cyc, held := false })
  if !x.rake.frameOpen then x
  else
    let ra := x.get F.SEQ_ROW_RA
    let y := x.clusters.foldl (fun y c => y.cluRowStart c env.now) x
    let y := y.swapTrims late env.now
    let r : OpenRow :=
      { row := ra, frame := y.frame.num, gain := y.frame.gain, skip := y.get F.ACB_WIN_SKIP, cnt := y.get F.ACB_WIN_CNT
        shift := y.get F.ACB_WIN_SHIFT, lpm := y.on F.ACB_MODE_LPM, lpCore := y.get F.ACB_MODE_LPCORE, trims := y.trm.ring
        clus := y.clusters.map y.cluRow, scan := [], regs := y.live, comp := y.acb.comp, caps := y.rake.caps }
    let y := y.onAcb (fun a => { a with rows := a.rows ++ [r] })
    let y := (y.onRake (fun k => { k with row := some ra, blankRow := false })).addScan x.rakeNow.cycles
    if ra < y.get F.SEQ_ARRAY_ROWS_M1 then y.deliverTrims env.mem (ra + 1) next env.now else y

/-- The SEQC cycle from which R61 lets a ROW_START be emitted: 600 cycles after the last one, 1,125 after the frame's
FRAME_START. -/
def Die.rowFrom (x : Die) : Nat :=
  max (match x.rake.rowCyc with | some t => t + 600 | none => 0)
    (match x.rake.frameCyc with | some t => if x.rake.frameOpen then t + 1125 else 0 | none => 0)

/-- The time of R61 has not passed. -/
def Die.rowTooSoon (x : Die) : Bool := x.rake.cyc < x.rowFrom

/-! ### The stages of a word (R58) -/

/-- The pins' levels that the word asks for. -/
def Die.rakeLevels (x : Die) (w : RakeWord) : Die :=
  x.onRake (fun r => { r with rowen := w.rowen, biasen := w.biasen, blindsel := w.blindsel })

/-- The boundary that a word's marker makes, before its ROWOP and LDC act (R37, R293). -/
def Die.wordBoundary (x : Die) (w : RakeWord) (now : Nat) : Die :=
  if w.mark = 1 then
    let y := (x.commitBoundary 0 x.nextFrame now).throttleBoundary (rakePages.filter x.commitPending) now
    y.onRake (fun r => { r with planes := (List.range 3).any (fun k => x.planeBase k != y.planeBase k) })
  else if w.mark = 3 && x.rake.frameOpen then x.commitBoundary 1 x.frame.num now
  else x

/-- A word's ROWOP; a row address outside the array is a fault (R59). -/
def Die.rowop (x : Die) (w : RakeWord) (now : Nat) : Die :=
  let top := x.get F.SEQ_ARRAY_ROWS_M1
  let go (ra : Nat) : Die := if top < ra then x.rakeHalt (some 2) now else x.set F.SEQ_ROW_RA ra
  if w.rowop = 1 then go (x.get F.SEQ_ROW_RA + 1) else if w.rowop = 2 then go (x.get F.SEQ_WIN_ROW0) else x

/-- A word's SCAN (R56): scanning begins at the first CONV edge at or after the word's start; a slot under way there ends at that edge,
with its sample. -/
def Die.scanOp (x : Die) (w : RakeWord) : Die :=
  x.onRake (fun r =>
    let edge := (r.cyc + 2) / 3
    let under := r.scanning && r.cyc % 3 != 0 && r.next ≤ edge
    if w.scan = 2 && r.scanning then r
    else
      let off := if under then r.off + 1 else r.off
      { r with scanning := w.scan = 1 || w.scan = 2, off := if w.scan = 1 then 0 else off, next := edge + 1
               tail := if under then some (edge, r.off) else r.tail })

/-- A word's marker. -/
def Die.marker (x : Die) (env : Env) (w : RakeWord) (late : List Nat) (next : List (Nat × Ecc)) : Die :=
  match w.mark with
  | 1 => x.frameStart env next
  | 2 => x.frameEnd env
  | 3 =>
    if x.rowTooSoon then (x.onRake (fun r => { r with held := true })).fire 138 else x.rowStart env late next
  | 4 => ((x.onRake (fun r => { r with blankRow := true })).startRound w.cycles env.now).bgWord w.cycles
  | 5 => x.fire 131
  | 6 => x.fire 132
  | 7 => x.fire 133
  | _ => x

/-- One stage of the word in force; the samples of the word belong to the row that is open after its marker (R57). For a ROW_START that is held afterwards, the row boundary's commits, ROWOP and LDC have
acted as the word began, with its outputs: the model's own reading of R58 and R61 (log entry 95). -/
def Die.stage1 (x : Die) (env : Env) (late : List Nat) (next : List (Nat × Ecc)) : Die :=
  let w := x.rakeNow
  let y := x.onRake (fun r => { r with begun := r.begun + 1 })
  match x.rake.begun with
  | 0 => y.wordBoundary w env.now
  | 1 => y.rowop w env.now
  | 2 => if w.ldc0 then y.set F.SEQ_CNT_C0 (y.get F.SEQ_WIN_ROWS_M1 + 1) else y
  | 3 => if w.ldc1 then y.set F.SEQ_CNT_C1 (y.get F.SEQ_LOOP1_COUNT) else y
  | 4 => y.scanOp w
  | 5 =>
    let z := y.marker env w late next
    if w.mark = 3 || !z.rakeRuns then z else z.addScan w.cycles
  | _ => x

/-- The stages up to a number carried out, while the Rake runs. -/
def Die.stages (x : Die) (env : Env) (upto : Nat) (late : List Nat) (next : List (Nat × Ecc)) : Nat → Die
  | 0 => x
  | n + 1 => if x.rakeRuns && x.rake.begun < upto then (x.stage1 env late next).stages env upto late next n else x

/-- A command that names a stage of the word in force, where the word has it and it has not acted yet. -/
def Die.nameStage (x : Die) (env : Env) (stage : Nat) (has : RakeWord → Bool) (late : List Nat := [])
    (next : List (Nat × Ecc) := []) : Die :=
  if x.rakeRuns && !x.rake.held && x.rake.begun ≤ stage && has x.rakeNow then x.stages env (stage + 1) late next 6 else x

/-! ### The flow of words (Table 2.7) -/

/-- A word of the store begins: how it reads is checked first (R59, R61). -/
def Die.enterWord (x : Die) (pc : Nat) (ecc : Ecc) (now : Nat) : Die :=
  let y := (x.set F.SEQ_PC_PC pc).onRake (fun r => { r with begun := 0, held := false, early := false })
  let y := if y.get F.SEQ_PC_STATE = 2 then y.set F.SEQ_PC_STATE 1 else y
  match ecc with
  | .uncorrectable => (y.count (F.ERR_CNT_UNCORR 0x20)).rakeHalt (some 3) now
  | e =>
    let y := if e = .corrected then (y.count (F.ERR_CNT_CORR 0x20)).fire 141 else y
    if y.rakeNow.reserved then y.rakeHalt (some 1) now else y.rakeLevels y.rakeNow

/-- The tick that a WAIT_FRAME word waited for: the next word begins at the CONV edge of the tick, the waiting taken from the
model's time at 0.6 SEQC cycles a PERI cycle. -/
def Die.passWait (x : Die) (now : Nat) : Die :=
  let n := (now - x.rake.waitAt) * 3 / 5
  let m := (x.rake.cyc + n + 2) / 3 * 3 - x.rake.cyc
  (x.addScan m).pass m

/-- The word in force ends with the flow operation named: what is left of it acts, and the flow goes on. A stop at frame end that is
still to come goes on waiting for a FRAME_END in a WAIT_FRAME word that the Rake enters after it: that 'at once' of R74 speaks
of the moment at which EN is written 0 is the model's own reading (log entry 95). -/
def Die.endWord (x : Die) (env : Env) (op : Nat) (ecc : Ecc) : Die :=
  let w := x.rakeNow
  if !x.rakeRuns || x.rake.held || 7 ≤ x.rake.begun || w.seqop != op then x
  else
    let y := x.stages env 6 [] [] 6
    if !y.rakeRuns || y.rake.held then y
    else
      let y := y.pass w.cycles
      let pc := y.get F.SEQ_PC_PC
      let fall := (pc + 1) % 256
      let loop (f : Fld) : Die :=
        let c := y.get f - 1
        (y.set f c).enterWord (if c ≠ 0 then w.target else fall) ecc env.now
      match op with
      | 0 => y.enterWord fall ecc env.now
      | 1 => y.enterWord w.target ecc env.now
      | 2 => loop F.SEQ_CNT_C0
      | 3 => loop F.SEQ_CNT_C1
      | 4 =>
        if y.rake.early then y.enterWord fall ecc env.now
        else if y.rake.tick then
          (((y.onRake (fun r => { r with tick := false })).count F.SEQ_TICK_ERR_LATE).fire 134).enterWord fall ecc env.now
        else
          let y := y.onRake (fun r => { r with begun := 7, waitAt := env.now })
          if y.get F.SEQ_PC_STATE = 1 then y.set F.SEQ_PC_STATE 2 else y
      | _ => y.rakeHalt none env.now

/-- SEQOP_NEXT (R58). -/
def execSeqopNext (d : DieId) (ecc : Ecc) (s : State) : Host.Outcome State Fault Refusal :=
  onDie d s fun env x => x.endWord env 0 ecc

/-- SEQOP_JUMP (R58). -/
def execSeqopJump (d : DieId) (ecc : Ecc) (s : State) : Host.Outcome State Fault Refusal :=
  onDie d s fun env x => x.endWord env 1 ecc

/-- SEQOP_LOOP0 (R58). -/
def execSeqopLoop0 (d : DieId) (ecc : Ecc) (s : State) : Host.Outcome State Fault Refusal :=
  onDie d s fun env x => x.endWord env 2 ecc

/-- SEQOP_LOOP1 (R58). -/
def execSeqopLoop1 (d : DieId) (ecc : Ecc) (s : State) : Host.Outcome State Fault Refusal :=
  onDie d s fun env x => x.endWord env 3 ecc

/-- SEQOP_WAIT_FRAME (R65). -/
def execSeqopWaitFrame (d : DieId) (ecc : Ecc) (s : State) : Host.Outcome State Fault Refusal :=
  onDie d s fun env x => x.endWord env 4 ecc

/-- SEQOP_STOP (R74). -/
def execSeqopStop (d : DieId) (s : State) : Host.Outcome State Fault Refusal :=
  onDie d s fun env x => x.endWord env 5 .clean

/-- ROWOP_NEXT (R58). -/
def execRowopNext (d : DieId) (s : State) : Host.Outcome State Fault Refusal :=
  onDie d s fun env x => x.nameStage env 1 (fun w => w.rowop = 1)

/-- ROWOP_FIRST (R58). -/
def execRowopFirst (d : DieId) (s : State) : Host.Outcome State Fault Refusal :=
  onDie d s fun env x => x.nameStage env 1 (fun w => w.rowop = 2)

/-- LOAD_C0 (R58). -/
def execLoadC0 (d : DieId) (s : State) : Host.Outcome State Fault Refusal :=
  onDie d s fun env x => x.nameStage env 2 (fun w => w.ldc0)

/-- LOAD_C1 (R58). -/
def execLoadC1 (d : DieId) (s : State) : Host.Outcome State Fault Refusal :=
  onDie d s fun env x => x.nameStage env 3 (fun w => w.ldc1)

/-- SCAN_RUN (R56). -/
def execScanRun (d : DieId) (s : State) : Host.Outcome State Fault Refusal :=
  onDie d s fun env x => x.nameStage env 4 (fun w => w.scan = 1)

/-- SCAN_CONTINUE (R56). -/
def execScanContinue (d : DieId) (s : State) : Host.Outcome State Fault Refusal :=
  onDie d s fun env x => x.nameStage env 4 (fun w => w.scan = 2)

/-- SCAN_STOP (R56). -/
def execScanStop (d : DieId) (s : State) : Host.Outcome State Fault Refusal :=
  onDie d s fun env x => x.nameStage env 4 (fun w => w.scan = 0)

/-- FRAME_START (R58). -/
def execFrameStart (d : DieId) (next : List (Nat × Ecc)) (s : State) : Host.Outcome State Fault Refusal :=
  onDie d s fun env x => x.nameStage env 5 (fun w => w.mark = 1) [] next

/-- FRAME_END (R57). -/
def execFrameEnd (d : DieId) (s : State) : Host.Outcome State Fault Refusal :=
  onDie d s fun env x => x.nameStage env 5 (fun w => w.mark = 2)

/-- ROW_START (R61). -/
def execRowStart (d : DieId) (late : List Nat) (next : List (Nat × Ecc)) (s : State) : Host.Outcome State Fault Refusal :=
  onDie d s fun env x => x.nameStage env 5 (fun w => w.mark = 3) late next

/-- BLANK_ROW (R91). -/
def execBlankRow (d : DieId) (s : State) : Host.Outcome State Fault Refusal :=
  onDie d s fun env x => x.nameStage env 5 (fun w => w.mark = 4)

/-- USER_MARKER (R58). -/
def execUserMarker (d : DieId) (s : State) : Host.Outcome State Fault Refusal :=
  onDie d s fun env x => x.nameStage env 5 (fun w => 5 ≤ w.mark && w.mark ≤ 7)

/-- A held ROW_START is emitted once its time has come: what has been scanned until then belongs to the row before it. -/
def Die.rowRelease (x : Die) (env : Env) (late : List Nat) (next : List (Nat × Ecc)) : Die :=
  let n := x.rowFrom - x.rake.cyc
  ((x.addScan n).pass n).rowStart env late next

/-- ROW_START_RELEASE (R61). -/
def execRowStartRelease (d : DieId) (late : List Nat) (next : List (Nat × Ecc)) (s : State) :
    Host.Outcome State Fault Refusal :=
  onDie d s fun env x =>
    if x.rakeRuns && x.rake.held then x.rowRelease env late next else x

/-- RAKE_STALL (R60). -/
def execRakeStall (d : DieId) (s : State) : Host.Outcome State Fault Refusal :=
  onDie d s fun env x => x.rakeHalt (some 4) env.now

/-! ### Frame ticks (R63 to R66) -/

/-- The Rake starts at SEQ_CTRL.START: the fault recorded last is cleared, the external tick divider starts its count again
(which R63 leaves open, with its counting on while the Rake is stopped; log entry 95), and the SEQC cycles are counted from a
CONV edge. -/
def Die.rakeBegin (x : Die) (ecc : Ecc) (now : Nat) : Die :=
  let y := ((x.configure (List.range 13)).set F.SEQ_FAULT_CAUSE 0).cond 139 false
  let y := (y.set F.SEQ_CTRL_EN 1).set F.SEQ_PC_STATE 1
  let y := y.onRake (fun r => { r with tick := false, early := false, held := false, again := false, cyc := 0, waitAt := 0
                                       frameCyc := none, rowCyc := none, divided := 0, scanning := false, tail := none, off := 0
                                       caps := {} })
  let y := y.onCal (fun c => { c with rakeAt := some (c.rakeAt.getD now) })
  y.enterWord (y.get F.SEQ_CTRL_START) ecc now

/-- The first tick after the bias is back restarts the Rake (R75); a WAIT_FRAME word at START has then had its tick. -/
def Die.restartRake (x : Die) (ecc : Ecc) (now : Nat) : Die :=
  let y := x.rakeBegin ecc now
  if y.rakeRuns && y.rakeNow.seqop = 4 then y.onRake (fun r => { r with early := true }) else y

/-- A frame tick reaches the Rake (R65): a stopped Rake discards it. -/
def Die.tickIn (x : Die) (ecc : Ecc) (now : Nat) : Die :=
  if !x.rakeRuns then x
  else if x.rake.again then x.restartRake ecc now
  else if 7 ≤ x.rake.begun then (x.passWait now).enterWord ((x.get F.SEQ_PC_PC + 1) % 256) ecc now
  else if x.rake.tick || x.rake.early then (x.count F.SEQ_TICK_ERR_MISSED).fire 135
  else if x.rakeNow.seqop = 4 then x.onRake (fun r => { r with early := true })
  else x.onRake (fun r => { r with tick := true })

/-- The frame timer ticks for the Rake: it is the source, or stands in for a lost one (R63, R64). -/
def Die.timerTicks (x : Die) : Bool := !x.on F.SEQ_SYNC_SRC || x.evRaw.getLsbD 136

/-- This unit is the master of its chain and sends FRAME_SYNC (R370). -/
def Die.sendsSync (x : Die) : Bool := x.on F.TRL_MASTER_FS_EN && x.on F.TRL_ADDR_MASTER && x.on F.SYS_IDENT_LEAD

/-- On an export part, less than 5,555,556 CONV cycles have passed since an instant (R66). -/
def Die.exportSoon (x : Die) (t : Option Nat) (now : Nat) : Bool :=
  x.on F.SEQ_LIMITS_EXPORT && (match t with | some t => decide (now < t + 27777780) | none => false)

/-- FRAME_TICK (R63, R66, R370): a master with FS_EN sends FRAME_SYNC at it. -/
def execFrameTick (d : DieId) (ecc : Ecc) (s : State) : Host.Outcome State Fault Refusal :=
  onDie d s fun env x =>
    if x.exportSoon x.rake.timerAt env.now then x
    else
    let x := x.onRake (fun r => { r with timerAt := some env.now })
    let y := if x.sendsSync then
        { x.send .frameSync with trl := { x.trl with ticks := x.trl.ticks ++ [env.now * 4 + 1000 * x.get F.TRL_TIMING_LEAD] } }
      else x
    if y.timerTicks then y.tickIn ecc env.now else y

/-- An external tick (R63 to R66): every (DIV_M1 + 1)th is used; a stopped Rake discards it, and R64 does not watch for it; an
export part does not use one too close to the previous frame start. -/
def Die.externalTick (x : Die) (ecc : Ecc) (now : Nat) : Die :=
  if !x.on F.SEQ_SYNC_SRC then x
  else if x.rake.divided < x.get F.SEQ_SYNC_DIV_M1 then x.onRake (fun r => { r with divided := r.divided + 1 })
  else
    let y := x.onRake (fun r => { r with divided := 0 })
    if !y.rakeRuns || y.exportSoon y.rake.lastFrame now then y
    else
      let y := if y.evRaw.getLsbD 136 then (y.cond 136 false).fire 137 else y
      y.tickIn ecc now

/-- The lead die's frame start arrives at the other die, over a link that is up (R19, R63, R376). -/
def Die.fedTick (x peer : Die) : Bool := !x.leads && peer.leads && peer.rake.sent && x.on F.D2D_STAT_UP

/-- EXTERNAL_TICK: on the lead die, the chain tick that a FRAME_SYNC has set (R370); on the other, the lead die's frame
start. -/
def execExternalTick (d : DieId) (ecc : Ecc) (s : State) : Host.Outcome State Fault Refusal :=
  let fed := (s.die d).fedTick (s.die d.other)
  onBoth d s
    (fun env x =>
      if !x.leads then (if fed then x.externalTick ecc env.now else x)
      else match x.trl.ticks with
        | [] => x
        | _ :: rest => ({ x with trl := { x.trl with ticks := rest } }).externalTick ecc env.now)
    (fun _ x => if fed then x.onRake (fun r => { r with sent := false }) else x)

/-- SYNC_LOST (R64): the frame timer makes the tick itself, on an export part no sooner than R66 lets it. -/
def execSyncLost (d : DieId) (ecc : Ecc) (s : State) : Host.Outcome State Fault Refusal :=
  onDie d s fun env x =>
    if x.on F.SEQ_SYNC_SRC && x.rakeRuns && !x.evRaw.getLsbD 136 && !x.exportSoon x.rake.timerAt env.now then
      ((x.onRake (fun r => { r with timerAt := some env.now })).cond 136 true).tickIn ecc env.now
    else x

/-! ### The store, start and stop (R62, R73, R74) -/

/-- The byte offset of the microinstruction store in BAR0. -/
def rakeStoreAt : Nat := 0x100000

/-- A write of half a microinstruction: low word first, whole when the high word lands (R5, R62). -/
def Die.rakeCode (x : Die) (addr val : Nat) : Die :=
  if addr < rakeStoreAt || rakeStoreAt + 2048 ≤ addr then x
  else if addr % 4 != 0 || x.rakeRuns then x.accErr 0x20
  else
    let w := (addr - rakeStoreAt) / 8
    if (addr - rakeStoreAt) % 8 < 4 then x.onRake (fun r => { r with low := some (w, val % 2 ^ 32) })
    else
      let lo := match x.rake.low with
        | some (k, v) => if k = w then v else (x.rake.store.look w).getD 0 % 2 ^ 32
        | none => (x.rake.store.look w).getD 0 % 2 ^ 32
      x.onRake (fun r => { r with store := r.store.put w (val % 2 ^ 32 * 2 ^ 32 + lo), low := none })

/-- RAKE_CODE_WRITE (R62). -/
def execRakeCodeWrite (d : DieId) (_q : Requester) (addr val : Nat) (s : State) : Host.Outcome State Fault Refusal :=
  onDie d s fun _ x => x.rakeCode addr val

/-- EN written 1 (R73): refused without bias; while a stop at frame end is still to come, the stop is withdrawn. -/
def Die.rakeEnable (x : Die) (ecc : Ecc) (now : Nat) : Die :=
  if x.rakeRuns then
    if x.get F.SEQ_PC_STATE = 3 then (x.set F.SEQ_CTRL_EN 1).set F.SEQ_PC_STATE (if 7 ≤ x.rake.begun then 2 else 1) else x
  else if !x.takes 0x20 then x.accErr 0x20
  else if (x.outGood .vdet && x.outGood .vblind) || x.on F.SEQ_CTRL_NOBIAS then x.rakeBegin ecc now
  else x.accErr 0x20

/-- RAKE_START (R73). -/
def execRakeStart (d : DieId) (ecc : Ecc) (s : State) : Host.Outcome State Fault Refusal :=
  onDie d s fun env x => x.rakeEnable ecc env.now

/-- EN written 0 (R74); `atOnce` is STOPMODE 1. -/
def Die.rakeDisable (x : Die) (atOnce : Bool) (now : Nat) : Die :=
  if !x.rakeRuns then x
  else if atOnce || x.rake.again || x.rakeNow.seqop = 4 then x.rakeHalt none now
  else (x.set F.SEQ_CTRL_EN 0).set F.SEQ_PC_STATE 3

/-- RAKE_STOP (R74). -/
def execRakeStop (d : DieId) (s : State) : Host.Outcome State Fault Refusal :=
  onDie d s fun env x => x.rakeDisable (x.on F.SEQ_CTRL_STOPMODE) env.now

end Sys2Proof.Machine
end

