-- ==== Sys2Proof/Machine/Grafting.lean ====
section
/-!
DEFINITION. Targeted self-tests, grafts and their table, host requests, wear, and the processor cores
(15_errors_self_test_and_grafting.md, R404 to R417; R27, R41).
-/

namespace Sys2Proof.Machine

/-! ### Wear (Table 15.6) -/

/-- Spare rows of an SRAM bank that are in use. -/
def Spr.rowsUsed (s : Spr) (bank : Nat) : Nat := ((s.sramUsed.find? (fun e => e.1 = bank)).map (·.2)).getD 0

/-- Spare rows left in the bank with fewest. -/
def Spr.rowsLeft (s : Spr) : Nat :=
  (List.range Config.sramBanks).foldl (fun m b => min m (Config.sramSpares b - s.rowsUsed b)) (Config.sramSpares 0)

/-- A wear figure is set. -/
def Die.wearFigure (x : Die) (n : Nat) : Bool :=
  match n with
  | 0 => x.evRaw.getLsbD 344
  | 1 => x.sweepWorn
  | 2 => x.sweepGrows
  | 3 => x.get F.SPR_WEAR_LIM_CORES ≤ (x.nvs.grafts.filter (fun e => e.2.type = 1)).length
  | 4 => x.sparesWorn
  | 5 => x.trimWorn
  | 6 => x.serversWorn
  | 7 => x.spr.rowsLeft ≤ x.get F.SPR_WEAR_LIM_SRAM
  | 8 => x.evRaw.getLsbD 71
  | _ => 4 * (Config.dramSpares - x.spr.dramUsed) < Config.dramSpares

/-- SPR_WEAR and WEAR (R414). -/
def Die.showWear (x : Die) : Die :=
  let v := maskOf 10 x.wearFigure
  (x.set F.SPR_WEAR_FIG v).cond 612 (v != 0)

/-- SPR_SPARES: what is left to be grafted. -/
def Die.showSpares (x : Die) : Die :=
  (((x.set F.SPR_SPARES_SRAM x.spr.rowsLeft).setB F.SPR_SPARES_CORE (x.get F.PRC_MAP_SPARE != 7)).setB F.SPR_SPARES_SLICE
    (!x.sliceOut 4 && x.sieve.spareFor.isNone)).set F.SPR_SPARES_CLU (x.clusters.filter x.spareFree).length

/-! ### The processor cores (R27, R410, Table 1.7) -/

/-- The field of PRC_MAP that names a job's core. -/
def F.jobCore (j : Nat) : Fld :=
  match j with | 0 => F.PRC_MAP_MP | 1 => F.PRC_MAP_CP | 2 => F.PRC_MAP_LP | _ => F.PRC_MAP_EP

/-- The job that a core runs. -/
def Die.jobOf (x : Die) (core : Nat) : Option Nat := [0, 1, 2, 3].find? (fun j => x.get (F.jobCore j) = core)

/-- A watchdog source of a job (Table 11.1, RST_CAUSE.DETAIL). -/
def watchdogSource (core : Nat) : ResetSource := { order := 6, reach := 3, cause := 5, detail := core, held := false }

/-- The calibration job is handed over: an event in progress is abandoned and stays due (Table 1.7). -/
def Die.handOverCal (x : Die) (now : Nat) : Die :=
  let host := x.cal.event.isSome && x.get F.CAL_STATE_REASON = 5
  (x.calAbandon 5 now).onCal (fun c => { c with hostDue := c.hostDue || host })

/-- The core left without a spare: the one that failed now, unless the core whose job the spare is loading failed in the same
PERI cycle and has the higher number (R405). -/
def Die.spareGoes (x : Die) (core now : Nat) : Nat :=
  if x.boot.down.isEmpty then core
  else match x.spr.inventory.find? (fun r => r.type = 4 && !r.lasting && r.since = now && core < r.inst) with
    | some r => r.inst
    | none => core

/-- A core leaves service (R27): a spare takes its job, or there is none and the watchdog source is asserted, also where the
core is the spare that was loading a job's image. -/
def Die.loseCore (x : Die) (env : Env) (core cause : Nat) : Die :=
  let spare := x.get F.PRC_MAP_SPARE
  match x.jobOf core with
  | none =>
    if x.get (F.PRC_CORE_CORE core) = 2 then
      match x.boot.down with
      | _ :: _ => x.assertSource env (watchdogSource core)
      | [] => x.resError 4 core cause env.now
    else if spare = core then ((x.resError 4 core cause env.now).set F.PRC_MAP_SPARE 7).set (F.PRC_CORE_CORE core) 3
    else x.resError 4 core cause env.now
  | some j =>
    if spare = 7 then x.assertSource env (watchdogSource (x.spareGoes core env.now))
    else
      let y := (x.resError 4 core cause env.now).set (F.PRC_CORE_CORE core) 3
      let y := ((y.set F.PRC_MAP_SPARE 7).set (F.PRC_CORE_CORE spare) 2).onBoot (fun b => { b with down := b.down ++ [j] })
      if j = 1 then y.handOverCal env.now else y

/-- WATCHDOG_EXPIRY (R27, R416). -/
def execWatchdogExpiry (d : DieId) (core : Fin 5) (s : State) : Host.Outcome State Fault Refusal :=
  onDie d s fun env x =>
    if !x.boot.cores then x else ((x.count F.PRC_WDOG_EXPIRIES).fire 621).loseCore env core.val 4

/-- CORE_MEM_UNCORR (R27). -/
def execCoreMemUncorr (d : DieId) (core : Fin 5) (s : State) : Host.Outcome State Fault Refusal :=
  onDie d s fun env x => if !x.boot.cores then x else x.loseCore env core.val 5

/-- The commands that were in flight at a job's core complete with status RESTARTED (Table 1.7). -/
def Die.restartMailboxes (x : Die) (j : Nat) : Die :=
  let mine (n : Nat) : Bool := mbxJob n = j
  let y := x.onNvs (fun s => { s with
    queue := s.queue.map (fun r => match r.tag with | .mbx n _ _ => if mine n then { r with tag := .none } else r | _ => r)
    doing := s.doing.map (fun r => match r.tag with | .mbx n _ _ => if mine n then { r with tag := .none } else r | _ => r) })
  let y := if j = 1 then y.onCal (fun c => { c with hashMbx := false, recordMbx := false, host := none })
           else if j = 3 then y.onEvd (fun e => { e with closeAsk := false, sealAsk := false
                                                         queue := e.queue.map (fun r => { r with ask := false }) })
           else y
  (List.range 8).foldl (fun y n =>
    if mine n && y.on (F.MBX_RSP_BUSY n) && !(y.mbx.getD n {}).waiting then y.mbxResult n 4 0 else y) y

/-! ### Memory rows (Table 15.1) -/

/-- An SRAM row goes onto a spare row of its bank (R404, R407). -/
def Die.graftSram (x : Die) (inst cause now : Nat) : Die :=
  let b := inst / 1024
  ((x.resError 5 inst cause now).onSpr (fun s => { s with sramUsed := assocPut s.sramUsed b (s.rowsUsed b + 1) })).markGraft

/-- SRAM_ROW_ERROR (R404): the row goes onto a spare row of its bank; without one it stays in service, unless the last spare row
went to a higher row in the same PERI cycle, which then stays (R405). -/
def execSramRowError (d : DieId) (bank row : Nat) (s : State) : Host.Outcome State Fault Refusal :=
  onDie d s fun env x =>
    let inst := bank % 1024 * 1024 + row % 1024
    let b := bank % 1024
    match x.resource? 5 inst with
    | some _ => x.resError 5 inst 5 env.now
    | none =>
      if x.spr.rowsUsed b < Config.sramSpares b then (x.graftSram inst 5 env.now).showWear
      else match x.spr.inventory.find? (fun r => r.type = 5 && r.inst / 1024 = b && r.since = env.now && r.waiting && inst < r.inst) with
        | some r =>
          ((x.onSpr (fun s => { (s.remove 5 r.inst) with sramUsed := assocPut s.sramUsed b (s.rowsUsed b - 1) })).graftSram inst 5
            env.now).showWear
        | none => x

/-- A fault has proved lasting, and the wear figures show it. -/
def Die.makeLasting (x : Die) (r : Resource) (cause outcome : Nat) : Die := (x.classLasting r cause outcome).showWear

/-- A forced block reset has ended (Table 15.2): the fault of its block is transient, or lasting by R409. -/
def Die.blockFault (x : Die) (p now : Nat) : Die :=
  match x.resource? 9 p with
  | some r =>
    if r.lasting then x
    else if x.repeats r now then x.makeLasting r 8 3
    else (x.noteTransient 9 p now).resBack 9 p
  | none => x

/-- DRAM_ROW_ERROR (R404): an uncorrectable error, or the fourth corrected one of a row within 1 s, spares the row. -/
def execDramRowError (d : DieId) (row : Nat) (uncorr : Bool) (s : State) : Host.Outcome State Fault Refusal :=
  onDie d s fun env x =>
    let recent := x.spr.dramCorr.filter (fun e => env.now < e.2.1 + 250000000)
    let hits := (recent.filter (fun e => e.1 = row)).length + 1
    let y := x.onSpr (fun s => { s with dramCorr := if uncorr then recent else recent ++ [(row, env.now, 0)] })
    if (uncorr || 4 ≤ hits) && (x.resource? 8 row).isNone && x.spr.dramUsed < Config.dramSpares then
      let y := (y.resError 8 row 5 env.now).onSpr (fun s =>
        { s with dramUsed := s.dramUsed + 1, dramCorr := s.dramCorr.filter (fun e => e.1 != row) })
      let y := y.markGraft
      match y.resource? 8 row with
      | some r => y.makeLasting r 5 2
      | none => y
    else y

/-! ### Tests (R408 to R410) -/

/-- A waiting resource may be tested: no targeted self-test runs in a cluster that does not convert (R439), and a slice's runs
while another slice serves its region (Table 15.2). -/
def Die.testable (x : Die) (r : Resource) : Bool :=
  let chan := if r.type = 1 then r.inst / 2 else r.inst
  r.waiting && (r.type != 3 || x.sliceOut r.inst) && ((r.type != 1 && r.type != 2) || x.converts (if chan < 512 then chan / 16 else chan - 512))

/-- The resource that has waited longest; the lower type and instance among equals (R405, R408). -/
def Die.nextTest (x : Die) : Option Resource :=
  (x.spr.inventory.filter x.testable).foldl (fun best r => match best with
    | none => some r
    | some b => if (r.since, r.type, r.inst) = (b.since, b.type, b.inst) then some b
                else if r.since < b.since || (r.since = b.since && (r.type < b.type || (r.type = b.type && r.inst < b.inst))) then some r
                else some b) none

/-- TEST_START (R408). -/
def execTestStart (d : DieId) (s : State) : Host.Outcome State Fault Refusal :=
  onDie d s fun env x =>
    if x.on F.STS_STATE_BUSY || !x.takes 0x0B then x
    else match x.nextTest with
      | none => x
      | some r =>
        let y := x.onSpr (fun s => { s.replace { r with waiting := false, testing := true, spoilt := false } with testAt := env.now })
        let y := if r.type = 4 then y.set (F.PRC_CORE_CORE r.inst) 3 else y
        (((y.set F.STS_STATE_BUSY 1).set F.STS_STATE_TYPE r.type).set F.STS_STATE_INSTANCE r.inst).showWaiting

/-- A resource returns to service at the boundary of Table 15.2, and its spare is released. -/
def Die.returnResource (x : Die) (r : Resource) : Die :=
  let gone := (x.onSpr (fun s => s.remove r.type r.inst)).showWaiting
  let chan := if r.type = 1 then r.inst / 2 else r.inst
  let c := if chan < 512 then chan / 16 else chan - 512
  let j := if chan < 512 then chan % 16 else 16
  match r.type with
  | 1 => gone.onClu c (fun k => { k with returning := k.returning ++ [(j, r.inst % 2)] })
  | 2 => gone.onClu c (fun k => { k with restoring := k.restoring ++ [j] })
  | 3 => gone.onSieve (fun v => { v with returning := v.returning.filter (· != r.inst) ++ [r.inst] })
  | 4 => ((x.set F.PRC_MAP_SPARE r.inst).set (F.PRC_CORE_CORE r.inst) 1).resBack 4 r.inst
  | 5 =>
    let b := r.inst / 1024
    (x.onSpr (fun s => { s with sramUsed := assocPut s.sramUsed b (s.rowsUsed b - 1) })).resBack 5 r.inst
  | t => x.resBack t r.inst

/-- A fault's entry in the graft table is freed, and the header written after it (R412, R415). -/
def Die.freeEntry (x : Die) (ty inst : Nat) : Die :=
  let y := x.onSpr (fun s => { s with toWrite := s.toWrite.filter (fun e => !(e.1 = ty && e.2.1 = inst)) })
  match y.nvs.grafts.find? (fun e => e.2.type = ty && e.2.inst = inst) with
  | some (i, _) =>
    ((y.nvsRequest 3 (.page (graftPage + 1 + i / 4) (16 * (i % 4)) (bytesLE 1 0))).writeGraftHeader.showTable).cond 611 false
  | none => y

/-- A host request is complete (R415). -/
def Die.requestDone (x : Die) (status : Nat) : Die :=
  (((x.onSpr (fun s => { s with request := none })).set F.SPR_REQ_STAT_STATUS status).set F.SPR_REQ_STAT_BUSY 0).fire 613

/-- A running test ends with an outcome of STS_RESULT: 1 pass, 2 fail, 3 over its limit (R408, R409, R415). -/
def Die.endTest (x : Die) (outcome detail now : Nat) : Die :=
  match x.spr.inventory.find? (fun r => r.testing) with
  | none => x
  | some r =>
    let outcome := if outcome = 1 && r.spoilt then 2 else outcome
    let y := ((((x.set F.STS_RESULT_VALID 1).set F.STS_RESULT_OUTCOME outcome).set F.STS_RESULT_TYPE r.type).set
      F.STS_RESULT_DETAIL (if outcome = 1 || 4 ≤ r.type then 0 else detail)).set F.STS_RESULT_INSTANCE r.inst
    let y := (y.set F.STS_TIME_US (min 0xFFFFF ((now - x.spr.testAt) / 250))).set F.STS_STATE_BUSY 0
    let y := if outcome = 1 then y.count F.STS_CNT_PASSES else y.count F.STS_CNT_FAILS
    let y := y.fire (if outcome = 3 then 616 else 615)
    let y :=
      if r.hostTest then
        if outcome = 1 then ((y.freeEntry r.type r.inst).returnResource r).requestDone 0
        else (y.onSpr (fun s => s.replace { r with testing := false, spoilt := false, hostTest := false })).requestDone 2
      else if outcome = 1 then
        if y.repeats r now then y.makeLasting r 8 3 else (y.noteTransient r.type r.inst now).returnResource r
      else y.makeLasting r r.cause 2
    (if r.type = 3 && !y.sieve.returning.contains r.inst then y.nextTwin r.inst now else y).showNoSpare.showWear

/-- TEST_DONE (R408). -/
def execTestDone (d : DieId) (pass : Bool) (detail : Nat) (s : State) : Host.Outcome State Fault Refusal :=
  onDie d s fun env x => if x.on F.STS_STATE_BUSY then x.endTest (if pass then 1 else 2) detail env.now else x

/-- TEST_STALL (R408). -/
def execTestStall (d : DieId) (s : State) : Host.Outcome State Fault Refusal :=
  onDie d s fun env x => if x.on F.STS_STATE_BUSY then x.endTest 3 0 env.now else x

/-! ### The graft table (R412) -/

/-- The spare that an entry names (Table 15.4). -/
def Die.spareByte (x : Die) (ty inst : Nat) : Nat :=
  if ty = 2 then 512 + (if inst < 512 then inst / 16 else inst - 512)
  else if ty = 3 then (if inst < 4 then x.sliceOf inst else 0xFF)
  else if ty = 4 then (match (List.range 5).find? (fun k => x.get (F.PRC_CORE_CORE k) = 2) with
    | some k => k
    | none => ((List.range 4).map (fun j => x.get (F.jobCore j))).foldl max 0)
  else 0xFF

/-- The MP writes the oldest waiting fault into the first free entry, then the header; a full table drops it. -/
def Die.writeGraft (x : Die) (now : Nat) : Die :=
  match x.spr.toWrite with
  | [] => x
  | (ty, inst, cause) :: rest =>
    let y := x.onSpr (fun s => { s with toWrite := rest })
    if !x.on F.SPR_CTRL_PERSIST then y
    else match (List.range 252).find? (fun i => !graftInForce (x.nvs.graftEntry i)) with
      | none => y.cond 611 true
      | some i =>
        let b := graftBytes ty cause (x.spareByte ty inst % 256) inst (x.timeNs now / 1000000)
        ((y.nvsRequest 3 (.page (graftPage + 1 + i / 4) (16 * (i % 4)) b)).writeGraftHeader.showTable).showWear

/-- GRAFT_TABLE_WRITE (R412). -/
def execGraftTableWrite (d : DieId) (s : State) : Host.Outcome State Fault Refusal :=
  onDie d s fun env x => if x.jobRuns 0 then x.writeGraft env.now else x

/-! ### Host requests (R415) -/

/-- The operation of a request carried out by the MP. -/
def Die.serveSpr (x : Die) (env : Env) (op ty inst : Nat) : Die :=
  let chan := if ty = 1 then inst / 2 else inst
  let c := if chan < 512 then chan / 16 else chan - 512
  let j := if chan < 512 then chan % 16 else 16
  if ty = 0 || 6 ≤ ty || ((ty = 1 || ty = 2) && 32 ≤ c) || (ty = 3 && 4 < inst) || (ty = 4 && 4 < inst) then x.requestDone 1
  else match op, x.resource? ty inst with
    | 1, none =>
      let y :=
        match ty with
        | 1 => (x.resError 1 inst 7 env.now).removeCore c j (inst % 2) env.now
        | 2 => x.failChannel c j 7 env.now
        | 3 => x.failSlice inst 7 env.now
        | 4 => x.loseCore env inst 7
        | _ =>
          if x.spr.rowsUsed (inst / 1024) < Config.sramSpares (inst / 1024) then x.graftSram inst 7 env.now else x
      y.showWear.requestDone 0
    | 1, some r => x.requestDone (if r.since = env.now && !r.lasting then 0 else 1)
    | 2, some r =>
      if r.lasting then
        (x.onSpr (fun s => { s.replace { r with waiting := true, hostTest := true, since := env.now } with request := some (2, ty, inst) })).showWaiting
      else x.requestDone 1
    | 3, some r => if r.lasting then ((x.freeEntry ty inst).returnResource r).showWear.requestDone 0 else x.requestDone 1
    | _, _ => x.requestDone 1

/-- The MP comes to a host request: it runs, and no work of higher priority than calibration waits (R28, R415). -/
def Die.sprFree (x : Die) : Bool := x.jobRuns 0 && !x.evq.before 3

/-- SPR_REQ written with GO (R415): ignored with ACC_ERR while a request is in progress. -/
def Die.sprGo (x : Die) (env : Env) (op ty inst : Nat) : Die :=
  if x.on F.SPR_REQ_STAT_BUSY || !x.takes 0x0A then x.accErr 0x0A
  else
    let y := (((x.set F.SPR_REQ_OP op).set F.SPR_REQ_TYPE ty).set F.SPR_REQ_INSTANCE inst).set F.SPR_REQ_STAT_BUSY 1
    if y.sprFree then y.serveSpr env op (ty % 16) (inst % 2 ^ 20)
    else y.onSpr (fun s => { s with request := some (op, ty % 16, inst % 2 ^ 20) })

/-- A request that waits for the MP; one whose test is under way has been carried out. -/
def Die.sprAsked (x : Die) : Option (Nat × Nat × Nat) := if x.spr.inventory.any (fun r => r.hostTest) then none else x.spr.request

/-- A request that has waited for the MP is carried out, once that comes to it. -/
def Die.sprWaiting (x : Die) (env : Env) : Die :=
  match x.sprAsked with
  | some (op, ty, inst) => if x.sprFree then x.serveSpr env op ty inst else x
  | none => x

/-- SPR_REMOVE (R415). -/
def execSprRemove (d : DieId) (ty inst : Nat) (s : State) : Host.Outcome State Fault Refusal :=
  onDie d s fun env x => x.sprGo env 1 ty inst

/-- SPR_RETEST (R415). -/
def execSprRetest (d : DieId) (ty inst : Nat) (s : State) : Host.Outcome State Fault Refusal :=
  onDie d s fun env x => x.sprGo env 2 ty inst

/-- SPR_CLEAR (R415). -/
def execSprClear (d : DieId) (ty inst : Nat) (s : State) : Host.Outcome State Fault Refusal :=
  onDie d s fun env x => x.sprGo env 3 ty inst

/-! ### Entries applied at a start (R413) -/

/-- The resource of an entry is out of service for good. -/
def Die.applyEntry (x : Die) (e : GraftEntry) (now : Nat) : Die :=
  let chan := if e.type = 1 then e.inst / 2 else e.inst
  let c := if chan < 512 then chan / 16 else chan - 512
  let j := if chan < 512 then chan % 16 else 16
  let y := x.onSpr (fun s => { (s.remove e.type e.inst) with inventory := (s.remove e.type e.inst).inventory ++ [
    { type := e.type, inst := e.inst, waiting := false, testing := false, spoilt := false, lasting := true, cause := e.cause
      since := now, hostTest := false }] })
  match e.type with
  | 1 => y.removeCore c j (e.inst % 2) now
  | 2 =>
    let y := y.onClu c (fun k => { k with failed := k.failed.filter (· != j) ++ [j] })
    if j < 16 && y.on (F.CLU_CTRL_AUTOGRAFT c) && y.spareFree c then (y.decideGraft c j 2).landGraft c else y.graftLands c
  | 3 => y.dropSlice e.inst
  | 5 => y.onSpr (fun s => { s with sramUsed := assocPut s.sramUsed (e.inst / 1024) (s.rowsUsed (e.inst / 1024) + 1) })
  | 7 => y.bypassWord e.inst
  | 8 => y.onSpr (fun s => { s with dramUsed := s.dramUsed + 1 })
  | _ => y

/-- The entries of some types applied. -/
def Die.applyGrafts (x : Die) (types : List Nat) (now : Nat) : Die :=
  ((x.nvs.grafts.map (·.2)).filter (fun e => types.contains e.type)).foldl (fun y e => y.applyEntry e now) x

/-- The ROM loader places the jobs on the lowest-numbered cores without an entry; none where fewer than four are left. -/
def Die.placeJobs (x : Die) (now : Nat) : Option Die :=
  let bad := (x.nvs.grafts.filter (fun e => e.2.type = 4)).map (·.2.inst)
  match (List.range 5).filter (fun k => !bad.contains k) with
  | a :: b :: c :: d :: rest =>
    let y := x.applyGrafts [4] now
    let y := (((y.set F.PRC_MAP_MP a).set F.PRC_MAP_CP b).set F.PRC_MAP_LP c).set F.PRC_MAP_EP d
    let y := y.set F.PRC_MAP_SPARE (rest.headD 7)
    some ((List.range 5).foldl (fun y k => y.set (F.PRC_CORE_CORE k)
      (if bad.contains k then 4 else if rest.contains k then 1 else 0)) y)
  | _ => none

end Sys2Proof.Machine
end

