-- ==== Sys2Proof/Machine/Params.lean ====
section
/-!
DEFINITION. What the firmware keeps in the Seed Tray: parameter sets (R345, R346, R440), calibration records (R180 to
R182), the recovery image (R24) and the recovery of a forgotten password (R348).
-/

namespace Sys2Proof.Machine

/-! ### Slots with a header (Table 5.12) -/

/-- The magic number, first logical page and stride of the two slots: 0 parameter sets, 1 calibration records. -/
def slotKind (record : Bool) : Nat × Nat := if record then (0x4352, 320) else (0x5053, 64)

/-- The first logical page of a slot. -/
def slotPage (record : Bool) (slot : Nat) : Nat := (slotKind record).2 + 128 * slot

/-- A header page (R440). -/
def slotHeader (record : Bool) (state gen len crc : Nat) : List Byte :=
  padTo 64 (bytesLE 2 (slotKind record).1 ++ bytesLE 1 1 ++ bytesLE 1 state ++ bytesLE 4 gen ++ bytesLE 2 len ++ bytesLE 4 crc)

/-- A slot holds a header of its kind. -/
def Nvs.slotKnown (s : Nvs) (record : Bool) (slot : Nat) : Bool :=
  leAt (s.logical (slotPage record slot)) 0 2 = (slotKind record).1

/-- A slot's generation. -/
def Nvs.slotGen (s : Nvs) (record : Bool) (slot : Nat) : Nat := leAt (s.logical (slotPage record slot)) 4 4

/-- A slot's body. -/
def Nvs.slotBody (s : Nvs) (record : Bool) (slot : Nat) : List Byte :=
  s.logicals (slotPage record slot + 1) (leAt (s.logical (slotPage record slot)) 8 2)

/-- A slot is valid: its header reads VALID and its body matches the CRC (R182, R346). -/
def Nvs.slotValid (s : Nvs) (record : Bool) (slot : Nat) : Bool :=
  let h := s.logical (slotPage record slot)
  s.slotKnown record slot && leAt h 3 1 = 2 && crc32 (s.slotBody record slot) = leAt h 10 4

/-- The valid slot of the higher generation. -/
def Nvs.newestSlot (s : Nvs) (record : Bool) : Option Nat :=
  match s.slotValid record 0, s.slotValid record 1 with
  | true, true => if s.slotGen record 0 < s.slotGen record 1 then some 1 else some 0
  | true, false => some 0
  | false, true => some 1
  | false, false => none

/-- A slot whose set is discarded: its header reads WRITING, or its CRC fails. -/
def Nvs.slotLost (s : Nvs) (record : Bool) (slot : Nat) : Bool := s.slotKnown record slot && !s.slotValid record slot

/-- The slot that is written next, a discarded one first, and its generation (R181, R182, R345). -/
def Nvs.nextSlotOf (s : Nvs) (record : Bool) : Nat × Nat :=
  match s.newestSlot record with
  | some k => (1 - k, (s.slotGen record k + 1) % 2 ^ 32)
  | none => (if s.slotLost record 1 && !s.slotLost record 0 then 1 else 0, 1)

/-- The firmware's Seed Tray writes are refused (R342). -/
def Die.nvsHalted (x : Die) : Bool := x.on F.NVS_STATE_EP_ONLY || x.on F.NVS_STATE_STOPPED

/-- A set requested page by page: the header WRITING, the body, the header VALID (R181, R345). -/
def Die.writeSet (x : Die) (record : Bool) (prio slot gen : Nat) (body : List Byte) (tag : NvsTag) : Die :=
  let at_ := slotPage record slot
  let len := (body.length + 63) / 64
  let body := padTo (64 * len) body
  let y := x.nvsRequest prio (.page at_ 0 (slotHeader record 1 gen len 0))
  let y := (List.range len).foldl (fun y i => y.nvsRequest prio (.page (at_ + 1 + i) 0 ((body.drop (64 * i)).take 64))) y
  y.nvsRequest prio (.page at_ 0 (slotHeader record 2 gen len (crc32 body))) tag

/-! ### Parameter sets (R345, R346) -/

/-- The fields of the register at an offset of a page. -/
def regFields (page off : Nat) : List Fld := (regRows.findSome? (fun r => r.at? page off)).getD []

/-- A register's value as a read returns it. -/
def Die.regWord (x : Die) (l : List Fld) : Nat :=
  l.foldl (fun v f => if f.acc = .wo || f.acc = .w1s then v else v + x.written f * 2 ^ f.lo) 0

/-- The registers of a row: page and offset of each. -/
def RegRow.places (r : RegRow) : List (Nat × Nat) :=
  (List.range r.pages).flatMap (fun i => (List.range r.count).flatMap (fun n => (List.range r.count2).map (fun k =>
    (r.page + i, r.off + r.stride * n + r.stride2 * k))))

/-- The registers that hold a class P field. -/
def paramRegs : List (Nat × Nat) :=
  regRows.flatMap (fun r => r.places.filter (fun e => (regFields e.1 e.2).any (fun f => f.keep = .p)))

/-- The body of a parameter set (R345). -/
def Die.paramBody (x : Die) : List Byte :=
  paramRegs.flatMap (fun e => bytesLE 8 (e.1 * 2 ^ 56 + e.2 * 2 ^ 44 + x.regWord (regFields e.1 e.2) % 2 ^ 32))

/-- The entries of a set's body: page, offset, value. -/
def paramEntries (body : List Byte) : List (Nat × Nat × Nat) :=
  (List.range (body.length / 8)).map (fun i =>
    let v := leAt body (8 * i) 8
    (bits v 56 8, bits v 44 12, bits v 0 32))

/-- The P fields of a register set from an entry. -/
def Die.loadParam (x : Die) (e : Nat × Nat × Nat) : Die :=
  ((regFields e.1 e.2.1).filter (fun f => f.keep = .p)).foldl (fun y f =>
    { y with live := y.live.put f (f.ofWord e.2.2), stage := y.stage.drop f }) x

/-- The loop that an entry stores the configuration of. -/
def loopEntry (e : Nat × Nat × Nat) : Option Nat :=
  if e.1 = 0x39 && 0x100 ≤ e.2.1 && e.2.1 < 0x500 && e.2.1 % 0x40 = 0 then some ((e.2.1 - 0x100) / 0x40) else none

/-- The stored entries in force, of every page or of one. -/
def Die.storedParams (x : Die) (page : Option Nat) : List (Nat × Nat × Nat) :=
  match x.nvs.newestSlot false with
  | none => []
  | some k =>
    (paramEntries (x.nvs.slotBody false k)).filter (fun e => match page with | some p => e.1 = p | none => true)

/-- Class P fields reloaded (R274, R346): the outputs of stored HEATER and TEC loops become fixed-safe before any loop
field is written; the fields that show other parts of the Seed Tray show those. -/
def Die.reloadParams (x : Die) (page : Option Nat) : Die :=
  let l := x.storedParams page
  let y := (l.filter (fun e => e.1 = 0x3A)).foldl Die.loadParam x
  let y := l.foldl (fun y e => match loopEntry e with
    | some _ => if bit e.2.2 31 && bits e.2.2 28 3 != 0 then y.addSafe (y.hotOutputs (bits e.2.2 0 4)) else y
    | none => y) y
  let y := (((l.filter (fun e => e.1 != 0x3A)).foldl Die.loadParam y).showNvs).showOwners.configureLamps
  match page with
  | none => y.loadGraftHeader
  | some p => if p = 0x0A then y.loadGraftHeader else y

/-! ### What a block reset keeps, and the reload after it (R346) -/

/-- Fields put back to the values they had: they show hardware, or their chapter keeps them. -/
def Die.keeping (y x : Die) (l : List Fld) : Die := l.foldl (fun y f => y.set f (x.get f)) y

/-- The fields of a page that keep their values at its block reset (R2, R283, R305, R351, R384, R402; log entry 65). -/
def keptFields (p : Nat) : List Fld :=
  let sens := (List.range 10).flatMap (fun k => [F.THM_SENS_FAIL k, F.THM_SENS_CAUSE k, F.THM_SENS_ACKED k])
  let zone := (List.range 4).flatMap (fun z =>
    [F.THM_ZONE_STAT_HELD z, F.THM_ZONE_STAT_LEVEL z])
  if p = 0x00 then [F.SYS_IDENT_LEAD]
  else if p = 0x02 then [F.CLK_STAT_REF_OK, F.CLK_GATE_RUN]
  else if p = 0x03 then [F.PWR_SUPPLY_WARN]
  else if p = 0x05 then sens ++ zone ++ [F.THM_FAIL_FAILED, F.THM_LEVEL_LEVEL]
  else if p = 0x10 then
    [F.NVS_STATE_READY, F.NVS_STATE_RDONLY, F.NVS_STATE_EP_ONLY, F.NVS_STATE_STOPPED, F.NVS_LOCKOUT_FAILS, F.NVS_LOCKOUT_REMAIN,
     F.NVS_WEAR_USED, F.NVS_WEAR_PAGE, F.NVS_WEAR_MAX_COUNT]
  else if p = 0x11 then
    [F.SPI_STATE_XIP, F.SPI_CFG_DIV_M1, F.SPI_CFG_CSGAP_M1, F.SPI_CFG_PROTO, F.SPI_CFG_ROLE, F.SPI_CFG_WLEN_M1, F.SPI_CFG_LSBF,
     F.SPI_CFG_CPHA, F.SPI_CFG_CPOL]
  else if p = 0x3A then
    (List.range 16).flatMap (fun m => [F.PWM_DUTY_SIGN m, F.PWM_DUTY_HIGH m, F.PWM_DUTY_FRAC m, F.PWM_OWN_OWN m]) ++
      (List.range 8).flatMap (fun k =>
        [F.PWM_PAIR_CFG_MODE k, F.PWM_PAIR_CFG_DT k, F.PWM_PAIR_CFG_PHASE k, F.PWM_PAIR_PER_PER_M1 k])
  else if p = 0x50 then [F.EVD_CTRL_CLOSED]
  else []

/-- A RegFile's entries of a page put into another. -/
def RegFile.withPage (r old : RegFile) (p : Nat) : RegFile :=
  { p := r.p.putAll (old.p.ofPage p), a := r.a.putAll (old.a.ofPage p), w := r.w.putAll (old.w.ofPage p)
    c := r.c.putAll (old.c.ofPage p) }

/-- What a reload of its class P fields does not reach: the PWM's configuration and the SPI's, which their resets keep (R283,
R402), and the staged values of the lamps (R283). -/
def Die.pastReload (y x : Die) (p : Nat) : Die :=
  let y := y.keeping x ((keptFields p).filter (fun f => f.keep = .p))
  if p = 0x3B then { y with stage := y.stage.withPage x.stage p }.showRefLost else y

/-- The MP reloads the class P fields of a page (R346). -/
def Die.reloadPage (x : Die) (p : Nat) : Die := (x.reloadParams (some p)).pastReload x p

/-- The MP reloads the pages that wait for it, once it runs and the parameter sets can be read (R335, R346). -/
def Die.reloadWaiting (x : Die) : Die :=
  if x.jobRuns 0 && x.canRead 64 256 then
    x.boot.reloads.foldl Die.reloadPage (x.onBoot (fun b => { b with reloads := [] }))
  else x

/-- A page's class P fields are to be reloaded after a block reset. -/
def Die.askReload (x : Die) (p : Nat) : Die := (x.onBoot (fun b => { b with reloads := b.reloads.filter (· != p) ++ [p] })).reloadWaiting

/-- SPARE_CORE_TAKEOVER (R27): the spare has loaded the failed core's image and begins its job. -/
def execSpareCoreTakeover (d : DieId) (s : State) : Host.Outcome State Fault Refusal :=
  onDie d s fun env x =>
    match x.boot.down, (List.range 5).find? (fun k => x.get (F.PRC_CORE_CORE k) = 2) with
    | j :: rest, some k =>
      let y := ((x.set (F.jobCore j) k).set (F.PRC_CORE_CORE k) 0).onBoot (fun b => { b with down := rest })
      let y := (((y.restartMailboxes j).fire 622).fire 609).markGraft
      if j = 0 then y.reloadWaiting.sprWaiting env else if j = 3 then y.epBack env else y
    | _, _ => x

/-- Parameter sets that are discarded at a start are logged (R346). -/
def Die.noteLostSets (x : Die) : Die :=
  [0, 1].foldl (fun y k =>
    if x.nvs.slotLost false k then (y.set F.NVS_SETLOG_GEN (x.nvs.slotGen false k)).fire 76 else y) x

/-- PARAM_SAVE carried out (Table 12.6). -/
def Die.serveParamSave (x : Die) : Die :=
  if x.nvsHalted then x.mbxResult 0 7 0
  else if !x.canRead 64 256 then x.mbxAgain 0
  else
    let (slot, gen) := x.nvs.nextSlotOf false
    x.writeSet false 5 slot gen x.paramBody (.mbx 0 0 gen)

/-- PARAM_SAVE (R345). -/
def execParamSave (d : DieId) (tag arg : Nat) (s : State) : Host.Outcome State Fault Refusal :=
  onDie d s fun _ x => x.mbxCommand 0 0x0010 tag arg (fun y => y.serveParamSave)

/-- PARAM_DISCARD carried out: both headers read WRITING (Table 12.6). -/
def Die.serveParamDiscard (x : Die) : Die :=
  if !x.canRead 2 1 || !x.canRead 64 256 then x.mbxAgain 0
  else if !x.pwdOpen 2 then x.mbxResult 0 5 0
  else if x.nvsHalted then x.mbxResult 0 7 0
  else
    let req (y : Die) (k : Nat) (tag : NvsTag) : Die :=
      y.nvsRequest 5 (.page (slotPage false k) 0 (slotHeader false 1 (x.nvs.slotGen false k) 0 0)) tag
    req (req x 0 .none) 1 (.mbx 0 0 0)

/-- PARAM_DISCARD (R345). -/
def execParamDiscard (d : DieId) (tag arg : Nat) (s : State) : Host.Outcome State Fault Refusal :=
  onDie d s fun _ x => x.mbxCommand 0 0x0011 tag arg (fun y => y.serveParamDiscard)

/-- Pages written with zeros. -/
def Die.zeroPages (x : Die) (first count : Nat) : Die :=
  (List.range count).foldl (fun y i => y.nvsRequest 5 (.page (first + i) 0 (List.replicate 64 0))) x

/-- PWD_RECOVER carried out (R348): the host areas, the parameter slots, the passwords, tally 7. -/
def Die.servePwdRecover (x : Die) : Die :=
  if x.nvsHalted then x.mbxResult 0 7 0
  else
    let y := ((x.zeroPages 1624 296).zeroPages 1328 296).zeroPages 64 256
    let y := y.nvsRequest 5 (.page 2 0 (x.pwdHash 0 ++ x.pwdHash 0))
    y.nvsRequest 5 (.add 7 1) (.mbx 0 0 0)

/-- PWD_RECOVER (R348). -/
def execPwdRecover (d : DieId) (tag arg : Nat) (s : State) : Host.Outcome State Fault Refusal :=
  onDie d s fun _ x => x.mbxCommand 0 0x0012 tag arg (fun y => y.servePwdRecover)

/-- RECOVERY_WRITE carried out (R24, Table 12.6). -/
def Die.serveRecovery (x : Die) (mem : Memory) (arg : Nat) (good : Bool) : Die :=
  if !x.canRead 2 1 then x.mbxAgain 0
  else if !x.pwdOpen 2 then x.mbxResult 0 5 0
  else if !good then x.mbxResult 0 3 0
  else if x.nvsHalted then x.mbxResult 0 7 0
  else
    let y := x.nvsPages 5 816 (mem.readBytes arg (511 * 64))
    y.nvsRequest 5 (.page 1327 0 (mem.readBytes (arg + 511 * 64) 64)) (.mbx 0 0 0)

/-- RECOVERY_WRITE (R24). -/
def execRecoveryWrite (d : DieId) (tag arg : Nat) (good : Bool) (s : State) : Host.Outcome State Fault Refusal :=
  onDie d s fun env x => x.mbxCommand 0 0x0013 tag arg (fun y => y.serveRecovery env.mem arg good)

/-! ### Calibration records (Table 5.8, R180 to R182) -/

/-- A cluster's trims in a record: 96 column biases of 10 bits, the core trims of 17 channels, their skews. -/
def Die.clusterRecord (x : Die) (c : Nat) : List Byte :=
  let bias := (List.range 96).foldl (fun v i => v + x.colBias c i * 2 ^ (10 * i)) 0
  bytesLE 120 bias ++
    (List.range 17).flatMap (fun j =>
      bytesLE 1 (x.get (F.CLU_CTRIM0_OFFSET c j)) ++ bytesLE 1 (x.get (F.CLU_CTRIM0_GAIN c j)) ++
        bytesLE 1 (x.get (F.CLU_CTRIM1_OFFSET c j)) ++ bytesLE 1 (x.get (F.CLU_CTRIM1_GAIN c j))) ++
    (List.range 17).flatMap (fun j => bytesLE 1 (x.get (F.CLU_SKEW_SKEW c j))) ++ List.replicate 3 0

/-- A plane's hash as bytes. -/
def digestBytes (l : List Nat) : List Byte := padTo 32 (l.flatMap (bytesBE 4))

/-- The body of a calibration record. -/
def Die.recordBody107 (x : Die) : List Byte :=
  (List.range 32).flatMap x.clusterRecord ++
    padTo 64 (bytesLE 4 (x.get F.SVE_TF0_TF0) ++ bytesLE 4 (x.get F.SVE_TH0_TH0) ++
      (List.range 3).flatMap (fun k => bytesLE 4 (x.get (F.SVE_K_K k)))) ++
    padTo 128 (bytesLE 4 (x.get F.CAL_SET_ID_ID) ++ bytesLE 4 (x.get F.CAL_SET_GEN_GEN) ++
      x.planeHash.flatMap digestBytes)

/-- A record write begins (R181). -/
def Die.beginRecord (x : Die) : Die :=
  let (slot, gen) := x.nvs.nextSlotOf true
  (x.writeSet true 4 slot gen x.recordBody107 .none).onCal (fun c => { c with record := some (slot, gen), recordDue := false })

/-- A record is due by itself: an event was accepted or the trims updated, and SAVE_MIN minutes have passed since the last
record so written (R181). -/
def Die.recordDue (x : Die) (now : Nat) : Bool :=
  x.cal.recordDue && (match x.cal.recordAt with
    | some t => x.get F.CAL_REC_SAVE_MIN * 15000000000 ≤ now - t
    | none => true)

/-- CAL_RECORD_WRITE (R181). -/
def execCalRecordWrite (d : DieId) (s : State) : Host.Outcome State Fault Refusal :=
  onDie d s fun env x =>
    if x.jobRuns 1 && x.takes 0x28 && x.recordDue env.now && x.cal.record.isNone && !x.nvsHalted && x.canRead 320 256 then
      x.beginRecord.onCal (fun c => { c with recordAt := some env.now })
    else x

/-- REC_SAVED (R181): the header reads VALID. -/
def execRecSaved (d : DieId) (s : State) : Host.Outcome State Fault Refusal :=
  onDie d s fun _ x =>
    match x.cal.record with
    | none => x
    | some (slot, gen) =>
      if leAt (x.nvs.logical (slotPage true slot)) 3 1 = 2 && x.nvs.slotGen true slot = gen then
        let y := (((x.onCal (fun c => { c with record := none, recordMbx := false })).set F.CAL_REC_SLOT slot).set
          F.CAL_REC_GEN gen).fire 332
        if x.cal.recordMbx then y.mbxResult 1 0 gen else y
      else x

/-- CAL_SAVE carried out (Table 5.10). -/
def Die.serveCalSave (x : Die) : Die :=
  if x.nvsHalted then x.mbxResult 1 7 0
  else if x.cal.record.isNone && !x.canRead 320 256 then x.mbxAgain 1
  else (if x.cal.record.isNone then x.beginRecord else x).onCal (fun c => { c with recordMbx := true })

/-- CAL_SAVE (R181). -/
def execCalSave (d : DieId) (tag arg : Nat) (s : State) : Host.Outcome State Fault Refusal :=
  onDie d s fun _ x => x.mbxCommand 1 0x0102 tag arg (fun y => y.serveCalSave)

/-- The trims of a record, by field. -/
def recordTrims (body : List Byte) : List (Fld × Nat) :=
  (List.range 32).flatMap (fun c =>
    let at_ := 208 * c
    let bias := leAt body at_ 120
    (List.range 96).map (fun i =>
      (if i % 2 = 0 then F.CLU_CBIAS_EVEN c (i / 2) else F.CLU_CBIAS_ODD c (i / 2), bits bias (10 * i) 10)) ++
    (List.range 17).flatMap (fun j =>
      let t := at_ + 120 + 4 * j
      [(F.CLU_CTRIM0_OFFSET c j, leAt body t 1), (F.CLU_CTRIM0_GAIN c j, leAt body (t + 1) 1),
       (F.CLU_CTRIM1_OFFSET c j, leAt body (t + 2) 1), (F.CLU_CTRIM1_GAIN c j, leAt body (t + 3) 1),
       (F.CLU_SKEW_SKEW c j, leAt body (at_ + 188 + j) 1)]))

/-- The references of a record, by field. -/
def recordRefs (body : List Byte) : List (Fld × Nat) :=
  let at_ := 104 * 64
  [(F.SVE_TF0_TF0, leAt body at_ 4), (F.SVE_TH0_TH0, leAt body (at_ + 4) 4), (F.SVE_K_K 0, leAt body (at_ + 8) 4),
   (F.SVE_K_K 1, leAt body (at_ + 12) 4), (F.SVE_K_K 2, leAt body (at_ + 16) 4)]

/-- CAL_LOAD carried out (R180, Table 5.10): the trims are armed through ACB_GANG, the references with the CMM commit. -/
def Die.serveCalLoad (x : Die) (now : Nat) : Die :=
  if x.on F.CAL_CTRL_EN || x.on F.CAL_CTRL_BG_EN then x.mbxResult 1 5 0
  else if !x.canRead 320 256 then x.mbxAgain 1
  else match x.nvs.newestSlot true with
    | none => x.mbxResult 1 1 0
    | some k =>
      let body := x.nvs.slotBody true k
      let y := (recordTrims body ++ recordRefs body).foldl (fun y e => y.stageVal e.1 e.2) x
      ((y.gangArm).armLinked 0x33 0 now).mbxResult 1 0 (x.nvs.slotGen true k)

/-- CAL_LOAD (R180). -/
def execCalLoad (d : DieId) (tag arg : Nat) (s : State) : Host.Outcome State Fault Refusal :=
  onDie d s fun env x => x.mbxCommand 1 0x0103 tag arg (fun y => y.serveCalLoad env.now)

/-- The record at a start (R182): slots that are discarded raise REC_LOST and have their generation logged; at a cold start the trims replace the fuse trims;
at a warm start that kept the DRAM the generation comes from a record whose hashes are those of the planes in force. -/
def Die.startRecord (x : Die) (warmKept cold : Bool) : Die :=
  let y := [0, 1].foldl (fun y k => if x.nvs.slotLost true k then
      (y.onCal (fun c => { c with lostGens := c.lostGens ++ [x.nvs.slotGen true k] })).fire 333 else y) x
  match x.nvs.newestSlot true with
  | none => y
  | some k =>
    let body := x.nvs.slotBody true k
    let y := (y.set F.CAL_REC_SLOT k).set F.CAL_REC_GEN (x.nvs.slotGen true k)
    if cold && y.on F.CAL_CTRL_RESTORE_TRIM then (recordTrims body).foldl (fun y e => y.set e.1 e.2) y
    else if warmKept && (body.drop (105 * 64 + 8)).take 96 = x.planeHash.flatMap digestBytes then
      y.set F.CAL_SET_GEN_GEN (leAt body (105 * 64 + 4) 4)
    else y

end Sys2Proof.Machine
end

