-- ==== Sys2Proof/Machine/Start.lean ====
section
/-!
DEFINITION. The starts of a die (11_reset_startup_and_power_states.md, R320 to R325; Table 11.5).  A start command ends the
step in progress; the die then enters the next step that its kind of start performs.
-/

namespace Sys2Proof.Machine

/-! ### Failure (R323) -/

/-- The attempt fails: two retries as cold starts, then a limited start or a halt. -/
def Die.startFails (x : Die) (err : Nat) : Die :=
  match x.boot.start with
  | none => x
  | some st =>
    let tries := x.get F.RST_START_TRIES
    let y := ((x.set F.RST_START_FAILSTEP st.step).set F.RST_START_ERR err).fire 10
    if tries < 2 then (y.set F.RST_START_TRIES (tries + 1)).onBoot (fun b => { b with start := none, retry := true })
    else if st.step = 4 || st.step = 7 then y.onBoot (fun b => { b with start := none, limitedDue := some st.at_ })
    else ((y.set F.RST_START_KIND 4).onBoot (fun b => { b with start := none, cores := false })).cond 14 true

/-! ### Entering a step -/

/-- The start in progress changed. -/
def Die.onStart (x : Die) (f : Start → Start) : Die := x.onBoot (fun b => { b with start := b.start.map f })

/-- The start performs the steps of a warm start. -/
def Die.warmStart (x : Die) : Bool := x.get F.RST_START_KIND = 1 || (2 ≤ x.get F.RST_START_KIND && x.get F.RST_CAUSE_REACH = 3)

/-- The firmware runs: the jobs are placed (R413), the class P fields reloaded (R346), at a cold start the standard program
written and counted in tally 3 (Table 12.5), and the entries of converter cores, channels and slices applied. A die started from the recovery image goes no
further (R325); without four cores the step fails. -/
def Die.firmwareRuns (x : Die) (now : Nat) : Die :=
  match x.placeJobs now with
  | none => x.startFails 3
  | some y =>
    let y := ((({ y with images := true }.onBoot (fun b => { b with cores := true })).noteLostSets).reloadParams none).mendGraftHeader
    let y := if y.get F.RST_START_KIND = 0 then y.nvsRequest 5 (.add 3 1) else y
    if y.get F.SYS_IDENT_BOOT = 3 then
      (((y.set F.RST_START_KIND 3).onBoot (fun b => { b with start := none })).cond 13 true).showWear
    else
      let y := if y.warmStart then y else y.onRake (fun r => { r with store := standardProgram (y.on F.SEQ_LIMITS_EXPORT) })
      ((y.applyGrafts [1, 2, 3, 7, 9] now).showWear.showBg).stepTo 6

/-- Step 5 begins: the ROM loader takes RST_BOOT from the Seed Tray (R346), and skips the load where the stored images
match (R322). -/
def Die.enterFirmware (x : Die) (r : StepReport) (now : Nat) : Die :=
  let y := ((x.storedParams (some 1)).filter (fun e => e.2.1 = 0x4C)).foldl Die.loadParam x
  let y := y.stepTo 5
  if y.warmStart && r.images && y.images then (y.set F.RST_SKIP_FW 1).firmwareRuns now
  else if y.get F.SYS_IDENT_BOOT = 2 then y.send .trlBootReq else y

/-- Step 8 begins: the Cloche homes (R158), and the loops are enabled. -/
def Die.enterHoming (x : Die) (now : Nat) : Die :=
  Die.calNotes (((x.stepTo 8).set (F.CTRL_EN 0x39) 1).showLoops.cloHomeMove now) now

/-- The bias supplies are switched on in the order of R47, as far as no trip cause stands: VSD, VSA and VREFC are good when
VBLIND and VDET begin to ramp. -/
def Die.biasUp (x : Die) : Die :=
  afeOuts.foldl (fun y o =>
    if y.mayEnable o then
      let z := y.enableOut o
      if afeRamps o then z else z.setBit F.AFE_OUT_STAT_GOOD o.idx true
    else y) x

/-- An output is ramping. -/
def Die.anyRamp (x : Die) : Bool := x.get F.AFE_OUT_STAT_RAMPING != 0

/-! ### The end of a step -/

/-- Step 2 ends (R320): three attempts without lock have failed. -/
def Die.lockStep (x : Die) (r : StepReport) (now : Nat) : Die :=
  let y := (x.count F.CLK_CNT_RETRIES (r.tries - 1)).set F.CLK_STAT_LOCK_US (min r.lockUs 0xFFFF)
  let y := if 2 ≤ r.tries then y.fire 17 else y
  if r.err.isSome || 4 ≤ r.tries then y.startFails 5 else ((y.set F.CLK_STAT_LOCKED 1).applyGrafts [5] now).stepTo 3

/-- Step 3 ends: DRAM training is next, but a limited start does not touch the DRAM, and a warm start skips it where the
DRAM was kept (R322, R324). -/
def Die.sramStep (x : Die) (r : StepReport) (now : Nat) : Die :=
  if r.err.isSome then x.startFails 3
  else if x.boot.limited then x.enterFirmware r now
  else
    let y := x.applyGrafts [8] now
    if y.warmStart && r.dram then ((y.set F.RST_SKIP_DRAM 1).onStart (fun st => { st with dram := true })).enterFirmware r now
    else ({ y with dramCut := true }).stepTo 4

/-- Step 4 ends. -/
def Die.dramStep (x : Die) (r : StepReport) (now : Nat) : Die :=
  match r.err with
  | some e => x.startFails (e % 256)
  | none => x.enterFirmware r now

/-- Step 5 ends: the image set is there, from the host or the upstream unit where BOOT says so (Table 11.6). -/
def Die.firmwareStep (x : Die) (st : Start) (r : StepReport) (now : Nat) : Die :=
  let boot := x.get F.SYS_IDENT_BOOT
  if (boot = 1 || boot = 2) && !st.go then x
  else match r.err with
    | some e => x.startFails (e % 256)
    | none => x.firmwareRuns now

/-- Step 6 ends: the cores that fail self-calibration leave service (R89). -/
def Die.converterStep (x : Die) (r : StepReport) (now : Nat) : Die :=
  let y := r.cores.foldl (fun y e =>
    let ch := e.1 % 544
    let core := e.2 % 2
    let c := if ch < 512 then ch / 16 else ch - 512
    (y.resError 1 (2 * ch + core) 1 now).removeCore c (if ch < 512 then ch % 16 else 16) core now) x.calibrateField
  if y.boot.limited then y.enterHoming now else y.stepTo 7

/-- The registers of the base set: TRM_MAP_BASE, CMM_PLANE0 to 2, SVE_TF0, SVE_TH0, SVE_K0 to 2. -/
def baseFields : List Fld :=
  [F.TRM_MAP_BASE_BASE, F.CMM_PLANE_BASE 0, F.CMM_PLANE_BASE 1, F.CMM_PLANE_BASE 2, F.SVE_TF0_TF0, F.SVE_TH0_TH0, F.SVE_K_K 0,
   F.SVE_K_K 1, F.SVE_K_K 2]

/-- A word of the base set image put where it belongs, by its BAR0 offset: a register of the base set, or an entry of the
response tables or the zone map. -/
def Die.baseWord (x : Die) (e : Nat × Nat) : Die :=
  let y := (baseFields.filter (fun f => f.page * 4096 + f.off = e.1)).foldl (fun y f => y.set f (f.ofWord e.2)) x
  if 0x110000 ≤ e.1 && e.1 < 0x11C000 then
    y.onRad (fun d => { d with resp := d.resp.put ((e.1 - 0x110000) / 4) e.2, respStaged := d.respStaged.put ((e.1 - 0x110000) / 4) e.2 })
  else if 0x120000 ≤ e.1 && e.1 < 0x125000 then
    y.onRad (fun d => { d with zones := d.zones.put ((e.1 - 0x120000) / 4) e.2, zonesStaged := d.zonesStaged.put ((e.1 - 0x120000) / 4) e.2 })
  else y

/-- The planes that the registers name are those whose hashes the MP retained (R322). -/
def Die.planesKept (x : Die) (mem : Memory) : Bool :=
  (List.range 3).all (fun g => x.planeHash.getD g [] = x.planeDigest mem g)

/-- The base set part of step 7 is skipped (R322). -/
def Die.baseKept (x : Die) (st : Start) (mem : Memory) : Bool := x.warmStart && st.dram && x.planesKept mem

/-- Step 7 ends: the base set is in place, the trim map and the record are loaded, the planes hashed (R99, R182, R321,
R322). -/
def Die.baseStep (x : Die) (env : Env) (st : Start) (r : StepReport) : Die :=
  let kept := x.baseKept st env.mem
  let flash := !kept && x.on F.RST_BOOT_BASESRC
  if !kept && !flash && !st.base then x
  else match r.err with
    | some e => x.startFails (e % 256)
    | none =>
      if !r.bad.isEmpty then x.startFails 4
      else
        let y := x.setB F.RST_SKIP_BASE kept
        let y := if flash then r.regs.foldl Die.baseWord { y with wr := y.wr ++ r.flash } else y
        let mem := if flash then env.mem.writeAll r.flash else env.mem
        let y := (y.onTrm (fun t => { t with loading := true })).loadDone mem [] env.now
        let y := (y.retainHashes mem).setHash (y.planeDigest mem (y.get F.SEQ_FCFG_GAIN))
        (y.startRecord kept (!y.warmStart)).enterHoming env.now

/-- Step 9: the self-test of the crypto block, and the evidence session's opening (R227, R233), which the start waits for. -/
def Die.sessionStep (x : Die) (env : Env) (st : Start) (r : StepReport) : Die :=
  if st.opening then (if x.evd.opening.isSome then x else x.biasUp.stepTo 10)
  else if !x.canRead 576 176 || x.nvs.logQueued != 0 then x
  else
    let y := ((x.setB F.CRY_STATE_TEST_OK r.crypto).cond 561 (!r.crypto)).setB F.CRY_STATE_RNG_OK (!x.evRaw.getLsbD 562)
    (y.openSession env).onStart (fun st => { st with opening := true })

/-- Step 11 ends: with the bias good, or NOBIAS set, the Rake is enabled and the start is complete (R321). -/
def Die.rakeStep (x : Die) (st : Start) (r : StepReport) (now : Nat) : Die :=
  if (x.outGood .vdet && x.outGood .vblind) || x.on F.SEQ_CTRL_NOBIAS then
    let y := if x.rakeRuns then x else x.rakeBegin r.ecc now
    let y := (y.set F.RST_START_DONE 1).set F.RST_TIME_US (min ((now - st.at_) * 4 / 1000) 0xFFFFFFFF)
    (y.onBoot (fun b => { b with start := none })).fire 9
  else x

/-- A step ends without an error while the Seed Tray, which the next one reads, is not READY yet: it waits (R339). -/
def Die.waitsForStore (x : Die) (st : Start) (r : StepReport) : Bool :=
  !x.on F.NVS_STATE_READY && r.err.isNone && (st.step != 2 || r.tries < 4)

/-- The step in progress ends. Step 1 ends with FUSE_LOAD_DONE; step 8 ends when the homing move has; step 10 when the ramps have (a trip ends a ramp). -/
def Die.endStep (x : Die) (env : Env) (r : StepReport) : Die :=
  match x.boot.start with
  | none => x
  | some st =>
    if x.waitsForStore st r then x else
    match st.step with
    | 1 => x
    | 2 => x.lockStep r env.now
    | 3 => x.sramStep r env.now
    | 4 => x.dramStep r env.now
    | 5 => x.firmwareStep st r env.now
    | 6 => x.converterStep r env.now
    | 7 => x.baseStep env st r
    | 8 => if x.clo.move.isSome then x else x.stepTo 9
    | 9 => x.sessionStep env st r
    | 10 => if x.anyRamp then x else x.stepTo 11
    | _ => x.rakeStep st r env.now

/-- COLD_START (R321). -/
def execColdStart (d : DieId) (r : StepReport) (s : State) : Host.Outcome State Fault Refusal :=
  onDie d s fun env x => if x.get F.RST_START_KIND = 0 then x.endStep env r else x

/-- WARM_START (R322), also of a die in recovery (R325). -/
def execWarmStart (d : DieId) (r : StepReport) (s : State) : Host.Outcome State Fault Refusal :=
  onDie d s fun env x => if x.get F.RST_START_KIND = 1 || x.get F.RST_START_KIND = 3 then x.endStep env r else x

/-- LIMITED_START (R323, R324): the start in limited mode begins, or its step in progress ends. -/
def execLimitedStart (d : DieId) (r : StepReport) (s : State) : Host.Outcome State Fault Refusal :=
  onDie d s fun env x =>
    match x.boot.limitedDue with
    | some t =>
      let y := x.onBoot (fun b => { b with limited := true, limitedDue := none, start := some { step := 2, at_ := t } })
      ((y.set F.RST_START_KIND 2).set F.RST_START_STEP 2).cond 11 true
    | none => if x.get F.RST_START_KIND = 2 then x.endStep env r else x

/-! ### What a step waits for -/

/-- RST_HOSTBOOT.GO (R321): the host's image set is in place; outside step 5 it is ignored. -/
def Die.hostBootGo (x : Die) : Die :=
  if x.startStep != 5 then x.accErr 0x01
  else if x.get F.SYS_IDENT_BOOT = 1 then x.onStart (fun st => { st with go := true }) else x

/-- HOST_BOOT_GO. -/
def execHostBootGo (d : DieId) (s : State) : Host.Outcome State Fault Refusal := onDie d s fun _ x => x.hostBootGo

/-- BASE_READY carried out (R321): DENIED outside step 7. -/
def Die.serveBaseReady (x : Die) : Die :=
  if x.startStep = 7 then (x.onStart (fun st => { st with base := true })).mbxResult 0 0 0 else x.mbxResult 0 5 0

/-- BASE_READY. -/
def execBaseReady (d : DieId) (tag arg : Nat) (s : State) : Host.Outcome State Fault Refusal :=
  onDie d s fun _ x => x.mbxCommand 0 0x0001 tag arg (fun y => y.serveBaseReady)

/-- BOOT_TIMEOUT (R321): HOST_TMO at step 5, or BASE_TMO at step 7, whether the base set comes from the host or from the serial
flash. -/
def execBootTimeout (d : DieId) (s : State) : Host.Outcome State Fault Refusal :=
  onDie d s fun env x =>
    match x.boot.start with
    | some st =>
      let boot := x.get F.SYS_IDENT_BOOT
      if (st.step = 5 && (boot = 1 || boot = 2) && !st.go) || (st.step = 7 && !st.base && !x.baseKept st env.mem) then
        x.startFails 1
      else x
    | none => x

end Sys2Proof.Machine
end

