-- ==== Sys2Proof/Machine/Trellis.lean ====
section
/-!
DEFINITION. The Trellis Link (13_links.md, R361 to R375) but for READ and WRITE, and the die-to-die link (R376 to R378).
The pass-through's forwarding of what others send changes no state of the unit and is not recorded (log entry 60).
-/

namespace Sys2Proof.Machine

/-- The Trellis Link's hidden state changed. -/
def Die.onTrl (x : Die) (f : Trl → Trl) : Die := { x with trl := f x.trl }

/-- The die holds its unit's place on the chain: it leads, is not isolated, and TRL_CTRL.EN is 1. -/
def Die.chained (x : Die) : Bool := x.leads && x.get F.TRL_ADDR_MODE != 3 && x.on F.TRL_CTRL_EN

/-- The always-on part of the link works: in every reset but one of package reach or wider (R361), and not in Dormant. -/
def Die.alwaysOn (x : Die) : Bool :=
  !x.boot.dormant && (match x.boot.episode with | some e => decide (e.reach < 5) | none => true)

/-- A faulty packet or symbol counted on its port (R363). -/
def Die.portError (x : Die) (up : Bool) : Die := x.count (if up then F.TRL_PORT_UP_ERR else F.TRL_PORT_DOWN_ERR)

/-- A packet arrives: with a bad CRC it is counted and discarded; otherwise it acts (R363). -/
def Die.packet (x : Die) (p : Packet) (f : Die → Die) : Die :=
  if !x.chained then x else if p.good then f x else x.portError p.up

/-- A packet that only the master originates has come from upstream to a member. -/
def Die.fromMaster (x : Die) (p : Packet) : Bool := p.up && !x.on F.TRL_ADDR_MASTER

/-- A packet or symbol is for this unit. -/
def Die.addressed (x : Die) (dst : Nat) : Bool := dst = 63 || (dst = x.get F.TRL_ADDR_ADDR && dst != 0)

/-- A hop-by-hop packet on the lead die, which works in its resets as well (R363). -/
def onHop (d : DieId) (s : State) (f : Env → Die → Die) : Host.Outcome State Fault Refusal :=
  onDieAlways d s fun env x => if x.alwaysOn then f env x else x

/-! ### Ports (R367) -/

/-- PORT_DOWN, event 107, brought up to date; a die in reset shows it at its release. -/
def Die.showPorts (x : Die) : Die := if x.inReset then x else x.cond 107 x.portLost

/-- A port comes up or goes down, and TRL_PORT shows it. -/
def Die.portTo (x : Die) (up b : Bool) : Die :=
  (x.setB (if up then F.TRL_PORT_UP else F.TRL_PORT_DOWN) b).onTrl (fun t =>
    { t with ports := setAt t.ports (if up then 0 else 1) b })

/-- The DOWN port is up. -/
def Die.downUp (x : Die) : Bool := x.trl.ports.getLsbD 1

/-- A port is one of those that the chain mode uses (Table 13.4). -/
def Die.hasPort (x : Die) (up : Bool) : Bool := x.get F.TRL_ADDR_MODE != 3 && !(up && x.on F.TRL_ADDR_MASTER)

/-- PORT_DOWN. -/
def execPortDown (d : DieId) (up : Bool) (s : State) : Host.Outcome State Fault Refusal :=
  onHop d s fun _ x =>
    if x.leads && x.hasPort up then (x.portTo up false).showPorts else x

/-! ### Enumeration (R365, R366) -/

/-- The address that the Seed Tray stores (log entry 61), once the store can be read (R339); while its page is being written, the one
that a read which waits for the write returns (R335). -/
def Die.storedAddr (x : Die) : Nat :=
  let s := x.nvs
  let page := match s.doing with
    | some r => if r.what.logical? = some 3 then s.bytesOf 3 r.what else s.logical 3
    | none => s.logical 3
  if x.on F.NVS_STATE_READY then leAt page 0 1 % 64 else 0

/-- A unit's preferred address. -/
def Die.prefers (x : Die) : Option Nat :=
  let held := x.get F.TRL_ADDR_ADDR
  let pref := x.get F.TRL_ADDR_PREF
  if held != 0 then some held
  else if x.get F.TRL_ADDR_MODE = 1 then (if pref != 0 then some pref else none)
  else if x.on F.TRL_ADDR_STICKY && x.storedAddr != 0 && x.storedAddr != 63 then some x.storedAddr
  else none

/-- The lowest clear address of a bitmap. -/
def lowestClear (bitmap : Nat) : Nat := ((List.range 63).find? (fun a => 1 ≤ a && !bitmap.testBit a)).getD 0

/-- A bitmap with an address set. -/
def withBit (bitmap a : Nat) : Nat := if a = 0 then bitmap else bitmap ||| 2 ^ a

/-- An address assigned: with STICKY it is to be stored (R366). -/
def Die.takeAddress (x : Die) (a depth : Nat) : Die :=
  let y := (((x.set F.TRL_ADDR_ADDR a).set F.TRL_ADDR_VALID 1).set F.TRL_ADDR_DEPTH depth).onTrl (fun t =>
    { t with claim := none })
  if y.on F.TRL_ADDR_STICKY && a != 0 then y.onTrl (fun t => { t with store := some a }) else y

/-- The bitmap goes on down the chain, or back from its last unit. -/
def Die.passEnum (x : Die) (assign : Bool) (depth bitmap : Nat) : Die :=
  if x.downUp then x.send (.trlEnum assign depth bitmap)
  else x.send (.trlEnumRsp bitmap ((List.range 63).filter (fun a => bitmap.testBit a)).length)

/-- The CLAIM phase at a member. -/
def Die.claimPhase (x : Die) (bitmap : Nat) : Die × Nat :=
  match x.prefers with
  | none => (x.onTrl (fun t => { t with claim := none }), bitmap)
  | some p =>
    if bitmap.testBit p then
      let y := x.onTrl (fun t => { t with claim := none })
      (if y.inReset then y else y.fire 111, bitmap)
    else (x.onTrl (fun t => { t with claim := some p }), withBit bitmap p)

/-- The ASSIGN phase at a member. -/
def Die.assignPhase (x : Die) (depth bitmap : Nat) : Die × Nat :=
  let a := match x.trl.claim with
    | some p => p
    | none => if x.get F.TRL_ADDR_MODE = 1 then 0 else lowestClear bitmap
  (x.takeAddress a depth, withBit bitmap a)

/-- ENUM (R365). -/
def execEnum (d : DieId) (p : Packet) (assign : Bool) (depth bitmap : Nat) (s : State) : Host.Outcome State Fault Refusal :=
  onHop d s fun _ x => x.packet p fun x =>
    if !x.fromMaster p then x
    else if assign then
      let (y, m) := x.assignPhase (depth % 64) (bitmap % 2 ^ 64)
      y.passEnum true (depth + 1) m
    else
      let (y, m) := x.claimPhase (bitmap % 2 ^ 64)
      y.passEnum false depth m

/-- The master's ASSIGN phase begins with its own address. -/
def Die.masterAssign (x : Die) (bitmap : Nat) : Die :=
  let y := x.takeAddress (x.trl.claim.getD 1) 0
  if y.downUp then (y.onTrl (fun t => { t with stage := 2 })).send (.trlEnum true 1 bitmap)
  else (y.onTrl (fun t => { t with stage := 0 })).fire 108

/-- An enumeration begins at the master; without a DOWN port it is over at once. -/
def Die.startEnum (x : Die) : Die :=
  let p := x.prefers.getD 1
  let y := x.onTrl (fun t => { t with claim := some p, stage := 1 })
  if y.downUp then y.send (.trlEnum false 0 (withBit 0 p)) else y.masterAssign (withBit 0 p)

/-- ENUM_RSP (R365): the bitmap is back at the master. -/
def execEnumRsp (d : DieId) (p : Packet) (bitmap _count : Nat) (s : State) : Host.Outcome State Fault Refusal :=
  onDie d s fun _ x => x.packet p fun x =>
    if !x.on F.TRL_ADDR_MASTER then x
    else if x.trl.stage = 1 then x.masterAssign bitmap
    else if x.trl.stage = 2 then (x.onTrl (fun t => { t with stage := 0 })).fire 108
    else x

/-- TRL_MASTER.ENUM_GO (R365). -/
def Die.enumGo (x : Die) : Die := if x.on F.TRL_ADDR_MASTER && x.leads && x.takes 0x12 then x.startEnum else x.accErr 0x12

/-- ENUM_GO. -/
def execEnumGo (d : DieId) (s : State) : Host.Outcome State Fault Refusal := onDie d s fun _ x => x.enumGo

/-- A master with AUTOENUM starts an enumeration (R367). -/
def Die.autoEnum (x : Die) : Die := if x.on F.TRL_ADDR_MASTER && x.on F.TRL_MASTER_AUTOENUM then x.startEnum else x

/-- LINK_NEW (R367). -/
def execLinkNew (d : DieId) (p : Packet) (s : State) : Host.Outcome State Fault Refusal :=
  onDie d s fun _ x => x.packet p Die.autoEnum

/-- PORT_UP (R367): a member whose DOWN port comes up sends LINK_NEW; a master enumerates (log entry 62). -/
def execPortUp (d : DieId) (up : Bool) (s : State) : Host.Outcome State Fault Refusal :=
  onHop d s fun _ x =>
    if !(x.leads && x.hasPort up) then x
    else
      let y := ((x.portTo up true).onTrl (fun t =>
        { t with used := t.used ||| (if up then 1 else 2) })).showPorts
      if up || !y.on F.TRL_CTRL_EN then y
      else if y.on F.TRL_ADDR_MASTER then (if y.inReset then y else y.autoEnum) else y.send .trlLinkNew

/-- STICKY_STORE (R366): the MP stores the address in logical page 3. -/
def execStickyStore (d : DieId) (s : State) : Host.Outcome State Fault Refusal :=
  onDie d s fun _ x =>
    match x.trl.store with
    | some a =>
      if x.jobRuns 0 && !x.nvsHalted then
        (x.nvsRequest 5 (.page 3 0 (bytesLE 1 a))).onTrl (fun t => { t with store := none })
      else x
    | none => x

/-! ### FRAME_SYNC, SYNC, ALARM (R370 to R372) -/

/-- TRELLIS_FRAME_SYNC (R370): the chain tick is set; one whose instant has passed is taken at once and counted. -/
def Die.frameSync (x : Die) (acc : Nat) (ecc : Ecc) (now : Nat) : Die :=
  let behind := x.get F.TRL_PATH_PATH + 50 * acc
  let ahead := 1000 * x.trl.lead
  if behind ≤ ahead then x.onTrl (fun t => { t with ticks := t.ticks ++ [4 * now + (ahead - behind)] })
  else (x.count F.TRL_PORT_LATE).externalTick ecc now

/-- TRELLIS_FRAME_SYNC. -/
def execTrellisFrameSync (d : DieId) (good : Bool) (acc : Nat) (ecc : Ecc) (s : State) : Host.Outcome State Fault Refusal :=
  onDie d s fun env x =>
    if !x.chained || x.on F.TRL_ADDR_MASTER then x else if good then x.frameSync acc ecc env.now else x.portError true

/-- The instant at which a SYNC takes effect, in ns: of one that this unit sends itself, or that arrives (R370, R371). -/
def Die.syncAt (x : Die) (acc now : Nat) : Nat :=
  if x.on F.TRL_ADDR_MASTER then 4 * now + 1000 * x.get F.TRL_TIMING_LEAD
  else 4 * now + (1000 * x.trl.lead - (x.get F.TRL_PATH_PATH + 50 * acc))

/-- A SYNC at a member: a gap in SEQ, and an instant that has passed, count; it acts where it is addressed (R371). -/
def Die.syncIn (x : Die) (dst seq acc now : Nat) : Die :=
  let gap := match x.trl.seen with | some q => (q + 1) % 256 != seq % 256 | none => false
  let late := 1000 * x.trl.lead < x.get F.TRL_PATH_PATH + 50 * acc
  let y := x.onTrl (fun t => { t with seen := some (seq % 256) })
  let y := if gap then y.count F.TRL_PORT_LATE else y
  let y := if late then y.count F.TRL_PORT_LATE else y
  if y.addressed dst then y.ledSynced (x.syncAt acc now) now else y

/-- TRELLIS_SYNC (R371): it takes effect on both dies of the unit; a master's own takes effect on itself as well. -/
def execTrellisSync (d : DieId) (good : Bool) (dst seq acc : Nat) (s : State) : Host.Outcome State Fault Refusal :=
  let lead := s.die d
  let target := if lead.on F.TRL_ADDR_MASTER then lead.trl.ownSync else if good then some dst else none
  let taken := lead.chained && !lead.inReset && target.any (fun k => lead.addressed k)
  onBoth d s
    (fun env x =>
      if !x.chained then x
      else if x.on F.TRL_ADDR_MASTER then
        match x.trl.ownSync with
        | some k => let y := x.onTrl (fun t => { t with ownSync := none }); if y.addressed k then y.ledSynced (x.syncAt acc env.now) env.now else y
        | none => x
      else if good then x.syncIn dst seq acc env.now else x.portError true)
    (fun env x => if taken then x.ledSynced (lead.syncAt acc env.now) env.now else x)

/-- TRL_MASTER.SYNC_GO (R371). -/
def Die.syncGo (x : Die) : Die :=
  if !(x.on F.TRL_ADDR_MASTER && x.leads && x.takes 0x12) then x.accErr 0x12
  else
    let dst := x.get F.TRL_MASTER_SYNC_DST
    (x.onTrl (fun t => { t with seq := (t.seq + 1) % 256, ownSync := some dst })).send (.trlSync dst x.trl.seq)

/-- SYNC_GO. -/
def execSyncGo (d : DieId) (s : State) : Host.Outcome State Fault Refusal := onDie d s fun _ x => x.syncGo

/-- TRELLIS_ALARM (R372). -/
def execTrellisAlarm (d : DieId) (up good : Bool) (src : Nat) (die : DieId) (cls tile t frame : Nat) (s : State) :
    Host.Outcome State Fault Refusal :=
  onDie d s fun _ x =>
    if !x.chained then x
    else if !good then x.portError up
    else
      let y := ((((x.set (F.TRL_ALARM_VALID 0) 1).setB (F.TRL_ALARM_DIE 0) (die = .b)).set (F.TRL_ALARM_CLASS 0) cls).set
        (F.TRL_ALARM_TILE 0) tile).set (F.TRL_ALARM_SRC 0) src
      ((y.set (F.TRL_ALARM_FRAME 1) frame).set (F.TRL_ALARM_T 1) t).fire 106

/-! ### Time (R368, R369) -/

/-- The die's time set at an instant, by a step. -/
def Die.setTime (x : Die) (v now : Nat) : Die :=
  { x with clock := { x.clock with base := v, fine := 0, from_ := now, slew := 0 } }

/-- TIMESRC of the die; while it is 1 the crystal model is not used (R299). -/
def Die.setAligned (x : Die) (b : Bool) (now : Nat) : Die :=
  let y := if b then x.setRate 0 now else x
  { y with clock := { y.clock with aligned := b } }

/-- An offset of the die's time removed: slewed out at 100 ppm at most, or by a step where it exceeds 1 µs (R369). -/
def Die.removeOffset (x : Die) (offset : Int) (t now : Nat) : Die :=
  if 1000 < offset.natAbs then x.setTime t now
  else
    let (r, y) := x.freeBetween 1 10000
    { y with clock := { y.clock.rebase now with slew := 100000000 * offset, slewRate := r } }

/-- A TIME at a member: hop and path delay, the offset removed, the lock judged, its own TIME sent on (log entry 63). -/
def Die.timeIn (x : Die) (time path lead now : Nat) : Die :=
  let h := x.get F.TRL_PATH_HOP
  let t := time + h
  let offset : Int := (t : Int) - (x.timeNs now : Nat)
  let l := (x.trl.offsets ++ [offset]).drop (x.trl.offsets.length - 2)
  let locked := l.length = 3 && l.all (fun o => decide (o.natAbs ≤ 100))
  let d := (if x.get F.TRL_ADDR_DEPTH ≤ 1 then 0 else path + 100) + h
  let y := ((x.onTrl (fun k => { k with offsets := l, lead := lead })).removeOffset offset t now).set F.TRL_PATH_PATH (min d 65535)
  let y := (y.setB F.TRL_TIMING_LOCKED locked).setAligned locked now
  let y := if y.inReset || !locked then y else y.cond 110 false
  if y.downUp then y.send (.trlTime (y.timeNs now) d lead) else y

/-- Die B's time follows the lead die's (R369). -/
def Die.followTime (x : Die) (env : Env) : Die :=
  if env.peer.leads && !x.leads then { x with clock := env.peer.clock } else x

/-- A change of the lead die's time that the other die follows. -/
def onTime (d : DieId) (s : State) (f : Env → Die → Die) : Host.Outcome State Fault Refusal :=
  let g (env : Env) (x : Die) : Die := if x.alwaysOn then f env x else x
  if s.has d then
    .next (if s.has d.other then (s.runAlways d g).runAlways d.other (fun env x => x.followTime env) else s.runAlways d g)
  else .fault .noSuchDie

/-- TRELLIS_TIME. -/
def execTrellisTime (d : DieId) (p : Packet) (time path lead : Nat) (s : State) : Host.Outcome State Fault Refusal :=
  onTime d s fun env x => x.packet p fun x => if x.fromMaster p then x.timeIn time path lead env.now else x

/-- TIME_REQ (R368): answered with the times of its arrival and of the answer. -/
def execTimeReq (d : DieId) (p : Packet) (s : State) : Host.Outcome State Fault Refusal :=
  onHop d s fun env x => x.packet p fun x =>
    let t2 := x.timeNs env.now / 4 * 4
    let (v, y) := x.freeVal 16
    y.send (.trlTimeRsp t2 (t2 + 4 * v))

/-- TIME_RSP (R368): h = ((t4 − t1) − (t3 − t2)) / 2; the rounding is open. -/
def execTimeRsp (d : DieId) (p : Packet) (t2 t3 : Nat) (s : State) : Host.Outcome State Fault Refusal :=
  onHop d s fun env x => x.packet p fun x =>
    match x.trl.t1 with
    | some t1 =>
      let t4 := x.timeNs env.now / 4 * 4
      let (h, y) := x.openRound ((t4 - t1) - (t3 - t2)) 2
      (y.set F.TRL_PATH_HOP (min h 65535)).onTrl (fun t => { t with t1 := none })
    | none => x

/-- HOP_DELAY_MEASURE (R368). -/
def execHopDelayMeasure (d : DieId) (s : State) : Host.Outcome State Fault Refusal :=
  onHop d s fun env x =>
    if x.chained && !x.on F.TRL_ADDR_MASTER then
      (x.onTrl (fun t => { t with t1 := some (x.timeNs env.now / 4 * 4) })).send .trlTimeReq
    else x

/-- TIME_SEND (R368). -/
def execTimeSend (d : DieId) (s : State) : Host.Outcome State Fault Refusal :=
  onHop d s fun env x =>
    if x.chained && x.on F.TRL_ADDR_MASTER then x.send (.trlTime (x.timeNs env.now) 0 (x.get F.TRL_TIMING_LEAD)) else x

/-- UNLOCKED (R369): no TIME for 3 s; the counter runs on. -/
def execUnlocked (d : DieId) (s : State) : Host.Outcome State Fault Refusal :=
  onTime d s fun env x =>
    if x.chained && !x.on F.TRL_ADDR_MASTER then
      let y := ((x.set F.TRL_TIMING_LOCKED 0).setAligned false env.now).onTrl (fun t => { t with offsets := [] })
      if y.inReset then y else y.cond 110 true
    else x

/-- The chain time that the master's host writes (R369); ignored on another unit. -/
def Die.timeSet (x : Die) (t now : Nat) : Die :=
  if x.on F.TRL_ADDR_MASTER && x.leads then (x.setTime (t % 2 ^ 64) now).setAligned true now else x.accErr 0x12

/-- TIME_SET. -/
def execTimeSet (d : DieId) (t : Nat) (s : State) : Host.Outcome State Fault Refusal :=
  onBoth d s (fun env x => x.timeSet t env.now) (fun env x => x.followTime env)

/-! ### Commands of the master (R364) -/

/-- A busy TRL_CMD completes. -/
def Die.trlDone (x : Die) (status : Nat) (data : List Byte) : Die :=
  let y := ((x.set F.TRL_CMD_STAT_BUSY 0).set F.TRL_CMD_STAT_STATUS status).set F.TRL_CMD_STAT_RLEN data.length
  let y := (List.range ((data.length + 3) / 4)).foldl (fun y k =>
    if k < 64 then y.set (F.TRL_BUF_DATA k) (ofBytesLE ((data.drop (4 * k)).take 4)) else y) y
  y.fire 105

/-- TRL_CMD written with GO: the packet is sent from TRL_BUF; a broadcast or a RESET completes at once. With LEN 0 nothing is
done, at once; TRL_CMD_STAT.STATUS has no code for the ZERO of R14, so it is open then (log entry 96). -/
def Die.trlCmd (x : Die) (dst type len : Nat) : Die :=
  let dst := dst % 64
  let type := type % 256
  let len := len % 512
  if !(x.on F.TRL_ADDR_MASTER && x.leads && x.takes 0x12) || x.on F.TRL_CMD_STAT_BUSY || !(type = 3 || type = 4 || type = 9) || 256 < len then
    x.accErr 0x12
  else
    let bytes := ((List.range 64).flatMap (fun k => bytesLE 4 (x.get (F.TRL_BUF_DATA k)))).take len
    let y := ((x.set F.TRL_CMD_DST dst).set F.TRL_CMD_TYPE type).set F.TRL_CMD_LEN len
    if len = 0 then (let (st, y) := y.freeVal 3; y.trlDone st [])
    else
    let y := y.onTrl (fun t => { t with tag := (t.tag + 1) % 256 })
    let y := y.send (.trlPacket false dst type y.trl.tag bytes)
    if dst = 63 || type = 9 then y.trlDone 0 [] else y.set F.TRL_CMD_STAT_BUSY 1

/-- TRL_CMD_GO. -/
def execTrlCmdGo (d : DieId) (dst type len : Nat) (s : State) : Host.Outcome State Fault Refusal :=
  onDie d s fun _ x => x.trlCmd dst type len

/-- TRELLIS_RSP (R364): the answer of the command in progress. -/
def execTrellisRsp (d : DieId) (p : Packet) (status : Nat) (data : List Byte) (s : State) : Host.Outcome State Fault Refusal :=
  onDie d s fun _ x => x.packet p fun x =>
    if x.on F.TRL_CMD_STAT_BUSY && p.tag = x.trl.tag then x.trlDone (status % 8) (data.take 256) else x

/-- TRL_CMD_TIMEOUT (R364). -/
def execTrlCmdTimeout (d : DieId) (s : State) : Host.Outcome State Fault Refusal :=
  onDie d s fun _ x => if x.on F.TRL_CMD_STAT_BUSY then x.trlDone 3 [] else x

/-! ### HEARTBEAT, RESET, boot (R373 to R375) -/

/-- An address marked, or cleared, in TRL_SEEN. -/
def Die.markSeen (x : Die) (a : Nat) (b : Bool) : Die :=
  if a < 32 then x.setBit F.TRL_SEEN_LO_SEEN a b else x.setBit F.TRL_SEEN_HI_SEEN (a - 32) b

/-- An address is marked in TRL_SEEN. -/
def Die.seesUnit (x : Die) (a : Nat) : Bool := if a < 32 then x.bitOf F.TRL_SEEN_LO_SEEN a else x.bitOf F.TRL_SEEN_HI_SEEN (a - 32)

/-- HEARTBEAT (R373). -/
def execHeartbeat (d : DieId) (p : Packet) (s : State) : Host.Outcome State Fault Refusal :=
  onDie d s fun _ x => x.packet p fun x => x.markSeen (p.src % 64) true

/-- HEARTBEAT_SEND (R373). What the package status holds of the other die while the link between the dies is down, or after a takeover
from a failed Die A, the rules leave open (R21, R377, R378): the model's choice is the groups that the other die's own registers show
then (log entry 110). -/
def execHeartbeatSend (d : DieId) (s : State) : Host.Outcome State Fault Refusal :=
  onDie d s fun env x =>
    if !x.chained then x
    else
      let dies := if env.dual then [x, env.peer] else [x]
      let levels := dies.map (fun y => y.get F.THM_LEVEL_LEVEL)
      x.send (.trlHeartbeat x.serial (x.get F.TRL_ADDR_ADDR) x.pairRole (x.get F.PRL_STAT_PADDR)
        (dies.map (fun y => maskOf 20 y.groupOn)) levels (x.downUp) env.die)

/-- UNIT_LOST (R373). -/
def execUnitLost (d : DieId) (addr : Nat) (s : State) : Host.Outcome State Fault Refusal :=
  onDie d s fun _ x => if x.seesUnit (addr % 64) then (x.markSeen (addr % 64) false).fire 109 else x

/-- EOP_TIMEOUT (R363). -/
def execEopTimeout (d : DieId) (up : Bool) (s : State) : Host.Outcome State Fault Refusal :=
  onHop d s fun _ x => if x.chained then x.portError up else x

/-- A RESET that the die obeys: addressed to its unit, or broadcast, from the master, while RSTEN is 1 (R374); the unit's
lead die decides for both. -/
def Die.obeysReset (x : Die) (p : Packet) (reach : Nat) : Bool :=
  x.chained && p.good && x.fromMaster p && x.addressed p.dst && x.on F.TRL_CTRL_RSTEN && 3 ≤ reach && reach ≤ 5

/-- A RESET that wakes the die from Dormant: enabled in PWR_WAKE at the entry, and addressed as the address was then
(R329; log entry 64). -/
def Die.wakesOn (x : Die) (p : Packet) : Bool :=
  x.boot.dormant && x.boot.wake.testBit 0 && p.good && (p.dst = 63 || (p.dst != 0 && p.dst = x.boot.wake / 256))

/-- TRELLIS_RESET (R374): in the always-on domain, on both dies of the unit; on a die in Dormant it acts as the wake alone (R329). -/
def execTrellisReset (d : DieId) (p : Packet) (reach : Nat) (s : State) : Host.Outcome State Fault Refusal :=
  let lead := s.die d
  let obeyed := lead.obeysReset p reach && lead.alwaysOn
  if !s.has d then .fault .noSuchDie
  else if obeyed || (s.dieA.wakesOn p || (s.dual && s.dieB.wakesOn p)) then
    onPackageAlways s fun env x =>
      if x.boot.dormant then (if x.wakesOn p then x.assertSource env (commandSource 4 4) else x)
      else if obeyed then x.assertSource env (commandSource reach 2)
      else if env.die = d && x.alwaysOn then x.packet p id else x
  else onHop d s fun _ x => x.packet p id

/-- BOOT_REQ (R375): answered from a verified image store only. -/
def execBootReq (d : DieId) (p : Packet) (s : State) : Host.Outcome State Fault Refusal :=
  onHop d s fun _ x => x.packet p fun x => if !p.up && x.images then x.send .trlBootImage else x

/-- BOOT_DATA (R375): with the last of the 2,048 packets the image set is in place. -/
def execBootData (d : DieId) (p : Packet) (s : State) : Host.Outcome State Fault Refusal :=
  onHop d s fun _ x => x.packet p fun x =>
    if x.startStep = 5 && x.get F.SYS_IDENT_BOOT = 2 && p.up then
      let n := x.trl.boot + 1
      let y := x.onTrl (fun t => { t with boot := n })
      if n = 2048 then y.onStart (fun st => { st with go := true }) else y
    else x

/-! ### The die-to-die link (R376 to R378) -/

/-- D2D_HEARTBEAT (R376). -/
def execD2dHeartbeat (d : DieId) (s : State) : Host.Outcome State Fault Refusal :=
  onDie d s fun env x => if env.dual then x.send .d2dBeat else x

/-- D2D_DOWN (R376). -/
def execD2dDown (s : State) : Host.Outcome State Fault Refusal :=
  onPackage s fun env x =>
    if env.dual then
      let y := (x.set F.D2D_STAT_UP 0).cond 113 true
      if !x.leads && x.on F.CAL_PAIR_LOCAL then y.loseGrant env.now else y
    else x

/-- D2D_RETRAIN (R376). -/
def execD2dRetrain (ok : Bool) (s : State) : Host.Outcome State Fault Refusal :=
  onPackage s fun env x => if env.dual && ok then (x.set F.D2D_STAT_UP 1).cond 113 false else x

/-- FLIT_RETRY (R376). -/
def execFlitRetry (d : DieId) (s : State) : Host.Outcome State Fault Refusal :=
  onDie d s fun env x => if env.dual then (x.count F.D2D_STAT_RETRIES).fire 114 else x

/-- Die B takes the address and chain data that Die A mirrored to it. -/
def Die.takeChain (x peer : Die) : Die :=
  let y := [F.TRL_ADDR_ADDR, F.TRL_ADDR_VALID, F.TRL_ADDR_DEPTH, F.TRL_ADDR_MODE, F.TRL_ADDR_MASTER, F.TRL_PATH_PATH,
    F.TRL_PATH_HOP].foldl (fun y f => y.set f (peer.get f)) x
  let y := (y.setB F.TRL_PORT_UP (peer.trl.ports.getLsbD 0)).setB F.TRL_PORT_DOWN peer.downUp
  ({ y with trl := peer.trl, prl := peer.prl } : Die).showPorts

/-- TAKEOVER (R378): in a pair role, Die B takes the lead. -/
def execTakeover (s : State) : Host.Outcome State Fault Refusal :=
  if !s.dual || s.dieB.leads || s.dieB.inReset || s.dieB.pairRole = 0 || 3 ≤ s.dieB.pairRole then .next s
  else
    let t := s.runOn .b fun env x => (((x.takeChain env.peer).set F.SYS_IDENT_LEAD 1).set F.D2D_STAT_TAKEN 1).fire 115
    .next (t.runAlways .a fun _ x => (x.set F.SYS_IDENT_LEAD 0).set F.D2D_STAT_TAKEN 1)

end Sys2Proof.Machine
end

