-- ==== Sys2Proof/Machine/Pair.lean ====
section
/-!
DEFINITION. The Pair Link (13_links.md, R379 to R383), on the lead die of a package in a pair role.
-/

namespace Sys2Proof.Machine

/-- The Pair Link's hidden state changed. -/
def Die.onPrl (x : Die) (f : Prl → Prl) : Die := { x with prl := f x.prl }

/-- The die runs the Pair Link: it leads a package in a pair role, and PRL_CTRL.EN is 1. -/
def Die.paired (x : Die) : Bool := x.leads && (x.pairRole = 1 || x.pairRole = 2) && x.on F.PRL_CTRL_EN

/-! ### Shared actuators (R383) -/

/-- Ownership of the shared actuators taken or released: what is released is held off, with its integrators at 0. -/
def Die.setOwner (x : Die) (b : Bool) : Die :=
  if x.on F.PRL_STAT_OWNER = b then x
  else
    let y := x.setB F.PRL_STAT_OWNER b
    y.holdShared.showLoops.fire 127

/-- The other die of the package follows the lead die's ownership. -/
def Die.followOwner (x : Die) (env : Env) : Die :=
  if env.peer.leads && !x.leads then x.setOwner (env.peer.on F.PRL_STAT_OWNER) else x

/-! ### Training and heartbeats (R379, R380) -/

/-- PRL_TRAINING_DONE (R379); with roles that do not fit the link counts as down for R185. -/
def execPrlTrainingDone (d : DieId) (serial role addr : Nat) (lead : DieId) (s : State) : Host.Outcome State Fault Refusal :=
  onBoth d s
    (fun env x =>
      if !x.paired then x
      else
        let bad := !((role = 1 || role = 2) && role != x.pairRole)
        let y := ((x.set F.PRL_STAT_UP 1).set F.PRL_STAT_PROLE role).set F.PRL_STAT_PADDR addr
        let y := (y.setB F.PRL_STAT_PLEAD (lead = .b)).setB F.PRL_STAT_ROLE_BAD bad
        let y := ((y.set64 F.PRL_PSERIAL_LO_SERIAL F.PRL_PSERIAL_HI_SERIAL serial).cond 123 false).cond 125 bad
        if bad then y.barred env else y)
    (fun env x => if env.peer.on F.PRL_STAT_ROLE_BAD then x.barred env else x)

/-- PRL_MESSAGE_FAIL (R379): a message has failed its three repeats, and the link is down. -/
def execPrlMessageFail (d : DieId) (s : State) : Host.Outcome State Fault Refusal :=
  onBoth d s
    (fun env x =>
      if x.paired && x.on F.PRL_STAT_UP then (((x.count F.PRL_CNT_RETRIES 3).set F.PRL_STAT_UP 0).cond 123 true).barred env
      else x)
    (fun env x => x.barred env)

/-- PRL_HEARTBEAT_SEND (R380). -/
def execPrlHeartbeatSend (d : DieId) (s : State) : Host.Outcome State Fault Refusal :=
  onDie d s fun env x =>
    if !x.paired then x
    else
      let dies := if env.dual then [x, env.peer] else [x]
      x.send (.prlBeat x.pairRole env.die (dies.map (fun y => y.boot.down)) (dies.map (fun y => y.get F.SVE_SLICE_OUT))
        (dies.map (fun y => y.evRaw.getLsbD 370))
        (dies.map (fun y => y.get F.THM_LEVEL_LEVEL)) (!x.prl.missed))

/-- The partner is alive (Table 13.11). -/
def Die.partnerBack (x : Die) : Die :=
  ((((x.set F.PRL_STAT_ALIVE 1).set F.PRL_STAT_FAILED 0).onPrl (fun p => { p with missed := false, backAt := none })).cond 124
    false)

/-- PRL_HEARTBEAT (R380, Table 13.11): the link it came over is up; a partner declared failed is alive again after 1 s of heartbeats. -/
def execPrlHeartbeat (d : DieId) (lead : DieId) (hot heard : Bool) (s : State) : Host.Outcome State Fault Refusal :=
  onDie d s fun env x =>
    if !x.paired then x
    else
      let y := (x.setB F.PRL_STAT_PLEAD (lead = .b)).onPrl (fun p => { p with heard := heard })
      let y := ({ y with vote := { y.vote with partnerHot := hot } }.set F.PRL_STAT_UP 1).cond 123 false
      if !y.on F.PRL_STAT_FAILED then y.partnerBack
      else match y.prl.backAt with
        | none => y.onPrl (fun p => { p with backAt := some env.now })
        | some t => if t + 250000000 ≤ env.now then y.partnerBack else y

/-- PARTNER_MISS (R380): heartbeats missed for MISS periods, which marks the link down (PRL_HB.MISS). -/
def execPartnerMiss (d : DieId) (s : State) : Host.Outcome State Fault Refusal :=
  onBoth d s
    (fun env x =>
      if x.paired then
        ((((x.count F.PRL_CNT_MISSED (x.get F.PRL_HB_MISS)).onPrl (fun p => { p with missed := true, backAt := none })).set
          F.PRL_STAT_UP 0).cond 123 true).barred env
      else x)
    (fun env x => x.barred env)

/-- The partner's Trellis HEARTBEAT is heard. -/
def Die.hearsPartner (x : Die) : Bool := x.get F.TRL_ADDR_MODE != 3 && x.seesUnit (x.get F.PRL_STAT_PADDR)

/-- PARTNER_FAIL_TMO (R380, R383): the partner is declared failed, and the survivor takes the shared actuators. -/
def execPartnerFailTmo (d : DieId) (s : State) : Host.Outcome State Fault Refusal :=
  onBoth d s
    (fun _ x =>
      if x.paired && x.prl.missed && !x.hearsPartner && !x.on F.PRL_STAT_FAILED then
        (((x.set F.PRL_STAT_ALIVE 0).set F.PRL_STAT_FAILED 1).cond 124 true).setOwner true
      else x)
    (fun env x => x.followOwner env)

/-- AUTOBACK (R383): ownership returns to the primary. -/
def execAutoback (d : DieId) (s : State) : Host.Outcome State Fault Refusal :=
  onBoth d s
    (fun _ x =>
      if x.paired && x.on F.PRL_CTRL_AUTOBACK && x.on F.PRL_STAT_ALIVE then x.setOwner (x.pairRole = 1) else x)
    (fun env x => x.followOwner env)

/-! ### Pair traffic (R381, R382) -/

/-- PAIR_HIT (R381): the vote, and with PINFWD the pin, released as after a local hit. -/
def execPairHit (d : DieId) (cls tile t frame : Nat) (pin : Bool) (s : State) : Host.Outcome State Fault Refusal :=
  let _ := (tile, t)
  onDie d s fun env x =>
    if !(x.paired && x.pairUp) then x
    else
      let y := x.voteHit false (cls % 16) frame
      if pin && y.on F.PRL_CTRL_PINFWD then (y.onRad (fun r => { r with pinLow := true, pinAt := some env.now, pinHit := true })).showPin else y

/-- PAIR_MAP (R382): into the next of the 16 slots of the partner's die. -/
def execPairMap (d : DieId) (die : DieId) (frame : Nat) (map : List Byte) (s : State) : Host.Outcome State Fault Refusal :=
  onDie d s fun _ x =>
    if !(x.paired && x.pairUp) then x
    else
      let k := if die = .a then 0 else 1
      let n := x.prl.nextMap.getD k 0
      let y := x.dramWrite (x.get F.PRL_RMAP_BASE_BASE * 4096 + 1024 * (16 * k + n)) (padTo 1024 (map.take 640 ++ bytesLE 8 frame))
      y.onPrl (fun p => { p with nextMap := fillSet 0 p.nextMap k ((n + 1) % 16) })

/-- A mirror entry as its slot holds it. -/
def mirrorSlot (serial : Nat) (die : DieId) (record : Bool) (bytes : List Byte) : List Byte :=
  padTo 16 (bytesLE 8 serial ++ bytesLE 1 (if die = .a then 0 else 1) ++ bytesLE 1 (if record then 2 else 1) ++
    bytesLE 2 bytes.length) ++ bytes

/-- PAIR_MIRROR (R382): into the next slot, and to stream 41; refused while all 32 are undelivered. -/
def execPairMirror (d : DieId) (serial : Nat) (die : DieId) (record : Bool) (bytes : List Byte) (s : State) :
    Host.Outcome State Fault Refusal :=
  onDie d s fun _ x =>
    if !(x.paired && x.pairUp) then x
    else if 32 ≤ (x.itemsOf 41).length then x.send .mirrorRefused
    else
      let b := mirrorSlot serial die record (bytes.take 2032)
      let y := x.dramWrite (x.get F.PRL_MIRROR_BASE_BASE * 4096 + 2048 * x.prl.nextMirror) b
      (y.onPrl (fun p => { p with nextMirror := (p.nextMirror + 1) % 32 })).dmaPost { stream := 41, bytes := b }

end Sys2Proof.Machine
end

