-- ==== Sys2Proof/Machine/Blocks.lean ====
section
/-!
DEFINITION. Resets narrower than a die: block resets, waited for or forced (R36, and each chapter's rule), cluster and
region resets (R104, R313).
-/

namespace Sys2Proof.Machine

/-! ### What a block does at its reset, before its fields are lost -/

/-- The thermal frames with rows that are still to enter the Sieve, in it, or in the fill stage. -/
def Die.sieveFrames (x : Die) : List Nat :=
  ((x.acb.rows.map (·.frame) ++ x.sieve.waiting.map (·.frame) ++ x.sieve.inside.toList.map (·.frame)) ++ x.sieve.held.map (·.frame)).eraseDups

/-- R147: the frame in progress is abandoned, with one whose last rows are still to come; the rows in the Sieve, the fill stage
and the row buffer are discarded. -/
def Die.sieveReset (x : Die) (now : Nat) : Die :=
  let y := x.abandonFrame now
  let y := y.sieveFrames.foldl (fun y n => (y.loseFrame n true).discardRows n) y
  { y with cmm := { y.cmm with halves := [] } }.onSieve (fun s =>
    { s with waiting := [], inside := none, held := [], above := none })

/-- R104: the frame in progress is abandoned, and every row with open windows goes with the converters' common state: a frame that
has ended and still had one is lost as well. -/
def Die.dropRows (x : Die) (now : Nat) : Die :=
  let y := x.abandonFrame now
  let z := ((y.acb.rows.map (·.frame)).eraseDups).foldl (fun y n => (y.loseFrame n true).discardRows n) y
  { z with acb := { settleDue := z.acb.settleDue } }

/-- R217: a port's open frames are lost and its line buffer is emptied. -/
def Die.csiReset (x : Die) (p : Nat) : Die :=
  ((List.range 8).filter (fun n => (x.ctxOf n).active && x.get (F.CTX_SRC_SRC n) = p + 1)).foldl (fun y n =>
    let k := y.ctxOf n
    let lost := k.frames.filter (fun f => !f.ended || k.held.any (fun l => l.num = f.num))
    (lost.foldl (fun y f => y.takeOut n f.num) y).onCtx n (fun k => { k with rx := false, discarding := false, held := [] })) x

/-- R217: every unfinished frame is lost, the token queues are emptied, the temporal histories restart. -/
def Die.ippReset (x : Die) : Die :=
  let y := (List.range 8).foldl (fun y n =>
    let z := ((y.ctxOf n).frames ++ (y.ctxOf n).holds).foldl (fun z f => z.takeOut n f.num) y
    (z.onCtx n (fun k => { k with fresh := true, holds := [] })).dropTokens n) x
  y.onIpp (fun i => { i with running := none })

/-- R238: the frames in tagging are lost, and their buffers are free again, but for one that the port reads. -/
def Die.loseDone (x : Die) : Die :=
  (x.onIpp (fun i => { i with done := i.done.filter (·.late) })).freeOrphans

/-- R384: the engines' descriptors in progress complete with ABORTED. -/
def Die.abortDma (x : Die) : Die :=
  (List.range 42).foldl (fun y s =>
    if y.streamReady s && !(y.itemsOf s).isEmpty then (y.sendItem s 2 0 []).descriptorDone s else y) x

/-- The commands in the mailboxes are dropped, with whatever was to answer them. -/
def Die.mbxReset (x : Die) : Die :=
  let free (r : NvsReq) : NvsReq := match r.tag with | .mbx _ _ _ => { r with tag := .none } | _ => r
  let y := x.onNvs (fun s => { s with queue := s.queue.map free, doing := s.doing.map free })
  let y := y.onCal (fun c => { c with hashMbx := false, recordMbx := false, host := none })
  let y := y.onEvd (fun e => { e with closeAsk := false, sealAsk := false, queue := e.queue.map (fun r => { r with ask := false }) })
  { y with mbx := List.replicate 8 {} }

/-- R417: the test in progress is abandoned, and its resource stays marked for test. -/
def Die.stsReset (x : Die) : Die :=
  x.onSpr (fun s => { s with inventory := s.inventory.map (fun r =>
    if r.testing then { r with testing := false, waiting := true, spoilt := false } else r) })

/-- R305: the converters and the sampling start afresh, so that a sensor in service has no reading and no crossing is half made; the
failures, with the last reading of a failed sensor, the levels and the holds stay. -/
def Die.thmReset (x : Die) : Die :=
  let sens := (List.range 10).map (fun k =>
    if x.on (F.THM_SENS_FAIL k) then { x.sensor k with valid := none, prev := none, good := 0 } else { count := (x.sensor k).count })
  x.onThm (fun t => { t with sens := sens, zones := t.zones.map (fun g => { g with prev := none, shut := none, back := 0 }) })

/-- What THM shows after its reset: the last valid reading of each failed sensor, the zones, the level and the conditions (R305). -/
def Die.thmAfter (y x : Die) : Die :=
  ((List.range 10).foldl (fun y k =>
    if x.on (F.THM_SENS_FAIL k) then y.set (F.THM_SENS_TEMP k) (x.get (F.THM_SENS_TEMP k)) else y) y).showThermal

/-- The resources that a block reset returns to service leave the inventory: the slices (R147), and a cluster's cores and
channels, whose CLU_CORE0_OUT, CLU_CORE1_OUT and CLU_GRAFT it loses. A test of one ends without a result, and a host request for
that test is DENIED (log entry 104). -/
def Die.resetReturns (x : Die) (mine : Resource → Bool) : Die :=
  let tested := x.spr.inventory.any (fun r => mine r && r.testing)
  let asked := x.spr.inventory.any (fun r => mine r && r.hostTest)
  let y := (x.onSpr (fun s => { s with inventory := s.inventory.filter (fun r => !mine r) })).showWaiting
  let y := if tested then y.set F.STS_STATE_BUSY 0 else y
  (if asked then y.requestDone 1 else y).showNoSpare

/-- The effect of a block reset on the block's work (R76, R104, R147, R186, R217, R259, R270, R274, R283, R351, R402). -/
def Die.blockWork (x : Die) (p : Nat) (forced : Bool) (now : Nat) : Die :=
  if p = 0x05 then x.thmReset
  else if p = 0x08 then x.mbxReset
  else if p = 0x0A then x.onSpr (fun s => { s with request := none })
  else if p = 0x0B then x.stsReset
  else if p = 0x10 then x.onNvs (fun s => { s with op := none, asks := [], queue := s.queue.filter (fun r => r.tag != .host) })
  else if p = 0x11 then { x with spi := {} }
  else if p = 0x12 then x.onTrl (fun t => { t with ownSync := none, offsets := [], t1 := none })
  else if p = 0x14 then (if forced then x.abortDma else x)
  else if p = 0x20 then (x.rakeQuit none now).onRake (fun r => { store := r.store, lastFrame := r.lastFrame, timerAt := r.timerAt })
  else if p = 0x21 then x.afeOff.rakeHalt (some 5) now
  else if p = 0x22 then x.onTrm (fun t => { t with stale := true, loading := false, switching := none, copied := [], invalid := [] })
  else if p = 0x23 then x.dropRows now
  else if 0x24 ≤ p && p ≤ 0x27 then
    (x.abandonFrame now).onAcb (fun a => { a with captures := a.captures.filter (fun r => r != p - 0x24) })
  else if 0x80 ≤ p then ((x.abandonFrame now).onClu (p - 0x80) (fun _ => {})).resetReturns (fun r => r.ofCluster (p - 0x80))
  else if p = 0x28 then
    (x.calAbandon 5 now).onCal (fun c =>
      { c with hostDue := false, event := none, deferred := false, words := 0, ests := [], disagree := [], trims := []
               spurKnown := false, hash := false })
  else if p = 0x29 then { (x.calAbandon 5 now).cloOff.heaterOff with clo := { hall0 := x.clo.hall0, hall1 := x.clo.hall1 } }
  else if p = 0x30 then
    ((x.sieveReset now).resetReturns (fun r => r.type = 3)).onSieve (fun s =>
      { s with removing := [], returning := [], spareFor := none, twins := [], capture := false })
  else if p = 0x31 then (x.sieveReset now).auditRestart
  else if p = 0x32 then
    ((x.sieveReset now).releasePin).onRad (fun r =>
      { resp := r.resp, zones := r.zones, respStaged := if x.on F.RAD_BANK_COPYING then r.resp else r.respStaged
        zonesStaged := if x.on F.RAD_BANK_COPYING then r.zones else r.zonesStaged })
  else if p = 0x33 then { x.sieveReset now with cmm := {} }
  else if p = 0x38 then x.fcvStop
  else if p = 0x39 then x.loopsStop.safeOff
  else if p = 0x3A then x.pwmStop.safeLow
  else if p = 0x3B then x.lampsOff.onLed (fun l => { l with due := false, sync := false, synced := none })
  else if 0x40 ≤ p && p ≤ 0x43 then (if forced then x.csiReset (p - 0x40) else x)
  else if 0x44 ≤ p && p ≤ 0x46 then x.ippReset
  else if p = 0x47 then (x.onIpp (fun i => { i with vtx := none, vtxNext := none })).freeOrphans
  else if p = 0x50 then (if forced then x.loseDone else x).onIpp (fun i => { i with done := i.done.map (fun e => { e with late := false }) })
  else x

/-! ### What a block shows after its reset -/

/-- The condition events of a page whose causes lie outside the fields that its block reset loses: each that was present is
present still when the block watches again (R34). -/
def lastingConds (p : Nat) : List Nat :=
  if p = 0x01 then [11, 13, 14]
  else if p = 0x03 then [26]
  else if p = 0x04 then [6, 7]
  else if p = 0x0A then [611]
  else if p = 0x10 then [71, 72, 74]
  else if p = 0x12 then [110]
  else if p = 0x15 then [123]
  else if p = 0x39 then [418]
  else if p = 0x50 then [552]
  else if p = 0x51 then [561, 562]
  else []

/-- The conditions that kept fields and other blocks hold, present again after the reset of a page's block (R34). -/
def Die.condsAgain (y x : Die) (p : Nat) : Die :=
  let y := (lastingConds p).foldl (fun y e => y.cond e (x.evRaw.getLsbD e)) y
  if p = 0x0A then y.showWear
  else if p = 0x0B then y.showNoSpare
  else if p = 0x13 then y.cond 113 (x.on F.EVT_PKG_SUM_DIE_B && !y.on F.D2D_STAT_UP)
  else if p = 0x20 then y.cond 139 (y.get F.SEQ_FAULT_CAUSE != 0)
  else if p = 0x21 then y.cond 145 (y.get F.AFE_TRIP_CAUSE != 0)
  else if p = 0x28 then y.cond 328 (3 ≤ y.cal.rejects)
  else if p = 0x29 || p = 0x50 then y.showNvs
  else if p = 0x31 then y.showDyn
  else if p = 0x3B then y.showRefLost
  else if 0x80 ≤ p then ((y.showClu (p - 0x80)).showDeg).showTrimWear (p - 0x80)
  else y

/-- What the block does once its fields are lost; `x` is the die before the reset. -/
def Die.blockAfter (y x : Die) (env : Env) (p : Nat) : Die :=
  if p = 0x00 then (y.hardwired env).keeping x (keptFields p)
  else
    let y := (y.keeping x (keptFields p)).condsAgain x p
    let y := if p = 0x28 then y.showInhibit env.now else y
    if p = 0x05 then y.thmAfter x
    else if p = 0x09 then y.showQueue
    else if p = 0x0A then y.showSpares.showWear.showNoSpare
    else if p = 0x0B then y.showWaiting
    else if p = 0x11 then
      let y := if x.on F.SPI_STATE_MBUSY then y.xferEnd 2 else y
      if x.inTransaction then y.protoAbort else y
    else if p = 0x12 then
      let y := (y.setAligned (y.clock.aligned && y.on F.TRL_ADDR_MASTER) env.now).showPorts
      if x.on F.TRL_CMD_STAT_BUSY then y.trlDone 3 [] else y
    else if p = 0x14 then (y.onDma (fun m => { m with ringLo := [] })).showWait
    else if p = 0x15 then (y.setB F.PRL_STAT_OWNER (x.on F.PRL_STAT_OWNER)).setOwner (y.pairRole = 1)
    else if p = 0x22 then
      ((y.set F.TRM_SWITCH_ACTIVE 1).set F.TRM_SWITCH_ROWS_LEFT (y.get F.SEQ_ARRAY_ROWS_M1 + 1)).set (F.STAT_IDLE 0x22) 0
    else if p = 0x23 then y.showAcb.showDeg
    else if p = 0x29 then Die.calNotes (y.showClo.showOwners.cloHomeMove env.now) env.now
    else if p = 0x30 then y.showSlices.wearBit 6 y.serversWorn
    else if p = 0x39 then y.showLoops
    else if p = 0x3A then y.showOwners.fire 433
    else if p = 0x50 then
      if x.on (F.CTRL_EN 0x50) && x.evd.live && x.evd.closing.isNone && x.evd.opening.isNone then
        (y.onEvd (fun e => { e with reopen := true })).openingWork env
      else y
    else y

/-- A block reset (R20, R36): the block's work ends, its class C and class P fields and its events are lost, its class P
fields are reloaded, by the MP, when it runs and the store can be read (R346). -/
def Die.blockReset (x : Die) (env : Env) (p : Nat) (forced : Bool) : Die :=
  let y := ((x.blockWork p forced env.now).pageReset p).blockAfter x env p
  let y := (y.pastReload x p).askReload p
  (if p = 0x28 && y.jobRuns 1 then y.showBg else y).set (F.BRST_ACTIVE p) 0

/-! ### Commands -/

/-- BRST.REQ written 1 (R36): ignored while ACTIVE. -/
def Die.resetAsked (x : Die) (p : Nat) : Die := x.set (F.BRST_ACTIVE p) 1

/-- BLOCK_RESET_REQ; of a page that the map does not list, R32. -/
def execBlockResetReq (d : DieId) (page : Nat) (s : State) : Host.Outcome State Fault Refusal :=
  onDie d s fun _ x => if listedPage page then x.resetAsked page else x.accErr 0x14

/-- The blocks whose reset needs no idle wait (R76, R186, R283, R305, R417). Of the AFE, R76 does not say so in words: that the
AFE needs none is the model's own reading of it (log entry 95). -/
def resetAtOnce (p : Nat) : Bool :=
  p = 0x05 || p = 0x09 || p = 0x0A || p = 0x0B || p = 0x20 || p = 0x21 || p = 0x29 || p = 0x3A || p = 0x3B

/-- A block reset carried out on a die, with what the arbiter learns of it. -/
def resetBlock (d : DieId) (page : Nat) (s : State) (forced : Bool) (may : Die → Bool) (before after : Env → Die → Die) :
    Host.Outcome State Fault Refusal :=
  let due := listedPage page && (s.die d).on (F.BRST_ACTIVE page) && may (s.die d)
  onBoth d s
    (fun env x =>
      if !due then x
      else
        let y := after env ((before env x).blockReset env page forced)
        if page = 0x28 && x.on F.CAL_PAIR_GRANT then (y.grantBack d env.now).send (.staggerRelease d) else y)
    (fun env x => if due && page = 0x28 then x.grantBack d env.now else if due && page = 0x15 then x.followOwner env else x)

/-- BLOCK_RESET (R36). -/
def execBlockReset (d : DieId) (page : Nat) (s : State) : Host.Outcome State Fault Refusal :=
  resetBlock d page s false (fun x => resetAtOnce page || (if page = 0x47 then x.ipp.vtx.isNone else x.idle page)) (fun _ x => x) (fun _ x => x)

/-- BRST_TIMEOUT (R36, Table 15.1): TIMEOUT, BRST_FORCED and the fault of a block. -/
def execBrstTimeout (d : DieId) (page : Nat) (s : State) : Host.Outcome State Fault Refusal :=
  resetBlock d page s true (fun _ => true) (fun env x => ((x.raise (F.BRST_TIMEOUT page) 1).fire 12).resError 9 page 6 env.now)
    (fun env x => x.blockFault page env.now)

/-- RST_CMD with REACH 1 or 2 and its key (R104, R313): the pages named are reset at once. -/
def Die.resetPages (x : Die) (env : Env) (key : Nat) (pages : List Nat) : Die :=
  if key = rstKey && !pages.isEmpty then pages.foldl (fun y p => y.blockReset env p true) x else x.accErr 0x01

/-- RST_CLUSTER. -/
def execRstCluster (d : DieId) (key target : Nat) (s : State) : Host.Outcome State Fault Refusal :=
  onDie d s fun env x => x.resetPages env key [0x80 + target % 32]

/-- The pages of a region: its ACB page and those of its eight clusters; a region above 3 is rejected. -/
def regionPages (target : Nat) : List Nat :=
  let t := target % 32
  if t < 4 then (0x24 + t) :: (List.range 8).map (fun i => 0x80 + 8 * t + i) else []

/-- RST_REGION. -/
def execRstRegion (d : DieId) (key target : Nat) (s : State) : Host.Outcome State Fault Refusal :=
  onDie d s fun env x => x.resetPages env key (regionPages target)

end Sys2Proof.Machine
end

