-- ==== Sys2Proof/Machine/Csi.lean ====
section
/-!
DEFINITION. The camera inputs (06_camera_inputs_and_pipeline.md, R188 to R190, R199 to R202): packets, their faults, the
frames and lines they carry, and the enabling of a context.
-/

namespace Sys2Proof.Machine

/-- The page of port `p`. -/
def csiPage (p : Nat) : Nat := 0x40 + p

/-- The contexts whose source is a port's virtual channel and that are enabled, or still in force; in limited mode the camera
contexts are off (R324). -/
def Die.portCtxs (x : Die) (p vc : Nat) : List Nat :=
  (List.range 8).filter (fun n => !x.boot.limited && x.get (F.CTX_SRC_SRC n) = p + 1 && x.get (F.CTX_SRC_VC n) = vc &&
    (x.on (F.CTX_SRC_EN n) || (x.ctxOf n).active))

/-- CSI_STAT.IDLE and BUSY: no frame open on the port, or one (R218). -/
def Die.showPort (x : Die) (p : Nat) : Die :=
  let busy := (List.range 8).any (fun n => x.get (F.CTX_SRC_SRC n) = p + 1 && (x.ctxOf n).rx)
  (x.setB (F.STAT_IDLE (csiPage p)) (!busy)).setB (F.STAT_BUSY (csiPage p)) busy

/-- A packet on no enabled context's virtual channel and data type (Table 6.2). -/
def Die.unmatched (x : Die) (p vc dt : Nat) : Die :=
  (((x.count (F.CSI_UNMATCHED_COUNT p)).set (F.CSI_UNMATCHED_DT p) dt).set (F.CSI_UNMATCHED_VC p) vc).fire (455 + 16 * p)

/-- A packet's header: the die with its state noted, and whether the packet is used (Table 6.2). A disabled port takes
nothing; any packet ends LINK_DOWN. -/
def Die.header (x : Die) (p : Nat) (hdr : Ecc) : Die × Bool :=
  if !x.on (F.CTRL_EN (csiPage p)) then (x, false)
  else
    let y := x.cond (462 + 16 * p) false
    match hdr with
    | .clean => (y, true)
    | .corrected => ((y.count (F.CSI_ERR_CNT_ECC_CORR p)).fire (451 + 16 * p), true)
    | .uncorrectable => ((y.count (F.CSI_ERR_CNT_ECC_UNCORR p)).fire (452 + 16 * p), false)

/-- CSI_FRAME_START_PACKET (R190, R199); a frame that starts while a reset of the port waits is not taken up (R36), and so is
lost (R198). -/
def execCsiFrameStartPacket (d : DieId) (port : Fin 4) (vc num : Nat) (hdr : Ecc) (s : State) :
    Host.Outcome State Fault Refusal :=
  onDie d s fun env x =>
    let p := port.val
    let (y, used) := x.header p hdr
    if !used then y
    else
      let l := y.portCtxs p vc
      if !l.any (fun n => y.on (F.CTX_SRC_EN n)) && !l.any (fun n => (y.ctxOf n).active) then y.unmatched p vc 0
      else
        let open_ := l.any (fun n => (y.ctxOf n).rx)
        let y := l.foldl (fun y n => y.ctxEnd env n) y
        let y := if open_ then y.fire (456 + 16 * p) else y
        let y := if l.any (fun n => y.on (F.CTX_SRC_EN n)) then y.fire (449 + 16 * p) else y
        (l.foldl (fun y n =>
          y.ctxStart env n (y.get64 (F.CTX_FRAME_LO_NUM n) (F.CTX_FRAME_HI_NUM n) + 1) num (y.get (F.CTX_SIZE_LINES n))
            (y.get (F.CTX_SIZE_WIDTH n)) false (y.takes (csiPage p)) (y.get F.THM_LEVEL_LEVEL)) y).showPort p

/-- CSI_FRAME_END_PACKET (R199). -/
def execCsiFrameEndPacket (d : DieId) (port : Fin 4) (vc : Nat) (hdr : Ecc) (s : State) : Host.Outcome State Fault Refusal :=
  onDie d s fun env x =>
    let p := port.val
    let (y, used) := x.header p hdr
    if !used then y
    else
      let l := y.portCtxs p vc
      if l.isEmpty then y.unmatched p vc 1
      else
        let y := if l.any (fun n => y.on (F.CTX_SRC_EN n)) then y.fire (450 + 16 * p) else y
        (l.foldl (fun y n => y.ctxEnd env n) y).showPort p

/-- FRAME_TMO (R199): the open frames of a silent channel end. -/
def execFrameTmo (d : DieId) (port : Fin 4) (vc : Nat) (s : State) : Host.Outcome State Fault Refusal :=
  onDie d s fun env x =>
    let p := port.val
    let l := (x.portCtxs p vc).filter (fun n => (x.ctxOf n).rx)
    if l.isEmpty then x else ((l.foldl (fun y n => y.ctxEnd env n) x).fire (457 + 16 * p)).showPort p

/-! ### Payloads (R193, R202; log entry 31) -/

/-- RAW10: four pixels in five bytes. -/
def unpack10 : List Nat → List Nat
  | a :: b :: c :: d :: e :: r => (4 * a + e % 4) :: (4 * b + e / 4 % 4) :: (4 * c + e / 16 % 4) :: (4 * d + e / 64) :: unpack10 r
  | _ => []

/-- RAW12: two pixels in three bytes. -/
def unpack12 : List Nat → List Nat
  | a :: b :: c :: r => (16 * a + c % 16) :: (16 * b + c / 16) :: unpack12 r
  | _ => []

/-- RAW14: four pixels in seven bytes; an incomplete group keeps its whole pixels. -/
def unpack14 : List Nat → List Nat
  | a :: b :: c :: d :: e :: f :: g :: r =>
    (64 * a + e % 64) :: (64 * b + e / 64 + 4 * (f % 16)) :: (64 * c + f / 16 + 16 * (g % 4)) :: (64 * d + g / 4) :: unpack14 r
  | [a, b, _, _, e, f] => [64 * a + e % 64, 64 * b + e / 64 + 4 * (f % 16)]
  | [a, _, _, _, e] => [64 * a + e % 64]
  | _ => []

/-- RAW16: the high byte first. -/
def unpack16 : List Nat → List Nat
  | a :: b :: r => (256 * a + b) :: unpack16 r
  | _ => []

/-- The pixels of a RAW payload. -/
def rawPixels (dt : Nat) (l : List Nat) : List Nat :=
  match rawBits dt with
  | 8 => l
  | 10 => unpack10 l
  | 12 => unpack12 l
  | 14 => unpack14 l
  | _ => unpack16 l

/-- Bytes of a pixel group of a RAW data type. -/
def rawGroup (dt : Nat) : Nat :=
  match rawBits dt with
  | 8 => 1
  | 10 => 5
  | 12 => 3
  | 14 => 7
  | _ => 2

/-- A payload as it is stored: its bytes and its real pixels (R193). -/
def storedLine (dt : Nat) (data : List Byte) : List Byte × Nat :=
  if rawBits dt = 8 then (data, data.length)
  else if rawBits dt != 0 then
    let px := rawPixels dt (data.map (·.toNat))
    (px.flatMap (fun v => bytesLE 2 v), px.length)
  else if dt = 0x1E then (data.take (data.length / 2 * 2), data.length / 2)
  else (data, data.length)

/-- A line of context `n` (R200 to R202): beyond the last it is discarded and the frame is LONG; of a wrong length it is
padded with zero or truncated and the frame carries LINELEN. -/
def Die.ctxLine (x : Die) (n p dt now : Nat) (data : List Byte) : Die :=
  let k := x.ctxOf n
  if !k.rx || k.discarding then x
  else
    match k.frames.getLast? with
    | none => x
    | some f =>
      let have_ := f.lens.length + (k.held.filter (fun l => l.num = f.num)).length
      let y := x.onCtxFrame n f.num (fun f => { f with got := f.got + 1 })
      if f.lines ≤ have_ then
        let z := y.onCtxFrame n f.num (fun f => { f with flags := { f.flags with long := true } })
        if f.flags.long then z else z.fire (459 + 16 * p)
      else
        let (bytes, real) := storedLine dt data
        let odd := real != f.width || (rawBits dt != 0 && data.length % rawGroup dt != 0)
        let y := if odd then
            let z := y.onCtxFrame n f.num (fun f => { f with bad := f.bad + 1, flags := { f.flags with linelen := true } })
            if f.flags.linelen then z else z.fire (460 + 16 * p)
          else y
        y.pushLine n now { num := f.num, bytes := padTo (x.lineBytes n f.width) bytes, real := min real f.width }

/-- The embedded data of a frame, up to 16 KiB (R188). -/
def Die.ctxEmbedded (x : Die) (n : Nat) (data : List Byte) : Die :=
  let k := x.ctxOf n
  if !k.rx || k.discarding then x
  else match k.frames.getLast? with
    | none => x
    | some f => x.onCtxFrame n f.num (fun f => { f with emb := (f.emb ++ data).take 16384 })

/-- CSI_LONG_PACKET (R188, R189, R193). -/
def execCsiLongPacket (d : DieId) (port : Fin 4) (vc dt : Nat) (data : List Byte) (hdr : Ecc) (crcOk : Bool) (s : State) :
    Host.Outcome State Fault Refusal :=
  onDie d s fun env x =>
    let p := port.val
    let (y, used) := x.header p hdr
    if !used then y
    else if !crcOk then (y.count (F.CSI_ERR_CNT_CRC p)).fire (453 + 16 * p)
    else
      let l := y.portCtxs p vc
      if dt = 0x12 then
        if l.isEmpty then y.unmatched p vc dt else l.foldl (fun y n => y.ctxEmbedded n data) y
      else
        let m := l.filter (fun n => y.get (F.CTX_SRC_DT n) = dt)
        if m.isEmpty then y.unmatched p vc dt else m.foldl (fun y n => y.ctxLine n p dt env.now data) y

/-- LINE_SYNC_PACKET (Table 6.1): accepted and ignored. -/
def execLineSyncPacket (d : DieId) (port : Fin 4) (vc : Nat) (hdr : Ecc) (s : State) : Host.Outcome State Fault Refusal :=
  onDie d s fun _ x => if 16 ≤ vc then x else (x.header port.val hdr).1

/-- GENERIC_SHORT_PACKET (Table 6.1): discarded. -/
def execGenericShortPacket (d : DieId) (port : Fin 4) (vc : Nat) (hdr : Ecc) (s : State) :
    Host.Outcome State Fault Refusal :=
  onDie d s fun _ x => if 16 ≤ vc then x else (x.header port.val hdr).1

/-- SOT_ERR (R189): the packet is discarded. -/
def execSotErr (d : DieId) (port : Fin 4) (s : State) : Host.Outcome State Fault Refusal :=
  onDie d s fun _ x =>
    if !x.on (F.CTRL_EN (csiPage port.val)) then x
    else (x.count (F.CSI_ERR_CNT_SOT port.val)).fire (454 + 16 * port.val)

/-- CSI_LINK_DOWN (Table 6.8): no packet for 1 s while the port is enabled. -/
def execCsiLinkDown (d : DieId) (port : Fin 4) (s : State) : Host.Outcome State Fault Refusal :=
  onDie d s fun _ x =>
    if !x.on (F.CTRL_EN (csiPage port.val)) then x else x.cond (462 + 16 * port.val) true

/-! ### Enabling a context (R190, R8) -/

/-- The fields of CTXn_SRC. -/
def ctxSrcFields (n : Nat) : List Fld :=
  [F.CTX_SRC_EN n, F.CTX_SRC_PRIO n, F.CTX_SRC_SHARE n, F.CTX_SRC_DELAY n, F.CTX_SRC_SRC n, F.CTX_SRC_VC n, F.CTX_SRC_DT n,
   F.CTX_SRC_IN_SLOTS_M1 n]

/-- Another enabled context has the port, virtual channel and data type of `val`, or the thermal stream. -/
def Die.ctxClash (x : Die) (n val : Nat) : Bool :=
  let src := (F.CTX_SRC_SRC n).ofWord val
  (List.range 8).any (fun m => m != n && x.on (F.CTX_SRC_EN m) && x.get (F.CTX_SRC_SRC m) = src &&
    (src = 0 || (x.get (F.CTX_SRC_VC m) = (F.CTX_SRC_VC n).ofWord val && x.get (F.CTX_SRC_DT m) = (F.CTX_SRC_DT n).ofWord val)))

/-- A write of CTXn_SRC that R190 or R8 rejects. -/
def Die.ctxRejects (x : Die) (n val : Nat) : Bool :=
  let v (f : Fld) : Nat := f.ofWord val
  let fixed := [F.CTX_SRC_SRC n, F.CTX_SRC_VC n, F.CTX_SRC_DT n, F.CTX_SRC_SHARE n, F.CTX_SRC_IN_SLOTS_M1 n]
  v (F.CTX_SRC_SHARE n) = 3 || 4 < v (F.CTX_SRC_SRC n) || !dtAllowed (v (F.CTX_SRC_DT n)) || v (F.CTX_SRC_IN_SLOTS_M1 n) = 0 ||
    (x.on (F.CTX_SRC_EN n) && fixed.any (fun f => v f != x.get f)) ||
    (v (F.CTX_SRC_EN n) = 1 && x.ctxClash n val)

/-- A disabled context still in force whose source changes is out of force at once, and loses the frame it receives
(R190, R198; log entry 32). -/
def Die.leaveSource (x : Die) (n val : Nat) : Die :=
  let k := x.ctxOf n
  let src := x.get (F.CTX_SRC_SRC n)
  let moved := [F.CTX_SRC_SRC n, F.CTX_SRC_VC n, F.CTX_SRC_DT n].any (fun f => f.ofWord val != x.get f)
  if k.active && moved then
    let y := match k.frames.getLast? with
      | some f => if k.rx && !f.ended then x.takeOut n f.num else x
      | none => x
    let y := (y.onCtx n (fun k => { k with active := false, rx := false, discarding := false })).dropTokens n
    if src = 0 then y else y.showPort (src - 1)
  else x

/-- A write of CTXn_SRC (R190): in force at the next frame start of the source. -/
def Die.writeCtxSrc (x : Die) (n val now : Nat) : Die :=
  if x.ctxRejects n val then x.accErr 0x44
  else
    let y := (ctxSrcFields n).foldl (fun x f => x.set f (f.ofWord val)) (x.leaveSource n val)
    if !x.on (F.CTX_SRC_EN n) && y.on (F.CTX_SRC_EN n) then y.onCtx n (fun k => { k with askedAt := some now }) else y

/-- CONTEXT_ENABLE (R190). -/
def execContextEnable (d : DieId) (n val : Nat) (s : State) : Host.Outcome State Fault Refusal :=
  onDie d s fun env x => if 8 ≤ n then x.accErr 0x44 else x.writeCtxSrc n val env.now

end Sys2Proof.Machine
end

