-- ==== Sys2Proof/Machine/Power.lean ====
section
/-!
DEFINITION. Power states (11_reset_startup_and_power_states.md, R327 to R329, Tables 11.7 to 11.9; R75).  A transition
begins with its request and ends with POWER_STATE_DONE; what must come to an end first (the Rake's frame, the seal of the
cut, the close) holds it up.
-/

namespace Sys2Proof.Machine

/-! ### Leaving Run -/

/-- VDET and VBLIND, where they drive, begin to ramp down, their enables kept (R75). -/
def Die.biasDown (x : Die) : Die :=
  ([AfeOut.vdet, .vblind].foldl (fun y o =>
    if y.afe.driven.getLsbD o.idx && !y.afe.falling.getLsbD o.idx then y.rampDown o else y) x).afeVrange

/-- VDET or VBLIND drives. -/
def Die.biasDriven (x : Die) : Bool :=
  x.afe.driven.getLsbD AfeOut.vdet.idx || x.afe.driven.getLsbD AfeOut.vblind.idx

/-- VBLIND and VDET, where they are enabled and do not drive, begin to ramp up to their set values (R75). -/
def Die.biasBack (x : Die) : Die :=
  [AfeOut.vblind, .vdet].foldl (fun y o =>
    if y.outEn o && (!y.afe.driven.getLsbD o.idx || y.afe.falling.getLsbD o.idx) then
      ((y.onAfe (fun a => { a with driven := setAt a.driven o.idx true, falling := setAt a.falling o.idx false })).setBit
        F.AFE_OUT_STAT_RAMPING o.idx true).setBit F.AFE_OUT_STAT_GOOD o.idx false
    else y) x

/-- The Rake stops as EN written 0 with STOPMODE 0, and once it has stopped the bias ramps down; an event is abandoned, the
camera frames still open are lost (R75, R327). -/
def Die.stopWork (x : Die) (now : Nat) : Die :=
  let y := if x.boot.power = 0 then x.onRake (fun r => { r with dozeRan := x.rakeRuns }) else x
  let y := (y.rakeDisable false now).calAbandon 5 now
  let y := if y.rakeRuns then y else y.biasDown
  ((List.range 8).filter (fun n => y.get (F.CTX_SRC_SRC n) != 0)).foldl (fun y n =>
    (y.ctxOf n).frames.foldl (fun y f => y.takeOut n f.num) y) y

/-- PWR_REQ.STATE written (R327). -/
def Die.powerRequest (x : Die) (env : Env) (target : Nat) : Die :=
  let starting := x.boot.start.isSome || x.boot.retry || x.boot.limitedDue.isSome
  if x.boot.going.isSome then x.accErr 0x03
  else if 2 ≤ target && (starting || x.thm.stopping || x.evd.pfail) then x.fire 27
  else if target = x.boot.power then x.set F.PWR_REQ_STATE target
  else if x.boot.power = 2 then
    if x.evd.pfail then (x.set F.PWR_REQ_STATE target).onBoot (fun b => { b with wokenAt := some env.now, wakeTo := target })
    else x.beginResume target env.now
  else
    let y := ((x.set F.PWR_REQ_STATE target).set F.PWR_STATE_BUSY 1).onBoot (fun b =>
      { b with going := some target, cutMade := false })
    if x.boot.power < target then y.stopWork env.now else y.biasBack

/-- REQ_RUN. -/
def execReqRun (d : DieId) (s : State) : Host.Outcome State Fault Refusal := onDie d s fun env x => x.powerRequest env 0

/-- REQ_DOZE (R75). -/
def execReqDoze (d : DieId) (s : State) : Host.Outcome State Fault Refusal := onDie d s fun env x => x.powerRequest env 1

/-- REQ_HOLD. -/
def execReqHold (d : DieId) (s : State) : Host.Outcome State Fault Refusal := onDie d s fun env x => x.powerRequest env 2

/-- REQ_DORMANT. -/
def execReqDormant (d : DieId) (s : State) : Host.Outcome State Fault Refusal := onDie d s fun env x => x.powerRequest env 3

/-! ### Hold (R328) -/

/-- The pages of the blocks that stop in Hold (Table 11.7). -/
def stoppedPages : List Nat :=
  [0x09, 0x0A, 0x0B, 0x20, 0x21, 0x22, 0x23, 0x24, 0x25, 0x26, 0x27, 0x28, 0x29, 0x30, 0x31, 0x32, 0x33, 0x38, 0x39, 0x40, 0x41,
   0x42, 0x43, 0x44, 0x45, 0x46, 0x47, 0x50, 0x51, 0x58] ++ (List.range 32).map (0x80 + ·)

/-- A block stops: its class C fields are lost, its loops rest (R270, Table 11.9). -/
def Die.stopBlock (x : Die) (env : Env) (p : Nat) : Die :=
  let y := if p = 0x39 then x.loopsStop else if p = 0x50 then x else x.blockWork p true env.now
  let y := y.pageReset p
  if p = 0x29 then y.showClo.showOwners else if p = 0x50 then (y.keeping x (keptFields p)).condsAgain x p else y.blockAfter x env p

/-- Hold is entered: CORE, MEMC, SEQC and CONV stop, and the trim map SRAM loses its contents. -/
def Die.enterHold (x : Die) (env : Env) : Die :=
  let y := (stoppedPages.foldl (fun y p => y.stopBlock env p) x).throttleForget
  let y := y.onRake (fun r => { r with dozeRan := x.rake.dozeRan })
  let y := (y.onTrm (fun t => { t with sram := [], stale := false, loading := false })).set F.CLK_GATE_RUN 0x24
  (((y.setPower 2).set F.PWR_STATE_BUSY 0).onBoot (fun b => { b with going := none, wokenAt := none })).fire 25

/-- The resume of Table 11.8 up to the converters: the cores, the class P fields of the blocks that had stopped, the grafts
in force, the trim map, the loops and the evidence block. -/
def Die.resume (x : Die) (env : Env) : Die :=
  let y := (x.setPower 1).set F.CLK_GATE_RUN 0x3F
  let y := stoppedPages.foldl Die.askReload y
  let y := ((y.applyGrafts [1, 2, 3] env.now).set (F.CTRL_EN 0x39) 1).showLoops
  let y := if y.boot.limited then y else (y.onTrm (fun t => { t with loading := true })).loadDone env.mem [] env.now
  (if y.evd.live && !y.evd.reopen && y.evd.opening.isNone then y.set (F.CTRL_EN 0x50) 1 else y).epBack env

/-- The sensor port as Doze holds it: the supplies on, VDET and VBLIND enabled and at 0 V (R75, Table 11.7). -/
def Die.biasRest (x : Die) : Die :=
  [AfeOut.vblind, .vdet].foldl (fun y o => if y.bitOf F.AFE_OUT_STAT_RAMPING o.idx then y.outOff o else y) x.biasUp

/-- The Rake is enabled again where it ran before, and after Hold, with the bias good, and waits for its tick (R75, Table 11.8);
the next frame carries SETTLING, whatever starts the Rake. -/
def Die.rakeAgain (x : Die) : Die :=
  let y := (x.onAcb (fun a => { a with settleDue := true })).onRake (fun r => { r with dozeRan := false })
  if x.rake.dozeRan && ((x.outGood .vdet && x.outGood .vblind) || x.on F.SEQ_CTRL_NOBIAS) && !x.rakeRuns then
    ((y.set F.SEQ_CTRL_EN 1).set F.SEQ_PC_STATE 2).onRake (fun r => { r with again := true })
  else y

/-- A transition completes in a state. -/
def Die.stateReached (x : Die) (st : Nat) : Die :=
  (((x.setPower st).set F.PWR_STATE_BUSY 0).onBoot (fun b => { b with going := none, wokenAt := none })).fire 25

/-- Run is reached, the ramps being over. -/
def Die.enterRun (x : Die) (env : Env) : Die :=
  let y := x.rakeAgain.stateReached 0
  match x.boot.wokenAt with
  | some t => y.set F.PWR_RESUME_US (min ((env.now - t) / 250) 65535)
  | none => y

/-! ### Dormant (R329) -/

/-- The wake configuration latched: the Trellis wake (which RSTEN allows), PFAIL, FTRIG, and the address (log entry 64). -/
def Die.wakeLatch (x : Die) : Nat :=
  (if x.on F.PWR_WAKE_TRELLIS && x.on F.TRL_CTRL_RSTEN then 1 else 0) + 2 * x.get F.PWR_WAKE_PFAIL + 4 * x.get F.PWR_WAKE_FTRIG +
    256 * x.get F.TRL_ADDR_ADDR

/-- Dormant is entered: everything but the Seed Tray and the wake logic is lost (Table 11.9). -/
def Die.enterDormant (x : Die) (env : Env) : Die :=
  (x.afterReset env 5).onBoot (fun b => { b with dormant := true, wake := x.wakeLatch })

/-! ### The end of a transition -/

/-- The transition under way goes on as far as it can: to Run until the outputs ramp, and with the ramps over to its end; to
another state with the Rake stopped and the bias down. -/
def Die.powerStep (x : Die) (env : Env) : Die :=
  match x.boot.going with
  | none => x
  | some target =>
    if target = 0 then
      if x.boot.power = 2 then ((x.resume env).onRake (fun r => { r with dozeRan := true })).biasUp
      else if x.anyRamp then x
      else x.enterRun env
    else if x.rakeRuns then x
    else if x.boot.power != 2 && x.biasDriven then x.biasDown
    else if target = 1 then
      if x.boot.power = 2 then (x.resume env).biasRest.stateReached 1 else x.stateReached 1
    else if target = 2 then
      if !x.evd.queue.isEmpty then x
      else if x.boot.cutMade || !x.mayCut then x.enterHold env
      else (x.onBoot (fun b => { b with cutMade := true })).cut env false
    else if x.boot.power = 2 then x.resume env
    else if x.evd.closing.isSome then x
    else if x.evd.live then x.beginClose env false false
    else x.enterDormant env

/-- POWER_STATE_DONE (R327, R328). -/
def execPowerStateDone (d : DieId) (_ecc : Ecc) (s : State) : Host.Outcome State Fault Refusal :=
  onDie d s fun env x => x.powerStep env

/-- HOLD_WAKE (R328): a wake while PFAIL_N is asserted waits. -/
def execHoldWake (d : DieId) (s : State) : Host.Outcome State Fault Refusal :=
  onDie d s fun env x =>
    if x.boot.power != 2 || x.boot.going.isSome then x
    else if x.evd.pfail then x.onBoot (fun b => { b with wokenAt := some env.now, wakeTo := 0 })
    else x.beginResume 0 env.now

end Sys2Proof.Machine
end

