-- ==== Sys2Proof/Machine/Mailbox.lean ====
section
/-!
DEFINITION. The eight mailboxes (01_anatomy.md, R41, R437): posting by register, service by opcode (Tables 5.10, 7.8, 11.4
and 12.6), completion and timeout.
-/

namespace Sys2Proof.Machine

/-- What the firmware does with a mailbox command, by mailbox and opcode; an opcode that the mailbox does not name is
BAD_OPCODE. Whether RECOVERY_WRITE's image is signed is the firmware's finding: free where no operand gives it. -/
def Die.serveOpcode (x : Die) (env : Env) (n opcode arg : Nat) : Die :=
  match n, opcode with
  | 0, 0x0001 => x.serveBaseReady
  | 0, 0x0010 => x.serveParamSave
  | 0, 0x0011 => x.serveParamDiscard
  | 0, 0x0012 => x.servePwdRecover
  | 0, 0x0013 => let (good, y) := x.freeBit; y.serveRecovery env.mem arg good
  | 1, 0x0100 => x.serveCalEvent arg env.now
  | 1, 0x0101 => x.serveCalAbort env.now
  | 1, 0x0102 => x.serveCalSave
  | 1, 0x0103 => x.serveCalLoad env.now
  | 1, 0x0104 => x.serveCalHash
  | 3, 0x0300 => x.serveSeal env
  | 3, 0x0301 => x.serveAttest env arg
  | 3, 0x0302 => x.serveClose env
  | 3, 0x0303 => x.serveFinal env.die arg
  | 3, 0x0304 => x.serveLog arg
  | _, _ => x.mbxResult n 2 0

/-- A write of MBXn_CMD: OPCODE and TAG, and with GO the command is posted; while BUSY it is ignored with COLL (R41). -/
def Die.mbxWrite (x : Die) (env : Env) (n : Nat) (go : Bool) (opcode tag : Nat) : Die :=
  if x.on (F.MBX_RSP_BUSY n) then x.raise (F.MBX_RSP_COLL n) 1
  else if go then
    let arg := x.get (F.MBX_ARG_ARG n)
    x.mbxCommand n opcode tag arg (fun y => y.serveOpcode env n opcode arg)
  else (x.set (F.MBX_CMD_OPCODE n) opcode).set (F.MBX_CMD_TAG n) tag

/-- A mailbox. -/
def Die.mailbox (x : Die) (n : Nat) : Mailbox := x.mbx.getD n {}

/-- A command that waited is taken up by its core, once that comes to it (R28, R437). -/
def Die.mbxServe (x : Die) (env : Env) (n : Nat) : Die :=
  if x.on (F.MBX_RSP_BUSY n) && (x.mailbox n).waiting && x.mbxFree n then
    (x.mbxTake n).serveOpcode env n (x.get (F.MBX_CMD_OPCODE n)) (x.get (F.MBX_ARG_ARG n))
  else x

/-- The four steps of a completion (R41). -/
def Die.mbxAnswer (x : Die) (n status data : Nat) : Die :=
  let y := ((x.set (F.MBX_DATA_DATA n) data).set (F.MBX_RSP_TAG n) (x.get (F.MBX_CMD_TAG n))).set (F.MBX_RSP_STATUS n) status
  ({ y.set (F.MBX_RSP_BUSY n) 0 with mbx := fillSet {} y.mbx n {} }).fire (628 + n)

/-- MBX_COMPLETION (R41): a result that is ready is answered; a command still in work stays so, and so does one of the MP's
that work of higher priority has pre-empted (R28). -/
def execMbxCompletion (d : DieId) (n : Fin 8) (s : State) : Host.Outcome State Fault Refusal :=
  onDie d s fun env x =>
    let y := x.mbxServe env n.val
    if y.on (F.MBX_RSP_BUSY n.val) && (mbxJob n.val != 0 || !y.evq.before 5) then
      match (y.mailbox n.val).result with
      | some (status, data) => y.mbxAnswer n.val status data
      | none => y
    else y

/-- What is still to answer mailbox `n` no longer does. -/
def Die.mbxDetach (x : Die) (n : Nat) : Die :=
  let free (r : NvsReq) : NvsReq := match r.tag with
    | .mbx m _ _ => if m = n then { r with tag := .none } else r
    | _ => r
  let y := x.onNvs (fun s => { s with queue := s.queue.map free, doing := s.doing.map free })
  let y := if n = 1 then y.onCal (fun c => { c with hashMbx := false, recordMbx := false, host := none }) else y
  if n = 3 then
    y.onEvd (fun e => { e with closeAsk := false, sealAsk := false, queue := e.queue.map (fun r => { r with ask := false }) })
  else y

/-- MBX_TIMEOUT (R437): a command that its running core has not completed within 1 s fails; the DATA of a failed command is
open. What it began goes on. -/
def execMbxTimeout (d : DieId) (n : Fin 8) (s : State) : Host.Outcome State Fault Refusal :=
  onDie d s fun _ x =>
    if x.on (F.MBX_RSP_BUSY n.val) && x.jobRuns (mbxJob n.val) then
      let (v, y) := (x.mbxDetach n.val).freeVal 32
      y.mbxAnswer n.val 6 v
    else x

end Sys2Proof.Machine
end

