-- ==== Sys2Proof/Machine/RegSensor.lean ====
section
/-!
DEFINITION. What writes to the registers of the sensor port, the converters, the trims, the clusters and the Sieve do beyond
setting fields (pages 0x20 to 0x27, 0x30 to 0x33 and 0x80 to 0x9F). In each function `x` is the die before the write and `g`
the die after the plain write of the fields, whose ranges have been checked (R8).
-/

namespace Sys2Proof.Machine

/-- SEQ_CTRL written: EN 1 without bias and without NOBIAS rejects the write (R73), EN 0 stops the Rake (R74). -/
def Die.writeSeqCtrl (x g : Die) (env : Env) (val : Nat) : Die :=
  let h := g.set F.SEQ_CTRL_EN (x.get F.SEQ_CTRL_EN)
  if val.testBit 0 then
    if x.rakeRuns || (x.outGood .vdet && x.outGood .vblind) || F.SEQ_CTRL_NOBIAS.ofWord val = 1 then h.rakeEnable .clean env.now
    else x.accErr 0x20
  else h.rakeDisable (F.SEQ_CTRL_STOPMODE.ofWord val = 1) env.now

/-- SEQ_FRAME_LEN takes this length (R66). -/
def Die.frameLenOk (x : Die) (len : Nat) : Bool :=
  (if x.on F.SEQ_LIMITS_EXPORT then 5555556 else 416667) ≤ len && len ≤ 50000000

/-- Writes to the SEQ page (R66 to R68, R73, R74). -/
def Die.writeSeq (x g : Die) (env : Env) (off val : Nat) : Die :=
  match off with
  | 0x008 => x.writeSeqCtrl g env val
  | 0x04C => if x.frameLenOk (F.SEQ_FRAME_LEN_LEN.ofWord val) then g else x.accErr 0x20
  | 0x054 =>
    if x.get F.SEQ_ARRAY_ROWS_M1 < F.SEQ_WIN_ROW0.ofWord val + F.SEQ_WIN_ROWS_M1.ofWord val then x.accErr 0x20 else g
  | 0x05C => if x.rakeRuns then x.accErr 0x20 else g
  | _ => g

/-- AFE_OUT_EN written (R47). -/
def Die.writeOutEn (x : Die) (val : Nat) : Die :=
  let want (o : AfeOut) : Bool := (F.afeEn o).ofWord val = 1
  let up := afeOuts.filter (fun o => want o && !x.outEn o)
  if up.any (fun o => !x.mayEnable o) then x.accErr 0x21
  else
    let y := up.foldl (fun y o => y.enableOut o) x
    (afeOuts.filter (fun o => !want o)).foldl (fun y o => if y.outEn o then y.disableOut o else y) y

/-- A bias code farther from the one in force than AFE_RAMP.VSTEP (R71). -/
def Die.stepTooFar (x : Die) (f : Fld) (val : Nat) : Bool :=
  let a := x.get f
  let b := f.ofWord val
  x.get F.AFE_RAMP_VSTEP < max a b - min a b

/-- Writes to the AFE page (R47, R50, R54, R71): the readings latched since the AFE was enabled begin with its enable. -/
def Die.writeAfe (x g : Die) (env : Env) (off val : Nat) : Die :=
  match off with
  | 0x008 =>
    (if !x.on (F.CTRL_EN 0x21) && g.on (F.CTRL_EN 0x21) then
      ((g.set (F.AFE_FPD_VALID 0) 0).set (F.AFE_FPD_VALID 1) 0).onAfe (fun a => { a with fpdSum := [0, 0], fpdCnt := [0, 0] })
    else g).afeVrange
  | 0x040 => x.writeOutEn val
  | 0x048 => if x.stepTooFar F.AFE_VDET_CODE val then x.accErr 0x21 else g
  | 0x04C => if x.stepTooFar F.AFE_VBLIND_CODE val then x.accErr 0x21 else g
  | 0x050 => if x.outEn .vsa then x.accErr 0x21 else g
  | 0x060 => (x.clearTripCause (clearable env.tied F.AFE_TRIP_CAUSE (F.AFE_TRIP_CAUSE.ofWord val))).set F.AFE_TRIP_FILT (F.AFE_TRIP_FILT.ofWord val)
  | _ => g

/-- Writes to the TRM page (R97, R99). -/
def Die.writeTrm (x g : Die) (off val : Nat) : Die :=
  match off with
  | 0x040 => if x.rakeRuns || x.on F.TRM_SWITCH_ACTIVE then x.accErr 0x22 else g
  | 0x048 => if F.TRM_LOAD_GO.ofWord val = 1 then x.trimLoad else g
  | _ => g

/-- A window whose largest result would not fit its field (R83). -/
def windowTooBig (cnt shift : Nat) : Bool := 65535 < (cnt * 16383 + 2 ^ shift / 2) >>> shift

/-- Writes to the ACB common page (R83, R103). -/
def Die.writeAcb (x g : Die) (off val : Nat) : Die :=
  match off with
  | 0x040 => if windowTooBig (F.ACB_WIN_CNT.ofWord val) (F.ACB_WIN_SHIFT.ofWord val) then x.accErr 0x23 else g
  | 0x060 => if F.ACB_GANG_ARM.ofWord val = 1 then x.gangArm else x
  | _ => g

/-- A trim map column of region `r`. -/
def regionColumn (r col : Nat) : Bool :=
  (640 * r ≤ col && col ≤ 640 * r + 639) || (2560 + 128 * r ≤ col && col ≤ 2560 + 128 * r + 127)

/-- Writes to the page of region `r`. -/
def Die.writeRegion (x g : Die) (r off val : Nat) : Die :=
  if off = 0x040 then
    let col := (F.ACB_CAP_CTRL_COL r).ofWord val
    if !regionColumn r col then x.accErr (0x24 + r)
    else if (F.ACB_CAP_CTRL_ARM r).ofWord val = 1 then x.ask (0x24 + r) (fun x => x.armCapture r ((F.ACB_CAP_CTRL_ROW r).ofWord val) col)
    else g
  else g

/-- CLU_GRAFT written: RELEASE, then GRAFT (R92, R93). -/
def Die.writeGraftReg (x g : Die) (c val : Nat) : Die :=
  let graft := (F.CLU_GRAFT_GRAFT c).ofWord val = 1
  let release := (F.CLU_GRAFT_RELEASE c).ofWord val = 1
  if graft && x.on (F.CLU_GRAFT_ACTIVE c) || (graft || release) && !x.takes (0x80 + c) then x.accErr (0x80 + c)
  else
    let y := if release then g.releaseRequest c else g
    if graft then y.graftRequest c ((F.CLU_GRAFT_REQCH c).ofWord val) else y

/-- CLU_CORE_REQ written: REMOVE, then RETURN (R89). -/
def Die.writeCoreReq (x g : Die) (env : Env) (c val : Nat) : Die :=
  let ch := (F.CLU_CORE_REQ_CH c).ofWord val
  let core := (F.CLU_CORE_REQ_CORE c).ofWord val
  let remove := (F.CLU_CORE_REQ_REMOVE c).ofWord val = 1
  let back := (F.CLU_CORE_REQ_RETURN c).ofWord val = 1
  if 16 < ch || (remove || back) && !x.takes (0x80 + c) then x.accErr (0x80 + c)
  else
    let y := if remove then g.coreRequest c ch core env.now else g
    if back then y.coreBack c ch core else y

/-- Writes to the page of cluster `c`. -/
def Die.writeClu (x g : Die) (env : Env) (c off val : Nat) : Die :=
  match off with
  | 0x008 => g.graftWaiting c
  | 0x040 => x.writeGraftReg g c val
  | 0x050 => x.writeCoreReq g env c val
  | _ => g

/-- Writes to the SVE page (R134). -/
def Die.writeSve (x g : Die) (env : Env) (off val : Nat) : Die :=
  if (off = 0x06C || off = 0x080) && !x.takes 0x30 then x.accErr 0x30
  else match off with
  | 0x06C =>
    let n := F.SVE_SLICE_REQ_SLICE.ofWord val
    let y := if F.SVE_SLICE_REQ_REMOVE.ofWord val = 1 then g.sliceRequest n env.now else g
    if F.SVE_SLICE_REQ_RETURN.ofWord val = 1 then y.sliceBack n else y
  | 0x080 =>
    if F.SVE_CAP_CTRL_ARM.ofWord val = 1 then g.armSieveCapture (F.SVE_CAP_CTRL_ROW.ofWord val) (F.SVE_CAP_CTRL_COL.ofWord val)
    else g
  | _ => g

/-- Writes to the WDR page (R131). -/
def Die.writeWdr (x g : Die) (off : Nat) : Die :=
  match off with
  | 0x008 => if !x.on F.WDR_CTRL_EN && g.on F.WDR_CTRL_EN then (g.set F.WDR_DYN_CNT_COUNT 0).showDyn else g
  | 0x040 => if x.on F.WDR_CTRL_AUDIT || x.on F.WDR_CTRL_USEDYN then x.accErr 0x31 else g
  | 0x05C => g.showDyn.showSweepWear
  | _ => g

/-- Writes to the RAD page (R140). -/
def Die.writeRad (x g : Die) (off val now : Nat) : Die :=
  match off with
  | 0x008 => if !x.on F.RAD_CTRL_EN && g.on F.RAD_CTRL_EN then g.set F.RAD_HIT_INFO_VALID 0 else g
  | 0x040 => if F.RAD_HS_CLR_CLR.ofWord val = 1 then x.clearPin now else x
  | _ => g

/-- Writes to the CMM page (R180). -/
def Die.writeCmm (x g : Die) (off val : Nat) : Die :=
  match off with
  | 0x058 => if F.CMM_HASH_CTRL_GO.ofWord val = 1 then x.hashGo (F.CMM_HASH_CTRL_SEL.ofWord val) else g
  | _ => g

/-- Writes to the pages of this file. -/
def Die.writeSensor (x g : Die) (env : Env) (p off val : Nat) : Die :=
  if p = 0x20 then x.writeSeq g env off val
  else if p = 0x21 then x.writeAfe g env off val
  else if p = 0x22 then x.writeTrm g off val
  else if p = 0x23 then x.writeAcb g off val
  else if p < 0x30 then x.writeRegion g (p - 0x24) off val
  else if p = 0x30 then x.writeSve g env off val
  else if p = 0x31 then x.writeWdr g off
  else if p = 0x32 then x.writeRad g off val env.now
  else if p = 0x33 then x.writeCmm g off val
  else x.writeClu g env (p - 0x80) off val

end Sys2Proof.Machine
end

