-- ==== Sys2Proof/Machine/RegVideo.lean ====
section
/-!
DEFINITION. What writes to the registers of calibration, the Cloche, the camera inputs, the pipeline and the evidence blocks
do beyond setting fields (pages 0x28, 0x29, 0x40 to 0x47, 0x50 and 0x51). `x` is the die before the write, `g` the die after
the plain write of the fields.
-/

namespace Sys2Proof.Machine

/-- Writes to the CAL page. -/
def Die.writeCal (x g : Die) (env : Env) (off : Nat) : Die :=
  if off = 0x008 then (g.showBg.showInhibit env.now).showDue env.now
  else if off = 0x044 || off = 0x058 then (g.showInhibit env.now).showDue env.now
  else if off = 0x068 then g.showSpur
  else if off = 0x06C || off = 0x070 || off = 0x074 || off = 0x078 then (if x.on F.CAL_CTRL_EN then x.accErr 0x28 else g)
  else g

/-- FORCE + MOVE_TMO + the opening BRAKE exceed 250 ms (R156). -/
def closureTooLong (force tmo brake : Nat) : Bool := 2500 < 10 * (force + tmo) + brake

/-- CLO_CMD written: one of HOME, OPEN and CLOSE; more than one is rejected (R158). -/
def Die.writeCloCmd (x : Die) (env : Env) (val : Nat) : Die :=
  match F.CLO_CMD_HOME.ofWord val, F.CLO_CMD_OPEN.ofWord val, F.CLO_CMD_CLOSE.ofWord val with
  | 0, 0, 0 => x
  | 1, 0, 0 => x.cloCommand env true false
  | 0, 1, 0 => x.cloCommand env false false
  | 0, 0, 1 => x.cloCommand env false true
  | _, _, _ => x.accErr 0x29

/-- CLO_HTR written: the heater goes on and off with EN, and with LOOP its loop changes (R159, R160); a write that enables a loop
where R266 forbids it is rejected. -/
def Die.writeHeater (x g : Die) (env : Env) (val : Nat) : Die :=
  let on := F.CLO_HTR_EN.ofWord val = 1
  let moved := x.on F.CLO_HTR_EN && x.get F.CLO_HTR_LOOP != F.CLO_HTR_LOOP.ofWord val
  let y := if x.on F.CLO_HTR_EN && (!on || moved) then x.heaterOff else x
  let z := [F.CLO_HTR_TARGET, F.CLO_HTR_TMAX, F.CLO_HTR_LOOP, F.CLO_HTR_TSEL].foldl (fun z f => z.set f (g.get f)) y
  let z := if x.get F.CLO_HTR_TARGET = z.get F.CLO_HTR_TARGET then z else z.heaterBand true env.now
  if on && !y.on F.CLO_HTR_EN && !y.bladeAllowed (F.CLO_HTR_LOOP.ofWord val) then x.accErr 0x29
  else if on then z.heaterOn env.now else z

/-- Writes to the CLO page (R156, R158 to R160, R275). -/
def Die.writeClo (x g : Die) (env : Env) (off val : Nat) : Die :=
  match off with
  | 0x008 =>
    let y := g.set F.CLO_CTRL_EN (x.get F.CLO_CTRL_EN)
    if F.CLO_CTRL_EN.ofWord val = 1 then y.cloEnable env.now
    else if x.on F.CLO_CTRL_EN then ((y.set F.CLO_CTRL_EN 0).cloOff).showOwners else y
  | 0x040 =>
    if x.on F.CLO_CTRL_EN && x.get F.CLO_DRV_PAIR != F.CLO_DRV_PAIR.ofWord val then x.accErr 0x29 else g.showClo.showOwners
  | 0x048 =>
    if closureTooLong (x.written F.CLO_TMAX_FORCE) (x.written F.CLO_TMAX_MOVE_TMO) (F.CLO_PROF_OPEN_BRAKE.ofWord val) then
      x.accErr 0x29 else g
  | 0x04C =>
    if closureTooLong (F.CLO_TMAX_FORCE.ofWord val) (F.CLO_TMAX_MOVE_TMO.ofWord val) (x.written F.CLO_PROF_OPEN_BRAKE) then
      x.accErr 0x29 else g
  | 0x050 => x.writeCloCmd env val
  | 0x058 => x.writeHeater g env val
  | 0x068 => g.showCloWear
  | _ => g

/-- Writes to the page of receive port `n`. -/
def Die.writeCsi (x g : Die) (n off val : Nat) : Die :=
  let on := x.on (F.CTRL_EN (0x40 + n))
  match off with
  | 0x008 => if val % 2 = 0 then g.cond (462 + 16 * n) false else g
  | 0x040 => if on then x.accErr (0x40 + n) else g
  | 0x044 =>
    let lanes := (List.range 4).map (fun k => (F.CSI_LANEMAP_L n k).ofWord val)
    if on || !decide lanes.Nodup then x.accErr (0x40 + n) else g
  | _ => g

/-- The lines and the line length of the frames of context `n` (R191). -/
def Die.ctxFrameSize (x : Die) (n : Nat) : Nat × Nat :=
  if x.get (F.CTX_SRC_SRC n) = 0 then (x.get F.SEQ_WIN_ROWS_M1 + 1, 80 * (x.get F.SEQ_ARRAY_NCLU_M1 + 1))
  else (x.get (F.CTX_SIZE_LINES n), x.get (F.CTX_SIZE_WIDTH n))

/-- A crop that lies within the frame. -/
def Die.cropOk (x : Die) (n y0 x0 h w : Nat) : Bool :=
  let (lines, width) := x.ctxFrameSize n
  y0 + h ≤ lines && x0 + w ≤ width

/-- An output size: even, and within the scalers' reach of the crop, from a sixteenth to twice its size. -/
def sizeOk (crop out : Nat) : Bool := out % 2 = 0 && crop ≤ 16 * out && out ≤ 2 * crop

/-- The vision formats that Table 6.3 allows a context. -/
def visionOk (k : CtxKind) (fmt : Nat) : Bool :=
  match k with
  | .thermal => fmt = 0
  | .raw => fmt = 1 || fmt = 2
  | .yuv => fmt = 2
  | .user => fmt = 3

/-- A scaled output's register: its sizes, and, enabled, that the source has such an output (R192). -/
def Die.scaledOk (x : Die) (n : Nat) (en : Bool) (w h : Nat) : Bool :=
  sizeOk (x.written (F.CTX_CROP_WH_W n)) w && sizeOk (x.written (F.CTX_CROP_WH_H n)) h && (!en || x.ctxKind n != .user)

/-- Writes to the window of context `n`, by offset within it (R190, R192, R212). -/
def Die.writeCtx (x g : Die) (n off val now : Nat) : Die :=
  let bad := x.accErr 0x44
  match off with
  | 0x00 => x.writeCtxSrc n val now
  | 0x08 | 0x20 => if x.on (F.CTX_SRC_EN n) then bad else g
  | 0x0C =>
    if x.cropOk n ((F.CTX_CROP_XY_Y0 n).ofWord val) ((F.CTX_CROP_XY_X0 n).ofWord val) (x.written (F.CTX_CROP_WH_H n))
      (x.written (F.CTX_CROP_WH_W n)) then g else bad
  | 0x10 =>
    if x.cropOk n (x.written (F.CTX_CROP_XY_Y0 n)) (x.written (F.CTX_CROP_XY_X0 n)) ((F.CTX_CROP_WH_H n).ofWord val)
      ((F.CTX_CROP_WH_W n).ofWord val) then g else bad
  | 0x1C => if (F.CTX_TONE_WIN_LOW n).ofWord val < (F.CTX_TONE_WIN_HIGH n).ofWord val then g else bad
  | 0x24 =>
    if x.scaledOk n ((F.CTX_DISP_EN n).ofWord val = 1) ((F.CTX_DISP_W n).ofWord val) ((F.CTX_DISP_H n).ofWord val) then g else bad
  | 0x28 =>
    if x.scaledOk n ((F.CTX_CODE_EN n).ofWord val = 1) ((F.CTX_CODE_W n).ofWord val) ((F.CTX_CODE_H n).ofWord val) then g else bad
  | 0x2C => if visionOk (x.ctxKind n) ((F.CTX_VIS_FMT n).ofWord val) then g else bad
  | 0x30 => if (F.CTX_TOKEN_GO n).ofWord val = 1 then x.postToken n ((F.CTX_TOKEN_VALUE n).ofWord val) now else g
  | _ => g

/-- Writes to the IPP page. -/
def Die.writeIpp (x g : Die) (off val now : Nat) : Die :=
  if off = 0x040 then (if (List.range 8).any (fun n => x.on (F.CTX_SRC_EN n)) then x.accErr 0x44 else g)
  else if 0x100 ≤ off && off < 0x300 then x.writeCtx g ((off - 0x100) / 0x40) (off % 0x40) val now
  else g

/-- Writes to the pages of this file. -/
def Die.writeVideo (x g : Die) (env : Env) (p off val : Nat) : Die :=
  if p = 0x28 then x.writeCal g env off
  else if p = 0x29 then x.writeClo g env off val
  else if p < 0x44 then x.writeCsi g (p - 0x40) off val
  else if p = 0x44 then x.writeIpp g off val env.now
  else if p = 0x46 then
    if 0x040 ≤ off && off < 0x060 && x.on (F.CTX_SRC_EN ((off - 0x040) / 4)) then x.accErr 0x46 else g
  else if p = 0x47 then (if off = 0x040 && x.on (F.CTRL_EN 0x47) then x.accErr 0x47 else g)
  else if p = 0x50 then
    if off = 0x008 && x.on (F.CTRL_EN 0x50) && val % 2 = 0 then x.accErr 0x50
    else if off = 0x05C && x.on (F.CTRL_EN 0x50) then x.accErr 0x50 else g
  else g

end Sys2Proof.Machine
end

