-- ==== Sys2Proof/Machine/RegControl.lean ====
section
/-!
DEFINITION. What writes to the registers of the field converter, the loops, the PWM, the lamps and the thermal block do beyond
setting fields (pages 0x38 to 0x3B and 0x05). `x` is the die before the write, `g` the die after the plain write of the fields.
-/

namespace Sys2Proof.Machine

/-- A sequence of the field converter runs. -/
def Die.fcvBusy (x : Die) : Bool := 2 ≤ x.get F.FCV_STATE_MAIN || x.get F.FCV_STATE_URG != 0

/-- FCV_MAIN written: STOP, then GO (R249, R251). -/
def Die.writeFcvMain (g : Die) (val now : Nat) : Die :=
  let y := if F.FCV_MAIN_STOP.ofWord val = 1 then g.mainStop now else g
  if F.FCV_MAIN_GO.ofWord val = 1 then (y.mainGo now).showFcv now else y

/-- FCV_CHCFG of channel `c` written: a change of the averaging marks its next result PARTIAL, and a change applies to the visit
under way as Table 8.3 says (R246, R248). -/
def Die.writeChcfg (x g : Die) (c val : Nat) : Die :=
  let cnt := (F.FCV_CHCFG_AVG_CNT_M1 c).ofWord val
  let shift := (F.FCV_CHCFG_AVG_SHIFT c).ofWord val
  let g := g.visitChanged x c ((F.FCV_CHCFG_GAIN c).ofWord val) (cnt + 1) shift
  if chcfgTooBig cnt shift then x.accErr 0x38
  else if cnt = x.get (F.FCV_CHCFG_AVG_CNT_M1 c) && shift = x.get (F.FCV_CHCFG_AVG_SHIFT c) then g
  else g.onFcv (fun f => { f with changed := f.changed.filter (· != c) ++ [c] })

/-- Limits that a window comparator can hold (R257). -/
def windowOk (lo hi hyst : Nat) : Bool := lo ≤ hi && lo + 2 * hyst ≤ hi

/-- The configuration or the limits of comparator `k` written: it starts inside when enabled and when its limits are
written (R257). -/
def Die.writeWindow (x g : Die) (k : Nat) (lim : Bool) (val : Nat) : Die :=
  let lo := if lim then (F.FCV_WIN_LIM_LOW k).ofWord val else x.get (F.FCV_WIN_LIM_LOW k)
  let hi := if lim then (F.FCV_WIN_LIM_HIGH k).ofWord val else x.get (F.FCV_WIN_LIM_HIGH k)
  let hyst := if lim then x.get (F.FCV_WIN_CFG_HYST k) else (F.FCV_WIN_CFG_HYST k).ofWord val
  if !windowOk lo hi hyst then x.accErr 0x38
  else if lim || (!x.on (F.FCV_WIN_CFG_EN k) && g.on (F.FCV_WIN_CFG_EN k)) then g.set (F.FCV_WIN_CFG_OUTSIDE k) 0 else g

/-- Writes to the FCV page. -/
def Die.writeFcv (x g : Die) (off val now : Nat) : Die :=
  let bad := x.accErr 0x38
  if off = 0x040 then
    if x.fcvBusy || (F.FCV_CFG_LPM.ofWord val = 1 && F.FCV_CFG_PACE_M1.ofWord val = 0) then bad else g
  else if off = 0x044 then g.writeFcvMain val now
  else if off = 0x050 then (if F.FCV_URG_GO.ofWord val = 1 then g.urgentGo false now else g)
  else if off = 0x058 then g.showFill
  else if 0x080 ≤ off && off < 0x100 then x.writeChcfg g ((off - 0x080) / 4) val
  else if 0x100 ≤ off && off < 0x200 then
    let k := (off - 0x100) / 4
    if (F.FCV_SEQ_DIFF k).ofWord val = 1 && (F.FCV_SEQ_CH k).ofWord val % 2 = 1 then bad else g
  else if 0x280 ≤ off && off < 0x2C0 then x.writeWindow g ((off - 0x280) / 8) (off % 8 = 4) val
  else g

/-- An enabled loop uses curve `j` (R266): its source is a field result, which alone goes through a curve (Table 9.1). -/
def Die.curveUsed (x : Die) (j : Nat) : Bool :=
  (List.range 16).any (fun n => x.loopEn n && (x.loopSource n).1 = 0 && x.get (F.LOOP_CFG_CURVE n) = j)

/-- Writes to the window of loop `n`, by offset within it (R262 to R267). -/
def Die.writeLoop (x g : Die) (n off val : Nat) : Die :=
  let bad := x.accErr 0x39
  let s (f : Fld) : Int := toSigned f.width (f.ofWord val)
  match off with
  | 0x00 => x.writeLoopCfg n val
  | 0x18 => if s (F.LOOP_DLIM_DMAX n) < s (F.LOOP_DLIM_DMIN n) || s (F.LOOP_DLIM_DMIN n) < -32767 then bad else g
  | 0x1C =>
    let safe := s (F.LOOP_SAFE_IMAX_SAFE n)
    if safe < x.getS (F.LOOP_DLIM_DMIN n) || x.getS (F.LOOP_DLIM_DMAX n) < safe then bad else g
  | 0x20 => if x.getS (F.LOOP_MHI_LIMIT n) < s (F.LOOP_MLO_LIMIT n) then bad else g
  | 0x24 => if s (F.LOOP_MHI_LIMIT n) < x.getS (F.LOOP_MLO_LIMIT n) then bad else g
  | 0x2C => g.hostMeasured n
  | _ => g

/-- Writes to the LPC page. -/
def Die.writeLpc (x g : Die) (off val : Nat) : Die :=
  if off = 0x008 then g.showLoops
  else if off = 0x044 then g.showTrip
  else if 0x100 ≤ off && off < 0x500 then x.writeLoop g ((off - 0x100) / 0x40) (off % 0x40) val
  else if 0x600 ≤ off && off < 0xA00 then (if x.curveUsed ((off - 0x600) / 0x80) then x.accErr 0x39 else g)
  else g

/-- PWM_DUTYm written by the host (R272, R273, R275). -/
def Die.writeDutyReg (x : Die) (m val : Nat) : Die :=
  if x.ownerOf m != 0 || (m % 2 = 1 && x.get (F.PWM_PAIR_CFG_MODE (m / 2)) != 0) then x.accErr 0x3A
  else x.writeDuty m ((F.PWM_DUTY_HIGH m).ofWord val * 16 + (F.PWM_DUTY_FRAC m).ofWord val) ((F.PWM_DUTY_SIGN m).ofWord val = 1)

/-- Writes to the PWM page. -/
def Die.writePwm (x g : Die) (off val : Nat) : Die :=
  if off = 0x040 then x.startPairs val
  else if 0x080 ≤ off && off < 0x0C0 && off % 8 = 0 then
    let k := (off - 0x080) / 8
    let owned := x.ownerOf (2 * k) != 0 || x.ownerOf (2 * k + 1) != 0
    if x.cloOwns k || (owned && (F.PWM_PAIR_CFG_MODE k).ofWord val != x.get (F.PWM_PAIR_CFG_MODE k)) then x.accErr 0x3A else g
  else if 0x0C0 ≤ off && off < 0x100 then x.writeDutyReg ((off - 0x0C0) / 4) val
  else g

/-- Writes to the LED page (R276, R281, R282). -/
def Die.writeLed (x g : Die) (off val now : Nat) : Die :=
  let bad := x.accErr 0x3B
  if off = 0x008 then
    (if val % 2 = 0 then (List.range 12).foldl (fun y k => y.onLamp k (fun c => { c with onFor := 0, pulses := [] })) g else g)
  else if off = 0x040 then (if F.LED_SYNC_ARM.ofWord val = 1 then (if x.commitPending 0x3B then bad else g.ledArm now) else g)
  else if off = 0x044 then g
  else if 0x100 ≤ off && off < 0x280 then
    let k := (off - 0x100) / 0x20
    if off % 0x20 = 0 then
      if (F.LED_CFG_DRIVE k).ofWord val != x.get (F.LED_CFG_DRIVE k) && x.get (F.LED_CFG_MODE k) != 0 then bad else g
    else if off % 0x20 = 8 then
      if x.written (F.LED_CFG_DRIVE k) = 0 && 255 < (F.LED_CUR_CODE k).ofWord val then bad else g
    else g
  else g

/-- Thresholds that R290 rejects. -/
def thresholdsBad (z warn throt shut hyst : Nat) : Bool :=
  throt ≤ warn || shut ≤ throt || (if z = 0 then 115 else 125) < shut || hyst < 1 || 20 < hyst || warn < hyst

/-- A zone's configuration that R290 or R296 rejects. -/
def zoneBad (z : Nat) (en : Bool) (spare mask : Nat) : Bool :=
  ((en || z = 0) && mask = 0) || (10 ≤ spare && spare != 15) || (spare < 10 && mask.testBit spare)

/-- Writes to the THM page (R290, R293, R296, R297). -/
def Die.writeThm (x g : Die) (env : Env) (off val : Nat) : Die :=
  let bad := x.accErr 0x05
  if off = 0x0F0 then x.ackSensors (F.THM_FAIL_ACK.ofWord val) env.now
  else if 0x0A0 ≤ off && off < 0x0E0 then
    let z := (off - 0x0A0) / 0x10
    if off % 0x10 = 0 then
      if zoneBad z (g.on (F.THM_ZONE_CFG_EN z)) ((F.THM_ZONE_CFG_SPARE z).ofWord val) (g.get (F.THM_ZONE_CFG_MASK z)) then bad
      else g.showThermal
    else
      if thresholdsBad z ((F.THM_ZONE_THR_WARN z).ofWord val) ((F.THM_ZONE_THR_THROT z).ofWord val)
        ((F.THM_ZONE_THR_SHUT z).ofWord val) ((F.THM_ZONE_THR_HYST z).ofWord val) then bad else g.showThm
  else if off = 0x0F4 then
    (if g.on F.THM_COMP_XTAL || g.clock.aligned then g else g.setRate 0 env.now)
  else if off = 0x008 || off = 0x0E0 || off = 0x0E8 || (0x070 ≤ off && off < 0x088) then g.showThermal
  else g

/-- Writes to the pages of this file. -/
def Die.writeControl (x g : Die) (env : Env) (p off val : Nat) : Die :=
  if p = 0x05 then x.writeThm g env off val
  else if p = 0x38 then x.writeFcv g off val env.now
  else if p = 0x39 then x.writeLpc g off val
  else if p = 0x3A then x.writePwm g off val
  else x.writeLed g off val env.now

end Sys2Proof.Machine
end

