-- ==== Sys2Proof/Machine/RegSystem.lean ====
section
/-!
DEFINITION. What writes to the registers of reset, power, the Seed Tray, the links, the serial port, sparing and the mailboxes
do beyond setting fields (pages 0x00 to 0x15 but for 0x05). `x` is the die before the write, `g` the die after the plain write
of the fields.
-/

namespace Sys2Proof.Machine

/-- RST_CMD written on a die (R104, R313): a reach of the package is the caller's to carry to both dies. -/
def Die.writeRstCmd (x : Die) (env : Env) (val : Nat) : Die :=
  let key := F.RST_CMD_KEY.ofWord val
  let target := F.RST_CMD_TARGET.ofWord val
  match F.RST_CMD_REACH.ofWord val with
  | 1 => x.resetPages env key [0x80 + target]
  | 2 => x.resetPages env key (regionPages target)
  | 3 => x.rstCommand env key 3
  | 4 => x.rstCommand env key 4
  | 5 => if key = rstKey then x.assertSource env (commandSource 5 1) else x.accErr 0x01
  | _ => x.accErr 0x01

/-- NVS_UNLOCK written: GO, then SET, then LOCK (R347). -/
def Die.writeUnlock (g : Die) (env : Env) (val : Nat) : Die :=
  let kind := F.NVS_UNLOCK_KIND.ofWord val
  let y := if F.NVS_UNLOCK_GO.ofWord val = 1 then g.unlock kind env.now else g
  let y := if F.NVS_UNLOCK_SET.ofWord val = 1 then y.setPassword kind env.now else y
  if F.NVS_UNLOCK_LOCK.ofWord val = 1 then y.lock else y

/-- Writes to the NVS page. The ECC states of a read begun here are those of clean groups. -/
def Die.writeNvs (x g : Die) (env : Env) (off val : Nat) : Die :=
  match off with
  | 0x044 =>
    if F.NVS_OP_GO.ofWord val = 1 then
      x.nvsGo { op := F.NVS_OP_OP.ofWord val, page := F.NVS_OP_PAGE.ofWord val, off := F.NVS_OP_OFFSET.ofWord val
                len := F.NVS_OP_LEN.ofWord val, ea := [], eb := [] }
    else g
  | 0x068 => g.writeUnlock env val
  | 0x078 => g.showNvs
  | _ => g

/-- Writes to the SPI page (R386 to R391, R399). -/
def Die.writeSpi (x g : Die) (off val : Nat) : Die :=
  let bad := x.accErr 0x11
  let xip := x.on F.SPI_STATE_XIP
  match off with
  | 0x040 =>
    if xip || !x.spiIdle ||
        (F.SPI_CFG_PROTO.ofWord val = 1 && (F.SPI_CFG_ROLE.ofWord val = 0 || F.SPI_CFG_WLEN_M1.ofWord val != 31)) then bad else g
  | 0x044 =>
    if xip then bad
    else if F.SPI_MXFER_GO.ofWord val = 1 then
      (x.masterGo (F.SPI_MXFER_HOLD.ofWord val = 1) (F.SPI_MXFER_TGT.ofWord val) (F.SPI_MXFER_NWORDS.ofWord val)).showSpi
    else g
  | 0x04C => g.showSpi
  | 0x050 => x.txPush val
  | 0x060 | 0x064 => if xip then bad else g
  | 0x068 => if [0x03, 0x0B, 0x0C].contains (F.SPI_XIP_CMD.ofWord val) then g else bad
  | _ => g

/-- Writes to the TRL page (R364 to R371). -/
def Die.writeTrl (x g : Die) (env : Env) (off val : Nat) : Die :=
  let bad := x.accErr 0x12
  let master := x.on F.TRL_ADDR_MASTER && x.leads
  match off with
  | 0x040 => if g.on F.TRL_ADDR_STICKY then g.onTrl (fun t => { t with store := some (g.get F.TRL_ADDR_PREF) }) else g
  | 0x054 => if master then g else bad
  | 0x058 => if master then x.timeSet (val % 2 ^ 32 * 2 ^ 32 + x.get F.TRL_TIME_SET_LO_TIME) env.now else bad
  | 0x060 =>
    if !master then bad
    else
      let y := if F.TRL_MASTER_ENUM_GO.ofWord val = 1 then g.enumGo else g
      if F.TRL_MASTER_SYNC_GO.ofWord val = 1 then y.syncGo else y
  | 0x080 =>
    if !([3, 4, 9].contains (F.TRL_CMD_TYPE.ofWord val)) then bad
    else if F.TRL_CMD_GO.ofWord val = 1 then
      x.trlCmd (F.TRL_CMD_DST.ofWord val) (F.TRL_CMD_TYPE.ofWord val) (F.TRL_CMD_LEN.ofWord val)
    else g
  | _ => g

/-- Writes to the window of stream `s`, by offset within it (R11, R357, R360): the low word of the ring's address takes effect
with the high one, and no new descriptors are taken while a reset of the PCI block waits (R36). -/
def Die.writeStream (x g : Die) (s off val : Nat) : Die :=
  match off with
  | 0x0 => if x.on (F.STR_CFG_EN s) then x.accErr 0x14 else x.onDma (fun m => { m with ringLo := m.ringLo.put s (val % 2 ^ 32 / 64 * 64) })
  | 0x4 =>
    if x.on (F.STR_CFG_EN s) then x.accErr 0x14
    else match x.dma.ringLo.look s with
      | some lo => (g.set (F.STR_RING_LO_ADDR s) lo).onDma (fun m => { m with ringLo := m.ringLo.drop s })
      | none => g
  | 0x8 => (if !x.on (F.STR_CFG_EN s) && g.on (F.STR_CFG_EN s) then g.set (F.STR_CFG_ERR s) 0 else g).dmaChanged
  | _ => if x.takes 0x14 then g.showWait else x.accErr 0x14

/-- Writes to the page of the Pair Link (R382, R383); a link that is disabled is not up. -/
def Die.writePrl (x g : Die) (env : Env) (off : Nat) : Die :=
  match off with
  | 0x008 => if x.on F.PRL_CTRL_EN && !g.on F.PRL_CTRL_EN then (g.set F.PRL_STAT_UP 0).barred env else g
  | 0x04C => g.holdShared.showLoops
  | 0x050 | 0x054 => if x.on F.PRL_STAT_UP then x.accErr 0x15 else g
  | _ => g

/-- SPR_REQ written (R415). -/
def Die.writeSpr (x g : Die) (env : Env) (off val : Nat) : Die :=
  match off with
  | 0x05C => g.showWear
  | 0x06C =>
    if F.SPR_REQ_GO.ofWord val = 1 then
      x.sprGo env (F.SPR_REQ_OP.ofWord val) (F.SPR_REQ_TYPE.ofWord val) (F.SPR_REQ_INSTANCE.ofWord val)
    else g
  | _ => g

/-- Writes to the mailboxes (R41). -/
def Die.writeMbx (x g : Die) (env : Env) (off val : Nat) : Die :=
  let n := (off - 0x040) / 0x10
  if off < 0x040 then g
  else match off % 0x10 with
    | 0x0 => x.mbxWrite env n ((F.MBX_CMD_GO n).ofWord val = 1) ((F.MBX_CMD_OPCODE n).ofWord val) ((F.MBX_CMD_TAG n).ofWord val)
    | 0x4 => if x.on (F.MBX_RSP_BUSY n) then x.raise (F.MBX_RSP_COLL n) 1 else g
    | _ => g

/-- Writes to the pages of this file. -/
def Die.writeSystem (x g : Die) (env : Env) (p off val : Nat) : Die :=
  if p = 0x01 then
    (if off = 0x044 then x.writeRstCmd env val
     else if off = 0x05C then (if F.RST_HOSTBOOT_GO.ofWord val = 1 then x.hostBootGo else x) else g)
  else if p = 0x03 then (if off = 0x044 then x.powerRequest env (F.PWR_REQ_STATE.ofWord val) else g)
  else if p = 0x06 then x.notify g.settleMsix
  else if p = 0x08 then x.writeMbx g env off val
  else if p = 0x0A then x.writeSpr g env off val
  else if p = 0x10 then x.writeNvs g env off val
  else if p = 0x11 then x.writeSpi g off val
  else if p = 0x12 then x.writeTrl g env off val
  else if p = 0x14 then (if 0x400 ≤ off && off < 0x6A0 then x.writeStream g ((off - 0x400) / 0x10) (off % 0x10) val else g)
  else if p = 0x15 then x.writePrl g env off
  else g

end Sys2Proof.Machine
end

