-- ==== Sys2Proof/Machine/RegAccess.lean ====
section
/-!
DEFINITION. Accesses to BAR0 (01_anatomy.md, R4 to R11, R26, R32 to R40): the registers of every page, the tables, the MSI-X
table, commits, and the reads and writes that PCIe, the Trellis Link and the serial port make.
-/

namespace Sys2Proof.Machine

/-! ### Which register an offset is -/

/-- The fields of the register at an offset of a listed page; the identification and event registers, which hold no field of
their own, are dealt with apart. -/
def fieldsAt (p off : Nat) : Option (List Fld) :=
  match regRows.findSome? (fun r => r.at? p off) with
  | some l => some l
  | none =>
    match off with
    | 0x000 | 0x004 | 0x010 => some []
    | 0x008 => some [F.CTRL_EN p]
    | 0x00C => some [F.STAT_TEAR p, F.STAT_FAULT p, F.STAT_DEGRADED p, F.STAT_GRAFTED p, F.STAT_IDLE p, F.STAT_BUSY p]
    | 0x020 => some [F.BRST_TIMEOUT p, F.BRST_ACTIVE p, F.BRST_REQ p]
    | 0x024 => some [F.BRST_TMO_TMO p]
    | 0x028 => some [F.ERR_CNT_RESID p, F.ERR_CNT_UNCORR p, F.ERR_CNT_CORR p]
    | 0x02C => some [F.COMMIT_CANCEL p, F.COMMIT_ARM p, F.COMMIT_BOUNDARY p]
    | 0x030 => some [F.COMMIT_STAT_FRAME p, F.COMMIT_STAT_PENDING p]
    | _ => none

/-- The 64-bit values that a pair of registers presents (R11): the BAR0 offset of the _LO register. -/
def pairAt (lo : Nat) : Bool :=
  [0x00040, 0x20064, 0x50040, 0x50048, 0x10050, 0x10060, 0x1204C, 0x12054, 0x12068, 0x15058].contains lo ||
  (List.range 8).any (fun n => lo = 0x44138 + 0x40 * n) || (List.range 42).any (fun s => lo = 0x14400 + 0x10 * s)

/-! ### Events, as registers -/

/-- The events that fire in the PERI cycle of a write: none unless it is tied to the command before it. -/
def justFired (tied : Option Hits) : BitVec 640 :=
  match tied with
  | some w => w.fired
  | none => 0

/-- A write to EVT_PEND (R9, R34, R39): the events written 1 are cleared, but for those that fire in its own PERI cycle, and
every vector that still has one sends its message. -/
def Die.clearPend (x : Die) (tied : Option Hits) (p val : Nat) : Die :=
  let y := Die.settleMsix { x with evPend := x.evPend &&& ~~~ (eventSpread p val &&& ~~~ justFired tied) }
  (List.range 8).foldl (fun z v => if y.vecOn v then z.vecMessage v else z) y

/-- A write to EVT_SET (R35): the events written 1 become pending and signal, without entering the MP's queue. -/
def Die.setEvents (x : Die) (p val : Nat) : Die := x.notify { x with evPend := x.evPend ||| eventSpread p val }

/-- A write to EVT_EN. -/
def Die.enableEvents (x : Die) (p val : Nat) : Die :=
  x.notify (Die.settleMsix { x with evEn := (x.evEn &&& ~~~ eventMask p) ||| eventSpread p val })

/-- EVT_PEND_CLEAR (R9, R34, R39); a page that the map does not list follows R32. -/
def execEvtPendClear (d : DieId) (page : Nat) (val : PendMask) (s : State) : Host.Outcome State Fault Refusal :=
  onDie d s fun _ x => if listedPage page then x.clearPend (s.hits d val.tie) page val.bits else x.accErr 0x14

/-- EVT_SET (R35). -/
def execEvtSet (d : DieId) (page val : Nat) (s : State) : Host.Outcome State Fault Refusal :=
  onDie d s fun _ x => if listedPage page then x.setEvents page val else x.accErr 0x14

/-- The package's IRQ_N is driven low (R40): an enabled, pending event exists in a group whose IRQ bit is 1, on the lead die
or on Die B, whose part comes over the die-to-die link and is lost while that is down (R376). A lead die held in reset drives
nothing (R314). -/
def State.irqLow (s : State) : Bool :=
  let low (x : Die) : Bool := !x.inReset && (List.range 20).any (fun g => x.bitOf F.EVT_IRQ_EN_IRQ g && x.groupOn g)
  low s.dieA || (s.dual && !s.dieA.inReset && s.dieA.on F.D2D_STAT_UP && low s.dieB)

/-! ### Commits (R37, R38) -/

/-- A pending commit is withdrawn; the staged values stay staged. -/
def Die.commitCancel (x : Die) (p : Nat) : Die :=
  let y := x.set (F.COMMIT_STAT_PENDING p) 0
  if p = 0x3B then y.onLed (fun l => { l with due := false, sync := false, synced := none })
  else if p = 0x23 then (y.onAcb (fun a => { a with warmFrom := none })).showAcb
  else y

/-- A write to a page's COMMIT (R38): CANCEL, then BOUNDARY, then ARM. -/
def Die.commitWrite (x : Die) (p b : Nat) (arm cancel : Bool) (now : Nat) : Die :=
  let waits := x.commitPending p && !cancel
  if !boundaryOk p b || (waits && (arm || b != x.get (F.COMMIT_BOUNDARY p))) then x.accErr p
  else
    let y := if x.commitPending p && cancel then x.commitCancel p else x
    let y := y.set (F.COMMIT_BOUNDARY p) b
    if arm then y.armLinked p b now else y

/-- COMMIT_ARM (R37, R38). -/
def execCommitArm (d : DieId) (page boundary : Nat) (s : State) : Host.Outcome State Fault Refusal :=
  onDie d s fun env x => if listedPage page then x.commitWrite page (boundary % 4) true false env.now else x.accErr 0x14

/-- COMMIT_CANCEL (R38). -/
def execCommitCancel (d : DieId) (page boundary : Nat) (arm : Bool) (s : State) : Host.Outcome State Fault Refusal :=
  onDie d s fun env x => if listedPage page then x.commitWrite page (boundary % 4) arm true env.now else x.accErr 0x14

/-- An armed commit reaches its idle or immediate boundary (R37); an LED commit waits for its LED period (R282), and an ACB
commit that powers a core up for that core (R90). -/
def Die.commitApply (x : Die) (p now : Nat) : Die :=
  let due := (x.armedFor p 2 && x.idle p) || x.armedFor p 3
  if due && p != 0x3B && (p != 0x23 || x.warmedUp now) then x.commitPage p x.frame.num now else x

/-- COMMIT_APPLY (R37). -/
def execCommitApply (d : DieId) (page : Nat) (s : State) : Host.Outcome State Fault Refusal :=
  onDie d s fun env x => x.commitApply page env.now

/-! ### Writes -/

/-- The write-only fields that hold a value: NVS_PWD_LO, NVS_PWD_HI and TRL_TIME_SET_LO. -/
def Fld.holds (f : Fld) : Bool := f = F.NVS_PWD_LO_PWD || f = F.NVS_PWD_HI_PWD || f = F.TRL_TIME_SET_LO_TIME

/-- The plain write of one field of a register (R4, R9, R38). -/
def Die.putField (x : Die) (tied : Option Hits) (val : Nat) (f : Fld) : Die :=
  let v := f.ofWord val
  match f.acc with
  | .ro => x
  | .rw => x.set f v
  | .rws => if x.commitPending f.page then x else x.stageVal f v
  | .w1c => x.set f (x.get f - (x.get f &&& clearable tied f v))
  | .w1s => x.set f (x.get f ||| v)
  | .wo => if f.holds then x.set f v else x

/-- What a register does with a write beyond taking its fields, by the file that holds its block. -/
def Die.writeEffect (x g : Die) (env : Env) (p off val : Nat) : Die :=
  if p = 0x05 || (0x38 ≤ p && p ≤ 0x3B) then x.writeControl g env p off val
  else if p ≤ 0x15 then x.writeSystem g env p off val
  else if (0x20 ≤ p && p ≤ 0x27) || (0x30 ≤ p && p ≤ 0x33) || 0x80 ≤ p then x.writeSensor g env p off val
  else x.writeVideo g env p off val

/-- A write to a register with these fields (R7, R8, R38). -/
def Die.writeFields (x : Die) (env : Env) (p off val : Nat) (fl : List Fld) : Die :=
  if fl.all (fun f => !f.writable) || fl.any (fun f => f.writable && !f.inRange (f.ofWord val)) then x.accErr p
  else
    let g := fl.foldl (fun y f => y.putField env.tied val f) x
    let held := x.commitPending p && fl.any (fun f => f.acc = .rws)
    x.writeEffect (if held then g.accErr p else g) env p off val

/-- A write to BRST (R36). -/
def Die.writeBrst (x : Die) (tied : Option Hits) (p val : Nat) : Die :=
  let y := x.putField tied val (F.BRST_TIMEOUT p)
  if (F.BRST_REQ p).ofWord val = 1 && !y.on (F.BRST_ACTIVE p) then y.resetAsked p else y

/-- A write to the MSI-X table (R355): clearing a vector's mask sends what is pending on it. -/
def Die.writeMsix (x : Die) (i val : Nat) : Die :=
  let v := i / 16
  if i % 16 < 12 then x.onDma (fun m => { m with table := m.table.put i (val % 2 ^ 32) })
  else if val % 2 = 1 then { x with msixMask := x.msixMask ||| BitVec.twoPow 8 v }
  else
    let y := { x with msixMask := x.msixMask &&& ~~~ BitVec.twoPow 8 v }
    if y.msixPend.getLsbD v && !y.dma.funcMask then ({ y with msixPend := y.msixPend &&& ~~~ BitVec.twoPow 8 v }).vecMessage v
    else y

/-- An aligned 32-bit write to a listed page. -/
def Die.writePage (x : Die) (env : Env) (p off val : Nat) : Die :=
  if p = 0x14 && 0x800 ≤ off && off < 0x880 then x.writeMsix (off - 0x800) val
  else match off with
    | 0x014 => x.enableEvents p val
    | 0x018 => x.clearPend env.tied p val
    | 0x01C => x.setEvents p val
    | 0x020 => x.writeBrst env.tied p val
    | 0x02C =>
      x.commitWrite p ((F.COMMIT_BOUNDARY p).ofWord val) ((F.COMMIT_ARM p).ofWord val = 1) ((F.COMMIT_CANCEL p).ofWord val = 1)
        env.now
    | _ => match fieldsAt p off with
      | some fl => x.writeFields env p off val fl
      | none => x.accErr p

/-- Writes to the response tables and the zone map go to the staged bank (R145), and are ignored while it is being copied
or waits for its commit. -/
def Die.writeBank (x : Die) (addr val : Nat) : Die :=
  if x.on F.RAD_BANK_COPYING || x.commitPending 0x32 then x.accErr 0x32
  else if addr < 0x120000 then x.onRad (fun r => { r with respStaged := r.respStaged.put ((addr - 0x110000) / 4) (val % 2 ^ 32) })
  else x.onRad (fun r => { r with
    zonesStaged := r.zonesStaged.put ((addr - 0x120000) / 4) (val % 2 ^ 32 - (if (val % 2 ^ 32).testBit 19 then 2 ^ 19 else 0)) })

/-- The page whose ACC_ERR reports an access at an offset of BAR0 (R5, R32). -/
def accessPage (addr : Nat) : Nat :=
  if addr < 0x100000 then (if listedPage (addr / 0x1000) then addr / 0x1000 else 0x14)
  else if addr < 0x100800 then 0x20
  else if (0x110000 ≤ addr && addr < 0x11C000) || (0x120000 ≤ addr && addr < 0x125000) then 0x32
  else 0x14

/-- An offset of BAR0 that holds something: a listed page, or an entry of a listed table (R32). -/
def inBar0 (addr : Nat) : Bool :=
  (addr < 0x100000 && listedPage (addr / 0x1000)) || (0x100000 ≤ addr && addr < 0x100800) ||
  (0x110000 ≤ addr && addr < 0x11C000) || (0x120000 ≤ addr && addr < 0x125000)

/-- An aligned 32-bit write to BAR0. -/
def Die.writeWord (x : Die) (env : Env) (addr val : Nat) : Die :=
  if !inBar0 addr then x.accErr 0x14
  else if addr < 0x100000 then x.writePage env (addr / 0x1000) (addr % 0x1000) val
  else if addr < 0x110000 then x.rakeCode addr val
  else x.writeBank addr val

/-- The MSI-X table and pending bit array take 64-bit accesses as well (R355). -/
def msixArea (addr : Nat) : Bool := 0x14800 ≤ addr && addr < 0x14908 && (addr < 0x14880 || 0x14900 ≤ addr)

/-- A write of `size` bytes to BAR0 (R5): of a die that a reset holds, nothing happens. -/
def Die.busWrite (x : Die) (env : Env) (addr val size : Nat) : Die :=
  if x.inReset then x
  else if size = 4 && addr % 4 = 0 then x.writeWord env addr (val % 2 ^ 32)
  else if size = 8 && addr % 8 = 0 && msixArea addr then
    (x.writeWord env addr (val % 2 ^ 32)).writeWord env (addr + 4) (val / 2 ^ 32 % 2 ^ 32)
  else x.accErr (accessPage addr)

/-- What a register write on one die does on the other die of its package, on which this acts: a package reset (R313), the
lead die's time (R369), and the ownership of the shared actuators (R383). -/
def Die.peerWrite (x : Die) (env : Env) (e : Nat × Nat) : Die :=
  if e.1 = 0x01044 && F.RST_CMD_REACH.ofWord e.2 = 5 && F.RST_CMD_KEY.ofWord e.2 = rstKey then
    x.assertSource env (commandSource 5 1)
  else if e.1 = 0x12058 then x.followTime env
  else if e.1 / 0x1000 = 0x15 && !x.inReset then x.followOwner env
  else x

/-- The registers whose writes can act on the other die: RST_CMD, TRL_TIME_SET_HI and the page of the Pair Link. -/
def peerActs (addr : Nat) : Bool := addr = 0x01044 || addr = 0x12058 || addr / 0x1000 = 0x15

/-- Accesses to one die's registers: the die after them, with the writes made, which may act on the other die. -/
def State.afterBus (s : State) (d : DieId) (r : Die × List (Nat × Nat)) : State :=
  let t := (s.mark d).alsoOn d (fun _ _ => r.1)
  let l := r.2.filter (fun e => peerActs e.1)
  if s.has d.other && !l.isEmpty then t.runAlways d.other (fun env x => l.foldl (fun y e => y.peerWrite env e) x) else t

/-- Accesses to the registers of die `d` by a command addressed to it. -/
def onBus (d : DieId) (s : State) (f : Env → Die → Die × List (Nat × Nat)) : Host.Outcome State Fault Refusal :=
  if s.has d then
    .next (s.afterBus d (if (s.fresh d).inReset then (s.fresh d, []) else f (s.env d) (s.fresh d)))
  else .fault .noSuchDie

/-- REGISTER_WRITE (R4 to R9). -/
def execRegisterWrite (d : DieId) (q : Writer) (addr val size : Nat) (s : State) :
    Host.Outcome State Fault Refusal :=
  onBus d s fun env x => (x.busWrite { env with tied := s.hits d q.tie } addr val size,
    if size = 4 && addr % 4 = 0 then [(addr, val % 2 ^ 32)] else [])

/-! ### Reads -/

/-- STAT's GRAFTED, DEGRADED and FAULT of the blocks that do not keep them up to date themselves (R23, Tables 1.3 and 15.1). -/
def Die.showMarks (x : Die) (p : Nat) : Die :=
  let lasting := x.spr.inventory.any (fun r => r.type = 9 && r.inst = p && r.lasting)
  let y := if p = 0x30 then x else x.setB (F.STAT_FAULT p) (lasting || (p = 0x10 && !x.nvs.dead.isEmpty))
  if 0x24 ≤ p && p ≤ 0x27 then
    (y.setB (F.STAT_GRAFTED p) (x.sliceOf (p - 0x24) = 4)).setB (F.STAT_DEGRADED p) (x.sliceShared (p - 0x24))
  else if p = 0x23 then
    (y.setB (F.STAT_GRAFTED p) (x.clusters.any (fun c => x.on (F.STAT_GRAFTED (0x80 + c))))).setB (F.STAT_DEGRADED p)
      (x.clusters.any (fun c => x.on (F.STAT_DEGRADED (0x80 + c))))
  else if p = 0x09 then
    (y.setB (F.STAT_GRAFTED p) ((List.range 4).any (fun j => x.get (F.jobCore j) != j))).setB (F.STAT_DEGRADED p) (!x.boot.down.isEmpty)
  else if p = 0x05 then y.setB (F.STAT_GRAFTED p) (x.thm.zones.any (fun z => z.graft.isSome))
  else if p = 0x10 then y.setB (F.STAT_GRAFTED p) (!x.nvs.map.isEmpty)
  else if p = 0x22 then y.setB (F.STAT_GRAFTED p) (!x.trm.bypass.isEmpty)
  else if p = 0x0B then y.setB (F.STAT_GRAFTED p) (!x.spr.sramUsed.isEmpty || x.spr.dramUsed != 0)
  else y

/-- The index of a trim map column in a row (Table 2.1, R94). -/
def columnIndex (col : Nat) : Nat := if col < 2560 then 6 * (col / 5) + col % 5 else 6 * (col - 2560) + 5

/-- TRM_PEEK_DATA: the entry that TRM_PEEK names, as the SRAM holds it. -/
def Die.showPeek (x : Die) : Die :=
  let k := columnIndex (x.get F.TRM_PEEK_COL)
  let w := x.get F.TRM_PEEK_ROW * 308 + k / 10
  ((x.setB F.TRM_PEEK_DATA_UNCORR (x.trm.invalid.contains w)).setB F.TRM_PEEK_DATA_BYPASS (x.trm.bypass.contains w)).set
    F.TRM_PEEK_DATA_TRIM (bits (x.trm.sram.readLE (8 * w) 8) (6 * (k % 10)) 6)

/-- NVS_LOCKOUT.REMAIN: whole seconds until an attempt is accepted, rounded up. -/
def Die.showRemain (x : Die) (now : Nat) : Die :=
  if x.nvs.refusing then x.set F.NVS_LOCKOUT_REMAIN (lockSeconds x.nvs.fails - (now - x.nvs.refusedAt) / 250000000) else x

/-- PRC_MP_LOAD over the last 1 ms: the MP's work takes a time that the spec does not give. -/
def Die.showMpLoad (x : Die) : Die :=
  let (b, y) := x.freeVal 10
  let (k, y) := y.freeVal 9
  let fill := x.evq.entries.length
  let top := x.get F.PRC_MP_LOAD_PEAK
  (y.set F.PRC_MP_LOAD_BUSY b).set F.PRC_MP_LOAD_PEAK (fill + k % (top - fill + 1))

/-- The fields of a register that show what changes with time or is computed are brought up to date for a read. -/
def Die.refresh (x : Die) (env : Env) (p off : Nat) : Die :=
  if off = 0x00C then (x.showStat p).showMarks p
  else match p, off with
    | 0x06, 0x040 => x.set F.EVT_GRP_SUM_GRP (maskOf 20 x.groupOn)
    | 0x07, 0x040 =>
      x.set F.EVT_PKG_SUM_GRP_B (if env.die = .a && env.dual && x.on F.D2D_STAT_UP then maskOf 20 env.peer.groupOn else 0)
    | 0x09, 0x040 => x.showMpLoad
    | 0x0A, 0x054 => x.showSpares
    | 0x0A, 0x058 => x.showWear
    | 0x10, 0x06C => x.showRemain env.now
    | 0x12, 0x04C => x.set64 F.TRL_TIME_LO_TIME F.TRL_TIME_HI_TIME (x.timeNs env.now)
    | 0x12, 0x050 => x.set64 F.TRL_TIME_LO_TIME F.TRL_TIME_HI_TIME (x.timeNs env.now)
    | 0x13, 0x040 => if x.on F.D2D_STAT_UP then (let (v, y) := x.freeVal 16; y.set F.D2D_STAT_LAT v) else x
    | 0x22, 0x058 => x.showPeek
    | 0x28, 0x0B4 => x.set F.CAL_AGE_AGE (x.calAge env.now)
    | 0x44, 0x044 => x.showLoad env.now
    | 0x3B, _ => if 0x100 ≤ off && off < 0x280 && off % 0x20 = 0x14 then x.showLamp ((off - 0x100) / 0x20) env.now else x
    | _, _ => x

/-- What a read of a field returns (R4). -/
def Die.readField (x : Die) (f : Fld) : Nat :=
  match f.acc with
  | .wo => 0
  | .rws => x.written f
  | _ => x.get f

/-- The ID register of a page (R33). -/
def Die.idWord (x : Die) (p : Nat) : Nat :=
  x.get F.SYS_IDENT_DIE * 2 ^ 24 + blockCode p * 2 ^ 16 + (p - blockCode p) * 2 ^ 8 + p

/-- The word that a register of a listed page holds; what the map does not list reads 0. -/
def Die.pageWord (x : Die) (p off : Nat) : Nat :=
  if p = 0x14 && 0x800 ≤ off && off < 0x880 then
    if off % 16 = 12 then (x.msixMask.getLsbD ((off - 0x800) / 16)).toNat else (x.dma.table.look (off - 0x800)).getD 0
  else if p = 0x14 && off = 0x900 then x.msixPend.toNat
  else match off with
    | 0x000 => x.idWord p
    | 0x004 => Config.blockVersion p % 2 ^ 16 * 2 ^ 16
    | 0x010 => eventWord x.evRaw p
    | 0x014 => eventWord x.evEn p
    | 0x018 => eventWord x.evPend p
    | _ => ((fieldsAt p off).getD []).foldl (fun w f => w + x.readField f * 2 ^ f.lo) 0

/-- A read of a register of a listed page, with what the read itself does (R11, R232, R256, R394). -/
def Die.readPage (x : Die) (env : Env) (q : Requester) (p off : Nat) : Die × Nat :=
  let addr := p * 0x1000 + off
  if addr = 0x38060 then x.readFieldLo q
  else if addr = 0x38064 then x.readFieldHi q
  else if addr = 0x11054 then x.rxPop
  else if addr = 0x5108C then x.certRead
  else
    let y := x.refresh env p off
    if pairAt addr then (y.hold q addr (y.pageWord p (off + 4)), y.pageWord p off)
    else if 4 ≤ addr && pairAt (addr - 4) then
      match y.held.find? (fun h => h.req = q && h.lo = addr - 4) with
      | some h => ({ y with held := y.held.filter (fun k => k != h) }, h.word)
      | none => (y.raise (F.STAT_TEAR p) 1, y.pageWord p off)
    else (y, y.pageWord p off)

/-- A word of a table: the microinstruction store, or the staged banks of the response tables and the zone map. -/
def Die.tableWord (x : Die) (addr : Nat) : Nat :=
  if addr < 0x110000 then
    let v := (x.rake.store.look ((addr - rakeStoreAt) / 8)).getD 0
    if (addr - rakeStoreAt) % 8 < 4 then v % 2 ^ 32 else v / 2 ^ 32
  else if addr < 0x120000 then (x.rad.respStaged.look ((addr - 0x110000) / 4)).getD 0
  else (x.rad.zonesStaged.look ((addr - 0x120000) / 4)).getD 0

/-- A 32-bit read of BAR0 by a requester (R5, R32): the die after it and the data. -/
def Die.busRead (x : Die) (env : Env) (q : Requester) (addr : Nat) : Die × Nat :=
  if addr % 4 != 0 || !inBar0 addr then (x.accErr (accessPage addr), 0)
  else if addr < 0x100000 then x.readPage env q (addr / 0x1000) (addr % 0x1000)
  else (x, x.tableWord addr)

/-- The dies as a read finds them that falls in the PERI cycle of what the last command on each did (R10). -/
abbrev Before := Die × Die

/-- What a tied read sees: the die and its peer as the last command on each found them. -/
def State.before (s : State) (d : DieId) (tie : Bool) : Option Before := if tie then some (s.was d, s.was d.other) else none

/-- The registers whose read takes an entry or a byte away: what was not there before the cycle is not taken. -/
def readTakes (addr : Nat) : Bool := addr = 0x38060 || addr = 0x11054 || addr = 0x5108C

/-- What a requester's own access holds of a pair, as another state of the die has it. -/
def Die.holdAsOf (x w : Die) (q : Requester) (addr : Nat) : Die :=
  let own (h : Held) : Bool := h.req = q && (h.lo = addr || h.lo + 4 = addr)
  { x with held := x.held.filter (fun h => !own h) ++ w.held.filter own }

/-- A read in the PERI cycle of what the command before it did to the die: it returns the whole value from before that
update, and the update stands (R10). -/
def Die.readTied (x : Die) (env : Env) (tied : Option Before) (q : Requester) (addr : Nat) : Die × Nat :=
  let (y, v) := x.busRead env q addr
  match tied with
  | some (w, peer) =>
    let (z, u) := Die.busRead w { env with peer := peer } q addr
    let taken := z.fcv.queue.length != w.fcv.queue.length || z.spi.rx.length != w.spi.rx.length || addr = 0x5108C
    if readTakes addr && !taken then (x, u) else (y.holdAsOf z q addr, u)
  | none => (y, v)

/-- A read of `size` bytes (R5): an aligned word, or 64 bits of the MSI-X area (R355); any other returns 0 and raises the
ACC_ERR of its block. -/
def Die.readSized (x : Die) (env : Env) (tied : Option Before) (q : Requester) (addr size : Nat) : Die × Nat :=
  if size = 4 then x.readTied env tied q addr
  else if size = 8 && addr % 8 = 0 && msixArea addr then
    let (y, lo) := x.readTied env tied q addr
    let (z, hi) := y.readTied env tied q (addr + 4)
    (z, hi * 2 ^ 32 + lo)
  else (x.accErr (accessPage addr), 0)

/-- READ_LO (R5, R10, R11). -/
def execReadLo (d : DieId) (q : Reader) (addr : Nat) (s : State) : Host.Outcome State Fault Refusal :=
  onDie d s fun env x => let (y, v) := x.readSized env (s.before d q.tie) q.req addr q.size; y.send (.readData q.req v)

/-- READ_HI (R5, R10, R11). -/
def execReadHi (d : DieId) (q : Reader) (addr : Nat) (s : State) : Host.Outcome State Fault Refusal :=
  onDie d s fun env x => let (y, v) := x.readSized env (s.before d q.tie) q.req addr q.size; y.send (.readData q.req v)

/-- Reads of consecutive words: the die after them and the words. -/
def Die.busReads (x : Die) (env : Env) (q : Requester) (addr n : Nat) : Die × List Nat :=
  (List.range n).foldl (fun (r : Die × List Nat) i => let (y, v) := r.1.busRead env q (addr + 4 * i); (y, r.2 ++ [v])) (x, [])

/-- The writes of consecutive words. -/
def writesFrom (addr : Nat) (ws : List Nat) : List (Nat × Nat) := ws.zipIdx.map (fun e => (addr + 4 * e.2, e.1 % 2 ^ 32))

/-- Writes of words in order. -/
def Die.busWrites (x : Die) (env : Env) (l : List (Nat × Nat)) : Die := l.foldl (fun y e => y.busWrite env e.1 e.2 4) x

/-! ### READ and WRITE over the Trellis Link (R363, R364) -/

/-- A READ or WRITE that this unit takes up. -/
def Die.takesAccess (x : Die) (p : Packet) : Bool :=
  !x.inReset && x.boot.cores && x.chained && p.good && x.fromMaster p && x.addressed p.dst

/-- The status of an access at this unit, and the die it reaches: DENIED without RWEN, BAD_DIE for a die that the package
does not have or that cannot be reached (log entry 66). -/
def State.accessDie (s : State) (d : DieId) (die : Nat) : Nat × Option DieId :=
  let t : Option DieId := if die = 0 then some .a else if die = 1 then some .b else none
  if !(s.die d).on F.TRL_CTRL_RWEN then (1, none)
  else match t with
    | some t =>
      if t = d || (s.has t && (s.die d).on F.D2D_STAT_UP && !(s.die t).inReset) then (0, some t) else (2, none)
    | none => (2, none)

/-- The RSP to an access: STATUS, then the words read. -/
def accessAnswer (p : Packet) (status : Nat) (ws : List Nat) : OutMsg :=
  .trlPacket true p.src 5 p.tag (bytesLE 1 status ++ ws.flatMap (bytesLE 4))

/-- TRELLIS_READ (R364): a broadcast one is discarded; a COUNT that Table 13.7 does not give reads nothing (log entry 66). -/
def execTrellisRead (d : DieId) (p : Packet) (die page off count : Nat) (s : State) : Host.Outcome State Fault Refusal :=
  if !s.has d then .fault .noSuchDie
  else if !(s.fresh d).takesAccess p || p.dst = 63 || count < 1 || 62 < count then onDie d s fun _ x => x.packet p fun x => x
  else match s.accessDie d die with
    | (_, some t) =>
      let (y, ws) := (s.fresh t).busReads (s.env t) .trellis (page * 0x1000 + off) count
      .next ((if t = d then (s.mark t).alsoOn t (fun _ _ => y)
              else ((s.runOn d (fun _ x => x)).mark t).alsoOn t (fun _ _ => y)).alsoOn d (fun _ x => x.send (accessAnswer p 0 ws)))
    | (st, none) => onDie d s fun _ x => x.send (accessAnswer p st [])

/-- TRELLIS_WRITE (R364): a broadcast one is not answered. -/
def execTrellisWrite (d : DieId) (p : Packet) (die page off : Nat) (words : List Nat) (s : State) :
    Host.Outcome State Fault Refusal :=
  let count := words.length
  if !s.has d then .fault .noSuchDie
  else if !(s.fresh d).takesAccess p || count < 1 || 62 < count then onDie d s fun _ x => x.packet p fun x => x
  else
    let reply (st : Nat) (_ : Env) (x : Die) : Die := if p.dst = 63 then x else x.send (accessAnswer p st [])
    match s.accessDie d die with
    | (_, some t) =>
      let l := writesFrom (page * 0x1000 + off) words
      let s0 := if t = d then s else s.runOn d (fun _ x => x)
      .next ((s0.afterBus t ((s.fresh t).busWrites (s.env t) l, l)).alsoOn d (reply 0))
    | (st, none) => onDie d s (reply st)

/-! ### Register access over the serial port (R395 to R398) -/

/-- An event that some block's page reports refused accesses with. -/
def isAccErr (e : Nat) : Bool := (List.range 0xA0).any (fun p => listedPage p && accErrOf p = e)

/-- A change of the die raises an ACC_ERR. -/
def Die.accIn (x : Die) (f : Die → Die) : Bool := (f { x with evq := {} }).evq.entries.any (fun e => isAccErr e.1)

/-- The reads of a transaction: the die after them, the words, and whether one was refused. -/
def Die.protoReads (x : Die) (env : Env) (addr n : Nat) : Die × List Nat × Bool :=
  (List.range n).foldl (fun (r : Die × List Nat × Bool) i =>
    let a := addr + 4 * i
    let acc := r.1.accIn (fun y => (y.busRead env .spi a).1)
    let (y, v) := r.1.busRead env .spi a
    (y, r.2.1 ++ [v], r.2.2 || acc)) (x, [], false)

/-- The writes of a transaction: the die after them, and whether one was refused. -/
def Die.protoWrites (x : Die) (env : Env) (l : List (Nat × Nat)) : Die × Bool :=
  l.foldl (fun (r : Die × Bool) e =>
    (r.1.busWrite env e.1 e.2 4, r.2 || r.1.accIn (fun y => y.busWrite env e.1 e.2 4))) (x, false)

/-- The words that a command word asks for. -/
def protoCount (w : Nat) : Nat := bits w 26 4 + 1

/-- The BAR0 offset that a command word names. -/
def protoAddr (w : Nat) : Nat := 4 * bits w 2 18

/-- A command word that R395 refuses: reserved bits, or a last word above 0x000F_FFFC. -/
def protoBad (w : Nat) : Bool :=
  bits w 20 6 != 0 || bits w 0 2 != 0 || 0xFFFFC < protoAddr w + 4 * (protoCount w - 1)

/-- The engine has what it needs: the marker's status, the data words to send, and when it is ready (R396). -/
def Die.protoReady (x : Die) (status : Nat) (data : List Nat) (now : Nat) : Die :=
  (x.onSpi (fun s => { s with phase := 2, data := [], left := data, ready := now + 500 })).set F.SPI_PROTO_STAT_STATUS status

/-- A command word with OP read or write begins a transaction (R395, R397). -/
def Die.protoCommand (x : Die) (env : Env) (w : Nat) : Die :=
  let y := ((x.set F.SPI_PROTO_STAT_BUSY 1).set F.SPI_PROTO_STAT_ADDR (bits w 2 18)).onSpi (fun s => { s with cmd := w % 2 ^ 32 })
  if protoBad w then (y.protoReady 2 [] env.now).set F.SPI_PROTO_STAT_BUSY 0
  else if bits w 30 2 = 1 then
    let (z, ws, acc) := y.protoReads env (protoAddr w) (protoCount w)
    z.protoReady (if acc then 1 else 0) ws env.now
  else y.onSpi (fun s => { s with phase := 1, data := [] })

/-- A data word of a write; with the last one the writes are performed (R397). -/
def Die.protoData (x : Die) (env : Env) (w : Nat) : Die × List (Nat × Nat) :=
  let data := x.spi.data ++ [w % 2 ^ 32]
  if data.length < protoCount x.spi.cmd then (x.onSpi (fun s => { s with data := data }), [])
  else if !x.on F.SPI_PROTO_WEN then (x.protoReady 3 [] env.now, [])
  else
    let l := writesFrom (protoAddr x.spi.cmd) data
    let (y, acc) := x.protoWrites env l
    ((y.protoReady (if acc then 1 else 0) [] env.now), l)

/-- A word of which the engine takes no content has gone by: the marker, PROTO_DONE, event 102 (R396), or a data word read. -/
def Die.protoSent (x : Die) : Die :=
  let y := if x.spi.phase = 3 then x.fire 102 else x
  if 3 ≤ y.spi.phase && y.spi.left.isEmpty then y.protoEnd else y

/-- A whole word at the slave under PROTO 1 (R395 to R397). -/
def Die.protoWord (x : Die) (env : Env) (w : Nat) : Die × List (Nat × Nat) :=
  let op := bits w 30 2
  let (y, l) :=
    match x.spi.phase with
    | 0 => (if (op = 1 || op = 2) && x.takes 0x11 then x.protoCommand env w else x, [])
    | 1 => x.protoData env w
    | _ => (x.protoSent, [])
  (y.wordStart env.now, l)

/-- The slave takes words: selected, and its bank supplied (R391, R424). -/
def Die.slaveOn (x : Die) : Bool := x.spiSlave && x.spi.sel && !x.boot.banks.getLsbD 0

/-- SLAVE_WORD (R391, R395). -/
def execSlaveWord (d : DieId) (w : Nat) (s : State) : Host.Outcome State Fault Refusal :=
  onBus d s fun env x =>
    if !x.slaveOn then (x, [])
    else if x.on F.SPI_CFG_PROTO then x.protoWord env w
    else (x.fifoWord w env.now, [])

/-- A command word of the protocol at an idle engine. -/
def protoTake (d : DieId) (ok : Nat → Bool) (w : Nat) (s : State) : Host.Outcome State Fault Refusal :=
  onBus d s fun env x =>
    if x.slaveOn && x.on F.SPI_CFG_PROTO && x.spi.phase = 0 && ok (bits w 30 2) then x.protoWord env w else (x, [])

/-- PROTO_READ (R397). -/
def execProtoRead (d : DieId) (w : Nat) (s : State) : Host.Outcome State Fault Refusal := protoTake d (fun op => op = 1) w s

/-- PROTO_WRITE (R397): its data words follow as slave words. -/
def execProtoWrite (d : DieId) (w : Nat) (s : State) : Host.Outcome State Fault Refusal := protoTake d (fun op => op = 2) w s

/-- PROTO_NOP (Table 14.2): the word is ignored. -/
def execProtoNop (d : DieId) (w : Nat) (s : State) : Host.Outcome State Fault Refusal :=
  protoTake d (fun op => op = 0 || op = 3) w s

/-! ### Bank supplies (R424) -/

/-- A bank loses its supply: its inputs read 0. B2 carries PE_PERST_N and SS_N, B3 the Hall inputs. -/
def Die.bankLost (x : Die) (env : Env) (bank : Nat) : Die :=
  if x.inReset then (if bank = 1 then x.onClo (fun c => { c with hall0 := false, hall1 := false }) else x)
  else if bank = 0 then x.endpointReset.selectFalls env.now
  else if bank = 1 then Die.calNotes (x.cloHalls false false env.now) env.now
  else x

/-- BANK_SUPPLY_LOSS (R424): no reset is asserted. -/
def execBankSupplyLoss (d : DieId) (bank : Fin 3) (low : Bool) (s : State) : Host.Outcome State Fault Refusal :=
  onDieAlways d s fun env x =>
    let was := x.boot.banks.getLsbD bank.val
    let y := { x with boot := { x.boot with banks :=
      if low then x.boot.banks ||| BitVec.twoPow 3 bank.val else x.boot.banks &&& ~~~ BitVec.twoPow 3 bank.val } }
    if low && !was then y.bankLost env bank.val else y

end Sys2Proof.Machine
end

