-- ==== Sys2Proof/Machine/Vtx.lean ====
section
/-!
DEFINITION. The display transmit port (06_camera_inputs_and_pipeline.md, R215, R216).
-/

namespace Sys2Proof.Machine

/-- The record of the frame that the port takes up, as it stands: unfinished, a HOLD frame, complete, or, once it has been handed
on, as it was offered. -/
def Die.vtxFrame (x : Die) (v : VtxFrame) : CtxFrame :=
  match x.unfinished? v.ctx v.num with
  | some f => f
  | none => match x.ipp.done.find? (fun e => e.ctx = v.ctx && e.frame.num = v.num) with
    | some e => e.frame
    | none => v.frame

/-- The first 64 bytes of a frame's header as they stand when the port begins it. Of a frame that has no number yet its ESN and
T_DONE are open, and GAP is that of the numbers used up until now (R215; log entry 35). -/
def Die.embedded (x : Die) (env : Env) (v : VtxFrame) : List Byte × Die :=
  match v.head with
  | some h => (h, x)
  | none =>
    let f := x.vtxFrame v
    let b : OutBuf := { ctx := v.ctx, out := 0, k := 0, num := v.num }
    let f := if x.get (F.CTX_SRC_SRC v.ctx) = 0 && f.therm.isNone then x.withRecord f else f
    let (missing, gap) := x.missing v.ctx 0 v.num
    let h := (x.header256 env { ctx := v.ctx, frame := f, outs := [], grafts := 0 } b 0 missing gap).take 64
    let (esn, y) := x.freeBytes 6
    let (done, y) := y.freeBytes 8
    (h.take 0x18 ++ esn ++ ((h.drop 0x1E).take 0x12) ++ done ++ h.drop 0x38, y)

/-- The data type of a display format: UYVY as YUV422, Y8 as RAW8 (R215). -/
def vtxType (fmt : Nat) : Nat := if fmt = 2 then 0x1E else 0x2A

/-- VTX_FRAME_BEGIN (R215, R216). -/
def execVtxFrameBegin (d : DieId) (s : State) : Host.Outcome State Fault Refusal :=
  onDie d s fun env x =>
    match x.ipp.vtxNext with
    | none => x
    | some v =>
      if x.ipp.vtx.isSome || !x.on (F.CTRL_EN 0x47) || !x.takes 0x47 then x
      else
        let y := x.onIpp (fun i => { i with vtxNext := none, vtx := some v, under := false })
        let (emb, y) := if y.on F.VTX_CTRL_EMB then y.embedded env v else ([], y)
        let fmt := (x.vtxFrame v).val (F.CTX_DISP_FMT v.ctx)
        y.send (.vtxFrame (v.num % 65535 + 1) (vtxType fmt) (y.get F.VTX_PKT_VC) emb (y.on F.VTX_CTRL_LSLE))

/-- A buffer's lines without what fills them to the stride (R215). -/
def bufLines (b : OutBuf) : List (List Byte) :=
  (List.range b.height).map (fun i => (b.bytes.drop (i * b.stride)).take (if b.fmt = 2 then 2 * b.width else b.width))

/-- A frame that was lost after the port began it is sent to its end: `h` lines of `w` bytes that the spec leaves open (R216; log
entry 35). -/
def Die.openLines (x : Die) (w h : Nat) : List (List Byte) × Die := x.thread (fun y _ => y.freeBytes w) (List.replicate h ())

/-- The lines that the port has sent at the end of a frame, with their data type. -/
def Die.sentLines (x : Die) (v : VtxFrame) : (Nat × List (List Byte)) × Die :=
  match (x.ipp.bufs ++ x.ipp.done.flatMap (·.outs)).find? (fun b => b.ctx = v.ctx && b.out = 0 && b.num = v.buf && !b.bytes.isEmpty) with
  | some b => ((vtxType b.fmt, bufLines b), x)
  | none =>
    let (w, h, fmt) := v.frame.outSize v.ctx 0
    let (l, y) := x.openLines (if fmt = 2 then 2 * w else w) h
    ((vtxType fmt, l), y)

/-- FRAME_SENT (R216): a frame that is whole in the store has gone out; of one that is not, the port lengthens the line
blanking. -/
def execFrameSent (d : DieId) (s : State) : Host.Outcome State Fault Refusal :=
  onDie d s fun _ x =>
    match x.ipp.vtx with
    | none => x
    | some v =>
      if (x.ctxOf v.ctx).frames.any (fun f => f.num = v.num) then
        if x.ipp.under then x else (x.onIpp (fun i => { i with under := true })).fire 539
      else
        let (sent, y) := x.sentLines v
        let y := (y.onIpp (fun i => { i with vtx := none, under := false })).freeOrphans.pruneBufs v.ctx 0
        ((y.send (.vtxLines sent.1 (y.get F.VTX_PKT_VC) sent.2)).count F.VTX_STAT_SENT).fire 537

end Sys2Proof.Machine
end

