-- ==== Sys2Proof/Machine/Dispatch.lean ====
section
/-! DEFINITION. The meaning of each command: one arm per row of the opcode table, each one direct call. -/

namespace Sys2Proof.Machine

def exec (i : Instr) (s : State) : Host.Outcome State Fault Refusal :=
  match i with
  | .registerWrite d q addr val size => Sys2Proof.Machine.execRegisterWrite d q addr val size s
  | .readLo d q addr => Sys2Proof.Machine.execReadLo d q addr s
  | .readHi d q addr => Sys2Proof.Machine.execReadHi d q addr s
  | .evtPendClear d page val => Sys2Proof.Machine.execEvtPendClear d page val s
  | .evtSet d page val => Sys2Proof.Machine.execEvtSet d page val s
  | .commitArm d page boundary => Sys2Proof.Machine.execCommitArm d page boundary s
  | .commitCancel d page boundary arm => Sys2Proof.Machine.execCommitCancel d page boundary arm s
  | .commitApply d page => Sys2Proof.Machine.execCommitApply d page s
  | .blockResetReq d page => Sys2Proof.Machine.execBlockResetReq d page s
  | .blockReset d page => Sys2Proof.Machine.execBlockReset d page s
  | .brstTimeout d page => Sys2Proof.Machine.execBrstTimeout d page s
  | .mbxCompletion d n => Sys2Proof.Machine.execMbxCompletion d n s
  | .mbxTimeout d n => Sys2Proof.Machine.execMbxTimeout d n s
  | .baseReady d tag arg => Sys2Proof.Machine.execBaseReady d tag arg s
  | .paramSave d tag arg => Sys2Proof.Machine.execParamSave d tag arg s
  | .paramDiscard d tag arg => Sys2Proof.Machine.execParamDiscard d tag arg s
  | .pwdRecover d tag arg => Sys2Proof.Machine.execPwdRecover d tag arg s
  | .recoveryWrite d tag arg good => Sys2Proof.Machine.execRecoveryWrite d tag arg good s
  | .calEvent d tag arg => Sys2Proof.Machine.execCalEvent d tag arg s
  | .calAbort d tag arg => Sys2Proof.Machine.execCalAbort d tag arg s
  | .calSave d tag arg => Sys2Proof.Machine.execCalSave d tag arg s
  | .calLoad d tag arg => Sys2Proof.Machine.execCalLoad d tag arg s
  | .calHash d tag arg => Sys2Proof.Machine.execCalHash d tag arg s
  | .evdSeal d tag arg => Sys2Proof.Machine.execEvdSeal d tag arg s
  | .evdAttest d tag arg => Sys2Proof.Machine.execEvdAttest d tag arg s
  | .evdClose d tag arg => Sys2Proof.Machine.execEvdClose d tag arg s
  | .evdFinal d tag arg => Sys2Proof.Machine.execEvdFinal d tag arg s
  | .evdLog d tag arg => Sys2Proof.Machine.execEvdLog d tag arg s
  | .watchdogExpiry d core => Sys2Proof.Machine.execWatchdogExpiry d core s
  | .coreMemUncorr d core => Sys2Proof.Machine.execCoreMemUncorr d core s
  | .spareCoreTakeover d => Sys2Proof.Machine.execSpareCoreTakeover d s
  | .afeOutputEnable d o => Sys2Proof.Machine.execAfeOutputEnable d o s
  | .afeOutputDisable d o => Sys2Proof.Machine.execAfeOutputDisable d o s
  | .rampDone d o => Sys2Proof.Machine.execRampDone d o s
  | .outputGood d o => Sys2Proof.Machine.execOutputGood d o s
  | .currentSample d m => Sys2Proof.Machine.execCurrentSample d m s
  | .offDone d => Sys2Proof.Machine.execOffDone d s
  | .tripCauseClear d val => Sys2Proof.Machine.execTripCauseClear d val s
  | .fpdReading d diode code => Sys2Proof.Machine.execFpdReading d diode code s
  | .seqopNext d ecc => Sys2Proof.Machine.execSeqopNext d ecc s
  | .seqopJump d ecc => Sys2Proof.Machine.execSeqopJump d ecc s
  | .seqopLoop0 d ecc => Sys2Proof.Machine.execSeqopLoop0 d ecc s
  | .seqopLoop1 d ecc => Sys2Proof.Machine.execSeqopLoop1 d ecc s
  | .seqopWaitFrame d ecc => Sys2Proof.Machine.execSeqopWaitFrame d ecc s
  | .seqopStop d => Sys2Proof.Machine.execSeqopStop d s
  | .rowopNext d => Sys2Proof.Machine.execRowopNext d s
  | .rowopFirst d => Sys2Proof.Machine.execRowopFirst d s
  | .loadC0 d => Sys2Proof.Machine.execLoadC0 d s
  | .loadC1 d => Sys2Proof.Machine.execLoadC1 d s
  | .scanRun d => Sys2Proof.Machine.execScanRun d s
  | .scanContinue d => Sys2Proof.Machine.execScanContinue d s
  | .scanStop d => Sys2Proof.Machine.execScanStop d s
  | .frameStart d next => Sys2Proof.Machine.execFrameStart d next s
  | .frameEnd d => Sys2Proof.Machine.execFrameEnd d s
  | .rowStart d late next => Sys2Proof.Machine.execRowStart d late next s
  | .blankRow d => Sys2Proof.Machine.execBlankRow d s
  | .userMarker d => Sys2Proof.Machine.execUserMarker d s
  | .rowStartRelease d late next => Sys2Proof.Machine.execRowStartRelease d late next s
  | .rakeStall d => Sys2Proof.Machine.execRakeStall d s
  | .frameTick d ecc => Sys2Proof.Machine.execFrameTick d ecc s
  | .externalTick d ecc => Sys2Proof.Machine.execExternalTick d ecc s
  | .syncLost d ecc => Sys2Proof.Machine.execSyncLost d ecc s
  | .rakeCodeWrite d q addr val => Sys2Proof.Machine.execRakeCodeWrite d q addr val s
  | .rakeStart d ecc => Sys2Proof.Machine.execRakeStart d ecc s
  | .rakeStop d => Sys2Proof.Machine.execRakeStop d s
  | .windowsClose d cycles volts => Sys2Proof.Machine.execWindowsClose d cycles volts s
  | .checkRoundEnd d c sums => Sys2Proof.Machine.execCheckRoundEnd d c sums s
  | .chkStale d => Sys2Proof.Machine.execChkStale d s
  | .coreRemove d c ch core => Sys2Proof.Machine.execCoreRemove d c ch core s
  | .coreReturn d c ch core => Sys2Proof.Machine.execCoreReturn d c ch core s
  | .channelGraft d c ch => Sys2Proof.Machine.execChannelGraft d c ch s
  | .channelRelease d c => Sys2Proof.Machine.execChannelRelease d c s
  | .gangArm d => Sys2Proof.Machine.execGangArm d s
  | .trmRepair d row word ok => Sys2Proof.Machine.execTrmRepair d row word ok s
  | .trmLoad d => Sys2Proof.Machine.execTrmLoad d s
  | .loadDone d bad => Sys2Proof.Machine.execLoadDone d bad s
  | .switchDone d => Sys2Proof.Machine.execSwitchDone d s
  | .acbCaptureArm d r row col => Sys2Proof.Machine.execAcbCaptureArm d r row col s
  | .sieveRowEntry d f => Sys2Proof.Machine.execSieveRowEntry d f s
  | .sieveRowClear d => Sys2Proof.Machine.execSieveRowClear d s
  | .cmmFetchDone d row cycles bad => Sys2Proof.Machine.execCmmFetchDone d row cycles bad s
  | .fillRowRelease d f => Sys2Proof.Machine.execFillRowRelease d f s
  | .tileMapWrite d => Sys2Proof.Machine.execTileMapWrite d s
  | .hotspotClear d => Sys2Proof.Machine.execHotspotClear d s
  | .bankApplied d => Sys2Proof.Machine.execBankApplied d s
  | .bandJudge d => Sys2Proof.Machine.execBandJudge d s
  | .sliceRemove d n => Sys2Proof.Machine.execSliceRemove d n s
  | .sliceReturn d n => Sys2Proof.Machine.execSliceReturn d n s
  | .planeHashGo d sel => Sys2Proof.Machine.execPlaneHashGo d sel s
  | .hashDone d => Sys2Proof.Machine.execHashDone d s
  | .sieveCaptureArm d row col => Sys2Proof.Machine.execSieveCaptureArm d row col s
  | .bgEstimate d ests spurs => Sys2Proof.Machine.execBgEstimate d ests spurs s
  | .cloHome d => Sys2Proof.Machine.execCloHome d s
  | .cloOpen d => Sys2Proof.Machine.execCloOpen d s
  | .cloClose d => Sys2Proof.Machine.execCloClose d s
  | .cloEnable d => Sys2Proof.Machine.execCloEnable d s
  | .boostEnd d => Sys2Proof.Machine.execBoostEnd d s
  | .hallChange d hall0 hall1 => Sys2Proof.Machine.execHallChange d hall0 hall1 s
  | .brakeEnd d => Sys2Proof.Machine.execBrakeEnd d s
  | .moveTimeout d => Sys2Proof.Machine.execMoveTimeout d s
  | .forcedOpen d => Sys2Proof.Machine.execForcedOpen d s
  | .hallIdleTimeout d => Sys2Proof.Machine.execHallIdleTimeout d s
  | .htrReady d err => Sys2Proof.Machine.execHtrReady d err s
  | .calTimerDue d first => Sys2Proof.Machine.execCalTimerDue d first s
  | .deferTimeout d => Sys2Proof.Machine.execDeferTimeout d s
  | .shutterEventStart d => Sys2Proof.Machine.execShutterEventStart d s
  | .planeWriterDone d => Sys2Proof.Machine.execPlaneWriterDone d s
  | .calRecordWrite d => Sys2Proof.Machine.execCalRecordWrite d s
  | .recSaved d => Sys2Proof.Machine.execRecSaved d s
  | .staggerRequest d partner who reason => Sys2Proof.Machine.execStaggerRequest d partner who reason s
  | .staggerGrant d arrives => Sys2Proof.Machine.execStaggerGrant d arrives s
  | .staggerRelease d => Sys2Proof.Machine.execStaggerRelease d s
  | .csiFrameStartPacket d port vc num hdr => Sys2Proof.Machine.execCsiFrameStartPacket d port vc num hdr s
  | .csiFrameEndPacket d port vc hdr => Sys2Proof.Machine.execCsiFrameEndPacket d port vc hdr s
  | .csiLongPacket d port vc dt data hdr crcOk => Sys2Proof.Machine.execCsiLongPacket d port vc dt data hdr crcOk s
  | .lineSyncPacket d port vc hdr => Sys2Proof.Machine.execLineSyncPacket d port vc hdr s
  | .genericShortPacket d port vc hdr => Sys2Proof.Machine.execGenericShortPacket d port vc hdr s
  | .frameTmo d port vc => Sys2Proof.Machine.execFrameTmo d port vc s
  | .csiLinkDown d port => Sys2Proof.Machine.execCsiLinkDown d port s
  | .unitStart d => Sys2Proof.Machine.execUnitStart d s
  | .unitDone d bad => Sys2Proof.Machine.execUnitDone d bad s
  | .contextEnable d n val => Sys2Proof.Machine.execContextEnable d n val s
  | .tokenPost d n value => Sys2Proof.Machine.execTokenPost d n value s
  | .vtxFrameBegin d => Sys2Proof.Machine.execVtxFrameBegin d s
  | .frameSent d => Sys2Proof.Machine.execFrameSent d s
  | .esnAssign d => Sys2Proof.Machine.execEsnAssign d s
  | .reserved d => Sys2Proof.Machine.execReserved d s
  | .epochCut d => Sys2Proof.Machine.execEpochCut d s
  | .sealed d => Sys2Proof.Machine.execSealed d s
  | .sealWait d => Sys2Proof.Machine.execSealWait d s
  | .pfailAssert => Sys2Proof.Machine.execPfailAssert s
  | .closeDone d => Sys2Proof.Machine.execCloseDone d s
  | .pfailRestart d => Sys2Proof.Machine.execPfailRestart d s
  | .certDataRead d => Sys2Proof.Machine.execCertDataRead d s
  | .fcvMainGo d start mode => Sys2Proof.Machine.execFcvMainGo d start mode s
  | .fcvMainStop d start mode => Sys2Proof.Machine.execFcvMainStop d start mode s
  | .fcvUrgGo d start => Sys2Proof.Machine.execFcvUrgGo d start s
  | .ftrigEdge d rising => Sys2Proof.Machine.execFtrigEdge d rising s
  | .fcvPeriodTick d => Sys2Proof.Machine.execFcvPeriodTick d s
  | .urgentRunEnd d volts => Sys2Proof.Machine.execUrgentRunEnd d volts s
  | .fcvResultDelivery d volts => Sys2Proof.Machine.execFcvResultDelivery d volts s
  | .fcvQueueRead d q => Sys2Proof.Machine.execFcvQueueRead d q s
  | .fcvQueuePeek d q => Sys2Proof.Machine.execFcvQueuePeek d q s
  | .loopEvaluation d n skipped => Sys2Proof.Machine.execLoopEvaluation d n skipped s
  | .loopHoldTimeout d n => Sys2Proof.Machine.execLoopHoldTimeout d n s
  | .loopTripClear d val => Sys2Proof.Machine.execLoopTripClear d val s
  | .loopEnable d n val => Sys2Proof.Machine.execLoopEnable d n val s
  | .pwmStart d val => Sys2Proof.Machine.execPwmStart d val s
  | .pwmWrap d k => Sys2Proof.Machine.execPwmWrap d k s
  | .pwmSafeSet d val => Sys2Proof.Machine.execPwmSafeSet d val s
  | .ledPeriodBoundary d sns => Sys2Proof.Machine.execLedPeriodBoundary d sns s
  | .strobeReference d ref vc => Sys2Proof.Machine.execStrobeReference d ref vc s
  | .strobePulseEnd d k sns => Sys2Proof.Machine.execStrobePulseEnd d k sns s
  | .refLost d k => Sys2Proof.Machine.execRefLost d k s
  | .ledFaultDetect d k short => Sys2Proof.Machine.execLedFaultDetect d k short s
  | .ledFaultClear d val => Sys2Proof.Machine.execLedFaultClear d val s
  | .ledSyncArm d => Sys2Proof.Machine.execLedSyncArm d s
  | .sensorSample d k r => Sys2Proof.Machine.execSensorSample d k r s
  | .levelStepUp d z => Sys2Proof.Machine.execLevelStepUp d z s
  | .levelStepDown d z => Sys2Proof.Machine.execLevelStepDown d z s
  | .throttleAction d => Sys2Proof.Machine.execThrottleAction d s
  | .sensorAck d val => Sys2Proof.Machine.execSensorAck d val s
  | .d2dStopSignal d trip => Sys2Proof.Machine.execD2dStopSignal d trip s
  | .thermalLatch => Sys2Proof.Machine.execThermalLatch s
  | .compUpdate d q trims => Sys2Proof.Machine.execCompUpdate d q trims s
  | .supplyFall supply => Sys2Proof.Machine.execSupplyFall supply s
  | .supplyRecover => Sys2Proof.Machine.execSupplyRecover s
  | .porstNFall => Sys2Proof.Machine.execPorstNFall s
  | .porstNRise => Sys2Proof.Machine.execPorstNRise s
  | .resetNFall => Sys2Proof.Machine.execResetNFall s
  | .resetNRise => Sys2Proof.Machine.execResetNRise s
  | .clockFault d absent => Sys2Proof.Machine.execClockFault d absent s
  | .clockRecovered d => Sys2Proof.Machine.execClockRecovered d s
  | .rstCluster d key target => Sys2Proof.Machine.execRstCluster d key target s
  | .rstRegion d key target => Sys2Proof.Machine.execRstRegion d key target s
  | .rstDieWarm d key => Sys2Proof.Machine.execRstDieWarm d key s
  | .rstDieCold d key => Sys2Proof.Machine.execRstDieCold d key s
  | .rstPackage d key => Sys2Proof.Machine.execRstPackage d key s
  | .pcieFlr d => Sys2Proof.Machine.execPcieFlr d s
  | .mpResetOrder d => Sys2Proof.Machine.execMpResetOrder d s
  | .fuseLoadDone d boot clkmode pkgcfg corr uncorr => Sys2Proof.Machine.execFuseLoadDone d boot clkmode pkgcfg corr uncorr s
  | .resetRelease d => Sys2Proof.Machine.execResetRelease d s
  | .coldStart d r => Sys2Proof.Machine.execColdStart d r s
  | .warmStart d r => Sys2Proof.Machine.execWarmStart d r s
  | .limitedStart d r => Sys2Proof.Machine.execLimitedStart d r s
  | .hostBootGo d => Sys2Proof.Machine.execHostBootGo d s
  | .bootTimeout d => Sys2Proof.Machine.execBootTimeout d s
  | .reqRun d => Sys2Proof.Machine.execReqRun d s
  | .reqDoze d => Sys2Proof.Machine.execReqDoze d s
  | .reqHold d => Sys2Proof.Machine.execReqHold d s
  | .reqDormant d => Sys2Proof.Machine.execReqDormant d s
  | .powerStateDone d ecc => Sys2Proof.Machine.execPowerStateDone d ecc s
  | .holdWake d => Sys2Proof.Machine.execHoldWake d s
  | .dormantWake d source => Sys2Proof.Machine.execDormantWake d source s
  | .nvsRead d page off len ea eb => Sys2Proof.Machine.execNvsRead d page off len ea eb s
  | .nvsWrite d page off len => Sys2Proof.Machine.execNvsWrite d page off len s
  | .nvsDiagReadA d page off len ea => Sys2Proof.Machine.execNvsDiagReadA d page off len ea s
  | .nvsDiagReadB d page off len eb => Sys2Proof.Machine.execNvsDiagReadB d page off len eb s
  | .tallyRead d t => Sys2Proof.Machine.execTallyRead d t s
  | .tallyAdd d t => Sys2Proof.Machine.execTallyAdd d t s
  | .nvsWriteStart d => Sys2Proof.Machine.execNvsWriteStart d s
  | .pageWriteDone d failed => Sys2Proof.Machine.execPageWriteDone d failed s
  | .tallyWriteDone d failed => Sys2Proof.Machine.execTallyWriteDone d failed s
  | .nvsPowerup d => Sys2Proof.Machine.execNvsPowerup d s
  | .pwdUnlock d kind => Sys2Proof.Machine.execPwdUnlock d kind s
  | .pwdLock d => Sys2Proof.Machine.execPwdLock d s
  | .pwdSet d kind => Sys2Proof.Machine.execPwdSet d kind s
  | .lockoutEnd d => Sys2Proof.Machine.execLockoutEnd d s
  | .tailAdvance d str tail => Sys2Proof.Machine.execTailAdvance d str tail s
  | .descriptorComplete d str addr len => Sys2Proof.Machine.execDescriptorComplete d str addr len s
  | .descriptorReadError d str kind written => Sys2Proof.Machine.execDescriptorReadError d str kind written s
  | .bar2Access d off len data ecc => Sys2Proof.Machine.execBar2Access d off len data ecc s
  | .busMasterDisable d off => Sys2Proof.Machine.execBusMasterDisable d off s
  | .d3hotEntry d enter => Sys2Proof.Machine.execD3hotEntry d enter s
  | .pcieLinkChange d width speed => Sys2Proof.Machine.execPcieLinkChange d width speed s
  | .pePerst d low => Sys2Proof.Machine.execPePerst d low s
  | .trellisFrameSync d good acc ecc => Sys2Proof.Machine.execTrellisFrameSync d good acc ecc s
  | .trellisSync d good dst seq acc => Sys2Proof.Machine.execTrellisSync d good dst seq acc s
  | .trellisAlarm d up good src die cls tile t frame => Sys2Proof.Machine.execTrellisAlarm d up good src die cls tile t frame s
  | .enum d p assign depth bitmap => Sys2Proof.Machine.execEnum d p assign depth bitmap s
  | .enumRsp d p bitmap count => Sys2Proof.Machine.execEnumRsp d p bitmap count s
  | .trellisRead d p die page off count => Sys2Proof.Machine.execTrellisRead d p die page off count s
  | .trellisWrite d p die page off words => Sys2Proof.Machine.execTrellisWrite d p die page off words s
  | .trellisRsp d p status data => Sys2Proof.Machine.execTrellisRsp d p status data s
  | .trellisTime d p time path lead => Sys2Proof.Machine.execTrellisTime d p time path lead s
  | .timeReq d p => Sys2Proof.Machine.execTimeReq d p s
  | .timeRsp d p t2 t3 => Sys2Proof.Machine.execTimeRsp d p t2 t3 s
  | .trellisReset d p reach => Sys2Proof.Machine.execTrellisReset d p reach s
  | .heartbeat d p => Sys2Proof.Machine.execHeartbeat d p s
  | .linkNew d p => Sys2Proof.Machine.execLinkNew d p s
  | .bootReq d p => Sys2Proof.Machine.execBootReq d p s
  | .bootData d p => Sys2Proof.Machine.execBootData d p s
  | .trlCmdGo d dst type len => Sys2Proof.Machine.execTrlCmdGo d dst type len s
  | .trlCmdTimeout d => Sys2Proof.Machine.execTrlCmdTimeout d s
  | .enumGo d => Sys2Proof.Machine.execEnumGo d s
  | .syncGo d => Sys2Proof.Machine.execSyncGo d s
  | .timeSet d t => Sys2Proof.Machine.execTimeSet d t s
  | .timeSend d => Sys2Proof.Machine.execTimeSend d s
  | .hopDelayMeasure d => Sys2Proof.Machine.execHopDelayMeasure d s
  | .unlocked d => Sys2Proof.Machine.execUnlocked d s
  | .heartbeatSend d => Sys2Proof.Machine.execHeartbeatSend d s
  | .unitLost d addr => Sys2Proof.Machine.execUnitLost d addr s
  | .portDown d up => Sys2Proof.Machine.execPortDown d up s
  | .portUp d up => Sys2Proof.Machine.execPortUp d up s
  | .stickyStore d => Sys2Proof.Machine.execStickyStore d s
  | .d2dHeartbeat d => Sys2Proof.Machine.execD2dHeartbeat d s
  | .d2dDown => Sys2Proof.Machine.execD2dDown s
  | .d2dRetrain ok => Sys2Proof.Machine.execD2dRetrain ok s
  | .takeover => Sys2Proof.Machine.execTakeover s
  | .prlTrainingDone d serial role addr lead => Sys2Proof.Machine.execPrlTrainingDone d serial role addr lead s
  | .prlMessageFail d => Sys2Proof.Machine.execPrlMessageFail d s
  | .prlHeartbeatSend d => Sys2Proof.Machine.execPrlHeartbeatSend d s
  | .prlHeartbeat d lead hot heard => Sys2Proof.Machine.execPrlHeartbeat d lead hot heard s
  | .partnerMiss d => Sys2Proof.Machine.execPartnerMiss d s
  | .partnerFailTmo d => Sys2Proof.Machine.execPartnerFailTmo d s
  | .autoback d => Sys2Proof.Machine.execAutoback d s
  | .pairHit d cls tile t frame pin => Sys2Proof.Machine.execPairHit d cls tile t frame pin s
  | .pairMap d die frame map => Sys2Proof.Machine.execPairMap d die frame map s
  | .pairMirror d serial die record bytes => Sys2Proof.Machine.execPairMirror d serial die record bytes s
  | .spiMasterGo d hold tgt nwords => Sys2Proof.Machine.execSpiMasterGo d hold tgt nwords s
  | .xferDone d din => Sys2Proof.Machine.execXferDone d din s
  | .spiTxWrite d val => Sys2Proof.Machine.execSpiTxWrite d val s
  | .spiRxRead d q => Sys2Proof.Machine.execSpiRxRead d q s
  | .ssNFall d => Sys2Proof.Machine.execSsNFall d s
  | .ssNRise d edges val => Sys2Proof.Machine.execSsNRise d edges val s
  | .slaveWord d w => Sys2Proof.Machine.execSlaveWord d w s
  | .protoRead d w => Sys2Proof.Machine.execProtoRead d w s
  | .protoWrite d w => Sys2Proof.Machine.execProtoWrite d w s
  | .protoNop d w => Sys2Proof.Machine.execProtoNop d w s
  | .xipRead d addr flash => Sys2Proof.Machine.execXipRead d addr flash s
  | .xipIdleTimeout d => Sys2Proof.Machine.execXipIdleTimeout d s
  | .sramRowError d bank row => Sys2Proof.Machine.execSramRowError d bank row s
  | .dramRowError d row uncorr => Sys2Proof.Machine.execDramRowError d row uncorr s
  | .sprRemove d ty inst => Sys2Proof.Machine.execSprRemove d ty inst s
  | .sprRetest d ty inst => Sys2Proof.Machine.execSprRetest d ty inst s
  | .sprClear d ty inst => Sys2Proof.Machine.execSprClear d ty inst s
  | .testStart d => Sys2Proof.Machine.execTestStart d s
  | .testDone d pass detail => Sys2Proof.Machine.execTestDone d pass detail s
  | .testStall d => Sys2Proof.Machine.execTestStall d s
  | .graftTableWrite d => Sys2Proof.Machine.execGraftTableWrite d s
  | .resetNUnmask => Sys2Proof.Machine.execResetNUnmask s
  | .supplyWarn supply low => Sys2Proof.Machine.execSupplyWarn supply low s
  | .bankSupplyLoss d bank low => Sys2Proof.Machine.execBankSupplyLoss d bank low s
  | .eopTimeout d up => Sys2Proof.Machine.execEopTimeout d up s
  | .sotErr d port => Sys2Proof.Machine.execSotErr d port s
  | .flitRetry d => Sys2Proof.Machine.execFlitRetry d s
  | .rngHealthFail d => Sys2Proof.Machine.execRngHealthFail d s

end Sys2Proof.Machine
end

