-- ==== Sys2Proof/Machine/Idle.lean ====
section
/-!
DEFINITION. What happens when no command waits: time passes by one PERI cycle, and the management processor of each
die does one piece of work, in the order of R28 (R29; log entries 3 and 8).
-/

namespace Sys2Proof.Machine

/-- The highest priority, lowest number, among the entries present. -/
def EvQueue.highest (l : List (Nat × Nat)) : Nat := l.foldl (fun m a => min m (eventPriority a.1)) 6

/-- The list without its oldest entry of priority `p`. -/
def EvQueue.dropOldest (l : List (Nat × Nat)) (p : Nat) : List (Nat × Nat) :=
  match l with
  | [] => []
  | a :: r => if eventPriority a.1 = p then r else a :: EvQueue.dropOldest r p

/-- R28, R29: the MP takes the oldest entry of the highest priority present; the overflow entry is last of all. -/
def EvQueue.serve (q : EvQueue) : EvQueue :=
  match q.entries with
  | [] => { q with overflow := 0 }
  | e :: r => { q with entries := EvQueue.dropOldest (e :: r) (EvQueue.highest (e :: r)) }

/-- One die's MP does one piece of work, when its core runs: the reload of a block's class P fields (R346), a host request of the SPR at calibration priority (R415), a
mailbox's command at its own (R28, R437), an entry of the queue. -/
def Die.serveOne (x : Die) (env : Env) : Die :=
  if !x.jobRuns 0 then x
  else if !x.boot.reloads.isEmpty && x.canRead 64 256 then x.reloadWaiting
  else if x.sprAsked.isSome && x.sprFree then x.sprWaiting env
  else match [0, 4, 5, 6, 7].find? (fun n => x.on (F.MBX_RSP_BUSY n) && (x.mailbox n).waiting && x.mbxFree n) with
    | some n => x.mbxServe env n
    | none =>
      let y := { x with evq := x.evq.serve }
      y.set F.PRC_EVQ_FILL y.evq.entries.length

/-- One die over a PERI cycle: its MP's work, the EP's on a session that is to be opened (R227), a sample of its field converter (R243); nothing that came before is of the same cycle any
more (R9, R272). -/
def Die.cycle (env : Env) (x : Die) : Die :=
  { (((x.serveOne env).openingWork env).fcvTick env.now).onPwm (fun p => { p with fresh := [] }) with hits := {} }

/-- The package over one PERI cycle in which no command is taken up; a pin's fall that the filter has held long enough is taken
(R310). -/
def State.idle (s : State) : State :=
  let t := { s with now := s.now + 1 }
  let t := if s.dual then (t.alsoOn .a Die.cycle).alsoOn .b Die.cycle else t.alsoOn .a Die.cycle
  (t.takePins.mark .a).mark .b

end Sys2Proof.Machine
end

