-- ==== Sys2Proof/Safety.lean ====
section
/-!
DEFINITION. What a safe run is (every step answers a next state, never a fault and never a refusal), and the words the
statements are written in: what a command answers, and what it leaves alone.
-/

namespace Sys2Proof.Machine

/-- An outcome is a next state. -/
def completes (o : Host.Outcome State Fault Refusal) : Bool :=
  match o with
  | .next _ => true
  | .fault _ => false
  | .refused _ => false

/-- From `s`, each of `n` steps answers a next state. -/
def safeFor : Nat → State → Prop
  | 0, _ => True
  | n + 1, s => ∃ t, step s = .next t ∧ safeFor n t

/-- The command answers a next state, and that state has the property. -/
def Answers (c : Instr) (s : State) (P : State → Prop) : Prop := ∃ t, exec c s = .next t ∧ P t

/-- The package has the die, and no reset holds it. -/
abbrev State.running (s : State) (d : DieId) : Prop := s.has d = true ∧ (s.die d).inReset = false

/-- The command answers a next state in which the die has the property, and nothing else of the package has changed: not
the die's DRAM, not the other die or its DRAM, not the queue, the time or a pin. (The model's own record of the die as the command
found it is made anew: `State.mark`.) -/
def Effect (c : Instr) (d : DieId) (s : State) (P : Die → Prop) : Prop :=
  Answers c s (fun t => t = (s.mark d).withDie d (t.die d) (s.mem d) ∧ P (t.die d))

/-- The command answers a next state in which the die and its DRAM have the property, and nothing else of the package has
changed: not the other die or its DRAM, not the queue, the time or a pin. (The record of the die as the command found it is made
anew.) -/
def EffectMem (c : Instr) (d : DieId) (s : State) (P : Die → Memory → Prop) : Prop :=
  Answers c s (fun t => t = (s.mark d).withDie d (t.die d) (t.mem d) ∧ P (t.die d) (t.mem d))

/-- The command answers a next state, and in it the die has the property. -/
def DieAnswers (c : Instr) (d : DieId) (s : State) (P : Die → Prop) : Prop := Answers c s (fun t => P (t.die d))

/-- Every listed address lies below `hi`. -/
def Memory.below (m : Memory) (hi : Nat) : Bool := m.all (fun e => e.1 < hi)

/-- A memory in canonical form that lists nothing beyond the usable DRAM. -/
def Memory.good (m : Memory) : Bool := m.wf && m.below Config.dramBytes

/-- The invariant between commands: both DRAMs are in their canonical form and list nothing beyond the usable DRAM, and no
DRAM write and no loss of DRAM contents is still to be carried out. -/
def State.tidy (s : State) : Prop :=
  s.memA.good = true ∧ s.memB.good = true ∧ s.dieA.wr = [] ∧ s.dieB.wr = [] ∧ s.dieA.dramCut = false ∧ s.dieB.dramCut = false

/-- An event is pending. -/
def Die.pends (x : Die) (e : Nat) : Bool := x.evPend.getLsbD e

/-- A condition-type event's condition holds. -/
def Die.condOn (x : Die) (e : Nat) : Bool := x.evRaw.getLsbD e

/-- The fields that show the MP's queue: firing an event changes them. -/
def Fld.showsQueue (f : Fld) : Bool :=
  f.key = F.PRC_EVQ_FILL.key || f.key = F.PRC_MP_LOAD_PEAK.key || f.key = F.PRC_EVQ_MERGED.key || f.key = F.PRC_MP_LOAD_OVF.key

/-- The die without its register values in force, its event bits, the record of the bits that the command set, the MP's queue, its
messages and the DRAM writes under way. -/
def Die.hidden (x : Die) : Die :=
  { x with live := {}, evRaw := 0, evPend := 0, msixPend := 0, evq := {}, out := [], wr := [], dramCut := false, hits := {} }

/-- The page whose register file the key numbers. -/
def Fld.pageOf (f : Fld) : Nat := f.key / 0x20000

/-- `y` is `x` but for register fields of the pages `P` and the events `E`, with what an event sets off (`Die.only`). -/
def Die.onlyPages (x : Die) (P E : List Nat) (y : Die) : Prop :=
  y.hidden = x.hidden ∧
  (∀ f : Fld, f.showsQueue = false → f.pageOf ∉ P → y.live.look f = x.live.look f) ∧
  (∀ e, e ≠ 620 → e ∉ E → y.evPend.getLsbD e = x.evPend.getLsbD e) ∧
  (∀ e, e ∉ E → y.evRaw.getLsbD e = x.evRaw.getLsbD e)

/-- `y` is `x` but for the register fields `L` and the events `E`, with what an event sets off: the MP's queue and the
fields that show it, MP_OVERLOAD (620), and messages. -/
def Die.only (x : Die) (L : List Fld) (E : List Nat) (y : Die) : Prop :=
  y.hidden = x.hidden ∧
  (∀ f : Fld, f.showsQueue = false → (∀ g ∈ L, g.key ≠ f.key) → y.live.look f = x.live.look f) ∧
  (∀ e, e ≠ 620 → e ∉ E → y.evPend.getLsbD e = x.evPend.getLsbD e) ∧
  (∀ e, e ∉ E → y.evRaw.getLsbD e = x.evRaw.getLsbD e)

end Sys2Proof.Machine
end

