-- ==== Sys2Proof/Certificates/Slice0/Obligations.lean ====
section
/-!
DEFINITION. The statements for the provers. A statement over one die takes the die as `x` and the package as `s`; its clauses
say what one command answers where their premises hold. Effect: the command answers a next state in which the die has the
property and nothing else of the package has changed, no DRAM, no other die, no queue, no time and no pin. EffectMem: the same, but
for the die's own DRAM. DieAnswers and Answers say nothing about the rest of the package. `x.only fields events y`: of the
registers, the events and the state behind the registers, y differs from x in no more than these, and in what an event sets off.
-/

namespace Sys2Proof.Machine

/-- Registers whose fields are all RW and whose write does nothing but set them, of many blocks: page and offset. -/
def plainRegs : List (Nat × Nat) :=
  [(0x21, 0x05C), (0x23, 0x054), (0x28, 0x04C), (0x28, 0x064), (0x01, 0x04C), (0x12, 0x064), (0x09, 0x050), (0x0A, 0x040),
   (0x11, 0x06C), (0x14, 0x044), (0x10, 0x058), (0x38, 0x048), (0x47, 0x044), (0x05, 0x0EC), (0x40, 0x054)]

/-- Registers whose fields are all RWS, of many blocks. -/
def stagedRegs : List (Nat × Nat) :=
  [(0x20, 0x050), (0x23, 0x044), (0x30, 0x044), (0x31, 0x048), (0x33, 0x044), (0x80, 0x108), (0x29, 0x044), (0x44, 0x118),
   (0x3B, 0x10C)]

/-- The mailbox commands: the mailbox and the opcode of each (Tables 5.10, 7.8, 11.4 and 12.6). -/
def mailboxCommands (d : DieId) (tag arg : Nat) (good : Bool) : List (Instr × Nat × Nat) :=
  [(.baseReady d tag arg, 0, 0x0001), (.paramSave d tag arg, 0, 0x0010), (.paramDiscard d tag arg, 0, 0x0011),
   (.pwdRecover d tag arg, 0, 0x0012), (.recoveryWrite d tag arg good, 0, 0x0013), (.calEvent d tag arg, 1, 0x0100),
   (.calAbort d tag arg, 1, 0x0101), (.calSave d tag arg, 1, 0x0102), (.calLoad d tag arg, 1, 0x0103),
   (.calHash d tag arg, 1, 0x0104), (.evdSeal d tag arg, 3, 0x0300), (.evdAttest d tag arg, 3, 0x0301),
   (.evdClose d tag arg, 3, 0x0302), (.evdFinal d tag arg, 3, 0x0303), (.evdLog d tag arg, 3, 0x0304)]

end Sys2Proof.Machine

open Sys2Proof Sys2Proof.Machine

/-- With a command at the front of the queue, a step is exec of that command on the state with the queue's rest; on an
empty queue the block idles for one PERI cycle, in which each die's MP takes one entry of its queue (log entry 3: the
model's choice). -/
def Obligations.StepRunsFront : Prop :=
  (∀ (s : State) (c : Instr) (rest : List Instr),
    step { s with pending := c :: rest } = exec c { s with pending := rest }) ∧
  (∀ s : State, s.pending = [] → step s = .next s.idle)

/-- On a package with two dies every command, with every operand and in every state, answers a next state. On a
package with one die every command answers a next state or is the fault noSuchDie. No command is refused. Named one by
one: each of the 287 commands, sent to a die that the package has and that no reset holds, answers a next state with
every operand and in every such state. -/
def Obligations.EveryCommandCompletes : Prop :=
  (∀ (c : Instr) (s : State), (∃ t, exec c s = .next t) ∨ (s.dual = false ∧ exec c s = .fault .noSuchDie)) ∧
  (∀ (s : State) (d : DieId), s.running d →
    ((∀ (q : Writer) (addr val size : Nat), ∃ t', exec (.registerWrite d q addr val size) s = .next t') ∧
     (∀ (q : Reader) (addr : Nat), ∃ t', exec (.readLo d q addr) s = .next t') ∧
     (∀ (q : Reader) (addr : Nat), ∃ t', exec (.readHi d q addr) s = .next t') ∧
     (∀ (page : Nat) (val : PendMask), ∃ t', exec (.evtPendClear d page val) s = .next t') ∧
     (∀ (page val : Nat), ∃ t', exec (.evtSet d page val) s = .next t') ∧
     (∀ (page boundary : Nat), ∃ t', exec (.commitArm d page boundary) s = .next t') ∧
     (∀ (page boundary : Nat) (arm : Bool), ∃ t', exec (.commitCancel d page boundary arm) s = .next t') ∧
     (∀ (page : Nat), ∃ t', exec (.commitApply d page) s = .next t') ∧
     (∀ (page : Nat), ∃ t', exec (.blockResetReq d page) s = .next t') ∧
     (∀ (page : Nat), ∃ t', exec (.blockReset d page) s = .next t') ∧
     (∀ (page : Nat), ∃ t', exec (.brstTimeout d page) s = .next t') ∧
     (∀ (n : Fin 8), ∃ t', exec (.mbxCompletion d n) s = .next t') ∧
     (∀ (n : Fin 8), ∃ t', exec (.mbxTimeout d n) s = .next t') ∧
     (∀ (tag arg : Nat), ∃ t', exec (.baseReady d tag arg) s = .next t') ∧
     (∀ (tag arg : Nat), ∃ t', exec (.paramSave d tag arg) s = .next t') ∧
     (∀ (tag arg : Nat), ∃ t', exec (.paramDiscard d tag arg) s = .next t') ∧
     (∀ (tag arg : Nat), ∃ t', exec (.pwdRecover d tag arg) s = .next t') ∧
     (∀ (tag arg : Nat) (good : Bool), ∃ t', exec (.recoveryWrite d tag arg good) s = .next t') ∧
     (∀ (tag arg : Nat), ∃ t', exec (.calEvent d tag arg) s = .next t') ∧
     (∀ (tag arg : Nat), ∃ t', exec (.calAbort d tag arg) s = .next t') ∧
     (∀ (tag arg : Nat), ∃ t', exec (.calSave d tag arg) s = .next t') ∧
     (∀ (tag arg : Nat), ∃ t', exec (.calLoad d tag arg) s = .next t') ∧
     (∀ (tag arg : Nat), ∃ t', exec (.calHash d tag arg) s = .next t') ∧
     (∀ (tag arg : Nat), ∃ t', exec (.evdSeal d tag arg) s = .next t')) ∧
    ((∀ (tag arg : Nat), ∃ t', exec (.evdAttest d tag arg) s = .next t') ∧
     (∀ (tag arg : Nat), ∃ t', exec (.evdClose d tag arg) s = .next t') ∧
     (∀ (tag arg : Nat), ∃ t', exec (.evdFinal d tag arg) s = .next t') ∧
     (∀ (tag arg : Nat), ∃ t', exec (.evdLog d tag arg) s = .next t') ∧
     (∀ (core : Fin 5), ∃ t', exec (.watchdogExpiry d core) s = .next t') ∧
     (∀ (core : Fin 5), ∃ t', exec (.coreMemUncorr d core) s = .next t') ∧
     (∃ t', exec (.spareCoreTakeover d) s = .next t') ∧
     (∀ (o : AfeOut), ∃ t', exec (.afeOutputEnable d o) s = .next t') ∧
     (∀ (o : AfeOut), ∃ t', exec (.afeOutputDisable d o) s = .next t') ∧
     (∀ (o : AfeOut), ∃ t', exec (.rampDone d o) s = .next t') ∧
     (∀ (o : AfeOut), ∃ t', exec (.outputGood d o) s = .next t') ∧
     (∀ (m : AfeSample), ∃ t', exec (.currentSample d m) s = .next t') ∧
     (∃ t', exec (.offDone d) s = .next t') ∧
     (∀ (val : PendMask), ∃ t', exec (.tripCauseClear d val) s = .next t') ∧
     (∀ (diode : Fin 2) (code : Option Int), ∃ t', exec (.fpdReading d diode code) s = .next t') ∧
     (∀ (ecc : Ecc), ∃ t', exec (.seqopNext d ecc) s = .next t') ∧
     (∀ (ecc : Ecc), ∃ t', exec (.seqopJump d ecc) s = .next t') ∧
     (∀ (ecc : Ecc), ∃ t', exec (.seqopLoop0 d ecc) s = .next t') ∧
     (∀ (ecc : Ecc), ∃ t', exec (.seqopLoop1 d ecc) s = .next t') ∧
     (∀ (ecc : Ecc), ∃ t', exec (.seqopWaitFrame d ecc) s = .next t') ∧
     (∃ t', exec (.seqopStop d) s = .next t') ∧
     (∃ t', exec (.rowopNext d) s = .next t') ∧
     (∃ t', exec (.rowopFirst d) s = .next t') ∧
     (∃ t', exec (.loadC0 d) s = .next t')) ∧
    ((∃ t', exec (.loadC1 d) s = .next t') ∧
     (∃ t', exec (.scanRun d) s = .next t') ∧
     (∃ t', exec (.scanContinue d) s = .next t') ∧
     (∃ t', exec (.scanStop d) s = .next t') ∧
     (∀ (next : List (Nat × Ecc)), ∃ t', exec (.frameStart d next) s = .next t') ∧
     (∃ t', exec (.frameEnd d) s = .next t') ∧
     (∀ (late : List Nat) (next : List (Nat × Ecc)), ∃ t', exec (.rowStart d late next) s = .next t') ∧
     (∃ t', exec (.blankRow d) s = .next t') ∧
     (∃ t', exec (.userMarker d) s = .next t') ∧
     (∀ (late : List Nat) (next : List (Nat × Ecc)), ∃ t', exec (.rowStartRelease d late next) s = .next t') ∧
     (∃ t', exec (.rakeStall d) s = .next t') ∧
     (∀ (ecc : Ecc), ∃ t', exec (.frameTick d ecc) s = .next t') ∧
     (∀ (ecc : Ecc), ∃ t', exec (.externalTick d ecc) s = .next t') ∧
     (∀ (ecc : Ecc), ∃ t', exec (.syncLost d ecc) s = .next t') ∧
     (∀ (q : Requester) (addr val : Nat), ∃ t', exec (.rakeCodeWrite d q addr val) s = .next t') ∧
     (∀ (ecc : Ecc), ∃ t', exec (.rakeStart d ecc) s = .next t') ∧
     (∃ t', exec (.rakeStop d) s = .next t') ∧
     (∀ (cycles : Nat) (volts : List (List (List Int))), ∃ t', exec (.windowsClose d cycles volts) s = .next t') ∧
     (∀ (c : Fin 32) (sums : CheckSums), ∃ t', exec (.checkRoundEnd d c sums) s = .next t') ∧
     (∃ t', exec (.chkStale d) s = .next t') ∧
     (∀ (c : Fin 32) (ch core : Nat), ∃ t', exec (.coreRemove d c ch core) s = .next t') ∧
     (∀ (c : Fin 32) (ch core : Nat), ∃ t', exec (.coreReturn d c ch core) s = .next t') ∧
     (∀ (c : Fin 32) (ch : Nat), ∃ t', exec (.channelGraft d c ch) s = .next t') ∧
     (∀ (c : Fin 32), ∃ t', exec (.channelRelease d c) s = .next t')) ∧
    ((∃ t', exec (.gangArm d) s = .next t') ∧
     (∀ (row word : Nat) (ok : Bool), ∃ t', exec (.trmRepair d row word ok) s = .next t') ∧
     (∃ t', exec (.trmLoad d) s = .next t') ∧
     (∀ (bad : List Nat), ∃ t', exec (.loadDone d bad) s = .next t') ∧
     (∃ t', exec (.switchDone d) s = .next t') ∧
     (∀ (r : Fin 4) (row col : Nat), ∃ t', exec (.acbCaptureArm d r row col) s = .next t') ∧
     (∀ (f : RowFaults), ∃ t', exec (.sieveRowEntry d f) s = .next t') ∧
     (∃ t', exec (.sieveRowClear d) s = .next t') ∧
     (∀ (row cycles : Nat) (bad : List Nat), ∃ t', exec (.cmmFetchDone d row cycles bad) s = .next t') ∧
     (∀ (f : FillFaults), ∃ t', exec (.fillRowRelease d f) s = .next t') ∧
     (∃ t', exec (.tileMapWrite d) s = .next t') ∧
     (∃ t', exec (.hotspotClear d) s = .next t') ∧
     (∃ t', exec (.bankApplied d) s = .next t') ∧
     (∃ t', exec (.bandJudge d) s = .next t') ∧
     (∀ (n : Nat), ∃ t', exec (.sliceRemove d n) s = .next t') ∧
     (∀ (n : Nat), ∃ t', exec (.sliceReturn d n) s = .next t') ∧
     (∀ (sel : Nat), ∃ t', exec (.planeHashGo d sel) s = .next t') ∧
     (∃ t', exec (.hashDone d) s = .next t') ∧
     (∀ (row col : Nat), ∃ t', exec (.sieveCaptureArm d row col) s = .next t') ∧
     (∀ (ests : List BgEst) (spurs : List SpurDiff), ∃ t', exec (.bgEstimate d ests spurs) s = .next t') ∧
     (∃ t', exec (.cloHome d) s = .next t') ∧
     (∃ t', exec (.cloOpen d) s = .next t') ∧
     (∃ t', exec (.cloClose d) s = .next t') ∧
     (∃ t', exec (.cloEnable d) s = .next t')) ∧
    ((∃ t', exec (.boostEnd d) s = .next t') ∧
     (∀ (hall0 hall1 : Bool), ∃ t', exec (.hallChange d hall0 hall1) s = .next t') ∧
     (∃ t', exec (.brakeEnd d) s = .next t') ∧
     (∃ t', exec (.moveTimeout d) s = .next t') ∧
     (∃ t', exec (.forcedOpen d) s = .next t') ∧
     (∃ t', exec (.hallIdleTimeout d) s = .next t') ∧
     (∀ (err : Nat), ∃ t', exec (.htrReady d err) s = .next t') ∧
     (∀ (first : Bool), ∃ t', exec (.calTimerDue d first) s = .next t') ∧
     (∃ t', exec (.deferTimeout d) s = .next t') ∧
     (∃ t', exec (.shutterEventStart d) s = .next t') ∧
     (∃ t', exec (.planeWriterDone d) s = .next t') ∧
     (∃ t', exec (.calRecordWrite d) s = .next t') ∧
     (∃ t', exec (.recSaved d) s = .next t') ∧
     (∀ (partner : Bool) (who : DieId) (reason : Nat), ∃ t', exec (.staggerRequest d partner who reason) s = .next t') ∧
     (∀ (arrives : Bool), ∃ t', exec (.staggerGrant d arrives) s = .next t') ∧
     (∃ t', exec (.staggerRelease d) s = .next t') ∧
     (∀ (port : Fin 4) (vc num : Nat) (hdr : Ecc), ∃ t', exec (.csiFrameStartPacket d port vc num hdr) s = .next t') ∧
     (∀ (port : Fin 4) (vc : Nat) (hdr : Ecc), ∃ t', exec (.csiFrameEndPacket d port vc hdr) s = .next t') ∧
     (∀ (port : Fin 4) (vc dt : Nat) (data : List Byte) (hdr : Ecc) (crcOk : Bool), ∃ t', exec (.csiLongPacket d port vc dt data hdr crcOk) s = .next t') ∧
     (∀ (port : Fin 4) (vc : Nat) (hdr : Ecc), ∃ t', exec (.lineSyncPacket d port vc hdr) s = .next t') ∧
     (∀ (port : Fin 4) (vc : Nat) (hdr : Ecc), ∃ t', exec (.genericShortPacket d port vc hdr) s = .next t') ∧
     (∀ (port : Fin 4) (vc : Nat), ∃ t', exec (.frameTmo d port vc) s = .next t') ∧
     (∀ (port : Fin 4), ∃ t', exec (.csiLinkDown d port) s = .next t') ∧
     (∃ t', exec (.unitStart d) s = .next t')) ∧
    ((∀ (bad : List (Nat × Nat)), ∃ t', exec (.unitDone d bad) s = .next t') ∧
     (∀ (n val : Nat), ∃ t', exec (.contextEnable d n val) s = .next t') ∧
     (∀ (n value : Nat), ∃ t', exec (.tokenPost d n value) s = .next t') ∧
     (∃ t', exec (.vtxFrameBegin d) s = .next t') ∧
     (∃ t', exec (.frameSent d) s = .next t') ∧
     (∃ t', exec (.esnAssign d) s = .next t') ∧
     (∃ t', exec (.reserved d) s = .next t') ∧
     (∃ t', exec (.epochCut d) s = .next t') ∧
     (∃ t', exec (.sealed d) s = .next t') ∧
     (∃ t', exec (.sealWait d) s = .next t') ∧
     (∃ t', exec .pfailAssert s = .next t') ∧
     (∃ t', exec (.closeDone d) s = .next t') ∧
     (∃ t', exec (.pfailRestart d) s = .next t') ∧
     (∃ t', exec (.certDataRead d) s = .next t') ∧
     (∀ (start mode : Nat), ∃ t', exec (.fcvMainGo d start mode) s = .next t') ∧
     (∀ (start mode : Nat), ∃ t', exec (.fcvMainStop d start mode) s = .next t') ∧
     (∀ (start : Nat), ∃ t', exec (.fcvUrgGo d start) s = .next t') ∧
     (∀ (rising : Bool), ∃ t', exec (.ftrigEdge d rising) s = .next t') ∧
     (∃ t', exec (.fcvPeriodTick d) s = .next t') ∧
     (∀ (volts : List Int), ∃ t', exec (.urgentRunEnd d volts) s = .next t') ∧
     (∀ (volts : List Int), ∃ t', exec (.fcvResultDelivery d volts) s = .next t') ∧
     (∀ (q : Requester), ∃ t', exec (.fcvQueueRead d q) s = .next t') ∧
     (∀ (q : Requester), ∃ t', exec (.fcvQueuePeek d q) s = .next t') ∧
     (∀ (n : Fin 16) (skipped : Nat), ∃ t', exec (.loopEvaluation d n skipped) s = .next t')) ∧
    ((∀ (n : Fin 16), ∃ t', exec (.loopHoldTimeout d n) s = .next t') ∧
     (∀ (val : PendMask), ∃ t', exec (.loopTripClear d val) s = .next t') ∧
     (∀ (n : Fin 16) (val : Nat), ∃ t', exec (.loopEnable d n val) s = .next t') ∧
     (∀ (val : Nat), ∃ t', exec (.pwmStart d val) s = .next t') ∧
     (∀ (k : Fin 8), ∃ t', exec (.pwmWrap d k) s = .next t') ∧
     (∀ (val : Nat), ∃ t', exec (.pwmSafeSet d val) s = .next t') ∧
     (∀ (sns : List Nat), ∃ t', exec (.ledPeriodBoundary d sns) s = .next t') ∧
     (∀ (ref vc : Nat), ∃ t', exec (.strobeReference d ref vc) s = .next t') ∧
     (∀ (k : Fin 12) (sns : Nat), ∃ t', exec (.strobePulseEnd d k sns) s = .next t') ∧
     (∀ (k : Fin 12), ∃ t', exec (.refLost d k) s = .next t') ∧
     (∀ (k : Fin 12) (short : Bool), ∃ t', exec (.ledFaultDetect d k short) s = .next t') ∧
     (∀ (val : PendMask), ∃ t', exec (.ledFaultClear d val) s = .next t') ∧
     (∃ t', exec (.ledSyncArm d) s = .next t') ∧
     (∀ (k : Fin 10) (r : ThermRead), ∃ t', exec (.sensorSample d k r) s = .next t') ∧
     (∀ (z : Fin 4), ∃ t', exec (.levelStepUp d z) s = .next t') ∧
     (∀ (z : Fin 4), ∃ t', exec (.levelStepDown d z) s = .next t') ∧
     (∃ t', exec (.throttleAction d) s = .next t') ∧
     (∀ (val : Nat), ∃ t', exec (.sensorAck d val) s = .next t') ∧
     (∀ (trip : Bool), ∃ t', exec (.d2dStopSignal d trip) s = .next t') ∧
     (∃ t', exec .thermalLatch s = .next t') ∧
     (∀ (q : Fin 4) (trims : List Int), ∃ t', exec (.compUpdate d q trims) s = .next t') ∧
     (∀ (supply : Fin 3), ∃ t', exec (.supplyFall supply) s = .next t') ∧
     (∃ t', exec .supplyRecover s = .next t') ∧
     (∃ t', exec .porstNFall s = .next t')) ∧
    ((∃ t', exec .porstNRise s = .next t') ∧
     (∃ t', exec .resetNFall s = .next t') ∧
     (∃ t', exec .resetNRise s = .next t') ∧
     (∀ (absent : Bool), ∃ t', exec (.clockFault d absent) s = .next t') ∧
     (∃ t', exec (.clockRecovered d) s = .next t') ∧
     (∀ (key target : Nat), ∃ t', exec (.rstCluster d key target) s = .next t') ∧
     (∀ (key target : Nat), ∃ t', exec (.rstRegion d key target) s = .next t') ∧
     (∀ (key : Nat), ∃ t', exec (.rstDieWarm d key) s = .next t') ∧
     (∀ (key : Nat), ∃ t', exec (.rstDieCold d key) s = .next t') ∧
     (∀ (key : Nat), ∃ t', exec (.rstPackage d key) s = .next t') ∧
     (∃ t', exec (.pcieFlr d) s = .next t') ∧
     (∃ t', exec (.mpResetOrder d) s = .next t') ∧
     (∀ (boot : Nat) (clkmode : Bool) (pkgcfg : Nat) (corr : Bool) (uncorr : Option (List FuseItem)), ∃ t', exec (.fuseLoadDone d boot clkmode pkgcfg corr uncorr) s = .next t') ∧
     (∃ t', exec (.resetRelease d) s = .next t') ∧
     (∀ (r : StepReport), ∃ t', exec (.coldStart d r) s = .next t') ∧
     (∀ (r : StepReport), ∃ t', exec (.warmStart d r) s = .next t') ∧
     (∀ (r : StepReport), ∃ t', exec (.limitedStart d r) s = .next t') ∧
     (∃ t', exec (.hostBootGo d) s = .next t') ∧
     (∃ t', exec (.bootTimeout d) s = .next t') ∧
     (∃ t', exec (.reqRun d) s = .next t') ∧
     (∃ t', exec (.reqDoze d) s = .next t') ∧
     (∃ t', exec (.reqHold d) s = .next t') ∧
     (∃ t', exec (.reqDormant d) s = .next t') ∧
     (∀ (ecc : Ecc), ∃ t', exec (.powerStateDone d ecc) s = .next t')) ∧
    ((∃ t', exec (.holdWake d) s = .next t') ∧
     (∀ (source : Fin 4), ∃ t', exec (.dormantWake d source) s = .next t') ∧
     (∀ (page off len : Nat) (ea eb : List Ecc), ∃ t', exec (.nvsRead d page off len ea eb) s = .next t') ∧
     (∀ (page off len : Nat), ∃ t', exec (.nvsWrite d page off len) s = .next t') ∧
     (∀ (page off len : Nat) (ea : List Ecc), ∃ t', exec (.nvsDiagReadA d page off len ea) s = .next t') ∧
     (∀ (page off len : Nat) (eb : List Ecc), ∃ t', exec (.nvsDiagReadB d page off len eb) s = .next t') ∧
     (∀ (t : Nat), ∃ t', exec (.tallyRead d t) s = .next t') ∧
     (∀ (t : Nat), ∃ t', exec (.tallyAdd d t) s = .next t') ∧
     (∃ t', exec (.nvsWriteStart d) s = .next t') ∧
     (∀ (failed : List Nat), ∃ t', exec (.pageWriteDone d failed) s = .next t') ∧
     (∀ (failed : Bool), ∃ t', exec (.tallyWriteDone d failed) s = .next t') ∧
     (∃ t', exec (.nvsPowerup d) s = .next t') ∧
     (∀ (kind : Nat), ∃ t', exec (.pwdUnlock d kind) s = .next t') ∧
     (∃ t', exec (.pwdLock d) s = .next t') ∧
     (∀ (kind : Nat), ∃ t', exec (.pwdSet d kind) s = .next t') ∧
     (∃ t', exec (.lockoutEnd d) s = .next t') ∧
     (∀ (str tail : Nat), ∃ t', exec (.tailAdvance d str tail) s = .next t') ∧
     (∀ (str addr len : Nat), ∃ t', exec (.descriptorComplete d str addr len) s = .next t') ∧
     (∀ (str kind : Nat) (written : Bool), ∃ t', exec (.descriptorReadError d str kind written) s = .next t') ∧
     (∀ (off len : Nat) (data : Option (List Byte)) (ecc : Ecc), ∃ t', exec (.bar2Access d off len data ecc) s = .next t') ∧
     (∀ (off : Bool), ∃ t', exec (.busMasterDisable d off) s = .next t') ∧
     (∀ (enter : Bool), ∃ t', exec (.d3hotEntry d enter) s = .next t') ∧
     (∀ (width speed : Nat), ∃ t', exec (.pcieLinkChange d width speed) s = .next t') ∧
     (∀ (low : Bool), ∃ t', exec (.pePerst d low) s = .next t')) ∧
    ((∀ (good : Bool) (acc : Nat) (ecc : Ecc), ∃ t', exec (.trellisFrameSync d good acc ecc) s = .next t') ∧
     (∀ (good : Bool) (dst seq acc : Nat), ∃ t', exec (.trellisSync d good dst seq acc) s = .next t') ∧
     (∀ (up good : Bool) (src : Nat) (die : DieId) (cls tile t frame : Nat), ∃ t', exec (.trellisAlarm d up good src die cls tile t frame) s = .next t') ∧
     (∀ (p : Packet) (assign : Bool) (depth bitmap : Nat), ∃ t', exec (.enum d p assign depth bitmap) s = .next t') ∧
     (∀ (p : Packet) (bitmap count : Nat), ∃ t', exec (.enumRsp d p bitmap count) s = .next t') ∧
     (∀ (p : Packet) (die page off count : Nat), ∃ t', exec (.trellisRead d p die page off count) s = .next t') ∧
     (∀ (p : Packet) (die page off : Nat) (words : List Nat), ∃ t', exec (.trellisWrite d p die page off words) s = .next t') ∧
     (∀ (p : Packet) (status : Nat) (data : List Byte), ∃ t', exec (.trellisRsp d p status data) s = .next t') ∧
     (∀ (p : Packet) (time path lead : Nat), ∃ t', exec (.trellisTime d p time path lead) s = .next t') ∧
     (∀ (p : Packet), ∃ t', exec (.timeReq d p) s = .next t') ∧
     (∀ (p : Packet) (t2 t3 : Nat), ∃ t', exec (.timeRsp d p t2 t3) s = .next t') ∧
     (∀ (p : Packet) (reach : Nat), ∃ t', exec (.trellisReset d p reach) s = .next t') ∧
     (∀ (p : Packet), ∃ t', exec (.heartbeat d p) s = .next t') ∧
     (∀ (p : Packet), ∃ t', exec (.linkNew d p) s = .next t') ∧
     (∀ (p : Packet), ∃ t', exec (.bootReq d p) s = .next t') ∧
     (∀ (p : Packet), ∃ t', exec (.bootData d p) s = .next t') ∧
     (∀ (dst type len : Nat), ∃ t', exec (.trlCmdGo d dst type len) s = .next t') ∧
     (∃ t', exec (.trlCmdTimeout d) s = .next t') ∧
     (∃ t', exec (.enumGo d) s = .next t') ∧
     (∃ t', exec (.syncGo d) s = .next t') ∧
     (∀ (t : Nat), ∃ t', exec (.timeSet d t) s = .next t') ∧
     (∃ t', exec (.timeSend d) s = .next t') ∧
     (∃ t', exec (.hopDelayMeasure d) s = .next t') ∧
     (∃ t', exec (.unlocked d) s = .next t')) ∧
    ((∃ t', exec (.heartbeatSend d) s = .next t') ∧
     (∀ (addr : Nat), ∃ t', exec (.unitLost d addr) s = .next t') ∧
     (∀ (up : Bool), ∃ t', exec (.portDown d up) s = .next t') ∧
     (∀ (up : Bool), ∃ t', exec (.portUp d up) s = .next t') ∧
     (∃ t', exec (.stickyStore d) s = .next t') ∧
     (∃ t', exec (.d2dHeartbeat d) s = .next t') ∧
     (∃ t', exec .d2dDown s = .next t') ∧
     (∀ (ok : Bool), ∃ t', exec (.d2dRetrain ok) s = .next t') ∧
     (∃ t', exec .takeover s = .next t') ∧
     (∀ (serial role addr : Nat) (lead : DieId), ∃ t', exec (.prlTrainingDone d serial role addr lead) s = .next t') ∧
     (∃ t', exec (.prlMessageFail d) s = .next t') ∧
     (∃ t', exec (.prlHeartbeatSend d) s = .next t') ∧
     (∀ (lead : DieId) (hot heard : Bool), ∃ t', exec (.prlHeartbeat d lead hot heard) s = .next t') ∧
     (∃ t', exec (.partnerMiss d) s = .next t') ∧
     (∃ t', exec (.partnerFailTmo d) s = .next t') ∧
     (∃ t', exec (.autoback d) s = .next t') ∧
     (∀ (cls tile t frame : Nat) (pin : Bool), ∃ t', exec (.pairHit d cls tile t frame pin) s = .next t') ∧
     (∀ (die : DieId) (frame : Nat) (map : List Byte), ∃ t', exec (.pairMap d die frame map) s = .next t') ∧
     (∀ (serial : Nat) (die : DieId) (record : Bool) (bytes : List Byte), ∃ t', exec (.pairMirror d serial die record bytes) s = .next t') ∧
     (∀ (hold : Bool) (tgt nwords : Nat), ∃ t', exec (.spiMasterGo d hold tgt nwords) s = .next t') ∧
     (∀ (din : List Nat), ∃ t', exec (.xferDone d din) s = .next t') ∧
     (∀ (val : Nat), ∃ t', exec (.spiTxWrite d val) s = .next t') ∧
     (∀ (q : Requester), ∃ t', exec (.spiRxRead d q) s = .next t') ∧
     (∃ t', exec (.ssNFall d) s = .next t')) ∧
    ((∀ (edges val : Nat), ∃ t', exec (.ssNRise d edges val) s = .next t') ∧
     (∀ (w : Nat), ∃ t', exec (.slaveWord d w) s = .next t') ∧
     (∀ (w : Nat), ∃ t', exec (.protoRead d w) s = .next t') ∧
     (∀ (w : Nat), ∃ t', exec (.protoWrite d w) s = .next t') ∧
     (∀ (w : Nat), ∃ t', exec (.protoNop d w) s = .next t') ∧
     (∀ (addr : Nat) (flash : List (List Byte)), ∃ t', exec (.xipRead d addr flash) s = .next t') ∧
     (∃ t', exec (.xipIdleTimeout d) s = .next t') ∧
     (∀ (bank row : Nat), ∃ t', exec (.sramRowError d bank row) s = .next t') ∧
     (∀ (row : Nat) (uncorr : Bool), ∃ t', exec (.dramRowError d row uncorr) s = .next t') ∧
     (∀ (ty inst : Nat), ∃ t', exec (.sprRemove d ty inst) s = .next t') ∧
     (∀ (ty inst : Nat), ∃ t', exec (.sprRetest d ty inst) s = .next t') ∧
     (∀ (ty inst : Nat), ∃ t', exec (.sprClear d ty inst) s = .next t') ∧
     (∃ t', exec (.testStart d) s = .next t') ∧
     (∀ (pass : Bool) (detail : Nat), ∃ t', exec (.testDone d pass detail) s = .next t') ∧
     (∃ t', exec (.testStall d) s = .next t') ∧
     (∃ t', exec (.graftTableWrite d) s = .next t') ∧
     (∃ t', exec .resetNUnmask s = .next t') ∧
     (∀ (supply : Fin 3) (low : Bool), ∃ t', exec (.supplyWarn supply low) s = .next t') ∧
     (∀ (bank : Fin 3) (low : Bool), ∃ t', exec (.bankSupplyLoss d bank low) s = .next t') ∧
     (∀ (up : Bool), ∃ t', exec (.eopTimeout d up) s = .next t') ∧
     (∀ (port : Fin 4), ∃ t', exec (.sotErr d port) s = .next t') ∧
     (∃ t', exec (.flitRetry d) s = .next t') ∧
     (∃ t', exec (.rngHealthFail d) s = .next t')))

/-- A command's effect never touches the queue: after it, exactly the commands that waited still wait, in their order,
and the package's kind is as it was. A step from a queue with n commands at its front therefore reaches the one behind
the first next. -/
def Obligations.QueueFirstInFirstOut : Prop :=
  (∀ (c : Instr) (s t : State), exec c s = .next t → t.pending = s.pending ∧ t.dual = s.dual) ∧
  (∀ (c : Instr) (rest : List Instr) (s t : State), s.pending = c :: rest → step s = .next t → t.pending = rest)

/-- R307, R312, R20. Right after a power-on reset no command waits and both DRAMs list nothing; no event is pending,
no condition holds and no event is enabled; nothing is staged; every register field has the Reset its register table
gives, but for the package, die and lead bits of SYS_IDENT, EVT_PKG_SUM.DIE_B, FUS_STAT.LOADED, RST_START.STEP,
RST_CAUSE, whose REACH is 6, CAUSE 1 and DETAIL 7, SEQ_SYNC.SRC of Die B, and the registers that show the device key
and its public point (log entry 5: part of these is the model's choice). -/
def Obligations.ResetValues : Prop :=
  State.reset.pending = [] ∧ State.reset.memA = [] ∧ State.reset.memB = [] ∧
  (∀ d : DieId,
    ((State.reset.die d).evPend = 0 ∧ (State.reset.die d).evRaw = 0 ∧ (State.reset.die d).evEn = 0 ∧
      (State.reset.die d).stage = {}) ∧
    (∀ f : Fld, f.key ∉ [F.SYS_IDENT_PKG.key, F.SYS_IDENT_DIE.key, F.SYS_IDENT_LEAD.key, F.EVT_PKG_SUM_DIE_B.key,
        F.RST_CAUSE_REACH.key, F.RST_CAUSE_DETAIL.key, F.RST_CAUSE_CAUSE.key, F.RST_START_STEP.key, F.FUS_STAT_LOADED.key,
        F.CRY_STATE_KEY.key, F.SEQ_SYNC_SRC.key] →
      (∀ k ∈ List.range 8, f.key ≠ (F.CRY_PUBX_WORD k).key ∧ f.key ≠ (F.CRY_PUBY_WORD k).key) → (State.reset.die d).get f = f.rst) ∧
    (State.reset.die d).get F.SEQ_SYNC_SRC = (if d = .b then 1 else 0) ∧
    (State.reset.die d).get F.RST_CAUSE_REACH = 6 ∧ (State.reset.die d).get F.RST_CAUSE_CAUSE = 1 ∧
    (State.reset.die d).get F.RST_CAUSE_DETAIL = 7 ∧ (State.reset.die d).get F.RST_START_STEP = 2 ∧
    (State.reset.die d).get F.FUS_STAT_LOADED = 1 ∧ (State.reset.die d).get F.CRY_STATE_KEY = 1 ∧
    (∀ k ∈ List.range 8, (State.reset.die d).get (F.CRY_PUBX_WORD k) = (publicWords d).1.getD k 0 % 2 ^ 32 ∧
      (State.reset.die d).get (F.CRY_PUBY_WORD k) = (publicWords d).2.getD k 0 % 2 ^ 32) ∧
    (State.reset.die d).get F.SYS_IDENT_PKG = 1 ∧
    (State.reset.die d).get F.SYS_IDENT_DIE = (if d = .b then 1 else 0) ∧
    (State.reset.die d).get F.SYS_IDENT_LEAD = (if d = .a then 1 else 0))

/-- From every state in which both DRAMs are canonical and list nothing beyond the usable DRAM, and no DRAM write is
still to be carried out, a step that answers a next state answers one in which the same holds, whatever the command.
-/
def Obligations.StepKeepsTheDram : Prop :=
  ∀ s t : State, s.tidy → step s = .next t → t.tidy

/-- R307. The state after reset satisfies the invariant that StepKeepsTheDram states. -/
def Obligations.ResetDram : Prop := State.reset.tidy

/-- R1, R19. In an EXN2560-S no command of any kind, and no idle step, changes Die B or its DRAM, the package's kind
stays, and a register access or a commit of Die B is the fault noSuchDie. -/
def Obligations.SingleDie : Prop :=
  (∀ s t : State, s.dual = false → step s = .next t → t.dieB = s.dieB ∧ t.memB = s.memB ∧ t.dual = false) ∧
  (∀ (s : State) (u : Writer) (q : Reader) (addr val size : Nat), s.dual = false →
    exec (.registerWrite .b u addr val size) s = .fault .noSuchDie ∧ exec (.readLo .b q addr) s = .fault .noSuchDie ∧
    exec (.readHi .b q addr) s = .fault .noSuchDie ∧ exec (.commitApply .b 0x20) s = .fault .noSuchDie)

/-- R5, R32, R355. A write or a read that is no aligned full word (and no aligned 64-bit access of the MSI-X area) is
ignored, a read returns 0, and the block of the page raises ACC_ERR. An access of any size to a reserved BAR0 range or
to a page that the map does not list is ignored, a read returns 0, and event 116 is raised. Nothing else changes. -/
def Obligations.AccessesRefused : Prop :=
  ∀ (s : State) (d : DieId) (u : Writer) (q : Reader) (addr val size : Nat) (x : Die), s.running d → s.die d = x →
    ((size ≠ 4 ∨ addr % 4 ≠ 0) → ¬ (size = 8 ∧ addr % 8 = 0 ∧ msixArea addr = true) →
      Effect (.registerWrite d u addr val size) d s (fun y =>
        y.pends (accErrOf (accessPage addr)) ∧ x.only [] [accErrOf (accessPage addr)] y)) ∧
    ((q.size ≠ 4 ∨ addr % 4 ≠ 0) → ¬ (q.size = 8 ∧ addr % 8 = 0 ∧ msixArea addr = true) →
      Effect (.readLo d q addr) d s (fun y => y.out = [.readData q.req 0] ∧
        y.pends (accErrOf (accessPage addr)) ∧ x.only [] [accErrOf (accessPage addr)] y) ∧
      Effect (.readHi d q addr) d s (fun y => y.out = [.readData q.req 0] ∧
        y.pends (accErrOf (accessPage addr)) ∧ x.only [] [accErrOf (accessPage addr)] y)) ∧
    (inBar0 addr = false →
      Effect (.registerWrite d u addr val size) d s (fun y => y.pends 116 ∧ x.only [] [116] y) ∧
      Effect (.readLo d q addr) d s (fun y => y.out = [.readData q.req 0] ∧ y.pends 116 ∧ x.only [] [116] y) ∧
      Effect (.readHi d q addr) d s (fun y => y.out = [.readData q.req 0] ∧ y.pends 116 ∧ x.only [] [116] y))

/-- R7, R8. A write to a register in which no field is writable, or one that places in a writable field an encoding
outside the range its register table gives, leaves the register and everything else as it was and raises the ACC_ERR
of its block. The registers whose write acts by its own rule (COMMIT, BRST, the event registers, the MSI-X table, the
registers that act on the other die) are not covered here. -/
def Obligations.RegisterWriteRejected : Prop :=
  ∀ (s : State) (d : DieId) (u : Writer) (p off val : Nat) (fl : List Fld) (x : Die), s.running d → s.die d = x →
    listedPage p = true → off < 0x1000 → off % 4 = 0 → off ∉ [0x14, 0x18, 0x1C, 0x20, 0x2C] →
    ¬ (p = 0x14 ∧ 0x800 ≤ off ∧ off < 0x880) → ¬ peerActs (p * 0x1000 + off) = true →
    fieldsAt p off = some fl →
    ((∀ f ∈ fl, f.writable = false) ∨ ∃ f ∈ fl, f.writable = true ∧ f.inRange (f.ofWord (val % 2 ^ 32)) = false) →
    Effect (.registerWrite d u (p * 0x1000 + off) val 4) d s (fun y => y.pends (accErrOf p) ∧ x.only [] [accErrOf p] y)

/-- R34, R35. A write of ones to EVT_PEND clears those events of the page and of no other, also where an event's
condition still holds; one in the PERI cycle of the command before it leaves set the events that this command has
fired, also those that were pending already. A write of ones to EVT_SET makes those events pending without a place in
the MP's event queue. Neither changes a register, the queue or anything else but messages and MSI-X pending bits. -/
def Obligations.EventRegisters : Prop :=
  ∀ (s : State) (d : DieId) (p val : Nat) (u : PendMask) (x : Die), s.running d → s.die d = x →
    listedPage p = true →
    Effect (.evtPendClear d p u) d s (fun y =>
      y.evPend = x.evPend &&& ~~~ (eventSpread p u.bits &&& ~~~ (if u.tie then x.hits.fired else 0)) ∧ y.evRaw = x.evRaw ∧ y.evq = x.evq ∧ y.live = x.live ∧
      y.hidden = x.hidden) ∧
    Effect (.evtSet d p val) d s (fun y =>
      y.evPend = x.evPend ||| eventSpread p val ∧ y.evRaw = x.evRaw ∧ y.evq = x.evq ∧ y.live = x.live ∧
      y.hidden = x.hidden)

/-- R38. On a page with no links, a write of ARM arms a commit for the boundary written; while one is pending a second
ARM is ignored with ACC_ERR and leaves it as it was; a write of CANCEL withdraws the pending one and takes the
boundary, and one of CANCEL with ARM arms anew for the boundary written. Nothing else changes. -/
def Obligations.CommitRegister : Prop :=
  ∀ (s : State) (d : DieId) (p b : Nat) (x : Die), s.running d → s.die d = x → listedPage p = true →
    boundaryOk p b = true → b < 4 → p ∉ [0x20, 0x23, 0x33, 0x3B] →
    (x.commitPending p = false →
      Effect (.commitArm d p b) d s (fun y => y.commitPending p = true ∧ y.get (F.COMMIT_BOUNDARY p) = b ∧
        ({ x with arms := x.arms.put p s.now }).only [F.COMMIT_BOUNDARY p, F.COMMIT_STAT_PENDING p] [] y) ∧
      Effect (.commitCancel d p b false) d s (fun y => y.commitPending p = false ∧ y.get (F.COMMIT_BOUNDARY p) = b ∧
        x.only [F.COMMIT_BOUNDARY p] [] y)) ∧
    (x.commitPending p = true →
      Effect (.commitArm d p b) d s (fun y => y.pends (accErrOf p) ∧ x.only [] [accErrOf p] y) ∧
      Effect (.commitCancel d p b false) d s (fun y => y.commitPending p = false ∧ y.get (F.COMMIT_BOUNDARY p) = b ∧
        x.only [F.COMMIT_BOUNDARY p, F.COMMIT_STAT_PENDING p] [] y) ∧
      Effect (.commitCancel d p b true) d s (fun y => y.commitPending p = true ∧ y.get (F.COMMIT_BOUNDARY p) = b ∧
        ({ x with arms := x.arms.put p s.now }).only [F.COMMIT_BOUNDARY p, F.COMMIT_STAT_PENDING p] [] y))

/-- R4, R37, R38. A write whose encodings are all in range: a register of RW fields takes them at once; a register of
RWS fields holds them, with the values in force unchanged, unless a commit of its page is pending, when it keeps what
it held and ACC_ERR rises. Nothing else changes. It is stated for fifteen registers of the one kind and nine of the
other, of all groups of blocks. -/
def Obligations.RegisterWriteTakes : Prop :=
  ∀ (s : State) (d : DieId) (u : Writer) (p off val : Nat) (fl : List Fld) (x : Die), s.running d → s.die d = x →
    fieldsAt p off = some fl → (∀ f ∈ fl, f.inRange (f.ofWord (val % 2 ^ 32)) = true) →
    ((p, off) ∈ plainRegs → Effect (.registerWrite d u (p * 0x1000 + off) val 4) d s (fun y =>
      (∀ f ∈ fl, y.get f = f.ofWord (val % 2 ^ 32)) ∧ x.only fl [] y)) ∧
    ((p, off) ∈ stagedRegs → x.commitPending p = false →
      Effect (.registerWrite d u (p * 0x1000 + off) val 4) d s (fun y =>
        (∀ f ∈ fl, y.written f = f.ofWord (val % 2 ^ 32) ∧ y.get f = x.get f) ∧ ({ x with stage := y.stage }).only [] [] y)) ∧
    ((p, off) ∈ stagedRegs → x.commitPending p = true →
      Effect (.registerWrite d u (p * 0x1000 + off) val 4) d s (fun y =>
        (∀ f ∈ fl, y.written f = x.written f) ∧ y.pends (accErrOf p) = true ∧ x.only [] [accErrOf p] y))

/-- R10, R11, R398. A read of the low register of a pair answers its word as the read finds it and holds the high word
for that requester; the same requester's read of the high register answers the word held and holds it no longer; with
none held it answers the live word and sets TEAR in the page's STAT. A read in the PERI cycle of the command before it
answers, and holds, the whole value from before that command. Nothing else changes but what a read brings up to date.
-/
def Obligations.ReadPairs : Prop :=
  ∀ (s : State) (d : DieId) (q : Reader) (p off : Nat) (x v : Die) (e : Env), s.running d → s.die d = x → q.size = 4 →
    off + 4 < 0x1000 → pairAt (p * 0x1000 + off) = true →
    (if q.tie then s.was d else x) = v → (if q.tie then { s.env d with peer := s.was d.other } else s.env d) = e →
    Effect (.readLo d q (p * 0x1000 + off)) d s (fun y =>
      .readData q.req ((v.refresh e p off).pageWord p off) ∈ y.out ∧
      ({ req := q.req, lo := p * 0x1000 + off, word := (v.refresh e p off).pageWord p (off + 4) } : Held) ∈ y.held ∧
      ({ x.refresh (s.env d) p off with held := y.held }).only [] [] y) ∧
    (∀ h, v.held.find? (fun h => h.req = q.req && h.lo = p * 0x1000 + off) = some h →
      Effect (.readHi d q (p * 0x1000 + off + 4)) d s (fun y =>
        .readData q.req h.word ∈ y.out ∧ h ∉ y.held ∧
        ({ x.refresh (s.env d) p (off + 4) with held := y.held }).only [] [] y)) ∧
    (v.held.find? (fun h => h.req = q.req && h.lo = p * 0x1000 + off) = none →
      Effect (.readHi d q (p * 0x1000 + off + 4)) d s (fun y =>
        .readData q.req ((v.refresh e p (off + 4)).pageWord p (off + 4)) ∈ y.out ∧
        (x.held.find? (fun h => h.req = q.req && h.lo = p * 0x1000 + off) = none → y.on (F.STAT_TEAR p) = true) ∧
        ({ x.refresh (s.env d) p (off + 4) with held := y.held }).only [F.STAT_TEAR p] [] y))

/-- R37, R90, R218, R282. An armed commit applies all the page's staged values together: at its idle boundary once the
block is idle, or at the immediate one. Then it is no longer pending, none of the page's values is staged, the staged
ones are in force and the page's other values are as they were. That of the ACB common page waits for a core that
warms up, and ACB_STATE then shows the LPM in force; those of the IPP and STA pages arm no field of a context and only
cease to be pending; that of the LED page has its own command and is left as it was. -/
def Obligations.CommitApplies : Prop :=
  ∀ (s : State) (d : DieId) (p : Nat) (x : Die), s.running d → s.die d = x → x.commitPending p = true →
    ((x.get (F.COMMIT_BOUNDARY p) = 2 ∧ x.idle p = true) ∨ x.get (F.COMMIT_BOUNDARY p) = 3) →
    (p ∉ [0x22, 0x32, 0x3B, 0x44, 0x45] → (p = 0x23 → x.warmedUp s.now = true) →
      Effect (.commitApply d p) d s (fun y => y.commitPending p = false ∧
        (p = 0x23 → y.get F.ACB_STATE_LPM = y.get F.ACB_MODE_LPM) ∧
        (∀ f : Fld, f.page = p → f.off < 0x1000 → f.lo < 32 → f.key ≠ (F.COMMIT_STAT_FRAME p).key →
          f.key ∉ [(F.COMMIT_STAT_PENDING p).key, F.ACB_STATE_LPM.key, F.ACB_STATE_GAIN.key, F.ACB_STATE_WARMUP.key] →
          y.stage.look f = none ∧
          (∀ v, x.stage.look f = some v → y.live.look f = some v) ∧
          (x.stage.look f = none → y.live.look f = x.live.look f)))) ∧
    (p ∈ [0x22, 0x32, 0x44, 0x45] → Effect (.commitApply d p) d s (fun y => y.commitPending p = false)) ∧
    (p = 0x3B → Effect (.commitApply d p) d s (fun y => x.only [] [] y))

/-- R20, R34, R36, R217, R409, Table 15.2, Table 1.2. BLOCK_RESET_REQ makes ACTIVE read 1 and changes nothing else. A
reset that has been asked for takes effect once its block is idle (of the transmit port: once no frame is being sent;
of some blocks at once), or when BRST_TMO has run out; ACTIVE then reads 0, and of a reset forced by BRST_TMO no fault
of the block stays but a lasting one. Of the transmit port, whose reset does no more, the events and the class C
fields are lost, other pages' events stay, and class A and class W fields stay. -/
def Obligations.BlockResets : Prop :=
  ∀ (s : State) (d : DieId) (p : Nat) (x : Die), s.running d → s.die d = x → listedPage p = true →
    Effect (.blockResetReq d p) d s (fun y => y.on (F.BRST_ACTIVE p) = true ∧ x.only [F.BRST_ACTIVE p] [] y) ∧
    (x.on (F.BRST_ACTIVE p) = true →
      ((resetAtOnce p = true ∨ (p ≠ 0x47 ∧ x.idle p = true) ∨ (p = 0x47 ∧ x.ipp.vtx = none)) →
        Answers (.blockReset d p) s (fun t => (t.die d).on (F.BRST_ACTIVE p) = false)) ∧
      Answers (.brstTimeout d p) s (fun t =>
        (t.die d).on (F.BRST_ACTIVE p) = false ∧ ((t.die d).resource? 9 p).all (fun r => r.lasting) = true)) ∧
    (x.on (F.BRST_ACTIVE p) = true → p = 0x47 → x.ipp.vtx = none → x.jobRuns 0 = false →
      Answers (.blockReset d p) s (fun t =>
        (∀ e, 536 ≤ e → e < 544 → (t.die d).pends e = false ∧ (t.die d).condOn e = false) ∧
        (∀ e, e < 536 ∨ 544 ≤ e → (t.die d).pends e = x.pends e ∧ (t.die d).condOn e = x.condOn e) ∧
        (∀ f : Fld, f.page = p → f.keep = .c → f.off < 0x1000 → f.lo < 32 → f.key ≠ (F.BRST_ACTIVE p).key →
          (t.die d).live.look f = none) ∧
        (∀ f : Fld, f.keep = .a ∨ f.keep = .w → (t.die d).live.look f = x.live.look f)))

/-- R41, R437, Table 12.6, Table 5.10, Table 7.8, Table 11.4. A mailbox command written while BUSY is 1 is ignored,
with COLL its only report. Otherwise it is posted, with BUSY 1, and waits while the core that serves its mailbox does
not run, or the MP has work of higher priority before it; while a reset of the mailbox page is asked for it is refused
with ACC_ERR (log entry 92, a choice of the model). A result that is ready is answered with DATA, TAG and STATUS, BUSY
0 and event 628 plus the mailbox, and nothing else changes. A command that its running core has not completed within 1
s ends with status TIMEOUT. -/
def Obligations.Mailboxes : Prop :=
  (∀ (s : State) (d : DieId) (tag arg : Nat) (good : Bool) (c : Instr) (n op : Nat) (x : Die), s.running d → s.die d = x →
    (c, n, op) ∈ mailboxCommands d tag arg good →
    (x.on (F.MBX_RSP_BUSY n) = true →
      Effect c d s (fun y => y.on (F.MBX_RSP_COLL n) = true ∧ x.only [F.MBX_RSP_COLL n] [] y)) ∧
    (x.on (F.MBX_RSP_BUSY n) = false → x.takes 0x08 = true → x.mbxFree n = false →
      Effect c d s (fun y => y.on (F.MBX_RSP_BUSY n) = true ∧ y.get (F.MBX_CMD_OPCODE n) = op ∧
        y.get (F.MBX_CMD_TAG n) = tag % 256 ∧ y.get (F.MBX_ARG_ARG n) = arg % 2 ^ 32 ∧ (y.mailbox n).waiting = true ∧
        ({ x with mbx := y.mbx }).only [F.MBX_CMD_OPCODE n, F.MBX_CMD_TAG n, F.MBX_ARG_ARG n, F.MBX_RSP_BUSY n] [] y)) ∧
    (x.on (F.MBX_RSP_BUSY n) = false → x.takes 0x08 = false →
      Effect c d s (fun y => y.pends (accErrOf 0x08) = true ∧ x.only [] [accErrOf 0x08] y))) ∧
  (∀ (s : State) (d : DieId) (n : Fin 8) (st data : Nat) (x : Die), s.running d → s.die d = x →
    x.on (F.MBX_RSP_BUSY n.val) = true →
    ((x.mailbox n.val).waiting = false → (x.mailbox n.val).result = some (st, data) →
      Effect (.mbxCompletion d n) d s (fun y => y.on (F.MBX_RSP_BUSY n.val) = false ∧
        y.get (F.MBX_DATA_DATA n.val) = data % 2 ^ 32 ∧ y.get (F.MBX_RSP_TAG n.val) = x.get (F.MBX_CMD_TAG n.val) % 256 ∧
        y.get (F.MBX_RSP_STATUS n.val) = st % 65536 ∧ y.pends (628 + n.val) = true ∧
        ({ x with mbx := y.mbx }).only [F.MBX_DATA_DATA n.val, F.MBX_RSP_TAG n.val, F.MBX_RSP_STATUS n.val,
          F.MBX_RSP_BUSY n.val] [628 + n.val] y)) ∧
    (x.jobRuns (mbxJob n.val) = true →
      Effect (.mbxTimeout d n) d s (fun y => y.on (F.MBX_RSP_BUSY n.val) = false ∧ y.get (F.MBX_RSP_STATUS n.val) = 6 ∧
        y.get (F.MBX_RSP_TAG n.val) = x.get (F.MBX_CMD_TAG n.val) % 256 ∧ y.pends (628 + n.val) = true)))

/-- R394. A word that the slave completes while the receive FIFO holds 16 entries is discarded, RX_OVF, event 101, is
raised and the entries held are kept; so is a short word at the rise of SS_N. RX_AVAIL, event 98, is the condition
that the FIFO holds at least RX_WMARK entries: so it is after a word has entered or left and after a write of
SPI_FIFO. -/
def Obligations.ReceiveFifo : Prop :=
  ∀ (s : State) (d : DieId) (w : Nat) (edges : Nat) (val : Nat) (n : Nat) (short : Bool) (q : Requester) (u : Writer)
    (rest : List (Nat × Bool × Nat)) (x : Die), s.running d → s.die d = x →
    (x.slaveOn = true → x.on F.SPI_CFG_PROTO = false → 16 ≤ x.spi.rx.length → Effect (.slaveWord d w) d s (fun y =>
      y.spi.rx = x.spi.rx ∧ y.pends 101 = true ∧ ({ x with spi := y.spi }).onlyPages [0x11] [98, 100, 101] y)) ∧
    (x.spi.sel = true → x.boot.banks.getLsbD 0 = false → x.on F.SPI_CFG_PROTO = false → 0 < edges → edges < x.wordBits
      → 16 ≤ x.spi.rx.length → Effect (.ssNRise d edges val) d s (fun y => y.spi.rx = x.spi.rx ∧ y.pends 101 = true))
      ∧
    (x.slaveOn = true → x.on F.SPI_CFG_PROTO = false → x.spi.rx.length < 16 → Effect (.slaveWord d w) d s (fun y =>
      y.spi.rx = x.spi.rx ++ [(w % 2 ^ x.wordBits, false, x.wordBits)] ∧ y.condOn 98 = decide (x.get
      F.SPI_FIFO_RX_WMARK ≤ x.spi.rx.length + 1) ∧ ({ x with spi := y.spi }).onlyPages [0x11] [98, 100] y)) ∧
    (x.spi.rx = (w, short, n) :: rest → Effect (.spiRxRead d q) d s (fun y => y.spi.rx = rest ∧ y.condOn 98 = decide
      (x.get F.SPI_FIFO_RX_WMARK ≤ rest.length))) ∧
    (1 ≤ val % 32 → val % 32 ≤ 16 → Effect (.registerWrite d u 0x1104C val 4) d s (fun y => y.get F.SPI_FIFO_RX_WMARK
      = val % 32 ∧ y.condOn 98 = decide (val % 32 ≤ x.spi.rx.length) ∧ y.spi = x.spi))

/-- R103. A write of 1 to ACB_GANG.ARM arms, for the next frame boundary, every CLU page of a cluster in use whose
commit is not pending; a CLU page with a commit pending is left as it is, and so is one of a cluster not in use. -/
def Obligations.GangArm : Prop :=
  ∀ (s : State) (d : DieId) (u : Writer) (val : Nat) (k : Nat) (x : Die), s.running d → s.die d = x →
    (val % 2 = 1 → x.cluInUse k = true → k < 32 → x.commitPending (0x80 + k) = false → Effect (.registerWrite d u
      0x23060 val 4) d s (fun y => y.commitPending (0x80 + k) = true ∧ y.get (F.COMMIT_BOUNDARY (0x80 + k)) = 0)) ∧
    (val % 2 = 1 → (x.commitPending (0x80 + k) = true ∨ x.cluInUse k = false) → Effect (.registerWrite d u 0x23060 val
      4) d s (fun y => y.commitPending (0x80 + k) = x.commitPending (0x80 + k) ∧ y.get (F.COMMIT_BOUNDARY (0x80 + k))
      = x.get (F.COMMIT_BOUNDARY (0x80 + k)))) ∧
    (val % 2 = 1 → (x.commitPending (0x80 + k) = true ∨ x.cluInUse k = false) → Effect (.registerWrite d u 0x23060 val
      4) d s (fun y => y.commitPending (0x80 + k) = x.commitPending (0x80 + k) ∧ y.get (F.COMMIT_BOUNDARY (0x80 + k))
      = x.get (F.COMMIT_BOUNDARY (0x80 + k))))

/-- R68. A write to SEQ_WIN in which ROW0 plus ROWS_M1 exceeds SEQ_ARRAY.ROWS_M1 is rejected as R8 describes: the
register and everything else keep their values and ACC_ERR is raised. Otherwise, with no commit pending, both fields
are staged. -/
def Obligations.WindowWithinArray : Prop :=
  ∀ (s : State) (d : DieId) (u : Writer) (val : Nat) (x : Die), s.running d → s.die d = x →
    (x.get F.SEQ_ARRAY_ROWS_M1 < F.SEQ_WIN_ROW0.ofWord (val % 2 ^ 32) + F.SEQ_WIN_ROWS_M1.ofWord (val % 2 ^ 32) →
      Effect (.registerWrite d u 0x20054 val 4) d s (fun y => y.pends (accErrOf 0x20) = true ∧ x.only [] [accErrOf
      0x20] y)) ∧
    (F.SEQ_WIN_ROW0.ofWord (val % 2 ^ 32) + F.SEQ_WIN_ROWS_M1.ofWord (val % 2 ^ 32) ≤ x.get F.SEQ_ARRAY_ROWS_M1 →
      x.commitPending 0x20 = false → Effect (.registerWrite d u 0x20054 val 4) d s (fun y => y.written F.SEQ_WIN_ROW0
      = F.SEQ_WIN_ROW0.ofWord (val % 2 ^ 32) ∧ y.written F.SEQ_WIN_ROWS_M1 = F.SEQ_WIN_ROWS_M1.ofWord (val % 2 ^ 32) ∧
      ({ x with stage := y.stage }).only [] [] y))

/-- R47, R48, R52, R438, R50, R54, R55, R72. AFE_OUTPUT_ENABLE of an output whose lower outputs are all enabled and
GOOD and that has no trip cause enables it and clears its TRIPPED, and VDET and VBLIND begin to ramp; otherwise it is
rejected with ACC_ERR. AFE_OUTPUT_DISABLE disables the output and every output of higher order. RAMP_DONE ends a ramp:
GOOD after a ramp up, not driven after a ramp down, with event 147. OUTPUT_GOOD makes an enabled, driving output that
does not ramp and is not within the 100 µs after a frame-boundary step GOOD, and does nothing to another. OFF_DONE
ends the off sequence with event 150. CURRENT_SAMPLE shows the four currents, saturated to their fields; with every
driven output within its limit nothing trips, and a driven output, enabled or still ramping down, over its limit for
FILT measurements in a row sets its CAUSE and TRIPPED (log entry 95), raises TRIP and takes all five outputs off; no
driven output means no measurement. TRIP_CAUSE_CLEAR clears the CAUSE bits written 1 but those set in the cycle of the
write (log entry 90), and TRIP holds while a cause is left. FPD_READING of a valid code enters the diode's mean and
clears FAIL; any other reading sets FAIL and the diode's FPD_FAIL. -/
def Obligations.AfeOutputsAndMeasurement : Prop :=
  ∀ (s : State) (d : DieId) (o : AfeOut) (m : AfeSample) (val : PendMask) (n : Fin 2) (code : Int) (x : Die),
    s.running d → s.die d = x →
    ((∀ p ∈ afeOuts, afeOrder p < afeOrder o → x.outEn p = true ∧ x.outGood p = true) → x.bitOf F.AFE_TRIP_CAUSE o.idx
      = false → x.outEn o = false → Effect (.afeOutputEnable d o) d s (fun y => y.outEn o = true ∧ y.bitOf
      F.AFE_OUT_STAT_TRIPPED o.idx = false ∧ y.afe.driven.getLsbD o.idx = true ∧ (afeRamps o = true → y.bitOf
      F.AFE_OUT_STAT_RAMPING o.idx = true ∧ y.outGood o = false) ∧ ({ x with afe := y.afe }).only [F.afeEn o,
      F.AFE_OUT_STAT_TRIPPED, F.AFE_OUT_STAT_RAMPING, F.AFE_OUT_STAT_GOOD] [] y)) ∧
    (((∃ p ∈ afeOuts, afeOrder p < afeOrder o ∧ (x.outEn p = false ∨ x.outGood p = false)) ∨ x.bitOf F.AFE_TRIP_CAUSE
      o.idx = true) → Effect (.afeOutputEnable d o) d s (fun y => y.pends (accErrOf 0x21) = true ∧ x.only [] [accErrOf
      0x21] y)) ∧
    (x.outEn o = true → Effect (.afeOutputDisable d o) d s (fun y => (∀ p ∈ afeOuts, p = o ∨ afeOrder o < afeOrder p →
      y.outEn p = false) ∧ (∀ p ∈ afeOuts, p ≠ o → ¬ afeOrder o < afeOrder p → y.outEn p = x.outEn p) ∧ (afeRamps o =
      true → y.bitOf F.AFE_OUT_STAT_RAMPING o.idx = true ∧ y.outGood o = false) ∧ ({ x with afe := y.afe }).only
      [F.afeEn .vsd, F.afeEn .vsa, F.afeEn .vrefc, F.afeEn .vblind, F.afeEn .vdet, F.AFE_OUT_STAT_RAMPING,
      F.AFE_OUT_STAT_GOOD] [146] y)) ∧
    (x.bitOf F.AFE_OUT_STAT_RAMPING o.idx = true → x.outEn o = true → x.afe.falling.getLsbD o.idx = false → Effect
      (.rampDone d o) d s (fun y => y.bitOf F.AFE_OUT_STAT_RAMPING o.idx = false ∧ y.outGood o = true ∧ y.pends 147 =
      true ∧ x.only [F.AFE_OUT_STAT_RAMPING, F.AFE_OUT_STAT_GOOD] [146, 147] y)) ∧
    (x.bitOf F.AFE_OUT_STAT_RAMPING o.idx = true → x.outEn o = false → Effect (.rampDone d o) d s (fun y => y.bitOf
      F.AFE_OUT_STAT_RAMPING o.idx = false ∧ y.outGood o = false ∧ y.afe.driven.getLsbD o.idx = false ∧ y.pends 147 =
      true ∧ ({ x with afe := y.afe }).only [F.AFE_OUT_STAT_RAMPING, F.AFE_OUT_STAT_GOOD] [146, 147] y)) ∧
    (x.outEn o = true → x.afe.driven.getLsbD o.idx = true → x.bitOf F.AFE_OUT_STAT_RAMPING o.idx = false →
      x.outStepping o s.now = false → Effect (.outputGood d o) d s (fun y => y.outGood o = true ∧
      y.afe.outside.getLsbD o.idx = false ∧ ({ x with afe := y.afe }).only [F.AFE_OUT_STAT_GOOD] [146] y)) ∧
    ((x.outEn o = false ∨ x.bitOf F.AFE_OUT_STAT_RAMPING o.idx = true ∨ x.outStepping o s.now = true) → Effect
      (.outputGood d o) d s (fun y => x.only [] [] y)) ∧
    (x.afe.offSeq = true → Effect (.offDone d) d s (fun y => y.pends 150 = true ∧ y.afe =
      { x.afe with offSeq := false } ∧ ({ x with afe := y.afe }).only [] [150] y)) ∧
    (x.afe.driven ≠ 0 → 0 < x.get F.AFE_TRIP_FILT → (∀ p ∈ afeOuts, x.afe.driven.getLsbD p.idx = true → ∀ l ∈
      x.afeLimit p, afeCurrent m p ≤ l) → Effect (.currentSample d m) d s (fun y => y.get F.AFE_IMON0_VDET = min 4095
      m.vdet ∧ y.get F.AFE_IMON0_VBLIND = min 4095 m.vblind ∧ y.get F.AFE_IMON1_VSA = min 4095 m.vsa ∧ y.get
      F.AFE_IMON1_VSD = min 4095 m.vsd ∧ ({ x with afe := y.afe }).only [F.AFE_IMON0_VDET, F.AFE_IMON0_VBLIND,
      F.AFE_IMON1_VSA, F.AFE_IMON1_VSD, F.AFE_OUT_STAT_GOOD] [146] y)) ∧
    (x.afe.driven.getLsbD AfeOut.vdet.idx = true → (x.rakeRuns = false ∨ x.rake.begun ≠ 0) → 20 * x.get
      F.AFE_ILIM_VDET < m.vdet → x.get F.AFE_TRIP_FILT ≤ x.afe.overs.getD AfeOut.vdet.idx 0 + 1 → Effect
      (.currentSample d m) d s (fun y => y.bitOf F.AFE_TRIP_CAUSE AfeOut.vdet.idx = true ∧ y.bitOf
      F.AFE_OUT_STAT_TRIPPED AfeOut.vdet.idx = true ∧ y.condOn 145 = true ∧ (∀ p ∈ afeOuts, y.outEn p = false) ∧
      y.rakeRuns = false)) ∧
    (x.afe.driven = 0 → Effect (.currentSample d m) d s (fun y => x.only [] [] y)) ∧
    (Effect (.tripCauseClear d val) d s (fun y => (∀ o ∈ afeOuts, y.bitOf F.AFE_TRIP_CAUSE o.idx = (x.bitOf
      F.AFE_TRIP_CAUSE o.idx && !(val.bits.testBit o.idx && !(val.tie && (justSet (some x.hits)
      F.AFE_TRIP_CAUSE).testBit o.idx)))) ∧ (∀ o ∈ afeOuts, val.bits.testBit o.idx = true → (val.tie && (justSet (some
      x.hits) F.AFE_TRIP_CAUSE).testBit o.idx) = false → y.bitOf F.AFE_OUT_STAT_TRIPPED o.idx = false) ∧ y.condOn 145
      = (y.get F.AFE_TRIP_CAUSE != 0) ∧ x.only [F.AFE_TRIP_CAUSE, F.AFE_OUT_STAT_TRIPPED] [145] y)) ∧
    (x.on (F.CTRL_EN 0x21) = true → -200000 ≤ code ∧ code ≤ 600000 → Effect (.fpdReading d n (some code)) d s (fun y
      => y.on (F.AFE_FPD_FAIL n.val) = false ∧ y.condOn (148 + n.val) = false ∧ y.afe.fpdSum.getD n.val 0 =
      x.afe.fpdSum.getD n.val 0 + code ∧ y.afe.fpdCnt.getD n.val 0 = x.afe.fpdCnt.getD n.val 0 + 1 ∧
      ({ x with afe := y.afe }).only [F.AFE_FPD_FAIL n.val] [148 + n.val] y)) ∧
    (x.on (F.CTRL_EN 0x21) = true → Effect (.fpdReading d n none) d s (fun y => y.on (F.AFE_FPD_FAIL n.val) = true ∧
      y.condOn (148 + n.val) = true ∧ x.only [F.AFE_FPD_FAIL n.val] [148 + n.val] y)) ∧
    (x.on (F.CTRL_EN 0x21) = true → (code < -200000 ∨ 600000 < code) → Effect (.fpdReading d n (some code)) d s (fun y
      => y.on (F.AFE_FPD_FAIL n.val) = true ∧ y.condOn (148 + n.val) = true ∧ x.only [F.AFE_FPD_FAIL n.val] [148 +
      n.val] y))

/-- R58, R65, R74, Table 2.7. At the end of a word SEQOP_NEXT goes to the next address, SEQOP_JUMP to TARGET,
SEQOP_LOOP0 and SEQOP_LOOP1 decrement their counter unless it is 0 and go to TARGET while it is not 0; the word gone
to begins with its pin levels. SEQOP_WAIT_FRAME waits for a tick, goes on after a tick that came early in it, and
after a pending one with LATE_TICK counted. SEQOP_STOP stops the Rake: EN cleared, STOPPED. -/
def Obligations.RakeFlow : Prop :=
  ∀ (s : State) (d : DieId) (ecc : Ecc) (x : Die), s.running d → s.die d = x →
    (x.rakeRuns = true → x.rake.held = false → x.rake.begun = 6 → x.rakeNow.seqop = 0 → (rakeWord ((x.rake.store.look
      ((x.get F.SEQ_PC_PC + 1) % 256)).getD 0)).reserved = false → Effect (.seqopNext d .clean) d s (fun y => y.get
      F.SEQ_PC_PC = (x.get F.SEQ_PC_PC + 1) % 256 ∧ y.rake.begun = 0 ∧ y.rake.rowen = y.rakeNow.rowen ∧ y.rake.biasen
      = y.rakeNow.biasen ∧ y.rake.blindsel = y.rakeNow.blindsel ∧ ({ x with rake := y.rake }).only [F.SEQ_PC_PC,
      F.SEQ_PC_STATE] [] y)) ∧
    (x.rakeRuns = true → x.rake.held = false → x.rake.begun = 6 → x.rakeNow.seqop = 1 → (rakeWord ((x.rake.store.look
      (x.rakeNow.target % 256)).getD 0)).reserved = false → Effect (.seqopJump d .clean) d s (fun y => y.get
      F.SEQ_PC_PC = x.rakeNow.target % 256 ∧ y.rake.begun = 0 ∧ y.rake.rowen = y.rakeNow.rowen ∧ y.rake.biasen =
      y.rakeNow.biasen ∧ y.rake.blindsel = y.rakeNow.blindsel ∧ ({ x with rake := y.rake }).only [F.SEQ_PC_PC,
      F.SEQ_PC_STATE] [] y)) ∧
    (x.rakeRuns = true → x.rake.held = false → x.rake.begun = 6 → x.rakeNow.seqop = 2 → 1 < x.get F.SEQ_CNT_C0 →
      (rakeWord ((x.rake.store.look (x.rakeNow.target % 256)).getD 0)).reserved = false → Effect (.seqopLoop0 d
      .clean) d s (fun y => y.get F.SEQ_CNT_C0 = (x.get F.SEQ_CNT_C0 - 1) % 2 ^ (F.SEQ_CNT_C0).width ∧ y.get
      F.SEQ_PC_PC = x.rakeNow.target % 256 ∧ y.rake.begun = 0 ∧ ({ x with rake := y.rake }).only [F.SEQ_CNT_C0,
      F.SEQ_PC_PC, F.SEQ_PC_STATE] [] y)) ∧
    (x.rakeRuns = true → x.rake.held = false → x.rake.begun = 6 → x.rakeNow.seqop = 2 → x.get F.SEQ_CNT_C0 ≤ 1 →
      (rakeWord ((x.rake.store.look ((x.get F.SEQ_PC_PC + 1) % 256)).getD 0)).reserved = false → Effect (.seqopLoop0 d
      .clean) d s (fun y => y.get F.SEQ_CNT_C0 = 0 ∧ y.get F.SEQ_PC_PC = (x.get F.SEQ_PC_PC + 1) % 256 ∧ y.rake.begun
      = 0 ∧ ({ x with rake := y.rake }).only [F.SEQ_CNT_C0, F.SEQ_PC_PC, F.SEQ_PC_STATE] [] y)) ∧
    (x.rakeRuns = true → x.rake.held = false → x.rake.begun = 6 → x.rakeNow.seqop = 3 → 1 < x.get F.SEQ_CNT_C1 →
      (rakeWord ((x.rake.store.look (x.rakeNow.target % 256)).getD 0)).reserved = false → Effect (.seqopLoop1 d
      .clean) d s (fun y => y.get F.SEQ_CNT_C1 = (x.get F.SEQ_CNT_C1 - 1) % 2 ^ (F.SEQ_CNT_C1).width ∧ y.get
      F.SEQ_PC_PC = x.rakeNow.target % 256 ∧ y.rake.begun = 0 ∧ ({ x with rake := y.rake }).only [F.SEQ_CNT_C1,
      F.SEQ_PC_PC, F.SEQ_PC_STATE] [] y)) ∧
    (x.rakeRuns = true → x.rake.held = false → x.rake.begun = 6 → x.rakeNow.seqop = 3 → x.get F.SEQ_CNT_C1 ≤ 1 →
      (rakeWord ((x.rake.store.look ((x.get F.SEQ_PC_PC + 1) % 256)).getD 0)).reserved = false → Effect (.seqopLoop1 d
      .clean) d s (fun y => y.get F.SEQ_CNT_C1 = 0 ∧ y.get F.SEQ_PC_PC = (x.get F.SEQ_PC_PC + 1) % 256 ∧ y.rake.begun
      = 0 ∧ ({ x with rake := y.rake }).only [F.SEQ_CNT_C1, F.SEQ_PC_PC, F.SEQ_PC_STATE] [] y)) ∧
    (x.rakeRuns = true → x.rake.held = false → x.rake.begun = 6 → x.rakeNow.seqop = 4 → x.rake.early = false →
      x.rake.tick = false → Effect (.seqopWaitFrame d ecc) d s (fun y => y.get F.SEQ_PC_PC = x.get F.SEQ_PC_PC ∧
      y.rake.begun = 7 ∧ (x.get F.SEQ_PC_STATE = 1 → y.get F.SEQ_PC_STATE = 2) ∧ ({ x with rake := y.rake }).only
      [F.SEQ_PC_STATE] [] y)) ∧
    (x.rakeRuns = true → x.rake.held = false → x.rake.begun = 6 → x.rakeNow.seqop = 4 → x.rake.early = true →
      (rakeWord ((x.rake.store.look ((x.get F.SEQ_PC_PC + 1) % 256)).getD 0)).reserved = false → Effect
      (.seqopWaitFrame d .clean) d s (fun y => y.get F.SEQ_PC_PC = (x.get F.SEQ_PC_PC + 1) % 256 ∧ y.rake.begun = 0 ∧
      ({ x with rake := y.rake }).only [F.SEQ_PC_PC, F.SEQ_PC_STATE] [] y)) ∧
    (x.rakeRuns = true → x.rake.held = false → x.rake.begun = 6 → x.rakeNow.seqop = 4 → x.rake.early = false →
      x.rake.tick = true → (rakeWord ((x.rake.store.look ((x.get F.SEQ_PC_PC + 1) % 256)).getD 0)).reserved = false →
      Effect (.seqopWaitFrame d .clean) d s (fun y => y.get F.SEQ_PC_PC = (x.get F.SEQ_PC_PC + 1) % 256 ∧ y.rake.tick
      = false ∧ y.pends 134 = true ∧ y.get F.SEQ_TICK_ERR_LATE = min (x.get F.SEQ_TICK_ERR_LATE + 1) (2 ^
      F.SEQ_TICK_ERR_LATE.width - 1) ∧ ({ x with rake := y.rake }).only [F.SEQ_PC_PC, F.SEQ_PC_STATE,
      F.SEQ_TICK_ERR_LATE] [134] y)) ∧
    (x.rakeRuns = true → x.rake.held = false → x.rake.begun = 6 → x.rakeNow.seqop = 5 → x.rake.frameOpen = false →
      x.cal.event = none → Effect (.seqopStop d) d s (fun y => y.on F.SEQ_CTRL_EN = false ∧ y.get F.SEQ_PC_STATE = 0 ∧
      y.pends 140 = true ∧ y.rakeRuns = false ∧ ({ x with rake := y.rake }).only [F.SEQ_CTRL_EN, F.SEQ_PC_STATE] [140]
      y))

/-- R56, R58, R59, Table 2.6, Table 2.8. ROWOP_NEXT adds 1 to RA and ROWOP_FIRST sets it to ROW0, within the array.
LOAD_C0 loads C0 with ROWS_M1 + 1 and LOAD_C1 loads C1 with LOOP1's COUNT. SCAN_RUN begins the column scan at the next
CONV edge with phase 0, SCAN_CONTINUE lets it go on or takes it up there and SCAN_STOP ends it, while a slot under way
is finished; the slots of a word whose CONV edges fall after its marker go to the row that is open then. A user marker
fires its event, 131 to 133. A row address outside the array stops the Rake with cause 2 and FAULT. -/
def Obligations.RakeWordParts : Prop :=
  ∀ (s : State) (d : DieId) (k : Nat) (x : Die), s.running d → s.die d = x →
    (x.rakeRuns = true → x.rake.held = false → x.rake.begun = 1 → x.rakeNow.rowop = 1 → x.get F.SEQ_ROW_RA + 1 ≤ x.get
      F.SEQ_ARRAY_ROWS_M1 → x.get F.SEQ_ARRAY_ROWS_M1 < 2048 → Effect (.rowopNext d) d s (fun y => y.get F.SEQ_ROW_RA
      = x.get F.SEQ_ROW_RA + 1 ∧ y.rake = { x.rake with begun := 2 } ∧ ({ x with rake := y.rake }).only [F.SEQ_ROW_RA]
      [] y)) ∧
    (x.rakeRuns = true → x.rake.held = false → x.rake.begun = 1 → x.rakeNow.rowop = 1 → x.get F.SEQ_ARRAY_ROWS_M1 <
      x.get F.SEQ_ROW_RA + 1 → x.rake.frameOpen = false → x.cal.event = none → Effect (.rowopNext d) d s (fun y =>
      y.get F.SEQ_FAULT_CAUSE = 2 ∧ y.get F.SEQ_FAULT_ADDR = x.get F.SEQ_PC_PC % 2 ^ F.SEQ_FAULT_ADDR.width ∧ y.condOn
      139 = true ∧ y.pends 140 = true ∧ y.rakeRuns = false ∧ y.get F.SEQ_ROW_RA = x.get F.SEQ_ROW_RA ∧
      ({ x with rake := y.rake }).only [F.SEQ_CTRL_EN, F.SEQ_PC_STATE, F.SEQ_FAULT_CAUSE, F.SEQ_FAULT_ADDR] [139, 140]
      y)) ∧
    (x.rakeRuns = true → x.rake.held = false → x.rake.begun = 1 → x.rakeNow.rowop = 2 → x.get F.SEQ_WIN_ROW0 ≤ x.get
      F.SEQ_ARRAY_ROWS_M1 → x.get F.SEQ_ARRAY_ROWS_M1 < 2048 → Effect (.rowopFirst d) d s (fun y => y.get F.SEQ_ROW_RA
      = x.get F.SEQ_WIN_ROW0 ∧ y.rake = { x.rake with begun := 2 } ∧ ({ x with rake := y.rake }).only [F.SEQ_ROW_RA]
      [] y)) ∧
    (x.rakeRuns = true → x.rake.held = false → x.rake.begun = 2 → x.rakeNow.ldc0 = true → Effect (.loadC0 d) d s (fun
      y => y.get F.SEQ_CNT_C0 = (x.get F.SEQ_WIN_ROWS_M1 + 1) % 2 ^ F.SEQ_CNT_C0.width ∧ y.rake =
      { x.rake with begun := 3 } ∧ ({ x with rake := y.rake }).only [F.SEQ_CNT_C0] [] y)) ∧
    (x.rakeRuns = true → x.rake.held = false → x.rake.begun = 3 → x.rakeNow.ldc1 = true → Effect (.loadC1 d) d s (fun
      y => y.get F.SEQ_CNT_C1 = x.get F.SEQ_LOOP1_COUNT % 2 ^ F.SEQ_CNT_C1.width ∧ y.rake = { x.rake with begun := 4 }
      ∧ ({ x with rake := y.rake }).only [F.SEQ_CNT_C1] [] y)) ∧
    (x.rakeRuns = true → x.rake.held = false → x.rake.begun = 4 → x.rakeNow.scan = 1 → Effect (.scanRun d) d s (fun y
      => (y.rake =
      { x.rake with begun := 5, scanning := true, off := 0, next := (x.rake.cyc + 2) / 3 + 1, tail := if x.rake.scanning = true ∧ x.rake.cyc % 3 ≠ 0 ∧ x.rake.next ≤ (x.rake.cyc + 2) / 3 then some ((x.rake.cyc + 2) / 3, x.rake.off) else x.rake.tail })
      ∧ ({ x with rake := y.rake }).only [] [] y)) ∧
    (x.rakeRuns = true → x.rake.held = false → x.rake.begun = 4 → x.rakeNow.scan = 2 → x.rake.scanning = true → Effect
      (.scanContinue d) d s (fun y => y.rake = { x.rake with begun := 5 } ∧ ({ x with rake := y.rake }).only [] [] y))
      ∧
    (x.rakeRuns = true → x.rake.held = false → x.rake.begun = 4 → x.rakeNow.scan = 2 → x.rake.scanning = false →
      Effect (.scanContinue d) d s (fun y => y.rake =
      { x.rake with begun := 5, scanning := true, next := (x.rake.cyc + 2) / 3 + 1 } ∧
      ({ x with rake := y.rake }).only [] [] y)) ∧
    (x.rakeRuns = true → x.rake.held = false → x.rake.begun = 4 → x.rakeNow.scan = 0 → Effect (.scanStop d) d s (fun y
      => (y.rake =
      { x.rake with begun := 5, scanning := false, off := if x.rake.scanning = true ∧ x.rake.cyc % 3 ≠ 0 ∧ x.rake.next ≤ (x.rake.cyc + 2) / 3 then x.rake.off + 1 else x.rake.off, next := (x.rake.cyc + 2) / 3 + 1, tail := if x.rake.scanning = true ∧ x.rake.cyc % 3 ≠ 0 ∧ x.rake.next ≤ (x.rake.cyc + 2) / 3 then some ((x.rake.cyc + 2) / 3, x.rake.off) else x.rake.tail })
      ∧ ({ x with rake := y.rake }).only [] [] y)) ∧
    (x.rakeRuns = true → x.rake.held = false → x.rake.begun = 5 → x.rakeNow.mark = 5 + k → k < 3 → Effect (.userMarker
      d) d s (fun y => y.pends (131 + k) = true ∧ y.rake = { x.rake with begun := 6 } ∧ (x.rake.frameOpen = false ∨
      x.rake.row = none → y.acb = x.acb) ∧ ({ x with rake := y.rake, acb := y.acb }).only [] [131 + k] y)) ∧
    (∀ (rs : List OpenRow) (r : OpenRow), x.rakeRuns = true → x.rake.held = false → x.rake.begun = 5 → x.rakeNow.mark
      = 5 + k → k < 3 → x.rake.frameOpen = true → x.acb.rows = rs ++ [r] → r.frame = x.frame.num → x.rake.row = some
      r.row → Effect (.userMarker d) d s (fun y => y.acb =
      { x.acb with rows := rs ++ [{ r with scan := r.scan ++ x.scanPart x.rakeNow.cycles }] } ∧
      ({ x with rake := y.rake, acb := y.acb }).only [] [131 + k] y))

/-- R57, R58, R61, Table 2.8, R91. FRAME_START takes the next frame number and raises FRAME_START, event 129.
FRAME_END outside a frame only raises event 130 and in a frame closes it. ROW_START in a frame opens the row's windows
at RA; too soon after the last row or the frame's start it is held, with ROW_HELD, in a frame or not, and outside a
frame it opens nothing. BLANK_ROW makes the row a blanking row; one of 300 SEQC cycles or more begins a check round
where CHK_EN is 1, and one of more than 225 is measured for the background calibration. A held ROW_START goes on when
its time has come. -/
def Obligations.RakeMarkers : Prop :=
  ∀ (s : State) (d : DieId) (late : List Nat) (next : List (Nat × Ecc)) (x : Die), s.running d → s.die d = x →
    (x.rakeRuns = true → x.rake.held = false → x.rake.begun = 5 → x.rakeNow.mark = 1 → DieAnswers (.frameStart d next)
      d s (fun y => y.frame.num = x.nextFrame ∧ y.rake.frameOpen = true ∧ y.pends 129 = true)) ∧
    (x.rakeRuns = true → x.rake.held = false → x.rake.begun = 5 → x.rakeNow.mark = 2 → x.rake.frameOpen = false →
      x.get F.SEQ_PC_STATE ≠ 3 → Effect (.frameEnd d) d s (fun y => y.pends 130 = true ∧ y.rake =
      { x.rake with begun := 6 } ∧ ({ x with rake := y.rake }).only [] [130] y)) ∧
    (x.rakeRuns = true → x.rake.held = false → x.rake.begun = 5 → x.rakeNow.mark = 2 → x.rake.frameOpen = true →
      DieAnswers (.frameEnd d) d s (fun y => y.pends 130 = true ∧ y.rake.frameOpen = false ∧ y.rake.row = none)) ∧
    (x.rakeRuns = true → x.rake.held = false → x.rake.begun = 5 → x.rakeNow.mark = 3 → x.rake.frameOpen = true →
      x.rowTooSoon = false → DieAnswers (.rowStart d late next) d s (fun y => y.rake.row = some (x.get F.SEQ_ROW_RA) ∧
      y.rake.rowCyc = some x.rake.cyc ∧ y.acb.rows.length = x.acb.rows.length + 1)) ∧
    (x.rakeRuns = true → x.rake.held = false → x.rake.begun = 5 → x.rakeNow.mark = 3 → x.rowTooSoon = true → Effect
      (.rowStart d late next) d s (fun y => y.pends 138 = true ∧ y.rake = { x.rake with begun := 6, held := true } ∧
      ({ x with rake := y.rake }).only [] [138] y)) ∧
    (x.rakeRuns = true → x.rake.held = false → x.rake.begun = 5 → x.rakeNow.mark = 3 → x.rake.frameOpen = false →
      x.rowTooSoon = false → Effect (.rowStart d late next) d s (fun y => y.rake =
      { x.rake with begun := 6, rowCyc := some x.rake.cyc } ∧ ({ x with rake := y.rake }).only [] [] y)) ∧
    (x.rakeRuns = true → x.rake.held = false → x.rake.begun = 5 → x.rakeNow.mark = 4 → Effect (.blankRow d) d s (fun y
      => y.rake = { x.rake with begun := 6, blankRow := true } ∧
      ({ x with rake := y.rake, acb := y.acb, cal := y.cal }).only [] [180] y ∧ (x.rakeNow.cycles < 300 →
      ({ x with rake := y.rake, cal := y.cal }).only [] [] y))) ∧
    (x.rakeRuns = true → x.rake.held = false → x.rake.begun = 5 → x.rakeNow.mark = 4 → 300 ≤ x.rakeNow.cycles → x.on
      F.ACB_CTRL_EN = true → x.on F.ACB_CTRL_CHK_EN = true → Effect (.blankRow d) d s (fun y => y.acb =
      { x.acb with round := some x.acb.level, level := (x.acb.level + 1) % 4, roundAt := s.now } ∧ y.condOn 180 =
      false ∧ (y.cal =
      { x.cal with words := if x.on F.CAL_CTRL_BG_EN = true ∧ x.takes 0x28 = true ∧ x.jobRuns 1 = true then x.cal.words + 1 else x.cal.words })))
      ∧
    (x.rakeRuns = true → x.rake.held = true → x.rake.frameOpen = true → DieAnswers (.rowStartRelease d late next) d s
      (fun y => y.rake.held = false ∧ y.rake.row = some (x.get F.SEQ_ROW_RA) ∧ y.acb.rows.length = x.acb.rows.length +
      1))

/-- R59, R60, R62, R73, R74. RAKE_START begins at START when VDET and VBLIND are GOOD or NOBIAS is 1, with EN 1, the
fault recorded last cleared and no tick pending; otherwise, or while a reset of the SEQ waits, it is rejected with
ACC_ERR. RAKE_STOP stops at the next FRAME_END, showing that in STATE with EN 0, or at once in STOPMODE 1 or in a
WAIT_FRAME word. RAKE_STALL stops the Rake with fault cause 4. A microinstruction becomes whole when its high word
lands; a write to the store while the Rake runs, or at an address that is no word, is ignored with ACC_ERR. -/
def Obligations.RakeStartStop : Prop :=
  ∀ (s : State) (d : DieId) (q : Requester) (w : Nat) (lo : Nat) (hi : Nat) (ecc : Ecc) (x : Die), s.running d → s.die
    d = x →
    (x.rakeRuns = false → x.on F.SEQ_CTRL_NOBIAS = false → (x.outGood .vdet = false ∨ x.outGood .vblind = false) →
      Effect (.rakeStart d ecc) d s (fun y => y.pends (accErrOf 0x20) = true ∧ x.only [] [accErrOf 0x20] y)) ∧
    (x.rakeRuns = false → x.takes 0x20 = false → Effect (.rakeStart d ecc) d s (fun y => y.pends (accErrOf 0x20) =
      true ∧ x.only [] [accErrOf 0x20] y)) ∧
    (x.rakeRuns = false → x.takes 0x20 = true → (x.on F.SEQ_CTRL_NOBIAS = true ∨ (x.outGood .vdet = true ∧ x.outGood
      .vblind = true)) → (rakeWord ((x.rake.store.look (x.get F.SEQ_CTRL_START % 256)).getD 0)).reserved = false →
      DieAnswers (.rakeStart d .clean) d s (fun y => y.on F.SEQ_CTRL_EN = true ∧ y.get F.SEQ_PC_PC = x.get
      F.SEQ_CTRL_START % 256 ∧ y.get F.SEQ_PC_STATE = 1 ∧ y.condOn 139 = false ∧ y.get F.SEQ_FAULT_CAUSE = 0 ∧
      y.rake.tick = false ∧ y.rake.begun = 0)) ∧
    (x.rakeRuns = true → x.on F.SEQ_CTRL_STOPMODE = false → x.rakeNow.seqop ≠ 4 → x.rake.again = false → Effect
      (.rakeStop d) d s (fun y => y.on F.SEQ_CTRL_EN = false ∧ y.get F.SEQ_PC_STATE = 3 ∧ y.rakeRuns = true ∧ x.only
      [F.SEQ_CTRL_EN, F.SEQ_PC_STATE] [] y)) ∧
    (x.rakeRuns = true → (x.on F.SEQ_CTRL_STOPMODE = true ∨ x.rakeNow.seqop = 4 ∨ x.rake.again = true) →
      x.rake.frameOpen = false → x.cal.event = none → Effect (.rakeStop d) d s (fun y => y.on F.SEQ_CTRL_EN = false ∧
      y.get F.SEQ_PC_STATE = 0 ∧ y.rakeRuns = false ∧ y.pends 140 = true ∧ ({ x with rake := y.rake }).only
      [F.SEQ_CTRL_EN, F.SEQ_PC_STATE] [140] y)) ∧
    (x.rakeRuns = true → x.rake.frameOpen = false → x.cal.event = none → Effect (.rakeStall d) d s (fun y => y.get
      F.SEQ_FAULT_CAUSE = 4 ∧ y.get F.SEQ_FAULT_ADDR = x.get F.SEQ_PC_PC % 2 ^ F.SEQ_FAULT_ADDR.width ∧ y.condOn 139 =
      true ∧ y.pends 140 = true ∧ y.rakeRuns = false ∧ ({ x with rake := y.rake }).only [F.SEQ_CTRL_EN,
      F.SEQ_PC_STATE, F.SEQ_FAULT_CAUSE, F.SEQ_FAULT_ADDR] [139, 140] y)) ∧
    (w < 256 → x.rakeRuns = false → Effect (.rakeCodeWrite d q (rakeStoreAt + 8 * w) lo) d s (fun y => y.rake =
      { x.rake with low := some (w, lo % 2 ^ 32) } ∧ ({ x with rake := y.rake }).only [] [] y)) ∧
    (w < 256 → x.rakeRuns = false → x.rake.low = some (w, lo) → Effect (.rakeCodeWrite d q (rakeStoreAt + 8 * w + 4)
      hi) d s (fun y => y.rake = { x.rake with store := x.rake.store.put w (hi % 2 ^ 32 * 2 ^ 32 + lo), low := none }
      ∧ ({ x with rake := y.rake }).only [] [] y)) ∧
    (w < 256 → lo < 8 → x.rakeRuns = true → Effect (.rakeCodeWrite d q (rakeStoreAt + 8 * w + lo) hi) d s (fun y =>
      y.pends (accErrOf 0x20) = true ∧ x.only [] [accErrOf 0x20] y)) ∧
    (w < 256 → lo < 8 → lo % 4 ≠ 0 → Effect (.rakeCodeWrite d q (rakeStoreAt + 8 * w + lo) hi) d s (fun y => y.pends
      (accErrOf 0x20) = true ∧ x.only [] [accErrOf 0x20] y))

/-- R63, R64, R65, R66, R75, R19. A tick begins the next word while the Rake waits, restarts the Rake when its bias is
back after Doze or Hold, is kept for the WAIT_FRAME to come otherwise, and is lost with TICK_MISSED counted while one
is pending; a stopped Rake discards it. A frame timer on an export part keeps its distance. Every (DIV_M1 + 1)th
external tick is used, the chain's on the lead die and the lead die's frame start, over a D2D link that is up, on the
other; an export part uses none too close to the last frame start, and one that comes while SYNC_LOST holds clears it
with SYNC_BACK. SYNC_LOST raises event 136 and the frame timer's tick stands in. -/
def Obligations.RakeTicks : Prop :=
  ∀ (s : State) (d : DieId) (ecc : Ecc) (x : Die), s.running d → s.die d = x →
    (x.sendsSync = false → x.on F.SEQ_SYNC_SRC = false → x.rakeRuns = true → x.rake.again = false → x.rake.begun = 7 →
      x.exportSoon x.rake.timerAt s.now = false → (rakeWord ((x.rake.store.look ((x.get F.SEQ_PC_PC + 1) % 256)).getD
      0)).reserved = false → Effect (.frameTick d .clean) d s (fun y => y.get F.SEQ_PC_PC = (x.get F.SEQ_PC_PC + 1) %
      256 ∧ y.rake.begun = 0 ∧ y.rake.rowen = y.rakeNow.rowen ∧ y.rake.biasen = y.rakeNow.biasen ∧ y.rake.blindsel =
      y.rakeNow.blindsel ∧ ({ x with rake := y.rake }).only [F.SEQ_PC_PC, F.SEQ_PC_STATE] [] y)) ∧
    (x.exportSoon x.rake.timerAt s.now = true → Effect (.frameTick d ecc) d s (fun y => x.only [] [] y)) ∧
    (x.sendsSync = false → x.exportSoon x.rake.timerAt s.now = false → x.rakeRuns = false → Effect (.frameTick d ecc)
      d s (fun y => y.rake = { x.rake with timerAt := some s.now } ∧ ({ x with rake := y.rake }).only [] [] y)) ∧
    (x.sendsSync = false → x.on F.SEQ_SYNC_SRC = false → x.exportSoon x.rake.timerAt s.now = false → x.rakeRuns = true
      → x.rake.again = false → x.rake.begun < 7 → x.rake.tick = false → x.rake.early = false → x.rakeNow.seqop ≠ 4 →
      Effect (.frameTick d ecc) d s (fun y => y.rake = { x.rake with tick := true, timerAt := some s.now } ∧
      ({ x with rake := y.rake }).only [] [] y)) ∧
    (x.sendsSync = false → x.on F.SEQ_SYNC_SRC = false → x.exportSoon x.rake.timerAt s.now = false → x.rakeRuns = true
      → x.rake.again = false → x.rake.begun < 7 → x.rake.tick = true → Effect (.frameTick d ecc) d s (fun y => y.pends
      135 = true ∧ y.get F.SEQ_TICK_ERR_MISSED = min (x.get F.SEQ_TICK_ERR_MISSED + 1) (2 ^
      F.SEQ_TICK_ERR_MISSED.width - 1) ∧ y.rake = { x.rake with timerAt := some s.now } ∧
      ({ x with rake := y.rake }).only [F.SEQ_TICK_ERR_MISSED] [135] y)) ∧
    (x.sendsSync = false → x.on F.SEQ_SYNC_SRC = false → x.exportSoon x.rake.timerAt s.now = false → x.rakeRuns = true
      → x.rake.again = true → (rakeWord ((x.rake.store.look (x.get F.SEQ_CTRL_START % 256)).getD 0)).reserved = false
      → Effect (.frameTick d .clean) d s (fun y => y.get F.SEQ_PC_PC = x.get F.SEQ_CTRL_START % 256 ∧ y.get
      F.SEQ_PC_STATE = 1 ∧ y.rake.again = false ∧ y.rake.begun = 0 ∧ y.rake.early = decide (y.rakeNow.seqop = 4))) ∧
    (x.sendsSync = true → x.exportSoon x.rake.timerAt s.now = false → x.rakeRuns = false → Effect (.frameTick d ecc) d
      s (fun y => .frameSync ∈ y.out ∧ y.trl.ticks = x.trl.ticks ++ [s.now * 4 + 1000 * x.get F.TRL_TIMING_LEAD] ∧
      ({ x with trl := y.trl, rake := y.rake }).only [] [] y)) ∧
    (x.fedTick (s.die d.other) = true → s.running d.other → x.on F.SEQ_SYNC_SRC = true → x.rake.divided < x.get
      F.SEQ_SYNC_DIV_M1 → Answers (.externalTick d ecc) s (fun t => (t.die d).rake =
      { x.rake with divided := x.rake.divided + 1 } ∧ ({ x with rake := (t.die d).rake }).only [] [] (t.die d) ∧
      (t.die d.other).rake.sent = false)) ∧
    (x.fedTick (s.die d.other) = true → x.on F.SEQ_SYNC_SRC = true → x.get F.SEQ_SYNC_DIV_M1 ≤ x.rake.divided →
      x.exportSoon x.rake.lastFrame s.now = false → x.condOn 136 = false → x.rakeRuns = true → x.rake.again = false →
      x.rake.begun = 7 → (rakeWord ((x.rake.store.look ((x.get F.SEQ_PC_PC + 1) % 256)).getD 0)).reserved = false →
      DieAnswers (.externalTick d .clean) d s (fun y => y.get F.SEQ_PC_PC = (x.get F.SEQ_PC_PC + 1) % 256 ∧
      y.rake.divided = 0 ∧ y.rake.begun = 0 ∧ y.rake.rowen = y.rakeNow.rowen ∧ y.rake.biasen = y.rakeNow.biasen ∧
      y.rake.blindsel = y.rakeNow.blindsel ∧ ({ x with rake := y.rake }).only [F.SEQ_PC_PC, F.SEQ_PC_STATE] [] y)) ∧
    (x.leads = false → x.fedTick (s.die d.other) = false → Effect (.externalTick d ecc) d s (fun y => x.only [] [] y))
      ∧
    (x.leads = true → x.trl.ticks ≠ [] → x.on F.SEQ_SYNC_SRC = true → x.rake.divided < x.get F.SEQ_SYNC_DIV_M1 →
      Effect (.externalTick d ecc) d s (fun y => y.rake = { x.rake with divided := x.rake.divided + 1 } ∧ y.trl =
      { x.trl with ticks := x.trl.ticks.tail } ∧ ({ x with rake := y.rake, trl := y.trl }).only [] [] y)) ∧
    (x.leads = true → x.trl.ticks ≠ [] → x.on F.SEQ_SYNC_SRC = true → x.get F.SEQ_SYNC_DIV_M1 ≤ x.rake.divided →
      (x.rakeRuns = false ∨ x.exportSoon x.rake.lastFrame s.now = true) → Effect (.externalTick d ecc) d s (fun y =>
      y.rake = { x.rake with divided := 0 } ∧ y.trl = { x.trl with ticks := x.trl.ticks.tail } ∧
      ({ x with rake := y.rake, trl := y.trl }).only [] [] y)) ∧
    (x.leads = true → x.trl.ticks ≠ [] → x.on F.SEQ_SYNC_SRC = true → x.get F.SEQ_SYNC_DIV_M1 ≤ x.rake.divided →
      x.exportSoon x.rake.lastFrame s.now = false → x.condOn 136 = true → x.rakeRuns = true → x.rake.again = false →
      x.rake.begun = 7 → (rakeWord ((x.rake.store.look ((x.get F.SEQ_PC_PC + 1) % 256)).getD 0)).reserved = false →
      Effect (.externalTick d .clean) d s (fun y => y.condOn 136 = false ∧ y.pends 137 = true ∧ y.get F.SEQ_PC_PC =
      (x.get F.SEQ_PC_PC + 1) % 256 ∧ y.rake.divided = 0 ∧ y.rake.rowen = y.rakeNow.rowen ∧ y.rake.biasen =
      y.rakeNow.biasen ∧ y.rake.blindsel = y.rakeNow.blindsel ∧ ({ x with rake := y.rake, trl := y.trl }).only
      [F.SEQ_PC_PC, F.SEQ_PC_STATE] [136, 137] y)) ∧
    (x.on F.SEQ_SYNC_SRC = true → x.rakeRuns = true → x.condOn 136 = false → x.rake.again = false → x.rake.begun = 7 →
      (rakeWord ((x.rake.store.look ((x.get F.SEQ_PC_PC + 1) % 256)).getD 0)).reserved = false → Effect (.syncLost d
      .clean) d s (fun y => y.condOn 136 = true ∧ y.pends 136 = true ∧ y.get F.SEQ_PC_PC = (x.get F.SEQ_PC_PC + 1) %
      256 ∧ ({ x with rake := y.rake }).only [F.SEQ_PC_PC, F.SEQ_PC_STATE] [136] y)) ∧
    ((x.on F.SEQ_SYNC_SRC = false ∨ x.rakeRuns = false) → Effect (.syncLost d ecc) d s (fun y => x.only [] [] y))

/-- R439, R85, R89, R91, R92, R93. WINDOWS_CLOSE forms the oldest open row's results and hands them to the Sieve's
entry in order, but for a row of a frame that has been abandoned or lost. CHECK_ROUND_END changes nothing of a cluster
whose cores lie within the tolerance, and a core outside it counts a failure with CHK_FAIL. CHK_STALE raises its
condition while the Rake runs with CHK_EN. CORE_REMOVE takes a core out of service at the next ROW_START, or at once
while the Rake is stopped, and CORE_RETURN returns it at the next FRAME_START. CHANNEL_GRAFT decides the spare for a
channel of a cluster that converts and is refused while the spare is taken or the cluster does not convert.
CHANNEL_RELEASE releases it at the next FRAME_START. A core outside the cluster is rejected with ACC_ERR. -/
def Obligations.Converters : Prop :=
  ∀ (s : State) (d : DieId) (k : Fin 32) (ch : Nat) (core : Nat) (cycles : Nat) (volts : List (List (List Int))) (r :
    OpenRow) (x : Die), s.running d → s.die d = x →
    (x.acb.rows.head? = some r → x.frameLost r.frame = true → Effect (.windowsClose d cycles volts) d s (fun y =>
      y.acb.rows = x.acb.rows.tail ∧ y.sieve = x.sieve)) ∧
    (x.acb.rows.head? = some r → x.frameLost r.frame = false → Effect (.windowsClose d cycles volts) d s (fun y =>
      y.acb.rows = x.acb.rows.tail ∧ y.sieve.waiting.length = x.sieve.waiting.length + 1 ∧ (∀ w ∈
      y.sieve.waiting.getLast?, w.row = r.row ∧ w.frame = r.frame ∧ w.gain = r.gain ∧ w.shift = r.shift) ∧ y.get
      (F.ACB_CLOSE_CYCLES 0) = min cycles 65535)) ∧
    (x.acb.round = some 2 → Effect (.checkRoundEnd d k []) d s (fun y => x.only [] [] y)) ∧
    (x.acb.round = some 0 → x.converts k.val = true → x.coreChecked k.val 0 0 = true → 8 * x.get F.ACB_CHK_TOL < core
      → x.on F.ACB_CTRL_AUTOCORE = false → Effect (.checkRoundEnd d k [(8 * 2048 + core, 8 * 2048)]) d s (fun y =>
      y.pends (193 + 4 * k.val) = true ∧ y.get (F.CLU_CHK_STAT_LAST_CH k.val) = 0 ∧ y.get (F.CLU_CHK_STAT_LAST_CORE
      k.val) = 0 ∧ y.get (F.CLU_CHK_STAT_LAST_ERR k.val) = min 255 (core / 8) ∧ x.only [F.CLU_CHK_STAT_FAILS k.val,
      F.CLU_CHK_STAT_LAST_ERR k.val, F.CLU_CHK_STAT_LAST_CORE k.val, F.CLU_CHK_STAT_LAST_CH k.val] [193 + 4 * k.val]
      y)) ∧
    (x.rakeRuns = true → x.on F.ACB_CTRL_CHK_EN = true → Effect (.chkStale d) d s (fun y => y.condOn 180 = true ∧
      x.only [] [180] y)) ∧
    (ch ≤ 16 → core ≤ 1 → x.rakeRuns = true → x.coreOut k.val ch core = false → (ch, core) ∉ (x.cluOf k.val).removing
      → DieAnswers (.coreRemove d k ch core) d s (fun y => (ch, core) ∈ (y.cluOf k.val).removing ∧ y.coreOut k.val ch
      core = false)) ∧
    (ch ≤ 16 → core ≤ 1 → x.rakeRuns = false → x.coreOut k.val ch core = false → (x.cluOf k.val).removing = [] →
      DieAnswers (.coreRemove d k ch core) d s (fun y => y.coreOut k.val ch core = true)) ∧
    ((16 < ch ∨ 1 < core) → Effect (.coreRemove d k ch core) d s (fun y => y.pends (accErrOf (0x80 + k.val)) = true ∧
      x.only [] [accErrOf (0x80 + k.val)] y)) ∧
    (ch ≤ 16 → core ≤ 1 → x.coreOut k.val ch core = true → Effect (.coreReturn d k ch core) d s (fun y => (ch, core) ∈
      (y.cluOf k.val).returning ∧ y.coreOut k.val ch core = true ∧ ({ x with clu := y.clu, spr := y.spr }).only
      [F.CLU_CORE_REQ_CH k.val, F.CLU_CORE_REQ_CORE k.val] [] y)) ∧
    (ch ≤ 15 → x.converts k.val = true → x.spareFree k.val = true → Effect (.channelGraft d k ch) d s (fun y => y.on
      (F.CLU_GRAFT_ACTIVE k.val) = true ∧ y.get (F.CLU_GRAFT_CH k.val) = ch ∧ y.get (F.CLU_GRAFT_CAUSE k.val) = 1 ∧
      (y.cluOf k.val).landing = some 2 ∧ ({ x with clu := y.clu }).only [F.CLU_GRAFT_REQCH k.val, F.CLU_GRAFT_ACTIVE
      k.val, F.CLU_GRAFT_CH k.val, F.CLU_GRAFT_CAUSE k.val, F.CLU_VOID_VOID k.val, F.STAT_DEGRADED (0x80 + k.val),
      F.STAT_GRAFTED (0x80 + k.val), F.SPR_WEAR_FIG] [195 + 4 * k.val, 612] y)) ∧
    ((15 < ch ∨ x.on (F.CLU_GRAFT_ACTIVE k.val) = true ∨ x.converts k.val = false) → Effect (.channelGraft d k ch) d s
      (fun y => y.pends (accErrOf (0x80 + k.val)) = true ∧ x.only [] [accErrOf (0x80 + k.val)] y)) ∧
    (x.takes (0x80 + k.val) = true → x.on (F.CLU_GRAFT_ACTIVE k.val) = true → Effect (.channelRelease d k) d s (fun y
      => (y.cluOf k.val).releasing = true ∧ ({ x with clu := y.clu }).only [] [] y))

/-- R95, R96, R97, R99, R103, R408, Table 15.1. GANG_ARM arms the commit of every cluster page in use for the frame
boundary. ACB_CAPTURE_ARM arms a capture of a pixel of the region and is rejected with ACC_ERR for one outside it.
TRM_LOAD begins a full load, refused with ACC_ERR while the Rake runs or a reset of the block waits; LOAD_DONE ends it
with event 164 and ERR where words were bad; SWITCH_DONE makes the new map the one in force with event 165. TRM_REPAIR
rewrites an invalid word from the master copy, which makes its fault a transient one, or puts it on the bypass list
with REPAIR_FAIL as a lasting fault. -/
def Obligations.TrimMap : Prop :=
  ∀ (s : State) (d : DieId) (r : Fin 4) (row : Nat) (col : Nat) (w : Nat) (b : Nat) (bad : List Nat) (e : Resource) (x
    : Die), s.running d → s.die d = x →
    (Effect (.gangArm d) d s (fun y => (∀ k ∈ x.clusters, y.commitPending (0x80 + k) = true ∧ (x.commitPending (0x80 +
      k) = false → y.get (F.COMMIT_BOUNDARY (0x80 + k)) = 0)) ∧ (∀ k ∈ x.clusters, x.commitPending (0x80 + k) = true →
      y.get (F.COMMIT_BOUNDARY (0x80 + k)) = x.get (F.COMMIT_BOUNDARY (0x80 + k))) ∧ (x.only (x.clusters.flatMap (fun
      k => [F.COMMIT_BOUNDARY (0x80 + k), F.COMMIT_STAT_PENDING (0x80 + k)])) [] y))) ∧
    ((640 * r.val ≤ col ∧ col ≤ 640 * r.val + 639 ∨ 2560 + 128 * r.val ≤ col ∧ col ≤ 2560 + 128 * r.val + 127) → row ≤
      2047 → Effect (.acbCaptureArm d r row col) d s (fun y => y.get (F.ACB_CAP_CTRL_ROW r.val) = row ∧ y.get
      (F.ACB_CAP_CTRL_COL r.val) = col ∧ y.on (F.ACB_CAP_CTRL_DONE r.val) = false ∧ r.val ∈ y.acb.captures ∧
      ({ x with acb := y.acb }).only [F.ACB_CAP_CTRL_ROW r.val, F.ACB_CAP_CTRL_COL r.val, F.ACB_CAP_CTRL_DONE r.val]
      [] y)) ∧
    ((¬ (640 * r.val ≤ col ∧ col ≤ 640 * r.val + 639 ∨ 2560 + 128 * r.val ≤ col ∧ col ≤ 2560 + 128 * r.val + 127)) →
      Effect (.acbCaptureArm d r row col) d s (fun y => y.pends (accErrOf (0x24 + r.val)) = true ∧ x.only [] [accErrOf
      (0x24 + r.val)] y)) ∧
    ((x.rakeRuns = true ∨ x.takes 0x22 = false) → Effect (.trmLoad d) d s (fun y => y.pends (accErrOf 0x22) = true ∧
      x.only [] [accErrOf 0x22] y)) ∧
    (x.rakeRuns = false → x.takes 0x22 = true → Effect (.trmLoad d) d s (fun y => y.trm =
      { x.trm with loading := true } ∧ y.on F.TRM_LOAD_ERR = false ∧ y.on (F.STAT_IDLE 0x22) = false ∧
      ({ x with trm := y.trm }).only [F.TRM_LOAD_ERR, F.STAT_IDLE 0x22] [] y)) ∧
    (x.trm.loading = true → (∀ q ∈ x.spr.inventory, q.type ≠ 7) → Effect (.loadDone d bad) d s (fun y => y.trm.loading
      = false ∧ y.trm.stale = false ∧ y.trm.invalid = bad ∧ y.on F.TRM_LOAD_ERR = !bad.isEmpty ∧ y.pends 164 = true ∧
      y.on F.TRM_SWITCH_ACTIVE = false ∧ y.on (F.STAT_IDLE 0x22) = true ∧ ({ x with trm := y.trm }).only
      [F.TRM_LOAD_ERR, F.TRM_SWITCH_ACTIVE, F.TRM_SWITCH_ROWS_LEFT, F.STAT_IDLE 0x22] [164] y)) ∧
    (x.trm.switching = some b → b < 2 ^ 31 → (∀ q ∈ x.spr.inventory, q.type ≠ 7) → Effect (.switchDone d) d s (fun y
      => y.trm.switching = none ∧ y.trm.invalid = [] ∧ y.get F.TRM_MAP_BASE_BASE = b / 4096 ∧ y.on F.TRM_SWITCH_ACTIVE
      = false ∧ y.pends 165 = true ∧ ({ x with trm := y.trm }).only [F.TRM_MAP_BASE_BASE, F.TRM_SWITCH_ACTIVE,
      F.TRM_SWITCH_ROWS_LEFT] [165] y)) ∧
    (row * 308 + w ∈ x.trm.invalid → x.resource? 7 (row * 308 + w) = none → Effect (.trmRepair d row w true) d s (fun
      y => row * 308 + w ∉ y.trm.invalid ∧ y.trm.bypass = x.trm.bypass ∧ ({ x with trm := y.trm }).only [] [] y)) ∧
    (row * 308 + w ∈ x.trm.invalid → x.spr.inventory = [e] → e.type = 7 → e.inst = row * 308 + w → e.lasting = false →
      Effect (.trmRepair d row w true) d s (fun y => row * 308 + w ∉ y.trm.invalid ∧ y.trm.bypass = x.trm.bypass ∧
      y.spr.inventory = [] ∧ y.get F.SPR_CNT_TRANSIENT = min (x.get F.SPR_CNT_TRANSIENT + 1) 65535 ∧ y.pends 609 =
      true ∧ ({ x with trm := y.trm, spr := y.spr }).only [F.SPR_CNT_TRANSIENT, F.SPR_LAST_OUTCOME,
      F.STS_STATE_WAITING] [609, 617] y)) ∧
    (x.trm.loading = true → x.spr.inventory = [e] → e.type = 7 → e.lasting = false → Effect (.loadDone d bad) d s (fun
      y => y.trm.loading = false ∧ y.trm.stale = false ∧ y.trm.invalid = bad ∧ y.pends 164 = true ∧ y.spr.inventory =
      [] ∧ y.get F.SPR_CNT_TRANSIENT = min (x.get F.SPR_CNT_TRANSIENT + 1) 65535 ∧ y.pends 609 = true)) ∧
    (x.trm.switching = some b → b < 2 ^ 31 → x.spr.inventory = [e] → e.type = 7 → e.lasting = false → Effect
      (.switchDone d) d s (fun y => y.trm.switching = none ∧ y.trm.invalid = [] ∧ y.pends 165 = true ∧ y.spr.inventory
      = [] ∧ y.get F.SPR_CNT_TRANSIENT = min (x.get F.SPR_CNT_TRANSIENT + 1) 65535 ∧ y.pends 609 = true)) ∧
    (row * 308 + w ∈ x.trm.invalid → row * 308 + w ∉ x.trm.bypass → x.trm.bypass.length < 64 → (∀ q ∈ x.spr.inventory,
      q.type = 7 → q.inst = row * 308 + w → q.lasting = false) → Effect (.trmRepair d row w false) d s (fun y =>
      y.trm.bypass = x.trm.bypass ++ [row * 308 + w] ∧ y.get F.TRM_BYPASS_USED = x.trm.bypass.length + 1 ∧ y.pends 166
      = true ∧ y.pends 610 = true ∧ ((y.resource? 7 (row * 308 + w)).any (fun q => q.lasting) = true) ∧ y.spr.toWrite
      = x.spr.toWrite ++ [(7, row * 308 + w, 5)] ∧
      ({ x with trm := y.trm, spr := y.spr, frame := y.frame, ipp := y.ipp }).only [F.TRM_BYPASS_USED,
      F.SPR_LAST_TYPE, F.SPR_LAST_CAUSE, F.SPR_LAST_OUTCOME, F.SPR_LAST_INSTANCE, F.SPR_LAST_FRAME_FRAME,
      F.STS_STATE_WAITING, F.SPR_CNT_LASTING] [166, 609, 610, 617] y))

/-- R106, R107, R118, R119, R128, R141. SIEVE_ROW_ENTRY takes the oldest waiting row into the clear Sieve.
SIEVE_ROW_CLEAR hands the row inside to the fill stage. FILL_ROW_RELEASE releases the oldest held row, once the row
below it has cleared. CMM_FETCH_DONE puts the row's coefficients into the row buffer and shows the fetch's cycles and
their peak. A word read uncorrectable is counted and raises event 378. TILE_MAP_WRITE ends the frame's comparison: the
count of tiles, and the tile-hit map in the ring. -/
def Obligations.SieveRows : Prop :=
  ∀ (s : State) (d : DieId) (f : RowFaults) (w : AccRow) (r : SieveRow) (r2 : SieveRow) (row : Nat) (cycles : Nat)
    (col : Nat) (x : Die), s.running d → s.die d = x →
    (x.boot.limited = false → x.on (F.CTRL_EN 0x30) = true → x.sieve.inside = none → x.sieve.waiting.head? = some w →
      DieAnswers (.sieveRowEntry d f) d s (fun y => y.sieve.waiting = x.sieve.waiting.tail ∧ (y.sieve.inside.map (fun
      r => (r.row, r.frame)) = some (w.row, w.frame)))) ∧
    (x.sieve.inside = some r → Effect (.sieveRowClear d) d s (fun y => y.sieve =
      { x.sieve with inside := none, held := x.sieve.held ++ [r] } ∧ ({ x with sieve := y.sieve }).only [] [] y)) ∧
    (x.sieve.held = [r, r2] → DieAnswers (.fillRowRelease d { resid := [], entries := [] }) d s (fun y => y.sieve.held
      = [r2] ∧ y.sieve.above = some r)) ∧
    (x.on F.CMM_CTRL_EN = true → Effect (.cmmFetchDone d row cycles []) d s (fun y => y.get F.CMM_FETCH_LAST = min
      cycles 65535 ∧ min cycles 65535 ≤ y.get F.CMM_FETCH_MAX ∧ x.get F.CMM_FETCH_MAX ≤ y.get F.CMM_FETCH_MAX ∧
      (y.cmm.halves.head?.map (fun h => (h.row, h.bad)) = some (row, [])) ∧ y.cmm.halves.length ≤ 2 ∧
      ({ x with cmm := y.cmm }).only [F.CMM_FETCH_LAST, F.CMM_FETCH_MAX] [] y)) ∧
    (x.on F.CMM_CTRL_EN = true → Effect (.cmmFetchDone d row cycles [col]) d s (fun y => y.pends 378 = true ∧ y.get
      F.CMM_ERR_ADDR_ROW = row % 2 ^ F.CMM_ERR_ADDR_ROW.width ∧ y.get F.CMM_ERR_ADDR_COL = col % 2 ^
      F.CMM_ERR_ADDR_COL.width ∧ y.get (F.ERR_CNT_UNCORR 0x33) = min (x.get (F.ERR_CNT_UNCORR 0x33) + 1) 1023 ∧
      ({ x with cmm := y.cmm }).only [F.CMM_FETCH_LAST, F.CMM_FETCH_MAX, F.ERR_CNT_UNCORR 0x33, F.CMM_ERR_ADDR_GAIN,
      F.CMM_ERR_ADDR_ROW, F.CMM_ERR_ADDR_COL] [378] y)) ∧
    (x.frameEnded x.rad.tileFrame = true → x.rowsToCome x.rad.tileFrame = false → x.rad.closed = false → x.on
      F.RAD_CTRL_HS_EN = true → x.frame.num = x.rad.tileFrame → x.frame.flags.hold = false → x.frame.abandoned = false
      → x.on F.RAD_MAP_IDX_WRITTEN = false → x.get F.RAD_MAP_BASE_BASE * 4096 + 1024 ≤ Config.dramBytes → EffectMem
      (.tileMapWrite d) d s (fun y m => y.get F.RAD_HIT_CNT_TILES = x.rad.hits.length % 2 ^ F.RAD_HIT_CNT_TILES.width
      ∧ y.rad.closed = true ∧ y.rad.hits = [] ∧ y.on F.RAD_MAP_IDX_WRITTEN = true ∧ y.get F.RAD_MAP_IDX_SLOT = 0 ∧ (∀
      i ∈ List.range 640, m.read (x.get F.RAD_MAP_BASE_BASE * 4096 + i) = (hitMap x.rad.hits).getD i 0) ∧
      ({ x with rad := y.rad }).onlyPages [0x32] [370] y))

/-- R129, R130, R134, R140, R144, R180. HOTSPOT_CLEAR releases the pin while PINMODE is 0, and does nothing otherwise
or in the cycle of a hit. BANK_APPLIED makes the staged bank equal to the bank in force, with event 371. BAND_JUDGE
moves the audit to the next band with event 361, from the last band to band 0 with event 365, and does nothing before
the band's counted frames are complete. SLICE_REMOVE takes a slice out of service with event 355 when no row is
inside, and SLICE_RETURN returns it at the next FRAME_START. PLANE_HASH_GO begins the hash of a plane, refused while
one runs; HASH_DONE shows the digest with event 379, but while throttle level 1 is in force (log entry 107).
SIEVE_CAPTURE_ARM arms a capture. -/
def Obligations.SieveControls : Prop :=
  ∀ (s : State) (d : DieId) (n : Nat) (sel : Nat) (row : Nat) (col : Nat) (base : Nat) (x : Die), s.running d → s.die
    d = x →
    (x.on F.RAD_CTRL_PINMODE = false → x.rad.pinAt ≠ some s.now → Effect (.hotspotClear d) d s (fun y => y.rad =
      { x.rad with pinLow := false } ∧ y.condOn 370 = false ∧ ({ x with rad := y.rad }).only [] [370] y)) ∧
    ((x.on F.RAD_CTRL_PINMODE = true ∨ x.rad.pinAt = some s.now) → Effect (.hotspotClear d) d s (fun y => x.only [] []
      y)) ∧
    (x.on F.RAD_BANK_COPYING = true → Effect (.bankApplied d) d s (fun y => y.rad =
      { x.rad with respStaged := x.rad.resp, zonesStaged := x.rad.zones } ∧ y.on F.RAD_BANK_COPYING = false ∧ y.pends
      371 = true ∧ ({ x with rad := y.rad }).only [F.RAD_BANK_COPYING] [371] y)) ∧
    (x.on F.WDR_CTRL_AUDIT = true → x.bandFull = true → x.get F.WDR_AUDIT_STAT_BAND < (x.sieveParams
      x.wdr.done).rowsM1 / 8 → x.get F.WDR_AUDIT_STAT_BAND < 255 → EffectMem (.bandJudge d) d s (fun y _ => y.pends
      361 = true ∧ y.get F.WDR_AUDIT_STAT_BAND = x.get F.WDR_AUDIT_STAT_BAND + 1 ∧ y.get F.WDR_AUDIT_STAT_FRAME = 0 ∧
      y.wdr.store = [] ∧ y.wdr.frames = 0 ∧ ({ x with wdr := y.wdr }).only [F.WDR_AUDIT_STAT_BAND,
      F.WDR_AUDIT_STAT_FRAME, F.WDR_DYN_CNT_COUNT, F.WDR_LAST_TEST, F.WDR_LAST_ROW, F.WDR_LAST_COL] [361, 362, 363]
      y)) ∧
    (x.on F.WDR_CTRL_AUDIT = true → x.bandFull = true → (x.sieveParams x.wdr.done).rowsM1 / 8 ≤ x.get
      F.WDR_AUDIT_STAT_BAND → DieAnswers (.bandJudge d) d s (fun y => y.pends 365 = true ∧ y.get F.WDR_AUDIT_STAT_BAND
      = 0 ∧ y.get F.WDR_AUDIT_STAT_FRAME = 0)) ∧
    ((x.on F.WDR_CTRL_AUDIT = false ∨ x.wdr.key = none ∨ (∃ a ∈ x.wdr.key, x.wdr.frames ≤ a.2.2)) → Effect (.bandJudge
      d) d s (fun y => x.only [] [] y)) ∧
    (n ≤ 4 → x.takes 0x30 = true → x.sliceOut n = false → x.sieve.inside = none → x.sieve.removing = [] → x.resource?
      3 n = none → DieAnswers (.sliceRemove d n) d s (fun y => y.sliceOut n = true ∧ y.pends 355 = true)) ∧
    ((4 < n ∨ x.takes 0x30 = false) → Effect (.sliceRemove d n) d s (fun y => y.pends (accErrOf 0x30) = true ∧ x.only
      [] [accErrOf 0x30] y)) ∧
    (n ≤ 4 → x.sliceOut n = true → Effect (.sliceReturn d n) d s (fun y => n ∈ y.sieve.returning ∧ y.sliceOut n = true
      ∧ ({ x with sieve := y.sieve, spr := y.spr }).only [F.SVE_SLICE_REQ_SLICE] [] y)) ∧
    ((x.on F.CMM_HASH_CTRL_BUSY = true ∨ x.takes 0x33 = false) → Effect (.planeHashGo d sel) d s (fun y => y.pends
      (accErrOf 0x33) = true ∧ x.only [] [accErrOf 0x33] y)) ∧
    (x.on F.CMM_HASH_CTRL_BUSY = false → x.takes 0x33 = true → Effect (.planeHashGo d sel) d s (fun y => y.cmm.hashing
      = some (if sel % 4 = 3 then x.get F.CMM_HASH_BASE_BASE * 4096 else x.planeBase (sel % 4)) ∧ y.on
      F.CMM_HASH_CTRL_BUSY = true ∧ y.get F.CMM_HASH_CTRL_SEL = sel % 4 ∧ ({ x with cmm := y.cmm }).only
      [F.CMM_HASH_CTRL_SEL, F.CMM_HASH_CTRL_BUSY] [] y)) ∧
    (1 ≤ x.thm.acted → Effect (.hashDone d) d s (fun y => x.only [] [] y)) ∧
    (x.cmm.hashing = some base → x.cal.hash = false → x.thm.acted = 0 → Effect (.hashDone d) d s (fun y => y.cmm =
      { x.cmm with hashing := none } ∧ y.on F.CMM_HASH_CTRL_BUSY = false ∧ y.pends 379 = true ∧ (∀ k : Fin 8, y.get
      (F.CMM_HASH_DIGEST k.val) = ((sha256Words ((s.mem d).readBytes base planeBytes)).getD k.val 0).toNat) ∧
      ({ x with cmm := y.cmm }).only [F.CMM_HASH_CTRL_BUSY, F.CMM_HASH_DIGEST 0, F.CMM_HASH_DIGEST 1,
      F.CMM_HASH_DIGEST 2, F.CMM_HASH_DIGEST 3, F.CMM_HASH_DIGEST 4, F.CMM_HASH_DIGEST 5, F.CMM_HASH_DIGEST 6,
      F.CMM_HASH_DIGEST 7] [379] y)) ∧
    (row ≤ 2047 → col ≤ 3071 → x.takes 0x30 = true → Effect (.sieveCaptureArm d row col) d s (fun y => y.get
      F.SVE_CAP_CTRL_ROW = row ∧ y.get F.SVE_CAP_CTRL_COL = col ∧ y.on F.SVE_CAP_CTRL_DONE = false ∧ y.sieve =
      { x.sieve with capture := true } ∧ ({ x with sieve := y.sieve }).only [F.SVE_CAP_CTRL_ROW, F.SVE_CAP_CTRL_COL,
      F.SVE_CAP_CTRL_DONE] [] y)) ∧
    ((2047 < row ∨ 3071 < col ∨ x.takes 0x30 = false) → Effect (.sieveCaptureArm d row col) d s (fun y => y.pends
      (accErrOf 0x30) = true ∧ x.only [] [accErrOf 0x30] y))

/-- R154, R155, R156, R157, R158, R183, R187, R159, R160. A CLO_OPEN or CLO_CLOSE begins its move from the boost
segment when no event or move is in progress, the drive is on and not faulted and no reset of the CLO waits, a closing
move without HALL_FAIL and with the grant or alone in its group (log entry 97); otherwise it is ignored with ACC_ERR.
CLO_HOME opens the blade unless it stands open. CLO_ENABLE sets EN, shows the Cloche as the owner of its pair's
outputs and, with AUTOHOME, homes. A FORCED_OPEN opens a blade that has been closing or closed for FORCE, with event
340. BOOST_END begins the run segment; BRAKE_END with the target asserted ends the move at rest, with MOVE_CLOSED or
MOVE_OPENED and the move's time; without it, or at MOVE_TIMEOUT, the move stalls and is repeated once, and a repeated
closing move that stalls is a CLO_FAULT and the blade is opened. HALL_CHANGE shows the inputs after their polarity.
HALL_IDLE_TIMEOUT is HALL_FAIL. HTR_READY, after 10 s within ±100 mK of TARGET, sets READY and shows the settling time
and the rms error of those readings, with event 342. -/
def Obligations.ClocheMotion : Prop :=
  ∀ (s : State) (d : DieId) (a : Bool) (b : Bool) (m : Move) (err : Nat) (x : Die), s.running d → s.die d = x →
    (x.cal.event = none → x.get F.CAL_STATE_PHASE ≠ 6 → x.rake.frameOpen = false → x.on F.CLO_CTRL_EN = true →
      x.cloFaulted = false → x.takes 0x29 = true → (x.on F.CAL_PAIR_GRANT = true ∨ x.alone (s.env d) = true) →
      x.clo.move = none → x.hallFailed = false → x.halls.2 = false → Effect (.cloClose d) d s (fun y => (y.clo.move =
      some { closing := true, seg := if x.cloBoost true = 0 then 1 else 0, began := s.now, again := false }) ∧
      y.clo.closingAt = some s.now ∧ ({ x with clo := y.clo, pwm := { x.pwm with low := y.pwm.low } }).only
      [F.CLO_POS_HALL0, F.CLO_POS_HALL1, F.CLO_POS_STATE, F.STAT_IDLE 0x29] [341] y)) ∧
    (x.cal.event = none → x.get F.CAL_STATE_PHASE ≠ 6 → x.rake.frameOpen = false → x.on F.CLO_CTRL_EN = true →
      x.cloFaulted = false → x.takes 0x29 = true → x.clo.move = none → x.halls.1 = false → Effect (.cloOpen d) d s
      (fun y => (y.clo.move = some
      { closing := false, seg := if x.cloBoost false = 0 then 1 else 0, began := s.now, again := false }) ∧
      ({ x with clo := y.clo, pwm := { x.pwm with low := y.pwm.low } }).only [F.CLO_POS_HALL0, F.CLO_POS_HALL1,
      F.CLO_POS_STATE, F.STAT_IDLE 0x29] [341] y)) ∧
    (x.cal.event = none → x.get F.CAL_STATE_PHASE ≠ 6 → x.rake.frameOpen = false → x.on F.CLO_CTRL_EN = true →
      x.cloFaulted = false → x.takes 0x29 = true → x.clo.move = none → x.halls.1 = false → Effect (.cloHome d) d s
      (fun y => (y.clo.move = some
      { closing := false, seg := if x.cloBoost false = 0 then 1 else 0, began := s.now, again := false }) ∧
      ({ x with clo := y.clo, pwm := { x.pwm with low := y.pwm.low } }).only [F.CLO_POS_HALL0, F.CLO_POS_HALL1,
      F.CLO_POS_STATE, F.STAT_IDLE 0x29] [341] y)) ∧
    (x.cal.event = none → x.get F.CAL_STATE_PHASE ≠ 6 → x.rake.frameOpen = false → x.on F.CLO_CTRL_EN = true →
      x.cloFaulted = false → x.takes 0x29 = true → x.clo.move = none → x.halls.1 = true → Effect (.cloHome d) d s (fun
      y => y.clo.move = none ∧ y.get F.CLO_POS_STATE = y.cloState ∧ x.only [F.CLO_POS_HALL0, F.CLO_POS_HALL1,
      F.CLO_POS_STATE, F.STAT_IDLE 0x29] [341] y)) ∧
    ((x.cal.event.isSome = true ∨ x.clo.move.isSome = true ∨ x.takes 0x29 = false ∨ x.on F.CLO_CTRL_EN = false ∨
      x.cloFaulted = true ∨ x.hallFailed = true ∨ (x.on F.CAL_PAIR_GRANT = false ∧ x.alone (s.env d) = false)) →
      Effect (.cloClose d) d s (fun y => y.pends (accErrOf 0x29) = true ∧ x.only [] [accErrOf 0x29] y)) ∧
    ((x.cal.event.isSome = true ∨ x.clo.move.isSome = true ∨ x.takes 0x29 = false ∨ x.on F.CLO_CTRL_EN = false ∨
      x.cloFaulted = true) → Effect (.cloOpen d) d s (fun y => y.pends (accErrOf 0x29) = true ∧ x.only [] [accErrOf
      0x29] y)) ∧
    ((x.cal.event.isSome = true ∨ x.clo.move.isSome = true ∨ x.takes 0x29 = false ∨ x.on F.CLO_CTRL_EN = false ∨
      x.cloFaulted = true) → Effect (.cloHome d) d s (fun y => y.pends (accErrOf 0x29) = true ∧ x.only [] [accErrOf
      0x29] y)) ∧
    (x.on F.CLO_CTRL_EN = false → x.on F.CLO_CTRL_AUTOHOME = false → x.rake.frameOpen = false → Effect (.cloEnable d)
      d s (fun y => y.on F.CLO_CTRL_EN = true ∧ y.clo = x.clo ∧ (x.get F.CLO_DRV_PAIR < 8 → y.get (F.PWM_OWN_OWN (2 *
      x.get F.CLO_DRV_PAIR)) = 2 ∧ y.get (F.PWM_OWN_OWN (2 * x.get F.CLO_DRV_PAIR + 1)) = 2) ∧ x.only ([F.CLO_CTRL_EN,
      F.CLO_POS_HALL0, F.CLO_POS_HALL1, F.CLO_POS_STATE, F.STAT_IDLE 0x29] ++ ((List.range 16).map F.PWM_OWN_OWN))
      [341] y)) ∧
    (x.cal.event = none → x.get F.CAL_STATE_PHASE ≠ 6 → x.rake.frameOpen = false → x.on F.CLO_CTRL_EN = false → x.on
      F.CLO_CTRL_AUTOHOME = true → x.cloFaulted = false → x.clo.move = none → x.halls.1 = false → Effect (.cloEnable
      d) d s (fun y => y.on F.CLO_CTRL_EN = true ∧ (y.clo.move = some
      { closing := false, seg := if x.cloBoost false = 0 then 1 else 0, began := s.now, again := false }) ∧
      ({ x with clo := y.clo, pwm := { x.pwm with low := y.pwm.low } }).only ([F.CLO_CTRL_EN, F.CLO_POS_HALL0,
      F.CLO_POS_HALL1, F.CLO_POS_STATE, F.STAT_IDLE 0x29] ++ ((List.range 16).map F.PWM_OWN_OWN)) [341] y)) ∧
    (x.cal.event = none → x.get F.CAL_STATE_PHASE ≠ 6 → x.rake.frameOpen = false → x.on F.CLO_CTRL_EN = true →
      x.cloFaulted = false → x.clo.closingAt.isSome = true → x.clo.move = none → x.openRest = false → x.halls.1 =
      false → Effect (.forcedOpen d) d s (fun y => y.pends 340 = true ∧ (y.clo.move = some
      { closing := false, seg := if x.cloBoost false = 0 then 1 else 0, began := s.now, again := false }) ∧
      ({ x with clo := y.clo, pwm := { x.pwm with low := y.pwm.low } }).only [F.CLO_POS_HALL0, F.CLO_POS_HALL1,
      F.CLO_POS_STATE, F.STAT_IDLE 0x29] [340, 341] y)) ∧
    (x.get F.CAL_STATE_PHASE ≠ 6 → x.clo.move = some m → m.seg = 0 → x.cloTarget m.closing = false → Effect (.boostEnd
      d) d s (fun y => y.clo = { x.clo with move := some { m with seg := 1 } } ∧ ({ x with clo := y.clo }).only [] []
      y)) ∧
    (x.cal.event = none → x.get F.CAL_STATE_PHASE ≠ 6 → x.rake.frameOpen = false → x.boot.banks.getLsbD 1 = false →
      x.clo.move = none → Effect (.hallChange d a b) d s (fun y => y.clo.hall0 = a ∧ y.clo.hall1 = b ∧ y.on
      F.CLO_POS_HALL0 = (a != x.on F.CLO_DRV_HALL0_POL) ∧ y.on F.CLO_POS_HALL1 = (b != x.on F.CLO_DRV_HALL1_POL) ∧
      y.condOn 341 = y.hallFailed ∧ ({ x with clo := y.clo }).only [F.CLO_POS_HALL0, F.CLO_POS_HALL1, F.CLO_POS_STATE,
      F.STAT_IDLE 0x29] [341] y)) ∧
    (x.cal.event = none → x.get F.CAL_STATE_PHASE ≠ 6 → x.rake.frameOpen = false → x.on F.CLO_CTRL_EN = true →
      x.cloFaulted = false → x.clo.move = some m → m.seg = 2 → m.closing = true → x.clo.reopen = false → x.halls.2 =
      true → Effect (.brakeEnd d) d s (fun y => y.clo.move = none ∧ y.pends 337 = true ∧ y.get F.CLO_POS_CLOSE_T = min
      255 ((s.now - m.began) / 250000) ∧ ({ x with clo := y.clo, nvs := y.nvs }).only [F.CLO_POS_CLOSE_T,
      F.CLO_POS_HALL0, F.CLO_POS_HALL1, F.CLO_POS_STATE, F.STAT_IDLE 0x29] [337, 341] y)) ∧
    (x.cal.event = none → x.get F.CAL_STATE_PHASE ≠ 6 → x.rake.frameOpen = false → x.on F.CLO_CTRL_EN = true →
      x.cloFaulted = false → x.clo.move = some m → m.seg = 2 → m.closing = false → x.halls.1 = true → Effect
      (.brakeEnd d) d s (fun y => y.clo.move = none ∧ y.clo.closingAt = none ∧ y.pends 338 = true ∧ y.get
      F.CLO_POS_OPEN_T = min 255 ((s.now - m.began) / 250000) ∧ ({ x with clo := y.clo, nvs := y.nvs }).only
      [F.CLO_POS_OPEN_T, F.CLO_POS_CLOSURE, F.CLO_POS_HALL0, F.CLO_POS_HALL1, F.CLO_POS_STATE, F.STAT_IDLE 0x29] [338,
      341] y)) ∧
    (x.cal.event = none → x.get F.CAL_STATE_PHASE ≠ 6 → x.rake.frameOpen = false → x.on F.CLO_CTRL_EN = true →
      x.cloFaulted = false → x.clo.move = some m → m.seg = 2 → m.again = false → x.cloTarget m.closing = false →
      Effect (.brakeEnd d) d s (fun y => y.pends 339 = true ∧ (y.clo.move = some
      { closing := m.closing, seg := if x.cloBoost m.closing = 0 then 1 else 0, began := s.now, again := true }) ∧
      ({ x with clo := y.clo, pwm := { x.pwm with low := y.pwm.low } }).only [F.CLO_POS_HALL0, F.CLO_POS_HALL1,
      F.CLO_POS_STATE, F.STAT_IDLE 0x29] [339, 341] y)) ∧
    (x.cal.event = none → x.get F.CAL_STATE_PHASE ≠ 6 → x.rake.frameOpen = false → x.on F.CLO_CTRL_EN = true →
      x.cloFaulted = false → x.clo.move = some m → m.seg < 2 → m.again = true → m.closing = true → x.halls.2 = false →
      x.halls.1 = false → Effect (.moveTimeout d) d s (fun y => y.pends 339 = true ∧ y.condOn 345 = true ∧ y.pends 340
      = true ∧ (y.clo.move = some
      { closing := false, seg := if x.cloBoost false = 0 then 1 else 0, began := s.now, again := false }) ∧
      ({ x with clo := y.clo, pwm := { x.pwm with low := y.pwm.low } }).only [F.CLO_POS_HALL0, F.CLO_POS_HALL1,
      F.CLO_POS_STATE, F.STAT_IDLE 0x29] [339, 340, 341, 345] y)) ∧
    (x.cal.event = none → x.get F.CAL_STATE_PHASE ≠ 6 → x.rake.frameOpen = false → x.on F.CLO_CTRL_EN = true →
      x.cloFaulted = false → x.clo.move = none → x.halls.1 = false → x.halls.2 = false → x.clo.idle = false → Effect
      (.hallIdleTimeout d) d s (fun y => y.clo = { x.clo with idle := true } ∧ y.condOn 341 = true ∧
      ({ x with clo := y.clo }).only [F.CLO_POS_HALL0, F.CLO_POS_HALL1, F.CLO_POS_STATE, F.STAT_IDLE 0x29] [341] y)) ∧
    (x.on F.CLO_HTR_EN = true → x.bladeInBand = true → x.on F.CLO_HTR_STAT_READY = false → (x.clo.bandFrom.any (fun t
      => secsPassed s.now t 10) = true) → Effect (.htrReady d err) d s (fun y => y.on F.CLO_HTR_STAT_READY = true ∧
      y.get F.CLO_HTR_Q_ERR = min 65535 (if x.clo.bandCnt = 0 then err else sqrtRound (100 * x.clo.bandSq)
      x.clo.bandCnt) ∧ y.pends 342 = true ∧ (∀ t ∈ x.clo.heatFrom, y.get F.CLO_HTR_Q_SETTLE = min 65535 ((s.now - t) /
      250000000)) ∧ x.only [F.CLO_HTR_STAT_READY, F.CLO_HTR_Q_SETTLE, F.CLO_HTR_Q_ERR] [342] y)) ∧
    ((x.bladeInBand = false ∨ x.clo.bandFrom = none ∨ x.on F.CLO_HTR_EN = false) → Effect (.htrReady d err) d s (fun y
      => x.only [] [] y))

/-- R150, R151, R162, R163, R164, R171, R173, R174, R181, R183, R184. CAL_TIMER_DUE, when the first event's time or
the interval has come, makes an event due: PHASE, REASON, a request for the grant, and event 325. DEFER_TIMEOUT, after
DEFER_MAX seconds, raises DEFER_LONG once. SHUTTER_EVENT_START plans the event and begins it with event 321, or finds
that it does not fit with RESULT 7 and event 326. PLANE_WRITER_DONE judges the event: accepted with RESULT 1 in PHASE
8, or RESULT 2, 3, 4 or 6 with the event over. BG_ESTIMATE, after 512 blanking words, keeps the estimates of a core
that converts where they have no predecessor, and arms a trim moved one code when two agree. CAL_RECORD_WRITE, when a
record is due and SAVE_MIN has passed, begins one in the slot not written last, with the next generation; REC_SAVED
shows slot and generation when its header reads VALID, with event 332. STAGGER_REQUEST enters a request of the group
at the arbiter, or with reason 0 withdraws it. STAGGER_GRANT gives the free grant, once GAP has passed, to the first
request, and a grant that arrives from the partner reaches the die that waits. STAGGER_RELEASE gives the grant up with
the blade at its open rest. -/
def Obligations.Calibration : Prop :=
  ∀ (s : State) (d : DieId) (first : Bool) (e : CalEvent) (v : Int) (who : DieId) (reason : Nat) (slot : Nat) (gen :
    Nat) (r : StaggerReq) (x : Die), s.running d → s.die d = x →
    (x.jobRuns 1 = true → x.on F.CAL_CTRL_EN = true → x.on F.CAL_CTRL_AUTO = true → x.condOn 357 = false →
      x.cal.hostDue = false → x.cal.event = none → x.get F.CAL_STATE_PHASE = 0 → x.firstDue s.now = true → Effect
      (.calTimerDue d true) d s (fun y => y.get F.CAL_STATE_PHASE = 1 ∧ y.get F.CAL_STATE_REASON = 1 ∧ y.on
      F.CAL_PAIR_WAIT = true ∧ y.pends 325 = true ∧ .staggerRequest x.id 1 ∈ y.out ∧ y.cal =
      { x.cal with waitFrom := s.now, deferred := false } ∧ ({ x with cal := y.cal }).only [F.CAL_STATE_PHASE,
      F.CAL_STATE_REASON, F.CAL_PAIR_WAIT] [325, 334] y)) ∧
    (x.jobRuns 1 = true → x.on F.CAL_CTRL_EN = true → x.on F.CAL_CTRL_AUTO = true → x.condOn 357 = false →
      x.cal.hostDue = false → x.cal.event = none → x.get F.CAL_STATE_PHASE = 0 → x.firstDue s.now = false → x.get
      F.CAL_PRED_PRED < x.get F.CAL_DRIFT1_LIMIT → x.interval ≤ x.calAge s.now → Effect (.calTimerDue d false) d s
      (fun y => y.get F.CAL_STATE_PHASE = 1 ∧ y.get F.CAL_STATE_REASON = 2 ∧ y.on F.CAL_PAIR_WAIT = true ∧ y.pends 325
      = true ∧ .staggerRequest x.id 2 ∈ y.out ∧ y.cal = { x.cal with waitFrom := s.now, deferred := false } ∧
      ({ x with cal := y.cal }).only [F.CAL_STATE_PHASE, F.CAL_STATE_REASON, F.CAL_PAIR_WAIT] [325, 334] y)) ∧
    ((x.jobRuns 1 = false ∨ (first = true ∧ x.firstDue s.now = false) ∨ (first = false ∧ x.calAge s.now < x.interval))
      → Effect (.calTimerDue d first) d s (fun y => x.only [] [] y)) ∧
    (x.get F.CAL_STATE_PHASE = 1 → x.cal.deferred = false → secsPassed s.now x.cal.waitFrom (x.get
      F.CAL_POLICY_DEFER_MAX) = true → Effect (.deferTimeout d) d s (fun y => y.cal = { x.cal with deferred := true }
      ∧ y.pends 327 = true ∧ ({ x with cal := y.cal }).only [] [327] y)) ∧
    (x.mayStart (s.die d.other) s.now = true → x.planF ≠ 0 → DieAnswers (.shutterEventStart d) d s (fun y => y.pends
      321 = true ∧ y.on F.CAL_PAIR_WAIT = false ∧ y.get F.CAL_STATE_PHASE = 2 ∧ y.get F.CAL_STATE_F = x.planF % 2 ^
      F.CAL_STATE_F.width ∧ (y.cal.event.map (fun e => (e.gain, e.f, e.first)) = some (x.get F.SEQ_FCFG_GAIN, x.planF,
      x.frame.num)))) ∧
    (x.mayStart (s.die d.other) s.now = true → x.planF = 0 → Effect (.shutterEventStart d) d s (fun y => y.get
      F.CAL_RES_RESULT = 7 ∧ y.pends 326 = true ∧ y.on F.CAL_PAIR_WAIT = false ∧ y.get F.CAL_STATE_PHASE = 0 ∧ y.get
      F.CAL_STATE_REASON = 0 ∧ ({ x with cal := y.cal, mbx := y.mbx }).only [F.CAL_RES_RESULT, F.CAL_PAIR_WAIT,
      F.CAL_STATE_PHASE, F.CAL_STATE_REASON] [326] y)) ∧
    (x.jobRuns 1 = true → x.cal.event = some e → e.writing = true → e.accepted = false → e.armed = false → DieAnswers
      (.planeWriterDone d) d s (fun y => y.get F.CAL_RES_RESULT ∈ [1, 2, 3, 4, 6] ∧ (y.get F.CAL_RES_RESULT = 1 →
      y.get F.CAL_STATE_PHASE = 8 ∧ y.cal.event.map (fun e => e.accepted) = some true) ∧ (y.get F.CAL_RES_RESULT ≠ 1 →
      y.cal.event = none))) ∧
    (∀ (lo hi : Nat), x.jobRuns 1 = true → x.on F.CAL_CTRL_BG_EN = true → x.takes 0x28 = true → 512 ≤ x.cal.words →
      x.converts 1 = true → x.coreChecked 1 2 0 = true → lo < hi → x.cal.ests = [] → x.cal.trims = [] → Effect
      (.bgEstimate d [{ clu := 1, ch := 2, core0 := some (lo, hi) }] []) d s (fun y => y.cal =
      { x.cal with words := x.cal.words - 512, ests := [((F.bgTrim 1 2 1).key, nearestInt ((256 * (x.getS (F.CLU_CTRIM0_OFFSET 1 2) + 32768) - (lo + hi)) * 24576) (hi - lo)), ((F.bgTrim 1 2 0).key, nearestInt ((8192 + x.getS (F.CLU_CTRIM0_GAIN 1 2)) * bgSpan) (hi - lo) - 8192)] }
      ∧ ({ x with cal := y.cal }).only [] [] y)) ∧
    (x.jobRuns 1 = true → x.on F.CAL_CTRL_BG_EN = true → x.takes 0x28 = true → 512 ≤ x.cal.words → x.converts 1 = true
      → x.coreChecked 1 2 0 = true → x.coreChecked 1 2 1 = true → x.cal.ests = [((F.bgTrim 1 2 4).key, x.getS
      (F.CLU_SKEW_SKEW 1 2) - nearestInt v 512)] → x.cal.trims = [] → nearestInt v 512 < 0 → x.getS (F.CLU_SKEW_SKEW 1
      2) < 31 → x.commitPending 0x81 = false → DieAnswers (.bgEstimate d [{ clu := 1, ch := 2, skew := some v }] []) d
      s (fun y => y.written (F.CLU_SKEW_SKEW 1 2) = ofSigned 6 (x.getS (F.CLU_SKEW_SKEW 1 2) + 1) ∧ y.commitPending
      0x81 = true)) ∧
    ((x.cal.words < 512 ∨ x.on F.CAL_CTRL_BG_EN = false) → Effect (.bgEstimate d [] []) d s (fun y => x.only [] [] y))
      ∧
    (x.jobRuns 1 = true → x.takes 0x28 = true → x.recordDue s.now = true → x.cal.record = none → x.nvsHalted = false →
      x.canRead 320 256 = true → Effect (.calRecordWrite d) d s (fun y => y.cal =
      { x.cal with record := some (x.nvs.nextSlotOf true), recordDue := false, recordAt := some s.now } ∧
      x.nvs.queue.length < y.nvs.queue.length ∧ ({ x with cal := y.cal, nvs := y.nvs }).only [] [] y)) ∧
    (x.recordDue s.now = false → Effect (.calRecordWrite d) d s (fun y => x.only [] [] y)) ∧
    (x.cal.record = some (slot, gen) → x.cal.recordMbx = false → leAt (x.nvs.logical (slotPage true slot)) 3 1 = 2 →
      x.nvs.slotGen true slot = gen → Effect (.recSaved d) d s (fun y => y.cal.record = none ∧ y.get F.CAL_REC_SLOT =
      slot % 2 ^ F.CAL_REC_SLOT.width ∧ y.get F.CAL_REC_GEN = gen % 2 ^ F.CAL_REC_GEN.width ∧ y.pends 332 = true ∧
      ({ x with cal := y.cal }).only [F.CAL_REC_SLOT, F.CAL_REC_GEN] [332] y)) ∧
    (x.arbitrates (s.die d.other) = true → x.inGroup (s.die d.other) false who = true → reason ≠ 0 → x.cal.requests =
      [] → Effect (.staggerRequest d false who reason) d s (fun y => y.cal =
      { x.cal with requests := [{ partner := false, die := who, reason := reason, came := s.now }] } ∧
      ({ x with cal := y.cal }).only [] [] y)) ∧
    (x.arbitrates (s.die d.other) = true → Effect (.staggerRequest d false who 0) d s (fun y => y.cal =
      { x.cal with requests := dropRequest x.cal.requests false who } ∧ ({ x with cal := y.cal }).only [] [] y)) ∧
    (x.pairRole = 2 → x.partnerIn (s.die d.other) = true → x.pairBars (s.die d.other) = false → x.on F.CAL_PAIR_WAIT =
      true → Effect (.staggerGrant d true) d s (fun y => y.on F.CAL_PAIR_GRANT = true ∧ x.only [F.CAL_PAIR_GRANT] []
      y)) ∧
    (x.mayGrant (s.die d.other) s.now = true → x.liveRequests (s.die d.other) x.cal.requests = [r] → r.partner = false
      → r.die = d → Effect (.staggerGrant d false) d s (fun y => y.on F.CAL_PAIR_GRANT = true ∧ y.cal =
      { x.cal with holder := some r, requests := [] } ∧ ({ x with cal := y.cal }).only [F.CAL_PAIR_GRANT] [] y)) ∧
    (x.mayGrant (s.die d.other) s.now = false → Effect (.staggerGrant d false) d s (fun y => x.only [] [] y)) ∧
    (x.on F.CAL_PAIR_GRANT = true → x.openRest = true → DieAnswers (.staggerRelease d) d s (fun y => y.on
      F.CAL_PAIR_GRANT = false ∧ .staggerRelease d ∈ y.out ∧ ({ x with cal := y.cal }).only [F.CAL_PAIR_GRANT] [] y))

/-- R188, R189, R190, R193, R199, Table 6.1, Table 6.2. A frame start packet of an enabled context begins its frame,
with the context's number advanced and event 449, but for one that comes in the cycle of the enabling, which is lost
(log entry 98), and one that comes while a reset of the port waits, which uses up its number; a frame end packet ends
it, with event 450. A line of an open frame goes into the context's ring, and embedded data to the frame. A packet on
no context's channel is counted and reported, as are a bad CRC, a header that cannot be corrected and a
start-of-transmission error. A silent channel's frame ends with event 457. Any packet ends LINK_DOWN. -/
def Obligations.CameraPackets : Prop :=
  ∀ (s : State) (d : DieId) (port : Fin 4) (vc : Nat) (num : Nat) (dt : Nat) (n : Nat) (data : List Byte) (f :
    CtxFrame) (x : Die), s.running d → s.die d = x →
    (x.on (F.CTRL_EN (csiPage port.val)) = true → x.portCtxs port.val vc = [n] → x.on (F.CTX_SRC_EN n) = true →
      (x.ctxOf n).rx = false → x.takes (csiPage port.val) = true → ((x.ctxOf n).active = true ∨ (x.ctxOf n).askedAt ≠
      some s.now) → Effect (.csiFrameStartPacket d port vc num .clean) d s (fun y => y.pends (449 + 16 * port.val) =
      true ∧ y.condOn (462 + 16 * port.val) = false ∧ (y.ctxOf n).rx = true ∧ (y.ctxOf n).active = true ∧ (y.ctxOf
      n).frames.length = (x.ctxOf n).frames.length + 1 ∧ y.get (F.CTX_FRAME_LO_NUM n) = (x.get64 (F.CTX_FRAME_LO_NUM
      n) (F.CTX_FRAME_HI_NUM n) + 1) % 2 ^ 32)) ∧
    (x.on (F.CTRL_EN (csiPage port.val)) = true → x.portCtxs port.val vc = [n] → x.on (F.CTX_SRC_EN n) = true →
      (x.ctxOf n).rx = false → x.takes (csiPage port.val) = false → Effect (.csiFrameStartPacket d port vc num .clean)
      d s (fun y => y.pends (449 + 16 * port.val) = true ∧ (y.ctxOf n).rx = false ∧ ((x.ctxOf n).active = true →
      (x.ctxOf n).frames = [] → (x.ctxOf n).holds = [] → (y.ctxOf n).frames = [] ∧ (y.ctxOf n).gap = true ∧ y.get
      (F.CTX_FRAME_LO_NUM n) = (x.get64 (F.CTX_FRAME_LO_NUM n) (F.CTX_FRAME_HI_NUM n) + 1) % 2 ^ 32))) ∧
    (x.on (F.CTRL_EN (csiPage port.val)) = true → x.portCtxs port.val vc = [n] → x.on (F.CTX_SRC_EN n) = true →
      (x.ctxOf n).rx = false → x.takes (csiPage port.val) = true → (x.ctxOf n).active = false → (x.ctxOf n).askedAt =
      some s.now → (x.ctxOf n).frames = [] → (x.ctxOf n).holds = [] → Effect (.csiFrameStartPacket d port vc num
      .clean) d s (fun y => (y.ctxOf n).gap = true ∧ (y.ctxOf n).rx = false ∧ (y.ctxOf n).frames = [])) ∧
    (x.on (F.CTRL_EN (csiPage port.val)) = true → x.portCtxs port.val vc = [] → Effect (.csiFrameStartPacket d port vc
      num .clean) d s (fun y => y.pends (455 + 16 * port.val) = true ∧ y.get (F.CSI_UNMATCHED_DT port.val) = 0 ∧ y.get
      (F.CSI_UNMATCHED_VC port.val) = vc % 2 ^ (F.CSI_UNMATCHED_VC port.val).width ∧ x.only [F.CSI_UNMATCHED_COUNT
      port.val, F.CSI_UNMATCHED_DT port.val, F.CSI_UNMATCHED_VC port.val] [455 + 16 * port.val, 462 + 16 * port.val]
      y)) ∧
    (x.on (F.CTRL_EN (csiPage port.val)) = true → x.portCtxs port.val vc = [n] → x.on (F.CTX_SRC_EN n) = true →
      (x.ctxOf n).rx = true → (x.ctxOf n).discarding = false → (x.ctxOf n).frames = [f] → DieAnswers
      (.csiFrameEndPacket d port vc .clean) d s (fun y => y.pends (450 + 16 * port.val) = true ∧ (y.ctxOf n).rx =
      false ∧ ((y.ctxOf n).frames.map (fun g => (g.num, g.ended)) = [(f.num, true)]) ∧
      ({ x with ipp := y.ipp, dma := y.dma }).onlyPages [0x40 + port.val, 0x14] [450 + 16 * port.val, 458 + 16 *
      port.val, 462 + 16 * port.val, 118, 121] y)) ∧
    (x.on (F.CTRL_EN (csiPage port.val)) = true → x.portCtxs port.val vc = [n] → x.get (F.CTX_SRC_DT n) = dt → dt ≠
      0x12 → (x.ctxOf n).rx = true → (x.ctxOf n).discarding = false → (x.ctxOf n).held = [] → (x.ctxOf n).frames = [f]
      → f.units = [] → f.lens = [] → 0 < f.lines → f.ended = false → (x.freeSlot n).isSome = true → x.bufferFill n ≤
      x.bufferSize n → DieAnswers (.csiLongPacket d port vc dt data .clean true) d s (fun y => ((y.ctxOf n).frames.map
      (fun g => (g.num, g.got, g.lens.length)) = [(f.num, f.got + 1, 1)]) ∧ (y.ctxOf n).held = [])) ∧
    (x.on (F.CTRL_EN (csiPage port.val)) = true → x.portCtxs port.val vc = [n] → (x.ctxOf n).rx = true → (x.ctxOf
      n).discarding = false → (x.ctxOf n).frames = [f] → Effect (.csiLongPacket d port vc 0x12 data .clean true) d s
      (fun y => (y.ctxOf n).frames = [{ f with emb := (f.emb ++ data).take 16384 }] ∧ ({ x with ipp := y.ipp }).only
      [] [462 + 16 * port.val] y)) ∧
    (x.on (F.CTRL_EN (csiPage port.val)) = true → Effect (.csiLongPacket d port vc dt data .clean false) d s (fun y =>
      y.pends (453 + 16 * port.val) = true ∧ (x.get (F.CSI_ERR_CNT_CRC port.val) < 1023 → y.get (F.CSI_ERR_CNT_CRC
      port.val) = x.get (F.CSI_ERR_CNT_CRC port.val) + 1) ∧ x.only [F.CSI_ERR_CNT_CRC port.val] [453 + 16 * port.val,
      462 + 16 * port.val] y)) ∧
    (x.on (F.CTRL_EN (csiPage port.val)) = true → vc < 16 → Effect (.lineSyncPacket d port vc .clean) d s (fun y =>
      y.condOn (462 + 16 * port.val) = false ∧ x.only [] [462 + 16 * port.val] y)) ∧
    (x.on (F.CTRL_EN (csiPage port.val)) = true → vc < 16 → Effect (.genericShortPacket d port vc .clean) d s (fun y
      => y.condOn (462 + 16 * port.val) = false ∧ x.only [] [462 + 16 * port.val] y)) ∧
    (x.on (F.CTRL_EN (csiPage port.val)) = true → vc < 16 → Effect (.genericShortPacket d port vc .uncorrectable) d s
      (fun y => y.pends (452 + 16 * port.val) = true ∧ y.condOn (462 + 16 * port.val) = false ∧ x.only
      [F.CSI_ERR_CNT_ECC_UNCORR port.val] [452 + 16 * port.val, 462 + 16 * port.val] y)) ∧
    (x.portCtxs port.val vc = [n] → (x.ctxOf n).rx = true → (x.ctxOf n).discarding = false → (x.ctxOf n).frames = [f]
      → DieAnswers (.frameTmo d port vc) d s (fun y => y.pends (457 + 16 * port.val) = true ∧ (y.ctxOf n).rx = false ∧
      ({ x with ipp := y.ipp, dma := y.dma }).onlyPages [0x40 + port.val, 0x14] [457 + 16 * port.val, 458 + 16 *
      port.val, 118, 121] y)) ∧
    (x.on (F.CTRL_EN (csiPage port.val)) = true → Effect (.csiLinkDown d port) d s (fun y => y.condOn (462 + 16 *
      port.val) = true ∧ x.only [] [462 + 16 * port.val] y)) ∧
    (x.on (F.CTRL_EN (csiPage port.val)) = true → Effect (.sotErr d port) d s (fun y => y.pends (454 + 16 * port.val)
      = true ∧ x.only [F.CSI_ERR_CNT_SOT port.val] [454 + 16 * port.val] y))

/-- R190, R194, R195, R212, R213, R215, R216. CONTEXT_ENABLE writes the source register of a context and is rejected
with ACC_ERR for an encoding outside its range. TOKEN_POST queues the context's staged settings, up to eight, and
beyond them raises TOKEN_FULL. UNIT_START starts the ready unit of a context that lacks no buffer, and UNIT_DONE ends
it. VTX_FRAME_BEGIN begins the frame that waits for the transmit port, and FRAME_SENT sends the lines of one that is
whole and counts it, with event 537, and reports an underrun of one that is not. -/
def Obligations.PipelineUnits : Prop :=
  ∀ (s : State) (d : DieId) (n : Nat) (val : Nat) (bad : List (Nat × Nat)) (f : CtxFrame) (u : RingUnit) (v :
    VtxFrame) (b : OutBuf) (x : Die), s.running d → s.die d = x →
    (n < 8 → x.ctxRejects n val = false → (x.ctxOf n).active = false → Effect (.contextEnable d n val) d s (fun y =>
      (∀ f ∈ ctxSrcFields n, y.get f = f.ofWord val) ∧ (x.on (F.CTX_SRC_EN n) = false ∧ y.on (F.CTX_SRC_EN n) = true →
      (y.ctxOf n).askedAt = some s.now) ∧ (x.on (F.CTX_SRC_EN n) = true ∨ y.on (F.CTX_SRC_EN n) = false → y.ipp =
      x.ipp) ∧ ({ x with ipp := y.ipp }).only (ctxSrcFields n) [] y)) ∧
    (n < 8 → ((F.CTX_SRC_SHARE n).ofWord val = 3 ∨ 4 < (F.CTX_SRC_SRC n).ofWord val ∨ (F.CTX_SRC_IN_SLOTS_M1 n).ofWord
      val = 0) → Effect (.contextEnable d n val) d s (fun y => y.pends (accErrOf 0x44) = true ∧ x.only [] [accErrOf
      0x44] y)) ∧
    (n < 8 → (x.ctxOf n).tokens.length < 8 → Effect (.tokenPost d n val) d s (fun y => (y.ctxOf n).tokens.length =
      (x.ctxOf n).tokens.length + 1 ∧ ((y.ctxOf n).tokens.getLast?.map (fun t => t.value) = some (val % 65536)) ∧
      y.get (F.CTX_TOKEN_PENDING n) = (x.ctxOf n).tokens.length + 1 ∧ ({ x with ipp := y.ipp }).only
      [F.CTX_TOKEN_VALUE n, F.CTX_TOKEN_PENDING n] [] y)) ∧
    (n < 8 → 8 ≤ (x.ctxOf n).tokens.length → Effect (.tokenPost d n val) d s (fun y => y.pends 514 = true ∧ y.pends
      (accErrOf 0x44) = true ∧ x.only [] [514, accErrOf 0x44] y)) ∧
    (x.ipp.running = none → x.ippAccepts = true → n < 8 → x.readyUnit n = some (f, u) → x.starved n = false → (∀ k ∈
      List.range 8, k ≠ n → x.readyUnit k = none) → Effect (.unitStart d) d s (fun y => y.ipp.running = some n ∧
      y.ipp.began = s.now ∧ y.on (F.STAT_BUSY 0x44) = true ∧ y.on (F.STAT_IDLE 0x44) = false ∧
      ({ x with ipp := y.ipp }).only [F.STAT_IDLE 0x44, F.STAT_BUSY 0x44] [] y)) ∧
    (x.ipp.running = some n → DieAnswers (.unitDone d bad) d s (fun y => y.ipp.running = none ∧ y.ipp.last = some n ∧
      y.on (F.STAT_BUSY 0x44) = false ∧ y.on (F.STAT_IDLE 0x44) = true)) ∧
    (x.ipp.vtxNext = some v → x.ipp.vtx = none → x.on (F.CTRL_EN 0x47) = true → x.takes 0x47 = true → x.on
      F.VTX_CTRL_EMB = false → Effect (.vtxFrameBegin d) d s (fun y => y.ipp =
      { x.ipp with vtxNext := none, vtx := some v, under := false } ∧ y.out = [.vtxFrame (v.num % 65535 + 1) (if
      (x.vtxFrame v).val (F.CTX_DISP_FMT v.ctx) = 2 then 0x1E else 0x2A) (x.get F.VTX_PKT_VC) [] (x.on
      F.VTX_CTRL_LSLE)] ∧ ({ x with ipp := y.ipp }).only [] [] y)) ∧
    ((x.ipp.vtxNext = none ∨ x.ipp.vtx.isSome = true ∨ x.on (F.CTRL_EN 0x47) = false ∨ x.takes 0x47 = false) → Effect
      (.vtxFrameBegin d) d s (fun y => x.only [] [] y)) ∧
    (x.ipp.vtx = some v → (∀ g ∈ (x.ctxOf v.ctx).frames, g.num ≠ v.num) → Effect (.frameSent d) d s (fun y =>
      y.ipp.vtx = none ∧ y.ipp.under = false ∧ y.pends 537 = true ∧ ({ x with ipp := y.ipp, free := y.free }).only
      [F.VTX_STAT_SENT] [537] y)) ∧
    (x.ipp.vtx = some v → (∀ g ∈ (x.ctxOf v.ctx).frames, g.num ≠ v.num) → x.ipp.bufs = [b] → x.ipp.done = [] → b.ctx =
      v.ctx ∧ b.out = 0 ∧ b.num = v.buf ∧ b.bytes ≠ [] → Effect (.frameSent d) d s (fun y => (y.out = [.vtxLines (if
      b.fmt = 2 then 0x1E else 0x2A) (x.get F.VTX_PKT_VC) ((List.range b.height).map (fun i => (b.bytes.drop (i *
      b.stride)).take (if b.fmt = 2 then 2 * b.width else b.width)))]) ∧ y.ipp.vtx = none ∧ (x.get F.VTX_STAT_SENT <
      65535 → y.get F.VTX_STAT_SENT = x.get F.VTX_STAT_SENT + 1) ∧ ({ x with ipp := y.ipp }).only [F.VTX_STAT_SENT]
      [537] y)) ∧
    (x.ipp.vtx = some v → x.ipp.under = false → f ∈ (x.ctxOf v.ctx).frames → f.num = v.num → Effect (.frameSent d) d s
      (fun y => y.ipp = { x.ipp with under := true } ∧ y.pends 539 = true ∧ ({ x with ipp := y.ipp }).only [] [539]
      y))

/-- R223, R224, R225, R226, R229, R230, Table 7.11. ESN_ASSIGN gives the one output of the oldest complete frame the
next ESN, chains its tag over the header, the payload's hash and the opening's hash, and counts it in the epoch, with
event 529; with no number reserved the frame waits and STARVE holds. RESERVED puts a new limit in force, with event
547. EPOCH_CUT closes an epoch of 64 frames, or of one and 1 s, and queues its record. SEALED takes the oldest record
from the queue, signed, with event 545. SEAL_WAIT raises event 552's condition while a record waits. -/
def Obligations.Evidence : Prop :=
  ∀ (s : State) (d : DieId) (e : DoneFrame) (b : OutBuf) (v : Nat) (r : SealReq) (rest : List SealReq) (x : Die),
    s.running d → s.die d = x →
    (x.tagging = true → x.noKey = false → x.get F.EVD_START_KIND = 0 → x.ipp.done = [e] → e.outs = [b] → x.evd.streams
      = [] → x.evd.lastNum = [] → x.evd.count < 63 → (x.takes 0x50 = true ∨ e.late = false) → x.esn < x.esnLimit →
      DieAnswers (.esnAssign d) d s (fun y => y.esn = (x.esn + 1) % 2 ^ 48 ∧ y.evd.count = x.evd.count + 1 ∧
      y.ipp.done = [] ∧ y.pends 529 = true ∧ y.evd.lastNum.look (3 * e.ctx + b.out) = some (e.frame.num + 1) ∧
      y.evd.streams =
      [{ stream := 3 * e.ctx + b.out, esn := x.esn, num := e.frame.num, tag := hmacSha256 x.evd.key (x.header256 (s.env d) e b 0 0 false ++ sha256 b.bytes ++ x.evd.openHash) }]))
      ∧
    (x.tagging = true → x.ipp.done = [e] → e.outs = [b] → (x.takes 0x50 = true ∨ e.late = false) → x.esnLimit ≤ x.esn
      → DieAnswers (.esnAssign d) d s (fun y => y.esn = x.esn ∧ y.ipp.done = x.ipp.done ∧ y.condOn 548 = true ∧
      y.evd.starving = [(e.ctx, e.frame.num)] ∧ (x.condOn 548 = false → y.pends 548 = true))) ∧
    (x.jobRuns 3 = true → x.evd.opening = none → x.evd.reserving = some v → v ≤ x.nvs.tally 0 → x.ipp.done = [] →
      x.esn < x.nvs.tally 0 % 2 ^ 48 → Effect (.reserved d) d s (fun y => y.esnLimit = x.nvs.tally 0 % 2 ^ 48 ∧ y.evd
      = { x.evd with reserving := none, starving := [] } ∧ y.pends 547 = true ∧ ({ x with evd := y.evd }).only
      [F.EVD_LIMIT_LO_LIMIT, F.EVD_LIMIT_HI_LIMIT] [547, 548] y)) ∧
    (x.tagging = true → x.noKey = false → x.evd.queue = [] → (64 ≤ x.evd.count ∨ (1 ≤ x.evd.count ∧ x.evd.cutAt +
      250000000 ≤ s.now)) → DieAnswers (.epochCut d) d s (fun y => y.get F.EVD_EPOCH_EPOCH = (x.get F.EVD_EPOCH_EPOCH
      + 1) % 2 ^ F.EVD_EPOCH_EPOCH.width ∧ y.evd.count = 0 ∧ y.evd.cutAt = s.now ∧ y.evd.key = x.evd.nextKey ∧
      y.evd.unsealed = x.evd.key ∧ (y.evd.queue.map (fun r => (r.type, r.epoch, r.next, r.limit)) = [(1, x.get
      F.EVD_EPOCH_EPOCH, x.esn, x.esnLimit)]) ∧ (y.evd.queue.map (fun r => r.commit) = [sha256 x.evd.nextKey]) ∧ y.on
      F.EVD_EPOCH_WAITING = true)) ∧
    ((x.evd.count = 0 ∨ x.evd.queue ≠ []) → Effect (.epochCut d) d s (fun y => x.only [] [] y)) ∧
    (x.evd.queue = r :: rest → r.ask = false → x.maySign = true → r.type = 1 → x.evd.sealAsk = false → x.evd.count <
      64 → DieAnswers (.sealed d) d s (fun y => y.evd.queue = rest ∧ y.evd.slot = (x.evd.slot + 1) % 16 ∧ y.get
      F.EVD_SEAL_IDX_SLOT = x.evd.slot % 16 ∧ y.pends 545 = true ∧ y.get F.EVD_SEAL_IDX_EPOCH = r.epoch % 2 ^
      F.EVD_SEAL_IDX_EPOCH.width)) ∧
    (x.evd.queue ≠ [] → Effect (.sealWait d) d s (fun y => y.condOn 552 = true ∧ (x.condOn 552 = false → y.pends 552 =
      true) ∧ x.only [] [552] y)) ∧
    (x.evd.queue = [] → Effect (.sealWait d) d s (fun y => x.only [] [] y))

/-- R232, R233, R234, R235, Table 7.7, R342. PFAIL_ASSERT limits the Seed Tray to EP writes, raises event 549 and
begins the close with a FINAL record; a second one changes nothing. CLOSE_DONE, when the FINAL is signed and all is
written, shows the close done and closed, with event 550, and a close for PFAIL_N counts in tally 4. A session that is
opening starts at a RESERVED when all that its opening has written is in the Seed Tray (log entry 109). PFAIL_RESTART,
with the close over, ends the restriction. CERT_DATA_READ answers four bytes and advances the index. RNG_HEALTH_FAIL
clears RNG_OK, raises event 562's condition and ends the keys of the session. -/
def Obligations.EvidenceClose : Prop :=
  ∀ (s : State) (d : DieId) (n : Nat) (o : Opening) (x : Die), s.running d → s.die d = x →
    (x.evd.pfail = false → x.boot.power ≠ 2 → x.tagging = true → x.noKey = false → x.ipp.done = [] → DieAnswers
      (.pfailAssert) d s (fun y => y.evd.pfail = true ∧ y.on F.NVS_STATE_EP_ONLY = true ∧ y.pends 549 = true ∧
      y.evd.closing = some s.now ∧ (y.evd.queue.map (fun r => (r.type, r.next)) = [(2, x.esn)]) ∧ y.tagging = false ∧
      (∀ q ∈ y.nvs.queue, q ∈ x.nvs.queue))) ∧
    (x.evd.pfail = true → DieAnswers (.pfailAssert) d s (fun y => y.evd = x.evd ∧ x.only [] [] y)) ∧
    (x.evd.closing = some n → x.evd.finalSigned = true → x.closeWrites = false → x.evd.ringOnly = false →
      x.evd.closeAsk = false → x.evd.pfClose = false → Effect (.closeDone d) d s (fun y => y.on F.EVD_CLOSE_DONE =
      true ∧ y.on F.EVD_CTRL_CLOSED = true ∧ y.get F.EVD_CLOSE_TIME = min 8191 ((s.now - n) / 250) ∧ y.pends 550 =
      true ∧ y.evd = { x.evd with closing := none, live := false } ∧ ({ x with evd := y.evd }).only [F.EVD_CLOSE_DONE,
      F.EVD_CTRL_CLOSED, F.EVD_CLOSE_TIME] [550] y)) ∧
    (x.evd.closing = some n → x.evd.finalSigned = true → x.closeWrites = false → x.evd.ringOnly = false →
      x.evd.closeAsk = false → x.evd.pfClose = true → Effect (.closeDone d) d s (fun y => y.on F.EVD_CLOSE_DONE = true
      ∧ y.on F.EVD_CTRL_CLOSED = true ∧ y.pends 550 = true ∧ y.evd =
      { x.evd with closing := none, live := false, pfClose := false } ∧ y.nvs.queue = x.nvs.queue ++
      [{ prio := 2, what := .add 4 1, tag := .none }] ∧ ({ x with evd := y.evd, nvs := y.nvs }).only
      [F.EVD_CLOSE_DONE, F.EVD_CTRL_CLOSED, F.EVD_CLOSE_TIME] [550] y)) ∧
    (x.evd.pfail = true → x.evd.closing = none → x.on F.EVD_CTRL_CLOSED = false → x.boot.power ≠ 2 → Effect
      (.pfailRestart d) d s (fun y => y.evd = { x.evd with pfail := false } ∧ y.on F.NVS_STATE_EP_ONLY = false ∧
      ({ x with evd := y.evd }).only [F.NVS_STATE_EP_ONLY] [] y)) ∧
    (Effect (.certDataRead d) d s (fun y => y.out = [.regData x.certRead.2] ∧ (x.get F.CRY_CERT_LEN_LEN ≤ 4 * x.get
      F.CRY_CERT_IDX_IDX → y.out = [.regData 0]) ∧ y.get F.CRY_CERT_IDX_IDX = (x.get F.CRY_CERT_IDX_IDX + 1) % 2 ^
      F.CRY_CERT_IDX_IDX.width ∧ x.only [F.CRY_CERT_IDX_IDX] [] y)) ∧
    (x.evd.live = true → DieAnswers (.rngHealthFail d) d s (fun y => y.on F.CRY_STATE_RNG_OK = false ∧ y.condOn 562 =
      true ∧ y.noKey = true ∧ y.evd.queue = [])) ∧
    (x.evd.live = false → x.evd.opening = none → Effect (.rngHealthFail d) d s (fun y => y.on F.CRY_STATE_RNG_OK =
      false ∧ y.condOn 562 = true ∧ (x.condOn 562 = false → y.pends 562 = true) ∧ x.only [F.CRY_STATE_RNG_OK] [562]
      y)) ∧
    (x.jobRuns 3 = true → x.evd.opening = some o → (∃ r ∈ x.nvs.queue, r.tag = .opening) → Effect (.reserved d) d s
      (fun y => x.only [] [] y)) ∧
    (x.jobRuns 3 = true → x.evd.opening = some o → x.nvs.queue = [] → x.nvs.doing = none → o.noKey = false →
      DieAnswers (.reserved d) d s (fun y => y.evd.opening = none ∧ y.evd.live = true ∧ y.evd.key = o.key ∧
      y.evd.openHash = o.hash ∧ y.get F.EVD_START_KIND = o.kind % 2 ^ F.EVD_START_KIND.width ∧ y.esn = o.first % 2 ^
      48 ∧ y.on (F.CTRL_EN 0x50) = true))

/-- R244, R249, R250, R251, R252, R253, R258, Table 8.4. FCV_MAIN_GO in modes 0, 1 and 3 starts a run at START, in
mode 2 arms it, and during a run of mode 0 it is refused with ACC_ERR; disabled, in Hold or in Dormant the converter
refuses it. The first sample of a run falls on the first CONV edge at least 40 ns after its request, after an FTRIG
edge at least 60 ns and the DELAY on (that the edges fall on every fifth PERI cycle is log entry 100's choice).
FCV_MAIN_STOP ends the run. FCV_URG_GO starts the urgent run and suspends a main run whose next sample is at least 20
ns off, whose visit is dropped, holds one whose request landed in the same PERI cycle, and lets one whose last sample
falls before end; a second request is held and a third counted as merged. A trigger edge of the configured direction
makes the request, a period tick starts the run or counts an overrun with event 387, and the end of an urgent run
resumes the main run and leaves the visit's result to be delivered. -/
def Obligations.FieldConverterRuns : Prop :=
  ∀ (s : State) (d : DieId) (start : Nat) (mode : Nat) (rising : Bool) (volts : List Int) (t : Nat) (x : Die),
    s.running d → s.die d = x →
    (x.fcvOn = true → x.get F.FCV_STATE_MAIN = 0 → x.get F.FCV_STATE_URG = 0 → (mode = 0 ∨ mode = 1 ∨ mode = 3) →
      start < 64 → Effect (.fcvMainGo d start mode) d s (fun y => y.get F.FCV_STATE_MAIN = 2 ∧ y.get F.FCV_MAIN_START
      = start ∧ y.get F.FCV_MAIN_MODE = mode ∧ y.fcv =
      { x.fcv with mode := mode, mainEntry := start, mainTrig := false, comp := x.fieldComp, mainAt := some s.now, nextAt := some (convEdge s.now 10) }
      ∧ y.on (F.STAT_BUSY 0x38) = true ∧ y.on (F.STAT_IDLE 0x38) = false ∧ y.get F.FCV_STATE_ENTRY = start ∧
      ({ x with fcv := y.fcv }).only [F.FCV_STATE_MAIN, F.FCV_MAIN_START, F.FCV_MAIN_MODE, F.FCV_STATE_ENTRY,
      F.STAT_IDLE 0x38, F.STAT_BUSY 0x38] [] y)) ∧
    (x.fcvOn = true → x.get F.FCV_STATE_MAIN = 0 → Effect (.fcvMainGo d start 2) d s (fun y => y.get F.FCV_STATE_MAIN
      = 1 ∧ y.fcv = { x.fcv with mode := 2 } ∧ ({ x with fcv := y.fcv }).only [F.FCV_STATE_MAIN, F.FCV_MAIN_START,
      F.FCV_MAIN_MODE, F.FCV_STATE_ENTRY, F.STAT_IDLE 0x38, F.STAT_BUSY 0x38] [] y)) ∧
    (x.fcvOn = true → x.get F.FCV_STATE_MAIN = 2 → x.fcv.mode = 0 → Effect (.fcvMainGo d start mode) d s (fun y =>
      y.pends (accErrOf 0x38) = true ∧ y.get F.FCV_STATE_MAIN = 2 ∧ x.only [F.FCV_MAIN_START, F.FCV_MAIN_MODE,
      F.FCV_STATE_ENTRY, F.STAT_IDLE 0x38, F.STAT_BUSY 0x38] [accErrOf 0x38] y)) ∧
    ((x.on F.FCV_CTRL_EN = false ∨ 2 ≤ x.boot.power ∨ x.takes 0x38 = false) → Effect (.fcvMainGo d start mode) d s
      (fun y => y.pends (accErrOf 0x38) = true ∧ x.only [F.FCV_MAIN_START, F.FCV_MAIN_MODE, F.FCV_STATE_ENTRY,
      F.STAT_IDLE 0x38, F.STAT_BUSY 0x38] [accErrOf 0x38] y)) ∧
    (x.get F.FCV_STATE_URG = 0 → Effect (.fcvMainStop d start mode) d s (fun y => y.get F.FCV_STATE_MAIN = 0 ∧ y.on
      (F.STAT_IDLE 0x38) = !x.coreBusy s.now ∧ y.on (F.STAT_BUSY 0x38) = false ∧ (x.get F.FCV_STATE_MAIN = 2 →
      y.fcv.visit = none ∧ y.fcv.nextAt = none) ∧ (x.on F.FCV_CTRL_QINV = false → y.fcv.due = x.fcv.due) ∧
      ({ x with fcv := y.fcv }).only [F.FCV_STATE_MAIN, F.FCV_MAIN_START, F.FCV_MAIN_MODE, F.FCV_STATE_ENTRY,
      F.STAT_IDLE 0x38, F.STAT_BUSY 0x38] [] y)) ∧
    (x.fcvOn = true → x.get F.FCV_STATE_URG = 0 → start < 64 → x.get F.FCV_STATE_MAIN ≠ 2 → Effect (.fcvUrgGo d start)
      d s (fun y => y.get F.FCV_STATE_URG = 1 ∧ y.get F.FCV_URG_START = start ∧ y.get F.FCV_STATE_MAIN = x.get
      F.FCV_STATE_MAIN ∧ y.fcv =
      { x.fcv with urgEntry := start, urgTrig := false, comp := x.fieldComp, nextAt := some (x.fcv.nextAt.getD (convEdge s.now 10)) }
      ∧ y.on (F.STAT_BUSY 0x38) = true ∧ ({ x with fcv := y.fcv }).only [F.FCV_STATE_URG, F.FCV_URG_START,
      F.FCV_STATE_ENTRY, F.STAT_IDLE 0x38, F.STAT_BUSY 0x38] [] y)) ∧
    (x.fcvOn = true → x.get F.FCV_STATE_URG = 0 → start < 64 → x.get F.FCV_STATE_MAIN = 2 → x.fcv.mainAt ≠ some s.now
      → x.fcv.nextAt = some t → s.now + 5 ≤ t → Effect (.fcvUrgGo d start) d s (fun y => y.get F.FCV_STATE_URG = 1 ∧
      y.get F.FCV_URG_START = start ∧ y.get F.FCV_STATE_MAIN = 3 ∧ y.fcv =
      { x.fcv with urgEntry := start, urgTrig := false, comp := x.fieldComp, visit := none } ∧
      ({ x with fcv := y.fcv }).only [F.FCV_STATE_MAIN, F.FCV_STATE_URG, F.FCV_URG_START, F.FCV_STATE_ENTRY,
      F.STAT_IDLE 0x38, F.STAT_BUSY 0x38] [] y)) ∧
    (x.fcvOn = true → x.get F.FCV_STATE_URG = 0 → start < 64 → x.get F.FCV_STATE_MAIN = 2 → x.fcv.mainAt ≠ some s.now
      → x.fcv.nextAt = some t → t < s.now + 5 → x.fcv.mode = 0 → (x.visitNow x.fcv.mainEntry).last = true →
      (x.visitNow x.fcv.mainEntry).taken + 1 = (x.visitNow x.fcv.mainEntry).samples → Effect (.fcvUrgGo d start) d s
      (fun y => y.get F.FCV_STATE_URG = 1 ∧ y.get F.FCV_STATE_MAIN = 0 ∧ y.fcv.urgEntry = start ∧ y.fcv.due.length =
      x.fcv.due.length + 1 ∧ y.fcv.visit = none ∧ ({ x with fcv := y.fcv }).only [F.FCV_STATE_MAIN, F.FCV_STATE_URG,
      F.FCV_URG_START, F.FCV_STATE_ENTRY, F.STAT_IDLE 0x38, F.STAT_BUSY 0x38] [] y)) ∧
    (x.fcvOn = true → x.get F.FCV_STATE_URG = 0 → start < 64 → x.get F.FCV_STATE_MAIN = 2 → x.fcv.mainAt = some s.now
      → Effect (.fcvUrgGo d start) d s (fun y => y.get F.FCV_STATE_URG = 1 ∧ y.get F.FCV_URG_START = start ∧ y.get
      F.FCV_STATE_MAIN = 4 ∧ y.fcv =
      { x.fcv with urgEntry := start, urgTrig := false, comp := x.fieldComp, heldTrig := x.fcv.mainTrig, visit := none, nextAt := some (x.fcv.nextAt.getD (convEdge s.now 10)) }
      ∧ ({ x with fcv := y.fcv }).only [F.FCV_STATE_MAIN, F.FCV_STATE_URG, F.FCV_URG_START, F.FCV_STATE_ENTRY,
      F.STAT_IDLE 0x38, F.STAT_BUSY 0x38] [] y)) ∧
    (x.fcvOn = true → x.get F.FCV_STATE_URG = 1 → Effect (.fcvUrgGo d start) d s (fun y => y.get F.FCV_STATE_URG = 2 ∧
      y.fcv = { x.fcv with nextTrig := false } ∧ ({ x with fcv := y.fcv }).only [F.FCV_STATE_URG, F.FCV_URG_START] []
      y)) ∧
    (x.fcvOn = true → x.get F.FCV_STATE_URG = 2 → Effect (.fcvUrgGo d start) d s (fun y => y.get F.FCV_STATE_URG = 2 ∧
      (x.get F.FCV_CNT2_URG_MERGED < 65535 → y.get F.FCV_CNT2_URG_MERGED = x.get F.FCV_CNT2_URG_MERGED + 1) ∧ x.only
      [F.FCV_CNT2_URG_MERGED, F.FCV_URG_START] [] y)) ∧
    (x.fcvOn = true → x.boot.banks.getLsbD 1 = false → x.get F.FCV_TRIG_EDGE = (if rising then 1 else 2) → x.on
      F.FCV_TRIG_DEST = true → x.get F.FCV_STATE_URG = 0 → Effect (.ftrigEdge d rising) d s (fun y => y.get
      F.FCV_STATE_URG = 1 ∧ y.fcv.urgTrig = true ∧ y.fcv.urgEntry = x.get F.FCV_URG_START ∧ (x.get F.FCV_STATE_MAIN ≠
      2 → x.fcv.nextAt = none → y.fcv.nextAt = some (convEdge s.now (15 + 5 * x.get F.FCV_TRIG_DELAY))) ∧
      ({ x with fcv := y.fcv }).only [F.FCV_STATE_MAIN, F.FCV_STATE_URG, F.FCV_STATE_ENTRY, F.STAT_IDLE 0x38,
      F.STAT_BUSY 0x38] [] y)) ∧
    (x.fcvOn = true → x.boot.banks.getLsbD 1 = false → x.get F.FCV_TRIG_EDGE = 3 → x.on F.FCV_TRIG_DEST = false →
      x.fcv.mode = 2 → x.get F.FCV_STATE_MAIN = 1 → x.get F.FCV_STATE_URG = 0 → Effect (.ftrigEdge d rising) d s (fun
      y => y.get F.FCV_STATE_MAIN = 2 ∧ y.fcv.mainTrig = true ∧ y.fcv.mainEntry = x.get F.FCV_MAIN_START ∧
      y.fcv.nextAt = some (convEdge s.now (15 + 5 * x.get F.FCV_TRIG_DELAY)) ∧ ({ x with fcv := y.fcv }).only
      [F.FCV_STATE_MAIN, F.FCV_STATE_ENTRY, F.STAT_IDLE 0x38, F.STAT_BUSY 0x38] [] y)) ∧
    ((x.get F.FCV_TRIG_EDGE = (if rising then 2 else 1) ∨ x.fcvOn = false) → Effect (.ftrigEdge d rising) d s (fun y
      => x.only [] [] y)) ∧
    (x.fcvOn = true → x.fcv.mode = 1 → x.get F.FCV_STATE_MAIN = 1 → x.get F.FCV_STATE_URG = 0 → Effect (.fcvPeriodTick
      d) d s (fun y => y.get F.FCV_STATE_MAIN = 2 ∧ y.fcv.mainEntry = x.get F.FCV_MAIN_START ∧ y.on (F.STAT_BUSY 0x38)
      = true ∧ ({ x with fcv := y.fcv }).only [F.FCV_STATE_MAIN, F.FCV_STATE_ENTRY, F.STAT_IDLE 0x38, F.STAT_BUSY
      0x38] [] y)) ∧
    (x.fcvOn = true → x.fcv.mode = 1 → x.get F.FCV_STATE_MAIN = 2 → Effect (.fcvPeriodTick d) d s (fun y => y.pends
      387 = true ∧ y.get F.FCV_STATE_MAIN = 2 ∧ (x.get F.FCV_CNT1_OVERRUN < 65535 → y.get F.FCV_CNT1_OVERRUN = x.get
      F.FCV_CNT1_OVERRUN + 1) ∧ x.only [F.FCV_CNT1_OVERRUN, F.FCV_STATE_ENTRY, F.STAT_IDLE 0x38, F.STAT_BUSY 0x38]
      [387] y)) ∧
    (x.fcvRuns = true → x.get F.FCV_STATE_URG = 1 → x.get F.FCV_STATE_MAIN = 3 → (x.visitNow x.fcv.urgEntry).last =
      true → (x.visitNow x.fcv.urgEntry).samples ≤ volts.length → Effect (.urgentRunEnd d volts) d s (fun y => y.get
      F.FCV_STATE_URG = 0 ∧ y.get F.FCV_STATE_MAIN = 2 ∧ y.fcv.mainEntry = x.fcv.mainEntry ∧ y.fcv.due = x.fcv.due ++
      [x.ended { x.visitNow x.fcv.urgEntry with taken := (x.visitNow x.fcv.urgEntry).samples } true x.fcv.urgTrig
      false s.now (some volts)] ∧ ({ x with fcv := y.fcv }).only [F.FCV_STATE_MAIN, F.FCV_STATE_URG,
      F.FCV_STATE_ENTRY, F.STAT_IDLE 0x38, F.STAT_BUSY 0x38] [] y))

/-- R246, R247, R254, R255, R256, Table 8.6, R11. FCV_RESULT_DELIVERY delivers the oldest visit that has ended: the
scaled sum of its samples and its tags go into the channel's result register with VALID and NEW, the last of a main
run raises event 385 and of an urgent run 386. A result tagged for it enters the queue; over 240 entries a main result
is lost with event 390. FCV_QUEUE_READ takes the oldest entry from the queue and answers its low half, holding the
high half; of an empty queue it answers 0. FCV_QUEUE_PEEK answers the held half, or the oldest entry's high half with
TEAR. -/
def Obligations.FieldConverterResults : Prop :=
  ∀ (s : State) (d : DieId) (volts : List Int) (e : FcvEnded) (r : FcvResult) (q : Requester) (n : Nat) (rest : List
    Nat) (x : Die), s.running d → s.die d = x →
    (x.on F.FCV_CTRL_EN = true → x.fcv.due = [e] → e.volts = none → e.cut = false → e.inv = false → e.visit.dropped =
      [] → e.visit.queue = false → e.samples ≤ volts.length → e.visit.ch < 32 → e.visit.gain < 8 → (n =
      Sys2Proof.Machine.scaled ((List.range e.visit.cnt).map (fun i => (x.fieldSample e e.visit.gain (e.visit.inv + i)
      (volts.getD (e.visit.inv + i) 0)).1)).sum e.visit.shift) → n < 65536 → Effect (.fcvResultDelivery d volts) d s
      (fun y => y.get (F.FCV_RES_VALUE e.visit.ch) = n ∧ y.get (F.FCV_RES_GAIN e.visit.ch) = e.visit.gain % 2 ^
      (F.FCV_RES_GAIN e.visit.ch).width ∧ y.on (F.FCV_RES_VALID e.visit.ch) = true ∧ y.on (F.FCV_RES_PARTIAL
      e.visit.ch) = e.part ∧ y.fcv = { x.fcv with due := [] } ∧ (e.visit.last = true → y.pends (if e.urgent then 386
      else 385) = true))) ∧
    (x.on F.FCV_CTRL_EN = true → x.fcv.due = [e] → e.volts = none → x.results e volts = some ([r], x) → r.invalid =
      false → r.ch < 32 → r.queued = true → x.fcv.queue.length < 240 → (∀ k ∈ List.range 8, x.on (F.FCV_WIN_CFG_EN k)
      = false) → Effect (.fcvResultDelivery d volts) d s (fun y => y.fcv.queue = x.fcv.queue ++ [r.word false
      x.fcv.lost] ∧ y.fcv.due = [] ∧ y.fcv.lost = false ∧ y.get F.FCV_QSTAT_FILL = x.fcv.queue.length + 1 ∧ y.on
      (F.FCV_RES_OVR r.ch) = r.ovr ∧ (r.ovr = true → y.pends 391 = true))) ∧
    (x.on F.FCV_CTRL_EN = true → x.fcv.due = [e] → e.volts = none → x.results e volts = some ([r], x) → r.invalid =
      false → r.ch < 32 → r.queued = true → r.urgent = false → 240 ≤ x.fcv.queue.length → Effect (.fcvResultDelivery d
      volts) d s (fun y => y.fcv.queue = x.fcv.queue ∧ y.fcv.lost = true ∧ y.pends 390 = true)) ∧
    (x.fcv.queue = n :: rest → Effect (.fcvQueueRead d q) d s (fun y => y.fcv = { x.fcv with queue := rest } ∧ y.out =
      [.readData q (n % 2 ^ 32)] ∧ (y.held.find? (fun h => h.req = q && h.lo = 0x38060) = some
      { req := q, lo := 0x38060, word := n / 2 ^ 32 }) ∧ y.get F.FCV_QSTAT_FILL = rest.length % 2 ^
      F.FCV_QSTAT_FILL.width ∧ ({ x with fcv := y.fcv, held := y.held }).only [F.FCV_QSTAT_FILL] [389] y)) ∧
    (x.fcv.queue = [] → Effect (.fcvQueueRead d q) d s (fun y => y.out = [.readData q 0] ∧ (y.held.find? (fun h =>
      h.req = q && h.lo = 0x38060) = some { req := q, lo := 0x38060, word := 0xFFFFFFFF }) ∧
      ({ x with held := y.held }).only [] [] y)) ∧
    (x.held = [{ req := q, lo := 0x38060, word := n }] → Effect (.fcvQueuePeek d q) d s (fun y => y.out = [.readData q
      n] ∧ y.held = [] ∧ ({ x with held := [] }).only [] [] y)) ∧
    (x.held = [] → x.fcv.queue = n :: rest → Effect (.fcvQueuePeek d q) d s (fun y => y.out = [.readData q (n / 2 ^
      32)] ∧ y.on (F.STAT_TEAR 0x38) = true ∧ y.fcv = x.fcv ∧ x.only [F.STAT_TEAR 0x38] [] y))

/-- R261, R262, R264, R266, R267, R268, R269, R271, R272, R273, R274, Table 9.3. LOOP_EVALUATION of a running loop
with a fresh measurement inside its limits and no slew limit gives u by the control law: the proportional, integral
and derivative terms summed, rounded, shifted by GSHIFT and clamped to DMIN and DMAX. A measurement above MTRIP sets
the loop's TRIP with event 418. Skipped edges are counted with event 419. LOOP_HOLD_TIMEOUT takes the output of a
heater or cooler off, sets HOLD_TMO and stops the loop, with event 420. LOOP_TRIP_CLEAR clears the bits written 1 but
those set in the cycle of the write (log entry 90). LOOP_ENABLE takes a free output and is refused with ACC_ERR for
one that another loop owns. PWM_START starts the counters of the pairs named, each at its phase and in period 0 of its
run with what the last wrap took, its pins configured, and with the PWM disabled is refused with ACC_ERR. PWM_WRAP
begins the next period of a running pair with the duties written, but for one written in the cycle of the wrap: in
independent mode each output is high from the start for its duty's cycles. PWM_SAFE_SET makes outputs fixed-safe and
clears none. -/
def Obligations.LoopsAndPwm : Prop :=
  ∀ (s : State) (d : DieId) (n : Fin 16) (m : Int) (e : Int) (lim : Int) (mark : Nat) (val : Nat) (skipped : Nat)
    (mask : PendMask) (k : Fin 8) (x : Die), s.running d → s.die d = x →
    (x.loopRuns n.val = true → x.jobRuns 2 = true → x.loopRead n.val = (some m, false, mark) → (x.loop n.val).seen ≠
      some mark → x.bladeLoop n.val = false → x.getS (F.LOOP_MLO_LIMIT n.val) ≤ m → m ≤ x.getS (F.LOOP_MHI_LIMIT
      n.val) → m ≤ x.getS (F.LOOP_MTRIP_LIMIT n.val) → x.bitOf F.LPC_TRIP_TRIP n.val = false → x.get
      (F.LOOP_SLEW_VALUE n.val) = 0 → e = satS 32 (x.getS (F.LOOP_SP_VALUE n.val) - m) → lim = (x.get
      (F.LOOP_SAFE_IMAX_IMAX n.val) * 2 ^ x.get (F.LOOP_KD_GSHIFT n.val) : Nat) → Effect (.loopEvaluation d n 0) d s
      (fun y => y.getS (F.LOOP_U_U n.val) = clampI (x.getS (F.LOOP_DLIM_DMIN n.val)) (x.getS (F.LOOP_DLIM_DMAX n.val))
      (asr (x.getS (F.LOOP_KPKI_KP n.val) * e + clampI (-lim) lim ((x.loop n.val).integ + x.getS (F.LOOP_KPKI_KI
      n.val) * e) + x.getS (F.LOOP_KD_KD n.val) * ((x.loop n.val).prev.getD m - m) + (if x.get (F.LOOP_KD_GSHIFT
      n.val) = 0 then 0 else 2 ^ (x.get (F.LOOP_KD_GSHIFT n.val) - 1))) (x.get (F.LOOP_KD_GSHIFT n.val))) ∧ y.getS
      (F.LOOP_SPE_VALUE n.val) = x.getS (F.LOOP_SP_VALUE n.val) ∧ y.bitOf F.LPC_RUN_MFAULT n.val = false ∧ y.get
      (F.LOOP_U_STALE n.val) = 0 ∧ (y.loop n.val).prev = some m ∧
      ({ x with lpc := y.lpc, pwm := y.pwm, free := y.free }).only [F.LPC_LOAD_OVERRUNS, F.LPC_LOAD_BUSY,
      F.LOOP_U_STALE n.val, F.LOOP_M_VALUE n.val, F.LPC_RUN_MFAULT, F.LOOP_SPE_VALUE n.val, F.LOOP_U_SAT n.val,
      F.LOOP_I_VALUE n.val, F.LOOP_U_U n.val, F.PWM_DUTY_HIGH (x.get (F.LOOP_CFG_OUT n.val)), F.PWM_DUTY_FRAC (x.get
      (F.LOOP_CFG_OUT n.val)), F.PWM_DUTY_SIGN (x.get (F.LOOP_CFG_OUT n.val))] [417, 418] y)) ∧
    (x.loopRuns n.val = true → x.jobRuns 2 = true → x.loopRead n.val = (some m, false, mark) → (x.loop n.val).seen ≠
      some mark → x.bladeLoop n.val = false → x.getS (F.LOOP_MTRIP_LIMIT n.val) < m → DieAnswers (.loopEvaluation d n
      0) d s (fun y => y.bitOf F.LPC_TRIP_TRIP n.val = true ∧ y.condOn 418 = true ∧ (x.condOn 418 = false → y.pends
      418 = true) ∧ y.pwm.duty.getD (x.get (F.LOOP_CFG_OUT n.val)) 0 = 0)) ∧
    (x.loopRuns n.val = true → 0 < skipped → DieAnswers (.loopEvaluation d n skipped) d s (fun y => y.pends 419 = true
      ∧ (x.get F.LPC_LOAD_OVERRUNS + skipped < 65536 → y.get F.LPC_LOAD_OVERRUNS = x.get F.LPC_LOAD_OVERRUNS +
      skipped))) ∧
    (x.loopRuns n.val = true → x.loopHot n.val = true → Effect (.loopHoldTimeout d n) d s (fun y => (y.loop
      n.val).stopped = true ∧ y.bitOf F.LPC_TRIP_TMO n.val = true ∧ y.bitOf F.LPC_RUN_RUN n.val = false ∧
      y.pwm.duty.getD (x.get (F.LOOP_CFG_OUT n.val)) 0 = 0 ∧ y.pends 420 = true ∧
      ({ x with lpc := y.lpc, pwm := y.pwm }).only [F.LPC_TRIP_TMO, F.LPC_RUN_RUN, F.PWM_DUTY_HIGH (x.get
      (F.LOOP_CFG_OUT n.val)), F.PWM_DUTY_FRAC (x.get (F.LOOP_CFG_OUT n.val)), F.PWM_DUTY_SIGN (x.get (F.LOOP_CFG_OUT
      n.val))] [420] y)) ∧
    (Effect (.loopTripClear d mask) d s (fun y => y.bitOf F.LPC_TRIP_TRIP n.val = (x.bitOf F.LPC_TRIP_TRIP n.val &&
      !(mask.bits.testBit n.val && !(mask.tie && (justSet (some x.hits) F.LPC_TRIP_TRIP).testBit n.val))) ∧ y.bitOf
      F.LPC_TRIP_TMO n.val = (x.bitOf F.LPC_TRIP_TMO n.val && !(mask.bits.testBit (16 + n.val) && !(mask.tie &&
      (justSet (some x.hits) F.LPC_TRIP_TMO).testBit n.val))) ∧ x.only [F.LPC_TRIP_TRIP, F.LPC_TRIP_TMO] [418] y)) ∧
    (val = 0x80000000 + mark → mark < 16 → x.on (F.LOOP_CFG_EN n.val) = false → x.loopOwns mark (some n.val) = false →
      x.cloOwns (mark / 2) = false → 0 ≤ x.getS (F.LOOP_DLIM_DMIN n.val) → x.get (F.PWM_PAIR_CFG_MODE (mark / 2)) = 0
      → DieAnswers (.loopEnable d n val) d s (fun y => y.on (F.LOOP_CFG_EN n.val) = true ∧ y.get (F.LOOP_CFG_OUT
      n.val) = mark ∧ y.get (F.PWM_OWN_OWN mark) = 1 ∧ (y.loop n.val).stopped = false ∧ (y.loop n.val).prev = none ∧
      y.pends (accErrOf 0x39) = x.pends (accErrOf 0x39))) ∧
    (val = 0x80000000 + mark → mark < 16 → x.on (F.LOOP_CFG_EN n.val) = false → (x.loopOwns mark (some n.val) = true ∨
      x.cloOwns (mark / 2) = true) → Effect (.loopEnable d n val) d s (fun y => y.pends (accErrOf 0x39) = true ∧
      x.only [] [accErrOf 0x39] y)) ∧
    (x.on (F.CTRL_EN 0x3A) = true → val.testBit k.val = true → Effect (.pwmStart d val) d s (fun y => (y.pair
      k.val).running = true ∧ (y.pair k.val).period = 0 ∧ (y.pair k.val).from_ = x.get (F.PWM_PAIR_CFG_PHASE k.val) *
      (x.get (F.PWM_PAIR_PER_PER_M1 k.val) + 1) / 256 ∧ ((x.pair k.val).force.mode = 0 → (x.pair k.val).force.lowA =
      false → (y.pair k.val).waveA.2 = highCycles (x.pair k.val).force.even 0 (x.get (F.PWM_PAIR_PER_PER_M1 k.val) +
      1)) ∧ y.get (F.FUS_PIN_CONFIGURED ((13 + 2 * k.val) / 8) ((13 + 2 * k.val) % 8)) = 1 ∧ y.get
      (F.FUS_PIN_CONFIGURED ((14 + 2 * k.val) / 8) ((14 + 2 * k.val) % 8)) = 1 ∧ (({ x with pwm := y.pwm }).only
      ((List.range 16).map (fun j => F.FUS_PIN_CONFIGURED ((13 + j) / 8) ((13 + j) % 8))) [] y))) ∧
    (x.on (F.CTRL_EN 0x3A) = true → val.testBit k.val = false → Effect (.pwmStart d val) d s (fun y => y.pair k.val =
      x.pair k.val ∧ y.get (F.FUS_PIN_CONFIGURED ((13 + 2 * k.val) / 8) ((13 + 2 * k.val) % 8)) = x.get
      (F.FUS_PIN_CONFIGURED ((13 + 2 * k.val) / 8) ((13 + 2 * k.val) % 8)) ∧ (({ x with pwm := y.pwm }).only
      ((List.range 16).map (fun j => F.FUS_PIN_CONFIGURED ((13 + j) / 8) ((13 + j) % 8))) [] y))) ∧
    (x.on (F.CTRL_EN 0x3A) = false → Effect (.pwmStart d val) d s (fun y => y.pends (accErrOf 0x3A) = true ∧ x.only []
      [accErrOf 0x3A] y)) ∧
    ((x.pair k.val).running = true → x.on (F.CTRL_EN 0x3A) = true → x.boot.power < 3 → x.cloOwns k.val = false → x.get
      (F.PWM_PAIR_CFG_MODE k.val) = 0 → (x.dutyAt (2 * k.val)).low = false → (x.dutyAt (2 * k.val + 1)).low = false →
      Effect (.pwmWrap d k) d s (fun y => (y.pair k.val).running = true ∧ (y.pair k.val).period = ((x.pair
      k.val).period + 1) % 16 ∧ (y.pair k.val).from_ = 0 ∧ (x.pwm.fresh = [] → x.dutyAt (2 * k.val) =
      { out := 2 * k.val, duty := x.pwm.duty.getD (2 * k.val) 0, rev := x.on (F.PWM_DUTY_SIGN (2 * k.val)), low := x.pwm.low.getLsbD (2 * k.val) })
      ∧ (y.pair k.val).waveA = (0, highCycles (x.dutyAt (2 * k.val)).duty (((x.pair k.val).period + 1) % 16) (x.get
      (F.PWM_PAIR_PER_PER_M1 k.val) + 1)) ∧ (y.pair k.val).waveB = (0, highCycles (x.dutyAt (2 * k.val + 1)).duty
      (((x.pair k.val).period + 1) % 16) (x.get (F.PWM_PAIR_PER_PER_M1 k.val) + 1)) ∧ (∀ j ∈ List.range 8, j ≠ k.val →
      y.pair j = x.pair j) ∧ ({ x with pwm := y.pwm }).only [] [] y)) ∧
    (Effect (.pwmSafeSet d val) d s (fun y => y.get F.PWM_SAFE_SAFE = x.get F.PWM_SAFE_SAFE ||| val % 65536 ∧ x.only
      [F.PWM_SAFE_SAFE] [] y))

/-- R276, R278, R280, R281, R282, R283, Table 9.4, Table 9.5. LED_PERIOD_BOUNDARY advances the run of four LED periods
and gives each lit channel in level mode the on-time of its level; a channel that is not lit or has a fault stays off.
STROBE_REFERENCE schedules one pulse of the STROBE length after the delay, and with a pulse in progress raises event
444; a channel of another reference is left alone. STROBE_PULSE_END ends the oldest pulse. REF_LOST holds event 446's
condition and discards the pulses. LED_FAULT_DETECT holds the channel off with event 442 or 443 (OPEN of a channel
that is on, SHORT of a gate channel on or off), and LED_FAULT_CLEAR clears the bits written 1 but those set in the
cycle of the write (log entry 90). LED_SYNC_ARM arms the staged values, and is refused with ACC_ERR while a commit is
pending. -/
def Obligations.Lamps : Prop :=
  ∀ (s : State) (d : DieId) (k : Fin 12) (sns : List Nat) (v : Nat) (ref : Nat) (vc : Nat) (mask : PendMask) (short :
    Bool) (p : Nat × Nat) (rest : List (Nat × Nat)) (x : Die), s.running d → s.die d = x →
    (x.commitPending 0x3B = false → x.get (F.LED_CFG_MODE k.val) = 1 → x.bitOf F.LED_FAULT_OPEN k.val = false →
      x.bitOf F.LED_FAULT_SHORT k.val = false → (x.lamp k.val).fade = none → x.ledLit k.val = true → DieAnswers
      (.ledPeriodBoundary d sns) d s (fun y => y.led.phase = (x.led.phase + 1) % 4 ∧ (y.lamp k.val).onFor = ledCycles
      (ledLevel (x.get (F.LED_CFG_CURVE k.val)) (x.get (F.LED_STAT_B k.val))) ((x.led.phase + 1) % 4) ∧ (y.lamp
      k.val).code = x.ledCurrent k.val ∧ y.get (F.LED_STAT_B k.val) = x.get (F.LED_STAT_B k.val) ∧
      ({ x with led := y.led }).onlyPages [0x3B] [441] y)) ∧
    ((x.ledLit k.val = false ∨ x.bitOf F.LED_FAULT_OPEN k.val = true ∨ x.bitOf F.LED_FAULT_SHORT k.val = true) →
      x.commitPending 0x3B = false → DieAnswers (.ledPeriodBoundary d sns) d s (fun y => (y.lamp k.val).onFor = 0 ∧
      ({ x with led := y.led }).onlyPages [0x3B] [441] y)) ∧
    (x.get (F.LED_CFG_MODE k.val) = 2 → x.get (F.LED_CFG_REF k.val) = ref → ref = 0 → (x.lamp k.val).pulses = [] →
      x.ledLit k.val = true → (x.lamp k.val).held = false → 0 < x.get (F.LED_STROBE_VALUE k.val) → (∀ j ∈ List.range
      12, j ≠ k.val → x.get (F.LED_CFG_MODE j) ≠ 2) → Effect (.strobeReference d ref vc) d s (fun y => ((y.lamp
      k.val).pulses.map (fun q => q.2 - q.1) = [x.get (F.LED_STROBE_VALUE k.val) * 250]) ∧ (∀ q ∈ (y.lamp
      k.val).pulses, s.now + x.get (F.LED_SDELAY_VALUE k.val) * 250 + 15 ≤ q.1 ∧ q.1 ≤ s.now + x.get
      (F.LED_SDELAY_VALUE k.val) * 250 + 25) ∧ (y.lamp k.val).noRef = false ∧ (∀ j ∈ List.range 12, j ≠ k.val → y.lamp
      j = x.lamp j) ∧ ({ x with led := y.led, free := y.free }).only [] [446] y)) ∧
    (x.get (F.LED_CFG_MODE k.val) = 2 → x.get (F.LED_CFG_REF k.val) = ref → ref = 0 → (x.lamp k.val).pulses = [p] →
      p.1 ≤ s.now → s.now < p.2 → DieAnswers (.strobeReference d ref vc) d s (fun y => y.pends 444 = true ∧ (y.lamp
      k.val).pulses = [p])) ∧
    ((∀ j ∈ List.range 12, x.get (F.LED_CFG_MODE j) ≠ 2 ∨ x.get (F.LED_CFG_REF j) ≠ ref) → Effect (.strobeReference d
      ref vc) d s (fun y => x.only [] [] y)) ∧
    ((x.lamp k.val).pulses = p :: rest → x.on (F.LED_CFG_DRIVE k.val) = true → Effect (.strobePulseEnd d k v) d s (fun
      y => (y.lamp k.val).pulses = rest ∧ y.get (F.LED_SNS_SNS k.val) = v % 2 ^ (F.LED_SNS_SNS k.val).width ∧
      ({ x with led := y.led }).only [F.LED_SNS_SNS k.val] [] y)) ∧
    (x.get (F.LED_CFG_MODE k.val) = 2 → Effect (.refLost d k) d s (fun y => y.condOn 446 = true ∧ (x.condOn 446 =
      false → y.pends 446 = true) ∧ (y.lamp k.val).pulses = [] ∧ (y.lamp k.val).noRef = true ∧
      ({ x with led := y.led }).only [] [446] y)) ∧
    (((short = false ∧ 0 < (x.lamp k.val).onFor ∧ (x.lamp k.val).held = false) ∨ (short = true ∧ x.on (F.LED_CFG_DRIVE
      k.val) = true ∧ x.bitOf F.LED_FAULT_SHORT k.val = false)) → Effect (.ledFaultDetect d k short) d s (fun y =>
      (y.lamp k.val).held = true ∧ (y.lamp k.val).onFor = 0 ∧ (y.lamp k.val).pulses = [] ∧ y.pends (if short then 443
      else 442) = true ∧ y.bitOf (if short then F.LED_FAULT_SHORT else F.LED_FAULT_OPEN) k.val = true ∧ y.get
      (F.LED_STAT_FAULT k.val) = (if short then 2 else 1) ∧ ({ x with led := y.led }).only [if short then
      F.LED_FAULT_SHORT else F.LED_FAULT_OPEN, F.LED_STAT_FAULT k.val] [if short then 443 else 442] y)) ∧
    (Effect (.ledFaultClear d mask) d s (fun y => y.bitOf F.LED_FAULT_OPEN k.val = (x.bitOf F.LED_FAULT_OPEN k.val &&
      !(mask.bits.testBit k.val && !(mask.tie && (justSet (some x.hits) F.LED_FAULT_OPEN).testBit k.val))) ∧ y.bitOf
      F.LED_FAULT_SHORT k.val = (x.bitOf F.LED_FAULT_SHORT k.val && !(mask.bits.testBit (16 + k.val) && !(mask.tie &&
      (justSet (some x.hits) F.LED_FAULT_SHORT).testBit k.val))) ∧ x.only [F.LED_FAULT_OPEN, F.LED_FAULT_SHORT] [] y))
      ∧
    (x.commitPending 0x3B = false → Effect (.ledSyncArm d) d s (fun y => y.commitPending 0x3B = true ∧ y.led.sync =
      true ∧ y.led.synced = none ∧ y.led.armedAt = some s.now ∧ ({ x with led := y.led }).only [F.COMMIT_STAT_PENDING
      0x3B] [] y)) ∧
    (x.commitPending 0x3B = true → Effect (.ledSyncArm d) d s (fun y => y.pends (accErrOf 0x3B) = true ∧ x.only []
      [accErrOf 0x3B] y))

/-- R285, R288, R289, R297, R300, R303, Table 10.1. SENSOR_SAMPLE of a measured sensor that has not failed and serves
no zone shows its temperature, a remote diode's with its offset, and marks it valid; an open sensor fails with cause
1, is counted and holds event 37's condition until SENSOR_ACK. Two readings in a row of a zone's sensor at or above
SHUT + 10 degrees trip: the thermal restart is asserted. A shutdown temperature that crosses SHUT begins the orderly
stop with event 36. -/
def Obligations.ThermalSensors : Prop :=
  ∀ (s : State) (d : DieId) (k : Fin 10) (z : Fin 4) (m : Int) (v : Int) (p : Int) (val : Nat) (x : Die), s.running d
    → s.die d = x →
    (x.sensed k.val = true → x.on (F.THM_SENS_FAIL k.val) = false → x.judgeReading k.val (.temp m) = (some v, 0) →
      x.reaches k.val = [] → x.get F.CLO_HTR_TSEL ≠ k.val → Effect (.sensorSample d k (.temp m)) d s (fun y => v = m +
      (if k.val < 6 then 100 * x.getS (F.THM_DIODE_OFFSET k.val) else 0) ∧ y.getS (F.THM_SENS_TEMP k.val) = v ∧ y.on
      (F.THM_SENS_VALID k.val) = true ∧ y.get (F.THM_SENS_CAUSE k.val) = 0 ∧ (y.sensor k.val).last = some v ∧
      (y.sensor k.val).prev = some v)) ∧
    (x.sensed k.val = true → x.on (F.THM_SENS_FAIL k.val) = false → x.reaches k.val = [] → DieAnswers (.sensorSample d
      k .openCircuit) d s (fun y => y.on (F.THM_SENS_VALID k.val) = false ∧ y.on (F.THM_SENS_FAIL k.val) = true ∧ y.on
      (F.THM_SENS_ACKED k.val) = false ∧ y.get (F.THM_SENS_CAUSE k.val) = 1 ∧ y.condOn 37 = true ∧ (y.sensor
      k.val).failAt = s.now)) ∧
    (x.sensed k.val = true → x.on (F.THM_SENS_FAIL k.val) = false → x.judgeReading k.val (.temp m) = (some v, 0) →
      (x.sensor k.val).prev = some p → x.zoneOn z.val = true → x.bitOf (F.THM_ZONE_CFG_MASK z.val) k.val = true →
      x.thr F.THM_ZONE_THR_SHUT z.val + 10000 ≤ p → x.thr F.THM_ZONE_THR_SHUT z.val + 10000 ≤ v → x.boot.absorbed = []
      → DieAnswers (.sensorSample d k (.temp m)) d s (fun y => (y.boot.episode.any (fun e => e.reach = 5 && e.active =
      [3] && e.best.cause = 3) = true) ∧ y.inReset = true)) ∧
    (x.sensed k.val = true → x.on (F.THM_SENS_FAIL k.val) = false → x.judgeReading k.val (.temp m) = (some v, 0) →
      x.zoneOn z.val = true → x.members z.val = [k.val] → (x.zone z.val).graft = none → (x.zone z.val).shut = some p →
      x.thr F.THM_ZONE_THR_SHUT z.val ≤ p → x.thr F.THM_ZONE_THR_SHUT z.val ≤ v → x.tripHit k.val (x.sensor
      k.val).prev v = false → x.thm.stopping = false → DieAnswers (.sensorSample d k (.temp m)) d s (fun y =>
      y.thm.stopping = true ∧ y.pends 36 = true ∧ y.on F.NVS_STATE_STOPPED = true ∧ y.led.off = true)) ∧
    (val.testBit k.val = true → x.on (F.THM_SENS_FAIL k.val) = true → (x.sensor k.val).failAt < s.now → Effect
      (.sensorAck d val) d s (fun y => y.on (F.THM_SENS_ACKED k.val) = true ∧ y.on (F.THM_SENS_FAIL k.val) = true ∧ (∀
      j ∈ List.range 10, val.testBit j = false → y.get (F.THM_SENS_ACKED j) = x.get (F.THM_SENS_ACKED j)) ∧
      ({ x with thm := y.thm, ipp := y.ipp }).onlyPages [5] [33, 34, 35, 37, 38, 40, 41] y))

/-- R292, R293, R299, R300, R301, Table 10.4, Table 10.5, Table 10.7. LEVEL_STEP_UP raises the level of a hot zone by
one up to 7, and LEVEL_STEP_DOWN lowers a cool one's; the die's level is not below either. THROTTLE_ACTION at level 4
sets the array's LPM and at level 0 returns the value before, at once while the Rake is stopped and else set down as
due at the next frame boundary. D2D_STOP_SIGNAL begins the orderly stop that the other die has begun. THERMAL_LATCH
asserts the thermal restart on every die. COMP_UPDATE holds a trim to its limit. -/
def Obligations.ThermalActions : Prop :=
  ∀ (s : State) (d : DieId) (z : Fin 4) (t : Int × Nat) (v : Int) (x : Die), s.running d → s.die d = x →
    (x.zoneOn z.val = true → x.on (F.THM_ZONE_STAT_THROT z.val) = true → x.on (F.THM_ZONE_STAT_NOSENSOR z.val) = false
      → x.zoneTemp z.val = some t → x.thr F.THM_ZONE_THR_THROT z.val ≤ t.1 → Effect (.levelStepUp d z) d s (fun y =>
      y.get (F.THM_ZONE_STAT_LEVEL z.val) = min 7 (x.get (F.THM_ZONE_STAT_LEVEL z.val) + 1) ∧ y.get
      (F.THM_ZONE_STAT_LEVEL z.val) ≤ y.get F.THM_LEVEL_LEVEL ∧ (∀ j ∈ List.range 4, j ≠ z.val → y.get
      (F.THM_ZONE_STAT_LEVEL j) = x.get (F.THM_ZONE_STAT_LEVEL j)) ∧ ({ x with ipp := y.ipp }).onlyPages [5] [33, 34,
      35, 37, 38, 40, 41] y)) ∧
    (x.zoneOn z.val = true → x.on (F.THM_ZONE_STAT_THROT z.val) = false → x.on (F.THM_ZONE_STAT_NOSENSOR z.val) =
      false → (x.zone z.val).floor < x.get (F.THM_ZONE_STAT_LEVEL z.val) → Effect (.levelStepDown d z) d s (fun y =>
      y.get (F.THM_ZONE_STAT_LEVEL z.val) = x.get (F.THM_ZONE_STAT_LEVEL z.val) - 1 ∧ (∀ j ∈ List.range 4, j ≠ z.val →
      y.get (F.THM_ZONE_STAT_LEVEL j) = x.get (F.THM_ZONE_STAT_LEVEL j)) ∧ ({ x with ipp := y.ipp }).onlyPages [5]
      [33, 34, 35, 37, 38, 40, 41] y)) ∧
    (x.jobRuns 0 = true → x.thm.stopping = false → x.get F.THM_LEVEL_LEVEL = 4 → x.thm.acted = 3 → x.thm.waiting = []
      → x.thm.due = [] → x.rakeRuns = false → x.thm.taken = [] → x.commitPending (F.ACB_MODE_LPM).page = false → x.on
      F.ACB_MODE_LPM = false → DieAnswers (.throttleAction d) d s (fun y => y.on F.ACB_MODE_LPM = true ∧ y.thm.acted =
      4 ∧ y.thm.taken = [(4, F.ACB_MODE_LPM, 0, 1)] ∧ y.thm.waiting = [] ∧
      ({ x with acb := y.acb, thm := y.thm }).onlyPages [0x23] [179] y)) ∧
    (x.jobRuns 0 = true → x.thm.stopping = false → x.get F.THM_LEVEL_LEVEL = 4 → x.thm.acted = 3 → x.thm.waiting = []
      → x.thm.due = [] → x.rakeRuns = true → x.thm.taken = [] → x.commitPending (F.ACB_MODE_LPM).page = false → x.on
      F.ACB_MODE_LPM = false → Effect (.throttleAction d) d s (fun y => y.thm.due =
      [{ level := 4, fld := F.ACB_MODE_LPM, leaving := false, since := s.now }] ∧ y.thm.acted = 4 ∧ y.thm.waiting = []
      ∧ ({ x with thm := y.thm }).only [] [] y)) ∧
    (x.jobRuns 0 = true → x.thm.stopping = false → x.get F.THM_LEVEL_LEVEL = 0 → x.thm.waiting = [] → x.thm.due = [] →
      x.rakeRuns = false → x.thm.taken = [(4, F.ACB_MODE_LPM, 0, 1)] → x.commitPending (F.ACB_MODE_LPM).page = false →
      x.on F.ACB_MODE_LPM = true → DieAnswers (.throttleAction d) d s (fun y => y.on F.ACB_MODE_LPM = false ∧
      y.thm.acted = 0 ∧ y.thm.taken = [] ∧ ({ x with acb := y.acb, thm := y.thm }).onlyPages [0x23] [179] y)) ∧
    (x.jobRuns 0 = true → x.thm.stopping = false → x.get F.THM_LEVEL_LEVEL = 0 → x.thm.waiting = [] → x.thm.due = [] →
      x.rakeRuns = true → x.thm.taken = [(4, F.ACB_MODE_LPM, 0, 1)] → x.commitPending (F.ACB_MODE_LPM).page = false →
      x.on F.ACB_MODE_LPM = true → Effect (.throttleAction d) d s (fun y => y.thm.due =
      [{ level := 4, fld := F.ACB_MODE_LPM, leaving := true, since := s.now }] ∧ y.thm.acted = 0 ∧ y.on F.ACB_MODE_LPM
      = true ∧ ({ x with thm := y.thm }).onlyPages [0x23] [] y)) ∧
    (s.dual = true → (s.die d.other).thm.stopping = true → x.thm.stopping = false → DieAnswers (.d2dStopSignal d
      false) d s (fun y => y.thm.stopping = true ∧ y.pends 36 = true ∧ y.on F.NVS_STATE_STOPPED = true)) ∧
    ((s.die d.other).thm.stopping = false → (s.die d.other).boot.episode = none → Effect (.d2dStopSignal d false) d s
      (fun y => x.only [] [] y)) ∧
    (x.thm.stopping = true → x.boot.absorbed = [] → x.boot.episode = none → DieAnswers (.thermalLatch) d s (fun y =>
      (y.boot.episode.any (fun e => e.reach = 5 && e.active = [3]) = true) ∧ y.inReset = true)) ∧
    (x.on F.THM_COMP_ACB = true → x.thm.trims.length = 6 → Effect (.compUpdate d 1 [v]) d s (fun y => y.thm =
      { x.thm with trims := x.thm.trims.set 1 (clampI (-2000) 2000 v) } ∧ ((v < -2000 ∨ 2000 < v) → x.thm.trims.getD 1
      0 ≠ clampI (-2000) 2000 v → y.pends 42 = true) ∧ ({ x with thm := y.thm }).only [] [42] y)) ∧
    (x.on F.THM_COMP_ACB = false → Effect (.compUpdate d 1 [v]) d s (fun y => x.only [] [] y))

/-- R307, R308, R309, R310, R320, Table 11.1. A fall of a supply or of PORST_N begins an episode of power-on reach on
every die, one of RESET_N an episode of package reach unless the input is masked, with the filter of the pins on 500
ns after the fall, and a clock fault one of die cold reach on its die; each holds its die until it is released by the
recovery or the rise of that source. RESET_N_UNMASK ends the masking, and a level still low begins a new episode. -/
def Obligations.ResetSources : Prop :=
  ∀ (s : State) (d : DieId) (n : Fin 3) (absent : Bool) (e : Episode) (x : Die), s.has d = true → s.die d = x →
    (DieAnswers (.supplyFall n) d s (fun y => (y.boot.episode.any (fun e => 6 ≤ e.reach && e.active.contains 1 &&
      e.loading) = true) ∧ y.inReset = true ∧ y.boot.low.getLsbD n.val = true ∧ (∀ o ∈ afeOuts, y.outEn o = false))) ∧
    (x.boot.episode = some e → DieAnswers (.supplyRecover) d s (fun y => y.boot.low = 0 ∧ (y.boot.episode = some
      { e with active := e.active.filter (fun o => o != 1), begun := e.begun || (e.loading && loadMay e.reach (e.active.filter (fun o => o != 1))) })
      ∧ y.live = x.live ∧ ({ x with boot := y.boot }).only [] [] y)) ∧
    (x.thm.stopping = false → x.filters = false → DieAnswers (.porstNFall) d s (fun y => (y.boot.episode.any (fun e =>
      6 ≤ e.reach && e.active.contains 2 && e.loading) = true) ∧ y.inReset = true ∧ (∀ o ∈ afeOuts, y.outEn o =
      false))) ∧
    (x.boot.episode = some e → DieAnswers (.porstNRise) d s (fun y => (y.boot.episode = some
      { e with active := e.active.filter (fun o => o != 2), begun := e.begun || (e.loading && loadMay e.reach (e.active.filter (fun o => o != 2))) })
      ∧ y.live = x.live ∧ ({ x with boot := y.boot }).only [] [] y)) ∧
    (s.driving = false → s.unmasking = false → x.filters = true → Answers (.resetNFall) s (fun t => t.resetN = true ∧
      t.resetNAt = s.now ∧ (t.die d).boot.filt.getLast? = some (4, s.now + 125) ∧ (t.die d).boot.episode =
      x.boot.episode ∧ ({ x with boot := (t.die d).boot }).only [] [] (t.die d))) ∧
    (s.driving = false → s.unmasking = false → x.thm.stopping = false → x.filters = false → Answers (.resetNFall) s
      (fun t => t.resetN = true ∧ ((t.die d).boot.episode.any (fun e => e.reach = 5 && e.active = [4] && e.best.cause
      = 4) = true))) ∧
    ((s.driving = true ∨ s.unmasking = true) → Answers (.resetNFall) s (fun t => t =
      { s with resetN := true, resetNAt := s.now })) ∧
    (x.boot.episode = some e → Answers (.resetNRise) s (fun t => t.resetN = false ∧ ((t.die d).boot.episode = some
      { e with active := e.active.filter (fun o => o != 4), begun := e.begun || (e.loading && loadMay e.reach (e.active.filter (fun o => o != 4))) })
      ∧ ({ x with boot := (t.die d).boot }).only [] [] (t.die d))) ∧
    (s.unmasking = true → s.driving = false → s.resetN = false → Answers (.resetNUnmask) s (fun t => t =
      { s with unmasking := false })) ∧
    (s.unmasking = true → s.driving = false → s.resetN = true → x.thm.stopping = false → (x.filters = false ∨
      s.resetNAt + 125 ≤ s.now) → Answers (.resetNUnmask) s (fun t => t.unmasking = false ∧ ((t.die
      d).boot.episode.any (fun e => e.reach = 5 && e.active = [4]) = true))) ∧
    (x.thm.stopping = false → x.boot.episode = none → EffectMem (.clockFault d absent) d s (fun y _ =>
      (y.boot.episode.any (fun e => e.reach = 4 && e.active = [5] && e.best.cause = 5 && e.best.detail = 8) = true) ∧
      (absent = true → y.on F.CLK_STAT_REF_OK = false) ∧ (∀ o ∈ afeOuts, y.outEn o = false))) ∧
    (x.boot.episode = some e → Effect (.clockRecovered d) d s (fun y => (y.boot.episode = some
      { e with active := e.active.filter (fun o => o != 5), begun := e.begun || (e.loading && loadMay e.reach (e.active.filter (fun o => o != 5))) })
      ∧ y.on F.CLK_STAT_REF_OK = true ∧ y.nvs = x.nvs ∧ ({ x with boot := y.boot }).only [F.CLK_STAT_REF_OK] [] y))

/-- R309, R311, R312, R313, R314, R323, R329, R330, R356. A reset command with the key 0xC1D5 begins an episode of its
reach and leaves no source asserted: a die warm reset keeps the DRAM, the row store and the Seed Tray, a die cold
reset loses the DRAM. With another key nothing happens but ACC_ERR. FUSE_LOAD_DONE ends the load, of an episode or of
the start after a wake, and shows the straps and the code of the PKGCFG ball's voltage. RESET_RELEASE, with no source
left and the fuses loaded, records the reach, cause and detail and begins the start at step 2, or at step 1 after a
wake from Dormant. DORMANT_WAKE by an enabled source begins an episode of die cold reach, and the MP's retry one as
well. -/
def Obligations.ResetCommands : Prop :=
  ∀ (s : State) (d : DieId) (key : Nat) (target : Nat) (boot : Nat) (clkmode : Bool) (corr : Bool) (uncorr : Option
    (List FuseItem)) (pkgcfg : Nat) (e : Episode) (n : Fin 4) (x : Die), s.has d = true → s.die d = x →
    (x.inReset = false → x.thm.stopping = false → Effect (.rstDieWarm d 0xC1D5) d s (fun y => y.boot.episode = some
      { reach := 3, active := [], best := { order := 7, reach := 3, cause := 6, detail := 1, held := false }, loading := false, begun := false, restarts := 0 }
      ∧ y.rake.store = x.rake.store ∧ y.nvs = x.nvs.afterReset ∧ y.stage.w = x.stage.w ∧ (∀ o ∈ afeOuts, y.outEn o =
      false))) ∧
    (x.inReset = false → x.thm.stopping = false → EffectMem (.rstDieCold d 0xC1D5) d s (fun y m => y.boot.episode =
      some
      { reach := 4, active := [], best := { order := 7, reach := 4, cause := 6, detail := 1, held := false }, loading := false, begun := false, restarts := 0 }
      ∧ m = [] ∧ y.rake.store = [] ∧ y.nvs = x.nvs.afterReset ∧ (∀ o ∈ afeOuts, y.outEn o = false))) ∧
    (x.inReset = false → key ≠ 0xC1D5 → Effect (.rstDieWarm d key) d s (fun y => y.pends (accErrOf 0x01) = true ∧
      x.only [] [accErrOf 0x01] y)) ∧
    (x.inReset = false → key ≠ 0xC1D5 → Effect (.rstDieCold d key) d s (fun y => y.pends (accErrOf 0x01) = true ∧
      x.only [] [accErrOf 0x01] y)) ∧
    (x.inReset = false → x.thm.stopping = false → DieAnswers (.rstPackage d 0xC1D5) d s (fun y => y.boot.episode =
      some
      { reach := 5, active := [], best := { order := 7, reach := 5, cause := 6, detail := 1, held := false }, loading := true, begun := true, restarts := 0 }
      ∧ (∀ o ∈ afeOuts, y.outEn o = false))) ∧
    (x.inReset = false → key ≠ 0xC1D5 → Effect (.rstPackage d key) d s (fun y => y.pends (accErrOf 0x01) = true ∧
      x.only [] [accErrOf 0x01] y)) ∧
    (x.inReset = false → x.thm.stopping = false → Effect (.pcieFlr d) d s (fun y => y.boot.episode = some
      { reach := 3, active := [], best := { order := 7, reach := 3, cause := 6, detail := 3, held := false }, loading := false, begun := false, restarts := 0 }
      ∧ y.dma.bme = x.dma.bme ∧ y.dma.table = x.dma.table ∧ y.dma.width = x.dma.width ∧ (∀ o ∈ afeOuts, y.outEn o =
      false))) ∧
    (x.inReset = false → x.boot.retry = true → x.thm.stopping = false → EffectMem (.mpResetOrder d) d s (fun y m =>
      y.boot.episode = some
      { reach := 4, active := [], best := { order := 7, reach := 4, cause := 6, detail := 5, held := false }, loading := false, begun := false, restarts := 0 }
      ∧ m = [])) ∧
    (x.boot.episode = some e → e.loadRuns = true → boot < 4 → Effect (.fuseLoadDone d boot clkmode pkgcfg corr uncorr)
      d s (fun y => y.boot.episode = some { e with loading := false, begun := false } ∧ y.on F.FUS_STAT_LOADED = true
      ∧ y.on F.FUS_STAT_CORR = corr ∧ y.on F.FUS_STAT_UNCORR = uncorr.isSome ∧ y.get F.SYS_IDENT_BOOT = boot ∧ y.on
      F.SYS_IDENT_CLKMODE = clkmode ∧ y.get F.SYS_IDENT_PKGCFG = (if 1600000 < pkgcfg then 0 else min 15 (pkgcfg /
      100000)) ∧ y.get F.TRL_ADDR_MODE = y.get F.SYS_IDENT_PKGCFG % 4 ∧ (uncorr = none → y.get64
      F.SYS_SERIAL_LO_SERIAL F.SYS_SERIAL_HI_SERIAL = x.fuses.serial % 2 ^ 64))) ∧
    (x.boot.episode = none → x.startStep = 1 → boot < 4 → Effect (.fuseLoadDone d boot clkmode pkgcfg corr uncorr) d s
      (fun y => y.get F.RST_START_STEP = 2 ∧ y.startStep = 2 ∧ y.inReset = x.inReset ∧ y.on F.FUS_STAT_LOADED = true ∧
      y.on F.FUS_STAT_CORR = corr ∧ y.on F.FUS_STAT_UNCORR = uncorr.isSome ∧ y.get F.SYS_IDENT_BOOT = boot ∧ y.on
      F.SYS_IDENT_CLKMODE = clkmode ∧ y.get F.SYS_IDENT_PKGCFG = (if 1600000 < pkgcfg then 0 else min 15 (pkgcfg /
      100000)) ∧ y.get F.TRL_ADDR_MODE = y.get F.SYS_IDENT_PKGCFG % 4 ∧ y.condOn 7 = uncorr.isSome)) ∧
    (x.boot.episode = some e → e.active = [] → e.loading = false → e.reach < 7 → e.best.cause < 7 → e.best.detail < 32
      → Answers (.resetRelease d) s (fun t => (t.die d).inReset = x.boot.dormant ∧ (t.die d).get F.RST_CAUSE_REACH =
      e.reach ∧ (t.die d).get F.RST_CAUSE_CAUSE = e.best.cause ∧ (t.die d).get F.RST_CAUSE_DETAIL = e.best.detail ∧
      (t.die d).get F.RST_START_STEP = (if x.boot.unfused then 1 else 2) ∧ (4 ≤ e.reach → (t.die d).get
      F.RST_START_KIND = 0 ∧ (t.die d).boot.start = some { step := if x.boot.unfused then 1 else 2, at_ := s.now })))
      ∧
    (x.boot.dormant = true → n.val = 0 → x.boot.wake.testBit 0 = true → x.thm.stopping = false → x.boot.episode = none
      → EffectMem (.dormantWake d n) d s (fun y m => y.boot.episode = some
      { reach := 4, active := [], best := { order := 7, reach := 4, cause := 6, detail := 4, held := false }, loading := false, begun := false, restarts := 0 }
      ∧ y.boot.dormant = false ∧ m = [])) ∧
    (x.inReset = false → Effect (.rstCluster d 0xC1D5 target) d s (fun y => y.on (F.BRST_ACTIVE (0x80 + target % 32))
      = false ∧ y.on (F.CLU_CTRL_EN (target % 32)) = true ∧ y.on (F.CLU_GRAFT_ACTIVE (target % 32)) = false ∧ y.get
      (F.CLU_VOID_VOID (target % 32)) = 0 ∧ y.on (F.CLU_CTRL_AUTOGRAFT (target % 32)) = x.on (F.CLU_CTRL_AUTOGRAFT
      (target % 32)) ∧ y.get (F.CLU_CBIAS_EVEN (target % 32) 3) = x.get (F.CLU_CBIAS_EVEN (target % 32) 3) ∧
      y.rake.frameOpen = false ∧ y.rakeRuns = x.rakeRuns)) ∧
    (x.inReset = false → target % 32 < 4 → Effect (.rstRegion d 0xC1D5 target) d s (fun y => (∀ p ∈ regionPages
      target, y.on (F.BRST_ACTIVE p) = false) ∧ (∀ i ∈ List.range 8, y.on (F.CLU_CTRL_EN (8 * (target % 32) + i)) =
      true ∧ y.on (F.CLU_GRAFT_ACTIVE (8 * (target % 32) + i)) = false) ∧ y.get (F.ACB_CAP_CTRL_ROW (target % 32)) = 0
      ∧ y.get (F.ACB_UNDER_CNT_COUNT (target % 32)) = x.get (F.ACB_UNDER_CNT_COUNT (target % 32)) ∧ y.rake.frameOpen =
      false ∧ y.rakeRuns = x.rakeRuns)) ∧
    (x.inReset = false → key ≠ 0xC1D5 → Effect (.rstCluster d key target) d s (fun y => y.pends (accErrOf 0x01) = true
      ∧ x.only [] [accErrOf 0x01] y)) ∧
    (x.inReset = false → (key ≠ 0xC1D5 ∨ 4 ≤ target % 32) → Effect (.rstRegion d key target) d s (fun y => y.pends
      (accErrOf 0x01) = true ∧ x.only [] [accErrOf 0x01] y))

/-- R320, R321, R322, R323, R324, Table 11.5. COLD_START ends the step in progress of a cold start: a lock within
three attempts leads to step 3, with the retries counted and event 17 from the second attempt on, and none after three
fails the start with error 5; the SRAM test leads to DRAM training with the DRAM's contents lost; step 8 leads to step
9 when the homing move has ended, step 9 to step 10 when the session has been opened, step 10 to step 11 when no
output ramps, and step 11 completes the start with event 9 when the bias is good; until the Seed Tray is ready no step
but the lock ends (log entry 109). WARM_START does the same for a warm start. LIMITED_START begins a limited start
that is due. -/
def Obligations.StartSteps : Prop :=
  ∀ (s : State) (d : DieId) (r : StepReport) (q : Start) (n : Nat) (x : Die), s.running d → s.die d = x →
    (x.get F.RST_START_KIND = 0 → x.boot.start = some q → x.on F.NVS_STATE_READY = true → q.step = 2 → r.err = none →
      r.tries = n → 0 < n → n < 4 → x.get F.CLK_CNT_RETRIES + n - 1 < 2 ^ (F.CLK_CNT_RETRIES).width → DieAnswers
      (.coldStart d r) d s (fun y => (y.boot.start.map (fun q => q.step) = some 3) ∧ y.get F.RST_START_STEP = 3 ∧ y.on
      F.CLK_STAT_LOCKED = true ∧ y.get F.CLK_CNT_RETRIES = x.get F.CLK_CNT_RETRIES + (n - 1) ∧ (2 ≤ n → y.pends 17 =
      true))) ∧
    (x.get F.RST_START_KIND = 0 → x.boot.start = some q → x.on F.NVS_STATE_READY = true → q.step = 2 → 4 ≤ r.tries →
      x.get F.RST_START_TRIES < 2 → DieAnswers (.coldStart d r) d s (fun y => y.get F.RST_START_FAILSTEP = 2 ∧ y.get
      F.RST_START_ERR = 5 ∧ y.get F.RST_START_TRIES = x.get F.RST_START_TRIES + 1 ∧ y.boot.retry = true ∧ y.boot.start
      = none ∧ y.pends 10 = true)) ∧
    (x.get F.RST_START_KIND = 0 → x.boot.start = some q → x.on F.NVS_STATE_READY = true → q.step = 4 → r.err = some n
      → n < 256 → x.get F.RST_START_TRIES = 2 → DieAnswers (.coldStart d r) d s (fun y => y.get F.RST_START_FAILSTEP =
      4 ∧ y.get F.RST_START_ERR = n ∧ y.boot.limitedDue = some q.at_ ∧ y.boot.start = none ∧ y.pends 10 = true)) ∧
    (x.get F.RST_START_KIND = 0 → x.boot.start = some q → x.on F.NVS_STATE_READY = true → q.step = 6 → r.err = some n
      → x.get F.RST_START_TRIES = 2 → r.cores = [] → x.boot.limited = false → DieAnswers (.coldStart d r) d s (fun y
      => y.boot.start.map (fun q => q.step) = some 7)) ∧
    (x.get F.RST_START_KIND = 0 → x.boot.start = some q → x.on F.NVS_STATE_READY = true → q.step = 3 → r.err = none →
      x.boot.limited = false → EffectMem (.coldStart d r) d s (fun y m => (y.boot.start.map (fun q => q.step) = some
      4) ∧ y.get F.RST_START_STEP = 4 ∧ m = [])) ∧
    (x.get F.RST_START_KIND = 0 → x.boot.start = some q → x.on F.NVS_STATE_READY = true → q.step = 8 → x.clo.move =
      none → Effect (.coldStart d r) d s (fun y => (y.boot.start.map (fun q => q.step) = some 9) ∧ y.get
      F.RST_START_STEP = 9 ∧ ({ x with boot := y.boot }).only [F.RST_START_STEP] [] y)) ∧
    (x.get F.RST_START_KIND = 0 → x.boot.start = some q → x.on F.NVS_STATE_READY = false → r.err = none → q.step ≠ 2 →
      Effect (.coldStart d r) d s (fun y => x.only [] [] y)) ∧
    (x.get F.RST_START_KIND = 0 → x.boot.start = some q → x.on F.NVS_STATE_READY = true → q.step = 9 → q.opening =
      true → x.evd.opening.isSome = true → Effect (.coldStart d r) d s (fun y => x.only [] [] y)) ∧
    (x.get F.RST_START_KIND = 0 → x.boot.start = some q → x.on F.NVS_STATE_READY = true → q.step = 9 → q.opening =
      true → x.evd.opening = none → DieAnswers (.coldStart d r) d s (fun y => (y.boot.start.map (fun q => q.step) =
      some 10) ∧ y.get F.RST_START_STEP = 10 ∧ (x.bitOf F.AFE_TRIP_CAUSE AfeOut.vsd.idx = false → y.outEn .vsd =
      true))) ∧
    (x.get F.RST_START_KIND = 0 → x.boot.start = some q → x.on F.NVS_STATE_READY = true → q.step = 10 → x.get
      F.AFE_OUT_STAT_RAMPING = 0 → Effect (.coldStart d r) d s (fun y => (y.boot.start.map (fun q => q.step) = some
      11) ∧ ({ x with boot := y.boot }).only [F.RST_START_STEP] [] y)) ∧
    (x.get F.RST_START_KIND = 0 → x.boot.start = some q → x.on F.NVS_STATE_READY = true → q.step = 11 → x.outGood
      .vdet = true → x.outGood .vblind = true → DieAnswers (.coldStart d r) d s (fun y => y.boot.start = none ∧ y.on
      F.RST_START_DONE = true ∧ y.pends 9 = true ∧ y.get F.RST_TIME_US = min ((s.now - q.at_) * 4 / 1000) 0xFFFFFFFF ∧
      y.rakeRuns = true)) ∧
    (x.get F.RST_START_KIND = 1 → x.boot.start = some q → x.on F.NVS_STATE_READY = true → q.step = 8 → x.clo.move =
      none → Effect (.warmStart d r) d s (fun y => (y.boot.start.map (fun q => q.step) = some 9) ∧
      ({ x with boot := y.boot }).only [F.RST_START_STEP] [] y)) ∧
    (x.boot.limitedDue = some n → Effect (.limitedStart d r) d s (fun y => y.boot.limited = true ∧ y.boot.start = some
      { step := 2, at_ := n } ∧ y.get F.RST_START_KIND = 2 ∧ y.get F.RST_START_STEP = 2 ∧ y.condOn 11 = true ∧
      ({ x with boot := y.boot }).only [F.RST_START_KIND, F.RST_START_STEP] [11] y)) ∧
    (x.boot.limitedDue = none → x.get F.RST_START_KIND = 2 → x.boot.start = some q → q.step = 3 → x.boot.limited =
      true → r.err = none → EffectMem (.limitedStart d r) d s (fun y m => m = s.mem d ∧ (y.boot.start.map (fun z =>
      z.step) ≠ some 4))) ∧
    (x.startStep = 5 → x.get F.SYS_IDENT_BOOT = 1 → x.boot.start = some q → Effect (.hostBootGo d) d s (fun y =>
      y.boot.start = some { q with go := true } ∧ ({ x with boot := y.boot }).only [] [] y)) ∧
    (x.startStep ≠ 5 → Effect (.hostBootGo d) d s (fun y => y.pends (accErrOf 0x01) = true ∧ x.only [] [accErrOf 0x01]
      y)) ∧
    (x.boot.start = some q → q.step = 5 → q.go = false → x.get F.SYS_IDENT_BOOT = 1 → x.get F.RST_START_TRIES < 2 →
      Effect (.bootTimeout d) d s (fun y => y.get F.RST_START_FAILSTEP = 5 ∧ y.get F.RST_START_ERR = 1 ∧ y.boot.retry
      = true ∧ y.boot.start = none ∧ y.pends 10 = true ∧ ({ x with boot := y.boot }).only [F.RST_START_FAILSTEP,
      F.RST_START_ERR, F.RST_START_TRIES] [10] y))

/-- R327, R328, Table 11.7, Table 11.8. A request of another state while no transition is under way begins it: PWR_REQ
shows the target and BUSY is set. REQ_RUN leaves Doze, and the outputs VDET and VBLIND that are enabled begin to ramp
up. From Hold a request restarts the clocks, with PFAIL_N asserted when that is over. During a start, an orderly stop
or a power failure a request of Hold or Dormant is refused with event 27, and while a transition is under way any
request is ignored with ACC_ERR. A request of the state in force begins nothing. HOLD_WAKE begins the resume from
Hold, and with PFAIL_N asserted waits. -/
def Obligations.PowerRequests : Prop :=
  ∀ (s : State) (d : DieId) (x : Die), s.running d → s.die d = x →
    (x.boot.going = none → x.boot.power = 1 → Effect (.reqRun d) d s (fun y => y.get F.PWR_REQ_STATE = 0 ∧ y.on
      F.PWR_STATE_BUSY = true ∧ y.boot.going = some 0 ∧ y.boot.power = 1 ∧ (∀ o ∈ [AfeOut.vdet, AfeOut.vblind],
      x.outEn o = true → y.afe.driven.getLsbD o.idx = true ∧ y.afe.falling.getLsbD o.idx = false) ∧ (∀ o ∈
      [AfeOut.vdet, AfeOut.vblind], x.outEn o = true → x.afe.driven.getLsbD o.idx = false → y.bitOf
      F.AFE_OUT_STAT_RAMPING o.idx = true ∧ y.outGood o = false) ∧ ({ x with boot := y.boot, afe := y.afe }).only
      [F.PWR_REQ_STATE, F.PWR_STATE_BUSY, F.AFE_OUT_STAT_RAMPING, F.AFE_OUT_STAT_GOOD] [] y)) ∧
    (x.boot.going = none → x.boot.power = 0 → Effect (.reqDoze d) d s (fun y => y.get F.PWR_REQ_STATE = 1 ∧ y.on
      F.PWR_STATE_BUSY = true ∧ y.boot.going = some 1 ∧ y.boot.power = 0)) ∧
    (x.boot.going = none → x.boot.start = none → x.boot.retry = false → x.boot.limitedDue = none → x.thm.stopping =
      false → x.evd.pfail = false → x.boot.power < 2 → Effect (.reqHold d) d s (fun y => y.get F.PWR_REQ_STATE = 2 ∧
      y.on F.PWR_STATE_BUSY = true ∧ y.boot.going = some 2 ∧ y.boot.cutMade = false)) ∧
    (x.boot.going = none → x.boot.start = none → x.boot.retry = false → x.boot.limitedDue = none → x.thm.stopping =
      false → x.evd.pfail = false → x.boot.power < 2 → Effect (.reqDormant d) d s (fun y => y.get F.PWR_REQ_STATE = 3
      ∧ y.on F.PWR_STATE_BUSY = true ∧ y.boot.going = some 3)) ∧
    (x.boot.going = none → (x.boot.start.isSome = true ∨ x.boot.retry = true ∨ x.boot.limitedDue.isSome = true ∨
      x.thm.stopping = true ∨ x.evd.pfail = true) → Effect (.reqHold d) d s (fun y => y.pends 27 = true ∧ x.only []
      [27] y)) ∧
    (x.boot.going = none → (x.boot.start.isSome = true ∨ x.boot.retry = true ∨ x.boot.limitedDue.isSome = true ∨
      x.thm.stopping = true ∨ x.evd.pfail = true) → Effect (.reqDormant d) d s (fun y => y.pends 27 = true ∧ x.only []
      [27] y)) ∧
    (x.boot.going.isSome = true → Effect (.reqRun d) d s (fun y => y.pends (accErrOf 0x03) = true ∧ x.only []
      [accErrOf 0x03] y)) ∧
    (x.boot.going = none → x.boot.power = 2 → x.evd.pfail = false → Effect (.reqDoze d) d s (fun y => y.get
      F.PWR_REQ_STATE = 1 ∧ y.on F.PWR_STATE_BUSY = true ∧ y.boot.going = some 1 ∧ y.boot.wokenAt = some s.now ∧
      ({ x with boot := y.boot }).only [F.PWR_REQ_STATE, F.PWR_STATE_BUSY, F.CLK_GATE_RUN] [] y)) ∧
    (x.boot.going = none → x.boot.power = 0 → Effect (.reqRun d) d s (fun y => y.get F.PWR_REQ_STATE = 0 ∧ x.only
      [F.PWR_REQ_STATE] [] y)) ∧
    (x.boot.going = none → x.boot.power = 2 → x.evd.pfail = false → Effect (.holdWake d) d s (fun y => y.get
      F.PWR_REQ_STATE = 0 ∧ y.on F.PWR_STATE_BUSY = true ∧ y.boot.going = some 0 ∧ y.boot.wokenAt = some s.now ∧
      ({ x with boot := y.boot }).only [F.PWR_REQ_STATE, F.PWR_STATE_BUSY, F.CLK_GATE_RUN] [] y)) ∧
    (x.boot.going = none → x.boot.power = 2 → x.evd.pfail = true → Effect (.reqDoze d) d s (fun y => y.get
      F.PWR_REQ_STATE = 1 ∧ y.boot = { x.boot with wokenAt := some s.now, wakeTo := 1 } ∧
      ({ x with boot := y.boot }).only [F.PWR_REQ_STATE] [] y)) ∧
    (x.boot.going = none → x.boot.power = 2 → x.evd.pfail = true → Effect (.holdWake d) d s (fun y => y.boot =
      { x.boot with wokenAt := some s.now, wakeTo := 0 } ∧ ({ x with boot := y.boot }).only [] [] y))

/-- R75, R327, R328, R329, R331, R424, Table 11.9. POWER_STATE_DONE lets VDET and VBLIND ramp down while they drive,
and with the bias down completes a transition with event 25: Doze, Hold with the clocks of CORE, MEMC, SEQC and CONV
stopped and the trim map's SRAM lost, Run once no output ramps, and Dormant with the DRAM lost and the wake
configuration latched. SUPPLY_WARN shows each supply below its warning level and holds event 26. BANK_SUPPLY_LOSS
marks the banks without supply. -/
def Obligations.PowerStates : Prop :=
  ∀ (s : State) (d : DieId) (ecc : Ecc) (n : Fin 3) (low : Bool) (x : Die), s.running d → s.die d = x →
    (x.boot.going = some 1 → x.rakeRuns = false → x.boot.power = 0 → x.biasDriven = true → Effect (.powerStateDone d
      ecc) d s (fun y => (∀ o ∈ [AfeOut.vdet, AfeOut.vblind], x.afe.driven.getLsbD o.idx = true →
      y.afe.falling.getLsbD o.idx = true ∧ (x.afe.falling.getLsbD o.idx = false → y.bitOf F.AFE_OUT_STAT_RAMPING o.idx
      = true ∧ y.outGood o = false)) ∧ ({ x with afe := y.afe }).only [F.AFE_OUT_STAT_RAMPING, F.AFE_OUT_STAT_GOOD]
      [146] y)) ∧
    (x.boot.going = some 1 → x.rakeRuns = false → x.boot.power = 0 → x.biasDriven = false → Effect (.powerStateDone d
      ecc) d s (fun y => y.get F.PWR_STATE_STATE = 1 ∧ y.on F.PWR_STATE_BUSY = false ∧ y.boot =
      { x.boot with power := 1, going := none, wokenAt := none } ∧ y.pends 25 = true ∧
      ({ x with boot := y.boot }).only [F.PWR_STATE_STATE, F.PWR_STATE_BUSY] [25] y)) ∧
    (x.boot.going = some 2 → x.rakeRuns = false → x.biasDriven = false → x.boot.cutMade = true → x.evd.queue = [] →
      DieAnswers (.powerStateDone d ecc) d s (fun y => y.get F.PWR_STATE_STATE = 2 ∧ y.boot.power = 2 ∧ y.on
      F.PWR_STATE_BUSY = false ∧ y.boot.going = none ∧ y.pends 25 = true ∧ y.get F.CLK_GATE_RUN = 0x24 ∧ y.trm.sram =
      [])) ∧
    (x.boot.going = some 0 → x.boot.power = 1 → x.rake.dozeRan = false → x.boot.wokenAt = none → x.anyRamp = false →
      Effect (.powerStateDone d ecc) d s (fun y => y.get F.PWR_STATE_STATE = 0 ∧ y.on F.PWR_STATE_BUSY = false ∧
      y.boot = { x.boot with power := 0, going := none } ∧ y.pends 25 = true ∧ y.acb =
      { x.acb with settleDue := true } ∧ ({ x with boot := y.boot, acb := y.acb }).only [F.PWR_STATE_STATE,
      F.PWR_STATE_BUSY] [25] y)) ∧
    (x.boot.going = some 0 → x.boot.power = 1 → x.anyRamp = true → Effect (.powerStateDone d ecc) d s (fun y => x.only
      [] [] y)) ∧
    (x.boot.going = some 3 → x.rakeRuns = false → x.biasDriven = false → x.boot.power < 2 → x.evd.closing = none →
      x.evd.live = false → EffectMem (.powerStateDone d ecc) d s (fun y m => y.boot.dormant = true ∧ y.boot.wake =
      x.wakeLatch ∧ m = [] ∧ y.nvs = x.nvs.afterReset ∧ (∀ o ∈ afeOuts, y.outEn o = false))) ∧
    (low = true → x.boot.banks.getLsbD n.val = true → Effect (.bankSupplyLoss d n low) d s (fun y => y.boot = x.boot ∧
      ({ x with boot := y.boot }).only [] [] y)) ∧
    (low = false → Effect (.bankSupplyLoss d n low) d s (fun y => y.boot.banks.getLsbD n.val = false ∧ (∀ j ∈
      List.range 3, j ≠ n.val → y.boot.banks.getLsbD j = x.boot.banks.getLsbD j) ∧ ({ x with boot := y.boot }).only []
      [] y)) ∧
    (low = true → Effect (.bankSupplyLoss d n low) d s (fun y => y.boot.banks.getLsbD n.val = true)) ∧
    (DieAnswers (.supplyWarn n low) d s (fun y => y.bitOf F.PWR_SUPPLY_WARN n.val = low ∧ y.condOn 26 = decide (y.get
      F.PWR_SUPPLY_WARN ≠ 0) ∧ (∀ j ∈ List.range 3, j ≠ n.val → y.bitOf F.PWR_SUPPLY_WARN j = x.bitOf
      F.PWR_SUPPLY_WARN j) ∧ x.only [F.PWR_SUPPLY_WARN] [26] y))

/-- R333, R334, R335, R337, R343, R344, R352, Table 12.2. NVS_READ of a page that reads clean fills the buffer from
the newer complete copy and completes with STATUS 0 and event 65; the diagnostic reads do the same from copy A or copy
B as it stands. NVS_WRITE of a page that the host may write queues the write and stays BUSY until it is done; of
another page it completes with STATUS 2. TALLY_READ shows a tally's value and TALLY_ADD queues a sum for tallies 16 to
21, with STATUS 2 below and 5 above. While BUSY an operation is ignored with ACC_ERR. -/
def Obligations.SeedTrayOperations : Prop :=
  ∀ (s : State) (d : DieId) (page : Nat) (off : Nat) (len : Nat) (t : Nat) (n : Nat) (ea : List Ecc) (eb : List Ecc)
    (x : Die), s.running d → s.die d = x →
    (x.on F.NVS_OP_STAT_BUSY = false → x.on F.NVS_STATE_READY = true → page < 1328 → page ≠ 2 → x.nvs.writing ≠ some
      page → x.nvs.newer page = some n → (n = 0 ∨ n = 1) → Effect (.nvsRead d page 0 64 [] []) d s (fun y => y.get
      F.NVS_OP_STAT_STATUS = 0 ∧ y.on F.NVS_OP_STAT_BUSY = false ∧ y.pends 65 = true ∧ (∀ i ∈ List.range 16, y.get
      (F.NVS_BUF_DATA i) = ofBytesLE (((x.nvs.copy page n).data.drop (4 * i)).take 4)) ∧ y.nvs =
      { x.nvs with op := none })) ∧
    (x.on F.NVS_OP_STAT_BUSY = false → x.on F.NVS_STATE_READY = true → x.on F.NVS_STATE_STOPPED = false → x.on
      F.NVS_STATE_EP_ONLY = false → x.nvs.mapFailed = false → page < 1920 → 0 < len → len ≤ 64 → off < 64 → x.mayWrite
      page = true → Effect (.nvsWrite d page off len) d s (fun y => y.nvs.queue = x.nvs.queue ++
      [{ prio := 6, what := .page page off (x.bufferBytes len), tag := .host }] ∧ y.on F.NVS_OP_STAT_BUSY = true ∧
      ({ x with nvs := y.nvs }).only [F.NVS_OP_OP, F.NVS_OP_PAGE, F.NVS_OP_OFFSET, F.NVS_OP_LEN, F.NVS_OP_STAT_BUSY,
      F.NVS_OP_STAT_STATUS] [] y)) ∧
    (x.on F.NVS_OP_STAT_BUSY = false → x.on F.NVS_STATE_READY = true → page < 1328 → 0 < len → len ≤ 64 → off < 64 →
      Effect (.nvsWrite d page off len) d s (fun y => y.get F.NVS_OP_STAT_STATUS = 2 ∧ y.on F.NVS_OP_STAT_BUSY = false
      ∧ y.pends 65 = true ∧ y.nvs.queue = x.nvs.queue ∧ ({ x with nvs := y.nvs }).only [F.NVS_OP_OP, F.NVS_OP_PAGE,
      F.NVS_OP_OFFSET, F.NVS_OP_LEN, F.NVS_OP_STAT_BUSY, F.NVS_OP_STAT_STATUS] [65] y)) ∧
    (x.on F.NVS_OP_STAT_BUSY = false → x.on F.NVS_STATE_READY = true → page < 1328 → page ≠ 2 → x.nvs.writing ≠ some
      page → Effect (.nvsDiagReadA d page 0 64 []) d s (fun y => y.get F.NVS_OP_STAT_STATUS = 0 ∧ y.on
      F.NVS_OP_STAT_BUSY = false ∧ y.pends 65 = true ∧ (∀ i ∈ List.range 16, y.get (F.NVS_BUF_DATA i) = ofBytesLE
      (((x.nvs.copy page 0).data.drop (4 * i)).take 4)) ∧ ({ x with nvs := { x.nvs with op := none } }).onlyPages
      [0x10] [65] y)) ∧
    (x.on F.NVS_OP_STAT_BUSY = false → x.on F.NVS_STATE_READY = true → page < 1328 → page ≠ 2 → x.nvs.writing ≠ some
      page → Effect (.nvsDiagReadB d page 0 64 []) d s (fun y => y.get F.NVS_OP_STAT_STATUS = 0 ∧ y.on
      F.NVS_OP_STAT_BUSY = false ∧ y.pends 65 = true ∧ (∀ i ∈ List.range 16, y.get (F.NVS_BUF_DATA i) = ofBytesLE
      (((x.nvs.copy page 1).data.drop (4 * i)).take 4)) ∧ ({ x with nvs := { x.nvs with op := none } }).onlyPages
      [0x10] [65] y)) ∧
    (x.on F.NVS_OP_STAT_BUSY = false → x.on F.NVS_STATE_READY = true → t < 22 → x.get F.NVS_OP_LEN ≤ 64 → Effect
      (.tallyRead d t) d s (fun y => y.get64 F.NVS_TALLY_LO_VALUE F.NVS_TALLY_HI_VALUE = x.nvs.tally t % 2 ^ 64 ∧
      y.get F.NVS_OP_STAT_STATUS = 0 ∧ y.on F.NVS_OP_STAT_BUSY = false ∧ y.pends 65 = true ∧
      ({ x with nvs := y.nvs }).only [F.NVS_OP_OP, F.NVS_OP_PAGE, F.NVS_OP_OFFSET, F.NVS_OP_LEN, F.NVS_OP_STAT_BUSY,
      F.NVS_OP_STAT_STATUS, F.NVS_TALLY_LO_VALUE, F.NVS_TALLY_HI_VALUE] [65] y)) ∧
    (x.on F.NVS_OP_STAT_BUSY = false → x.on F.NVS_STATE_READY = true → 21 < t → t < 4096 → x.get F.NVS_OP_LEN ≤ 64 →
      Effect (.tallyRead d t) d s (fun y => y.get F.NVS_OP_STAT_STATUS = 5 ∧ y.on F.NVS_OP_STAT_BUSY = false ∧ y.pends
      65 = true)) ∧
    (x.on F.NVS_OP_STAT_BUSY = false → x.on F.NVS_STATE_READY = true → x.on F.NVS_STATE_STOPPED = false → x.on
      F.NVS_STATE_EP_ONLY = false → x.nvs.mapFailed = false → 15 < t → t < 22 → x.get F.NVS_OP_LEN ≤ 64 → 0 < x.get
      F.NVS_TALLY_ADD_ADD → Effect (.tallyAdd d t) d s (fun y => y.nvs.queue = x.nvs.queue ++
      [{ prio := 6, what := .add t (x.get F.NVS_TALLY_ADD_ADD), tag := .host }] ∧ y.on F.NVS_OP_STAT_BUSY = true ∧
      ({ x with nvs := y.nvs }).only [F.NVS_OP_OP, F.NVS_OP_PAGE, F.NVS_OP_OFFSET, F.NVS_OP_LEN, F.NVS_OP_STAT_BUSY,
      F.NVS_OP_STAT_STATUS] [] y)) ∧
    (x.on F.NVS_OP_STAT_BUSY = false → x.on F.NVS_STATE_READY = true → t < 16 → x.get F.NVS_OP_LEN ≤ 64 → Effect
      (.tallyAdd d t) d s (fun y => y.get F.NVS_OP_STAT_STATUS = 2 ∧ y.on F.NVS_OP_STAT_BUSY = false ∧ y.pends 65 =
      true ∧ y.nvs.queue = x.nvs.queue)) ∧
    (x.on F.NVS_OP_STAT_BUSY = true → Effect (.nvsRead d page off len ea eb) d s (fun y => y.pends (accErrOf 0x10) =
      true ∧ x.only [] [accErrOf 0x10] y)) ∧
    (x.on F.NVS_OP_STAT_BUSY = true → Effect (.nvsWrite d page off len) d s (fun y => y.pends (accErrOf 0x10) = true ∧
      x.only [] [accErrOf 0x10] y))

/-- R334, R337, R339, R341, R343, R347, R349, Table 12.4. NVS_WRITE_START takes the pending write of the highest
priority, a page write with its intent in the journal. PAGE_WRITE_DONE leaves the page's bytes with the new ones in
place, and for a physical page that is retired copies its content to the lowest free spare and then, with the spare
map's page written, changes the map with event 70. TALLY_WRITE_DONE puts the new value with the next generation into
the tally's next slot. NVS_POWERUP makes the store READY with event 66. PWD_UNLOCK with the right password unlocks the
kind and stores the count of failed attempts as the new base, with a wrong one counts the attempt with event 73 and
from the eighth on refuses attempts for a time, while they are refused does nothing, and while the passwords cannot be
read waits; PWD_LOCK ends both; PWD_SET stores the password's hash, or with the WRITE password set and locked is
rejected with ACC_ERR; LOCKOUT_END ends the refusal. (That the base lies beside page 2's two hashes, and that the
attempts wait for the page, is log entry 109's choice.) -/
def Obligations.SeedTrayWrites : Prop :=
  ∀ (s : State) (d : DieId) (kind : Nat) (n : Nat) (off : Nat) (v : Nat) (t : Nat) (i : Nat) (bytes : List Byte) (r :
    NvsReq) (x : Die), s.running d → s.die d = x →
    (x.nvs.doing = none → x.nvsNext = some r → r.what = .page n off bytes → Effect (.nvsWriteStart d) d s (fun y =>
      y.nvs.doing = some r ∧ y.nvs.queue = dropFirst r x.nvs.queue ∧ (y.nvs.journal.head?.map (fun e => e.1) = some n)
      ∧ ({ x with nvs := y.nvs }).only [] [] y)) ∧
    (x.nvs.doing = some r → Effect (.nvsWriteStart d) d s (fun y => x.only [] [] y)) ∧
    (x.nvs.doing = some { prio := v, what := .page n off bytes, tag := .none } → n < 1920 → x.nvs.op = none → assocGet
      x.nvs.map (2 * n) = none → assocGet x.nvs.map (2 * n + 1) = none → x.nvs.dead = [] → (x.nvs.copy n 0).writes <
      1000000 → (x.nvs.copy n 1).writes < 1000000 → DieAnswers (.pageWriteDone d []) d s (fun y => y.nvs.logical n =
      mergePage (x.nvs.logical n) off bytes ∧ (y.nvs.copy n 0).data = (y.nvs.copy n 1).data ∧ y.nvs.doing = none ∧
      (y.nvs.copy n 0).writes = (x.nvs.copy n 0).writes + 1 ∧ ({ x with nvs := y.nvs }).onlyPages [0x0A, 0x10, 0x29,
      0x50, 0x51] [71, 72, 344, 612] y)) ∧
    (x.nvs.doing = some { prio := v, what := .retire i kind, tag := .none } → x.nvs.map = [] → x.nvs.freeSpare = some
      n → DieAnswers (.pageWriteDone d []) d s (fun y => y.nvs.map = [] ∧ y.nvs.queue =
      { prio := v, what := .moved i i n, tag := .none } :: x.nvs.queue ∧ (y.nvs.phys n).data = (x.nvs.homeContent i
      i).data ∧ y.nvs.doing = none ∧ ({ x with nvs := y.nvs }).onlyPages [0x0A, 0x10, 0x29, 0x50, 0x51] [71, 72, 344,
      612] y)) ∧
    (x.nvs.doing = some { prio := v, what := .moved i i n, tag := .none } → x.nvs.map = [] → x.nvs.dead = [] →
      x.nvs.op = none → i < 3840 → n < 4096 → 4032 ≤ n → (x.nvs.copy (mapEntry n).1 0).writes < 1000000 → (x.nvs.copy
      (mapEntry n).1 1).writes < 1000000 → DieAnswers (.pageWriteDone d []) d s (fun y => y.nvs.map = [(i, n)] ∧
      y.nvs.dead = [i] ∧ y.pends 70 = true ∧ y.nvs.doing = none)) ∧
    (x.nvs.doing = some { prio := n, what := .tally t v, tag := .none } → t < 22 → x.nvs.tally t ≤ v → x.nvs.nextSlot
      t = some i → ((x.nvs.tallies.getD t []).getD i {}).writes < 1000000 → tallyNewest (x.nvs.tallies.getD t []) =
      none → DieAnswers (.tallyWriteDone d false) d s (fun y => (y.nvs.tallies.getD t []).getD i {} =
      { value := v, gen := 0, valid := true, writes := ((x.nvs.tallies.getD t []).getD i {}).writes + 1 } ∧ (t = 7 →
      y.pends 75 = true) ∧ y.nvs.doing = none ∧ y.nvs.pages = x.nvs.pages ∧ ({ x with nvs := y.nvs }).onlyPages [0x0A,
      0x10, 0x29, 0x50, 0x51] [71, 72, 75, 344, 612] y)) ∧
    (x.on F.NVS_STATE_READY = false → x.nvs.doing = none → x.nvs.journal = [] → x.nvs.op = none → Effect (.nvsPowerup
      d) d s (fun y => y.on F.NVS_STATE_READY = true ∧ y.pends 66 = true ∧ y.nvs.pages = x.nvs.pages ∧
      ({ x with nvs := y.nvs }).onlyPages [0x0A, 0x10, 0x29, 0x50, 0x51] [64, 66, 71, 72, 73, 74, 344, 612] y)) ∧
    ((kind = 1 ∨ kind = 2) → x.canRead 2 1 = true → x.nvs.asks = [] → x.nvs.refusing = false → (x.pwdHash x.pwdOffered
      = x.pwdStored kind ∨ (x.pwdOffered = 0 ∧ x.pwdUnset kind = true)) → Effect (.pwdUnlock d kind) d s (fun y =>
      y.on (if kind = 1 then F.NVS_STATE_UNLOCK_R else F.NVS_STATE_UNLOCK_W) = true ∧ y.nvs =
      { x.nvs with queue := x.nvs.queue ++ [{ prio := 5, what := .base x.nvs.failTally, tag := .none }] } ∧
      y.nvs.fails = 0 ∧ y.get F.NVS_LOCKOUT_FAILS = 0 ∧ ({ x with nvs := y.nvs }).only [if kind = 1 then
      F.NVS_STATE_UNLOCK_R else F.NVS_STATE_UNLOCK_W, F.NVS_LOCKOUT_FAILS, F.NVS_UNLOCK_KIND] [] y)) ∧
    ((kind = 1 ∨ kind = 2) → x.canRead 2 1 = true → x.nvs.asks = [] → x.nvs.refusing = false → x.pwdHash x.pwdOffered
      ≠ x.pwdStored kind → (x.pwdOffered ≠ 0 ∨ x.pwdUnset kind = false) → Effect (.pwdUnlock d kind) d s (fun y =>
      y.nvs.queue = x.nvs.queue ++ [{ prio := 5, what := .add 6 1, tag := .none }] ∧ y.pends 73 = true ∧ y.get
      F.NVS_LOCKOUT_FAILS = min 65535 y.nvs.fails ∧ y.nvs.refusing = decide (8 ≤ y.nvs.fails) ∧ (8 ≤ y.nvs.fails →
      y.condOn 74 = true ∧ y.get F.NVS_LOCKOUT_REMAIN = lockSeconds y.nvs.fails % 2 ^ F.NVS_LOCKOUT_REMAIN.width) ∧
      ({ x with nvs := y.nvs }).only [F.NVS_UNLOCK_KIND, F.NVS_LOCKOUT_FAILS, F.NVS_LOCKOUT_REMAIN] [73, 74] y)) ∧
    ((kind = 1 ∨ kind = 2) → x.canRead 2 1 = true → x.nvs.asks = [] → x.nvs.refusing = true → Effect (.pwdUnlock d
      kind) d s (fun y => x.only [F.NVS_UNLOCK_KIND] [] y)) ∧
    ((kind = 1 ∨ kind = 2) → x.canRead 2 1 = false → Effect (.pwdUnlock d kind) d s (fun y => y.nvs =
      { x.nvs with asks := x.nvs.asks ++ [{ set := false, kind := kind, pwd := x.pwdOffered }] } ∧
      ({ x with nvs := y.nvs }).only [F.NVS_UNLOCK_KIND] [] y)) ∧
    (kind ≠ 1 → kind ≠ 2 → Effect (.pwdUnlock d kind) d s (fun y => y.pends (accErrOf 0x10) = true ∧ x.only []
      [accErrOf 0x10] y)) ∧
    (Effect (.pwdLock d) d s (fun y => y.on F.NVS_STATE_UNLOCK_R = false ∧ y.on F.NVS_STATE_UNLOCK_W = false ∧ x.only
      [F.NVS_STATE_UNLOCK_R, F.NVS_STATE_UNLOCK_W] [] y)) ∧
    ((kind = 1 ∨ kind = 2) → x.canRead 2 1 = true → x.nvs.asks = [] → x.pwdOpen 2 = true → Effect (.pwdSet d kind) d s
      (fun y => y.nvs.queue = x.nvs.queue ++
      [{ prio := 5, what := .page 2 (32 * (kind - 1)) (x.pwdHash x.pwdOffered), tag := .none }] ∧
      ({ x with nvs := y.nvs }).only [F.NVS_UNLOCK_KIND] [] y)) ∧
    ((kind = 1 ∨ kind = 2) → x.canRead 2 1 = true → x.nvs.asks = [] → x.pwdOpen 2 = false → Effect (.pwdSet d kind) d
      s (fun y => y.pends (accErrOf 0x10) = true ∧ x.only [F.NVS_UNLOCK_KIND] [accErrOf 0x10] y)) ∧
    (x.nvs.refusing = true → Effect (.lockoutEnd d) d s (fun y => y.nvs = { x.nvs with refusing := false } ∧ y.get
      F.NVS_LOCKOUT_REMAIN = 0 ∧ y.condOn 74 = false ∧ ({ x with nvs := y.nvs }).only [F.NVS_LOCKOUT_REMAIN] [74] y))

/-- R354, R356, R357, R358, R359, R360, R431, Table 13.2. TAIL_ADVANCE posts descriptors of a stream and is refused
with ACC_ERR for a stream that does not exist. DESCRIPTOR_COMPLETE writes the oldest item of a stream whose engine may
run into the buffer at the address and its word with DONE, STATUS and the length into the descriptor at HEAD, advances
HEAD and sets the stream's DONE bit; a buffer that is too small completes with TOOSMALL and the item stays.
DESCRIPTOR_READ_ERROR stops the engine with ERR and event 120. BAR2_ACCESS reads and writes the DRAM behind the
window, and beyond the usable DRAM reads zeros with event 120. BUS_MASTER_DISABLE, D3HOT_ENTRY, a link change to a
width and speed that the endpoint supports and PE_PERST set the state of the function and the link. -/
def Obligations.StreamEngines : Prop :=
  ∀ (s : State) (d : DieId) (k : Nat) (tail : Nat) (addr : Nat) (len : Nat) (off : Nat) (width : Nat) (speed : Nat) (i
    : DmaItem) (bs : List Byte) (kind : Nat) (low : Bool) (x : Die), s.running d → s.die d = x →
    (k < 42 → x.takes 0x14 = true → Effect (.tailAdvance d k tail) d s (fun y => y.get (F.STR_IDX_TAIL k) = tail % 2 ^
      (F.STR_IDX_TAIL k).width ∧ y.on (F.STR_CFG_WAIT k) = y.streamHeld k ∧ x.only (F.STR_IDX_TAIL k :: (List.range
      42).map F.STR_CFG_WAIT) [118] y)) ∧
    ((42 ≤ k ∨ x.takes 0x14 = false) → Effect (.tailAdvance d k tail) d s (fun y => y.pends (accErrOf 0x14) = true ∧
      x.only [] [accErrOf 0x14] y)) ∧
    ((x.itemsOf k).head? = some i → x.streamReady k = true → streamWaits k = true → i.bytes.length ≤ len → k < 42 →
      Effect (.descriptorComplete d k addr len) d s (fun y => y.out.head? = some (.dma k addr i.bytes (x.get
      (F.STR_RING_LO_ADDR k) / 64 * 64 + 2 ^ 32 * x.get (F.STR_RING_HI_ADDR k) + 16 * (x.get (F.STR_IDX_HEAD k) % 2 ^
      x.get (F.STR_CFG_SIZE_LOG2 k)) + 12) (2 ^ 31 + i.bytes.length)) ∧ y.itemsOf k = (x.itemsOf k).drop 1 ∧ y.get
      (F.STR_IDX_HEAD k) = (x.get (F.STR_IDX_HEAD k) + 1) % 2 ^ x.get (F.STR_CFG_SIZE_LOG2 k) ∧ y.bitOf
      (F.PCI_SDONE_DONE (k / 32)) (k % 32) = true ∧ (x.on (F.STR_CFG_IRQ k) = true → y.pends 117 = true) ∧
      ({ x with dma := y.dma }).only (F.STR_IDX_HEAD k :: F.PCI_SDONE_DONE (k / 32) :: (List.range 42).map
      F.STR_CFG_WAIT) [117, 118] y)) ∧
    ((x.itemsOf k).head? = some i → x.streamReady k = true → streamWaits k = true → len < i.bytes.length → k < 42 →
      Effect (.descriptorComplete d k addr len) d s (fun y => y.out.head? = some (.dma k addr [] (x.get
      (F.STR_RING_LO_ADDR k) / 64 * 64 + 2 ^ 32 * x.get (F.STR_RING_HI_ADDR k) + 16 * (x.get (F.STR_IDX_HEAD k) % 2 ^
      x.get (F.STR_CFG_SIZE_LOG2 k)) + 12) (2 ^ 31 + 2 ^ 28)) ∧ y.dma = x.dma ∧ y.get (F.STR_IDX_HEAD k) = (x.get
      (F.STR_IDX_HEAD k) + 1) % 2 ^ x.get (F.STR_CFG_SIZE_LOG2 k))) ∧
    (x.streamReady k = true → streamWaits k = true → k < 42 → kind < 4 → Effect (.descriptorReadError d k kind false)
      d s (fun y => y.on (F.STR_CFG_ERR k) = true ∧ y.on (F.STR_CFG_EN k) = false ∧ y.get F.PCI_DMA_ERR_KIND = kind ∧
      y.get F.PCI_DMA_ERR_STREAM = k ∧ y.pends 120 = true ∧ y.dma = x.dma ∧ x.onlyPages [0x14] [118, 120] y)) ∧
    (x.get F.PCI_BAR2_BASE_BASE * 1048576 + off + bs.length ≤ Config.dramBytes → EffectMem (.bar2Access d off len
      (some bs) .clean) d s (fun y m => m = Memory.writeBytes (s.mem d) (x.get F.PCI_BAR2_BASE_BASE * 1048576 + off)
      bs ∧ x.only [] [] y)) ∧
    (x.get F.PCI_BAR2_BASE_BASE * 1048576 + off + len ≤ Config.dramBytes → Effect (.bar2Access d off len none .clean)
      d s (fun y => y.out = [.bar2Data ((s.mem d).readBytes (x.get F.PCI_BAR2_BASE_BASE * 1048576 + off) len) false] ∧
      x.only [] [] y)) ∧
    (Config.dramBytes < x.get F.PCI_BAR2_BASE_BASE * 1048576 + off + len → Effect (.bar2Access d off len none .clean)
      d s (fun y => y.out.getLast? = some (.bar2Data (List.replicate len 0) false) ∧ y.pends 120 = true ∧ x.only
      [F.PCI_DMA_ERR_COUNT, F.PCI_DMA_ERR_KIND] [120] y)) ∧
    ((∀ j ∈ x.dma.items, streamWaits j.stream = true) → Effect (.busMasterDisable d low) d s (fun y => y.dma =
      { x.dma with bme := !low } ∧ (y.condOn 118 = (List.range 42).any (fun j => y.streamHeld j)) ∧
      ({ x with dma := y.dma }).only ((List.range 42).map F.STR_CFG_WAIT) [118] y)) ∧
    ((∀ j ∈ x.dma.items, streamWaits j.stream = true) → Effect (.d3hotEntry d low) d s (fun y => y.dma =
      { x.dma with d3 := low } ∧ ({ x with dma := y.dma }).only ((List.range 42).map F.STR_CFG_WAIT) [118] y)) ∧
    (x.dma.perst = false → x.boot.banks.getLsbD 0 = false → width ≠ x.dma.width → (width = 1 ∨ width = 2 ∨ width = 4)
      → 1 ≤ speed ∧ speed ≤ 4 → Effect (.pcieLinkChange d width speed) d s (fun y => y.get F.PCI_LINK_WIDTH = width ∧
      y.get F.PCI_LINK_SPEED = speed ∧ y.dma.width = width ∧ y.dma.speed = speed ∧ y.pends 119 = true ∧
      ({ x with dma := y.dma }).onlyPages [0x14] [118, 119, 121] y)) ∧
    (width ≠ 0 → ((width ≠ 1 ∧ width ≠ 2 ∧ width ≠ 4) ∨ speed = 0 ∨ 4 < speed) → Effect (.pcieLinkChange d width
      speed) d s (fun y => x.only [] [] y)) ∧
    (low = true → Effect (.pePerst d low) d s (fun y => y.dma.perst = true ∧ y.dma.width = 0 ∧ (x.dma.width ≠ 0 →
      y.get F.PCI_LINK_WIDTH = 0) ∧ y.dma.bme = false ∧ y.msixMask = 0xFF)) ∧
    (low = false → Effect (.pePerst d low) d s (fun y => y.dma = { x.dma with perst := false } ∧
      ({ x with dma := y.dma }).only [] [] y))

/-- R363, R364, R365, R366, R370, R371, R372, R373, R374. A CLAIM at a member with a preferred address that is free
claims it in the bitmap, and an ASSIGN takes the address claimed; both go on down the chain or come back as ENUM_RSP.
FRAME_SYNC sets the chain tick or, when late, is counted. A SYNC addressed to the unit makes armed LED values apply at
the next period. An ALARM is shown with event 106. A HEARTBEAT marks its sender as seen. A RESET from the master that
addresses the unit begins an episode of its reach on every die. A packet with a bad CRC is counted on its port and
does nothing else. READ answers the words read with STATUS OK and WRITE writes them, or both answer DENIED while RWEN
is 0. -/
def Obligations.TrellisPackets : Prop :=
  ∀ (s : State) (d : DieId) (p : Packet) (depth : Nat) (bitmap : Nat) (a : Nat) (acc : Nat) (dst : Nat) (seq : Nat)
    (src : Nat) (cls : Nat) (tile : Nat) (temp : Nat) (frame : Nat) (reach : Nat) (die : Nat) (w : Nat) (b : Bool) (x
    : Die), s.running d → s.die d = x →
    (x.chained = true → x.on F.TRL_ADDR_MASTER = false → p.good = true → p.up = true → bitmap < 2 ^ 64 → x.prefers =
      some a → bitmap.testBit a = false → x.downUp = true → Effect (.enum d p false depth bitmap) d s (fun y => y.trl
      = { x.trl with claim := some a } ∧ y.out = [.trlEnum false depth (withBit bitmap a)] ∧
      ({ x with trl := y.trl }).only [] [] y)) ∧
    (x.chained = true → x.on F.TRL_ADDR_MASTER = false → p.good = true → p.up = true → depth < 64 → bitmap < 2 ^ 64 →
      x.trl.claim = some a → a < 64 → x.downUp = false → x.on F.TRL_ADDR_STICKY = false → Effect (.enum d p true depth
      bitmap) d s (fun y => y.get F.TRL_ADDR_ADDR = a ∧ y.on F.TRL_ADDR_VALID = true ∧ y.get F.TRL_ADDR_DEPTH = depth
      ∧ y.trl = { x.trl with claim := none } ∧ y.out.length = 1 ∧ ({ x with trl := y.trl }).only [F.TRL_ADDR_ADDR,
      F.TRL_ADDR_VALID, F.TRL_ADDR_DEPTH] [] y)) ∧
    (x.chained = true → x.on F.TRL_ADDR_MASTER = false → x.get F.TRL_PATH_PATH + 50 * acc ≤ 1000 * x.trl.lead → Effect
      (.trellisFrameSync d true acc .clean) d s (fun y => y.trl =
      { x.trl with ticks := x.trl.ticks ++ [4 * s.now + (1000 * x.trl.lead - (x.get F.TRL_PATH_PATH + 50 * acc))] } ∧
      ({ x with trl := y.trl }).only [] [] y)) ∧
    (x.chained = true → x.on F.TRL_ADDR_MASTER = false → Effect (.trellisFrameSync d false acc .clean) d s (fun y =>
      x.only [F.TRL_PORT_UP_ERR] [] y)) ∧
    (x.chained = true → x.on F.TRL_ADDR_MASTER = false → dst = 63 → x.led.sync = true → x.led.synced = none →
      x.led.armedAt ≠ some s.now → x.commitPending 0x3B = true → x.trl.seen = none → x.get F.TRL_PATH_PATH + 50 * acc
      ≤ 1000 * x.trl.lead → DieAnswers (.trellisSync d true dst seq acc) d s (fun y => y.led =
      { x.led with synced := some (4 * s.now + (1000 * x.trl.lead - (x.get F.TRL_PATH_PATH + 50 * acc))) } ∧ y.trl =
      { x.trl with seen := some (seq % 256) } ∧ ({ x with trl := y.trl, led := y.led, out := [] }).only [] []
      { y with out := [] })) ∧
    (x.chained = true → src < 64 → cls < 4 → Effect (.trellisAlarm d b true src .b cls tile temp frame) d s (fun y =>
      y.on (F.TRL_ALARM_VALID 0) = true ∧ y.on (F.TRL_ALARM_DIE 0) = true ∧ y.get (F.TRL_ALARM_CLASS 0) = cls ∧ y.get
      (F.TRL_ALARM_SRC 0) = src ∧ y.pends 106 = true ∧ x.only [F.TRL_ALARM_VALID 0, F.TRL_ALARM_DIE 0,
      F.TRL_ALARM_CLASS 0, F.TRL_ALARM_TILE 0, F.TRL_ALARM_SRC 0, F.TRL_ALARM_FRAME 1, F.TRL_ALARM_T 1] [106] y)) ∧
    (x.chained = true → p.good = true → Effect (.heartbeat d p) d s (fun y => y.seesUnit (p.src % 64) = true ∧ x.only
      [F.TRL_SEEN_LO_SEEN, F.TRL_SEEN_HI_SEEN] [] y)) ∧
    (x.chained = true → p.good = false → Effect (.heartbeat d p) d s (fun y => x.only [if p.up then F.TRL_PORT_UP_ERR
      else F.TRL_PORT_DOWN_ERR] [] y)) ∧
    (x.chained = true → Effect (.eopTimeout d b) d s (fun y => y.get (if b then F.TRL_PORT_UP_ERR else
      F.TRL_PORT_DOWN_ERR) = min (x.get (if b then F.TRL_PORT_UP_ERR else F.TRL_PORT_DOWN_ERR) + 1) (2 ^ (if b then
      F.TRL_PORT_UP_ERR else F.TRL_PORT_DOWN_ERR).width - 1) ∧ x.only [if b then F.TRL_PORT_UP_ERR else
      F.TRL_PORT_DOWN_ERR] [] y)) ∧
    (x.chained = true → x.on F.TRL_ADDR_MASTER = false → p.good = true → p.up = true → x.addressed p.dst = true → x.on
      F.TRL_CTRL_RSTEN = true → 3 ≤ reach → reach ≤ 5 → x.thm.stopping = false → DieAnswers (.trellisReset d p reach)
      d s (fun y => y.boot.episode.any (fun e => e.reach = reach && e.active = [] && e.best.cause = 6 && e.best.detail
      = 2) = true)) ∧
    (x.chained = true → x.on F.TRL_ADDR_MASTER = false → p.good = true → p.up = true → x.boot.cores = true → p.dst ≠
      63 → x.addressed p.dst = true → x.on F.TRL_CTRL_RWEN = true → die = (if d = .a then 0 else 1) → Effect
      (.trellisRead d p die 0x21 0x05C 1) d s (fun y => y.out = [accessAnswer p 0 [x.pageWord 0x21 0x05C]] ∧ x.only []
      [] y)) ∧
    (x.chained = true → x.on F.TRL_ADDR_MASTER = false → p.good = true → p.up = true → x.boot.cores = true → p.dst ≠
      63 → x.addressed p.dst = true → x.on F.TRL_CTRL_RWEN = false → Effect (.trellisRead d p die 0x21 0x05C 1) d s
      (fun y => y.out = [accessAnswer p 1 []] ∧ x.only [] [] y)) ∧
    (x.chained = true → x.on F.TRL_ADDR_MASTER = false → p.good = true → p.up = true → x.boot.cores = true → p.dst ≠
      63 → x.addressed p.dst = true → x.on F.TRL_CTRL_RWEN = true → die = (if d = .a then 0 else 1) → (∀ fl ∈ fieldsAt
      0x21 0x05C, ∀ f ∈ fl, f.inRange (f.ofWord (w % 2 ^ 32)) = true) → Effect (.trellisWrite d p die 0x21 0x05C [w])
      d s (fun y => (∀ fl ∈ fieldsAt 0x21 0x05C, ∀ f ∈ fl, y.get f = f.ofWord (w % 2 ^ 32)) ∧ y.out = [accessAnswer p
      0 []] ∧ x.only ((fieldsAt 0x21 0x05C).getD []) [] y))

/-- R368, R369, Table 13.6. A TIME at a member more than 1 µs off sets its time to the time carried plus its hop
delay; a smaller offset is slewed out at 100 ppm at most and leaves the time as it stands. Either shows its path
delay. TIME_REQ is answered with its arrival time. HOP_DELAY_MEASURE sends TIME_REQ, and TIME_RSP sets the hop delay
to half the round trip. TIME_SEND sends the master's time. UNLOCKED clears LOCKED and holds event 110 while the
counter runs on. TIME_SET sets the master's time and is refused with ACC_ERR on another unit. -/
def Obligations.TrellisTime : Prop :=
  ∀ (s : State) (d : DieId) (p : Packet) (time : Nat) (path : Nat) (lead : Nat) (t1 : Nat) (t2 : Nat) (t3 : Nat) (x :
    Die), s.running d → s.die d = x →
    (x.chained = true → x.on F.TRL_ADDR_MASTER = false → p.good = true → p.up = true → x.get F.TRL_ADDR_DEPTH ≤ 1 →
      x.downUp = false → 1000 < ((time + x.get F.TRL_PATH_HOP : Nat) - (x.timeNs s.now : Nat) : Int).natAbs →
      DieAnswers (.trellisTime d p time path lead) d s (fun y => y.timeNs s.now = time + x.get F.TRL_PATH_HOP ∧
      y.clock.slew = 0 ∧ y.get F.TRL_PATH_PATH = min (x.get F.TRL_PATH_HOP) 65535 ∧ y.trl.lead = lead ∧ y.on
      F.TRL_TIMING_LOCKED = false ∧ y.clock.aligned = false ∧ ({ x with clock := y.clock, trl := y.trl }).only
      [F.TRL_PATH_PATH, F.TRL_TIMING_LOCKED] [] y)) ∧
    (x.chained = true → x.on F.TRL_ADDR_MASTER = false → p.good = true → p.up = true → x.get F.TRL_ADDR_DEPTH ≤ 1 →
      x.downUp = false → ((time + x.get F.TRL_PATH_HOP : Nat) - (x.timeNs s.now : Nat) : Int).natAbs ≤ 1000 →
      DieAnswers (.trellisTime d p time path lead) d s (fun y => y.timeNs s.now = x.timeNs s.now ∧ y.clock.slew =
      100000000 * ((time + x.get F.TRL_PATH_HOP : Nat) - (x.timeNs s.now : Nat)) ∧ 1 ≤ y.clock.slewRate ∧
      y.clock.slewRate ≤ 10000 ∧ y.get F.TRL_PATH_PATH = min (x.get F.TRL_PATH_HOP) 65535 ∧ y.trl.lead = lead ∧
      y.clock.aligned = y.on F.TRL_TIMING_LOCKED ∧ (x.trl.offsets.length < 2 → y.on F.TRL_TIMING_LOCKED = false) ∧
      ({ x with clock := y.clock, trl := y.trl, free := y.free }).only [F.TRL_PATH_PATH, F.TRL_TIMING_LOCKED] [110]
      y)) ∧
    (x.chained = true → p.good = true → Effect (.timeReq d p) d s (fun y => y.out.length = 1 ∧
      ({ x with free := y.free }).only [] [] y)) ∧
    (x.chained = true → x.on F.TRL_ADDR_MASTER = false → Effect (.hopDelayMeasure d) d s (fun y => y.trl =
      { x.trl with t1 := some (x.timeNs s.now / 4 * 4) } ∧ y.out = [.trlTimeReq] ∧ ({ x with trl := y.trl }).only []
      [] y)) ∧
    (x.chained = true → p.good = true → x.trl.t1 = some t1 → t1 + (t3 - t2) ≤ x.timeNs s.now / 4 * 4 → (x.timeNs s.now
      / 4 * 4 - t1 - (t3 - t2)) % 2 = 0 → Effect (.timeRsp d p t2 t3) d s (fun y => y.get F.TRL_PATH_HOP = min
      ((x.timeNs s.now / 4 * 4 - t1 - (t3 - t2)) / 2) 65535 ∧ y.trl = { x.trl with t1 := none } ∧
      ({ x with trl := y.trl }).only [F.TRL_PATH_HOP] [] y)) ∧
    (x.chained = true → x.on F.TRL_ADDR_MASTER = true → Effect (.timeSend d) d s (fun y => y.out = [.trlTime (x.timeNs
      s.now) 0 (x.get F.TRL_TIMING_LEAD)] ∧ x.only [] [] y)) ∧
    (x.chained = true → x.on F.TRL_ADDR_MASTER = false → DieAnswers (.unlocked d) d s (fun y => y.on
      F.TRL_TIMING_LOCKED = false ∧ y.condOn 110 = true ∧ y.clock = { x.clock with aligned := false } ∧ y.trl =
      { x.trl with offsets := [] } ∧ ({ x with trl := y.trl, clock := y.clock, out := [] }).only [F.TRL_TIMING_LOCKED]
      [110] { y with out := [] })) ∧
    (x.chained = true → x.on F.TRL_ADDR_MASTER = true → time < 2 ^ 64 → DieAnswers (.timeSet d time) d s (fun y =>
      y.timeNs s.now = time ∧ y.clock.aligned = true ∧ ({ x with clock := y.clock }).only [] [] y)) ∧
    (x.on F.TRL_ADDR_MASTER = false → DieAnswers (.timeSet d time) d s (fun y => y.pends (accErrOf 0x12) = true ∧
      y.timeNs s.now = x.timeNs s.now ∧ x.only [] [accErrOf 0x12] y))

/-- R14, R363, R364, R365, R366, R367, R371, R373, R375, Table 13.4. TRL_CMD_GO at the master sends the packet from
the buffer and is BUSY until TRELLIS_RSP with its TAG or the timeout completes it with event 105; a broadcast
completes at once, a command with LEN 0 does so and sends nothing, and a unit that is not the master refuses it with
ACC_ERR. ENUM_GO begins an enumeration with a CLAIM, and its end raises event 108. SYNC_GO sends a SYNC with the next
SEQ. PORT_UP and PORT_DOWN show the port and hold event 107. LINK_NEW at a master with AUTOENUM begins an enumeration.
STICKY_STORE stores the address. UNIT_LOST clears a unit seen, with event 109. -/
def Obligations.TrellisCommands : Prop :=
  ∀ (s : State) (d : DieId) (p : Packet) (dst : Nat) (type : Nat) (len : Nat) (status : Nat) (bitmap : Nat) (a : Nat)
    (data : List Byte) (b : Bool) (x : Die), s.running d → s.die d = x →
    (x.chained = true → x.on F.TRL_ADDR_MASTER = true → x.on F.TRL_CMD_STAT_BUSY = false → dst < 63 → (type = 3 ∨ type
      = 4) → 0 < len → len ≤ 256 → Effect (.trlCmdGo d dst type len) d s (fun y => y.on F.TRL_CMD_STAT_BUSY = true ∧
      y.get F.TRL_CMD_DST = dst ∧ y.get F.TRL_CMD_TYPE = type ∧ y.get F.TRL_CMD_LEN = len ∧ y.trl =
      { x.trl with tag := (x.trl.tag + 1) % 256 } ∧ (y.out = [.trlPacket false dst type y.trl.tag (((List.range
      64).flatMap (fun k => bytesLE 4 (x.get (F.TRL_BUF_DATA k)))).take len)]) ∧ ({ x with trl := y.trl }).only
      [F.TRL_CMD_DST, F.TRL_CMD_TYPE, F.TRL_CMD_LEN, F.TRL_CMD_STAT_BUSY] [] y)) ∧
    (x.chained = true → x.on F.TRL_ADDR_MASTER = true → x.on F.TRL_CMD_STAT_BUSY = false → type = 4 → 0 < len → len ≤
      256 → Effect (.trlCmdGo d 63 type len) d s (fun y => y.on F.TRL_CMD_STAT_BUSY = false ∧ y.get
      F.TRL_CMD_STAT_STATUS = 0 ∧ y.pends 105 = true)) ∧
    (x.chained = true → x.on F.TRL_ADDR_MASTER = true → x.on F.TRL_CMD_STAT_BUSY = false → dst < 64 → (type = 3 ∨ type
      = 4 ∨ type = 9) → Effect (.trlCmdGo d dst type 0) d s (fun y => y.out = [] ∧ y.on F.TRL_CMD_STAT_BUSY = false ∧
      y.pends 105 = true ∧ y.trl = x.trl ∧ ({ x with free := y.free }).onlyPages [0x12] [105] y)) ∧
    ((x.on F.TRL_ADDR_MASTER = false ∨ x.on F.TRL_CMD_STAT_BUSY = true) → Effect (.trlCmdGo d dst type len) d s (fun y
      => y.pends (accErrOf 0x12) = true ∧ x.only [] [accErrOf 0x12] y)) ∧
    (x.chained = true → x.on F.TRL_ADDR_MASTER = true → p.good = true → x.on F.TRL_CMD_STAT_BUSY = true → p.tag =
      x.trl.tag → status < 8 → data = [] → Effect (.trellisRsp d p status data) d s (fun y => y.on F.TRL_CMD_STAT_BUSY
      = false ∧ y.get F.TRL_CMD_STAT_STATUS = status ∧ y.get F.TRL_CMD_STAT_RLEN = 0 ∧ y.pends 105 = true ∧ x.only
      [F.TRL_CMD_STAT_BUSY, F.TRL_CMD_STAT_STATUS, F.TRL_CMD_STAT_RLEN] [105] y)) ∧
    (x.chained = true → x.on F.TRL_ADDR_MASTER = true → p.good = true → p.tag ≠ x.trl.tag → Effect (.trellisRsp d p
      status data) d s (fun y => x.only [] [] y)) ∧
    (x.on F.TRL_CMD_STAT_BUSY = true → Effect (.trlCmdTimeout d) d s (fun y => y.on F.TRL_CMD_STAT_BUSY = false ∧
      y.get F.TRL_CMD_STAT_STATUS = 3 ∧ y.pends 105 = true ∧ x.only [F.TRL_CMD_STAT_BUSY, F.TRL_CMD_STAT_STATUS,
      F.TRL_CMD_STAT_RLEN] [105] y)) ∧
    (x.on F.TRL_ADDR_MASTER = true → x.leads = true → x.downUp = true → Effect (.enumGo d) d s (fun y => y.trl =
      { x.trl with claim := some (x.prefers.getD 1), stage := 1 } ∧ y.out = [.trlEnum false 0 (withBit 0
      (x.prefers.getD 1))] ∧ ({ x with trl := y.trl }).only [] [] y)) ∧
    (x.on F.TRL_ADDR_MASTER = false → Effect (.enumGo d) d s (fun y => y.pends (accErrOf 0x12) = true ∧ x.only []
      [accErrOf 0x12] y)) ∧
    (x.chained = true → x.on F.TRL_ADDR_MASTER = true → p.good = true → x.trl.stage = 1 → x.downUp = true → Effect
      (.enumRsp d p bitmap status) d s (fun y => y.trl.stage = 2 ∧ y.get F.TRL_ADDR_ADDR = (x.trl.claim.getD 1) % 2 ^
      (F.TRL_ADDR_ADDR).width ∧ y.get F.TRL_ADDR_DEPTH = 0 ∧ y.out = [.trlEnum true 1 bitmap])) ∧
    (x.chained = true → x.on F.TRL_ADDR_MASTER = true → p.good = true → x.trl.stage = 2 → Effect (.enumRsp d p bitmap
      status) d s (fun y => y.trl = { x.trl with stage := 0 } ∧ y.pends 108 = true ∧ ({ x with trl := y.trl }).only []
      [108] y)) ∧
    (x.on F.TRL_ADDR_MASTER = true → x.leads = true → Effect (.syncGo d) d s (fun y => y.trl =
      { x.trl with seq := (x.trl.seq + 1) % 256, ownSync := some (x.get F.TRL_MASTER_SYNC_DST) } ∧ y.out = [.trlSync
      (x.get F.TRL_MASTER_SYNC_DST) x.trl.seq] ∧ ({ x with trl := y.trl }).only [] [] y)) ∧
    (x.on F.TRL_ADDR_MASTER = false → Effect (.syncGo d) d s (fun y => y.pends (accErrOf 0x12) = true ∧ x.only []
      [accErrOf 0x12] y)) ∧
    (x.leads = true → x.hasPort b = true → Effect (.portDown d b) d s (fun y => y.on (if b then F.TRL_PORT_UP else
      F.TRL_PORT_DOWN) = false ∧ y.condOn 107 = y.portLost ∧ y.trl =
      { x.trl with ports := setAt x.trl.ports (if b then 0 else 1) false } ∧ ({ x with trl := y.trl }).only [if b then
      F.TRL_PORT_UP else F.TRL_PORT_DOWN] [107] y)) ∧
    (x.leads = true → x.hasPort true = true → Effect (.portUp d true) d s (fun y => y.on F.TRL_PORT_UP = true ∧ y.trl
      = { x.trl with used := x.trl.used ||| 1, ports := setAt x.trl.ports 0 true } ∧ y.condOn 107 = y.portLost ∧
      ({ x with trl := y.trl }).only [F.TRL_PORT_UP] [107] y)) ∧
    (x.leads = true → x.hasPort false = true → x.on F.TRL_CTRL_EN = true → x.on F.TRL_ADDR_MASTER = false → Effect
      (.portUp d false) d s (fun y => y.on F.TRL_PORT_DOWN = true ∧ y.out.getLast? = some .trlLinkNew)) ∧
    (x.chained = true → x.on F.TRL_ADDR_MASTER = true → p.good = true → x.on F.TRL_MASTER_AUTOENUM = true → x.downUp =
      true → Effect (.linkNew d p) d s (fun y => y.trl.stage = 1 ∧ y.out = [.trlEnum false 0 (withBit 0
      (x.prefers.getD 1))] ∧ ({ x with trl := y.trl }).only [] [] y)) ∧
    (x.trl.store = some a → x.jobRuns 0 = true → x.nvsHalted = false → Effect (.stickyStore d) d s (fun y =>
      y.nvs.queue = x.nvs.queue ++ [{ prio := 5, what := .page 3 0 (bytesLE 1 a), tag := .none }] ∧ y.trl =
      { x.trl with store := none } ∧ ({ x with trl := y.trl, nvs := y.nvs }).only [] [] y)) ∧
    (x.chained = true → Effect (.heartbeatSend d) d s (fun y => y.out.length = 1 ∧ x.only [] [] y)) ∧
    (a < 64 → x.seesUnit a = true → Effect (.unitLost d a) d s (fun y => y.seesUnit a = false ∧ y.pends 109 = true ∧
      x.only [F.TRL_SEEN_LO_SEEN, F.TRL_SEEN_HI_SEEN] [109] y)) ∧
    (x.chained = true → p.good = true → p.up = false → x.images = true → Effect (.bootReq d p) d s (fun y => y.out =
      [.trlBootImage] ∧ x.only [] [] y)) ∧
    (x.chained = true → p.good = true → p.up = true → x.startStep = 5 → x.get F.SYS_IDENT_BOOT = 2 → x.trl.boot = 2047
      → Effect (.bootData d p) d s (fun y => (y.boot.start = x.boot.start.map (fun q => { q with go := true })) ∧
      y.trl.boot = 2048))

/-- R376, R377, R378. On the dual package D2D_HEARTBEAT sends a beat, D2D_DOWN clears UP and holds event 113 on each
die, D2D_RETRAIN sets UP and ends it, and FLIT_RETRY counts a retry with event 114. TAKEOVER in a pair role makes Die
B the lead with event 115, and Die A leads no longer. -/
def Obligations.DieToDie : Prop :=
  ∀ (s : State) (d : DieId) (x : Die), s.dual = true ∧ s.running d → s.die d = x →
    (Effect (.d2dHeartbeat d) d s (fun y => y.out = [.d2dBeat] ∧ x.only [] [] y)) ∧
    (DieAnswers (.d2dDown) d s (fun y => y.on F.D2D_STAT_UP = false ∧ y.condOn 113 = true ∧ (x.condOn 113 = false →
      y.pends 113 = true) ∧ (x.leads = true ∨ x.on F.CAL_PAIR_LOCAL = false → ({ x with out := [] }).only
      [F.D2D_STAT_UP] [113] { y with out := [] }))) ∧
    (DieAnswers (.d2dRetrain true) d s (fun y => y.on F.D2D_STAT_UP = true ∧ y.condOn 113 = false ∧
      ({ x with out := [] }).only [F.D2D_STAT_UP] [113] { y with out := [] })) ∧
    (DieAnswers (.d2dRetrain false) d s (fun y => ({ x with out := [] }).only [] [] { y with out := [] })) ∧
    (Effect (.flitRetry d) d s (fun y => y.pends 114 = true ∧ y.get F.D2D_STAT_RETRIES = min (x.get F.D2D_STAT_RETRIES
      + 1) (2 ^ (F.D2D_STAT_RETRIES).width - 1) ∧ x.only [F.D2D_STAT_RETRIES] [114] y)) ∧
    (d = .b → x.leads = false → (x.pairRole = 1 ∨ x.pairRole = 2) → s.dieA.inReset = false → Answers (.takeover) s
      (fun t => (t.die .b).leads = true ∧ (t.die .b).on F.D2D_STAT_TAKEN = true ∧ (t.die .b).pends 115 = true ∧ (t.die
      .a).leads = false ∧ (t.die .a).on F.D2D_STAT_TAKEN = true ∧ (t.die .b).get F.TRL_ADDR_ADDR = s.dieA.get
      F.TRL_ADDR_ADDR ∧ (t.die .b).trl = s.dieA.trl))

/-- R379, R380, R381, R382, R383, Table 13.11. PRL_TRAINING_DONE brings the link up and shows the partner's role,
address and serial number; two equal roles hold event 125. PRL_MESSAGE_FAIL takes the link down with event 123's
condition, and a pair secondary loses its calibration grant. A heartbeat of a partner that has not failed keeps it
ALIVE and the link up. PARTNER_MISS marks the link down (that UP then reads 0 is log entry 67's reading), and it and
then PARTNER_FAIL_TMO declare the partner failed, with event 124's condition, and the survivor takes the shared
actuators with event 127; AUTOBACK returns them to the primary. PAIR_HIT counts in the vote, PAIR_MAP and PAIR_MIRROR
are written to the next slot in the DRAM. -/
def Obligations.PairLink : Prop :=
  ∀ (s : State) (d : DieId) (serial : Nat) (role : Nat) (addr : Nat) (cls : Nat) (tile : Nat) (temp : Nat) (frame :
    Nat) (lead : DieId) (from_ : DieId) (hot : Bool) (b : Bool) (bytes : List Byte) (x : Die), s.running d → s.die d =
    x →
    (x.paired = true → role = 3 - x.pairRole → addr < 64 → serial < 2 ^ 64 → Effect (.prlTrainingDone d serial role
      addr lead) d s (fun y => y.on F.PRL_STAT_UP = true ∧ y.get F.PRL_STAT_PROLE = role ∧ y.get F.PRL_STAT_PADDR =
      addr ∧ y.on F.PRL_STAT_ROLE_BAD = false ∧ y.on F.PRL_STAT_PLEAD = (lead = .b) ∧ y.get64 F.PRL_PSERIAL_LO_SERIAL
      F.PRL_PSERIAL_HI_SERIAL = serial ∧ y.condOn 123 = false ∧ y.condOn 125 = false ∧ x.onlyPages [0x15] [123, 125]
      y)) ∧
    (x.paired = true → role = x.pairRole → x.on F.CAL_PAIR_GRANT = false → (s.die d.other).on F.CAL_PAIR_GRANT = false
      → Effect (.prlTrainingDone d serial role addr lead) d s (fun y => y.on F.PRL_STAT_ROLE_BAD = true ∧ y.condOn 125
      = true ∧ x.onlyPages [0x15] [123, 125] y)) ∧
    (x.paired = true → x.on F.PRL_STAT_UP = true → x.on F.CAL_PAIR_GRANT = false → (s.die d.other).on F.CAL_PAIR_GRANT
      = false → Effect (.prlMessageFail d) d s (fun y => y.on F.PRL_STAT_UP = false ∧ y.condOn 123 = true ∧ x.only
      [F.PRL_CNT_RETRIES, F.PRL_STAT_UP] [123] y)) ∧
    (x.paired = true → x.on F.PRL_STAT_UP = true → x.pairRole = 2 → x.on F.CAL_PAIR_PAIR = true → x.on
      F.PRL_STAT_FAILED = false → DieAnswers (.prlMessageFail d) d s (fun y => y.on F.PRL_STAT_UP = false ∧ y.on
      F.CAL_PAIR_GRANT = false)) ∧
    (x.paired = true → Effect (.prlHeartbeatSend d) d s (fun y => y.out.length = 1 ∧ x.only [] [] y)) ∧
    (x.paired = true → x.on F.PRL_STAT_FAILED = false → Effect (.prlHeartbeat d lead hot b) d s (fun y => y.on
      F.PRL_STAT_ALIVE = true ∧ y.on F.PRL_STAT_FAILED = false ∧ y.condOn 124 = false ∧ y.prl =
      { x.prl with heard := b, missed := false, backAt := none } ∧ y.vote = { x.vote with partnerHot := hot } ∧ y.on
      F.PRL_STAT_UP = true ∧ y.condOn 123 = false ∧ ({ x with prl := y.prl, vote := y.vote }).only [F.PRL_STAT_UP,
      F.PRL_STAT_ALIVE, F.PRL_STAT_FAILED, F.PRL_STAT_PLEAD] [123, 124] y)) ∧
    (x.paired = true → x.on F.CAL_PAIR_GRANT = false → (s.die d.other).on F.CAL_PAIR_GRANT = false → Effect
      (.partnerMiss d) d s (fun y => y.prl = { x.prl with missed := true, backAt := none } ∧ y.on F.PRL_STAT_UP =
      false ∧ y.condOn 123 = true ∧ ({ x with prl := y.prl }).only [F.PRL_STAT_UP, F.PRL_CNT_MISSED] [123] y)) ∧
    (x.paired = true → x.prl.missed = true → x.hearsPartner = false → x.on F.PRL_STAT_FAILED = false → x.on
      F.PRL_STAT_OWNER = false → DieAnswers (.partnerFailTmo d) d s (fun y => y.on F.PRL_STAT_FAILED = true ∧ y.on
      F.PRL_STAT_ALIVE = false ∧ y.condOn 124 = true ∧ y.on F.PRL_STAT_OWNER = true ∧ y.pends 127 = true ∧
      ({ x with lpc := y.lpc, pwm := y.pwm }).onlyPages [0x15, 0x39, 0x3A] [124, 127] y)) ∧
    (x.paired = true → x.on F.PRL_CTRL_AUTOBACK = true → x.on F.PRL_STAT_ALIVE = true → x.pairRole = 2 → x.on
      F.PRL_STAT_OWNER = true → DieAnswers (.autoback d) d s (fun y => y.on F.PRL_STAT_OWNER = false ∧ y.pends 127 =
      true ∧ ({ x with lpc := y.lpc, pwm := y.pwm }).onlyPages [0x15, 0x39, 0x3A] [127] y)) ∧
    (x.paired = true → x.pairUp = true → cls < 16 → Effect (.pairHit d cls tile temp frame b) d s (fun y =>
      y.vote.partner.look cls = some (frame + 1) ∧ ({ x with vote := y.vote, rad := y.rad }).onlyPages [0x15] [126,
      370] y)) ∧
    (x.paired = true → x.pairUp = true → from_ = .a → EffectMem (.pairMap d from_ frame bytes) d s (fun y m => m =
      Memory.writeBytes (s.mem d) (x.get F.PRL_RMAP_BASE_BASE * 4096 + 1024 * x.prl.nextMap.getD 0 0) (padTo 1024
      (bytes.take 640 ++ bytesLE 8 frame)) ∧ y.prl =
      { x.prl with nextMap := fillSet 0 x.prl.nextMap 0 ((x.prl.nextMap.getD 0 0 + 1) % 16) } ∧
      ({ x with prl := y.prl }).only [] [] y)) ∧
    (x.paired = true → x.pairUp = true → (x.itemsOf 41).length < 32 → EffectMem (.pairMirror d serial from_ b bytes) d
      s (fun y m => m = Memory.writeBytes (s.mem d) (x.get F.PRL_MIRROR_BASE_BASE * 4096 + 2048 * x.prl.nextMirror)
      (mirrorSlot serial from_ b (bytes.take 2032)) ∧ y.prl = { x.prl with nextMirror := (x.prl.nextMirror + 1) % 32 }
      ∧ y.itemsOf 41 = x.itemsOf 41 ++ [{ stream := 41, bytes := mirrorSlot serial from_ b (bytes.take 2032) }])) ∧
    (x.paired = true → x.pairUp = true → 32 ≤ (x.itemsOf 41).length → Effect (.pairMirror d serial from_ b bytes) d s
      (fun y => y.out = [.mirrorRefused] ∧ x.only [] [] y))

/-- R388, R390, R394, R399, R400, R401. SPI_MASTER_GO with words begins a transfer with the target selected, with none
ends it at once with STATUS 1, and while one is in progress is ignored with ACC_ERR. XFER_DONE shifts a word out of
the transmit FIFO and one into the receive FIFO, and the last word ends the transfer with STATUS 0 and event 97.
SPI_TX_WRITE adds a word and is refused with ACC_ERR when the FIFO is full; SPI_RX_READ removes the oldest word, and
of an empty FIFO answers 0. XIP_READ of a line not held fetches it and counts a miss; a line held is a hit.
XIP_IDLE_TIMEOUT ends the reader's select and, after the start, returns the port. -/
def Obligations.SerialMaster : Prop :=
  ∀ (s : State) (d : DieId) (hold : Bool) (tgt : Nat) (n : Nat) (w : Nat) (val : Nat) (addr : Nat) (rest : List Nat)
    (q : Requester) (flash : List (List Byte)) (x : Die), s.running d → s.die d = x →
    (x.spiMaster = true → x.on F.SPI_STATE_MBUSY = false → x.on F.SPI_STATE_SEL = false → 0 < n → n < 65536 → tgt < 8
      → Effect (.spiMasterGo d hold tgt n) d s (fun y => y.on F.SPI_STATE_MBUSY = true ∧ y.on F.SPI_STATE_SEL = true ∧
      y.get F.SPI_STATE_LEFT = n ∧ y.get F.SPI_MXFER_TGT = tgt ∧ y.on F.SPI_MXFER_HOLD = hold ∧ y.get
      F.SPI_MXFER_NWORDS = n ∧ x.only [F.SPI_MXFER_HOLD, F.SPI_MXFER_TGT, F.SPI_MXFER_NWORDS, F.SPI_STATE_MBUSY,
      F.SPI_STATE_LEFT, F.SPI_STATE_SEL, F.FUS_PIN_CONFIGURED 5 1, F.FUS_PIN_CONFIGURED 5 2, F.FUS_PIN_CONFIGURED 5 4,
      F.FUS_PIN_CONFIGURED 5 5, F.FUS_PIN_CONFIGURED 5 6, F.FUS_PIN_CONFIGURED 5 7] [] y)) ∧
    (x.spiMaster = true → x.on F.SPI_STATE_MBUSY = false → Effect (.spiMasterGo d hold tgt 0) d s (fun y => y.on
      F.SPI_STATE_MBUSY = false ∧ y.get F.SPI_STATE_STATUS = 1 ∧ y.pends 97 = true)) ∧
    ((x.on F.SPI_STATE_MBUSY = true ∨ x.spiMaster = false) → Effect (.spiMasterGo d hold tgt n) d s (fun y => y.pends
      (accErrOf 0x11) = true ∧ x.only [] [accErrOf 0x11] y)) ∧
    (x.on F.SPI_STATE_MBUSY = true → x.boot.banks.getLsbD 0 = false → x.spi.tx = val :: rest → x.spi.rx = [] → x.get
      F.SPI_STATE_LEFT = 1 → x.on F.SPI_MXFER_HOLD = false → Effect (.xferDone d [w]) d s (fun y => y.out.head? = some
      (.spiOut (val % 2 ^ x.wordBits)) ∧ y.spi =
      { x.spi with tx := rest, rx := [(w % 2 ^ x.wordBits, false, x.wordBits)] } ∧ y.on F.SPI_STATE_MBUSY = false ∧
      y.get F.SPI_STATE_STATUS = 0 ∧ y.on F.SPI_STATE_SEL = false ∧ y.pends 97 = true ∧ y.get F.SPI_FIFO_TX_FILL =
      rest.length % 2 ^ (F.SPI_FIFO_TX_FILL).width ∧ y.get F.SPI_FIFO_RX_FILL = 1 ∧ ({ x with spi := y.spi }).only
      [F.SPI_STATE_MBUSY, F.SPI_STATE_LEFT, F.SPI_STATE_STATUS, F.SPI_STATE_SEL, F.SPI_FIFO_RX_FILL,
      F.SPI_FIFO_TX_FILL, F.SPI_RX_INFO_VALID, F.SPI_RX_INFO_SHORT, F.SPI_RX_INFO_BITS, F.SPI_RX_DATA] [97, 98] y)) ∧
    (x.spi.tx.length < 16 → x.on F.SPI_STATE_XIP = false → Effect (.spiTxWrite d val) d s (fun y => y.spi =
      { x.spi with tx := x.spi.tx ++ [val % 2 ^ 32] } ∧ y.get F.SPI_FIFO_TX_FILL = x.spi.tx.length + 1 ∧
      ({ x with spi := y.spi }).only [F.SPI_FIFO_RX_FILL, F.SPI_FIFO_TX_FILL, F.SPI_RX_INFO_VALID,
      F.SPI_RX_INFO_SHORT, F.SPI_RX_INFO_BITS, F.SPI_RX_DATA] [98] y)) ∧
    ((16 ≤ x.spi.tx.length ∨ x.on F.SPI_STATE_XIP = true) → Effect (.spiTxWrite d val) d s (fun y => y.pends (accErrOf
      0x11) = true ∧ x.only [] [accErrOf 0x11] y)) ∧
    (x.spi.rx = (w, hold, n) :: [] → Effect (.spiRxRead d q) d s (fun y => y.out.getLast? = some (.readData q w) ∧
      y.spi = { x.spi with rx := [] } ∧ y.get F.SPI_FIFO_RX_FILL = 0 ∧ y.on F.SPI_RX_INFO_VALID = false ∧
      ({ x with spi := y.spi }).only [F.SPI_FIFO_RX_FILL, F.SPI_FIFO_TX_FILL, F.SPI_RX_INFO_VALID,
      F.SPI_RX_INFO_SHORT, F.SPI_RX_INFO_BITS, F.SPI_RX_DATA] [98] y)) ∧
    (x.spi.rx = [] → Effect (.spiRxRead d q) d s (fun y => y.out = [.readData q 0] ∧ x.only [] [] y)) ∧
    (x.on F.SPI_STATE_XIP = true → x.boot.banks.getLsbD 0 = false → (∀ l ∈ x.spi.lines, l.1 ≠ addr / 32) →
      x.spi.lastLine = none → x.get F.SPI_XIP_CONT = 0 → Effect (.xipRead d addr flash) d s (fun y => (y.spi.lines =
      ((x.spi.lines.filter (fun l => !x.spi.ahead.contains l.1)) ++ [(addr / 32, padTo 32 (flash.headD []))]).drop
      ((x.spi.lines.filter (fun l => !x.spi.ahead.contains l.1)).length - 3)) ∧ y.spi.ahead = [] ∧ y.spi.lastLine =
      some (addr / 32) ∧ (x.get F.SPI_XIP_CNT_MISSES < 65535 → y.get F.SPI_XIP_CNT_MISSES = x.get F.SPI_XIP_CNT_MISSES
      + 1) ∧ y.get F.SPI_XIP_CNT_HITS = x.get F.SPI_XIP_CNT_HITS)) ∧
    (x.on F.SPI_STATE_XIP = true → x.spi.lines = [(addr / 32, flash.headD [])] → x.spi.lastLine = none → Effect
      (.xipRead d addr flash) d s (fun y => y.out = [] ∧ y.spi.lines = x.spi.lines ∧ y.get F.SPI_XIP_CNT_MISSES =
      x.get F.SPI_XIP_CNT_MISSES ∧ (x.get F.SPI_XIP_CNT_HITS < 65535 → y.get F.SPI_XIP_CNT_HITS = x.get
      F.SPI_XIP_CNT_HITS + 1))) ∧
    (x.on F.SPI_STATE_XIP = true → x.on F.RST_START_DONE = true → Effect (.xipIdleTimeout d) d s (fun y => y.on
      F.SPI_STATE_XIP = false ∧ y.on F.SPI_STATE_SEL = false ∧ y.spi = { x.spi with stream := none, bare := false } ∧
      ({ x with spi := y.spi }).only [F.SPI_STATE_XIP, F.SPI_STATE_SEL] [] y))

/-- R391, R392, R393, R395, R396, R397, Table 14.2. SS_N_FALL selects the slave and sends the first transmit word, or
a busy word with event 100. SLAVE_WORD in FIFO operation enters the receive FIFO. SS_N_RISE ends the select, and a
short word is delivered with its bits and event 99. Under the protocol an idle engine takes a read command, which
reads the register and is ready with its word, takes a write command and waits for its data, and ignores a NOP; a data
word of a write with WEN 0 gives status 3 (DENIED) and writes nothing, and with WEN 1 the register takes it. A rise of
SS_N before the data words have arrived aborts the transaction with event 103, and one after a command refused with
BAD_CMD, whose transaction is over, does not. -/
def Obligations.SerialSlave : Prop :=
  ∀ (s : State) (d : DieId) (w : Nat) (edges : Nat) (val : Nat) (t : Nat) (rest : List Nat) (x : Die), s.running d →
    s.die d = x →
    (x.spiSlave = true → x.boot.banks.getLsbD 0 = false → x.spi.sel = false → x.on F.SPI_CFG_PROTO = false → x.spi.tx
      = t :: rest → Effect (.ssNFall d) d s (fun y => y.spi = { x.spi with sel := true, tx := rest, shift := some t }
      ∧ y.on F.SPI_STATE_SEL = true ∧ y.out.head? = some (.spiOut (t % 2 ^ x.wordBits)) ∧
      ({ x with spi := y.spi }).onlyPages [4, 0x11] [98] y)) ∧
    (x.spiSlave = true → x.boot.banks.getLsbD 0 = false → x.spi.sel = false → x.on F.SPI_CFG_PROTO = false → x.spi.tx
      = [] → Effect (.ssNFall d) d s (fun y => y.spi.sel = true ∧ y.pends 100 = true ∧ y.out.getLast? = some (.spiOut
      (0xAAAAAAAA % 2 ^ x.wordBits)) ∧ ({ x with spi := y.spi }).onlyPages [4, 0x11] [100] y)) ∧
    (x.slaveOn = true → x.on F.SPI_CFG_PROTO = false → x.spi.rx.length < 16 → Effect (.slaveWord d w) d s (fun y =>
      y.spi.rx = x.spi.rx ++ [(w % 2 ^ x.wordBits, false, x.wordBits)] ∧ y.get F.SPI_FIFO_RX_FILL = x.spi.rx.length +
      1 ∧ ({ x with spi := y.spi }).onlyPages [0x11] [98, 100] y)) ∧
    (x.slaveOn = true → x.on F.SPI_CFG_PROTO = false → 16 ≤ x.spi.rx.length → Effect (.slaveWord d w) d s (fun y =>
      y.spi.rx = x.spi.rx ∧ y.pends 101 = true ∧ ({ x with spi := y.spi }).onlyPages [0x11] [98, 100, 101] y)) ∧
    (x.spi.sel = true → x.boot.banks.getLsbD 0 = false → x.on F.SPI_CFG_PROTO = false → 0 < edges → edges < x.wordBits
      → x.spi.rx.length < 16 → Effect (.ssNRise d edges val) d s (fun y => y.spi =
      { x.spi with sel := false, shift := none, rx := x.spi.rx ++ [(val % 2 ^ edges, true, edges)] } ∧ y.on
      F.SPI_STATE_SEL = false ∧ y.pends 99 = true ∧ ({ x with spi := y.spi }).only [F.SPI_STATE_SEL, F.SPI_SLV_SHORTS,
      F.SPI_FIFO_RX_FILL, F.SPI_FIFO_TX_FILL, F.SPI_RX_INFO_VALID, F.SPI_RX_INFO_SHORT, F.SPI_RX_INFO_BITS,
      F.SPI_RX_DATA] [98, 99] y)) ∧
    (x.spi.sel = true → x.boot.banks.getLsbD 0 = false → x.on F.SPI_CFG_PROTO = false → Effect (.ssNRise d 0 val) d s
      (fun y => y.spi = { x.spi with sel := false, shift := none } ∧ y.on F.SPI_STATE_SEL = false ∧
      ({ x with spi := y.spi }).only [F.SPI_STATE_SEL] [] y)) ∧
    (x.spi.sel = true → x.boot.banks.getLsbD 0 = false → x.on F.SPI_CFG_PROTO = true → x.spi.phase = 1 → Effect
      (.ssNRise d 0 val) d s (fun y => y.spi.phase = 0 ∧ y.spi.sel = false ∧ y.on F.SPI_PROTO_STAT_ABORT = true ∧
      y.pends 103 = true ∧ y.on F.SPI_PROTO_STAT_BUSY = false ∧ ({ x with spi := y.spi }).onlyPages [0x11] [103] y)) ∧
    (x.spi.sel = true → x.boot.banks.getLsbD 0 = false → x.on F.SPI_CFG_PROTO = true → x.spi.phase = 2 → x.get
      F.SPI_PROTO_STAT_STATUS = 2 → Effect (.ssNRise d 0 val) d s (fun y => y.spi.phase = 0 ∧ y.spi.sel = false ∧ y.on
      F.SPI_PROTO_STAT_ABORT = x.on F.SPI_PROTO_STAT_ABORT ∧ ({ x with spi := y.spi }).onlyPages [0x11] [] y)) ∧
    (x.slaveOn = true → x.on F.SPI_CFG_PROTO = true → x.spi.phase = 0 → w = 0x40000000 + 0x2105C → x.evq.entries = []
      → Effect (.protoRead d w) d s (fun y => y.spi.left = [x.pageWord 0x21 0x05C] ∧ y.spi.phase = 2 ∧ y.get
      F.SPI_PROTO_STAT_STATUS = 0 ∧ y.on F.SPI_PROTO_STAT_BUSY = true ∧ y.spi.ready = s.now + 500)) ∧
    (x.slaveOn = true → x.on F.SPI_CFG_PROTO = true → x.spi.phase = 0 → w = 0x80000000 + 0x2105C → Effect (.protoWrite
      d w) d s (fun y => y.spi.phase = 1 ∧ y.spi.cmd = w ∧ y.on F.SPI_PROTO_STAT_BUSY = true ∧ y.pageWord 0x21 0x05C =
      x.pageWord 0x21 0x05C ∧ ({ x with spi := y.spi }).only [F.SPI_PROTO_STAT_ADDR, F.SPI_PROTO_STAT_BUSY,
      F.SPI_PROTO_STAT_STATUS, F.SPI_PROTO_STAT_ABORT] [] y)) ∧
    (x.slaveOn = true → x.on F.SPI_CFG_PROTO = true → x.spi.phase = 1 → x.spi.data = [] → x.spi.cmd = 0x80000000 +
      0x2105C → x.on F.SPI_PROTO_WEN = false → Effect (.slaveWord d w) d s (fun y => y.spi.phase = 2 ∧ y.get
      F.SPI_PROTO_STAT_STATUS = 3 ∧ y.pageWord 0x21 0x05C = x.pageWord 0x21 0x05C ∧
      ({ x with spi := y.spi }).onlyPages [0x11] [100] y)) ∧
    (x.slaveOn = true → x.on F.SPI_CFG_PROTO = true → x.spi.phase = 1 → x.spi.data = [] → x.spi.cmd = 0x80000000 +
      0x2105C → x.on F.SPI_PROTO_WEN = true → (∀ fl ∈ fieldsAt 0x21 0x05C, ∀ f ∈ fl, f.inRange (f.ofWord (w % 2 ^ 32))
      = true) → x.evq.entries = [] → Effect (.slaveWord d w) d s (fun y => y.spi.phase = 2 ∧ y.get
      F.SPI_PROTO_STAT_STATUS = 0 ∧ (∀ fl ∈ fieldsAt 0x21 0x05C, ∀ f ∈ fl, y.get f = f.ofWord (w % 2 ^ 32)) ∧
      ({ x with spi := y.spi }).onlyPages [0x11, 0x21] [100] y)) ∧
    (x.slaveOn = true → x.on F.SPI_CFG_PROTO = true → x.spi.phase = 0 → w < 2 ^ 30 → Effect (.protoNop d w) d s (fun y
      => y.out = [.spiOut 0] ∧ x.only [] [] y))

/-- R404, R405, R407, R408, R409, R412, R415, Table 15.1, R27, R410, R416, Table 1.7. An error of an SRAM row whose
bank has a spare row left puts the row out of service, waiting for a test, with event 609; without a spare nothing
changes, as far as no other row failed in the same PERI cycle. TEST_START tests the resource that has waited longest.
TEST_DONE with a pass returns the resource to service and records a transient fault, and with a failure makes the
fault lasting with event 610; TEST_STALL is a failure with event 616. GRAFT_TABLE_WRITE writes a lasting fault's
entry. SPR_REMOVE of a resource that an error has taken out in the same PERI cycle is merged into it. SPR_REMOVE,
SPR_RETEST and SPR_CLEAR of a resource that they cannot act on complete with STATUS 1, and while BUSY are ignored with
ACC_ERR. The expiry of a core's watchdog is counted with event 621, and an uncorrectable error of its memory is not;
in both cases the core leaves service and the spare takes its job, whose commands are restarted when
SPARE_CORE_TAKEOVER ends the hand-over. With no spare left the watchdog source of die warm reach is asserted instead,
with the core in DETAIL. -/
def Obligations.SparingAndCores : Prop :=
  ∀ (s : State) (d : DieId) (bank : Nat) (row : Nat) (ty : Nat) (inst : Nat) (detail : Nat) (n : Nat) (r : Resource)
    (cause : Nat) (rest : List (Nat × Nat × Nat)) (core : Fin 5) (j : Nat) (x : Die), s.running d → s.die d = x →
    (bank < 1024 → row < 1024 → x.resource? 5 (bank * 1024 + row) = none → (x.spr.inventory.all (fun q => q.since !=
      s.now) = true) → Effect (.sramRowError d bank row) d s (fun y => if x.spr.rowsUsed bank < Config.sramSpares bank
      then y.spr.inventory = x.spr.inventory ++
      [{ type := 5, inst := bank * 1024 + row, waiting := true, testing := false, spoilt := false, lasting := false, cause := 5, since := s.now, hostTest := false }]
      ∧ y.spr.rowsUsed bank = x.spr.rowsUsed bank + 1 ∧ y.pends 609 = true else x.only [] [] y)) ∧
    (x.resource? 8 row = none → x.spr.dramCorr = [] → Effect (.dramRowError d row true) d s (fun y => if
      x.spr.dramUsed < Config.dramSpares then y.spr.dramUsed = x.spr.dramUsed + 1 ∧ (y.resource? 8 row).map (fun q =>
      (q.lasting, q.cause)) = some (true, 5) ∧ y.pends 609 = true ∧ y.pends 610 = true else x.only [] [] y)) ∧
    (x.spr.dramCorr = [] → Effect (.dramRowError d row false) d s (fun y => y.spr =
      { x.spr with dramCorr := [(row, s.now, 0)] } ∧ ({ x with spr := y.spr }).only [] [] y)) ∧
    (x.on F.STS_STATE_BUSY = false → x.takes 0x0B = true → x.nextTest = some r → r.type = 5 → r.inst < 2 ^ 20 → Effect
      (.testStart d) d s (fun y => y.spr =
      { x.spr.replace { r with waiting := false, testing := true, spoilt := false } with testAt := s.now } ∧ y.on
      F.STS_STATE_BUSY = true ∧ y.get F.STS_STATE_TYPE = r.type ∧ y.get F.STS_STATE_INSTANCE = r.inst ∧
      ({ x with spr := y.spr }).only [F.STS_STATE_BUSY, F.STS_STATE_TYPE, F.STS_STATE_INSTANCE, F.STS_STATE_WAITING]
      [] y)) ∧
    (x.on F.STS_STATE_BUSY = true → x.spr.inventory = [r] → r.type = 5 → r.testing = true → r.spoilt = false →
      r.hostTest = false → x.repeats r s.now = false → Effect (.testDone d true detail) d s (fun y => y.spr.inventory
      = [] ∧ y.on F.STS_STATE_BUSY = false ∧ y.get F.STS_RESULT_OUTCOME = 1 ∧ y.pends 615 = true ∧
      y.spr.transients.length = min 64 (x.spr.transients.length + 1) ∧ y.spr.toWrite = x.spr.toWrite ∧
      ({ x with spr := y.spr, frame := y.frame, ipp := y.ipp }).onlyPages [10, 11] [609, 612, 615, 617] y)) ∧
    (x.on F.STS_STATE_BUSY = true → x.spr.inventory = [r] → r.type = 5 → r.testing = true → r.hostTest = false →
      Effect (.testDone d false detail) d s (fun y => (y.spr.inventory.map (fun q => (q.type, q.inst, q.lasting,
      q.testing)) = [(r.type, r.inst, true, false)]) ∧ y.on F.STS_STATE_BUSY = false ∧ y.get F.STS_RESULT_OUTCOME = 2
      ∧ y.pends 615 = true ∧ y.pends 610 = true ∧ y.spr.toWrite = x.spr.toWrite ++ [(r.type, r.inst, r.cause)] ∧
      ({ x with spr := y.spr }).onlyPages [10, 11] [610, 612, 615, 617] y)) ∧
    (x.on F.STS_STATE_BUSY = true → x.spr.inventory = [r] → r.type = 5 → r.testing = true → r.hostTest = false →
      Effect (.testStall d) d s (fun y => y.get F.STS_RESULT_OUTCOME = 3 ∧ y.on F.STS_STATE_BUSY = false ∧ y.pends 616
      = true ∧ y.pends 610 = true ∧ ({ x with spr := y.spr }).onlyPages [10, 11] [610, 612, 616, 617] y)) ∧
    (x.jobRuns 0 = true → x.spr.toWrite = (ty, inst, cause) :: rest → x.on F.SPR_CTRL_PERSIST = true → x.nvs.queue =
      [] → graftInForce (x.nvs.graftEntry 0) = false → DieAnswers (.graftTableWrite d) d s (fun y => y.spr.toWrite =
      rest ∧ (y.nvs.queue.head?.map (fun q => (q.prio, q.tag)) = some (3, NvsTag.none)) ∧ y.nvs.queue.length = 2)) ∧
    (x.jobRuns 0 = true → x.spr.toWrite = (ty, inst, cause) :: rest → x.on F.SPR_CTRL_PERSIST = false → Effect
      (.graftTableWrite d) d s (fun y => y.spr = { x.spr with toWrite := rest } ∧ ({ x with spr := y.spr }).only [] []
      y)) ∧
    (x.on F.SPR_REQ_STAT_BUSY = false → x.takes 0x0A = true → x.sprFree = true → Effect (.sprRemove d 6 inst) d s (fun
      y => y.get F.SPR_REQ_STAT_STATUS = 1 ∧ y.on F.SPR_REQ_STAT_BUSY = false ∧ y.pends 613 = true ∧ y.spr =
      { x.spr with request := none } ∧ x.only [F.SPR_REQ_OP, F.SPR_REQ_TYPE, F.SPR_REQ_INSTANCE,
      F.SPR_REQ_STAT_STATUS, F.SPR_REQ_STAT_BUSY] [613] { y with spr := x.spr })) ∧
    (x.on F.SPR_REQ_STAT_BUSY = false → x.takes 0x0A = true → x.sprFree = true → x.resource? 3 4 = none → DieAnswers
      (.sprRemove d 3 4) d s (fun y => ((y.resource? 3 4).map (fun q => q.cause) = some 7) ∧ y.get
      F.SPR_REQ_STAT_STATUS = 0 ∧ y.on F.SPR_REQ_STAT_BUSY = false ∧ y.pends 613 = true ∧ y.pends 609 = true)) ∧
    (x.on F.SPR_REQ_STAT_BUSY = false → x.takes 0x0A = true → x.sprFree = true → ty = 5 → inst < 2 ^ 20 →
      x.spr.inventory = [r] → r.type = ty → r.inst = inst → Effect (.sprRemove d ty inst) d s (fun y =>
      y.spr.inventory = [r] ∧ y.get F.SPR_REQ_STAT_STATUS = (if r.since = s.now && !r.lasting then 0 else 1) ∧ y.on
      F.SPR_REQ_STAT_BUSY = false ∧ y.pends 613 = true ∧ ({ x with spr := y.spr }).only [F.SPR_REQ_OP, F.SPR_REQ_TYPE,
      F.SPR_REQ_INSTANCE, F.SPR_REQ_STAT_STATUS, F.SPR_REQ_STAT_BUSY] [613] y)) ∧
    (x.on F.SPR_REQ_STAT_BUSY = false → x.takes 0x0A = true → x.sprFree = true → ty = 5 → inst < 2 ^ 20 →
      x.spr.inventory = [r] → r.type = ty → r.inst = inst → r.lasting = true → Effect (.sprRetest d ty inst) d s (fun
      y => (y.spr.inventory.map (fun q => (q.waiting, q.hostTest)) = [(true, true)]) ∧ y.on F.SPR_REQ_STAT_BUSY = true
      ∧ y.spr.request = some (2, ty, inst))) ∧
    (x.on F.SPR_REQ_STAT_BUSY = false → x.takes 0x0A = true → x.sprFree = true → ty = 5 → inst < 2 ^ 20 →
      x.spr.inventory = [r] → r.type = ty → r.inst = inst → r.lasting = true → DieAnswers (.sprClear d ty inst) d s
      (fun y => y.spr.inventory = [] ∧ y.on F.SPR_REQ_STAT_BUSY = false ∧ y.get F.SPR_REQ_STAT_STATUS = 0 ∧ y.pends
      613 = true)) ∧
    (x.on F.SPR_REQ_STAT_BUSY = true → Effect (.sprClear d ty inst) d s (fun y => y.pends (accErrOf 0x0A) = true ∧
      x.only [] [accErrOf 0x0A] y)) ∧
    (x.boot.cores = true → x.jobOf core.val = some j → (j = 2 ∨ j = 3) → x.get F.PRC_MAP_SPARE = n → n < 5 →
      x.resource? 4 core.val = none → DieAnswers (.watchdogExpiry d core) d s (fun y => y.boot.down = x.boot.down ++
      [j] ∧ y.get F.PRC_MAP_SPARE = 7 ∧ y.pends 621 = true ∧ ((y.resource? 4 core.val).map (fun q => q.cause) = some
      4) ∧ y.inReset = false)) ∧
    (x.boot.cores = true → x.jobOf core.val = some j → x.get F.PRC_MAP_SPARE = 7 → x.boot.down = [] → x.thm.stopping =
      false → DieAnswers (.watchdogExpiry d core) d s (fun y => y.boot.episode.any (fun e => e.reach = 3 && e.active =
      [] && e.best.cause = 5 && e.best.detail = core.val) = true)) ∧
    (x.boot.cores = true → x.jobOf core.val = some j → (j = 2 ∨ j = 3) → x.get F.PRC_MAP_SPARE = n → n < 5 →
      x.resource? 4 core.val = none → DieAnswers (.coreMemUncorr d core) d s (fun y => y.boot.down = x.boot.down ++
      [j] ∧ y.get F.PRC_MAP_SPARE = 7 ∧ ((y.resource? 4 core.val).map (fun q => q.cause) = some 5) ∧ y.get
      F.PRC_WDOG_EXPIRIES = x.get F.PRC_WDOG_EXPIRIES ∧ ({ x with boot := y.boot, spr := y.spr }).onlyPages [9, 10,
      11] [609, 617] y)) ∧
    (x.boot.down = [j] → (j = 2 ∨ j = 3) → ((List.range 5).find? (fun k => x.get (F.PRC_CORE_CORE k) = 2) = some n) →
      DieAnswers (.spareCoreTakeover d) d s (fun y => y.get (F.jobCore j) = n ∧ y.get (F.PRC_CORE_CORE n) = 0 ∧
      y.boot.down = [] ∧ y.pends 622 = true ∧ y.pends 609 = true))

/-- R41, R345, R348, R321, R437, R24, Table 12.6. BASE_READY is accepted in step 7 of a start and denied outside it.
PARAM_SAVE, PARAM_DISCARD, PWD_RECOVER and RECOVERY_WRITE request their writes of the Seed Tray and are answered when
the last is written; while the Seed Tray is halted they complete with HALTED, without the WRITE password PARAM_DISCARD
and RECOVERY_WRITE with DENIED, and an image whose signature does not verify with BAD_ARG. While a page that the
command reads is being written, or before the Seed Tray is ready, it waits. -/
def Obligations.MailboxSystem : Prop :=
  ∀ (s : State) (d : DieId) (tag : Nat) (arg : Nat) (good : Bool) (q : Start) (x : Die), s.running d → s.die d = x →
    (x.on (F.MBX_RSP_BUSY 0) = false → x.takes 0x08 = true → x.mbxFree 0 = true → x.boot.start = some q → q.step = 7 →
      Effect (.baseReady d tag arg) d s (fun y => (y.mailbox 0).result = some (0, 0) ∧ y.on (F.MBX_RSP_BUSY 0) = true
      ∧ y.boot.start = some { q with base := true } ∧ ({ x with mbx := y.mbx, boot := y.boot }).only [F.MBX_CMD_OPCODE
      0, F.MBX_CMD_TAG 0, F.MBX_ARG_ARG 0, F.MBX_RSP_BUSY 0] [] y)) ∧
    (x.on (F.MBX_RSP_BUSY 0) = false → x.takes 0x08 = true → x.mbxFree 0 = true → x.startStep ≠ 7 → Effect (.baseReady
      d tag arg) d s (fun y => (y.mailbox 0).result = some (5, 0) ∧ y.on (F.MBX_RSP_BUSY 0) = true ∧
      ({ x with mbx := y.mbx }).only [F.MBX_CMD_OPCODE 0, F.MBX_CMD_TAG 0, F.MBX_ARG_ARG 0, F.MBX_RSP_BUSY 0] [] y)) ∧
    (x.on (F.MBX_RSP_BUSY 0) = false → x.takes 0x08 = true → x.mbxFree 0 = true → x.canRead 64 256 = true →
      x.nvsHalted = false → Effect (.paramSave d tag arg) d s (fun y => (y.nvs.queue.getLast?.map (fun r => r.tag) =
      some (.mbx 0 0 (x.nvs.nextSlotOf false).2)) ∧ (y.mailbox 0).result = none ∧ y.on (F.MBX_RSP_BUSY 0) = true ∧
      ({ x with mbx := y.mbx, nvs := y.nvs }).only [F.MBX_CMD_OPCODE 0, F.MBX_CMD_TAG 0, F.MBX_ARG_ARG 0,
      F.MBX_RSP_BUSY 0] [] y)) ∧
    (x.on (F.MBX_RSP_BUSY 0) = false → x.takes 0x08 = true → x.mbxFree 0 = true → x.nvsHalted = true → Effect
      (.paramSave d tag arg) d s (fun y => (y.mailbox 0).result = some (7, 0) ∧ y.on (F.MBX_RSP_BUSY 0) = true ∧
      ({ x with mbx := y.mbx }).only [F.MBX_CMD_OPCODE 0, F.MBX_CMD_TAG 0, F.MBX_ARG_ARG 0, F.MBX_RSP_BUSY 0] [] y)) ∧
    (x.on (F.MBX_RSP_BUSY 0) = false → x.takes 0x08 = true → x.mbxFree 0 = true → x.canRead 2 1 = true → x.canRead 64
      256 = true → x.nvsHalted = false → x.pwdOpen 2 = true → Effect (.paramDiscard d tag arg) d s (fun y =>
      y.nvs.queue.length = x.nvs.queue.length + 2 ∧ (y.nvs.queue.getLast?.map (fun r => r.tag) = some (.mbx 0 0 0)) ∧
      (y.mailbox 0).result = none ∧ y.on (F.MBX_RSP_BUSY 0) = true ∧ ({ x with mbx := y.mbx, nvs := y.nvs }).only
      [F.MBX_CMD_OPCODE 0, F.MBX_CMD_TAG 0, F.MBX_ARG_ARG 0, F.MBX_RSP_BUSY 0] [] y)) ∧
    (x.on (F.MBX_RSP_BUSY 0) = false → x.takes 0x08 = true → x.mbxFree 0 = true → x.canRead 2 1 = true → x.canRead 64
      256 = true → x.pwdOpen 2 = true → x.nvsHalted = true → Effect (.paramDiscard d tag arg) d s (fun y => (y.mailbox
      0).result = some (7, 0) ∧ y.on (F.MBX_RSP_BUSY 0) = true ∧ ({ x with mbx := y.mbx }).only [F.MBX_CMD_OPCODE 0,
      F.MBX_CMD_TAG 0, F.MBX_ARG_ARG 0, F.MBX_RSP_BUSY 0] [] y)) ∧
    (x.on (F.MBX_RSP_BUSY 0) = false → x.takes 0x08 = true → x.mbxFree 0 = true → (x.canRead 2 1 = false ∨ x.canRead
      64 256 = false) → Effect (.paramDiscard d tag arg) d s (fun y => (y.mailbox 0).waiting = true ∧ (y.mailbox
      0).result = none ∧ y.on (F.MBX_RSP_BUSY 0) = true ∧ ({ x with mbx := y.mbx }).only [F.MBX_CMD_OPCODE 0,
      F.MBX_CMD_TAG 0, F.MBX_ARG_ARG 0, F.MBX_RSP_BUSY 0] [] y)) ∧
    (x.on (F.MBX_RSP_BUSY 0) = false → x.takes 0x08 = true → x.mbxFree 0 = true → x.nvsHalted = false → x.canRead 64
      256 = false → Effect (.paramSave d tag arg) d s (fun y => (y.mailbox 0).waiting = true ∧ (y.mailbox 0).result =
      none ∧ y.on (F.MBX_RSP_BUSY 0) = true ∧ ({ x with mbx := y.mbx }).only [F.MBX_CMD_OPCODE 0, F.MBX_CMD_TAG 0,
      F.MBX_ARG_ARG 0, F.MBX_RSP_BUSY 0] [] y)) ∧
    (x.on (F.MBX_RSP_BUSY 0) = false → x.takes 0x08 = true → x.mbxFree 0 = true → x.nvsHalted = false → Effect
      (.pwdRecover d tag arg) d s (fun y => y.nvs.queue.getLast? = some
      { prio := 5, what := .add 7 1, tag := .mbx 0 0 0 } ∧ (y.mailbox 0).result = none ∧ y.on (F.MBX_RSP_BUSY 0) =
      true ∧ ({ x with mbx := y.mbx, nvs := y.nvs }).only [F.MBX_CMD_OPCODE 0, F.MBX_CMD_TAG 0, F.MBX_ARG_ARG 0,
      F.MBX_RSP_BUSY 0] [] y)) ∧
    (x.on (F.MBX_RSP_BUSY 0) = false → x.takes 0x08 = true → x.mbxFree 0 = true → x.canRead 2 1 = true → x.pwdOpen 2 =
      true → good = false → Effect (.recoveryWrite d tag arg good) d s (fun y => (y.mailbox 0).result = some (3, 0) ∧
      y.on (F.MBX_RSP_BUSY 0) = true ∧ ({ x with mbx := y.mbx }).only [F.MBX_CMD_OPCODE 0, F.MBX_CMD_TAG 0,
      F.MBX_ARG_ARG 0, F.MBX_RSP_BUSY 0] [] y)) ∧
    (x.on (F.MBX_RSP_BUSY 0) = false → x.takes 0x08 = true → x.mbxFree 0 = true → x.canRead 2 1 = true → x.pwdOpen 2 =
      true → good = true → x.nvsHalted = false → Effect (.recoveryWrite d tag arg good) d s (fun y =>
      y.nvs.queue.getLast? = some
      { prio := 5, what := .page 1327 0 ((s.mem d).readBytes (arg + 511 * 64) 64), tag := .mbx 0 0 0 } ∧ y.on
      (F.MBX_RSP_BUSY 0) = true ∧ (y.mailbox 0).result = none))

/-- R167, R180, R181, Table 5.10, R437. CAL_EVENT with ARG 0 or 1 makes an event due for the host's reason, and is
denied while the Cloche cannot close. CAL_ABORT abandons an event that has not been armed and otherwise answers that
there is none. CAL_SAVE answers when its record is stored. CAL_LOAD is denied while calibration runs and without a
record answers ZERO; it waits while the records are being written. CAL_HASH answers with the hash that it asks for. -/
def Obligations.MailboxCalibration : Prop :=
  ∀ (s : State) (d : DieId) (tag : Nat) (arg : Nat) (e : CalEvent) (x : Die), s.running d → s.die d = x →
    (x.on (F.MBX_RSP_BUSY 1) = false → x.takes 0x08 = true → x.mbxFree 1 = true → arg < 2 → x.cal.event = none → x.on
      F.CAL_CTRL_EN = true → x.canClose = true → Effect (.calEvent d tag arg) d s (fun y => y.cal.host = some arg ∧
      y.cal.hostDue = true ∧ 5 ∈ y.calReasons s.now ∧ (x.get F.CAL_STATE_PHASE = 0 → y.get F.CAL_STATE_PHASE = 1 ∧
      y.pends 325 = true) ∧ (y.mailbox 1).result = none ∧ y.on (F.MBX_RSP_BUSY 1) = true)) ∧
    (x.on (F.MBX_RSP_BUSY 1) = false → x.takes 0x08 = true → x.mbxFree 1 = true → 2 ≤ arg → Effect (.calEvent d tag
      arg) d s (fun y => (y.mailbox 1).result = some (3, 0) ∧ y.on (F.MBX_RSP_BUSY 1) = true ∧
      ({ x with mbx := y.mbx }).only [F.MBX_CMD_OPCODE 1, F.MBX_CMD_TAG 1, F.MBX_ARG_ARG 1, F.MBX_RSP_BUSY 1] [] y)) ∧
    (x.on (F.MBX_RSP_BUSY 1) = false → x.takes 0x08 = true → x.mbxFree 1 = true → arg < 2 → x.on F.CAL_CTRL_EN = false
      → Effect (.calEvent d tag arg) d s (fun y => (y.mailbox 1).result = some (5, 0) ∧ y.on (F.MBX_RSP_BUSY 1) = true
      ∧ ({ x with mbx := y.mbx }).only [F.MBX_CMD_OPCODE 1, F.MBX_CMD_TAG 1, F.MBX_ARG_ARG 1, F.MBX_RSP_BUSY 1] [] y))
      ∧
    (x.on (F.MBX_RSP_BUSY 1) = false → x.takes 0x08 = true → x.mbxFree 1 = true → x.cal.event = none → Effect
      (.calAbort d tag arg) d s (fun y => (y.mailbox 1).result = some (1, 0) ∧ y.on (F.MBX_RSP_BUSY 1) = true ∧
      ({ x with mbx := y.mbx }).only [F.MBX_CMD_OPCODE 1, F.MBX_CMD_TAG 1, F.MBX_ARG_ARG 1, F.MBX_RSP_BUSY 1] [] y)) ∧
    (x.on (F.MBX_RSP_BUSY 1) = false → x.takes 0x08 = true → x.mbxFree 1 = true → x.cal.event = some e → e.armed =
      false → DieAnswers (.calAbort d tag arg) d s (fun y => (y.mailbox 1).result = some (0, 0) ∧ y.on (F.MBX_RSP_BUSY
      1) = true ∧ y.cal.event = none ∧ y.pends 324 = true)) ∧
    (x.on (F.MBX_RSP_BUSY 1) = false → x.takes 0x08 = true → x.mbxFree 1 = true → x.canRead 320 256 = true →
      x.nvsHalted = false → Effect (.calSave d tag arg) d s (fun y => y.cal.recordMbx = true ∧ y.cal.record.isSome =
      true ∧ (y.mailbox 1).result = none ∧ y.on (F.MBX_RSP_BUSY 1) = true)) ∧
    (x.on (F.MBX_RSP_BUSY 1) = false → x.takes 0x08 = true → x.mbxFree 1 = true → x.nvsHalted = true → Effect
      (.calSave d tag arg) d s (fun y => (y.mailbox 1).result = some (7, 0) ∧ y.on (F.MBX_RSP_BUSY 1) = true ∧
      ({ x with mbx := y.mbx }).only [F.MBX_CMD_OPCODE 1, F.MBX_CMD_TAG 1, F.MBX_ARG_ARG 1, F.MBX_RSP_BUSY 1] [] y)) ∧
    (x.on (F.MBX_RSP_BUSY 1) = false → x.takes 0x08 = true → x.mbxFree 1 = true → (x.on F.CAL_CTRL_EN = true ∨ x.on
      F.CAL_CTRL_BG_EN = true) → Effect (.calLoad d tag arg) d s (fun y => (y.mailbox 1).result = some (5, 0) ∧ y.on
      (F.MBX_RSP_BUSY 1) = true ∧ ({ x with mbx := y.mbx }).only [F.MBX_CMD_OPCODE 1, F.MBX_CMD_TAG 1, F.MBX_ARG_ARG
      1, F.MBX_RSP_BUSY 1] [] y)) ∧
    (x.on (F.MBX_RSP_BUSY 1) = false → x.takes 0x08 = true → x.mbxFree 1 = true → x.canRead 320 256 = true → x.on
      F.CAL_CTRL_EN = false → x.on F.CAL_CTRL_BG_EN = false → x.nvs.newestSlot true = none → Effect (.calLoad d tag
      arg) d s (fun y => (y.mailbox 1).result = some (1, 0) ∧ y.on (F.MBX_RSP_BUSY 1) = true ∧
      ({ x with mbx := y.mbx }).only [F.MBX_CMD_OPCODE 1, F.MBX_CMD_TAG 1, F.MBX_ARG_ARG 1, F.MBX_RSP_BUSY 1] [] y)) ∧
    (x.on (F.MBX_RSP_BUSY 1) = false → x.takes 0x08 = true → x.mbxFree 1 = true → x.on F.CAL_CTRL_EN = false → x.on
      F.CAL_CTRL_BG_EN = false → x.canRead 320 256 = false → Effect (.calLoad d tag arg) d s (fun y => (y.mailbox
      1).waiting = true ∧ (y.mailbox 1).result = none ∧ y.on (F.MBX_RSP_BUSY 1) = true ∧
      ({ x with mbx := y.mbx }).only [F.MBX_CMD_OPCODE 1, F.MBX_CMD_TAG 1, F.MBX_ARG_ARG 1, F.MBX_RSP_BUSY 1] [] y)) ∧
    (x.on (F.MBX_RSP_BUSY 1) = false → x.takes 0x08 = true → x.mbxFree 1 = true → Effect (.calHash d tag arg) d s (fun
      y => y.cal.hashMbx = true ∧ y.on (F.MBX_RSP_BUSY 1) = true ∧
      ({ x with mbx := y.mbx, cmm := y.cmm, cal := y.cal }).onlyPages [8, 0x28, 0x33] [] y))

/-- R230, R231, R235, R236, R237, Table 7.8, R437. EVD_SEAL with frames in the epoch cuts it and waits for its record,
without frames answers ZERO and without keys DENIED. EVD_ATTEST queues a record over the host's nonce read from the
DRAM, and is denied without keys. EVD_CLOSE begins the close, and with the evidence closed answers OK at once.
EVD_FINAL copies the newest stored FINAL whose signature verifies into the DRAM and answers its session, or ZERO with
none stored. EVD_LOG copies the log and answers its number of entries, or BAD_ARG where it would not fit; both wait
while a page of theirs is being written. -/
def Obligations.MailboxEvidence : Prop :=
  ∀ (s : State) (d : DieId) (tag : Nat) (arg : Nat) (x : Die), s.running d → s.die d = x →
    (x.on (F.MBX_RSP_BUSY 3) = false → x.takes 0x08 = true → x.mbxFree 3 = true → x.tagging = true → x.noKey = false →
      x.evd.queue = [] → 0 < x.evd.count → DieAnswers (.evdSeal d tag arg) d s (fun y => (y.evd.queue.map (fun r =>
      (r.type, r.ask)) = [(1, true)]) ∧ y.evd.count = 0 ∧ (y.mailbox 3).result = none ∧ y.on (F.MBX_RSP_BUSY 3) =
      true)) ∧
    (x.on (F.MBX_RSP_BUSY 3) = false → x.takes 0x08 = true → x.mbxFree 3 = true → x.tagging = true → x.noKey = false →
      x.evd.queue = [] → x.evd.count = 0 → Effect (.evdSeal d tag arg) d s (fun y => (y.mailbox 3).result = some (1,
      0) ∧ y.on (F.MBX_RSP_BUSY 3) = true ∧ ({ x with mbx := y.mbx }).only [F.MBX_CMD_OPCODE 3, F.MBX_CMD_TAG 3,
      F.MBX_ARG_ARG 3, F.MBX_RSP_BUSY 3] [] y)) ∧
    (x.on (F.MBX_RSP_BUSY 3) = false → x.takes 0x08 = true → x.mbxFree 3 = true → x.tagging = true → x.noKey = true →
      Effect (.evdSeal d tag arg) d s (fun y => (y.mailbox 3).result = some (5, 0) ∧ y.on (F.MBX_RSP_BUSY 3) = true ∧
      ({ x with mbx := y.mbx }).only [F.MBX_CMD_OPCODE 3, F.MBX_CMD_TAG 3, F.MBX_ARG_ARG 3, F.MBX_RSP_BUSY 3] [] y)) ∧
    (x.on (F.MBX_RSP_BUSY 3) = false → x.takes 0x08 = true → x.mbxFree 3 = true → x.evd.live = true → x.noKey = false
      → arg + 32 ≤ Config.dramBytes → Effect (.evdAttest d tag arg) d s (fun y => (y.evd.queue.getLast?.map (fun r =>
      (r.type, r.key, r.ask)) = some (4, (s.mem d).readBytes arg 32, true)) ∧ y.evd.queue.length = x.evd.queue.length
      + 1 ∧ (y.mailbox 3).result = none ∧ y.on (F.MBX_RSP_BUSY 3) = true ∧ y.on F.EVD_EPOCH_WAITING = true)) ∧
    (x.on (F.MBX_RSP_BUSY 3) = false → x.takes 0x08 = true → x.mbxFree 3 = true → x.noKey = true → Effect (.evdAttest
      d tag arg) d s (fun y => (y.mailbox 3).result = some (5, 0) ∧ y.on (F.MBX_RSP_BUSY 3) = true ∧
      ({ x with mbx := y.mbx }).only [F.MBX_CMD_OPCODE 3, F.MBX_CMD_TAG 3, F.MBX_ARG_ARG 3, F.MBX_RSP_BUSY 3] [] y)) ∧
    (x.on (F.MBX_RSP_BUSY 3) = false → x.takes 0x08 = true → x.mbxFree 3 = true → x.tagging = true → x.noKey = false →
      x.ipp.done = [] → DieAnswers (.evdClose d tag arg) d s (fun y => y.evd.closing = some s.now ∧ y.evd.closeAsk =
      true ∧ (y.evd.queue.map (fun r => r.type) = [2]) ∧ (y.mailbox 3).result = none ∧ y.on (F.MBX_RSP_BUSY 3) =
      true)) ∧
    (x.on (F.MBX_RSP_BUSY 3) = false → x.takes 0x08 = true → x.mbxFree 3 = true → x.tagging = false → x.evd.closing =
      none → Effect (.evdClose d tag arg) d s (fun y => (y.mailbox 3).result = some (0, 0) ∧ y.on (F.MBX_RSP_BUSY 3) =
      true ∧ ({ x with mbx := y.mbx }).only [F.MBX_CMD_OPCODE 3, F.MBX_CMD_TAG 3, F.MBX_ARG_ARG 3, F.MBX_RSP_BUSY 3]
      [] y)) ∧
    (x.on (F.MBX_RSP_BUSY 3) = false → x.takes 0x08 = true → x.mbxFree 3 = true → x.canRead 704 48 = true → isFinal
      (x.nvs.finalAt 0) = false → isFinal (x.nvs.finalAt 1) = false → Effect (.evdFinal d tag arg) d s (fun y =>
      (y.mailbox 3).result = some (1, 0) ∧ y.on (F.MBX_RSP_BUSY 3) = true ∧ ({ x with mbx := y.mbx }).only
      [F.MBX_CMD_OPCODE 3, F.MBX_CMD_TAG 3, F.MBX_ARG_ARG 3, F.MBX_RSP_BUSY 3] [] y)) ∧
    (x.on (F.MBX_RSP_BUSY 3) = false → x.takes 0x08 = true → x.mbxFree 3 = true → x.canRead 704 48 = true → isFinal
      (x.nvs.finalAt 1) = false → arg + 2048 ≤ Config.dramBytes → EffectMem (.evdFinal d tag arg) d s (fun y m => (if
      x.nvs.finalValid d 0 = true then (y.mailbox 3).result = some (0, fieldOf (x.nvs.finalAt 0) 0x14 4) ∧ m =
      Memory.writeBytes (s.mem d) arg (x.nvs.finalAt 0) else (y.mailbox 3).result = some (1, 0) ∧ m = s.mem d) ∧ y.on
      (F.MBX_RSP_BUSY 3) = true)) ∧
    (x.on (F.MBX_RSP_BUSY 3) = false → x.takes 0x08 = true → x.mbxFree 3 = true → x.canRead 576 128 = true → arg +
      8192 ≤ Config.dramBytes → EffectMem (.evdLog d tag arg) d s (fun y m => (y.mailbox 3).result = some (0,
      x.nvs.logUsed) ∧ y.on (F.MBX_RSP_BUSY 3) = true ∧ m = Memory.writeBytes (s.mem d) arg x.nvs.logEntries.flatten))
      ∧
    (x.on (F.MBX_RSP_BUSY 3) = false → x.takes 0x08 = true → x.mbxFree 3 = true → x.canRead 576 128 = true →
      Config.dramBytes < arg + 8192 → Effect (.evdLog d tag arg) d s (fun y => (y.mailbox 3).result = some (3, 0) ∧
      y.on (F.MBX_RSP_BUSY 3) = true ∧ ({ x with mbx := y.mbx }).only [F.MBX_CMD_OPCODE 3, F.MBX_CMD_TAG 3,
      F.MBX_ARG_ARG 3, F.MBX_RSP_BUSY 3] [] y)) ∧
    (x.on (F.MBX_RSP_BUSY 3) = false → x.takes 0x08 = true → x.mbxFree 3 = true → x.canRead 704 48 = false → Effect
      (.evdFinal d tag arg) d s (fun y => (y.mailbox 3).waiting = true ∧ (y.mailbox 3).result = none ∧ y.on
      (F.MBX_RSP_BUSY 3) = true ∧ ({ x with mbx := y.mbx }).only [F.MBX_CMD_OPCODE 3, F.MBX_CMD_TAG 3, F.MBX_ARG_ARG
      3, F.MBX_RSP_BUSY 3] [] y))
end

