-- ==== Sys2Proof/Laws/Regs.lean ====
section
/-!
SUPPORT. Reading after writing, for the lists that hold field values (Regs.lean) and for the field operations of a die.
-/

namespace Sys2Proof.Machine

@[simp] theorem RegMap.look_nil (k : Nat) : RegMap.look [] k = none := rfl

@[simp] theorem RegMap.look_put_self (m : RegMap) (k v : Nat) : (m.put k v).look k = some v := by
  induction m with
  | nil => simp [RegMap.put, RegMap.look]
  | cons e r ih =>
    obtain ⟨a, w⟩ := e
    simp only [RegMap.put]
    split
    · simp [RegMap.look]
    · split
      · simp [RegMap.look]
      · rename_i h
        simp only [RegMap.look, if_neg (fun e : a = k => h e.symm)]
        exact ih

theorem RegMap.look_put_ne (m : RegMap) {k j : Nat} (v : Nat) (h : k ≠ j) : (m.put k v).look j = m.look j := by
  induction m with
  | nil => simp [RegMap.put, RegMap.look, h]
  | cons e r ih =>
    obtain ⟨a, w⟩ := e
    simp only [RegMap.put]
    split
    · simp [RegMap.look, h]
    · split
      · rename_i hk
        subst hk
        simp [RegMap.look, h]
      · simp only [RegMap.look, ih]

theorem RegFile.look_put_self (r : RegFile) (f : Fld) (v : Nat) : (r.put f v).look f = some v := by
  cases h : f.keep <;> simp [RegFile.put, RegFile.look, RegFile.sel, RegFile.withSel, h]

theorem RegFile.look_put_ne (r : RegFile) {f g : Fld} (v : Nat) (h : f.key ≠ g.key) : (r.put f v).look g = r.look g := by
  cases hf : f.keep <;> cases hg : g.keep <;>
    simp [RegFile.put, RegFile.look, RegFile.sel, RegFile.withSel, hf, hg, RegMap.look_put_ne _ _ h]

/-- The two fields that other fields' Resets follow. -/
def Fld.steers (f : Fld) : Bool := f.key = F.SYS_IDENT_DIE.key || f.key = F.SEQ_LIMITS_EXPORT.key

theorem Die.get_set_self (x : Die) (f : Fld) (v : Nat) : (x.set f v).get f = v % 2 ^ f.width := by
  simp [Die.get, Die.set, RegFile.look_put_self]

theorem Die.get_set_ne (x : Die) {f g : Fld} (v : Nat) (h : f.key ≠ g.key) (hs : f.steers = false) :
    (x.set f v).get g = x.get g := by
  simp only [Fld.steers, Bool.or_eq_false_iff, decide_eq_false_iff_not] at hs
  obtain ⟨h1, h2⟩ := hs
  simp only [Die.get, Die.set, Die.resetOf, RegFile.look_put_ne _ _ h, RegFile.look_put_ne _ _ h1, RegFile.look_put_ne _ _ h2]

theorem Die.on_set_self (x : Die) (f : Fld) (v : Nat) : (x.set f v).on f = (v % 2 ^ f.width != 0) := by
  simp [Die.on, Die.get_set_self]

theorem Die.on_set_ne (x : Die) {f g : Fld} (v : Nat) (h : f.key ≠ g.key) (hs : f.steers = false) :
    (x.set f v).on g = x.on g := by simp [Die.on, Die.get_set_ne x v h hs]

/-- Fields of different pages have different keys. -/
theorem Fld.key_ne_of_page {f g : Fld} (hf : f.off < 0x1000) (hf' : f.lo < 32) (hg : g.off < 0x1000) (hg' : g.lo < 32)
    (h : f.page ≠ g.page) : f.key ≠ g.key := by
  simp only [Fld.key]; omega

end Sys2Proof.Machine
end

