-- ==== Sys2Proof/Laws/State.lean ====
section
/-!
SUPPORT. What each update of a die leaves alone: one lemma for each component, so that no later proof unfolds a record update.
-/

namespace Sys2Proof.Machine

/-! ### Field writes, staged values, messages, DRAM writes -/

@[simp] theorem Die.set_stage (x : Die) (g : Fld) (v : Nat) : (x.set g v).stage = x.stage := rfl
@[simp] theorem Die.set_evRaw (x : Die) (g : Fld) (v : Nat) : (x.set g v).evRaw = x.evRaw := rfl
@[simp] theorem Die.set_evEn (x : Die) (g : Fld) (v : Nat) : (x.set g v).evEn = x.evEn := rfl
@[simp] theorem Die.set_evPend (x : Die) (g : Fld) (v : Nat) : (x.set g v).evPend = x.evPend := rfl
@[simp] theorem Die.set_msixMask (x : Die) (g : Fld) (v : Nat) : (x.set g v).msixMask = x.msixMask := rfl
@[simp] theorem Die.set_msixPend (x : Die) (g : Fld) (v : Nat) : (x.set g v).msixPend = x.msixPend := rfl
@[simp] theorem Die.set_evq (x : Die) (g : Fld) (v : Nat) : (x.set g v).evq = x.evq := rfl
@[simp] theorem Die.set_held (x : Die) (g : Fld) (v : Nat) : (x.set g v).held = x.held := rfl
@[simp] theorem Die.set_mbx (x : Die) (g : Fld) (v : Nat) : (x.set g v).mbx = x.mbx := rfl
@[simp] theorem Die.set_free (x : Die) (g : Fld) (v : Nat) : (x.set g v).free = x.free := rfl
@[simp] theorem Die.set_out (x : Die) (g : Fld) (v : Nat) : (x.set g v).out = x.out := rfl
@[simp] theorem Die.set_wr (x : Die) (g : Fld) (v : Nat) : (x.set g v).wr = x.wr := rfl
@[simp] theorem Die.set_rake (x : Die) (g : Fld) (v : Nat) : (x.set g v).rake = x.rake := rfl
@[simp] theorem Die.set_afe (x : Die) (g : Fld) (v : Nat) : (x.set g v).afe = x.afe := rfl
@[simp] theorem Die.set_frame (x : Die) (g : Fld) (v : Nat) : (x.set g v).frame = x.frame := rfl
@[simp] theorem Die.set_gapDue (x : Die) (g : Fld) (v : Nat) : (x.set g v).gapDue = x.gapDue := rfl
@[simp] theorem Die.set_trm (x : Die) (g : Fld) (v : Nat) : (x.set g v).trm = x.trm := rfl
@[simp] theorem Die.set_clu (x : Die) (g : Fld) (v : Nat) : (x.set g v).clu = x.clu := rfl
@[simp] theorem Die.set_acb (x : Die) (g : Fld) (v : Nat) : (x.set g v).acb = x.acb := rfl
@[simp] theorem Die.set_sieve (x : Die) (g : Fld) (v : Nat) : (x.set g v).sieve = x.sieve := rfl
@[simp] theorem Die.set_cmm (x : Die) (g : Fld) (v : Nat) : (x.set g v).cmm = x.cmm := rfl
@[simp] theorem Die.set_rad (x : Die) (g : Fld) (v : Nat) : (x.set g v).rad = x.rad := rfl
@[simp] theorem Die.set_wdr (x : Die) (g : Fld) (v : Nat) : (x.set g v).wdr = x.wdr := rfl
@[simp] theorem Die.set_prevFrame (x : Die) (g : Fld) (v : Nat) : (x.set g v).prevFrame = x.prevFrame := rfl
@[simp] theorem Die.set_clo (x : Die) (g : Fld) (v : Nat) : (x.set g v).clo = x.clo := rfl
@[simp] theorem Die.set_cal (x : Die) (g : Fld) (v : Nat) : (x.set g v).cal = x.cal := rfl
@[simp] theorem Die.set_planeHash (x : Die) (g : Fld) (v : Nat) : (x.set g v).planeHash = x.planeHash := rfl
@[simp] theorem Die.set_hits (x : Die) (g : Fld) (v : Nat) : (x.set g v).hits = x.hits := rfl
@[simp] theorem Die.set_dma (x : Die) (g : Fld) (v : Nat) : (x.set g v).dma = x.dma := rfl
@[simp] theorem Die.set_clock (x : Die) (g : Fld) (v : Nat) : (x.set g v).clock = x.clock := rfl
@[simp] theorem Die.set_ipp (x : Die) (g : Fld) (v : Nat) : (x.set g v).ipp = x.ipp := rfl
@[simp] theorem Die.set_evd (x : Die) (g : Fld) (v : Nat) : (x.set g v).evd = x.evd := rfl
@[simp] theorem Die.set_fcv (x : Die) (g : Fld) (v : Nat) : (x.set g v).fcv = x.fcv := rfl
@[simp] theorem Die.set_lpc (x : Die) (g : Fld) (v : Nat) : (x.set g v).lpc = x.lpc := rfl
@[simp] theorem Die.set_pwm (x : Die) (g : Fld) (v : Nat) : (x.set g v).pwm = x.pwm := rfl
@[simp] theorem Die.set_led (x : Die) (g : Fld) (v : Nat) : (x.set g v).led = x.led := rfl
@[simp] theorem Die.set_thm (x : Die) (g : Fld) (v : Nat) : (x.set g v).thm = x.thm := rfl
@[simp] theorem Die.set_fuses (x : Die) (g : Fld) (v : Nat) : (x.set g v).fuses = x.fuses := rfl
@[simp] theorem Die.set_dramCut (x : Die) (g : Fld) (v : Nat) : (x.set g v).dramCut = x.dramCut := rfl
@[simp] theorem Die.set_boot (x : Die) (g : Fld) (v : Nat) : (x.set g v).boot = x.boot := rfl
@[simp] theorem Die.set_nvs (x : Die) (g : Fld) (v : Nat) : (x.set g v).nvs = x.nvs := rfl
@[simp] theorem Die.set_vote (x : Die) (g : Fld) (v : Nat) : (x.set g v).vote = x.vote := rfl
@[simp] theorem Die.set_trl (x : Die) (g : Fld) (v : Nat) : (x.set g v).trl = x.trl := rfl
@[simp] theorem Die.set_prl (x : Die) (g : Fld) (v : Nat) : (x.set g v).prl = x.prl := rfl
@[simp] theorem Die.set_images (x : Die) (g : Fld) (v : Nat) : (x.set g v).images = x.images := rfl
@[simp] theorem Die.set_spi (x : Die) (g : Fld) (v : Nat) : (x.set g v).spi = x.spi := rfl
@[simp] theorem Die.set_spr (x : Die) (g : Fld) (v : Nat) : (x.set g v).spr = x.spr := rfl
@[simp] theorem Die.set_arms (x : Die) (g : Fld) (v : Nat) : (x.set g v).arms = x.arms := rfl
@[simp] theorem Die.stageVal_live (x : Die) (g : Fld) (v : Nat) : (x.stageVal g v).live = x.live := rfl
@[simp] theorem Die.stageVal_evRaw (x : Die) (g : Fld) (v : Nat) : (x.stageVal g v).evRaw = x.evRaw := rfl
@[simp] theorem Die.stageVal_evEn (x : Die) (g : Fld) (v : Nat) : (x.stageVal g v).evEn = x.evEn := rfl
@[simp] theorem Die.stageVal_evPend (x : Die) (g : Fld) (v : Nat) : (x.stageVal g v).evPend = x.evPend := rfl
@[simp] theorem Die.stageVal_msixMask (x : Die) (g : Fld) (v : Nat) : (x.stageVal g v).msixMask = x.msixMask := rfl
@[simp] theorem Die.stageVal_msixPend (x : Die) (g : Fld) (v : Nat) : (x.stageVal g v).msixPend = x.msixPend := rfl
@[simp] theorem Die.stageVal_evq (x : Die) (g : Fld) (v : Nat) : (x.stageVal g v).evq = x.evq := rfl
@[simp] theorem Die.stageVal_held (x : Die) (g : Fld) (v : Nat) : (x.stageVal g v).held = x.held := rfl
@[simp] theorem Die.stageVal_mbx (x : Die) (g : Fld) (v : Nat) : (x.stageVal g v).mbx = x.mbx := rfl
@[simp] theorem Die.stageVal_free (x : Die) (g : Fld) (v : Nat) : (x.stageVal g v).free = x.free := rfl
@[simp] theorem Die.stageVal_out (x : Die) (g : Fld) (v : Nat) : (x.stageVal g v).out = x.out := rfl
@[simp] theorem Die.stageVal_wr (x : Die) (g : Fld) (v : Nat) : (x.stageVal g v).wr = x.wr := rfl
@[simp] theorem Die.stageVal_rake (x : Die) (g : Fld) (v : Nat) : (x.stageVal g v).rake = x.rake := rfl
@[simp] theorem Die.stageVal_afe (x : Die) (g : Fld) (v : Nat) : (x.stageVal g v).afe = x.afe := rfl
@[simp] theorem Die.stageVal_frame (x : Die) (g : Fld) (v : Nat) : (x.stageVal g v).frame = x.frame := rfl
@[simp] theorem Die.stageVal_gapDue (x : Die) (g : Fld) (v : Nat) : (x.stageVal g v).gapDue = x.gapDue := rfl
@[simp] theorem Die.stageVal_trm (x : Die) (g : Fld) (v : Nat) : (x.stageVal g v).trm = x.trm := rfl
@[simp] theorem Die.stageVal_clu (x : Die) (g : Fld) (v : Nat) : (x.stageVal g v).clu = x.clu := rfl
@[simp] theorem Die.stageVal_acb (x : Die) (g : Fld) (v : Nat) : (x.stageVal g v).acb = x.acb := rfl
@[simp] theorem Die.stageVal_sieve (x : Die) (g : Fld) (v : Nat) : (x.stageVal g v).sieve = x.sieve := rfl
@[simp] theorem Die.stageVal_cmm (x : Die) (g : Fld) (v : Nat) : (x.stageVal g v).cmm = x.cmm := rfl
@[simp] theorem Die.stageVal_rad (x : Die) (g : Fld) (v : Nat) : (x.stageVal g v).rad = x.rad := rfl
@[simp] theorem Die.stageVal_wdr (x : Die) (g : Fld) (v : Nat) : (x.stageVal g v).wdr = x.wdr := rfl
@[simp] theorem Die.stageVal_prevFrame (x : Die) (g : Fld) (v : Nat) : (x.stageVal g v).prevFrame = x.prevFrame := rfl
@[simp] theorem Die.stageVal_clo (x : Die) (g : Fld) (v : Nat) : (x.stageVal g v).clo = x.clo := rfl
@[simp] theorem Die.stageVal_cal (x : Die) (g : Fld) (v : Nat) : (x.stageVal g v).cal = x.cal := rfl
@[simp] theorem Die.stageVal_planeHash (x : Die) (g : Fld) (v : Nat) : (x.stageVal g v).planeHash = x.planeHash := rfl
@[simp] theorem Die.stageVal_hits (x : Die) (g : Fld) (v : Nat) : (x.stageVal g v).hits = x.hits := rfl
@[simp] theorem Die.stageVal_dma (x : Die) (g : Fld) (v : Nat) : (x.stageVal g v).dma = x.dma := rfl
@[simp] theorem Die.stageVal_clock (x : Die) (g : Fld) (v : Nat) : (x.stageVal g v).clock = x.clock := rfl
@[simp] theorem Die.stageVal_ipp (x : Die) (g : Fld) (v : Nat) : (x.stageVal g v).ipp = x.ipp := rfl
@[simp] theorem Die.stageVal_evd (x : Die) (g : Fld) (v : Nat) : (x.stageVal g v).evd = x.evd := rfl
@[simp] theorem Die.stageVal_fcv (x : Die) (g : Fld) (v : Nat) : (x.stageVal g v).fcv = x.fcv := rfl
@[simp] theorem Die.stageVal_lpc (x : Die) (g : Fld) (v : Nat) : (x.stageVal g v).lpc = x.lpc := rfl
@[simp] theorem Die.stageVal_pwm (x : Die) (g : Fld) (v : Nat) : (x.stageVal g v).pwm = x.pwm := rfl
@[simp] theorem Die.stageVal_led (x : Die) (g : Fld) (v : Nat) : (x.stageVal g v).led = x.led := rfl
@[simp] theorem Die.stageVal_thm (x : Die) (g : Fld) (v : Nat) : (x.stageVal g v).thm = x.thm := rfl
@[simp] theorem Die.stageVal_fuses (x : Die) (g : Fld) (v : Nat) : (x.stageVal g v).fuses = x.fuses := rfl
@[simp] theorem Die.stageVal_dramCut (x : Die) (g : Fld) (v : Nat) : (x.stageVal g v).dramCut = x.dramCut := rfl
@[simp] theorem Die.stageVal_boot (x : Die) (g : Fld) (v : Nat) : (x.stageVal g v).boot = x.boot := rfl
@[simp] theorem Die.stageVal_nvs (x : Die) (g : Fld) (v : Nat) : (x.stageVal g v).nvs = x.nvs := rfl
@[simp] theorem Die.stageVal_vote (x : Die) (g : Fld) (v : Nat) : (x.stageVal g v).vote = x.vote := rfl
@[simp] theorem Die.stageVal_trl (x : Die) (g : Fld) (v : Nat) : (x.stageVal g v).trl = x.trl := rfl
@[simp] theorem Die.stageVal_prl (x : Die) (g : Fld) (v : Nat) : (x.stageVal g v).prl = x.prl := rfl
@[simp] theorem Die.stageVal_images (x : Die) (g : Fld) (v : Nat) : (x.stageVal g v).images = x.images := rfl
@[simp] theorem Die.stageVal_spi (x : Die) (g : Fld) (v : Nat) : (x.stageVal g v).spi = x.spi := rfl
@[simp] theorem Die.stageVal_spr (x : Die) (g : Fld) (v : Nat) : (x.stageVal g v).spr = x.spr := rfl
@[simp] theorem Die.stageVal_arms (x : Die) (g : Fld) (v : Nat) : (x.stageVal g v).arms = x.arms := rfl
@[simp] theorem Die.send_live (x : Die) (m : OutMsg) : (x.send m).live = x.live := rfl
@[simp] theorem Die.send_stage (x : Die) (m : OutMsg) : (x.send m).stage = x.stage := rfl
@[simp] theorem Die.send_evRaw (x : Die) (m : OutMsg) : (x.send m).evRaw = x.evRaw := rfl
@[simp] theorem Die.send_evEn (x : Die) (m : OutMsg) : (x.send m).evEn = x.evEn := rfl
@[simp] theorem Die.send_evPend (x : Die) (m : OutMsg) : (x.send m).evPend = x.evPend := rfl
@[simp] theorem Die.send_msixMask (x : Die) (m : OutMsg) : (x.send m).msixMask = x.msixMask := rfl
@[simp] theorem Die.send_msixPend (x : Die) (m : OutMsg) : (x.send m).msixPend = x.msixPend := rfl
@[simp] theorem Die.send_evq (x : Die) (m : OutMsg) : (x.send m).evq = x.evq := rfl
@[simp] theorem Die.send_held (x : Die) (m : OutMsg) : (x.send m).held = x.held := rfl
@[simp] theorem Die.send_mbx (x : Die) (m : OutMsg) : (x.send m).mbx = x.mbx := rfl
@[simp] theorem Die.send_free (x : Die) (m : OutMsg) : (x.send m).free = x.free := rfl
@[simp] theorem Die.send_wr (x : Die) (m : OutMsg) : (x.send m).wr = x.wr := rfl
@[simp] theorem Die.send_rake (x : Die) (m : OutMsg) : (x.send m).rake = x.rake := rfl
@[simp] theorem Die.send_afe (x : Die) (m : OutMsg) : (x.send m).afe = x.afe := rfl
@[simp] theorem Die.send_frame (x : Die) (m : OutMsg) : (x.send m).frame = x.frame := rfl
@[simp] theorem Die.send_gapDue (x : Die) (m : OutMsg) : (x.send m).gapDue = x.gapDue := rfl
@[simp] theorem Die.send_trm (x : Die) (m : OutMsg) : (x.send m).trm = x.trm := rfl
@[simp] theorem Die.send_clu (x : Die) (m : OutMsg) : (x.send m).clu = x.clu := rfl
@[simp] theorem Die.send_acb (x : Die) (m : OutMsg) : (x.send m).acb = x.acb := rfl
@[simp] theorem Die.send_sieve (x : Die) (m : OutMsg) : (x.send m).sieve = x.sieve := rfl
@[simp] theorem Die.send_cmm (x : Die) (m : OutMsg) : (x.send m).cmm = x.cmm := rfl
@[simp] theorem Die.send_rad (x : Die) (m : OutMsg) : (x.send m).rad = x.rad := rfl
@[simp] theorem Die.send_wdr (x : Die) (m : OutMsg) : (x.send m).wdr = x.wdr := rfl
@[simp] theorem Die.send_prevFrame (x : Die) (m : OutMsg) : (x.send m).prevFrame = x.prevFrame := rfl
@[simp] theorem Die.send_clo (x : Die) (m : OutMsg) : (x.send m).clo = x.clo := rfl
@[simp] theorem Die.send_cal (x : Die) (m : OutMsg) : (x.send m).cal = x.cal := rfl
@[simp] theorem Die.send_planeHash (x : Die) (m : OutMsg) : (x.send m).planeHash = x.planeHash := rfl
@[simp] theorem Die.send_hits (x : Die) (m : OutMsg) : (x.send m).hits = x.hits := rfl
@[simp] theorem Die.send_dma (x : Die) (m : OutMsg) : (x.send m).dma = x.dma := rfl
@[simp] theorem Die.send_clock (x : Die) (m : OutMsg) : (x.send m).clock = x.clock := rfl
@[simp] theorem Die.send_ipp (x : Die) (m : OutMsg) : (x.send m).ipp = x.ipp := rfl
@[simp] theorem Die.send_evd (x : Die) (m : OutMsg) : (x.send m).evd = x.evd := rfl
@[simp] theorem Die.send_fcv (x : Die) (m : OutMsg) : (x.send m).fcv = x.fcv := rfl
@[simp] theorem Die.send_lpc (x : Die) (m : OutMsg) : (x.send m).lpc = x.lpc := rfl
@[simp] theorem Die.send_pwm (x : Die) (m : OutMsg) : (x.send m).pwm = x.pwm := rfl
@[simp] theorem Die.send_led (x : Die) (m : OutMsg) : (x.send m).led = x.led := rfl
@[simp] theorem Die.send_thm (x : Die) (m : OutMsg) : (x.send m).thm = x.thm := rfl
@[simp] theorem Die.send_fuses (x : Die) (m : OutMsg) : (x.send m).fuses = x.fuses := rfl
@[simp] theorem Die.send_dramCut (x : Die) (m : OutMsg) : (x.send m).dramCut = x.dramCut := rfl
@[simp] theorem Die.send_boot (x : Die) (m : OutMsg) : (x.send m).boot = x.boot := rfl
@[simp] theorem Die.send_nvs (x : Die) (m : OutMsg) : (x.send m).nvs = x.nvs := rfl
@[simp] theorem Die.send_vote (x : Die) (m : OutMsg) : (x.send m).vote = x.vote := rfl
@[simp] theorem Die.send_trl (x : Die) (m : OutMsg) : (x.send m).trl = x.trl := rfl
@[simp] theorem Die.send_prl (x : Die) (m : OutMsg) : (x.send m).prl = x.prl := rfl
@[simp] theorem Die.send_images (x : Die) (m : OutMsg) : (x.send m).images = x.images := rfl
@[simp] theorem Die.send_spi (x : Die) (m : OutMsg) : (x.send m).spi = x.spi := rfl
@[simp] theorem Die.send_spr (x : Die) (m : OutMsg) : (x.send m).spr = x.spr := rfl
@[simp] theorem Die.send_arms (x : Die) (m : OutMsg) : (x.send m).arms = x.arms := rfl
@[simp] theorem Die.send_out (x : Die) (m : OutMsg) : (x.send m).out = x.out ++ [m] := rfl
@[simp] theorem Die.dramWrite_live (x : Die) (a : Nat) (bs : List Byte) : (x.dramWrite a bs).live = x.live := rfl
@[simp] theorem Die.dramWrite_stage (x : Die) (a : Nat) (bs : List Byte) : (x.dramWrite a bs).stage = x.stage := rfl
@[simp] theorem Die.dramWrite_evRaw (x : Die) (a : Nat) (bs : List Byte) : (x.dramWrite a bs).evRaw = x.evRaw := rfl
@[simp] theorem Die.dramWrite_evEn (x : Die) (a : Nat) (bs : List Byte) : (x.dramWrite a bs).evEn = x.evEn := rfl
@[simp] theorem Die.dramWrite_evPend (x : Die) (a : Nat) (bs : List Byte) : (x.dramWrite a bs).evPend = x.evPend := rfl
@[simp] theorem Die.dramWrite_msixMask (x : Die) (a : Nat) (bs : List Byte) : (x.dramWrite a bs).msixMask = x.msixMask := rfl
@[simp] theorem Die.dramWrite_msixPend (x : Die) (a : Nat) (bs : List Byte) : (x.dramWrite a bs).msixPend = x.msixPend := rfl
@[simp] theorem Die.dramWrite_evq (x : Die) (a : Nat) (bs : List Byte) : (x.dramWrite a bs).evq = x.evq := rfl
@[simp] theorem Die.dramWrite_held (x : Die) (a : Nat) (bs : List Byte) : (x.dramWrite a bs).held = x.held := rfl
@[simp] theorem Die.dramWrite_mbx (x : Die) (a : Nat) (bs : List Byte) : (x.dramWrite a bs).mbx = x.mbx := rfl
@[simp] theorem Die.dramWrite_free (x : Die) (a : Nat) (bs : List Byte) : (x.dramWrite a bs).free = x.free := rfl
@[simp] theorem Die.dramWrite_out (x : Die) (a : Nat) (bs : List Byte) : (x.dramWrite a bs).out = x.out := rfl
@[simp] theorem Die.dramWrite_rake (x : Die) (a : Nat) (bs : List Byte) : (x.dramWrite a bs).rake = x.rake := rfl
@[simp] theorem Die.dramWrite_afe (x : Die) (a : Nat) (bs : List Byte) : (x.dramWrite a bs).afe = x.afe := rfl
@[simp] theorem Die.dramWrite_frame (x : Die) (a : Nat) (bs : List Byte) : (x.dramWrite a bs).frame = x.frame := rfl
@[simp] theorem Die.dramWrite_gapDue (x : Die) (a : Nat) (bs : List Byte) : (x.dramWrite a bs).gapDue = x.gapDue := rfl
@[simp] theorem Die.dramWrite_trm (x : Die) (a : Nat) (bs : List Byte) : (x.dramWrite a bs).trm = x.trm := rfl
@[simp] theorem Die.dramWrite_clu (x : Die) (a : Nat) (bs : List Byte) : (x.dramWrite a bs).clu = x.clu := rfl
@[simp] theorem Die.dramWrite_acb (x : Die) (a : Nat) (bs : List Byte) : (x.dramWrite a bs).acb = x.acb := rfl
@[simp] theorem Die.dramWrite_sieve (x : Die) (a : Nat) (bs : List Byte) : (x.dramWrite a bs).sieve = x.sieve := rfl
@[simp] theorem Die.dramWrite_cmm (x : Die) (a : Nat) (bs : List Byte) : (x.dramWrite a bs).cmm = x.cmm := rfl
@[simp] theorem Die.dramWrite_rad (x : Die) (a : Nat) (bs : List Byte) : (x.dramWrite a bs).rad = x.rad := rfl
@[simp] theorem Die.dramWrite_wdr (x : Die) (a : Nat) (bs : List Byte) : (x.dramWrite a bs).wdr = x.wdr := rfl
@[simp] theorem Die.dramWrite_prevFrame (x : Die) (a : Nat) (bs : List Byte) : (x.dramWrite a bs).prevFrame = x.prevFrame := rfl
@[simp] theorem Die.dramWrite_clo (x : Die) (a : Nat) (bs : List Byte) : (x.dramWrite a bs).clo = x.clo := rfl
@[simp] theorem Die.dramWrite_cal (x : Die) (a : Nat) (bs : List Byte) : (x.dramWrite a bs).cal = x.cal := rfl
@[simp] theorem Die.dramWrite_planeHash (x : Die) (a : Nat) (bs : List Byte) : (x.dramWrite a bs).planeHash = x.planeHash := rfl
@[simp] theorem Die.dramWrite_hits (x : Die) (a : Nat) (bs : List Byte) : (x.dramWrite a bs).hits = x.hits := rfl
@[simp] theorem Die.dramWrite_dma (x : Die) (a : Nat) (bs : List Byte) : (x.dramWrite a bs).dma = x.dma := rfl
@[simp] theorem Die.dramWrite_clock (x : Die) (a : Nat) (bs : List Byte) : (x.dramWrite a bs).clock = x.clock := rfl
@[simp] theorem Die.dramWrite_ipp (x : Die) (a : Nat) (bs : List Byte) : (x.dramWrite a bs).ipp = x.ipp := rfl
@[simp] theorem Die.dramWrite_evd (x : Die) (a : Nat) (bs : List Byte) : (x.dramWrite a bs).evd = x.evd := rfl
@[simp] theorem Die.dramWrite_fcv (x : Die) (a : Nat) (bs : List Byte) : (x.dramWrite a bs).fcv = x.fcv := rfl
@[simp] theorem Die.dramWrite_lpc (x : Die) (a : Nat) (bs : List Byte) : (x.dramWrite a bs).lpc = x.lpc := rfl
@[simp] theorem Die.dramWrite_pwm (x : Die) (a : Nat) (bs : List Byte) : (x.dramWrite a bs).pwm = x.pwm := rfl
@[simp] theorem Die.dramWrite_led (x : Die) (a : Nat) (bs : List Byte) : (x.dramWrite a bs).led = x.led := rfl
@[simp] theorem Die.dramWrite_thm (x : Die) (a : Nat) (bs : List Byte) : (x.dramWrite a bs).thm = x.thm := rfl
@[simp] theorem Die.dramWrite_fuses (x : Die) (a : Nat) (bs : List Byte) : (x.dramWrite a bs).fuses = x.fuses := rfl
@[simp] theorem Die.dramWrite_dramCut (x : Die) (a : Nat) (bs : List Byte) : (x.dramWrite a bs).dramCut = x.dramCut := rfl
@[simp] theorem Die.dramWrite_boot (x : Die) (a : Nat) (bs : List Byte) : (x.dramWrite a bs).boot = x.boot := rfl
@[simp] theorem Die.dramWrite_nvs (x : Die) (a : Nat) (bs : List Byte) : (x.dramWrite a bs).nvs = x.nvs := rfl
@[simp] theorem Die.dramWrite_vote (x : Die) (a : Nat) (bs : List Byte) : (x.dramWrite a bs).vote = x.vote := rfl
@[simp] theorem Die.dramWrite_trl (x : Die) (a : Nat) (bs : List Byte) : (x.dramWrite a bs).trl = x.trl := rfl
@[simp] theorem Die.dramWrite_prl (x : Die) (a : Nat) (bs : List Byte) : (x.dramWrite a bs).prl = x.prl := rfl
@[simp] theorem Die.dramWrite_images (x : Die) (a : Nat) (bs : List Byte) : (x.dramWrite a bs).images = x.images := rfl
@[simp] theorem Die.dramWrite_spi (x : Die) (a : Nat) (bs : List Byte) : (x.dramWrite a bs).spi = x.spi := rfl
@[simp] theorem Die.dramWrite_spr (x : Die) (a : Nat) (bs : List Byte) : (x.dramWrite a bs).spr = x.spr := rfl
@[simp] theorem Die.dramWrite_arms (x : Die) (a : Nat) (bs : List Byte) : (x.dramWrite a bs).arms = x.arms := rfl
@[simp] theorem Die.dramWrite_wr (x : Die) (a : Nat) (bs : List Byte) : (x.dramWrite a bs).wr = x.wr ++ [(a, bs)] := rfl
@[simp] theorem Die.settled_live (x : Die) : x.settled.live = x.live := rfl
@[simp] theorem Die.settled_stage (x : Die) : x.settled.stage = x.stage := rfl
@[simp] theorem Die.settled_evRaw (x : Die) : x.settled.evRaw = x.evRaw := rfl
@[simp] theorem Die.settled_evEn (x : Die) : x.settled.evEn = x.evEn := rfl
@[simp] theorem Die.settled_evPend (x : Die) : x.settled.evPend = x.evPend := rfl
@[simp] theorem Die.settled_msixMask (x : Die) : x.settled.msixMask = x.msixMask := rfl
@[simp] theorem Die.settled_msixPend (x : Die) : x.settled.msixPend = x.msixPend := rfl
@[simp] theorem Die.settled_evq (x : Die) : x.settled.evq = x.evq := rfl
@[simp] theorem Die.settled_held (x : Die) : x.settled.held = x.held := rfl
@[simp] theorem Die.settled_mbx (x : Die) : x.settled.mbx = x.mbx := rfl
@[simp] theorem Die.settled_free (x : Die) : x.settled.free = x.free := rfl
@[simp] theorem Die.settled_out (x : Die) : x.settled.out = x.out := rfl
@[simp] theorem Die.settled_rake (x : Die) : x.settled.rake = x.rake := rfl
@[simp] theorem Die.settled_afe (x : Die) : x.settled.afe = x.afe := rfl
@[simp] theorem Die.settled_frame (x : Die) : x.settled.frame = x.frame := rfl
@[simp] theorem Die.settled_gapDue (x : Die) : x.settled.gapDue = x.gapDue := rfl
@[simp] theorem Die.settled_trm (x : Die) : x.settled.trm = x.trm := rfl
@[simp] theorem Die.settled_clu (x : Die) : x.settled.clu = x.clu := rfl
@[simp] theorem Die.settled_acb (x : Die) : x.settled.acb = x.acb := rfl
@[simp] theorem Die.settled_sieve (x : Die) : x.settled.sieve = x.sieve := rfl
@[simp] theorem Die.settled_cmm (x : Die) : x.settled.cmm = x.cmm := rfl
@[simp] theorem Die.settled_rad (x : Die) : x.settled.rad = x.rad := rfl
@[simp] theorem Die.settled_wdr (x : Die) : x.settled.wdr = x.wdr := rfl
@[simp] theorem Die.settled_prevFrame (x : Die) : x.settled.prevFrame = x.prevFrame := rfl
@[simp] theorem Die.settled_clo (x : Die) : x.settled.clo = x.clo := rfl
@[simp] theorem Die.settled_cal (x : Die) : x.settled.cal = x.cal := rfl
@[simp] theorem Die.settled_planeHash (x : Die) : x.settled.planeHash = x.planeHash := rfl
@[simp] theorem Die.settled_hits (x : Die) : x.settled.hits = x.hits := rfl
@[simp] theorem Die.settled_dma (x : Die) : x.settled.dma = x.dma := rfl
@[simp] theorem Die.settled_clock (x : Die) : x.settled.clock = x.clock := rfl
@[simp] theorem Die.settled_ipp (x : Die) : x.settled.ipp = x.ipp := rfl
@[simp] theorem Die.settled_evd (x : Die) : x.settled.evd = x.evd := rfl
@[simp] theorem Die.settled_fcv (x : Die) : x.settled.fcv = x.fcv := rfl
@[simp] theorem Die.settled_lpc (x : Die) : x.settled.lpc = x.lpc := rfl
@[simp] theorem Die.settled_pwm (x : Die) : x.settled.pwm = x.pwm := rfl
@[simp] theorem Die.settled_led (x : Die) : x.settled.led = x.led := rfl
@[simp] theorem Die.settled_thm (x : Die) : x.settled.thm = x.thm := rfl
@[simp] theorem Die.settled_fuses (x : Die) : x.settled.fuses = x.fuses := rfl
@[simp] theorem Die.settled_boot (x : Die) : x.settled.boot = x.boot := rfl
@[simp] theorem Die.settled_nvs (x : Die) : x.settled.nvs = x.nvs := rfl
@[simp] theorem Die.settled_vote (x : Die) : x.settled.vote = x.vote := rfl
@[simp] theorem Die.settled_trl (x : Die) : x.settled.trl = x.trl := rfl
@[simp] theorem Die.settled_prl (x : Die) : x.settled.prl = x.prl := rfl
@[simp] theorem Die.settled_images (x : Die) : x.settled.images = x.images := rfl
@[simp] theorem Die.settled_spi (x : Die) : x.settled.spi = x.spi := rfl
@[simp] theorem Die.settled_spr (x : Die) : x.settled.spr = x.spr := rfl
@[simp] theorem Die.settled_arms (x : Die) : x.settled.arms = x.arms := rfl
@[simp] theorem State.fresh_live (s : State) (d : DieId) : (s.fresh d).live = (s.die d).live := rfl
@[simp] theorem State.fresh_stage (s : State) (d : DieId) : (s.fresh d).stage = (s.die d).stage := rfl
@[simp] theorem State.fresh_evRaw (s : State) (d : DieId) : (s.fresh d).evRaw = (s.die d).evRaw := rfl
@[simp] theorem State.fresh_evEn (s : State) (d : DieId) : (s.fresh d).evEn = (s.die d).evEn := rfl
@[simp] theorem State.fresh_evPend (s : State) (d : DieId) : (s.fresh d).evPend = (s.die d).evPend := rfl
@[simp] theorem State.fresh_msixMask (s : State) (d : DieId) : (s.fresh d).msixMask = (s.die d).msixMask := rfl
@[simp] theorem State.fresh_msixPend (s : State) (d : DieId) : (s.fresh d).msixPend = (s.die d).msixPend := rfl
@[simp] theorem State.fresh_evq (s : State) (d : DieId) : (s.fresh d).evq = (s.die d).evq := rfl
@[simp] theorem State.fresh_held (s : State) (d : DieId) : (s.fresh d).held = (s.die d).held := rfl
@[simp] theorem State.fresh_mbx (s : State) (d : DieId) : (s.fresh d).mbx = (s.die d).mbx := rfl
@[simp] theorem State.fresh_free (s : State) (d : DieId) : (s.fresh d).free = (s.die d).free := rfl
@[simp] theorem State.fresh_rake (s : State) (d : DieId) : (s.fresh d).rake = (s.die d).rake := rfl
@[simp] theorem State.fresh_afe (s : State) (d : DieId) : (s.fresh d).afe = (s.die d).afe := rfl
@[simp] theorem State.fresh_frame (s : State) (d : DieId) : (s.fresh d).frame = (s.die d).frame := rfl
@[simp] theorem State.fresh_gapDue (s : State) (d : DieId) : (s.fresh d).gapDue = (s.die d).gapDue := rfl
@[simp] theorem State.fresh_trm (s : State) (d : DieId) : (s.fresh d).trm = (s.die d).trm := rfl
@[simp] theorem State.fresh_clu (s : State) (d : DieId) : (s.fresh d).clu = (s.die d).clu := rfl
@[simp] theorem State.fresh_acb (s : State) (d : DieId) : (s.fresh d).acb = (s.die d).acb := rfl
@[simp] theorem State.fresh_sieve (s : State) (d : DieId) : (s.fresh d).sieve = (s.die d).sieve := rfl
@[simp] theorem State.fresh_cmm (s : State) (d : DieId) : (s.fresh d).cmm = (s.die d).cmm := rfl
@[simp] theorem State.fresh_rad (s : State) (d : DieId) : (s.fresh d).rad = (s.die d).rad := rfl
@[simp] theorem State.fresh_wdr (s : State) (d : DieId) : (s.fresh d).wdr = (s.die d).wdr := rfl
@[simp] theorem State.fresh_prevFrame (s : State) (d : DieId) : (s.fresh d).prevFrame = (s.die d).prevFrame := rfl
@[simp] theorem State.fresh_clo (s : State) (d : DieId) : (s.fresh d).clo = (s.die d).clo := rfl
@[simp] theorem State.fresh_cal (s : State) (d : DieId) : (s.fresh d).cal = (s.die d).cal := rfl
@[simp] theorem State.fresh_planeHash (s : State) (d : DieId) : (s.fresh d).planeHash = (s.die d).planeHash := rfl
@[simp] theorem State.fresh_hits (s : State) (d : DieId) : (s.fresh d).hits = {} := rfl
@[simp] theorem State.fresh_dma (s : State) (d : DieId) : (s.fresh d).dma = (s.die d).dma := rfl
@[simp] theorem State.fresh_clock (s : State) (d : DieId) : (s.fresh d).clock = (s.die d).clock := rfl
@[simp] theorem State.fresh_ipp (s : State) (d : DieId) : (s.fresh d).ipp = (s.die d).ipp := rfl
@[simp] theorem State.fresh_evd (s : State) (d : DieId) : (s.fresh d).evd = (s.die d).evd := rfl
@[simp] theorem State.fresh_fcv (s : State) (d : DieId) : (s.fresh d).fcv = (s.die d).fcv := rfl
@[simp] theorem State.fresh_lpc (s : State) (d : DieId) : (s.fresh d).lpc = (s.die d).lpc := rfl
@[simp] theorem State.fresh_pwm (s : State) (d : DieId) : (s.fresh d).pwm = (s.die d).pwm := rfl
@[simp] theorem State.fresh_led (s : State) (d : DieId) : (s.fresh d).led = (s.die d).led := rfl
@[simp] theorem State.fresh_thm (s : State) (d : DieId) : (s.fresh d).thm = (s.die d).thm := rfl
@[simp] theorem State.fresh_fuses (s : State) (d : DieId) : (s.fresh d).fuses = (s.die d).fuses := rfl
@[simp] theorem State.fresh_boot (s : State) (d : DieId) : (s.fresh d).boot = (s.die d).boot := rfl
@[simp] theorem State.fresh_nvs (s : State) (d : DieId) : (s.fresh d).nvs = (s.die d).nvs := rfl
@[simp] theorem State.fresh_vote (s : State) (d : DieId) : (s.fresh d).vote = (s.die d).vote := rfl
@[simp] theorem State.fresh_trl (s : State) (d : DieId) : (s.fresh d).trl = (s.die d).trl := rfl
@[simp] theorem State.fresh_prl (s : State) (d : DieId) : (s.fresh d).prl = (s.die d).prl := rfl
@[simp] theorem State.fresh_images (s : State) (d : DieId) : (s.fresh d).images = (s.die d).images := rfl
@[simp] theorem State.fresh_spi (s : State) (d : DieId) : (s.fresh d).spi = (s.die d).spi := rfl
@[simp] theorem State.fresh_spr (s : State) (d : DieId) : (s.fresh d).spr = (s.die d).spr := rfl
@[simp] theorem State.fresh_arms (s : State) (d : DieId) : (s.fresh d).arms = (s.die d).arms := rfl
@[simp] theorem State.fresh_out (s : State) (d : DieId) : (s.fresh d).out = [] := rfl
@[simp] theorem State.fresh_wr (s : State) (d : DieId) : (s.fresh d).wr = [] := rfl
@[simp] theorem State.fresh_dramCut (s : State) (d : DieId) : (s.fresh d).dramCut = false := rfl
@[simp] theorem State.fresh_inReset (s : State) (d : DieId) : (s.fresh d).inReset = (s.die d).inReset := rfl
@[simp] theorem State.fresh_get (s : State) (d : DieId) (f : Fld) : (s.fresh d).get f = (s.die d).get f := rfl
@[simp] theorem State.fresh_on (s : State) (d : DieId) (f : Fld) : (s.fresh d).on f = (s.die d).on f := rfl
@[simp] theorem Die.settled_get (x : Die) (f : Fld) : x.settled.get f = x.get f := rfl
@[simp] theorem Die.settled_on (x : Die) (f : Fld) : x.settled.on f = x.on f := rfl
@[simp] theorem Die.settled_written (x : Die) (f : Fld) : x.settled.written f = x.written f := rfl
@[simp] theorem Die.settled_bitOf (x : Die) (f : Fld) (i : Nat) : x.settled.bitOf f i = x.bitOf f i := rfl
@[simp] theorem Die.settled_inReset (x : Die) : x.settled.inReset = x.inReset := rfl
@[simp] theorem Die.send_get (x : Die) (m : OutMsg) (f : Fld) : (x.send m).get f = x.get f := rfl
@[simp] theorem Die.send_on (x : Die) (m : OutMsg) (f : Fld) : (x.send m).on f = x.on f := rfl
@[simp] theorem Die.dramWrite_get (x : Die) (a : Nat) (bs : List Byte) (f : Fld) : (x.dramWrite a bs).get f = x.get f := rfl
@[simp] theorem Die.dramWrite_on (x : Die) (a : Nat) (bs : List Byte) (f : Fld) : (x.dramWrite a bs).on f = x.on f := rfl

/-! ### The package with one die replaced -/

@[simp] theorem State.withDie_pending (s : State) (d : DieId) (x : Die) (m : Memory) : (s.withDie d x m).pending = s.pending := by
  cases d <;> rfl
@[simp] theorem State.withDie_dual (s : State) (d : DieId) (x : Die) (m : Memory) : (s.withDie d x m).dual = s.dual := by
  cases d <;> rfl
@[simp] theorem State.withDie_now (s : State) (d : DieId) (x : Die) (m : Memory) : (s.withDie d x m).now = s.now := by
  cases d <;> rfl
@[simp] theorem State.withDie_resetNAt (s : State) (d : DieId) (x : Die) (m : Memory) : (s.withDie d x m).resetNAt = s.resetNAt := by
  cases d <;> rfl
@[simp] theorem State.withDie_resetN (s : State) (d : DieId) (x : Die) (m : Memory) : (s.withDie d x m).resetN = s.resetN := by
  cases d <;> rfl
@[simp] theorem State.withDie_unmasking (s : State) (d : DieId) (x : Die) (m : Memory) : (s.withDie d x m).unmasking = s.unmasking := by
  cases d <;> rfl

/-! ### The record of a die as a command found it -/

@[simp] theorem State.mark_pending (s : State) (d : DieId) : (s.mark d).pending = s.pending := by cases d <;> rfl
@[simp] theorem State.mark_dual (s : State) (d : DieId) : (s.mark d).dual = s.dual := by cases d <;> rfl
@[simp] theorem State.mark_now (s : State) (d : DieId) : (s.mark d).now = s.now := by cases d <;> rfl
@[simp] theorem State.mark_resetN (s : State) (d : DieId) : (s.mark d).resetN = s.resetN := by cases d <;> rfl
@[simp] theorem State.mark_resetNAt (s : State) (d : DieId) : (s.mark d).resetNAt = s.resetNAt := by cases d <;> rfl
@[simp] theorem State.mark_unmasking (s : State) (d : DieId) : (s.mark d).unmasking = s.unmasking := by cases d <;> rfl
@[simp] theorem State.mark_die (s : State) (d e : DieId) : (s.mark d).die e = s.die e := by cases d <;> cases e <;> rfl
@[simp] theorem State.mark_mem (s : State) (d e : DieId) : (s.mark d).mem e = s.mem e := by cases d <;> cases e <;> rfl
@[simp] theorem State.mark_env (s : State) (d e : DieId) : (s.mark d).env e = s.env e := by cases d <;> cases e <;> rfl
@[simp] theorem State.mark_fresh (s : State) (d e : DieId) : (s.mark d).fresh e = s.fresh e := by cases d <;> cases e <;> rfl
@[simp] theorem State.mark_has (s : State) (d e : DieId) : (s.mark d).has e = s.has e := by cases d <;> cases e <;> rfl
@[simp] theorem State.mark_was (s : State) (d : DieId) : (s.mark d).was d = s.die d := by cases d <;> rfl
@[simp] theorem State.withDie_was (s : State) (d e : DieId) (x : Die) (m : Memory) : (s.withDie d x m).was e = s.was e := by
  cases d <;> cases e <;> rfl

/-! ### Bits that the hardware sets -/

@[simp] theorem Die.raise_live (x : Die) (f : Fld) (v : Nat) : (x.raise f v).live = (x.set f (x.get f ||| v)).live := rfl
@[simp] theorem Die.raise_stage (x : Die) (f : Fld) (v : Nat) : (x.raise f v).stage = x.stage := rfl
@[simp] theorem Die.raise_evRaw (x : Die) (f : Fld) (v : Nat) : (x.raise f v).evRaw = x.evRaw := rfl
@[simp] theorem Die.raise_evEn (x : Die) (f : Fld) (v : Nat) : (x.raise f v).evEn = x.evEn := rfl
@[simp] theorem Die.raise_evPend (x : Die) (f : Fld) (v : Nat) : (x.raise f v).evPend = x.evPend := rfl
@[simp] theorem Die.raise_msixMask (x : Die) (f : Fld) (v : Nat) : (x.raise f v).msixMask = x.msixMask := rfl
@[simp] theorem Die.raise_msixPend (x : Die) (f : Fld) (v : Nat) : (x.raise f v).msixPend = x.msixPend := rfl
@[simp] theorem Die.raise_evq (x : Die) (f : Fld) (v : Nat) : (x.raise f v).evq = x.evq := rfl
@[simp] theorem Die.raise_held (x : Die) (f : Fld) (v : Nat) : (x.raise f v).held = x.held := rfl
@[simp] theorem Die.raise_mbx (x : Die) (f : Fld) (v : Nat) : (x.raise f v).mbx = x.mbx := rfl
@[simp] theorem Die.raise_free (x : Die) (f : Fld) (v : Nat) : (x.raise f v).free = x.free := rfl
@[simp] theorem Die.raise_out (x : Die) (f : Fld) (v : Nat) : (x.raise f v).out = x.out := rfl
@[simp] theorem Die.raise_wr (x : Die) (f : Fld) (v : Nat) : (x.raise f v).wr = x.wr := rfl
@[simp] theorem Die.raise_arms (x : Die) (f : Fld) (v : Nat) : (x.raise f v).arms = x.arms := rfl
@[simp] theorem Die.raise_rake (x : Die) (f : Fld) (v : Nat) : (x.raise f v).rake = x.rake := rfl
@[simp] theorem Die.raise_afe (x : Die) (f : Fld) (v : Nat) : (x.raise f v).afe = x.afe := rfl
@[simp] theorem Die.raise_frame (x : Die) (f : Fld) (v : Nat) : (x.raise f v).frame = x.frame := rfl
@[simp] theorem Die.raise_gapDue (x : Die) (f : Fld) (v : Nat) : (x.raise f v).gapDue = x.gapDue := rfl
@[simp] theorem Die.raise_trm (x : Die) (f : Fld) (v : Nat) : (x.raise f v).trm = x.trm := rfl
@[simp] theorem Die.raise_clu (x : Die) (f : Fld) (v : Nat) : (x.raise f v).clu = x.clu := rfl
@[simp] theorem Die.raise_acb (x : Die) (f : Fld) (v : Nat) : (x.raise f v).acb = x.acb := rfl
@[simp] theorem Die.raise_sieve (x : Die) (f : Fld) (v : Nat) : (x.raise f v).sieve = x.sieve := rfl
@[simp] theorem Die.raise_cmm (x : Die) (f : Fld) (v : Nat) : (x.raise f v).cmm = x.cmm := rfl
@[simp] theorem Die.raise_rad (x : Die) (f : Fld) (v : Nat) : (x.raise f v).rad = x.rad := rfl
@[simp] theorem Die.raise_wdr (x : Die) (f : Fld) (v : Nat) : (x.raise f v).wdr = x.wdr := rfl
@[simp] theorem Die.raise_prevFrame (x : Die) (f : Fld) (v : Nat) : (x.raise f v).prevFrame = x.prevFrame := rfl
@[simp] theorem Die.raise_clo (x : Die) (f : Fld) (v : Nat) : (x.raise f v).clo = x.clo := rfl
@[simp] theorem Die.raise_cal (x : Die) (f : Fld) (v : Nat) : (x.raise f v).cal = x.cal := rfl
@[simp] theorem Die.raise_planeHash (x : Die) (f : Fld) (v : Nat) : (x.raise f v).planeHash = x.planeHash := rfl
@[simp] theorem Die.raise_dma (x : Die) (f : Fld) (v : Nat) : (x.raise f v).dma = x.dma := rfl
@[simp] theorem Die.raise_clock (x : Die) (f : Fld) (v : Nat) : (x.raise f v).clock = x.clock := rfl
@[simp] theorem Die.raise_ipp (x : Die) (f : Fld) (v : Nat) : (x.raise f v).ipp = x.ipp := rfl
@[simp] theorem Die.raise_evd (x : Die) (f : Fld) (v : Nat) : (x.raise f v).evd = x.evd := rfl
@[simp] theorem Die.raise_fcv (x : Die) (f : Fld) (v : Nat) : (x.raise f v).fcv = x.fcv := rfl
@[simp] theorem Die.raise_lpc (x : Die) (f : Fld) (v : Nat) : (x.raise f v).lpc = x.lpc := rfl
@[simp] theorem Die.raise_pwm (x : Die) (f : Fld) (v : Nat) : (x.raise f v).pwm = x.pwm := rfl
@[simp] theorem Die.raise_led (x : Die) (f : Fld) (v : Nat) : (x.raise f v).led = x.led := rfl
@[simp] theorem Die.raise_thm (x : Die) (f : Fld) (v : Nat) : (x.raise f v).thm = x.thm := rfl
@[simp] theorem Die.raise_fuses (x : Die) (f : Fld) (v : Nat) : (x.raise f v).fuses = x.fuses := rfl
@[simp] theorem Die.raise_dramCut (x : Die) (f : Fld) (v : Nat) : (x.raise f v).dramCut = x.dramCut := rfl
@[simp] theorem Die.raise_boot (x : Die) (f : Fld) (v : Nat) : (x.raise f v).boot = x.boot := rfl
@[simp] theorem Die.raise_nvs (x : Die) (f : Fld) (v : Nat) : (x.raise f v).nvs = x.nvs := rfl
@[simp] theorem Die.raise_vote (x : Die) (f : Fld) (v : Nat) : (x.raise f v).vote = x.vote := rfl
@[simp] theorem Die.raise_trl (x : Die) (f : Fld) (v : Nat) : (x.raise f v).trl = x.trl := rfl
@[simp] theorem Die.raise_prl (x : Die) (f : Fld) (v : Nat) : (x.raise f v).prl = x.prl := rfl
@[simp] theorem Die.raise_images (x : Die) (f : Fld) (v : Nat) : (x.raise f v).images = x.images := rfl
@[simp] theorem Die.raise_spi (x : Die) (f : Fld) (v : Nat) : (x.raise f v).spi = x.spi := rfl
@[simp] theorem Die.raise_spr (x : Die) (f : Fld) (v : Nat) : (x.raise f v).spr = x.spr := rfl

/-! ### The dies of the package -/

@[simp] theorem State.withDie_die (s : State) (d : DieId) (x : Die) (m : Memory) : (s.withDie d x m).die d = x := by
  cases d <;> rfl

@[simp] theorem State.withDie_other (s : State) (d : DieId) (x : Die) (m : Memory) :
    (s.withDie d x m).die d.other = s.die d.other := by
  cases d <;> rfl

@[simp] theorem State.withDie_mem (s : State) (d : DieId) (x : Die) (m : Memory) : (s.withDie d x m).mem d = m := by
  cases d <;> rfl

@[simp] theorem State.withDie_mem_other (s : State) (d : DieId) (x : Die) (m : Memory) :
    (s.withDie d x m).mem d.other = s.mem d.other := by
  cases d <;> rfl

@[simp] theorem DieId.other_other (d : DieId) : d.other.other = d := by cases d <;> rfl

@[simp] theorem State.withDie_has (s : State) (d e : DieId) (x : Die) (m : Memory) : (s.withDie d x m).has e = s.has e := by
  cases d <;> cases e <;> rfl

end Sys2Proof.Machine
end

