-- ==== Sys2Proof/Laws/Events.lean ====
section
/-!
SUPPORT. What firing an event can do: the pending bits, the MP's queue, the messages of the vectors, and the fields that show
the queue; nothing else.
-/

namespace Sys2Proof.Machine

/-! ### Messages -/

@[simp] theorem Die.vecMessage_live (x : Die) (v : Nat) : (x.vecMessage v).live = x.live := by
  unfold Die.vecMessage; repeat' (first | rfl | split)
@[simp] theorem Die.vecMessage_stage (x : Die) (v : Nat) : (x.vecMessage v).stage = x.stage := by
  unfold Die.vecMessage; repeat' (first | rfl | split)
@[simp] theorem Die.vecMessage_evRaw (x : Die) (v : Nat) : (x.vecMessage v).evRaw = x.evRaw := by
  unfold Die.vecMessage; repeat' (first | rfl | split)
@[simp] theorem Die.vecMessage_evEn (x : Die) (v : Nat) : (x.vecMessage v).evEn = x.evEn := by
  unfold Die.vecMessage; repeat' (first | rfl | split)
@[simp] theorem Die.vecMessage_evPend (x : Die) (v : Nat) : (x.vecMessage v).evPend = x.evPend := by
  unfold Die.vecMessage; repeat' (first | rfl | split)
@[simp] theorem Die.vecMessage_msixMask (x : Die) (v : Nat) : (x.vecMessage v).msixMask = x.msixMask := by
  unfold Die.vecMessage; repeat' (first | rfl | split)
@[simp] theorem Die.vecMessage_evq (x : Die) (v : Nat) : (x.vecMessage v).evq = x.evq := by
  unfold Die.vecMessage; repeat' (first | rfl | split)
@[simp] theorem Die.vecMessage_held (x : Die) (v : Nat) : (x.vecMessage v).held = x.held := by
  unfold Die.vecMessage; repeat' (first | rfl | split)
@[simp] theorem Die.vecMessage_mbx (x : Die) (v : Nat) : (x.vecMessage v).mbx = x.mbx := by
  unfold Die.vecMessage; repeat' (first | rfl | split)
@[simp] theorem Die.vecMessage_free (x : Die) (v : Nat) : (x.vecMessage v).free = x.free := by
  unfold Die.vecMessage; repeat' (first | rfl | split)
@[simp] theorem Die.vecMessage_wr (x : Die) (v : Nat) : (x.vecMessage v).wr = x.wr := by
  unfold Die.vecMessage; repeat' (first | rfl | split)
@[simp] theorem Die.vecMessage_rake (x : Die) (v : Nat) : (x.vecMessage v).rake = x.rake := by
  unfold Die.vecMessage; repeat' (first | rfl | split)
@[simp] theorem Die.vecMessage_afe (x : Die) (v : Nat) : (x.vecMessage v).afe = x.afe := by
  unfold Die.vecMessage; repeat' (first | rfl | split)
@[simp] theorem Die.vecMessage_frame (x : Die) (v : Nat) : (x.vecMessage v).frame = x.frame := by
  unfold Die.vecMessage; repeat' (first | rfl | split)
@[simp] theorem Die.vecMessage_gapDue (x : Die) (v : Nat) : (x.vecMessage v).gapDue = x.gapDue := by
  unfold Die.vecMessage; repeat' (first | rfl | split)
@[simp] theorem Die.vecMessage_trm (x : Die) (v : Nat) : (x.vecMessage v).trm = x.trm := by
  unfold Die.vecMessage; repeat' (first | rfl | split)
@[simp] theorem Die.vecMessage_clu (x : Die) (v : Nat) : (x.vecMessage v).clu = x.clu := by
  unfold Die.vecMessage; repeat' (first | rfl | split)
@[simp] theorem Die.vecMessage_acb (x : Die) (v : Nat) : (x.vecMessage v).acb = x.acb := by
  unfold Die.vecMessage; repeat' (first | rfl | split)
@[simp] theorem Die.vecMessage_sieve (x : Die) (v : Nat) : (x.vecMessage v).sieve = x.sieve := by
  unfold Die.vecMessage; repeat' (first | rfl | split)
@[simp] theorem Die.vecMessage_cmm (x : Die) (v : Nat) : (x.vecMessage v).cmm = x.cmm := by
  unfold Die.vecMessage; repeat' (first | rfl | split)
@[simp] theorem Die.vecMessage_rad (x : Die) (v : Nat) : (x.vecMessage v).rad = x.rad := by
  unfold Die.vecMessage; repeat' (first | rfl | split)
@[simp] theorem Die.vecMessage_wdr (x : Die) (v : Nat) : (x.vecMessage v).wdr = x.wdr := by
  unfold Die.vecMessage; repeat' (first | rfl | split)
@[simp] theorem Die.vecMessage_prevFrame (x : Die) (v : Nat) : (x.vecMessage v).prevFrame = x.prevFrame := by
  unfold Die.vecMessage; repeat' (first | rfl | split)
@[simp] theorem Die.vecMessage_clo (x : Die) (v : Nat) : (x.vecMessage v).clo = x.clo := by
  unfold Die.vecMessage; repeat' (first | rfl | split)
@[simp] theorem Die.vecMessage_cal (x : Die) (v : Nat) : (x.vecMessage v).cal = x.cal := by
  unfold Die.vecMessage; repeat' (first | rfl | split)
@[simp] theorem Die.vecMessage_planeHash (x : Die) (v : Nat) : (x.vecMessage v).planeHash = x.planeHash := by
  unfold Die.vecMessage; repeat' (first | rfl | split)
@[simp] theorem Die.vecMessage_hits (x : Die) (v : Nat) : (x.vecMessage v).hits = x.hits := by
  unfold Die.vecMessage; repeat' (first | rfl | split)
@[simp] theorem Die.vecMessage_dma (x : Die) (v : Nat) : (x.vecMessage v).dma = x.dma := by
  unfold Die.vecMessage; repeat' (first | rfl | split)
@[simp] theorem Die.vecMessage_clock (x : Die) (v : Nat) : (x.vecMessage v).clock = x.clock := by
  unfold Die.vecMessage; repeat' (first | rfl | split)
@[simp] theorem Die.vecMessage_ipp (x : Die) (v : Nat) : (x.vecMessage v).ipp = x.ipp := by
  unfold Die.vecMessage; repeat' (first | rfl | split)
@[simp] theorem Die.vecMessage_evd (x : Die) (v : Nat) : (x.vecMessage v).evd = x.evd := by
  unfold Die.vecMessage; repeat' (first | rfl | split)
@[simp] theorem Die.vecMessage_fcv (x : Die) (v : Nat) : (x.vecMessage v).fcv = x.fcv := by
  unfold Die.vecMessage; repeat' (first | rfl | split)
@[simp] theorem Die.vecMessage_lpc (x : Die) (v : Nat) : (x.vecMessage v).lpc = x.lpc := by
  unfold Die.vecMessage; repeat' (first | rfl | split)
@[simp] theorem Die.vecMessage_pwm (x : Die) (v : Nat) : (x.vecMessage v).pwm = x.pwm := by
  unfold Die.vecMessage; repeat' (first | rfl | split)
@[simp] theorem Die.vecMessage_led (x : Die) (v : Nat) : (x.vecMessage v).led = x.led := by
  unfold Die.vecMessage; repeat' (first | rfl | split)
@[simp] theorem Die.vecMessage_thm (x : Die) (v : Nat) : (x.vecMessage v).thm = x.thm := by
  unfold Die.vecMessage; repeat' (first | rfl | split)
@[simp] theorem Die.vecMessage_fuses (x : Die) (v : Nat) : (x.vecMessage v).fuses = x.fuses := by
  unfold Die.vecMessage; repeat' (first | rfl | split)
@[simp] theorem Die.vecMessage_dramCut (x : Die) (v : Nat) : (x.vecMessage v).dramCut = x.dramCut := by
  unfold Die.vecMessage; repeat' (first | rfl | split)
@[simp] theorem Die.vecMessage_boot (x : Die) (v : Nat) : (x.vecMessage v).boot = x.boot := by
  unfold Die.vecMessage; repeat' (first | rfl | split)
@[simp] theorem Die.vecMessage_nvs (x : Die) (v : Nat) : (x.vecMessage v).nvs = x.nvs := by
  unfold Die.vecMessage; repeat' (first | rfl | split)
@[simp] theorem Die.vecMessage_vote (x : Die) (v : Nat) : (x.vecMessage v).vote = x.vote := by
  unfold Die.vecMessage; repeat' (first | rfl | split)
@[simp] theorem Die.vecMessage_trl (x : Die) (v : Nat) : (x.vecMessage v).trl = x.trl := by
  unfold Die.vecMessage; repeat' (first | rfl | split)
@[simp] theorem Die.vecMessage_prl (x : Die) (v : Nat) : (x.vecMessage v).prl = x.prl := by
  unfold Die.vecMessage; repeat' (first | rfl | split)
@[simp] theorem Die.vecMessage_images (x : Die) (v : Nat) : (x.vecMessage v).images = x.images := by
  unfold Die.vecMessage; repeat' (first | rfl | split)
@[simp] theorem Die.vecMessage_spi (x : Die) (v : Nat) : (x.vecMessage v).spi = x.spi := by
  unfold Die.vecMessage; repeat' (first | rfl | split)
@[simp] theorem Die.vecMessage_spr (x : Die) (v : Nat) : (x.vecMessage v).spr = x.spr := by
  unfold Die.vecMessage; repeat' (first | rfl | split)
@[simp] theorem Die.vecMessage_arms (x : Die) (v : Nat) : (x.vecMessage v).arms = x.arms := by
  unfold Die.vecMessage; repeat' (first | rfl | split)

/-- What a message leaves alone, the messages of a change leave alone. -/
theorem Die.notify_keeps {α : Type} (p : Die → α) (hp : ∀ (z : Die) (v : Nat), p (z.vecMessage v) = p z) (x y : Die) :
    p (x.notify y) = p y := by
  unfold Die.notify
  generalize List.range 8 = l
  suffices h : ∀ z : Die, p (l.foldl (fun z v => if !x.vecOn v && y.vecOn v then z.vecMessage v else z) z) = p z from h y
  induction l with
  | nil => intro z; rfl
  | cons v r ih =>
    intro z
    rw [List.foldl_cons, ih]
    split
    · exact hp z v
    · rfl

@[simp] theorem Die.notify_live (x y : Die) : (x.notify y).live = y.live := Die.notify_keeps Die.live (by simp) x y
@[simp] theorem Die.notify_stage (x y : Die) : (x.notify y).stage = y.stage := Die.notify_keeps Die.stage (by simp) x y
@[simp] theorem Die.notify_evRaw (x y : Die) : (x.notify y).evRaw = y.evRaw := Die.notify_keeps Die.evRaw (by simp) x y
@[simp] theorem Die.notify_evEn (x y : Die) : (x.notify y).evEn = y.evEn := Die.notify_keeps Die.evEn (by simp) x y
@[simp] theorem Die.notify_evPend (x y : Die) : (x.notify y).evPend = y.evPend := Die.notify_keeps Die.evPend (by simp) x y
@[simp] theorem Die.notify_msixMask (x y : Die) : (x.notify y).msixMask = y.msixMask := Die.notify_keeps Die.msixMask (by simp) x y
@[simp] theorem Die.notify_evq (x y : Die) : (x.notify y).evq = y.evq := Die.notify_keeps Die.evq (by simp) x y
@[simp] theorem Die.notify_held (x y : Die) : (x.notify y).held = y.held := Die.notify_keeps Die.held (by simp) x y
@[simp] theorem Die.notify_mbx (x y : Die) : (x.notify y).mbx = y.mbx := Die.notify_keeps Die.mbx (by simp) x y
@[simp] theorem Die.notify_free (x y : Die) : (x.notify y).free = y.free := Die.notify_keeps Die.free (by simp) x y
@[simp] theorem Die.notify_wr (x y : Die) : (x.notify y).wr = y.wr := Die.notify_keeps Die.wr (by simp) x y
@[simp] theorem Die.notify_rake (x y : Die) : (x.notify y).rake = y.rake := Die.notify_keeps Die.rake (by simp) x y
@[simp] theorem Die.notify_afe (x y : Die) : (x.notify y).afe = y.afe := Die.notify_keeps Die.afe (by simp) x y
@[simp] theorem Die.notify_frame (x y : Die) : (x.notify y).frame = y.frame := Die.notify_keeps Die.frame (by simp) x y
@[simp] theorem Die.notify_gapDue (x y : Die) : (x.notify y).gapDue = y.gapDue := Die.notify_keeps Die.gapDue (by simp) x y
@[simp] theorem Die.notify_trm (x y : Die) : (x.notify y).trm = y.trm := Die.notify_keeps Die.trm (by simp) x y
@[simp] theorem Die.notify_clu (x y : Die) : (x.notify y).clu = y.clu := Die.notify_keeps Die.clu (by simp) x y
@[simp] theorem Die.notify_acb (x y : Die) : (x.notify y).acb = y.acb := Die.notify_keeps Die.acb (by simp) x y
@[simp] theorem Die.notify_sieve (x y : Die) : (x.notify y).sieve = y.sieve := Die.notify_keeps Die.sieve (by simp) x y
@[simp] theorem Die.notify_cmm (x y : Die) : (x.notify y).cmm = y.cmm := Die.notify_keeps Die.cmm (by simp) x y
@[simp] theorem Die.notify_rad (x y : Die) : (x.notify y).rad = y.rad := Die.notify_keeps Die.rad (by simp) x y
@[simp] theorem Die.notify_wdr (x y : Die) : (x.notify y).wdr = y.wdr := Die.notify_keeps Die.wdr (by simp) x y
@[simp] theorem Die.notify_prevFrame (x y : Die) : (x.notify y).prevFrame = y.prevFrame := Die.notify_keeps Die.prevFrame (by simp) x y
@[simp] theorem Die.notify_clo (x y : Die) : (x.notify y).clo = y.clo := Die.notify_keeps Die.clo (by simp) x y
@[simp] theorem Die.notify_cal (x y : Die) : (x.notify y).cal = y.cal := Die.notify_keeps Die.cal (by simp) x y
@[simp] theorem Die.notify_planeHash (x y : Die) : (x.notify y).planeHash = y.planeHash := Die.notify_keeps Die.planeHash (by simp) x y
@[simp] theorem Die.notify_hits (x y : Die) : (x.notify y).hits = y.hits := Die.notify_keeps Die.hits (by simp) x y
@[simp] theorem Die.notify_dma (x y : Die) : (x.notify y).dma = y.dma := Die.notify_keeps Die.dma (by simp) x y
@[simp] theorem Die.notify_clock (x y : Die) : (x.notify y).clock = y.clock := Die.notify_keeps Die.clock (by simp) x y
@[simp] theorem Die.notify_ipp (x y : Die) : (x.notify y).ipp = y.ipp := Die.notify_keeps Die.ipp (by simp) x y
@[simp] theorem Die.notify_evd (x y : Die) : (x.notify y).evd = y.evd := Die.notify_keeps Die.evd (by simp) x y
@[simp] theorem Die.notify_fcv (x y : Die) : (x.notify y).fcv = y.fcv := Die.notify_keeps Die.fcv (by simp) x y
@[simp] theorem Die.notify_lpc (x y : Die) : (x.notify y).lpc = y.lpc := Die.notify_keeps Die.lpc (by simp) x y
@[simp] theorem Die.notify_pwm (x y : Die) : (x.notify y).pwm = y.pwm := Die.notify_keeps Die.pwm (by simp) x y
@[simp] theorem Die.notify_led (x y : Die) : (x.notify y).led = y.led := Die.notify_keeps Die.led (by simp) x y
@[simp] theorem Die.notify_thm (x y : Die) : (x.notify y).thm = y.thm := Die.notify_keeps Die.thm (by simp) x y
@[simp] theorem Die.notify_fuses (x y : Die) : (x.notify y).fuses = y.fuses := Die.notify_keeps Die.fuses (by simp) x y
@[simp] theorem Die.notify_dramCut (x y : Die) : (x.notify y).dramCut = y.dramCut := Die.notify_keeps Die.dramCut (by simp) x y
@[simp] theorem Die.notify_boot (x y : Die) : (x.notify y).boot = y.boot := Die.notify_keeps Die.boot (by simp) x y
@[simp] theorem Die.notify_nvs (x y : Die) : (x.notify y).nvs = y.nvs := Die.notify_keeps Die.nvs (by simp) x y
@[simp] theorem Die.notify_vote (x y : Die) : (x.notify y).vote = y.vote := Die.notify_keeps Die.vote (by simp) x y
@[simp] theorem Die.notify_trl (x y : Die) : (x.notify y).trl = y.trl := Die.notify_keeps Die.trl (by simp) x y
@[simp] theorem Die.notify_prl (x y : Die) : (x.notify y).prl = y.prl := Die.notify_keeps Die.prl (by simp) x y
@[simp] theorem Die.notify_images (x y : Die) : (x.notify y).images = y.images := Die.notify_keeps Die.images (by simp) x y
@[simp] theorem Die.notify_spi (x y : Die) : (x.notify y).spi = y.spi := Die.notify_keeps Die.spi (by simp) x y
@[simp] theorem Die.notify_spr (x y : Die) : (x.notify y).spr = y.spr := Die.notify_keeps Die.spr (by simp) x y
@[simp] theorem Die.notify_arms (x y : Die) : (x.notify y).arms = y.arms := Die.notify_keeps Die.arms (by simp) x y

/-! ### A pending bit -/

@[simp] theorem Die.pend_live (x : Die) (e : Nat) : (x.pend e).live = x.live := by simp [Die.pend]
@[simp] theorem Die.pend_stage (x : Die) (e : Nat) : (x.pend e).stage = x.stage := by simp [Die.pend]
@[simp] theorem Die.pend_evRaw (x : Die) (e : Nat) : (x.pend e).evRaw = x.evRaw := by simp [Die.pend]
@[simp] theorem Die.pend_evEn (x : Die) (e : Nat) : (x.pend e).evEn = x.evEn := by simp [Die.pend]
@[simp] theorem Die.pend_msixMask (x : Die) (e : Nat) : (x.pend e).msixMask = x.msixMask := by simp [Die.pend]
@[simp] theorem Die.pend_evq (x : Die) (e : Nat) : (x.pend e).evq = x.evq := by simp [Die.pend]
@[simp] theorem Die.pend_held (x : Die) (e : Nat) : (x.pend e).held = x.held := by simp [Die.pend]
@[simp] theorem Die.pend_mbx (x : Die) (e : Nat) : (x.pend e).mbx = x.mbx := by simp [Die.pend]
@[simp] theorem Die.pend_free (x : Die) (e : Nat) : (x.pend e).free = x.free := by simp [Die.pend]
@[simp] theorem Die.pend_wr (x : Die) (e : Nat) : (x.pend e).wr = x.wr := by simp [Die.pend]
@[simp] theorem Die.pend_rake (x : Die) (e : Nat) : (x.pend e).rake = x.rake := by simp [Die.pend]
@[simp] theorem Die.pend_afe (x : Die) (e : Nat) : (x.pend e).afe = x.afe := by simp [Die.pend]
@[simp] theorem Die.pend_frame (x : Die) (e : Nat) : (x.pend e).frame = x.frame := by simp [Die.pend]
@[simp] theorem Die.pend_gapDue (x : Die) (e : Nat) : (x.pend e).gapDue = x.gapDue := by simp [Die.pend]
@[simp] theorem Die.pend_trm (x : Die) (e : Nat) : (x.pend e).trm = x.trm := by simp [Die.pend]
@[simp] theorem Die.pend_clu (x : Die) (e : Nat) : (x.pend e).clu = x.clu := by simp [Die.pend]
@[simp] theorem Die.pend_acb (x : Die) (e : Nat) : (x.pend e).acb = x.acb := by simp [Die.pend]
@[simp] theorem Die.pend_sieve (x : Die) (e : Nat) : (x.pend e).sieve = x.sieve := by simp [Die.pend]
@[simp] theorem Die.pend_cmm (x : Die) (e : Nat) : (x.pend e).cmm = x.cmm := by simp [Die.pend]
@[simp] theorem Die.pend_rad (x : Die) (e : Nat) : (x.pend e).rad = x.rad := by simp [Die.pend]
@[simp] theorem Die.pend_wdr (x : Die) (e : Nat) : (x.pend e).wdr = x.wdr := by simp [Die.pend]
@[simp] theorem Die.pend_prevFrame (x : Die) (e : Nat) : (x.pend e).prevFrame = x.prevFrame := by simp [Die.pend]
@[simp] theorem Die.pend_clo (x : Die) (e : Nat) : (x.pend e).clo = x.clo := by simp [Die.pend]
@[simp] theorem Die.pend_cal (x : Die) (e : Nat) : (x.pend e).cal = x.cal := by simp [Die.pend]
@[simp] theorem Die.pend_planeHash (x : Die) (e : Nat) : (x.pend e).planeHash = x.planeHash := by simp [Die.pend]
@[simp] theorem Die.pend_dma (x : Die) (e : Nat) : (x.pend e).dma = x.dma := by simp [Die.pend]
@[simp] theorem Die.pend_clock (x : Die) (e : Nat) : (x.pend e).clock = x.clock := by simp [Die.pend]
@[simp] theorem Die.pend_ipp (x : Die) (e : Nat) : (x.pend e).ipp = x.ipp := by simp [Die.pend]
@[simp] theorem Die.pend_evd (x : Die) (e : Nat) : (x.pend e).evd = x.evd := by simp [Die.pend]
@[simp] theorem Die.pend_fcv (x : Die) (e : Nat) : (x.pend e).fcv = x.fcv := by simp [Die.pend]
@[simp] theorem Die.pend_lpc (x : Die) (e : Nat) : (x.pend e).lpc = x.lpc := by simp [Die.pend]
@[simp] theorem Die.pend_pwm (x : Die) (e : Nat) : (x.pend e).pwm = x.pwm := by simp [Die.pend]
@[simp] theorem Die.pend_led (x : Die) (e : Nat) : (x.pend e).led = x.led := by simp [Die.pend]
@[simp] theorem Die.pend_thm (x : Die) (e : Nat) : (x.pend e).thm = x.thm := by simp [Die.pend]
@[simp] theorem Die.pend_fuses (x : Die) (e : Nat) : (x.pend e).fuses = x.fuses := by simp [Die.pend]
@[simp] theorem Die.pend_dramCut (x : Die) (e : Nat) : (x.pend e).dramCut = x.dramCut := by simp [Die.pend]
@[simp] theorem Die.pend_boot (x : Die) (e : Nat) : (x.pend e).boot = x.boot := by simp [Die.pend]
@[simp] theorem Die.pend_nvs (x : Die) (e : Nat) : (x.pend e).nvs = x.nvs := by simp [Die.pend]
@[simp] theorem Die.pend_vote (x : Die) (e : Nat) : (x.pend e).vote = x.vote := by simp [Die.pend]
@[simp] theorem Die.pend_trl (x : Die) (e : Nat) : (x.pend e).trl = x.trl := by simp [Die.pend]
@[simp] theorem Die.pend_prl (x : Die) (e : Nat) : (x.pend e).prl = x.prl := by simp [Die.pend]
@[simp] theorem Die.pend_images (x : Die) (e : Nat) : (x.pend e).images = x.images := by simp [Die.pend]
@[simp] theorem Die.pend_spi (x : Die) (e : Nat) : (x.pend e).spi = x.spi := by simp [Die.pend]
@[simp] theorem Die.pend_spr (x : Die) (e : Nat) : (x.pend e).spr = x.spr := by simp [Die.pend]
@[simp] theorem Die.pend_arms (x : Die) (e : Nat) : (x.pend e).arms = x.arms := by simp [Die.pend]

@[simp] theorem Die.pend_evPend (x : Die) (e : Nat) : (x.pend e).evPend = x.evPend ||| BitVec.twoPow 640 e := by simp [Die.pend]

theorem Die.get_of_live {x y : Die} (h : y.live = x.live) (f : Fld) : y.get f = x.get f := by
  simp only [Die.get, Die.resetOf, h]

@[simp] theorem Die.pend_get (x : Die) (e : Nat) (f : Fld) : (x.pend e).get f = x.get f := Die.get_of_live (by simp) f

/-! ### Firing -/

@[simp] theorem Die.raise_get (x : Die) (f g : Fld) (v : Nat) : (x.raise f v).get g = (x.set f (x.get f ||| v)).get g := rfl

/-- What a field write, a raised bit, a pending bit and a change of the queue leave alone, an event leaves alone. -/
theorem Die.fire_keeps {α : Type} (p : Die → α) (hs : ∀ (z : Die) (f : Fld) (v : Nat), p (z.set f v) = p z)
    (hr : ∀ (z : Die) (f : Fld) (v : Nat), p (z.raise f v) = p z)
    (hp : ∀ (z : Die) (e : Nat), p (z.pend e) = p z) (hq : ∀ (z : Die) (q : EvQueue), p { z with evq := q } = p z)
    (x : Die) (e : Nat) : p (x.fire e) = p x := by
  have hk : ∀ (z : Die) (f : Fld) (v : Nat), p (z.peak f v) = p z := by
    intro z f v; unfold Die.peak; split <;> simp [hs]
  have hw : ∀ z : Die, p z.showQueue = p z := by intro z; simp [Die.showQueue, hk, hs]
  unfold Die.fire
  dsimp only
  split
  · rw [hp, hq, hr]
    split
    · rw [Die.count, hs, hw, hq, hp]
    · rw [hw, hq, hp]
  · rw [hw, hq, hp]

@[simp] theorem Die.fire_stage (x : Die) (e : Nat) : (x.fire e).stage = x.stage := Die.fire_keeps Die.stage (by simp) (by simp) (by simp) (by intros; rfl) x e
@[simp] theorem Die.fire_evRaw (x : Die) (e : Nat) : (x.fire e).evRaw = x.evRaw := Die.fire_keeps Die.evRaw (by simp) (by simp) (by simp) (by intros; rfl) x e
@[simp] theorem Die.fire_evEn (x : Die) (e : Nat) : (x.fire e).evEn = x.evEn := Die.fire_keeps Die.evEn (by simp) (by simp) (by simp) (by intros; rfl) x e
@[simp] theorem Die.fire_msixMask (x : Die) (e : Nat) : (x.fire e).msixMask = x.msixMask := Die.fire_keeps Die.msixMask (by simp) (by simp) (by simp) (by intros; rfl) x e
@[simp] theorem Die.fire_held (x : Die) (e : Nat) : (x.fire e).held = x.held := Die.fire_keeps Die.held (by simp) (by simp) (by simp) (by intros; rfl) x e
@[simp] theorem Die.fire_mbx (x : Die) (e : Nat) : (x.fire e).mbx = x.mbx := Die.fire_keeps Die.mbx (by simp) (by simp) (by simp) (by intros; rfl) x e
@[simp] theorem Die.fire_free (x : Die) (e : Nat) : (x.fire e).free = x.free := Die.fire_keeps Die.free (by simp) (by simp) (by simp) (by intros; rfl) x e
@[simp] theorem Die.fire_wr (x : Die) (e : Nat) : (x.fire e).wr = x.wr := Die.fire_keeps Die.wr (by simp) (by simp) (by simp) (by intros; rfl) x e
@[simp] theorem Die.fire_rake (x : Die) (e : Nat) : (x.fire e).rake = x.rake := Die.fire_keeps Die.rake (by simp) (by simp) (by simp) (by intros; rfl) x e
@[simp] theorem Die.fire_afe (x : Die) (e : Nat) : (x.fire e).afe = x.afe := Die.fire_keeps Die.afe (by simp) (by simp) (by simp) (by intros; rfl) x e
@[simp] theorem Die.fire_frame (x : Die) (e : Nat) : (x.fire e).frame = x.frame := Die.fire_keeps Die.frame (by simp) (by simp) (by simp) (by intros; rfl) x e
@[simp] theorem Die.fire_gapDue (x : Die) (e : Nat) : (x.fire e).gapDue = x.gapDue := Die.fire_keeps Die.gapDue (by simp) (by simp) (by simp) (by intros; rfl) x e
@[simp] theorem Die.fire_trm (x : Die) (e : Nat) : (x.fire e).trm = x.trm := Die.fire_keeps Die.trm (by simp) (by simp) (by simp) (by intros; rfl) x e
@[simp] theorem Die.fire_clu (x : Die) (e : Nat) : (x.fire e).clu = x.clu := Die.fire_keeps Die.clu (by simp) (by simp) (by simp) (by intros; rfl) x e
@[simp] theorem Die.fire_acb (x : Die) (e : Nat) : (x.fire e).acb = x.acb := Die.fire_keeps Die.acb (by simp) (by simp) (by simp) (by intros; rfl) x e
@[simp] theorem Die.fire_sieve (x : Die) (e : Nat) : (x.fire e).sieve = x.sieve := Die.fire_keeps Die.sieve (by simp) (by simp) (by simp) (by intros; rfl) x e
@[simp] theorem Die.fire_cmm (x : Die) (e : Nat) : (x.fire e).cmm = x.cmm := Die.fire_keeps Die.cmm (by simp) (by simp) (by simp) (by intros; rfl) x e
@[simp] theorem Die.fire_rad (x : Die) (e : Nat) : (x.fire e).rad = x.rad := Die.fire_keeps Die.rad (by simp) (by simp) (by simp) (by intros; rfl) x e
@[simp] theorem Die.fire_wdr (x : Die) (e : Nat) : (x.fire e).wdr = x.wdr := Die.fire_keeps Die.wdr (by simp) (by simp) (by simp) (by intros; rfl) x e
@[simp] theorem Die.fire_prevFrame (x : Die) (e : Nat) : (x.fire e).prevFrame = x.prevFrame := Die.fire_keeps Die.prevFrame (by simp) (by simp) (by simp) (by intros; rfl) x e
@[simp] theorem Die.fire_clo (x : Die) (e : Nat) : (x.fire e).clo = x.clo := Die.fire_keeps Die.clo (by simp) (by simp) (by simp) (by intros; rfl) x e
@[simp] theorem Die.fire_cal (x : Die) (e : Nat) : (x.fire e).cal = x.cal := Die.fire_keeps Die.cal (by simp) (by simp) (by simp) (by intros; rfl) x e
@[simp] theorem Die.fire_planeHash (x : Die) (e : Nat) : (x.fire e).planeHash = x.planeHash := Die.fire_keeps Die.planeHash (by simp) (by simp) (by simp) (by intros; rfl) x e
@[simp] theorem Die.fire_dma (x : Die) (e : Nat) : (x.fire e).dma = x.dma := Die.fire_keeps Die.dma (by simp) (by simp) (by simp) (by intros; rfl) x e
@[simp] theorem Die.fire_clock (x : Die) (e : Nat) : (x.fire e).clock = x.clock := Die.fire_keeps Die.clock (by simp) (by simp) (by simp) (by intros; rfl) x e
@[simp] theorem Die.fire_ipp (x : Die) (e : Nat) : (x.fire e).ipp = x.ipp := Die.fire_keeps Die.ipp (by simp) (by simp) (by simp) (by intros; rfl) x e
@[simp] theorem Die.fire_evd (x : Die) (e : Nat) : (x.fire e).evd = x.evd := Die.fire_keeps Die.evd (by simp) (by simp) (by simp) (by intros; rfl) x e
@[simp] theorem Die.fire_fcv (x : Die) (e : Nat) : (x.fire e).fcv = x.fcv := Die.fire_keeps Die.fcv (by simp) (by simp) (by simp) (by intros; rfl) x e
@[simp] theorem Die.fire_lpc (x : Die) (e : Nat) : (x.fire e).lpc = x.lpc := Die.fire_keeps Die.lpc (by simp) (by simp) (by simp) (by intros; rfl) x e
@[simp] theorem Die.fire_pwm (x : Die) (e : Nat) : (x.fire e).pwm = x.pwm := Die.fire_keeps Die.pwm (by simp) (by simp) (by simp) (by intros; rfl) x e
@[simp] theorem Die.fire_led (x : Die) (e : Nat) : (x.fire e).led = x.led := Die.fire_keeps Die.led (by simp) (by simp) (by simp) (by intros; rfl) x e
@[simp] theorem Die.fire_thm (x : Die) (e : Nat) : (x.fire e).thm = x.thm := Die.fire_keeps Die.thm (by simp) (by simp) (by simp) (by intros; rfl) x e
@[simp] theorem Die.fire_fuses (x : Die) (e : Nat) : (x.fire e).fuses = x.fuses := Die.fire_keeps Die.fuses (by simp) (by simp) (by simp) (by intros; rfl) x e
@[simp] theorem Die.fire_dramCut (x : Die) (e : Nat) : (x.fire e).dramCut = x.dramCut := Die.fire_keeps Die.dramCut (by simp) (by simp) (by simp) (by intros; rfl) x e
@[simp] theorem Die.fire_boot (x : Die) (e : Nat) : (x.fire e).boot = x.boot := Die.fire_keeps Die.boot (by simp) (by simp) (by simp) (by intros; rfl) x e
@[simp] theorem Die.fire_nvs (x : Die) (e : Nat) : (x.fire e).nvs = x.nvs := Die.fire_keeps Die.nvs (by simp) (by simp) (by simp) (by intros; rfl) x e
@[simp] theorem Die.fire_vote (x : Die) (e : Nat) : (x.fire e).vote = x.vote := Die.fire_keeps Die.vote (by simp) (by simp) (by simp) (by intros; rfl) x e
@[simp] theorem Die.fire_trl (x : Die) (e : Nat) : (x.fire e).trl = x.trl := Die.fire_keeps Die.trl (by simp) (by simp) (by simp) (by intros; rfl) x e
@[simp] theorem Die.fire_prl (x : Die) (e : Nat) : (x.fire e).prl = x.prl := Die.fire_keeps Die.prl (by simp) (by simp) (by simp) (by intros; rfl) x e
@[simp] theorem Die.fire_images (x : Die) (e : Nat) : (x.fire e).images = x.images := Die.fire_keeps Die.images (by simp) (by simp) (by simp) (by intros; rfl) x e
@[simp] theorem Die.fire_spi (x : Die) (e : Nat) : (x.fire e).spi = x.spi := Die.fire_keeps Die.spi (by simp) (by simp) (by simp) (by intros; rfl) x e
@[simp] theorem Die.fire_spr (x : Die) (e : Nat) : (x.fire e).spr = x.spr := Die.fire_keeps Die.spr (by simp) (by simp) (by simp) (by intros; rfl) x e
@[simp] theorem Die.fire_arms (x : Die) (e : Nat) : (x.fire e).arms = x.arms := Die.fire_keeps Die.arms (by simp) (by simp) (by simp) (by intros; rfl) x e

theorem Die.fire_get (x : Die) (e : Nat) {f : Fld} (h : f.showsQueue = false) : (x.fire e).get f = x.get f := by
  simp only [Fld.showsQueue, Bool.or_eq_false_iff, decide_eq_false_iff_not] at h
  obtain ⟨⟨⟨h1, h2⟩, h3⟩, h4⟩ := h
  have hset : ∀ (z : Die) (g : Fld) (v : Nat), g.key ≠ f.key → g.steers = false → (z.set g v).get f = z.get f :=
    fun z g v hne hst => Die.get_set_ne z v hne hst
  have hq : ∀ (z : Die) (q : EvQueue), ({ z with evq := q } : Die).get f = z.get f := fun _ _ => rfl
  have hw : ∀ z : Die, z.showQueue.get f = z.get f := by
    intro z
    unfold Die.showQueue Die.peak
    split
    · rw [hset _ _ _ (fun e => h2 e.symm) (by decide), hset _ _ _ (fun e => h1 e.symm) (by decide)]
    · rw [hset _ _ _ (fun e => h1 e.symm) (by decide)]
  unfold Die.fire
  dsimp only
  split
  · rw [Die.pend_get, hq, Die.raise_get, hset _ _ _ (fun e => h4 e.symm) (by decide)]
    split
    · rw [Die.count, hset _ _ _ (fun e => h3 e.symm) (by decide), hw, hq, Die.pend_get]
    · rw [hw, hq, Die.pend_get]
  · rw [hw, hq, Die.pend_get]

theorem Die.fire_on (x : Die) (e : Nat) {f : Fld} (h : f.showsQueue = false) : (x.fire e).on f = x.on f := by
  simp [Die.on, Die.fire_get x e h]

/-- An event's pending bits: its own, and MP_OVERLOAD's when the queue was full. -/
theorem Die.fire_evPend (x : Die) (e : Nat) :
    (x.fire e).evPend = x.evPend ||| BitVec.twoPow 640 e ∨
    (x.fire e).evPend = (x.evPend ||| BitVec.twoPow 640 e) ||| BitVec.twoPow 640 620 := by
  have hk : ∀ (z : Die) (f : Fld) (v : Nat), (z.peak f v).evPend = z.evPend := by
    intro z f v; unfold Die.peak; split <;> simp
  have hw : ∀ z : Die, z.showQueue.evPend = z.evPend := by intro z; simp [Die.showQueue, hk]
  unfold Die.fire
  dsimp only
  split
  · right
    split <;> simp [Die.count, hw]
  · left; simp [hw]

/-- The event that fires is pending. -/
theorem Die.fire_pending (x : Die) {e : Nat} (h : e < 640) : (x.fire e).evPend.getLsbD e = true := by
  rcases Die.fire_evPend x e with h' | h' <;> simp [h', h]

/-- What was pending stays so. -/
theorem Die.fire_keeps_pending (x : Die) (e : Nat) {i : Nat} (h : x.evPend.getLsbD i = true) :
    (x.fire e).evPend.getLsbD i = true := by
  rcases Die.fire_evPend x e with h' | h' <;> simp [h', h]

/-- Other events do not become pending, but for MP_OVERLOAD. -/
theorem Die.fire_other (x : Die) {e i : Nat} (h : i ≠ e) (ho : i ≠ 620) :
    (x.fire e).evPend.getLsbD i = x.evPend.getLsbD i := by
  have h1 : e ≠ i := fun k => h k.symm
  have h2 : (620 : Nat) ≠ i := fun k => ho k.symm
  rcases Die.fire_evPend x e with h' | h' <;> simp [h', h1, h2]

/-! ### Conditions and rejected accesses -/

@[simp] theorem Die.cond_stage (x : Die) (e : Nat) (b : Bool) : (x.cond e b).stage = x.stage := by
  unfold Die.cond; dsimp only; split <;> simp
@[simp] theorem Die.cond_evEn (x : Die) (e : Nat) (b : Bool) : (x.cond e b).evEn = x.evEn := by
  unfold Die.cond; dsimp only; split <;> simp
@[simp] theorem Die.cond_msixMask (x : Die) (e : Nat) (b : Bool) : (x.cond e b).msixMask = x.msixMask := by
  unfold Die.cond; dsimp only; split <;> simp
@[simp] theorem Die.cond_held (x : Die) (e : Nat) (b : Bool) : (x.cond e b).held = x.held := by
  unfold Die.cond; dsimp only; split <;> simp
@[simp] theorem Die.cond_mbx (x : Die) (e : Nat) (b : Bool) : (x.cond e b).mbx = x.mbx := by
  unfold Die.cond; dsimp only; split <;> simp
@[simp] theorem Die.cond_free (x : Die) (e : Nat) (b : Bool) : (x.cond e b).free = x.free := by
  unfold Die.cond; dsimp only; split <;> simp
@[simp] theorem Die.cond_wr (x : Die) (e : Nat) (b : Bool) : (x.cond e b).wr = x.wr := by
  unfold Die.cond; dsimp only; split <;> simp
@[simp] theorem Die.cond_rake (x : Die) (e : Nat) (b : Bool) : (x.cond e b).rake = x.rake := by
  unfold Die.cond; dsimp only; split <;> simp
@[simp] theorem Die.cond_afe (x : Die) (e : Nat) (b : Bool) : (x.cond e b).afe = x.afe := by
  unfold Die.cond; dsimp only; split <;> simp
@[simp] theorem Die.cond_frame (x : Die) (e : Nat) (b : Bool) : (x.cond e b).frame = x.frame := by
  unfold Die.cond; dsimp only; split <;> simp
@[simp] theorem Die.cond_gapDue (x : Die) (e : Nat) (b : Bool) : (x.cond e b).gapDue = x.gapDue := by
  unfold Die.cond; dsimp only; split <;> simp
@[simp] theorem Die.cond_trm (x : Die) (e : Nat) (b : Bool) : (x.cond e b).trm = x.trm := by
  unfold Die.cond; dsimp only; split <;> simp
@[simp] theorem Die.cond_clu (x : Die) (e : Nat) (b : Bool) : (x.cond e b).clu = x.clu := by
  unfold Die.cond; dsimp only; split <;> simp
@[simp] theorem Die.cond_acb (x : Die) (e : Nat) (b : Bool) : (x.cond e b).acb = x.acb := by
  unfold Die.cond; dsimp only; split <;> simp
@[simp] theorem Die.cond_sieve (x : Die) (e : Nat) (b : Bool) : (x.cond e b).sieve = x.sieve := by
  unfold Die.cond; dsimp only; split <;> simp
@[simp] theorem Die.cond_cmm (x : Die) (e : Nat) (b : Bool) : (x.cond e b).cmm = x.cmm := by
  unfold Die.cond; dsimp only; split <;> simp
@[simp] theorem Die.cond_rad (x : Die) (e : Nat) (b : Bool) : (x.cond e b).rad = x.rad := by
  unfold Die.cond; dsimp only; split <;> simp
@[simp] theorem Die.cond_wdr (x : Die) (e : Nat) (b : Bool) : (x.cond e b).wdr = x.wdr := by
  unfold Die.cond; dsimp only; split <;> simp
@[simp] theorem Die.cond_prevFrame (x : Die) (e : Nat) (b : Bool) : (x.cond e b).prevFrame = x.prevFrame := by
  unfold Die.cond; dsimp only; split <;> simp
@[simp] theorem Die.cond_clo (x : Die) (e : Nat) (b : Bool) : (x.cond e b).clo = x.clo := by
  unfold Die.cond; dsimp only; split <;> simp
@[simp] theorem Die.cond_cal (x : Die) (e : Nat) (b : Bool) : (x.cond e b).cal = x.cal := by
  unfold Die.cond; dsimp only; split <;> simp
@[simp] theorem Die.cond_planeHash (x : Die) (e : Nat) (b : Bool) : (x.cond e b).planeHash = x.planeHash := by
  unfold Die.cond; dsimp only; split <;> simp
@[simp] theorem Die.cond_dma (x : Die) (e : Nat) (b : Bool) : (x.cond e b).dma = x.dma := by
  unfold Die.cond; dsimp only; split <;> simp
@[simp] theorem Die.cond_clock (x : Die) (e : Nat) (b : Bool) : (x.cond e b).clock = x.clock := by
  unfold Die.cond; dsimp only; split <;> simp
@[simp] theorem Die.cond_ipp (x : Die) (e : Nat) (b : Bool) : (x.cond e b).ipp = x.ipp := by
  unfold Die.cond; dsimp only; split <;> simp
@[simp] theorem Die.cond_evd (x : Die) (e : Nat) (b : Bool) : (x.cond e b).evd = x.evd := by
  unfold Die.cond; dsimp only; split <;> simp
@[simp] theorem Die.cond_fcv (x : Die) (e : Nat) (b : Bool) : (x.cond e b).fcv = x.fcv := by
  unfold Die.cond; dsimp only; split <;> simp
@[simp] theorem Die.cond_lpc (x : Die) (e : Nat) (b : Bool) : (x.cond e b).lpc = x.lpc := by
  unfold Die.cond; dsimp only; split <;> simp
@[simp] theorem Die.cond_pwm (x : Die) (e : Nat) (b : Bool) : (x.cond e b).pwm = x.pwm := by
  unfold Die.cond; dsimp only; split <;> simp
@[simp] theorem Die.cond_led (x : Die) (e : Nat) (b : Bool) : (x.cond e b).led = x.led := by
  unfold Die.cond; dsimp only; split <;> simp
@[simp] theorem Die.cond_thm (x : Die) (e : Nat) (b : Bool) : (x.cond e b).thm = x.thm := by
  unfold Die.cond; dsimp only; split <;> simp
@[simp] theorem Die.cond_fuses (x : Die) (e : Nat) (b : Bool) : (x.cond e b).fuses = x.fuses := by
  unfold Die.cond; dsimp only; split <;> simp
@[simp] theorem Die.cond_dramCut (x : Die) (e : Nat) (b : Bool) : (x.cond e b).dramCut = x.dramCut := by
  unfold Die.cond; dsimp only; split <;> simp
@[simp] theorem Die.cond_boot (x : Die) (e : Nat) (b : Bool) : (x.cond e b).boot = x.boot := by
  unfold Die.cond; dsimp only; split <;> simp
@[simp] theorem Die.cond_nvs (x : Die) (e : Nat) (b : Bool) : (x.cond e b).nvs = x.nvs := by
  unfold Die.cond; dsimp only; split <;> simp
@[simp] theorem Die.cond_vote (x : Die) (e : Nat) (b : Bool) : (x.cond e b).vote = x.vote := by
  unfold Die.cond; dsimp only; split <;> simp
@[simp] theorem Die.cond_trl (x : Die) (e : Nat) (b : Bool) : (x.cond e b).trl = x.trl := by
  unfold Die.cond; dsimp only; split <;> simp
@[simp] theorem Die.cond_prl (x : Die) (e : Nat) (b : Bool) : (x.cond e b).prl = x.prl := by
  unfold Die.cond; dsimp only; split <;> simp
@[simp] theorem Die.cond_images (x : Die) (e : Nat) (b : Bool) : (x.cond e b).images = x.images := by
  unfold Die.cond; dsimp only; split <;> simp
@[simp] theorem Die.cond_spi (x : Die) (e : Nat) (b : Bool) : (x.cond e b).spi = x.spi := by
  unfold Die.cond; dsimp only; split <;> simp
@[simp] theorem Die.cond_spr (x : Die) (e : Nat) (b : Bool) : (x.cond e b).spr = x.spr := by
  unfold Die.cond; dsimp only; split <;> simp
@[simp] theorem Die.cond_arms (x : Die) (e : Nat) (b : Bool) : (x.cond e b).arms = x.arms := by
  unfold Die.cond; dsimp only; split <;> simp

theorem Die.cond_get (x : Die) (e : Nat) (b : Bool) {f : Fld} (h : f.showsQueue = false) : (x.cond e b).get f = x.get f := by
  unfold Die.cond
  dsimp only
  split
  · rw [Die.fire_get _ _ h]; rfl
  · rfl

theorem Die.cond_on (x : Die) (e : Nat) (b : Bool) {f : Fld} (h : f.showsQueue = false) : (x.cond e b).on f = x.on f := by
  simp [Die.on, Die.cond_get x e b h]

/-- A condition's state is what it was set to. -/
theorem Die.cond_raw (x : Die) {e : Nat} (b : Bool) (h : e < 640) : (x.cond e b).evRaw.getLsbD e = b := by
  unfold Die.cond
  dsimp only
  cases b
  · simp [h]
  · split <;> simp [h]

/-- A condition's state changes alone. -/
theorem Die.cond_raw_ne (x : Die) {e i : Nat} (b : Bool) (h : i ≠ e) : (x.cond e b).evRaw.getLsbD i = x.evRaw.getLsbD i := by
  have h1 : e ≠ i := fun k => h k.symm
  have hb : ∀ v : BitVec 640, (v &&& ~~~ BitVec.twoPow 640 e).getLsbD i = v.getLsbD i := by
    intro v
    by_cases hi : i < 640
    · simp [hi, h]
    · simp [BitVec.getLsbD_of_ge v i (by omega)]
  unfold Die.cond
  dsimp only
  cases b
  · simp [hb]
  · split <;> simp [h1]

/-- A condition that becomes true fires. -/
theorem Die.cond_pending (x : Die) {e : Nat} (h : e < 640) (hr : x.evRaw.getLsbD e = false) :
    (x.cond e true).evPend.getLsbD e = true := by
  unfold Die.cond
  simp [hr, Die.fire_pending _ h]

@[simp] theorem Die.accErr_stage (x : Die) (p : Nat) : (x.accErr p).stage = x.stage := by simp [Die.accErr]
@[simp] theorem Die.accErr_evRaw (x : Die) (p : Nat) : (x.accErr p).evRaw = x.evRaw := by simp [Die.accErr]
@[simp] theorem Die.accErr_evEn (x : Die) (p : Nat) : (x.accErr p).evEn = x.evEn := by simp [Die.accErr]
@[simp] theorem Die.accErr_msixMask (x : Die) (p : Nat) : (x.accErr p).msixMask = x.msixMask := by simp [Die.accErr]
@[simp] theorem Die.accErr_held (x : Die) (p : Nat) : (x.accErr p).held = x.held := by simp [Die.accErr]
@[simp] theorem Die.accErr_mbx (x : Die) (p : Nat) : (x.accErr p).mbx = x.mbx := by simp [Die.accErr]
@[simp] theorem Die.accErr_free (x : Die) (p : Nat) : (x.accErr p).free = x.free := by simp [Die.accErr]
@[simp] theorem Die.accErr_wr (x : Die) (p : Nat) : (x.accErr p).wr = x.wr := by simp [Die.accErr]
@[simp] theorem Die.accErr_rake (x : Die) (p : Nat) : (x.accErr p).rake = x.rake := by simp [Die.accErr]
@[simp] theorem Die.accErr_afe (x : Die) (p : Nat) : (x.accErr p).afe = x.afe := by simp [Die.accErr]
@[simp] theorem Die.accErr_frame (x : Die) (p : Nat) : (x.accErr p).frame = x.frame := by simp [Die.accErr]
@[simp] theorem Die.accErr_gapDue (x : Die) (p : Nat) : (x.accErr p).gapDue = x.gapDue := by simp [Die.accErr]
@[simp] theorem Die.accErr_trm (x : Die) (p : Nat) : (x.accErr p).trm = x.trm := by simp [Die.accErr]
@[simp] theorem Die.accErr_clu (x : Die) (p : Nat) : (x.accErr p).clu = x.clu := by simp [Die.accErr]
@[simp] theorem Die.accErr_acb (x : Die) (p : Nat) : (x.accErr p).acb = x.acb := by simp [Die.accErr]
@[simp] theorem Die.accErr_sieve (x : Die) (p : Nat) : (x.accErr p).sieve = x.sieve := by simp [Die.accErr]
@[simp] theorem Die.accErr_cmm (x : Die) (p : Nat) : (x.accErr p).cmm = x.cmm := by simp [Die.accErr]
@[simp] theorem Die.accErr_rad (x : Die) (p : Nat) : (x.accErr p).rad = x.rad := by simp [Die.accErr]
@[simp] theorem Die.accErr_wdr (x : Die) (p : Nat) : (x.accErr p).wdr = x.wdr := by simp [Die.accErr]
@[simp] theorem Die.accErr_prevFrame (x : Die) (p : Nat) : (x.accErr p).prevFrame = x.prevFrame := by simp [Die.accErr]
@[simp] theorem Die.accErr_clo (x : Die) (p : Nat) : (x.accErr p).clo = x.clo := by simp [Die.accErr]
@[simp] theorem Die.accErr_cal (x : Die) (p : Nat) : (x.accErr p).cal = x.cal := by simp [Die.accErr]
@[simp] theorem Die.accErr_planeHash (x : Die) (p : Nat) : (x.accErr p).planeHash = x.planeHash := by simp [Die.accErr]
@[simp] theorem Die.accErr_dma (x : Die) (p : Nat) : (x.accErr p).dma = x.dma := by simp [Die.accErr]
@[simp] theorem Die.accErr_clock (x : Die) (p : Nat) : (x.accErr p).clock = x.clock := by simp [Die.accErr]
@[simp] theorem Die.accErr_ipp (x : Die) (p : Nat) : (x.accErr p).ipp = x.ipp := by simp [Die.accErr]
@[simp] theorem Die.accErr_evd (x : Die) (p : Nat) : (x.accErr p).evd = x.evd := by simp [Die.accErr]
@[simp] theorem Die.accErr_fcv (x : Die) (p : Nat) : (x.accErr p).fcv = x.fcv := by simp [Die.accErr]
@[simp] theorem Die.accErr_lpc (x : Die) (p : Nat) : (x.accErr p).lpc = x.lpc := by simp [Die.accErr]
@[simp] theorem Die.accErr_pwm (x : Die) (p : Nat) : (x.accErr p).pwm = x.pwm := by simp [Die.accErr]
@[simp] theorem Die.accErr_led (x : Die) (p : Nat) : (x.accErr p).led = x.led := by simp [Die.accErr]
@[simp] theorem Die.accErr_thm (x : Die) (p : Nat) : (x.accErr p).thm = x.thm := by simp [Die.accErr]
@[simp] theorem Die.accErr_fuses (x : Die) (p : Nat) : (x.accErr p).fuses = x.fuses := by simp [Die.accErr]
@[simp] theorem Die.accErr_dramCut (x : Die) (p : Nat) : (x.accErr p).dramCut = x.dramCut := by simp [Die.accErr]
@[simp] theorem Die.accErr_boot (x : Die) (p : Nat) : (x.accErr p).boot = x.boot := by simp [Die.accErr]
@[simp] theorem Die.accErr_nvs (x : Die) (p : Nat) : (x.accErr p).nvs = x.nvs := by simp [Die.accErr]
@[simp] theorem Die.accErr_vote (x : Die) (p : Nat) : (x.accErr p).vote = x.vote := by simp [Die.accErr]
@[simp] theorem Die.accErr_trl (x : Die) (p : Nat) : (x.accErr p).trl = x.trl := by simp [Die.accErr]
@[simp] theorem Die.accErr_prl (x : Die) (p : Nat) : (x.accErr p).prl = x.prl := by simp [Die.accErr]
@[simp] theorem Die.accErr_images (x : Die) (p : Nat) : (x.accErr p).images = x.images := by simp [Die.accErr]
@[simp] theorem Die.accErr_spi (x : Die) (p : Nat) : (x.accErr p).spi = x.spi := by simp [Die.accErr]
@[simp] theorem Die.accErr_spr (x : Die) (p : Nat) : (x.accErr p).spr = x.spr := by simp [Die.accErr]
@[simp] theorem Die.accErr_arms (x : Die) (p : Nat) : (x.accErr p).arms = x.arms := by simp [Die.accErr]

theorem Die.accErr_get (x : Die) (p : Nat) {f : Fld} (h : f.showsQueue = false) : (x.accErr p).get f = x.get f :=
  Die.fire_get x _ h

theorem Die.accErr_on (x : Die) (p : Nat) {f : Fld} (h : f.showsQueue = false) : (x.accErr p).on f = x.on f := Die.fire_on x _ h

/-- A rejected access leaves the page's ACC_ERR pending. -/
theorem Die.accErr_pending (x : Die) {p : Nat} (h : accErrOf p < 640) : (x.accErr p).evPend.getLsbD (accErrOf p) = true :=
  Die.fire_pending x h

end Sys2Proof.Machine
end

