-- ==== Sys2Proof/Laws/Lists.lean ====
section
/-!
SUPPORT. Reading a list after an element has been set (Word.lean).
-/

namespace Sys2Proof

@[simp] theorem getD_fillSet_self {α : Type} (d : α) (l : List α) (i : Nat) (v : α) : (fillSet d l i v).getD i d = v := by
  induction i generalizing l with
  | zero => cases l <;> rfl
  | succ i ih => cases l <;> simpa [fillSet] using ih _

theorem getD_fillSet_ne {α : Type} (d : α) (l : List α) {i j : Nat} (v : α) (h : j ≠ i) :
    (fillSet d l i v).getD j d = l.getD j d := by
  induction i generalizing l j with
  | zero =>
    obtain ⟨k, rfl⟩ := Nat.exists_eq_succ_of_ne_zero h
    cases l <;> simp [fillSet]
  | succ i ih =>
    cases j with
    | zero => cases l <;> simp [fillSet]
    | succ j =>
      have hj : j ≠ i := fun e => h (by rw [e])
      cases l with
      | nil => simpa [fillSet] using ih [] hj
      | cons a r => simpa [fillSet] using ih r hj

end Sys2Proof
end

