-- ==== Sys2Proof/Laws/Memory.lean ====
section
/-!
SUPPORT. The DRAM: reading after writing, and that every memory operation keeps the canonical form.
-/

namespace Sys2Proof.Machine

/-! ### Reading after writing -/

/-- In a memory whose addresses all lie above `k`, `k` is not listed. -/
theorem Memory.read_of_lt (m : Memory) {lo k : Nat} (h : m.wfFrom lo = true) (hk : k < lo) : m.read k = 0 := by
  induction m generalizing lo with
  | nil => rfl
  | cons e r ih =>
    obtain ⟨a, b⟩ := e
    simp only [Memory.wfFrom, Bool.and_eq_true, decide_eq_true_eq] at h
    have ha : a ≠ k := by omega
    simp only [Memory.read, if_neg ha]
    exact ih h.2 (by omega)

theorem Memory.read_write_self (m : Memory) {lo k : Nat} (v : Byte) (h : m.wfFrom lo = true) : (m.write k v).read k = v := by
  induction m generalizing lo with
  | nil =>
    simp only [Memory.write]
    split
    · rename_i hv; simp [Memory.read, hv]
    · simp [Memory.read]
  | cons e r ih =>
    obtain ⟨a, b⟩ := e
    have h0 := h
    simp only [Memory.wfFrom, Bool.and_eq_true, decide_eq_true_eq] at h
    simp only [Memory.write]
    split
    · rename_i hlt
      by_cases hv : v = 0
      · have ha : a ≠ k := by omega
        simp only [hv, if_pos, Memory.read, if_neg ha]
        exact Memory.read_of_lt r h.2 (by omega)
      · rw [if_neg hv]; simp [Memory.read]
    · split
      · rename_i heq
        by_cases hv : v = 0
        · simp only [hv, if_pos]
          exact Memory.read_of_lt r h.2 (by omega)
        · rw [if_neg hv]; simp [Memory.read]
      · rename_i hne
        have ha : a ≠ k := fun e => hne e.symm
        simp only [Memory.read, if_neg ha]
        exact ih h.2

theorem Memory.read_write_ne (m : Memory) {k j : Nat} (v : Byte) (h : j ≠ k) : (m.write k v).read j = m.read j := by
  have hk : k ≠ j := fun e => h e.symm
  induction m with
  | nil =>
    simp only [Memory.write]
    split <;> simp [Memory.read, hk]
  | cons e r ih =>
    obtain ⟨a, b⟩ := e
    simp only [Memory.write]
    split
    · split <;> simp [Memory.read, hk]
    · split
      · rename_i heq
        subst heq
        split <;> simp [Memory.read, hk]
      · simp only [Memory.read, ih]

/-! ### The canonical form -/

theorem Memory.wfFrom_mono (m : Memory) {lo lo' : Nat} (h : m.wfFrom lo' = true) (hl : lo ≤ lo') : m.wfFrom lo = true := by
  cases m with
  | nil => rfl
  | cons e r =>
    obtain ⟨a, b⟩ := e
    simp only [Memory.wfFrom, Bool.and_eq_true, decide_eq_true_eq] at h ⊢
    exact ⟨⟨by omega, h.1.2⟩, h.2⟩

theorem Memory.wfFrom_write (m : Memory) {lo k : Nat} (v : Byte) (h : m.wfFrom lo = true) (hk : lo ≤ k) :
    (m.write k v).wfFrom lo = true := by
  induction m generalizing lo with
  | nil =>
    simp only [Memory.write]
    split
    · rfl
    · rename_i hv
      simp only [Memory.wfFrom, Bool.and_true, Bool.and_eq_true, decide_eq_true_eq]
      exact ⟨hk, hv⟩
  | cons e r ih =>
    obtain ⟨a, b⟩ := e
    have h0 := h
    simp only [Memory.wfFrom, Bool.and_eq_true, decide_eq_true_eq] at h
    obtain ⟨⟨ha, hb⟩, hr⟩ := h
    simp only [Memory.write]
    split
    · rename_i hlt
      by_cases hv : v = 0
      · simpa only [hv, if_pos] using h0
      · simp only [if_neg hv, Memory.wfFrom, Bool.and_eq_true, decide_eq_true_eq]
        exact ⟨⟨hk, hv⟩, ⟨⟨by omega, hb⟩, hr⟩⟩
    · split
      · rename_i heq
        subst heq
        by_cases hv : v = 0
        · simp only [hv, if_pos]
          exact Memory.wfFrom_mono r hr (by omega)
        · simp only [if_neg hv, Memory.wfFrom, Bool.and_eq_true, decide_eq_true_eq]
          exact ⟨⟨ha, hv⟩, hr⟩
      · simp only [Memory.wfFrom, Bool.and_eq_true, decide_eq_true_eq]
        exact ⟨⟨ha, hb⟩, ih hr (by omega)⟩

theorem Memory.wf_write (m : Memory) (k : Nat) (v : Byte) (h : m.wf = true) : (m.write k v).wf = true :=
  Memory.wfFrom_write m v h (Nat.zero_le k)

theorem Memory.below_write (m : Memory) {k hi : Nat} (v : Byte) (h : m.below hi = true) (hk : k < hi) :
    (m.write k v).below hi = true := by
  induction m with
  | nil =>
    simp only [Memory.write]
    split <;> simp [Memory.below, hk]
  | cons e r ih =>
    obtain ⟨a, b⟩ := e
    simp only [Memory.below, List.all_cons, Bool.and_eq_true, decide_eq_true_eq] at h ih ⊢
    simp only [Memory.write]
    split
    · split <;> simp [hk, h.1, h.2]
    · split
      · split <;> simp [hk, h.2]
      · simp only [List.all_cons, Bool.and_eq_true, decide_eq_true_eq]
        exact ⟨h.1, ih h.2⟩

theorem Memory.good_writeBytes (m : Memory) (a : Nat) (bs : List Byte) (h : m.good = true) : (m.writeBytes a bs).good = true := by
  induction bs generalizing m a with
  | nil => exact h
  | cons b r ih =>
    simp only [Memory.writeBytes]
    apply ih
    split
    · rename_i ha
      simp only [Memory.good, Bool.and_eq_true] at h ⊢
      exact ⟨Memory.wf_write m a b h.1, Memory.below_write m b h.2 ha⟩
    · exact h

theorem Memory.good_writeAll (m : Memory) (l : List (Nat × List Byte)) (h : m.good = true) : (m.writeAll l).good = true := by
  unfold Memory.writeAll
  induction l generalizing m with
  | nil => exact h
  | cons e r ih => exact ih _ (Memory.good_writeBytes m e.1 e.2 h)

theorem Memory.good_nil : Memory.good [] = true := rfl

/-- Writing a run of bytes leaves every byte outside the run as it was. -/
theorem Memory.read_writeBytes_out (m : Memory) (a : Nat) (bs : List Byte) {k : Nat} (h : k < a ∨ a + bs.length ≤ k) :
    (m.writeBytes a bs).read k = m.read k := by
  induction bs generalizing m a with
  | nil => rfl
  | cons b r ih =>
    simp only [List.length_cons] at h
    simp only [Memory.writeBytes]
    rw [ih _ (a + 1) (by omega)]
    split
    · exact Memory.read_write_ne m b (by omega)
    · rfl

end Sys2Proof.Machine
end

