-- ==== Sys2Proof/Laws/Run.lean ====
section
/-!
SUPPORT. Carrying a command out on a die, on both or on the package: what the package is afterwards.
-/

namespace Sys2Proof.Machine

/-! ### One die -/

@[simp] theorem State.settle_die (s : State) (d : DieId) (x : Die) :
    (s.settle d x).die d = x.settled := by simp [State.settle]

@[simp] theorem State.settle_other (s : State) (d : DieId) (x : Die) : (s.settle d x).die d.other = s.die d.other := by
  simp [State.settle]

@[simp] theorem State.settle_mem (s : State) (d : DieId) (x : Die) :
    (s.settle d x).mem d = Memory.writeAll (if x.dramCut then [] else s.mem d) x.wr := by simp [State.settle]

@[simp] theorem State.settle_mem_other (s : State) (d : DieId) (x : Die) : (s.settle d x).mem d.other = s.mem d.other := by
  simp [State.settle]

@[simp] theorem State.settle_pending (s : State) (d : DieId) (x : Die) : (s.settle d x).pending = s.pending := by simp [State.settle]
@[simp] theorem State.settle_dual (s : State) (d : DieId) (x : Die) : (s.settle d x).dual = s.dual := by simp [State.settle]
@[simp] theorem State.settle_now (s : State) (d : DieId) (x : Die) : (s.settle d x).now = s.now := by simp [State.settle]
@[simp] theorem State.settle_resetN (s : State) (d : DieId) (x : Die) : (s.settle d x).resetN = s.resetN := by simp [State.settle]
@[simp] theorem State.settle_resetNAt (s : State) (d : DieId) (x : Die) : (s.settle d x).resetNAt = s.resetNAt := by
  simp [State.settle]
@[simp] theorem State.settle_unmasking (s : State) (d : DieId) (x : Die) : (s.settle d x).unmasking = s.unmasking := by
  simp [State.settle]
@[simp] theorem State.settle_has (s : State) (d e : DieId) (x : Die) : (s.settle d x).has e = s.has e := by simp [State.settle]

@[simp] theorem State.runAlways_eq (s : State) (d : DieId) (f : Env → Die → Die) :
    s.runAlways d f = (s.mark d).settle d (f (s.env d) (s.fresh d)) := rfl

@[simp] theorem State.runOn_eq (s : State) (d : DieId) (f : Env → Die → Die) :
    s.runOn d f = (s.mark d).settle d (if (s.fresh d).inReset then s.fresh d else f (s.env d) (s.fresh d)) := rfl


/-! ### The outcomes -/

theorem onDie_next {s : State} {d : DieId} (h : s.has d = true) (f : Env → Die → Die) : onDie d s f = .next (s.runOn d f) := by
  simp [onDie, h]

theorem onDieAlways_next {s : State} {d : DieId} (h : s.has d = true) (f : Env → Die → Die) :
    onDieAlways d s f = .next (s.runAlways d f) := by
  simp [onDieAlways, h]

/-- A command on one die answers a next state only where the package has that die, and that state is the die's change. -/
theorem onDie_cases {s t : State} {d : DieId} {f : Env → Die → Die} (h : onDie d s f = .next t) :
    s.has d = true ∧ t = s.runOn d f := by
  unfold onDie at h
  split at h
  · rename_i hd
    cases h
    exact ⟨hd, rfl⟩
  · cases h

theorem onDieAlways_cases {s t : State} {d : DieId} {f : Env → Die → Die} (h : onDieAlways d s f = .next t) :
    s.has d = true ∧ t = s.runAlways d f := by
  unfold onDieAlways at h
  split at h
  · rename_i hd
    cases h
    exact ⟨hd, rfl⟩
  · cases h

/-- A change that leaves a die as it was does not touch the package. -/
theorem State.reach_same {s : State} {d : DieId} {f : Env → Die → Die}
    (h : whileRunning f (s.env d) (s.fresh d) = s.fresh d) : s.reach d f = s := by simp only [State.reach, h, if_true]

/-- A command on a die and then the other, whose second part changes nothing, is a command on the one die. -/
theorem onBoth_alone {d : DieId} {s : State} {f g : Env → Die → Die}
    (h : whileRunning g ((s.runOn d f).env d.other) ((s.runOn d f).fresh d.other) = (s.runOn d f).fresh d.other) :
    onBoth d s f g = onDie d s f := by
  unfold onBoth onDie
  rw [State.reach_same h, ite_self]

/-- A command on a running die that leaves no DRAM write: what it does to the die is its whole effect. -/
theorem effect_of {c : Instr} {d : DieId} {s : State} {f : Env → Die → Die} {P : Die → Prop} (hc : exec c s = onDie d s f)
    (hr : s.running d) (hw : (f (s.env d) (s.fresh d)).wr = []) (hd : (f (s.env d) (s.fresh d)).dramCut = false)
    (h : P (f (s.env d) (s.fresh d)).settled) : Effect c d s P := by
  refine ⟨_, hc.trans (onDie_next hr.1 f), ?_, ?_⟩ <;>
    simp [hr.2, State.settle, hw, hd, Memory.writeAll, h]

theorem effectAlways_of {c : Instr} {d : DieId} {s : State} {f : Env → Die → Die} {P : Die → Prop}
    (hc : exec c s = onDieAlways d s f) (hr : s.has d = true) (hw : (f (s.env d) (s.fresh d)).wr = [])
    (hd : (f (s.env d) (s.fresh d)).dramCut = false) (h : P (f (s.env d) (s.fresh d)).settled) : Effect c d s P := by
  refine ⟨_, hc.trans (onDieAlways_next hr f), ?_, ?_⟩ <;>
    simp [State.settle, hw, hd, Memory.writeAll, h]

/-- A command on a running die, with the DRAM it leaves. -/
theorem effectMem_of {c : Instr} {d : DieId} {s : State} {f : Env → Die → Die} {P : Die → Memory → Prop}
    (hc : exec c s = onDie d s f) (hr : s.running d)
    (h : P (f (s.env d) (s.fresh d)).settled
      (Memory.writeAll (if (f (s.env d) (s.fresh d)).dramCut then [] else s.mem d) (f (s.env d) (s.fresh d)).wr)) :
    EffectMem c d s P := by
  refine ⟨_, hc.trans (onDie_next hr.1 f), ?_, ?_⟩ <;>
    simp [hr.2, State.settle, h]

theorem effectMemAlways_of {c : Instr} {d : DieId} {s : State} {f : Env → Die → Die} {P : Die → Memory → Prop}
    (hc : exec c s = onDieAlways d s f) (hr : s.has d = true)
    (h : P (f (s.env d) (s.fresh d)).settled
      (Memory.writeAll (if (f (s.env d) (s.fresh d)).dramCut then [] else s.mem d) (f (s.env d) (s.fresh d)).wr)) :
    EffectMem c d s P := by
  refine ⟨_, hc.trans (onDieAlways_next hr f), ?_, ?_⟩ <;>
    simp [State.settle, h]

/-- Register accesses that reach no register acting on the other die. -/
theorem effectBus_of {c : Instr} {d : DieId} {s : State} {f : Env → Die → Die × List (Nat × Nat)} {P : Die → Prop}
    (hc : exec c s = onBus d s f) (hr : s.running d) (hf : (f (s.env d) (s.fresh d)).2.filter (fun e => peerActs e.1) = [])
    (hw : (f (s.env d) (s.fresh d)).1.wr = []) (hd : (f (s.env d) (s.fresh d)).1.dramCut = false)
    (h : P (f (s.env d) (s.fresh d)).1.settled) : Effect c d s P := by
  refine ⟨(s.mark d).settle d (f (s.env d) (s.fresh d)).1, ?_, ?_, ?_⟩
  · rw [hc]; simp [onBus, hr.1, hr.2, State.afterBus, State.alsoOn, hf]
  · simp [State.settle, hw, hd, Memory.writeAll]
  · simpa using h

end Sys2Proof.Machine
end

