-- ==== Sys2Proof/Laws/Only.lean ====
section
/-!
SUPPORT. What only some fields and events of a die differ in (`Die.only`): how the operations add to it.
-/

namespace Sys2Proof.Machine

theorem Die.only_refl (x : Die) (L : List Fld) (E : List Nat) : x.only L E x :=
  ⟨rfl, fun _ _ _ => rfl, fun _ _ _ => rfl, fun _ _ => rfl⟩

theorem Die.only_fresh (s : State) (d : DieId) (L : List Fld) (E : List Nat) : (s.die d).only L E (s.fresh d) :=
  ⟨rfl, fun _ _ _ => rfl, fun _ _ _ => rfl, fun _ _ => rfl⟩

theorem Die.only_trans {x y z : Die} {L : List Fld} {E : List Nat} (h : x.only L E y) (k : y.only L E z) : x.only L E z :=
  ⟨k.1.trans h.1, fun f a b => (k.2.1 f a b).trans (h.2.1 f a b), fun e a b => (k.2.2.1 e a b).trans (h.2.2.1 e a b),
    fun e a => (k.2.2.2 e a).trans (h.2.2.2 e a)⟩

theorem Die.only_mono {x y : Die} {L M : List Fld} {E D : List Nat} (h : x.only L E y) (hl : ∀ f ∈ L, f ∈ M)
    (he : ∀ e ∈ E, e ∈ D) : x.only M D y :=
  ⟨h.1, fun f a b => h.2.1 f a (fun g m => b g (hl g m)), fun e a b => h.2.2.1 e a (fun m => b (he e m)),
    fun e a => h.2.2.2 e (fun m => a (he e m))⟩

theorem Die.only_set {x y : Die} {L : List Fld} {E : List Nat} (h : x.only L E y) {f : Fld} (hf : f ∈ L) (v : Nat) :
    x.only L E (y.set f v) := by
  refine ⟨h.1, fun g a b => ?_, h.2.2.1, h.2.2.2⟩
  rw [← h.2.1 g a b]
  exact RegFile.look_put_ne _ _ (b f hf)

theorem Die.only_setB {x y : Die} {L : List Fld} {E : List Nat} (h : x.only L E y) {f : Fld} (hf : f ∈ L) (v : Bool) :
    x.only L E (y.setB f v) := Die.only_set h hf _

theorem Die.only_setS {x y : Die} {L : List Fld} {E : List Nat} (h : x.only L E y) {f : Fld} (hf : f ∈ L) (v : Int) :
    x.only L E (y.setS f v) := Die.only_set h hf _

theorem Die.only_setBit {x y : Die} {L : List Fld} {E : List Nat} (h : x.only L E y) {f : Fld} (hf : f ∈ L) (i : Nat)
    (b : Bool) : x.only L E (y.setBit f i b) := Die.only_set h hf _

theorem Die.only_count {x y : Die} {L : List Fld} {E : List Nat} (h : x.only L E y) {f : Fld} (hf : f ∈ L) (n : Nat) :
    x.only L E (y.count f n) := Die.only_set h hf _

theorem Die.only_incr {x y : Die} {L : List Fld} {E : List Nat} (h : x.only L E y) {f : Fld} (hf : f ∈ L) :
    x.only L E (y.incr f) := Die.only_set h hf _

theorem Die.only_peak {x y : Die} {L : List Fld} {E : List Nat} (h : x.only L E y) {f : Fld} (hf : f ∈ L) (v : Nat) :
    x.only L E (y.peak f v) := by
  unfold Die.peak; split
  · exact Die.only_set h hf _
  · exact h

theorem Die.only_raise {x y : Die} {L : List Fld} {E : List Nat} (h : x.only L E y) {f : Fld} (hf : f ∈ L) (v : Nat) :
    x.only L E (y.raise f v) :=
  have k := Die.only_set h hf (y.get f ||| v)
  ⟨k.1, k.2.1, k.2.2.1, k.2.2.2⟩

theorem Die.only_set64 {x y : Die} {L : List Fld} {E : List Nat} (h : x.only L E y) {f g : Fld} (hf : f ∈ L) (hg : g ∈ L)
    (v : Nat) : x.only L E (y.set64 f g v) := Die.only_set (Die.only_set h hf _) hg _

theorem Die.only_send {x y : Die} {L : List Fld} {E : List Nat} (h : x.only L E y) (m : OutMsg) : x.only L E (y.send m) :=
  ⟨h.1, h.2.1, h.2.2.1, h.2.2.2⟩

theorem Die.only_settled {x y : Die} {L : List Fld} {E : List Nat} (h : x.only L E y) : x.only L E y.settled :=
  ⟨h.1, h.2.1, h.2.2.1, h.2.2.2⟩

theorem Die.only_dramWrite {x y : Die} {L : List Fld} {E : List Nat} (h : x.only L E y) (a : Nat) (l : List Byte) :
    x.only L E (y.dramWrite a l) :=
  ⟨h.1, h.2.1, h.2.2.1, h.2.2.2⟩

@[simp] theorem Die.set_hidden (x : Die) (f : Fld) (v : Nat) : (x.set f v).hidden = x.hidden := rfl

@[simp] theorem Die.raise_hidden (x : Die) (f : Fld) (v : Nat) : (x.raise f v).hidden = x.hidden := rfl

@[simp] theorem Die.vecMessage_hidden (x : Die) (v : Nat) : (x.vecMessage v).hidden = x.hidden := by
  unfold Die.vecMessage; repeat' (first | rfl | split)

@[simp] theorem Die.pend_hidden (x : Die) (e : Nat) : (x.pend e).hidden = x.hidden := by
  unfold Die.pend; rw [Die.notify_keeps Die.hidden (by simp)]; rfl

@[simp] theorem Die.fire_hidden (x : Die) (e : Nat) : (x.fire e).hidden = x.hidden :=
  Die.fire_keeps Die.hidden (by simp) (by simp) (by simp) (fun _ _ => rfl) x e

theorem Die.fire_look (x : Die) (e : Nat) {f : Fld} (h : f.showsQueue = false) : (x.fire e).live.look f = x.live.look f := by
  simp only [Fld.showsQueue, Bool.or_eq_false_iff, decide_eq_false_iff_not] at h
  obtain ⟨⟨⟨h1, h2⟩, h3⟩, h4⟩ := h
  have hset : ∀ (z : Die) (g : Fld) (v : Nat), g.key ≠ f.key → (z.set g v).live.look f = z.live.look f :=
    fun z g v hne => RegFile.look_put_ne _ _ hne
  have hw : ∀ z : Die, z.showQueue.live.look f = z.live.look f := by
    intro z
    unfold Die.showQueue Die.peak
    split
    · rw [hset _ _ _ (fun e => h2 e.symm), hset _ _ _ (fun e => h1 e.symm)]
    · rw [hset _ _ _ (fun e => h1 e.symm)]
  unfold Die.fire
  dsimp only
  split
  · rw [Die.pend_live]
    show RegFile.look (Die.live (Die.raise _ _ _)) f = _
    rw [Die.raise_live]
    rw [hset _ _ _ (fun e => h4 e.symm)]
    split
    · rw [Die.count, hset _ _ _ (fun e => h3 e.symm), hw]; simp
    · rw [hw]; simp
  · rw [hw]; simp

theorem Die.only_fire {x y : Die} {L : List Fld} {E : List Nat} (h : x.only L E y) {e : Nat} (he : e ∈ E) :
    x.only L E (y.fire e) := by
  refine ⟨by rw [Die.fire_hidden]; exact h.1, fun f a b => by rw [Die.fire_look y e a]; exact h.2.1 f a b,
    fun i a b => ?_, fun i a => by rw [Die.fire_evRaw]; exact h.2.2.2 i a⟩
  have hi : i ≠ e := fun k => b (k ▸ he)
  rw [Die.fire_other y hi a]
  exact h.2.2.1 i a b

theorem Die.only_pend {x y : Die} {L : List Fld} {E : List Nat} (h : x.only L E y) {e : Nat} (he : e ∈ E) :
    x.only L E (y.pend e) := by
  refine ⟨by rw [Die.pend_hidden]; exact h.1, fun f a b => by rw [Die.pend_live]; exact h.2.1 f a b,
    fun i a b => ?_, fun i a => by rw [Die.pend_evRaw]; exact h.2.2.2 i a⟩
  have hi : e ≠ i := fun k => b (k ▸ he)
  rw [← h.2.2.1 i a b]
  simp [Die.pend, hi]

theorem Die.only_cond {x y : Die} {L : List Fld} {E : List Nat} (h : x.only L E y) {e : Nat} (he : e ∈ E) (b : Bool) :
    x.only L E (y.cond e b) := by
  have hr : x.only L E { y with evRaw := if b then y.evRaw ||| BitVec.twoPow 640 e
                                          else y.evRaw &&& ~~~ BitVec.twoPow 640 e } := by
    refine ⟨h.1, h.2.1, h.2.2.1, fun i a => ?_⟩
    have hi : i ≠ e := fun k => a (k ▸ he)
    rw [← h.2.2.2 i a]
    have h1 : e ≠ i := fun k => hi k.symm
    cases b
    · have hm : (y.evRaw &&& ~~~ BitVec.twoPow 640 e).getLsbD i = y.evRaw.getLsbD i := by
        by_cases h6 : i < 640
        · simp [h6, hi]
        · simp [BitVec.getLsbD_of_ge y.evRaw i (by omega)]
      exact hm
    · simp [h1]
  unfold Die.cond
  dsimp only
  split
  · exact Die.only_fire hr he
  · exact hr

theorem Die.only_accErr {x y : Die} {L : List Fld} {E : List Nat} (h : x.only L E y) {p : Nat} (he : accErrOf p ∈ E) :
    x.only L E (y.accErr p) := Die.only_fire h he

theorem Die.only_fold {α : Type} {x y : Die} {L : List Fld} {E : List Nat} (h : x.only L E y) (f : Die → α → Die) (l : List α)
    (hf : ∀ (z : Die) (a : α), a ∈ l → x.only L E z → x.only L E (f z a)) : x.only L E (l.foldl f y) := by
  induction l generalizing y with
  | nil => exact h
  | cons a r ih => exact ih (hf y a (by simp) h) (fun z b hb => hf z b (by simp [hb]))

/-- The value of a field outside the changed ones is kept. -/
theorem Die.only_get {x y : Die} {L : List Fld} {E : List Nat} (h : x.only L E y) {f : Fld} (hq : f.showsQueue = false)
    (hf : ∀ g ∈ L, g.key ≠ f.key) (hs : ∀ g ∈ L, g.steers = false) : y.get f = x.get f := by
  have hd : y.live.look F.SYS_IDENT_DIE = x.live.look F.SYS_IDENT_DIE := by
    refine h.2.1 _ (by decide) (fun g m k => ?_)
    have := hs g m
    simp [Fld.steers, k] at this
  have he : y.live.look F.SEQ_LIMITS_EXPORT = x.live.look F.SEQ_LIMITS_EXPORT := by
    refine h.2.1 _ (by decide) (fun g m k => ?_)
    have := hs g m
    simp [Fld.steers, k] at this
  simp only [Die.get, Die.resetOf, hd, he, h.2.1 f hq hf]

@[simp] theorem Die.settled_hidden (x : Die) : x.settled.hidden = x.hidden := rfl

@[simp] theorem State.fresh_hidden (s : State) (d : DieId) : (s.fresh d).hidden = (s.die d).hidden := rfl

end Sys2Proof.Machine
end

