-- ==== Sys2Proof/WellFormed.lean ====
section
/-!
DEFINITION. Which commands are well formed: every number that a command carries fits the field, the wires or the packet
field that carries it (Tables 1.10, 1.11, 13.6 and 13.7, the register tables). The meanings do not rely on it.
-/

namespace Sys2Proof

/-- A number that `w` bits hold. -/
def fits (w n : Nat) : Bool := n < 2 ^ w

/-- A packet's addresses and tag fit their bytes (Table 13.6): DST 1 to 63, SRC below 63. -/
def Packet.wf (p : Packet) : Bool := 1 ≤ p.dst && p.dst ≤ 63 && p.src ≤ 62 && fits 8 p.tag

/-- A measurement of the outputs that AFE_IMON could show. -/
def AfeSample.wf (m : AfeSample) : Bool := fits 12 m.vsd && fits 12 m.vsa && fits 12 m.vrefc && fits 12 m.vblind && fits 12 m.vdet

/-- The command's numbers fit. -/
def Instr.wf (i : Instr) : Bool :=
  match i with
  | .registerWrite _ _ addr val size => fits 25 addr && fits 64 val && fits 4 size
  | .readLo _ q addr => fits 25 addr && fits 4 q.size
  | .readHi _ q addr => fits 25 addr && fits 4 q.size
  | .evtPendClear _ page val => fits 8 page && fits 32 val.bits
  | .evtSet _ page val => fits 8 page && fits 32 val
  | .commitArm _ page boundary => fits 8 page && fits 2 boundary
  | .commitCancel _ page boundary _ => fits 8 page && fits 2 boundary
  | .commitApply _ page => fits 8 page
  | .blockResetReq _ page => fits 8 page
  | .blockReset _ page => fits 8 page
  | .brstTimeout _ page => fits 8 page
  | .mbxCompletion _ _ => true
  | .mbxTimeout _ _ => true
  | .baseReady _ tag arg => fits 8 tag && fits 32 arg
  | .paramSave _ tag arg => fits 8 tag && fits 32 arg
  | .paramDiscard _ tag arg => fits 8 tag && fits 32 arg
  | .pwdRecover _ tag arg => fits 8 tag && fits 32 arg
  | .recoveryWrite _ tag arg _ => fits 8 tag && fits 32 arg
  | .calEvent _ tag arg => fits 8 tag && fits 32 arg
  | .calAbort _ tag arg => fits 8 tag && fits 32 arg
  | .calSave _ tag arg => fits 8 tag && fits 32 arg
  | .calLoad _ tag arg => fits 8 tag && fits 32 arg
  | .calHash _ tag arg => fits 8 tag && fits 32 arg
  | .evdSeal _ tag arg => fits 8 tag && fits 32 arg
  | .evdAttest _ tag arg => fits 8 tag && fits 32 arg
  | .evdClose _ tag arg => fits 8 tag && fits 32 arg
  | .evdFinal _ tag arg => fits 8 tag && fits 32 arg
  | .evdLog _ tag arg => fits 8 tag && fits 32 arg
  | .watchdogExpiry _ _ => true
  | .coreMemUncorr _ _ => true
  | .spareCoreTakeover _ => true
  | .afeOutputEnable _ _ => true
  | .afeOutputDisable _ _ => true
  | .rampDone _ _ => true
  | .outputGood _ _ => true
  | .currentSample _ m => m.wf
  | .offDone _ => true
  | .tripCauseClear _ val => fits 32 val.bits
  | .fpdReading _ _ _ => true
  | .seqopNext _ _ => true
  | .seqopJump _ _ => true
  | .seqopLoop0 _ _ => true
  | .seqopLoop1 _ _ => true
  | .seqopWaitFrame _ _ => true
  | .seqopStop _ => true
  | .rowopNext _ => true
  | .rowopFirst _ => true
  | .loadC0 _ => true
  | .loadC1 _ => true
  | .scanRun _ => true
  | .scanContinue _ => true
  | .scanStop _ => true
  | .frameStart _ _ => true
  | .frameEnd _ => true
  | .rowStart _ _ _ => true
  | .blankRow _ => true
  | .userMarker _ => true
  | .rowStartRelease _ _ _ => true
  | .rakeStall _ => true
  | .frameTick _ _ => true
  | .externalTick _ _ => true
  | .syncLost _ _ => true
  | .rakeCodeWrite _ _ addr val => fits 25 addr && fits 32 val
  | .rakeStart _ _ => true
  | .rakeStop _ => true
  | .windowsClose _ cycles _ => fits 32 cycles
  | .checkRoundEnd _ _ _ => true
  | .chkStale _ => true
  | .coreRemove _ _ ch core => fits 5 ch && fits 1 core
  | .coreReturn _ _ ch core => fits 5 ch && fits 1 core
  | .channelGraft _ _ ch => fits 5 ch
  | .channelRelease _ _ => true
  | .gangArm _ => true
  | .trmRepair _ row word _ => fits 11 row && fits 9 word
  | .trmLoad _ => true
  | .loadDone _ _ => true
  | .switchDone _ => true
  | .acbCaptureArm _ _ row col => fits 11 row && fits 12 col
  | .sieveRowEntry _ _ => true
  | .sieveRowClear _ => true
  | .cmmFetchDone _ row cycles _ => fits 11 row && fits 32 cycles
  | .fillRowRelease _ _ => true
  | .tileMapWrite _ => true
  | .hotspotClear _ => true
  | .bankApplied _ => true
  | .bandJudge _ => true
  | .sliceRemove _ n => fits 3 n
  | .sliceReturn _ n => fits 3 n
  | .planeHashGo _ sel => fits 2 sel
  | .hashDone _ => true
  | .sieveCaptureArm _ row col => fits 11 row && fits 12 col
  | .bgEstimate _ _ _ => true
  | .cloHome _ => true
  | .cloOpen _ => true
  | .cloClose _ => true
  | .cloEnable _ => true
  | .boostEnd _ => true
  | .hallChange _ _ _ => true
  | .brakeEnd _ => true
  | .moveTimeout _ => true
  | .forcedOpen _ => true
  | .hallIdleTimeout _ => true
  | .htrReady _ err => fits 32 err
  | .calTimerDue _ _ => true
  | .deferTimeout _ => true
  | .shutterEventStart _ => true
  | .planeWriterDone _ => true
  | .calRecordWrite _ => true
  | .recSaved _ => true
  | .staggerRequest _ _ _ reason => fits 3 reason
  | .staggerGrant _ _ => true
  | .staggerRelease _ => true
  | .csiFrameStartPacket _ _ vc num _ => fits 5 vc && fits 16 num
  | .csiFrameEndPacket _ _ vc _ => fits 5 vc
  | .csiLongPacket _ _ vc dt _ _ _ => fits 5 vc && fits 6 dt
  | .lineSyncPacket _ _ vc _ => fits 5 vc
  | .genericShortPacket _ _ vc _ => fits 5 vc
  | .frameTmo _ _ vc => fits 5 vc
  | .csiLinkDown _ _ => true
  | .unitStart _ => true
  | .unitDone _ _ => true
  | .contextEnable _ n val => fits 3 n && fits 32 val
  | .tokenPost _ n value => fits 3 n && fits 32 value
  | .vtxFrameBegin _ => true
  | .frameSent _ => true
  | .esnAssign _ => true
  | .reserved _ => true
  | .epochCut _ => true
  | .sealed _ => true
  | .sealWait _ => true
  | .pfailAssert => true
  | .closeDone _ => true
  | .pfailRestart _ => true
  | .certDataRead _ => true
  | .fcvMainGo _ start mode => fits 5 start && fits 2 mode
  | .fcvMainStop _ start mode => fits 5 start && fits 2 mode
  | .fcvUrgGo _ start => fits 5 start
  | .ftrigEdge _ _ => true
  | .fcvPeriodTick _ => true
  | .urgentRunEnd _ _ => true
  | .fcvResultDelivery _ _ => true
  | .fcvQueueRead _ _ => true
  | .fcvQueuePeek _ _ => true
  | .loopEvaluation _ _ skipped => fits 32 skipped
  | .loopHoldTimeout _ _ => true
  | .loopTripClear _ val => fits 32 val.bits
  | .loopEnable _ _ val => fits 32 val
  | .pwmStart _ val => fits 32 val
  | .pwmWrap _ _ => true
  | .pwmSafeSet _ val => fits 32 val
  | .ledPeriodBoundary _ _ => true
  | .strobeReference _ ref vc => fits 3 ref && fits 5 vc
  | .strobePulseEnd _ _ sns => fits 12 sns
  | .refLost _ _ => true
  | .ledFaultDetect _ _ _ => true
  | .ledFaultClear _ val => fits 32 val.bits
  | .ledSyncArm _ => true
  | .sensorSample _ _ _ => true
  | .levelStepUp _ _ => true
  | .levelStepDown _ _ => true
  | .throttleAction _ => true
  | .sensorAck _ val => fits 32 val
  | .d2dStopSignal _ _ => true
  | .thermalLatch => true
  | .compUpdate _ _ _ => true
  | .supplyFall _ => true
  | .supplyRecover => true
  | .porstNFall => true
  | .porstNRise => true
  | .resetNFall => true
  | .resetNRise => true
  | .clockFault _ _ => true
  | .clockRecovered _ => true
  | .rstCluster _ key target => fits 16 key && fits 5 target
  | .rstRegion _ key target => fits 16 key && fits 5 target
  | .rstDieWarm _ key => fits 16 key
  | .rstDieCold _ key => fits 16 key
  | .rstPackage _ key => fits 16 key
  | .pcieFlr _ => true
  | .mpResetOrder _ => true
  | .fuseLoadDone _ boot _ _ _ _ => fits 2 boot
  | .resetRelease _ => true
  | .coldStart _ _ => true
  | .warmStart _ _ => true
  | .limitedStart _ _ => true
  | .hostBootGo _ => true
  | .bootTimeout _ => true
  | .reqRun _ => true
  | .reqDoze _ => true
  | .reqHold _ => true
  | .reqDormant _ => true
  | .powerStateDone _ _ => true
  | .holdWake _ => true
  | .dormantWake _ _ => true
  | .nvsRead _ page off len _ _ => fits 12 page && fits 6 off && fits 7 len
  | .nvsWrite _ page off len => fits 12 page && fits 6 off && fits 7 len
  | .nvsDiagReadA _ page off len _ => fits 12 page && fits 6 off && fits 7 len
  | .nvsDiagReadB _ page off len _ => fits 12 page && fits 6 off && fits 7 len
  | .tallyRead _ t => fits 5 t
  | .tallyAdd _ t => fits 5 t
  | .nvsWriteStart _ => true
  | .pageWriteDone _ _ => true
  | .tallyWriteDone _ _ => true
  | .nvsPowerup _ => true
  | .pwdUnlock _ kind => fits 2 kind
  | .pwdLock _ => true
  | .pwdSet _ kind => fits 2 kind
  | .lockoutEnd _ => true
  | .tailAdvance _ str tail => fits 6 str && fits 16 tail
  | .descriptorComplete _ str addr len => fits 6 str && fits 64 addr && fits 32 len
  | .descriptorReadError _ str kind _ => fits 6 str && fits 8 kind
  | .bar2Access _ off len _ _ => fits 28 off && fits 13 len
  | .busMasterDisable _ _ => true
  | .d3hotEntry _ _ => true
  | .pcieLinkChange _ width speed => fits 5 width && fits 3 speed
  | .pePerst _ _ => true
  | .trellisFrameSync _ _ acc _ => fits 8 acc
  | .trellisSync _ _ dst seq acc => fits 6 dst && fits 16 seq && fits 8 acc
  | .trellisAlarm _ _ _ src _ cls tile t frame => fits 6 src && fits 4 cls && fits 13 tile && fits 16 t && fits 16 frame
  | .enum _ p _ depth bitmap => p.wf && fits 8 depth && fits 64 bitmap
  | .enumRsp _ p bitmap count => p.wf && fits 64 bitmap && fits 8 count
  | .trellisRead _ p die page off count => p.wf && fits 8 die && fits 8 page && fits 16 off && fits 6 count
  | .trellisWrite _ p die page off words => p.wf && fits 8 die && fits 8 page && fits 16 off && words.length ≤ 62 && words.all (fits 32)
  | .trellisRsp _ p status _ => p.wf && fits 8 status
  | .trellisTime _ p time path lead => p.wf && fits 64 time && fits 16 path && fits 16 lead
  | .timeReq _ p => p.wf
  | .timeRsp _ p t2 t3 => p.wf && fits 64 t2 && fits 64 t3
  | .trellisReset _ p reach => p.wf && fits 3 reach
  | .heartbeat _ p => p.wf
  | .linkNew _ p => p.wf
  | .bootReq _ p => p.wf
  | .bootData _ p => p.wf
  | .trlCmdGo _ dst type len => fits 6 dst && fits 8 type && fits 9 len
  | .trlCmdTimeout _ => true
  | .enumGo _ => true
  | .syncGo _ => true
  | .timeSet _ t => fits 64 t
  | .timeSend _ => true
  | .hopDelayMeasure _ => true
  | .unlocked _ => true
  | .heartbeatSend _ => true
  | .unitLost _ addr => fits 6 addr
  | .portDown _ _ => true
  | .portUp _ _ => true
  | .stickyStore _ => true
  | .d2dHeartbeat _ => true
  | .d2dDown => true
  | .d2dRetrain _ => true
  | .takeover => true
  | .prlTrainingDone _ serial role addr _ => fits 64 serial && fits 2 role && fits 6 addr
  | .prlMessageFail _ => true
  | .prlHeartbeatSend _ => true
  | .prlHeartbeat _ _ _ _ => true
  | .partnerMiss _ => true
  | .partnerFailTmo _ => true
  | .autoback _ => true
  | .pairHit _ cls tile t frame _ => fits 4 cls && fits 13 tile && fits 16 t && fits 64 frame
  | .pairMap _ _ frame _ => fits 64 frame
  | .pairMirror _ serial _ _ _ => fits 64 serial
  | .spiMasterGo _ _ tgt nwords => fits 3 tgt && fits 16 nwords
  | .xferDone _ _ => true
  | .spiTxWrite _ val => fits 32 val
  | .spiRxRead _ _ => true
  | .ssNFall _ => true
  | .ssNRise _ edges val => fits 6 edges && fits 32 val
  | .slaveWord _ w => fits 32 w
  | .protoRead _ w => fits 32 w
  | .protoWrite _ w => fits 32 w
  | .protoNop _ w => fits 32 w
  | .xipRead _ addr _ => fits 32 addr
  | .xipIdleTimeout _ => true
  | .sramRowError _ bank row => fits 10 bank && fits 10 row
  | .dramRowError _ row _ => fits 20 row
  | .sprRemove _ ty inst => fits 4 ty && fits 20 inst
  | .sprRetest _ ty inst => fits 4 ty && fits 20 inst
  | .sprClear _ ty inst => fits 4 ty && fits 20 inst
  | .testStart _ => true
  | .testDone _ _ detail => fits 32 detail
  | .testStall _ => true
  | .graftTableWrite _ => true
  | .resetNUnmask => true
  | .supplyWarn _ _ => true
  | .bankSupplyLoss _ _ _ => true
  | .eopTimeout _ _ => true
  | .sotErr _ _ => true
  | .flitRetry _ => true
  | .rngHealthFail _ => true

end Sys2Proof
end

