-- ==== Sys2Proof/Tests/Slice0.lean ====
section
/-!
SUPPORT. Tests: the terms that WellFormed refuses, one step of single commands with results taken from the spec, and for
every statement a state and operands that meet its premises, clause by clause.
-/

-- The theorems below are checked one after another: all of them at once would need more threads than memory allows.
set_option Elab.async false

namespace Sys2Proof.Tests

open Sys2Proof Sys2Proof.Machine

/-! ### Well-formedness: for each check a term that it refuses -/

theorem test_wf_refuses_0 :
    ([.registerWrite .a { req := .pcie, tie := false } (2 ^ 25) 0 0,
      .registerWrite .a { req := .pcie, tie := false } 0 (2 ^ 64) 0,
      .registerWrite .a { req := .pcie, tie := false } 0 0 (2 ^ 4),
      .readLo .a { req := .pcie, tie := false, size := 4 } (2 ^ 25),
      .readHi .a { req := .pcie, tie := false, size := 4 } (2 ^ 25),
      .evtPendClear .a (2 ^ 8) { bits := 0, tie := false },
      .evtPendClear .a 0 { bits := 2 ^ 32, tie := false },
      .evtSet .a (2 ^ 8) 0,
      .evtSet .a 0 (2 ^ 32),
      .commitArm .a (2 ^ 8) 0,
      .commitArm .a 0 (2 ^ 2),
      .commitCancel .a (2 ^ 8) 0 false,
      .commitCancel .a 0 (2 ^ 2) false,
      .commitApply .a (2 ^ 8),
      .blockResetReq .a (2 ^ 8),
      .blockReset .a (2 ^ 8)] : List Instr).all (fun i => !i.wf) = true := by decide

theorem test_wf_refuses_1 :
    ([.brstTimeout .a (2 ^ 8),
      .baseReady .a (2 ^ 8) 0,
      .baseReady .a 0 (2 ^ 32),
      .paramSave .a (2 ^ 8) 0,
      .paramSave .a 0 (2 ^ 32),
      .paramDiscard .a (2 ^ 8) 0,
      .paramDiscard .a 0 (2 ^ 32),
      .pwdRecover .a (2 ^ 8) 0,
      .pwdRecover .a 0 (2 ^ 32),
      .recoveryWrite .a (2 ^ 8) 0 false,
      .recoveryWrite .a 0 (2 ^ 32) false,
      .calEvent .a (2 ^ 8) 0,
      .calEvent .a 0 (2 ^ 32),
      .calAbort .a (2 ^ 8) 0,
      .calAbort .a 0 (2 ^ 32),
      .calSave .a (2 ^ 8) 0] : List Instr).all (fun i => !i.wf) = true := by decide

theorem test_wf_refuses_2 :
    ([.calSave .a 0 (2 ^ 32),
      .calLoad .a (2 ^ 8) 0,
      .calLoad .a 0 (2 ^ 32),
      .calHash .a (2 ^ 8) 0,
      .calHash .a 0 (2 ^ 32),
      .evdSeal .a (2 ^ 8) 0,
      .evdSeal .a 0 (2 ^ 32),
      .evdAttest .a (2 ^ 8) 0,
      .evdAttest .a 0 (2 ^ 32),
      .evdClose .a (2 ^ 8) 0,
      .evdClose .a 0 (2 ^ 32),
      .evdFinal .a (2 ^ 8) 0,
      .evdFinal .a 0 (2 ^ 32),
      .evdLog .a (2 ^ 8) 0,
      .evdLog .a 0 (2 ^ 32),
      .currentSample .a (⟨4096, 0, 0, 0, 0, 0⟩)] : List Instr).all (fun i => !i.wf) = true := by decide

theorem test_wf_refuses_3 :
    ([.tripCauseClear .a { bits := 2 ^ 32, tie := false },
      .rakeCodeWrite .a .pcie (2 ^ 25) 0,
      .rakeCodeWrite .a .pcie 0 (2 ^ 32),
      .windowsClose .a (2 ^ 32) [],
      .coreRemove .a 0 (2 ^ 5) 0,
      .coreRemove .a 0 0 (2 ^ 1),
      .coreReturn .a 0 (2 ^ 5) 0,
      .coreReturn .a 0 0 (2 ^ 1),
      .channelGraft .a 0 (2 ^ 5),
      .trmRepair .a (2 ^ 11) 0 false,
      .trmRepair .a 0 (2 ^ 9) false,
      .acbCaptureArm .a 0 (2 ^ 11) 0,
      .acbCaptureArm .a 0 0 (2 ^ 12),
      .cmmFetchDone .a (2 ^ 11) 0 [],
      .cmmFetchDone .a 0 (2 ^ 32) [],
      .sliceRemove .a (2 ^ 3)] : List Instr).all (fun i => !i.wf) = true := by decide

theorem test_wf_refuses_4 :
    ([.sliceReturn .a (2 ^ 3),
      .planeHashGo .a (2 ^ 2),
      .sieveCaptureArm .a (2 ^ 11) 0,
      .sieveCaptureArm .a 0 (2 ^ 12),
      .htrReady .a (2 ^ 32),
      .staggerRequest .a false .a (2 ^ 3),
      .csiFrameStartPacket .a 0 (2 ^ 5) 0 .clean,
      .csiFrameStartPacket .a 0 0 (2 ^ 16) .clean,
      .csiFrameEndPacket .a 0 (2 ^ 5) .clean,
      .csiLongPacket .a 0 (2 ^ 5) 0 [] .clean false,
      .csiLongPacket .a 0 0 (2 ^ 6) [] .clean false,
      .lineSyncPacket .a 0 (2 ^ 5) .clean,
      .genericShortPacket .a 0 (2 ^ 5) .clean,
      .frameTmo .a 0 (2 ^ 5),
      .contextEnable .a (2 ^ 3) 0,
      .contextEnable .a 0 (2 ^ 32)] : List Instr).all (fun i => !i.wf) = true := by decide

theorem test_wf_refuses_5 :
    ([.tokenPost .a (2 ^ 3) 0,
      .tokenPost .a 0 (2 ^ 32),
      .fcvMainGo .a (2 ^ 5) 0,
      .fcvMainGo .a 0 (2 ^ 2),
      .fcvMainStop .a (2 ^ 5) 0,
      .fcvMainStop .a 0 (2 ^ 2),
      .fcvUrgGo .a (2 ^ 5),
      .loopEvaluation .a 0 (2 ^ 32),
      .loopTripClear .a { bits := 2 ^ 32, tie := false },
      .loopEnable .a 0 (2 ^ 32),
      .pwmStart .a (2 ^ 32),
      .pwmSafeSet .a (2 ^ 32),
      .strobeReference .a (2 ^ 3) 0,
      .strobeReference .a 0 (2 ^ 5),
      .strobePulseEnd .a 0 (2 ^ 12),
      .ledFaultClear .a { bits := 2 ^ 32, tie := false }] : List Instr).all (fun i => !i.wf) = true := by decide

theorem test_wf_refuses_6 :
    ([.sensorAck .a (2 ^ 32),
      .rstCluster .a (2 ^ 16) 0,
      .rstCluster .a 0 (2 ^ 5),
      .rstRegion .a (2 ^ 16) 0,
      .rstRegion .a 0 (2 ^ 5),
      .rstDieWarm .a (2 ^ 16),
      .rstDieCold .a (2 ^ 16),
      .rstPackage .a (2 ^ 16),
      .fuseLoadDone .a (2 ^ 2) false 0 false none,
      .nvsRead .a (2 ^ 12) 0 0 [] [],
      .nvsRead .a 0 (2 ^ 6) 0 [] [],
      .nvsRead .a 0 0 (2 ^ 7) [] [],
      .nvsWrite .a (2 ^ 12) 0 0,
      .nvsWrite .a 0 (2 ^ 6) 0,
      .nvsWrite .a 0 0 (2 ^ 7),
      .nvsDiagReadA .a (2 ^ 12) 0 0 []] : List Instr).all (fun i => !i.wf) = true := by decide

theorem test_wf_refuses_7 :
    ([.nvsDiagReadA .a 0 (2 ^ 6) 0 [],
      .nvsDiagReadA .a 0 0 (2 ^ 7) [],
      .nvsDiagReadB .a (2 ^ 12) 0 0 [],
      .nvsDiagReadB .a 0 (2 ^ 6) 0 [],
      .nvsDiagReadB .a 0 0 (2 ^ 7) [],
      .tallyRead .a (2 ^ 5),
      .tallyAdd .a (2 ^ 5),
      .pwdUnlock .a (2 ^ 2),
      .pwdSet .a (2 ^ 2),
      .tailAdvance .a (2 ^ 6) 0,
      .tailAdvance .a 0 (2 ^ 16),
      .descriptorComplete .a (2 ^ 6) 0 0,
      .descriptorComplete .a 0 (2 ^ 64) 0,
      .descriptorComplete .a 0 0 (2 ^ 32),
      .descriptorReadError .a (2 ^ 6) 0 false,
      .descriptorReadError .a 0 (2 ^ 8) false] : List Instr).all (fun i => !i.wf) = true := by decide

theorem test_wf_refuses_8 :
    ([.bar2Access .a (2 ^ 28) 0 none .clean,
      .bar2Access .a 0 (2 ^ 13) none .clean,
      .pcieLinkChange .a (2 ^ 5) 0,
      .pcieLinkChange .a 0 (2 ^ 3),
      .trellisFrameSync .a false (2 ^ 8) .clean,
      .trellisSync .a false (2 ^ 6) 0 0,
      .trellisSync .a false 0 (2 ^ 16) 0,
      .trellisSync .a false 0 0 (2 ^ 8),
      .trellisAlarm .a false false (2 ^ 6) .a 0 0 0 0,
      .trellisAlarm .a false false 0 .a (2 ^ 4) 0 0 0,
      .trellisAlarm .a false false 0 .a 0 (2 ^ 13) 0 0,
      .trellisAlarm .a false false 0 .a 0 0 (2 ^ 16) 0,
      .trellisAlarm .a false false 0 .a 0 0 0 (2 ^ 16),
      .enum .a (⟨true, true, 64, 0, 0⟩) false 0 0,
      .enum .a ⟨true, true, 1, 0, 0⟩ false (2 ^ 8) 0,
      .enum .a ⟨true, true, 1, 0, 0⟩ false 0 (2 ^ 64)] : List Instr).all (fun i => !i.wf) = true := by decide

theorem test_wf_refuses_9 :
    ([.enumRsp .a (⟨true, true, 64, 0, 0⟩) 0 0,
      .enumRsp .a ⟨true, true, 1, 0, 0⟩ (2 ^ 64) 0,
      .enumRsp .a ⟨true, true, 1, 0, 0⟩ 0 (2 ^ 8),
      .trellisRead .a (⟨true, true, 64, 0, 0⟩) 0 0 0 0,
      .trellisRead .a ⟨true, true, 1, 0, 0⟩ (2 ^ 8) 0 0 0,
      .trellisRead .a ⟨true, true, 1, 0, 0⟩ 0 (2 ^ 8) 0 0,
      .trellisRead .a ⟨true, true, 1, 0, 0⟩ 0 0 (2 ^ 16) 0,
      .trellisRead .a ⟨true, true, 1, 0, 0⟩ 0 0 0 (2 ^ 6),
      .trellisWrite .a (⟨true, true, 64, 0, 0⟩) 0 0 0 [],
      .trellisWrite .a ⟨true, true, 1, 0, 0⟩ (2 ^ 8) 0 0 [],
      .trellisWrite .a ⟨true, true, 1, 0, 0⟩ 0 (2 ^ 8) 0 [],
      .trellisWrite .a ⟨true, true, 1, 0, 0⟩ 0 0 (2 ^ 16) [],
      .trellisWrite .a ⟨true, true, 1, 0, 0⟩ 0 0 0 ([2 ^ 32]),
      .trellisWrite .a ⟨true, true, 1, 0, 0⟩ 0 0 0 (List.replicate 63 0),
      .trellisRsp .a (⟨true, true, 64, 0, 0⟩) 0 [],
      .trellisRsp .a ⟨true, true, 1, 0, 0⟩ (2 ^ 8) []] : List Instr).all (fun i => !i.wf) = true := by decide

theorem test_wf_refuses_10 :
    ([.trellisTime .a (⟨true, true, 64, 0, 0⟩) 0 0 0,
      .trellisTime .a ⟨true, true, 1, 0, 0⟩ (2 ^ 64) 0 0,
      .trellisTime .a ⟨true, true, 1, 0, 0⟩ 0 (2 ^ 16) 0,
      .trellisTime .a ⟨true, true, 1, 0, 0⟩ 0 0 (2 ^ 16),
      .timeReq .a (⟨true, true, 64, 0, 0⟩),
      .timeRsp .a (⟨true, true, 64, 0, 0⟩) 0 0,
      .timeRsp .a ⟨true, true, 1, 0, 0⟩ (2 ^ 64) 0,
      .timeRsp .a ⟨true, true, 1, 0, 0⟩ 0 (2 ^ 64),
      .trellisReset .a (⟨true, true, 64, 0, 0⟩) 0,
      .trellisReset .a ⟨true, true, 1, 0, 0⟩ (2 ^ 3),
      .heartbeat .a (⟨true, true, 64, 0, 0⟩),
      .linkNew .a (⟨true, true, 64, 0, 0⟩),
      .bootReq .a (⟨true, true, 64, 0, 0⟩),
      .bootData .a (⟨true, true, 64, 0, 0⟩),
      .trlCmdGo .a (2 ^ 6) 0 0,
      .trlCmdGo .a 0 (2 ^ 8) 0] : List Instr).all (fun i => !i.wf) = true := by decide

theorem test_wf_refuses_11 :
    ([.trlCmdGo .a 0 0 (2 ^ 9),
      .timeSet .a (2 ^ 64),
      .unitLost .a (2 ^ 6),
      .prlTrainingDone .a (2 ^ 64) 0 0 .a,
      .prlTrainingDone .a 0 (2 ^ 2) 0 .a,
      .prlTrainingDone .a 0 0 (2 ^ 6) .a,
      .pairHit .a (2 ^ 4) 0 0 0 false,
      .pairHit .a 0 (2 ^ 13) 0 0 false,
      .pairHit .a 0 0 (2 ^ 16) 0 false,
      .pairHit .a 0 0 0 (2 ^ 64) false,
      .pairMap .a .a (2 ^ 64) [],
      .pairMirror .a (2 ^ 64) .a false [],
      .spiMasterGo .a false (2 ^ 3) 0,
      .spiMasterGo .a false 0 (2 ^ 16),
      .spiTxWrite .a (2 ^ 32),
      .ssNRise .a (2 ^ 6) 0] : List Instr).all (fun i => !i.wf) = true := by decide

theorem test_wf_refuses_12 :
    ([.ssNRise .a 0 (2 ^ 32),
      .slaveWord .a (2 ^ 32),
      .protoRead .a (2 ^ 32),
      .protoWrite .a (2 ^ 32),
      .protoNop .a (2 ^ 32),
      .xipRead .a (2 ^ 32) [],
      .sramRowError .a (2 ^ 10) 0,
      .sramRowError .a 0 (2 ^ 10),
      .dramRowError .a (2 ^ 20) false,
      .sprRemove .a (2 ^ 4) 0,
      .sprRemove .a 0 (2 ^ 20),
      .sprRetest .a (2 ^ 4) 0,
      .sprRetest .a 0 (2 ^ 20),
      .sprClear .a (2 ^ 4) 0,
      .sprClear .a 0 (2 ^ 20),
      .testDone .a false (2 ^ 32)] : List Instr).all (fun i => !i.wf) = true := by decide

theorem test_wf_refuses_13 :
    ([.readLo .a { req := .pcie, tie := false, size := 16 } 0,
      .readHi .a { req := .pcie, tie := false, size := 16 } 0] : List Instr).all (fun i => !i.wf) = true := by decide

theorem test_wf_accepts :
    ([.registerWrite .a { req := .pcie, tie := false } 0x20040 5 4, .readLo .b { req := .trellis, tie := true, size := 4 } 0x1204C, .commitArm .a 0x20 0, .calAbort .a 7 0] :
      List Instr).all (fun i => i.wf) = true := by decide

theorem test_decodes_no_word : decodeTableWord 0 0 = none ∧ decodeTableWord 32 0xFFFFFFFF = none := by decide

/-! ### The manual's worked examples -/

/-- 03_array_converters_and_trims.md, R78: a pixel of 0.921500 V in gain state 1 converts to 10,729. -/
theorem test_conversion_example : convCode 1 0x200 560 40 0 0 0 921500000 = (10729, false) := by decide +kernel

/-- 03_array_converters_and_trims.md, R84: SKIP 3, CNT 64, SHIFT 6. -/
theorem test_window_example :
    (let w := window 3 64 6 1 false false (List.replicate 35 (some (10720, false)) ++ List.replicate 32 (some (10738, false)))
     (w.p, w.e, w.l, w.n, w.ne)) = (10729, 343040, 343616, 64, 32) := by decide +kernel

/-- 03_array_converters_and_trims.md, R84: CNT 40, SHIFT 4, every sample at 10,729. -/
theorem test_window_short_example :
    (window 3 40 4 1 false false (List.replicate 67 (some (10729, false)))).p = 26823 := by decide +kernel

/-- 04_sieve.md, R108: M of P 26,823 over 40 samples. -/
theorem test_mean_example :
    meanM { voidResult 1 false false with p := 26823, n := 40, ne := 20 } 4 = 171665 := by decide +kernel

/-- The result of the pixel of 04_sieve.md's worked example. -/
def examplePixel : AccResult := { voidResult 1 false false with p := 10729, e := 343040, l := 343616, n := 64, ne := 32 }

theorem test_sieve_mean_example : meanM examplePixel 6 = 171664 ∧ slope examplePixel = 288 := by decide +kernel

/-- 04_sieve.md: the worked pixel's X, Y, A, and S. -/
theorem test_sieve_example :
    (let r := correct { dtf := 4800, dth := -2000, k := 32768 } (coefOf 0x44000060CE0B4C00) 171664 288 166552 0 0 0
     (r.a, r.x, r.y, r.sat)) = (5112, 6101, 34389, false) := by decide +kernel

/-- 04_sieve.md, R122: the worked pixel's temperature. -/
theorem test_response_example : toT [(4096 + 2149, 0x00254AF3)] 1 34389 = 19199 := by decide +kernel

/-- A pixel of a row of the fill stage. -/
def fillPix (y : Nat) (mark : Bool) : Pix := { x := 0, y := y, t := 0, mark := mark, defect := false, noaudit := false, lost := false }

/-- 04_sieve.md, R125: the marked pixel of the example receives Y = 34,395. -/
theorem test_fill_example :
    (let row (n : Nat) (l : List Pix) : SieveRow := { row := n, frame := 0, pix := l }
     fillAround (some (row 0 [fillPix 34380 false, fillPix 34402 false, fillPix 34395 false]))
       (some (row 1 [fillPix 34389 false, fillPix 0 true, fillPix 34410 false]))
       (some (row 2 [fillPix 0 true, fillPix 34371 false, fillPix 34420 false])) 1) = some 34395 := by decide +kernel

/-- 05_calibration_and_cloche.md: Xt of the example is 6,558. -/
theorem test_target_example : targetX 34510 32768 17408 0 = 6558 := by decide +kernel

/-- 05_calibration_and_cloche.md, Table 5.4: the first settle frame and F at 120, 60, 30 and 9 Hz. -/
theorem test_plan_example :
    (let plan (len : Nat) : Nat × Nat :=
      let x := (({} : Die).set F.CLO_POS_CLOSE_T 27).set F.SEQ_FRAME_LEN_LEN len
      (x.planFirst, x.planF)
     [plan 416666, plan 833333, plan 1666666, plan 5555556]) = [(4, 4), (2, 4), (1, 2), (1, 0)] := by decide +kernel

/-- 05_calibration_and_cloche.md, R179: the predicted residual of the example is 50.2 mK. -/
theorem test_predicted_example :
    ((({} : Die).onCal (fun c => { c with post := 217 }) |>.setS F.SVE_DTF_DTF 4800).setS F.SVE_DTH_DTH (-2000)).predicted
      (25 * 60 * 250000000) = 502 := by decide +kernel

/-- 08_field_converter.md: sixteen samples of 4,369 with a shift of 2 give 17,476. -/
theorem test_field_result_example : scaled (16 * 4369) 2 = 17476 := by decide +kernel

/-- 09_loops_pwm_and_lamps.md, R262: the thermistor reads 16,425 mK through curve 0. -/
theorem test_curve_example :
    ((({} : Die).set (F.LPC_CURVE_POINT 0 7) 18500).set (F.LPC_CURVE_POINT 0 8) 12100).curve 0 30000 = 16425 := by
  decide +kernel

/-- 09_loops_pwm_and_lamps.md, R264: the example's duty u is 18,552. -/
theorem test_loop_example :
    (((((((({} : Die).setS (F.LOOP_SP_VALUE 0) 25000).setS (F.LOOP_KPKI_KP 0) 200).setS (F.LOOP_KPKI_KI 0) 4).set
      (F.LOOP_KD_GSHIFT 0) 8).set (F.LOOP_SAFE_IMAX_IMAX 0) 24000).setS (F.LOOP_DLIM_DMAX 0) 32767).setInteg 0 3000000 |>.control
      0 16425).2 = 18552 := by decide +kernel

/-- 09_loops_pwm_and_lamps.md, R278: B 2,048 on the perceptual curve ends at L = 12,077; 500 ms are 7,630 periods. -/
theorem test_lamp_example : ledLevel 1 2048 = 12077 ∧ fadePeriods 500 = 7630 := by decide +kernel

/-! ### One step of a command -/

/-- A command at the front runs, and the queue's rest waits (log entry 1). -/
theorem test_step_takes_the_front :
    (match step { State.reset with pending := [.evtSet .a 0x20 0x20, .evtPendClear .a 0x20 { bits := 0x20, tie := false }] } with
     | .next t => t.pending = [.evtPendClear .a 0x20 { bits := 0x20, tie := false }] && t.dieA.evPend.getLsbD 133
     | _ => false) = true := by decide +kernel

/-- R34: a write of 1 to EVT_PEND clears the event. -/
theorem test_pend_clear :
    (match exec (.evtPendClear .a 0x20 { bits := 0x20, tie := false }) { State.reset with dieA := { State.reset.dieA with evPend := BitVec.ofNat 640 (2 ^ 133) } } with
     | .next t => t.dieA.evPend = 0
     | _ => false) = true := by decide +kernel

/-- R5: a write of two bytes is refused with the SEQ block's ACC_ERR. -/
theorem test_short_write :
    (match exec (.registerWrite .a { req := .pcie, tie := false } 0x20054 0 2) State.reset with
     | .next t => t.dieA.pends (accErrOf 0x20)
     | _ => false) = true := by decide +kernel

/-- Table 0.1: a package with one die has no Die B. -/
theorem test_no_die_b : exec (.commitApply .b 0x20) { State.reset with dual := false } = .fault .noSuchDie := rfl


/-! ### Premises that a state meets -/

/-- A package whose Die A runs, changed as told. -/
def witState (f : Die → Die) : State := { ({} : State) with dieA := f { boot := { cores := true } }, now := 1000000000 }

/-- A package whose Die B runs, changed as told. -/
def witStateB (f : Die → Die) : State := { ({} : State) with dieB := f { boot := { cores := true } }, now := 1000000000 }

theorem witness_StepRunsFront : ∃ s : State, s.pending = [] := ⟨State.reset, rfl⟩

theorem witness_EveryCommandCompletes : State.reset.running .a ∧ State.reset.running .b := by decide

theorem witness_QueueFirstInFirstOut : (∃ t, exec (.commitApply .a 0x20) State.reset = .next t) ∧
    ∃ t, step { State.reset with pending := [.commitApply .a 0x20] } = .next t := ⟨⟨_, rfl⟩, ⟨_, rfl⟩⟩

theorem witness_ResetValues : F.AFE_VDET_CODE.key ∉ [F.SYS_IDENT_PKG.key, F.SYS_IDENT_DIE.key, F.SYS_IDENT_LEAD.key,
    F.EVT_PKG_SUM_DIE_B.key, F.RST_CAUSE_REACH.key, F.RST_CAUSE_DETAIL.key, F.RST_CAUSE_CAUSE.key, F.RST_START_STEP.key,
    F.FUS_STAT_LOADED.key, F.CRY_STATE_KEY.key, F.SEQ_SYNC_SRC.key] ∧
    ∀ k ∈ List.range 8, F.AFE_VDET_CODE.key ≠ (F.CRY_PUBX_WORD k).key ∧ F.AFE_VDET_CODE.key ≠ (F.CRY_PUBY_WORD k).key := by decide

theorem witness_StepKeepsTheDram : ∃ s t : State, s.tidy ∧ step s = .next t :=
  ⟨State.reset, _, ⟨rfl, rfl, rfl, rfl, rfl, rfl⟩, rfl⟩

theorem witness_SingleDie : ∃ s t : State, s.dual = false ∧ step s = .next t :=
  ⟨{ State.reset with dual := false }, _, rfl, rfl⟩

theorem witness_AccessesRefused :
    (∃ (s : State) (addr size : Nat), s.running .a ∧ (size ≠ 4 ∨ addr % 4 ≠ 0) ∧
      ¬ (size = 8 ∧ addr % 8 = 0 ∧ msixArea addr = true)) ∧
    (∃ (s : State) (q : Reader) (addr : Nat), s.running .a ∧ (q.size ≠ 4 ∨ addr % 4 ≠ 0) ∧
      ¬ (q.size = 8 ∧ addr % 8 = 0 ∧ msixArea addr = true)) ∧
    (∃ (s : State) (addr : Nat), s.running .a ∧ inBar0 addr = false) :=
  ⟨⟨State.reset, 0x14800, 2, by decide +kernel⟩, ⟨State.reset, { req := .pcie, tie := false, size := 2 }, 0x20040, by decide +kernel⟩,
    ⟨State.reset, 0xA0000, by decide +kernel⟩⟩

theorem witness_RegisterWriteRejected :
    (∃ fl, fieldsAt 0x21 0x000 = some fl ∧ (∀ f ∈ fl, f.writable = false) ∧ State.reset.running .a ∧
      listedPage 0x21 = true ∧ ¬ peerActs (0x21 * 0x1000 + 0) = true) ∧
    (∃ fl, fieldsAt 0x11 0x04C = some fl ∧ (∃ f ∈ fl, f.writable = true ∧ f.inRange (f.ofWord (17 % 2 ^ 32)) = false) ∧
      listedPage 0x11 = true ∧ ¬ peerActs (0x11 * 0x1000 + 0x04C) = true) :=
  ⟨⟨_, rfl, by decide +kernel⟩, ⟨_, rfl, by decide +kernel⟩⟩

theorem witness_EventRegisters : State.reset.running .a ∧ listedPage 0x20 = true := by decide

theorem witness_CommitRegister :
    ((witState (fun x => x)).running .a ∧ listedPage 0x30 = true ∧ boundaryOk 0x30 2 = true ∧
      ((witState (fun x => x)).die .a).commitPending 0x30 = false) ∧
    ((witState (fun x => x.set (F.COMMIT_STAT_PENDING 0x30) 1)).running .a ∧
      ((witState (fun x => x.set (F.COMMIT_STAT_PENDING 0x30) 1)).die .a).commitPending 0x30 = true) := by decide

theorem witness_RegisterWriteTakes :
    (∃ fl, fieldsAt 0x14 0x044 = some fl ∧ (0x14, 0x044) ∈ plainRegs ∧
      (∀ f ∈ fl, f.inRange (f.ofWord (1 % 2 ^ 32)) = true)) ∧
    (∃ fl, fieldsAt 0x30 0x044 = some fl ∧ (0x30, 0x044) ∈ stagedRegs ∧
      (∀ f ∈ fl, f.inRange (f.ofWord (1 % 2 ^ 32)) = true) ∧
      ((witState (fun x => x)).die .a).commitPending 0x30 = false ∧
      ((witState (fun x => x.set (F.COMMIT_STAT_PENDING 0x30) 1)).die .a).commitPending 0x30 = true) :=
  ⟨⟨_, rfl, by decide +kernel⟩, ⟨_, rfl, by decide +kernel⟩⟩

theorem witness_ReadPairs :
    (∃ (s : State) (q : Reader) (x v : Die) (e : Env), s.running .a ∧ s.die .a = x ∧ q.size = 4 ∧
      pairAt (0x20 * 0x1000 + 0x064) = true ∧ (if q.tie then s.was .a else x) = v ∧
      (if q.tie then { s.env .a with peer := s.was .b } else s.env .a) = e ∧
      v.held.find? (fun h => h.req = q.req && h.lo = 0x20 * 0x1000 + 0x064) = none) ∧
    (∃ (s : State) (q : Reader) (x v : Die) (e : Env) (h : Held), q.tie = true ∧ s.running .a ∧ s.die .a = x ∧ q.size = 4 ∧
      pairAt (0x20 * 0x1000 + 0x064) = true ∧ (if q.tie then s.was .a else x) = v ∧
      (if q.tie then { s.env .a with peer := s.was .b } else s.env .a) = e ∧
      v.held.find? (fun h => h.req = q.req && h.lo = 0x20 * 0x1000 + 0x064) = some h) :=
  ⟨⟨witState (fun x => x), { req := .pcie, tie := false, size := 4 }, _, _, _, by decide, rfl, rfl, by decide, rfl, rfl, by decide +kernel⟩,
   ⟨{ witState (fun x => x) with wasA := { held := [{ req := .pcie, lo := 0x20064, word := 7 }] } },
    { req := .pcie, tie := true, size := 4 }, _, _, _, _, rfl, by decide, rfl, rfl, by decide, rfl, rfl, rfl⟩⟩

theorem witness_CommitApplies :
    ((witState (fun x => (x.set (F.COMMIT_STAT_PENDING 0x38) 1).set (F.COMMIT_BOUNDARY 0x38) 3)).running .a ∧
      ((witState (fun x => (x.set (F.COMMIT_STAT_PENDING 0x38) 1).set (F.COMMIT_BOUNDARY 0x38) 3)).die .a).commitPending 0x38
        = true ∧
      ((witState (fun x => (x.set (F.COMMIT_STAT_PENDING 0x38) 1).set (F.COMMIT_BOUNDARY 0x38) 3)).die .a).get
        (F.COMMIT_BOUNDARY 0x38) = 3) ∧
    (((witState (fun x => (x.set (F.COMMIT_STAT_PENDING 0x22) 1).set (F.COMMIT_BOUNDARY 0x22) 2)).die .a).commitPending 0x22
        = true ∧
      ((witState (fun x => (x.set (F.COMMIT_STAT_PENDING 0x22) 1).set (F.COMMIT_BOUNDARY 0x22) 2)).die .a).idle 0x22 = true) ∧
    (((witState (fun x => (x.set (F.COMMIT_STAT_PENDING 0x3B) 1).set (F.COMMIT_BOUNDARY 0x3B) 3)).die .a).commitPending 0x3B
        = true ∧
      ((witState (fun x => (x.set (F.COMMIT_STAT_PENDING 0x3B) 1).set (F.COMMIT_BOUNDARY 0x3B) 3)).die .a).get
        (F.COMMIT_BOUNDARY 0x3B) = 3) := by decide

theorem witness_BlockResets :
    ((witState (fun x => x)).running .a ∧ listedPage 0x47 = true) ∧
    (((State.reset.withDie .a (State.reset.dieA.set (F.BRST_ACTIVE 0x47) 1) []).die .a).on (F.BRST_ACTIVE 0x47) = true ∧
      ((State.reset.withDie .a (State.reset.dieA.set (F.BRST_ACTIVE 0x47) 1) []).die .a).ipp.vtx = none ∧
      ((State.reset.withDie .a (State.reset.dieA.set (F.BRST_ACTIVE 0x47) 1) []).die .a).jobRuns 0 = false) ∧
    (((witState (fun x => x.set (F.BRST_ACTIVE 0x13) 1)).die .a).on (F.BRST_ACTIVE 0x13) = true ∧
      ((witState (fun x => x.set (F.BRST_ACTIVE 0x13) 1)).die .a).idle 0x13 = true) := by decide

theorem witness_Mailboxes :
    ((witState (fun x => x)).running .a ∧ (Instr.calAbort .a 3 4, 1, 0x0101) ∈ mailboxCommands .a 3 4 true ∧
      ((witState (fun x => x)).die .a).on (F.MBX_RSP_BUSY 1) = false) ∧
    ((witState (fun x => { x with boot := { x.boot with cores := false } })).running .a ∧
      ((witState (fun x => { x with boot := { x.boot with cores := false } })).die .a).mbxFree 1 = false ∧
      ((witState (fun x => { x with boot := { x.boot with cores := false } })).die .a).takes 0x08 = true) ∧
    (((witState (fun x => x.set (F.BRST_ACTIVE 0x08) 1)).die .a).on (F.MBX_RSP_BUSY 1) = false ∧
      ((witState (fun x => x.set (F.BRST_ACTIVE 0x08) 1)).die .a).takes 0x08 = false) ∧
    (((witState (fun x => x.set (F.MBX_RSP_BUSY 1) 1)).die .a).on (F.MBX_RSP_BUSY 1) = true ∧
      ((witState (fun x => x.set (F.MBX_RSP_BUSY 1) 1)).die .a).jobRuns (mbxJob 1) = true) ∧
    (∃ st data, ((witState (fun x => (x.set (F.MBX_RSP_BUSY 1) 1).mbxResult 1 0 5)).die .a).on (F.MBX_RSP_BUSY 1) = true ∧
      ((witState (fun x => (x.set (F.MBX_RSP_BUSY 1) 1).mbxResult 1 0 5)).die .a).mailbox 1
        = { waiting := false, result := some (st, data) }) :=
  ⟨by decide, by decide, by decide, by decide, ⟨0, 5, by decide +kernel⟩⟩

theorem witness_ReceiveFifo :
    (∃ (s : State) (d : DieId) (x : Die), s.die d = x ∧ s.running d ∧ (x.slaveOn = true) ∧ (x.on F.SPI_CFG_PROTO =
      false) ∧ (16 ≤ x.spi.rx.length)) ∧
    (∃ (s : State) (d : DieId) (edges : Nat) (x : Die), s.die d = x ∧ s.running d ∧ (x.spi.sel = true) ∧
      (x.boot.banks.getLsbD 0 = false) ∧ (x.on F.SPI_CFG_PROTO = false) ∧ (0 < edges) ∧ (edges < x.wordBits) ∧ (16 ≤
      x.spi.rx.length)) ∧
    (∃ (s : State) (d : DieId) (x : Die), s.die d = x ∧ s.running d ∧ (x.slaveOn = true) ∧ (x.on F.SPI_CFG_PROTO =
      false) ∧ (x.spi.rx.length < 16)) ∧
    (∃ (s : State) (d : DieId) (w : Nat) (n : Nat) (short : Bool) (rest : List (Nat × Bool × Nat)) (x : Die), s.die d
      = x ∧ s.running d ∧ (x.spi.rx = (w, short, n) :: rest)) ∧
    (∃ (s : State) (d : DieId) (val : Nat) (x : Die), s.die d = x ∧ s.running d ∧ (1 ≤ val % 32) ∧ (val % 32 ≤ 16)) := by
  refine ⟨?_, ?_, ?_, ?_, ?_⟩
  · exact ⟨(witState (fun x => (((((x.set (F.CTRL_EN 0x11) 1).set F.SPI_CFG_ROLE 1).set F.SPI_STATE_XIP 0).set
  F.SPI_CFG_PROTO 0).set F.SPI_CFG_WLEN_M1 31).onSpi (fun p =>
  { p with sel := true, rx := List.replicate 16 (0, false, 8) }))), .a, _, rfl, by decide +kernel⟩
  · exact ⟨(witState (fun x => (((((x.set (F.CTRL_EN 0x11) 1).set F.SPI_CFG_ROLE 1).set F.SPI_STATE_XIP 0).set
  F.SPI_CFG_PROTO 0).set F.SPI_CFG_WLEN_M1 31).onSpi (fun p =>
  { p with sel := true, rx := List.replicate 16 (0, false, 8) }))), .a, 5, _, rfl, by decide +kernel⟩
  · exact ⟨(witState (fun x => (((((x.set (F.CTRL_EN 0x11) 1).set F.SPI_CFG_ROLE 1).set F.SPI_STATE_XIP 0).set
  F.SPI_CFG_PROTO 0).set F.SPI_CFG_WLEN_M1 31).onSpi (fun p =>
  { p with sel := true, rx := List.replicate 15 (0, false, 8) }))), .a, _, rfl, by decide +kernel⟩
  · exact ⟨(witState (fun x => (x.set F.SPI_FIFO_RX_WMARK 1).onSpi (fun p => { p with rx := [(77, false, 8)] }))), .a,
  77, 8, false, [], _, rfl, by decide +kernel⟩
  · exact ⟨(witState (fun x => x.onSpi (fun p => { p with rx := [(77, false, 8)] }))), .a, 1, _, rfl, by decide +kernel⟩

theorem witness_GangArm :
    (∃ (s : State) (d : DieId) (val : Nat) (k : Nat) (x : Die), s.die d = x ∧ s.running d ∧ (val % 2 = 1) ∧
      (x.cluInUse k = true) ∧ (k < 32) ∧ (x.commitPending (0x80 + k) = false)) ∧
    (∃ (s : State) (d : DieId) (val : Nat) (k : Nat) (x : Die), s.die d = x ∧ s.running d ∧ (val % 2 = 1) ∧
      (x.commitPending (0x80 + k) = true ∨ x.cluInUse k = false)) ∧
    (∃ (s : State) (d : DieId) (val : Nat) (k : Nat) (x : Die), s.die d = x ∧ s.running d ∧ (val % 2 = 1) ∧
      (x.commitPending (0x80 + k) = true ∨ x.cluInUse k = false)) := by
  refine ⟨?_, ?_, ?_⟩
  · exact ⟨(witState (fun x => x)), .a, 1, 31, _, rfl, by decide +kernel⟩
  · exact ⟨(witState (fun x => (x.set (F.COMMIT_STAT_PENDING 0x9F) 1).set (F.COMMIT_BOUNDARY 0x9F) 2)), .a, 1, 31, _,
  rfl, by decide +kernel⟩
  · exact ⟨(witState (fun x => x.set F.SEQ_ARRAY_NCLU_M1 30)), .a, 1, 31, _, rfl, by decide +kernel⟩

theorem witness_WindowWithinArray :
    (∃ (s : State) (d : DieId) (val : Nat) (x : Die), s.die d = x ∧ s.running d ∧ (x.get F.SEQ_ARRAY_ROWS_M1 <
      F.SEQ_WIN_ROW0.ofWord (val % 2 ^ 32) + F.SEQ_WIN_ROWS_M1.ofWord (val % 2 ^ 32))) ∧
    (∃ (s : State) (d : DieId) (val : Nat) (x : Die), s.die d = x ∧ s.running d ∧ (F.SEQ_WIN_ROW0.ofWord (val % 2 ^
      32) + F.SEQ_WIN_ROWS_M1.ofWord (val % 2 ^ 32) ≤ x.get F.SEQ_ARRAY_ROWS_M1) ∧ (x.commitPending 0x20 = false)) := by
  refine ⟨?_, ?_⟩
  · exact ⟨(witState (fun x => x)), .a, 0x07FF0001, _, rfl, by decide +kernel⟩
  · exact ⟨(witState (fun x => x)), .a, 0x000F0000, _, rfl, by decide +kernel⟩

theorem witness_AfeOutputsAndMeasurement :
    (∃ (s : State) (d : DieId) (o : AfeOut) (x : Die), s.die d = x ∧ s.running d ∧ (∀ p ∈ afeOuts, afeOrder p <
      afeOrder o → x.outEn p = true ∧ x.outGood p = true) ∧ (x.bitOf F.AFE_TRIP_CAUSE o.idx = false) ∧ (x.outEn o =
      false)) ∧
    (∃ (s : State) (d : DieId) (o : AfeOut) (x : Die), s.die d = x ∧ s.running d ∧ ((∃ p ∈ afeOuts, afeOrder p <
      afeOrder o ∧ (x.outEn p = false ∨ x.outGood p = false)) ∨ x.bitOf F.AFE_TRIP_CAUSE o.idx = true)) ∧
    (∃ (s : State) (d : DieId) (o : AfeOut) (x : Die), s.die d = x ∧ s.running d ∧ (x.outEn o = true)) ∧
    (∃ (s : State) (d : DieId) (o : AfeOut) (x : Die), s.die d = x ∧ s.running d ∧ (x.bitOf F.AFE_OUT_STAT_RAMPING
      o.idx = true) ∧ (x.outEn o = true) ∧ (x.afe.falling.getLsbD o.idx = false)) ∧
    (∃ (s : State) (d : DieId) (o : AfeOut) (x : Die), s.die d = x ∧ s.running d ∧ (x.bitOf F.AFE_OUT_STAT_RAMPING
      o.idx = true) ∧ (x.outEn o = false)) ∧
    (∃ (s : State) (d : DieId) (o : AfeOut) (x : Die), s.die d = x ∧ s.running d ∧ (x.outEn o = true) ∧
      (x.afe.driven.getLsbD o.idx = true) ∧ (x.bitOf F.AFE_OUT_STAT_RAMPING o.idx = false) ∧ (x.outStepping o s.now =
      false)) ∧
    (∃ (s : State) (d : DieId) (o : AfeOut) (x : Die), s.die d = x ∧ s.running d ∧ (x.outEn o = false ∨ x.bitOf
      F.AFE_OUT_STAT_RAMPING o.idx = true ∨ x.outStepping o s.now = true)) ∧
    (∃ (s : State) (d : DieId) (x : Die), s.die d = x ∧ s.running d ∧ (x.afe.offSeq = true)) ∧
    (∃ (s : State) (d : DieId) (m : AfeSample) (x : Die), s.die d = x ∧ s.running d ∧ (x.afe.driven ≠ 0) ∧ (0 < x.get
      F.AFE_TRIP_FILT) ∧ (∀ p ∈ afeOuts, x.afe.driven.getLsbD p.idx = true → ∀ l ∈ x.afeLimit p, afeCurrent m p ≤ l)) ∧
    (∃ (s : State) (d : DieId) (m : AfeSample) (x : Die), s.die d = x ∧ s.running d ∧ (x.afe.driven.getLsbD
      AfeOut.vdet.idx = true) ∧ (x.rakeRuns = false ∨ x.rake.begun ≠ 0) ∧ (20 * x.get F.AFE_ILIM_VDET < m.vdet) ∧
      (x.get F.AFE_TRIP_FILT ≤ x.afe.overs.getD AfeOut.vdet.idx 0 + 1)) ∧
    (∃ (s : State) (d : DieId) (x : Die), s.die d = x ∧ s.running d ∧ (x.afe.driven = 0)) ∧
    (∃ (s : State) (d : DieId) (x : Die), s.die d = x ∧ s.running d) ∧
    (∃ (s : State) (d : DieId) (code : Int) (x : Die), s.die d = x ∧ s.running d ∧ (x.on (F.CTRL_EN 0x21) = true) ∧
      (-200000 ≤ code ∧ code ≤ 600000)) ∧
    (∃ (s : State) (d : DieId) (x : Die), s.die d = x ∧ s.running d ∧ (x.on (F.CTRL_EN 0x21) = true)) ∧
    (∃ (s : State) (d : DieId) (code : Int) (x : Die), s.die d = x ∧ s.running d ∧ (x.on (F.CTRL_EN 0x21) = true) ∧
      (code < -200000 ∨ 600000 < code)) := by
  refine ⟨?_, ?_, ?_, ?_, ?_, ?_, ?_, ?_, ?_, ?_, ?_, ?_, ?_, ?_, ?_⟩
  · exact ⟨(witState (fun x => ((((((x.set F.AFE_TRIP_CAUSE 0).set (F.afeEn .vdet) 0).set (F.afeEn .vsd) 1).set
  (F.afeEn .vsa) 1).set (F.afeEn .vrefc) 1).set F.AFE_OUT_STAT_GOOD 7).set F.AFE_OUT_STAT_RAMPING 0)), .a, .vdet, _,
  rfl, by decide +kernel⟩
  · exact ⟨(witState (fun x => x.set (F.afeEn .vsa) 0)), .a, .vdet, _, rfl, by decide +kernel⟩
  · exact ⟨(witState (fun x => (((((((x.set (F.afeEn .vsd) 1).set (F.afeEn .vsa) 1).set (F.afeEn .vrefc) 1).set
  F.AFE_OUT_STAT_GOOD 7).set F.AFE_OUT_STAT_RAMPING 0).set (F.afeEn .vdet) 1).set (F.afeEn .vblind) 1).set
  F.AFE_OUT_STAT_GOOD 31)), .a, .vblind, _, rfl, by decide +kernel⟩
  · exact ⟨(witState (fun x => (x.set (F.afeEn .vdet) 1).set F.AFE_OUT_STAT_RAMPING 31)), .a, .vdet, _, rfl, by decide +kernel⟩
  · exact ⟨(witState (fun x => (x.set (F.afeEn .vdet) 0).set F.AFE_OUT_STAT_RAMPING 31)), .a, .vdet, _, rfl, by decide +kernel⟩
  · exact ⟨(witState (fun x => ((x.set (F.afeEn .vsa) 1).set F.AFE_OUT_STAT_RAMPING 0).onAfe (fun a =>
  { a with driven := 2 }))), .a, .vsa, _, rfl, by decide +kernel⟩
  · exact ⟨(witState (fun x => x.onAfe (fun a => { a with stepAt := [none, none, none, none, some 999999990] }))), .a,
  .vdet, _, rfl, by decide +kernel⟩
  · exact ⟨(witState (fun x => x.onAfe (fun a => { a with offSeq := true }))), .a, _, rfl, by decide +kernel⟩
  · exact ⟨(witState (fun x => (((x.set F.AFE_TRIP_FILT 2).set (F.afeEn .vsd) 1).set F.AFE_ILIM_VSD 3).onAfe (fun a =>
  { a with driven := 1 }))), .a, ({ vsd := 60, vsa := 0, vrefc := 0, vblind := 0, vdet := 5000, inRange := 31 }), _,
  rfl, by decide +kernel⟩
  · exact ⟨(witState (fun x => (((((x.set F.AFE_TRIP_FILT 1).set F.SEQ_CTRL_EN 0).set F.SEQ_PC_STATE 0).set (F.afeEn
  .vdet) 1).set F.AFE_ILIM_VDET 3).onAfe (fun a => { a with driven := 31 }))), .a,
  ({ vsd := 0, vsa := 0, vrefc := 0, vblind := 0, vdet := 61, inRange := 31 }), _, rfl, by decide +kernel⟩
  · exact ⟨(witState (fun x => x)), .a, _, rfl, by decide +kernel⟩
  · exact ⟨(witState (fun x => { x.set F.AFE_TRIP_CAUSE 11 with hits := { bits := [(F.AFE_TRIP_CAUSE.key, 2)] } })),
  .a, _, rfl, by decide +kernel⟩
  · exact ⟨(witState (fun x => x.set (F.CTRL_EN 0x21) 1)), .a, -200000, _, rfl, by decide +kernel⟩
  · exact ⟨(witState (fun x => x.set (F.CTRL_EN 0x21) 1)), .a, _, rfl, by decide +kernel⟩
  · exact ⟨(witState (fun x => x.set (F.CTRL_EN 0x21) 1)), .a, 600001, _, rfl, by decide +kernel⟩

theorem witness_RakeFlow :
    (∃ (s : State) (d : DieId) (x : Die), s.die d = x ∧ s.running d ∧ (x.rakeRuns = true) ∧ (x.rake.held = false) ∧
      (x.rake.begun = 6) ∧ (x.rakeNow.seqop = 0) ∧ ((rakeWord ((x.rake.store.look ((x.get F.SEQ_PC_PC + 1) %
      256)).getD 0)).reserved = false)) ∧
    (∃ (s : State) (d : DieId) (x : Die), s.die d = x ∧ s.running d ∧ (x.rakeRuns = true) ∧ (x.rake.held = false) ∧
      (x.rake.begun = 6) ∧ (x.rakeNow.seqop = 1) ∧ ((rakeWord ((x.rake.store.look (x.rakeNow.target % 256)).getD
      0)).reserved = false)) ∧
    (∃ (s : State) (d : DieId) (x : Die), s.die d = x ∧ s.running d ∧ (x.rakeRuns = true) ∧ (x.rake.held = false) ∧
      (x.rake.begun = 6) ∧ (x.rakeNow.seqop = 2) ∧ (1 < x.get F.SEQ_CNT_C0) ∧ ((rakeWord ((x.rake.store.look
      (x.rakeNow.target % 256)).getD 0)).reserved = false)) ∧
    (∃ (s : State) (d : DieId) (x : Die), s.die d = x ∧ s.running d ∧ (x.rakeRuns = true) ∧ (x.rake.held = false) ∧
      (x.rake.begun = 6) ∧ (x.rakeNow.seqop = 2) ∧ (x.get F.SEQ_CNT_C0 ≤ 1) ∧ ((rakeWord ((x.rake.store.look ((x.get
      F.SEQ_PC_PC + 1) % 256)).getD 0)).reserved = false)) ∧
    (∃ (s : State) (d : DieId) (x : Die), s.die d = x ∧ s.running d ∧ (x.rakeRuns = true) ∧ (x.rake.held = false) ∧
      (x.rake.begun = 6) ∧ (x.rakeNow.seqop = 3) ∧ (1 < x.get F.SEQ_CNT_C1) ∧ ((rakeWord ((x.rake.store.look
      (x.rakeNow.target % 256)).getD 0)).reserved = false)) ∧
    (∃ (s : State) (d : DieId) (x : Die), s.die d = x ∧ s.running d ∧ (x.rakeRuns = true) ∧ (x.rake.held = false) ∧
      (x.rake.begun = 6) ∧ (x.rakeNow.seqop = 3) ∧ (x.get F.SEQ_CNT_C1 ≤ 1) ∧ ((rakeWord ((x.rake.store.look ((x.get
      F.SEQ_PC_PC + 1) % 256)).getD 0)).reserved = false)) ∧
    (∃ (s : State) (d : DieId) (x : Die), s.die d = x ∧ s.running d ∧ (x.rakeRuns = true) ∧ (x.rake.held = false) ∧
      (x.rake.begun = 6) ∧ (x.rakeNow.seqop = 4) ∧ (x.rake.early = false) ∧ (x.rake.tick = false)) ∧
    (∃ (s : State) (d : DieId) (x : Die), s.die d = x ∧ s.running d ∧ (x.rakeRuns = true) ∧ (x.rake.held = false) ∧
      (x.rake.begun = 6) ∧ (x.rakeNow.seqop = 4) ∧ (x.rake.early = true) ∧ ((rakeWord ((x.rake.store.look ((x.get
      F.SEQ_PC_PC + 1) % 256)).getD 0)).reserved = false)) ∧
    (∃ (s : State) (d : DieId) (x : Die), s.die d = x ∧ s.running d ∧ (x.rakeRuns = true) ∧ (x.rake.held = false) ∧
      (x.rake.begun = 6) ∧ (x.rakeNow.seqop = 4) ∧ (x.rake.early = false) ∧ (x.rake.tick = true) ∧ ((rakeWord
      ((x.rake.store.look ((x.get F.SEQ_PC_PC + 1) % 256)).getD 0)).reserved = false)) ∧
    (∃ (s : State) (d : DieId) (x : Die), s.die d = x ∧ s.running d ∧ (x.rakeRuns = true) ∧ (x.rake.held = false) ∧
      (x.rake.begun = 6) ∧ (x.rakeNow.seqop = 5) ∧ (x.rake.frameOpen = false) ∧ (x.cal.event = none)) := by
  refine ⟨?_, ?_, ?_, ?_, ?_, ?_, ?_, ?_, ?_, ?_⟩
  · exact ⟨(witState (fun x => ((x.set F.SEQ_CTRL_EN 1).set F.SEQ_PC_STATE 1).set F.SEQ_PC_PC 5 |>.onRake (fun r =>
  { r with store := [(5, rakeBits 0 0 1 0 0 0 0 0)], begun := 6 }))), .a, _, rfl, by decide +kernel⟩
  · exact ⟨(witState (fun x => ((x.set F.SEQ_CTRL_EN 1).set F.SEQ_PC_STATE 1).set F.SEQ_PC_PC 5 |>.onRake (fun r =>
  { r with store := [(5, rakeBits 1 200 1 0 0 0 0 0)], begun := 6 }))), .a, _, rfl, by decide +kernel⟩
  · exact ⟨(witState (fun x => (((x.set F.SEQ_CTRL_EN 1).set F.SEQ_PC_STATE 1).set F.SEQ_PC_PC 5 |>.onRake (fun r =>
  { r with store := [(5, rakeBits 2 7 1 0 0 0 0 0)], begun := 6 })).set F.SEQ_CNT_C0 2)), .a, _, rfl, by decide +kernel⟩
  · exact ⟨(witState (fun x => (((x.set F.SEQ_CTRL_EN 1).set F.SEQ_PC_STATE 1).set F.SEQ_PC_PC 5 |>.onRake (fun r =>
  { r with store := [(5, rakeBits 2 7 1 0 0 0 0 0)], begun := 6 })).set F.SEQ_CNT_C0 1)), .a, _, rfl, by decide +kernel⟩
  · exact ⟨(witState (fun x => (((x.set F.SEQ_CTRL_EN 1).set F.SEQ_PC_STATE 1).set F.SEQ_PC_PC 5 |>.onRake (fun r =>
  { r with store := [(5, rakeBits 3 7 1 0 0 0 0 0)], begun := 6 })).set F.SEQ_CNT_C1 2)), .a, _, rfl, by decide +kernel⟩
  · exact ⟨(witState (fun x => (((x.set F.SEQ_CTRL_EN 1).set F.SEQ_PC_STATE 1).set F.SEQ_PC_PC 5 |>.onRake (fun r =>
  { r with store := [(5, rakeBits 3 7 1 0 0 0 0 0)], begun := 6 })).set F.SEQ_CNT_C1 1)), .a, _, rfl, by decide +kernel⟩
  · exact ⟨(witState (fun x => ((x.set F.SEQ_CTRL_EN 1).set F.SEQ_PC_STATE 1).set F.SEQ_PC_PC 5 |>.onRake (fun r =>
  { r with store := [(5, rakeBits 4 0 1 0 0 0 0 0)], begun := 6 }))), .a, _, rfl, by decide +kernel⟩
  · exact ⟨(witState (fun x => ((x.set F.SEQ_CTRL_EN 1).set F.SEQ_PC_STATE 1).set F.SEQ_PC_PC 5 |>.onRake (fun r =>
  { r with store := [(5, rakeBits 4 0 1 0 0 0 0 0)], begun := 6, early := true }))), .a, _, rfl, by decide +kernel⟩
  · exact ⟨(witState (fun x => ((x.set F.SEQ_CTRL_EN 1).set F.SEQ_PC_STATE 1).set F.SEQ_PC_PC 5 |>.onRake (fun r =>
  { r with store := [(5, rakeBits 4 0 1 0 0 0 0 0)], begun := 6, tick := true }))), .a, _, rfl, by decide +kernel⟩
  · exact ⟨(witState (fun x => ((x.set F.SEQ_CTRL_EN 1).set F.SEQ_PC_STATE 1).set F.SEQ_PC_PC 5 |>.onRake (fun r =>
  { r with store := [(5, rakeBits 5 0 1 0 0 0 0 0)], begun := 6 }))), .a, _, rfl, by decide +kernel⟩

theorem witness_RakeWordParts :
    (∃ (s : State) (d : DieId) (x : Die), s.die d = x ∧ s.running d ∧ (x.rakeRuns = true) ∧ (x.rake.held = false) ∧
      (x.rake.begun = 1) ∧ (x.rakeNow.rowop = 1) ∧ (x.get F.SEQ_ROW_RA + 1 ≤ x.get F.SEQ_ARRAY_ROWS_M1) ∧ (x.get
      F.SEQ_ARRAY_ROWS_M1 < 2048)) ∧
    (∃ (s : State) (d : DieId) (x : Die), s.die d = x ∧ s.running d ∧ (x.rakeRuns = true) ∧ (x.rake.held = false) ∧
      (x.rake.begun = 1) ∧ (x.rakeNow.rowop = 1) ∧ (x.get F.SEQ_ARRAY_ROWS_M1 < x.get F.SEQ_ROW_RA + 1) ∧
      (x.rake.frameOpen = false) ∧ (x.cal.event = none)) ∧
    (∃ (s : State) (d : DieId) (x : Die), s.die d = x ∧ s.running d ∧ (x.rakeRuns = true) ∧ (x.rake.held = false) ∧
      (x.rake.begun = 1) ∧ (x.rakeNow.rowop = 2) ∧ (x.get F.SEQ_WIN_ROW0 ≤ x.get F.SEQ_ARRAY_ROWS_M1) ∧ (x.get
      F.SEQ_ARRAY_ROWS_M1 < 2048)) ∧
    (∃ (s : State) (d : DieId) (x : Die), s.die d = x ∧ s.running d ∧ (x.rakeRuns = true) ∧ (x.rake.held = false) ∧
      (x.rake.begun = 2) ∧ (x.rakeNow.ldc0 = true)) ∧
    (∃ (s : State) (d : DieId) (x : Die), s.die d = x ∧ s.running d ∧ (x.rakeRuns = true) ∧ (x.rake.held = false) ∧
      (x.rake.begun = 3) ∧ (x.rakeNow.ldc1 = true)) ∧
    (∃ (s : State) (d : DieId) (x : Die), s.die d = x ∧ s.running d ∧ (x.rakeRuns = true) ∧ (x.rake.held = false) ∧
      (x.rake.begun = 4) ∧ (x.rakeNow.scan = 1)) ∧
    (∃ (s : State) (d : DieId) (x : Die), s.die d = x ∧ s.running d ∧ (x.rakeRuns = true) ∧ (x.rake.held = false) ∧
      (x.rake.begun = 4) ∧ (x.rakeNow.scan = 2) ∧ (x.rake.scanning = true)) ∧
    (∃ (s : State) (d : DieId) (x : Die), s.die d = x ∧ s.running d ∧ (x.rakeRuns = true) ∧ (x.rake.held = false) ∧
      (x.rake.begun = 4) ∧ (x.rakeNow.scan = 2) ∧ (x.rake.scanning = false)) ∧
    (∃ (s : State) (d : DieId) (x : Die), s.die d = x ∧ s.running d ∧ (x.rakeRuns = true) ∧ (x.rake.held = false) ∧
      (x.rake.begun = 4) ∧ (x.rakeNow.scan = 0)) ∧
    (∃ (s : State) (d : DieId) (k : Nat) (x : Die), s.die d = x ∧ s.running d ∧ (x.rakeRuns = true) ∧ (x.rake.held =
      false) ∧ (x.rake.begun = 5) ∧ (x.rakeNow.mark = 5 + k) ∧ (k < 3)) ∧
    (∃ (s : State) (d : DieId) (k : Nat) (rs : List OpenRow) (r : OpenRow) (x : Die), s.die d = x ∧ s.running d ∧
      (x.rakeRuns = true) ∧ (x.rake.held = false) ∧ (x.rake.begun = 5) ∧ (x.rakeNow.mark = 5 + k) ∧ (k < 3) ∧
      (x.rake.frameOpen = true) ∧ (x.acb.rows = rs ++ [r]) ∧ (r.frame = x.frame.num) ∧ (x.rake.row = some r.row)) := by
  refine ⟨?_, ?_, ?_, ?_, ?_, ?_, ?_, ?_, ?_, ?_, ?_⟩
  · exact ⟨(witState (fun x => (((x.set F.SEQ_CTRL_EN 1).set F.SEQ_PC_STATE 1).set F.SEQ_PC_PC 5 |>.onRake (fun r =>
  { r with store := [(5, rakeBits 0 0 1 1 0 0 0 0)], begun := 1 })).set F.SEQ_ARRAY_ROWS_M1 2047 |>.set F.SEQ_ROW_RA
  2046)), .a, _, rfl, by decide +kernel⟩
  · exact ⟨(witState (fun x => (((x.set F.SEQ_CTRL_EN 1).set F.SEQ_PC_STATE 1).set F.SEQ_PC_PC 5 |>.onRake (fun r =>
  { r with store := [(5, rakeBits 0 0 1 1 0 0 0 0)], begun := 1 })).set F.SEQ_ARRAY_ROWS_M1 2047 |>.set F.SEQ_ROW_RA
  2047)), .a, _, rfl, by decide +kernel⟩
  · exact ⟨(witState (fun x => (((x.set F.SEQ_CTRL_EN 1).set F.SEQ_PC_STATE 1).set F.SEQ_PC_PC 5 |>.onRake (fun r =>
  { r with store := [(5, rakeBits 0 0 1 2 0 0 0 0)], begun := 1 })).set F.SEQ_ARRAY_ROWS_M1 2047 |>.set F.SEQ_WIN_ROW0
  9)), .a, _, rfl, by decide +kernel⟩
  · exact ⟨(witState (fun x => ((x.set F.SEQ_CTRL_EN 1).set F.SEQ_PC_STATE 1).set F.SEQ_PC_PC 5 |>.onRake (fun r =>
  { r with store := [(5, rakeBits 0 0 1 0 2 0 0 0)], begun := 2 }))), .a, _, rfl, by decide +kernel⟩
  · exact ⟨(witState (fun x => ((x.set F.SEQ_CTRL_EN 1).set F.SEQ_PC_STATE 1).set F.SEQ_PC_PC 5 |>.onRake (fun r =>
  { r with store := [(5, rakeBits 0 0 1 0 1 0 0 0)], begun := 3 }))), .a, _, rfl, by decide +kernel⟩
  · exact ⟨(witState (fun x => ((x.set F.SEQ_CTRL_EN 1).set F.SEQ_PC_STATE 1).set F.SEQ_PC_PC 5 |>.onRake (fun r =>
  { r with store := [(5, rakeBits 0 0 1 0 0 0 1 0)], begun := 4 }))), .a, _, rfl, by decide +kernel⟩
  · exact ⟨(witState (fun x => ((x.set F.SEQ_CTRL_EN 1).set F.SEQ_PC_STATE 1).set F.SEQ_PC_PC 5 |>.onRake (fun r =>
  { r with store := [(5, rakeBits 0 0 1 0 0 0 2 0)], begun := 4, scanning := true }))), .a, _, rfl, by decide +kernel⟩
  · exact ⟨(witState (fun x => ((x.set F.SEQ_CTRL_EN 1).set F.SEQ_PC_STATE 1).set F.SEQ_PC_PC 5 |>.onRake (fun r =>
  { r with store := [(5, rakeBits 0 0 1 0 0 0 2 0)], begun := 4 }))), .a, _, rfl, by decide +kernel⟩
  · exact ⟨(witState (fun x => ((x.set F.SEQ_CTRL_EN 1).set F.SEQ_PC_STATE 1).set F.SEQ_PC_PC 5 |>.onRake (fun r =>
  { r with store := [(5, rakeBits 0 0 1 0 0 0 0 0)], begun := 4, scanning := true }))), .a, _, rfl, by decide +kernel⟩
  · exact ⟨(witState (fun x => ((x.set F.SEQ_CTRL_EN 1).set F.SEQ_PC_STATE 1).set F.SEQ_PC_PC 5 |>.onRake (fun r =>
  { r with store := [(5, rakeBits 0 0 1 0 0 0 0 7)], begun := 5 }))), .a, 2, _, rfl, by decide +kernel⟩
  · exact ⟨(witState (fun x => (((x.set F.SEQ_CTRL_EN 1).set F.SEQ_PC_STATE 1).set F.SEQ_PC_PC 5 |>.onRake (fun r =>
  { r with store := [(5, rakeBits 0 0 900 0 0 0 0 6)], begun := 5, frameOpen := true, scanning := true, row := some 7, cyc := 20 })).onAcb
  (fun a =>
  { a with rows := [{ row := 7, frame := 0, gain := 0, skip := 0, cnt := 0, shift := 0, lpm := false, lpCore := 0, trims := {}, clus := [], scan := [], regs := {} }] }))),
  .a, 1, [],
  ({ row := 7, frame := 0, gain := 0, skip := 0, cnt := 0, shift := 0, lpm := false, lpCore := 0, trims := {}, clus := [], scan := [], regs := {} }),
  _, rfl, by decide +kernel⟩

theorem witness_RakeMarkers :
    (∃ (s : State) (d : DieId) (x : Die), s.die d = x ∧ s.running d ∧ (x.rakeRuns = true) ∧ (x.rake.held = false) ∧
      (x.rake.begun = 5) ∧ (x.rakeNow.mark = 1)) ∧
    (∃ (s : State) (d : DieId) (x : Die), s.die d = x ∧ s.running d ∧ (x.rakeRuns = true) ∧ (x.rake.held = false) ∧
      (x.rake.begun = 5) ∧ (x.rakeNow.mark = 2) ∧ (x.rake.frameOpen = false) ∧ (x.get F.SEQ_PC_STATE ≠ 3)) ∧
    (∃ (s : State) (d : DieId) (x : Die), s.die d = x ∧ s.running d ∧ (x.rakeRuns = true) ∧ (x.rake.held = false) ∧
      (x.rake.begun = 5) ∧ (x.rakeNow.mark = 2) ∧ (x.rake.frameOpen = true)) ∧
    (∃ (s : State) (d : DieId) (x : Die), s.die d = x ∧ s.running d ∧ (x.rakeRuns = true) ∧ (x.rake.held = false) ∧
      (x.rake.begun = 5) ∧ (x.rakeNow.mark = 3) ∧ (x.rake.frameOpen = true) ∧ (x.rowTooSoon = false)) ∧
    (∃ (s : State) (d : DieId) (x : Die), s.die d = x ∧ s.running d ∧ (x.rakeRuns = true) ∧ (x.rake.held = false) ∧
      (x.rake.begun = 5) ∧ (x.rakeNow.mark = 3) ∧ (x.rowTooSoon = true)) ∧
    (∃ (s : State) (d : DieId) (x : Die), s.die d = x ∧ s.running d ∧ (x.rakeRuns = true) ∧ (x.rake.held = false) ∧
      (x.rake.begun = 5) ∧ (x.rakeNow.mark = 3) ∧ (x.rake.frameOpen = false) ∧ (x.rowTooSoon = false)) ∧
    (∃ (s : State) (d : DieId) (x : Die), s.die d = x ∧ s.running d ∧ (x.rakeRuns = true) ∧ (x.rake.held = false) ∧
      (x.rake.begun = 5) ∧ (x.rakeNow.mark = 4)) ∧
    (∃ (s : State) (d : DieId) (x : Die), s.die d = x ∧ s.running d ∧ (x.rakeRuns = true) ∧ (x.rake.held = false) ∧
      (x.rake.begun = 5) ∧ (x.rakeNow.mark = 4) ∧ (300 ≤ x.rakeNow.cycles) ∧ (x.on F.ACB_CTRL_EN = true) ∧ (x.on
      F.ACB_CTRL_CHK_EN = true)) ∧
    (∃ (s : State) (d : DieId) (x : Die), s.die d = x ∧ s.running d ∧ (x.rakeRuns = true) ∧ (x.rake.held = true) ∧
      (x.rake.frameOpen = true)) := by
  refine ⟨?_, ?_, ?_, ?_, ?_, ?_, ?_, ?_, ?_⟩
  · exact ⟨(witState (fun x => ((x.set F.SEQ_CTRL_EN 1).set F.SEQ_PC_STATE 1).set F.SEQ_PC_PC 5 |>.onRake (fun r =>
  { r with store := [(5, rakeBits 0 0 1 0 0 0 0 1)], begun := 5 }))), .a, _, rfl, by decide +kernel⟩
  · exact ⟨(witState (fun x => ((x.set F.SEQ_CTRL_EN 1).set F.SEQ_PC_STATE 1).set F.SEQ_PC_PC 5 |>.onRake (fun r =>
  { r with store := [(5, rakeBits 0 0 1 0 0 0 0 2)], begun := 5 }))), .a, _, rfl, by decide +kernel⟩
  · exact ⟨(witState (fun x => ((x.set F.SEQ_CTRL_EN 1).set F.SEQ_PC_STATE 1).set F.SEQ_PC_PC 5 |>.onRake (fun r =>
  { r with store := [(5, rakeBits 0 0 1 0 0 0 0 2)], begun := 5, frameOpen := true }))), .a, _, rfl, by decide +kernel⟩
  · exact ⟨(witState (fun x => ((x.set F.SEQ_CTRL_EN 1).set F.SEQ_PC_STATE 1).set F.SEQ_PC_PC 5 |>.onRake (fun r =>
  { r with store := [(5, rakeBits 0 0 1 0 0 0 0 3)], begun := 5, frameOpen := true }))), .a, _, rfl, by decide +kernel⟩
  · exact ⟨(witState (fun x => ((x.set F.SEQ_CTRL_EN 1).set F.SEQ_PC_STATE 1).set F.SEQ_PC_PC 5 |>.onRake (fun r =>
  { r with store := [(5, rakeBits 0 0 1 0 0 0 0 3)], begun := 5, frameOpen := true, rowCyc := some 100, cyc := 200 }))),
  .a, _, rfl, by decide +kernel⟩
  · exact ⟨(witState (fun x => ((x.set F.SEQ_CTRL_EN 1).set F.SEQ_PC_STATE 1).set F.SEQ_PC_PC 5 |>.onRake (fun r =>
  { r with store := [(5, rakeBits 0 0 1 0 0 0 0 3)], begun := 5 }))), .a, _, rfl, by decide +kernel⟩
  · exact ⟨(witState (fun x => ((x.set F.SEQ_CTRL_EN 1).set F.SEQ_PC_STATE 1).set F.SEQ_PC_PC 5 |>.onRake (fun r =>
  { r with store := [(5, rakeBits 0 0 1 0 0 0 0 4)], begun := 5 }))), .a, _, rfl, by decide +kernel⟩
  · exact ⟨(witState (fun x => ((((x.set F.SEQ_CTRL_EN 1).set F.SEQ_PC_STATE 1).set F.SEQ_PC_PC 5 |>.onRake (fun r =>
  { r with store := [(5, rakeBits 0 0 1113 0 0 0 0 4)], begun := 5 })).set F.ACB_CTRL_EN 1).set F.ACB_CTRL_CHK_EN 1)),
  .a, _, rfl, by decide +kernel⟩
  · exact ⟨(witState (fun x => ((x.set F.SEQ_CTRL_EN 1).set F.SEQ_PC_STATE 1).set F.SEQ_PC_PC 5 |>.onRake (fun r =>
  { r with store := [(5, rakeBits 0 0 1 0 0 0 0 3)], begun := 6, frameOpen := true, held := true }))), .a, _, rfl, by decide +kernel⟩

theorem witness_RakeStartStop :
    (∃ (s : State) (d : DieId) (x : Die), s.die d = x ∧ s.running d ∧ (x.rakeRuns = false) ∧ (x.on F.SEQ_CTRL_NOBIAS =
      false) ∧ (x.outGood .vdet = false ∨ x.outGood .vblind = false)) ∧
    (∃ (s : State) (d : DieId) (x : Die), s.die d = x ∧ s.running d ∧ (x.rakeRuns = false) ∧ (x.takes 0x20 = false)) ∧
    (∃ (s : State) (d : DieId) (x : Die), s.die d = x ∧ s.running d ∧ (x.rakeRuns = false) ∧ (x.takes 0x20 = true) ∧
      (x.on F.SEQ_CTRL_NOBIAS = true ∨ (x.outGood .vdet = true ∧ x.outGood .vblind = true)) ∧ ((rakeWord
      ((x.rake.store.look (x.get F.SEQ_CTRL_START % 256)).getD 0)).reserved = false)) ∧
    (∃ (s : State) (d : DieId) (x : Die), s.die d = x ∧ s.running d ∧ (x.rakeRuns = true) ∧ (x.on F.SEQ_CTRL_STOPMODE
      = false) ∧ (x.rakeNow.seqop ≠ 4) ∧ (x.rake.again = false)) ∧
    (∃ (s : State) (d : DieId) (x : Die), s.die d = x ∧ s.running d ∧ (x.rakeRuns = true) ∧ (x.on F.SEQ_CTRL_STOPMODE
      = true ∨ x.rakeNow.seqop = 4 ∨ x.rake.again = true) ∧ (x.rake.frameOpen = false) ∧ (x.cal.event = none)) ∧
    (∃ (s : State) (d : DieId) (x : Die), s.die d = x ∧ s.running d ∧ (x.rakeRuns = true) ∧ (x.rake.frameOpen = false)
      ∧ (x.cal.event = none)) ∧
    (∃ (s : State) (d : DieId) (w : Nat) (x : Die), s.die d = x ∧ s.running d ∧ (w < 256) ∧ (x.rakeRuns = false)) ∧
    (∃ (s : State) (d : DieId) (w : Nat) (lo : Nat) (x : Die), s.die d = x ∧ s.running d ∧ (w < 256) ∧ (x.rakeRuns =
      false) ∧ (x.rake.low = some (w, lo))) ∧
    (∃ (s : State) (d : DieId) (w : Nat) (lo : Nat) (x : Die), s.die d = x ∧ s.running d ∧ (w < 256) ∧ (lo < 8) ∧
      (x.rakeRuns = true)) ∧
    (∃ (s : State) (d : DieId) (w : Nat) (lo : Nat) (x : Die), s.die d = x ∧ s.running d ∧ (w < 256) ∧ (lo < 8) ∧ (lo
      % 4 ≠ 0)) := by
  refine ⟨?_, ?_, ?_, ?_, ?_, ?_, ?_, ?_, ?_, ?_⟩
  · exact ⟨(witState (fun x => ((x.set F.SEQ_CTRL_EN 0).set F.SEQ_PC_STATE 0).set F.SEQ_CTRL_NOBIAS 0 |>.set
  F.AFE_OUT_STAT_GOOD 15)), .a, _, rfl, by decide +kernel⟩
  · exact ⟨(witState (fun x => ((x.set F.SEQ_CTRL_EN 0).set F.SEQ_PC_STATE 0).set (F.BRST_ACTIVE 0x20) 1)), .a, _,
  rfl, by decide +kernel⟩
  · exact ⟨(witState (fun x => (((x.set F.SEQ_CTRL_EN 0).set F.SEQ_PC_STATE 0).set F.SEQ_CTRL_NOBIAS 1).set
  (F.BRST_ACTIVE 0x20) 0)), .a, _, rfl, by decide +kernel⟩
  · exact ⟨(witState (fun x => (((x.set F.SEQ_CTRL_EN 1).set F.SEQ_PC_STATE 1).set F.SEQ_PC_PC 5 |>.onRake (fun r =>
  { r with store := [(5, rakeBits 0 0 1 0 0 0 0 0)], begun := 3 })).set F.SEQ_CTRL_STOPMODE 0)), .a, _, rfl, by decide +kernel⟩
  · exact ⟨(witState (fun x => (((x.set F.SEQ_CTRL_EN 1).set F.SEQ_PC_STATE 1).set F.SEQ_PC_PC 5 |>.onRake (fun r =>
  { r with store := [(5, rakeBits 0 0 1 0 0 0 0 0)], begun := 3 })).set F.SEQ_CTRL_STOPMODE 1)), .a, _, rfl, by decide +kernel⟩
  · exact ⟨(witState (fun x => ((x.set F.SEQ_CTRL_EN 1).set F.SEQ_PC_STATE 1).set F.SEQ_PC_PC 5 |>.onRake (fun r =>
  { r with store := [(5, rakeBits 0 0 1 0 0 0 0 0)], begun := 3 }))), .a, _, rfl, by decide +kernel⟩
  · exact ⟨(witState (fun x => ((x.set F.SEQ_CTRL_EN 0).set F.SEQ_PC_STATE 0))), .a, 255, _, rfl, by decide +kernel⟩
  · exact ⟨(witState (fun x => ((x.set F.SEQ_CTRL_EN 0).set F.SEQ_PC_STATE 0).onRake (fun r =>
  { r with low := some (255, 7) }))), .a, 255, 7, _, rfl, by decide +kernel⟩
  · exact ⟨(witState (fun x => ((x.set F.SEQ_CTRL_EN 1).set F.SEQ_PC_STATE 1).set F.SEQ_PC_PC 5 |>.onRake (fun r =>
  { r with store := [(5, rakeBits 0 0 1 0 0 0 0 0)], begun := 0 }))), .a, 255, 4, _, rfl, by decide +kernel⟩
  · exact ⟨(witState (fun x => x)), .a, 255, 6, _, rfl, by decide +kernel⟩

theorem witness_RakeTicks :
    (∃ (s : State) (d : DieId) (x : Die), s.die d = x ∧ s.running d ∧ (x.sendsSync = false) ∧ (x.on F.SEQ_SYNC_SRC =
      false) ∧ (x.rakeRuns = true) ∧ (x.rake.again = false) ∧ (x.rake.begun = 7) ∧ (x.exportSoon x.rake.timerAt s.now
      = false) ∧ ((rakeWord ((x.rake.store.look ((x.get F.SEQ_PC_PC + 1) % 256)).getD 0)).reserved = false)) ∧
    (∃ (s : State) (d : DieId) (x : Die), s.die d = x ∧ s.running d ∧ (x.exportSoon x.rake.timerAt s.now = true)) ∧
    (∃ (s : State) (d : DieId) (x : Die), s.die d = x ∧ s.running d ∧ (x.sendsSync = false) ∧ (x.exportSoon
      x.rake.timerAt s.now = false) ∧ (x.rakeRuns = false)) ∧
    (∃ (s : State) (d : DieId) (x : Die), s.die d = x ∧ s.running d ∧ (x.sendsSync = false) ∧ (x.on F.SEQ_SYNC_SRC =
      false) ∧ (x.exportSoon x.rake.timerAt s.now = false) ∧ (x.rakeRuns = true) ∧ (x.rake.again = false) ∧
      (x.rake.begun < 7) ∧ (x.rake.tick = false) ∧ (x.rake.early = false) ∧ (x.rakeNow.seqop ≠ 4)) ∧
    (∃ (s : State) (d : DieId) (x : Die), s.die d = x ∧ s.running d ∧ (x.sendsSync = false) ∧ (x.on F.SEQ_SYNC_SRC =
      false) ∧ (x.exportSoon x.rake.timerAt s.now = false) ∧ (x.rakeRuns = true) ∧ (x.rake.again = false) ∧
      (x.rake.begun < 7) ∧ (x.rake.tick = true)) ∧
    (∃ (s : State) (d : DieId) (x : Die), s.die d = x ∧ s.running d ∧ (x.sendsSync = false) ∧ (x.on F.SEQ_SYNC_SRC =
      false) ∧ (x.exportSoon x.rake.timerAt s.now = false) ∧ (x.rakeRuns = true) ∧ (x.rake.again = true) ∧ ((rakeWord
      ((x.rake.store.look (x.get F.SEQ_CTRL_START % 256)).getD 0)).reserved = false)) ∧
    (∃ (s : State) (d : DieId) (x : Die), s.die d = x ∧ s.running d ∧ (x.sendsSync = true) ∧ (x.exportSoon
      x.rake.timerAt s.now = false) ∧ (x.rakeRuns = false)) ∧
    (∃ (s : State) (d : DieId) (x : Die), s.die d = x ∧ s.running d ∧ (x.fedTick (s.die d.other) = true) ∧ (s.running
      d.other) ∧ (x.on F.SEQ_SYNC_SRC = true) ∧ (x.rake.divided < x.get F.SEQ_SYNC_DIV_M1)) ∧
    (∃ (s : State) (d : DieId) (x : Die), s.die d = x ∧ s.running d ∧ (x.fedTick (s.die d.other) = true) ∧ (x.on
      F.SEQ_SYNC_SRC = true) ∧ (x.get F.SEQ_SYNC_DIV_M1 ≤ x.rake.divided) ∧ (x.exportSoon x.rake.lastFrame s.now =
      false) ∧ (x.condOn 136 = false) ∧ (x.rakeRuns = true) ∧ (x.rake.again = false) ∧ (x.rake.begun = 7) ∧ ((rakeWord
      ((x.rake.store.look ((x.get F.SEQ_PC_PC + 1) % 256)).getD 0)).reserved = false)) ∧
    (∃ (s : State) (d : DieId) (x : Die), s.die d = x ∧ s.running d ∧ (x.leads = false) ∧ (x.fedTick (s.die d.other) =
      false)) ∧
    (∃ (s : State) (d : DieId) (x : Die), s.die d = x ∧ s.running d ∧ (x.leads = true) ∧ (x.trl.ticks ≠ []) ∧ (x.on
      F.SEQ_SYNC_SRC = true) ∧ (x.rake.divided < x.get F.SEQ_SYNC_DIV_M1)) ∧
    (∃ (s : State) (d : DieId) (x : Die), s.die d = x ∧ s.running d ∧ (x.leads = true) ∧ (x.trl.ticks ≠ []) ∧ (x.on
      F.SEQ_SYNC_SRC = true) ∧ (x.get F.SEQ_SYNC_DIV_M1 ≤ x.rake.divided) ∧ (x.rakeRuns = false ∨ x.exportSoon
      x.rake.lastFrame s.now = true)) ∧
    (∃ (s : State) (d : DieId) (x : Die), s.die d = x ∧ s.running d ∧ (x.leads = true) ∧ (x.trl.ticks ≠ []) ∧ (x.on
      F.SEQ_SYNC_SRC = true) ∧ (x.get F.SEQ_SYNC_DIV_M1 ≤ x.rake.divided) ∧ (x.exportSoon x.rake.lastFrame s.now =
      false) ∧ (x.condOn 136 = true) ∧ (x.rakeRuns = true) ∧ (x.rake.again = false) ∧ (x.rake.begun = 7) ∧ ((rakeWord
      ((x.rake.store.look ((x.get F.SEQ_PC_PC + 1) % 256)).getD 0)).reserved = false)) ∧
    (∃ (s : State) (d : DieId) (x : Die), s.die d = x ∧ s.running d ∧ (x.on F.SEQ_SYNC_SRC = true) ∧ (x.rakeRuns =
      true) ∧ (x.condOn 136 = false) ∧ (x.rake.again = false) ∧ (x.rake.begun = 7) ∧ ((rakeWord ((x.rake.store.look
      ((x.get F.SEQ_PC_PC + 1) % 256)).getD 0)).reserved = false)) ∧
    (∃ (s : State) (d : DieId) (x : Die), s.die d = x ∧ s.running d ∧ (x.on F.SEQ_SYNC_SRC = false ∨ x.rakeRuns =
      false)) := by
  refine ⟨?_, ?_, ?_, ?_, ?_, ?_, ?_, ?_, ?_, ?_, ?_, ?_, ?_, ?_, ?_⟩
  · exact ⟨(witState (fun x => (((x.set F.SEQ_CTRL_EN 1).set F.SEQ_PC_STATE 1).set F.SEQ_PC_PC 5 |>.onRake (fun r =>
  { r with store := [(5, rakeBits 4 0 1 0 0 0 0 0)], begun := 7 })).set F.SEQ_SYNC_SRC 0)), .a, _, rfl, by decide +kernel⟩
  · exact ⟨(witState (fun x => (x.set F.SEQ_LIMITS_EXPORT 1).onRake (fun r => { r with timerAt := some 999999990 }))),
  .a, _, rfl, by decide +kernel⟩
  · exact ⟨(witState (fun x => ((x.set F.SEQ_CTRL_EN 0).set F.SEQ_PC_STATE 0).set F.SEQ_SYNC_SRC 0)), .a, _, rfl, by decide +kernel⟩
  · exact ⟨(witState (fun x => (((x.set F.SEQ_CTRL_EN 1).set F.SEQ_PC_STATE 1).set F.SEQ_PC_PC 5 |>.onRake (fun r =>
  { r with store := [(5, rakeBits 0 0 1 0 0 0 0 0)], begun := 3 })).set F.SEQ_SYNC_SRC 0)), .a, _, rfl, by decide +kernel⟩
  · exact ⟨(witState (fun x => (((x.set F.SEQ_CTRL_EN 1).set F.SEQ_PC_STATE 1).set F.SEQ_PC_PC 5 |>.onRake (fun r =>
  { r with store := [(5, rakeBits 0 0 1 0 0 0 0 0)], begun := 3, tick := true })).set F.SEQ_SYNC_SRC 0)), .a, _, rfl,
  by decide +kernel⟩
  · exact ⟨(witState (fun x => (((x.set F.SEQ_CTRL_EN 1).set F.SEQ_PC_STATE 1).set F.SEQ_PC_PC 5 |>.onRake (fun r =>
  { r with store := [(5, rakeBits 0 0 1 0 0 0 0 0)], begun := 3, again := true })).set F.SEQ_SYNC_SRC 0)), .a, _, rfl,
  by decide +kernel⟩
  · exact ⟨(witState (fun x => ((x.set F.SEQ_CTRL_EN 0).set F.SEQ_PC_STATE 0).set F.TRL_MASTER_FS_EN 1 |>.set
  F.TRL_ADDR_MASTER 1 |>.set F.SYS_IDENT_LEAD 1)), .a, _, rfl, by decide +kernel⟩
  · exact ⟨((fun s =>
  { s with dieA := ((({} : Die).set F.SYS_IDENT_LEAD 1).onRake (fun r => { r with sent := true })) }) (witStateB (fun
  x => (x.set F.SEQ_SYNC_DIV_M1 2).set F.SEQ_SYNC_SRC 1 |>.set F.SYS_IDENT_LEAD 0 |>.set F.D2D_STAT_UP 1 |>.set
  F.SEQ_LIMITS_EXPORT 0))), .b, _, rfl, by decide +kernel⟩
  · exact ⟨((fun s =>
  { s with dieA := ((({} : Die).set F.SYS_IDENT_LEAD 1).onRake (fun r => { r with sent := true })) }) (witStateB (fun
  x =>
  ({(((x.set F.SEQ_CTRL_EN 1).set F.SEQ_PC_STATE 1).set F.SEQ_PC_PC 5 |>.onRake (fun r => { r with store := [(5, rakeBits 4 0 1 0 0 0 0 0)], begun := 7 })) with evRaw := 0}).set
  F.SEQ_SYNC_DIV_M1 0 |>.set F.SEQ_SYNC_SRC 1 |>.set F.SYS_IDENT_LEAD 0 |>.set F.D2D_STAT_UP 1 |>.set
  F.SEQ_LIMITS_EXPORT 0))), .b, _, rfl, by decide +kernel⟩
  · exact ⟨(witStateB (fun x => x.set F.SYS_IDENT_LEAD 0)), .b, _, rfl, by decide +kernel⟩
  · exact ⟨(witState (fun x =>
  { (x.set F.SEQ_SYNC_SRC 1).set F.SEQ_SYNC_DIV_M1 2 |>.set F.SYS_IDENT_LEAD 1 with trl := { x.trl with ticks := [4, 9] } })),
  .a, _, rfl, by decide +kernel⟩
  · exact ⟨(witState (fun x =>
  { (x.set F.SEQ_SYNC_DIV_M1 0).set F.SEQ_SYNC_SRC 1 |>.set F.SYS_IDENT_LEAD 1 |>.set F.SEQ_LIMITS_EXPORT 0 |>.set F.SEQ_CTRL_EN 0 |>.set F.SEQ_PC_STATE 0 with trl := { x.trl with ticks := [4, 9] } })),
  .a, _, rfl, by decide +kernel⟩
  · exact ⟨(witState (fun x =>
  { ({(((x.set F.SEQ_CTRL_EN 1).set F.SEQ_PC_STATE 1).set F.SEQ_PC_PC 5 |>.onRake (fun r => { r with store := [(5, rakeBits 4 0 1 0 0 0 0 0)], begun := 7 })) with evRaw := BitVec.twoPow 640 136}).set F.SEQ_SYNC_DIV_M1 0 |>.set F.SEQ_SYNC_SRC 1 |>.set F.SYS_IDENT_LEAD 1 |>.set F.SEQ_LIMITS_EXPORT 0 with trl := { x.trl with ticks := [4, 9] } })),
  .a, _, rfl, by decide +kernel⟩
  · exact ⟨(witState (fun x =>
  ({(((x.set F.SEQ_CTRL_EN 1).set F.SEQ_PC_STATE 1).set F.SEQ_PC_PC 5 |>.onRake (fun r => { r with store := [(5, rakeBits 4 0 1 0 0 0 0 0)], begun := 7 })) with evRaw := 0}).set
  F.SEQ_SYNC_SRC 1)), .a, _, rfl, by decide +kernel⟩
  · exact ⟨(witState (fun x => x.set F.SEQ_SYNC_SRC 0)), .a, _, rfl, by decide +kernel⟩

theorem witness_Converters :
    (∃ (s : State) (d : DieId) (r : OpenRow) (x : Die), s.die d = x ∧ s.running d ∧ (x.acb.rows.head? = some r) ∧
      (x.frameLost r.frame = true)) ∧
    (∃ (s : State) (d : DieId) (r : OpenRow) (x : Die), s.die d = x ∧ s.running d ∧ (x.acb.rows.head? = some r) ∧
      (x.frameLost r.frame = false)) ∧
    (∃ (s : State) (d : DieId) (x : Die), s.die d = x ∧ s.running d ∧ (x.acb.round = some 2)) ∧
    (∃ (s : State) (d : DieId) (k : Fin 32) (core : Nat) (x : Die), s.die d = x ∧ s.running d ∧ (x.acb.round = some 0)
      ∧ (x.converts k.val = true) ∧ (x.coreChecked k.val 0 0 = true) ∧ (8 * x.get F.ACB_CHK_TOL < core) ∧ (x.on
      F.ACB_CTRL_AUTOCORE = false)) ∧
    (∃ (s : State) (d : DieId) (x : Die), s.die d = x ∧ s.running d ∧ (x.rakeRuns = true) ∧ (x.on F.ACB_CTRL_CHK_EN =
      true)) ∧
    (∃ (s : State) (d : DieId) (k : Fin 32) (ch : Nat) (core : Nat) (x : Die), s.die d = x ∧ s.running d ∧ (ch ≤ 16) ∧
      (core ≤ 1) ∧ (x.rakeRuns = true) ∧ (x.coreOut k.val ch core = false) ∧ ((ch, core) ∉ (x.cluOf k.val).removing)) ∧
    (∃ (s : State) (d : DieId) (k : Fin 32) (ch : Nat) (core : Nat) (x : Die), s.die d = x ∧ s.running d ∧ (ch ≤ 16) ∧
      (core ≤ 1) ∧ (x.rakeRuns = false) ∧ (x.coreOut k.val ch core = false) ∧ ((x.cluOf k.val).removing = [])) ∧
    (∃ (s : State) (d : DieId) (ch : Nat) (core : Nat) (x : Die), s.die d = x ∧ s.running d ∧ (16 < ch ∨ 1 < core)) ∧
    (∃ (s : State) (d : DieId) (k : Fin 32) (ch : Nat) (core : Nat) (x : Die), s.die d = x ∧ s.running d ∧ (ch ≤ 16) ∧
      (core ≤ 1) ∧ (x.coreOut k.val ch core = true)) ∧
    (∃ (s : State) (d : DieId) (k : Fin 32) (ch : Nat) (x : Die), s.die d = x ∧ s.running d ∧ (ch ≤ 15) ∧ (x.converts
      k.val = true) ∧ (x.spareFree k.val = true)) ∧
    (∃ (s : State) (d : DieId) (k : Fin 32) (ch : Nat) (x : Die), s.die d = x ∧ s.running d ∧ (15 < ch ∨ x.on
      (F.CLU_GRAFT_ACTIVE k.val) = true ∨ x.converts k.val = false)) ∧
    (∃ (s : State) (d : DieId) (k : Fin 32) (x : Die), s.die d = x ∧ s.running d ∧ (x.takes (0x80 + k.val) = true) ∧
      (x.on (F.CLU_GRAFT_ACTIVE k.val) = true)) := by
  refine ⟨?_, ?_, ?_, ?_, ?_, ?_, ?_, ?_, ?_, ?_, ?_, ?_⟩
  · exact ⟨(witState (fun x =>
  { x.onAcb (fun a => { a with rows := [{ row := 3, frame := 7, gain := 0, skip := 0, cnt := 8, shift := 0, lpm := false, lpCore := 0, trims := {}, clus := [], scan := [], regs := {} }] }) with prevFrame := { x.prevFrame with num := 7, abandoned := true } })),
  .a,
  ({ row := 3, frame := 7, gain := 0, skip := 0, cnt := 8, shift := 0, lpm := false, lpCore := 0, trims := {}, clus := [], scan := [], regs := {} }),
  _, rfl, by decide +kernel⟩
  · exact ⟨(witState (fun x => x.onAcb (fun a =>
  { a with rows := [{ row := 3, frame := 7, gain := 0, skip := 0, cnt := 8, shift := 0, lpm := false, lpCore := 0, trims := {}, clus := [], scan := [], regs := {} }] }))),
  .a,
  ({ row := 3, frame := 7, gain := 0, skip := 0, cnt := 8, shift := 0, lpm := false, lpCore := 0, trims := {}, clus := [], scan := [], regs := {} }),
  _, rfl, by decide +kernel⟩
  · exact ⟨(witState (fun x => (x.onAcb (fun a => { a with round := some 2 })))), .a, _, rfl, by decide +kernel⟩
  · exact ⟨(witState (fun x => ((((((x.onAcb (fun a => { a with round := some 0 })).set F.ACB_CTRL_EN 1).set
  (F.CLU_CTRL_EN 1) 1).set F.ACB_CHK_TOL 3).set F.ACB_CTRL_AUTOCORE 0).set F.SEQ_ARRAY_NCLU_M1 31).set
  (F.CLU_CORE0_OUT_OUT 1) 0 |>.set F.ACB_MODE_LPM 0)), .a, 1, 25, _, rfl, by decide +kernel⟩
  · exact ⟨(witState (fun x => (x.set F.SEQ_PC_STATE 1).set F.ACB_CTRL_CHK_EN 1)), .a, _, rfl, by decide +kernel⟩
  · exact ⟨(witState (fun x => (x.set F.SEQ_PC_STATE 1).set (F.CLU_CORE0_OUT_OUT 1) 0 |>.set (F.CLU_CORE1_OUT_OUT 1)
  0)), .a, 1, 16, 1, _, rfl, by decide +kernel⟩
  · exact ⟨(witState (fun x => (x.set F.SEQ_PC_STATE 0).set (F.CLU_CORE0_OUT_OUT 1) 0 |>.set (F.CLU_CORE1_OUT_OUT 1)
  0)), .a, 1, 0, 0, _, rfl, by decide +kernel⟩
  · exact ⟨(witState (fun x => x)), .a, 17, 0, _, rfl, by decide +kernel⟩
  · exact ⟨(witState (fun x => x.set (F.CLU_CORE0_OUT_OUT 1) 65536)), .a, 1, 16, 0, _, rfl, by decide +kernel⟩
  · exact ⟨(witState (fun x => (((((x.set (F.CLU_CTRL_EN 31) 1).set F.ACB_CTRL_EN 1).set F.SEQ_ARRAY_NCLU_M1 31).set
  (F.CLU_GRAFT_ACTIVE 31) 0).set (F.CLU_CORE0_OUT_OUT 31) 0).set (F.CLU_CORE1_OUT_OUT 31) 0)), .a, 31, 15, _, rfl, by decide +kernel⟩
  · exact ⟨(witState (fun x => (x.set (F.CLU_GRAFT_ACTIVE 0) 1).set (F.BRST_ACTIVE 0x80) 0)), .a, 0, 0, _, rfl, by decide +kernel⟩
  · exact ⟨(witState (fun x => (x.set (F.CLU_GRAFT_ACTIVE 0) 1).set (F.BRST_ACTIVE 0x80) 0)), .a, 0, _, rfl, by decide +kernel⟩

theorem witness_TrimMap :
    (∃ (s : State) (d : DieId) (x : Die), s.die d = x ∧ s.running d) ∧
    (∃ (s : State) (d : DieId) (r : Fin 4) (row : Nat) (col : Nat) (x : Die), s.die d = x ∧ s.running d ∧ (640 * r.val
      ≤ col ∧ col ≤ 640 * r.val + 639 ∨ 2560 + 128 * r.val ≤ col ∧ col ≤ 2560 + 128 * r.val + 127) ∧ (row ≤ 2047)) ∧
    (∃ (s : State) (d : DieId) (r : Fin 4) (col : Nat) (x : Die), s.die d = x ∧ s.running d ∧ (¬ (640 * r.val ≤ col ∧
      col ≤ 640 * r.val + 639 ∨ 2560 + 128 * r.val ≤ col ∧ col ≤ 2560 + 128 * r.val + 127))) ∧
    (∃ (s : State) (d : DieId) (x : Die), s.die d = x ∧ s.running d ∧ (x.rakeRuns = true ∨ x.takes 0x22 = false)) ∧
    (∃ (s : State) (d : DieId) (x : Die), s.die d = x ∧ s.running d ∧ (x.rakeRuns = false) ∧ (x.takes 0x22 = true)) ∧
    (∃ (s : State) (d : DieId) (x : Die), s.die d = x ∧ s.running d ∧ (x.trm.loading = true) ∧ (∀ q ∈ x.spr.inventory,
      q.type ≠ 7)) ∧
    (∃ (s : State) (d : DieId) (b : Nat) (x : Die), s.die d = x ∧ s.running d ∧ (x.trm.switching = some b) ∧ (b < 2 ^
      31) ∧ (∀ q ∈ x.spr.inventory, q.type ≠ 7)) ∧
    (∃ (s : State) (d : DieId) (row : Nat) (w : Nat) (x : Die), s.die d = x ∧ s.running d ∧ (row * 308 + w ∈
      x.trm.invalid) ∧ (x.resource? 7 (row * 308 + w) = none)) ∧
    (∃ (s : State) (d : DieId) (row : Nat) (w : Nat) (e : Resource) (x : Die), s.die d = x ∧ s.running d ∧ (row * 308
      + w ∈ x.trm.invalid) ∧ (x.spr.inventory = [e]) ∧ (e.type = 7) ∧ (e.inst = row * 308 + w) ∧ (e.lasting = false)) ∧
    (∃ (s : State) (d : DieId) (e : Resource) (x : Die), s.die d = x ∧ s.running d ∧ (x.trm.loading = true) ∧
      (x.spr.inventory = [e]) ∧ (e.type = 7) ∧ (e.lasting = false)) ∧
    (∃ (s : State) (d : DieId) (b : Nat) (e : Resource) (x : Die), s.die d = x ∧ s.running d ∧ (x.trm.switching = some
      b) ∧ (b < 2 ^ 31) ∧ (x.spr.inventory = [e]) ∧ (e.type = 7) ∧ (e.lasting = false)) ∧
    (∃ (s : State) (d : DieId) (row : Nat) (w : Nat) (x : Die), s.die d = x ∧ s.running d ∧ (row * 308 + w ∈
      x.trm.invalid) ∧ (row * 308 + w ∉ x.trm.bypass) ∧ (x.trm.bypass.length < 64) ∧ (∀ q ∈ x.spr.inventory, q.type =
      7 → q.inst = row * 308 + w → q.lasting = false)) := by
  refine ⟨?_, ?_, ?_, ?_, ?_, ?_, ?_, ?_, ?_, ?_, ?_, ?_⟩
  · exact ⟨(witState (fun x => x)), .a, _, rfl, by decide +kernel⟩
  · exact ⟨(witState (fun x => x)), .a, 3, 2047, 3071, _, rfl, by decide +kernel⟩
  · exact ⟨(witState (fun x => x)), .a, 3, 3072, _, rfl, by decide +kernel⟩
  · exact ⟨(witState (fun x => x.set F.SEQ_PC_STATE 1)), .a, _, rfl, by decide +kernel⟩
  · exact ⟨(witState (fun x => (x.set F.SEQ_PC_STATE 0).set (F.BRST_ACTIVE 0x22) 0)), .a, _, rfl, by decide +kernel⟩
  · exact ⟨(witState (fun x => x.onTrm (fun t => { t with loading := true }))), .a, _, rfl, by decide +kernel⟩
  · exact ⟨(witState (fun x => x.onTrm (fun t => { t with switching := some 8192 }))), .a, 8192, _, rfl, by decide +kernel⟩
  · exact ⟨(witState (fun x => x.onTrm (fun t => { t with invalid := [1, 309] }))), .a, 1, 1, _, rfl, by decide +kernel⟩
  · exact ⟨(witState (fun x => (x.onTrm (fun t => { t with invalid := [1, 309] })).onSpr (fun p =>
  { p with inventory := [{ type := 7, inst := 309, waiting := false, testing := false, spoilt := false, lasting := false, cause := 5, since := 3, hostTest := false }] }))),
  .a, 1, 1,
  ({ type := 7, inst := 309, waiting := false, testing := false, spoilt := false, lasting := false, cause := 5, since := 3, hostTest := false }),
  _, rfl, by decide +kernel⟩
  · exact ⟨(witState (fun x => (x.onTrm (fun t => { t with loading := true })).onSpr (fun p =>
  { p with inventory := [{ type := 7, inst := 309, waiting := false, testing := false, spoilt := false, lasting := false, cause := 5, since := 3, hostTest := false }] }))),
  .a,
  ({ type := 7, inst := 309, waiting := false, testing := false, spoilt := false, lasting := false, cause := 5, since := 3, hostTest := false }),
  _, rfl, by decide +kernel⟩
  · exact ⟨(witState (fun x => (x.onTrm (fun t => { t with switching := some 8192 })).onSpr (fun p =>
  { p with inventory := [{ type := 7, inst := 309, waiting := false, testing := false, spoilt := false, lasting := false, cause := 5, since := 3, hostTest := false }] }))),
  .a, 8192,
  ({ type := 7, inst := 309, waiting := false, testing := false, spoilt := false, lasting := false, cause := 5, since := 3, hostTest := false }),
  _, rfl, by decide +kernel⟩
  · exact ⟨(witState (fun x => x.onTrm (fun t => { t with invalid := [1, 309] }))), .a, 1, 1, _, rfl, by decide +kernel⟩

theorem witness_SieveRows :
    (∃ (s : State) (d : DieId) (w : AccRow) (x : Die), s.die d = x ∧ s.running d ∧ (x.boot.limited = false) ∧ (x.on
      (F.CTRL_EN 0x30) = true) ∧ (x.sieve.inside = none) ∧ (x.sieve.waiting.head? = some w)) ∧
    (∃ (s : State) (d : DieId) (r : SieveRow) (x : Die), s.die d = x ∧ s.running d ∧ (x.sieve.inside = some r)) ∧
    (∃ (s : State) (d : DieId) (r : SieveRow) (r2 : SieveRow) (x : Die), s.die d = x ∧ s.running d ∧ (x.sieve.held =
      [r, r2])) ∧
    (∃ (s : State) (d : DieId) (x : Die), s.die d = x ∧ s.running d ∧ (x.on F.CMM_CTRL_EN = true)) ∧
    (∃ (s : State) (d : DieId) (x : Die), s.die d = x ∧ s.running d ∧ (x.on F.CMM_CTRL_EN = true)) ∧
    (∃ (s : State) (d : DieId) (x : Die), s.die d = x ∧ s.running d ∧ (x.frameEnded x.rad.tileFrame = true) ∧
      (x.rowsToCome x.rad.tileFrame = false) ∧ (x.rad.closed = false) ∧ (x.on F.RAD_CTRL_HS_EN = true) ∧ (x.frame.num
      = x.rad.tileFrame) ∧ (x.frame.flags.hold = false) ∧ (x.frame.abandoned = false) ∧ (x.on F.RAD_MAP_IDX_WRITTEN =
      false) ∧ (x.get F.RAD_MAP_BASE_BASE * 4096 + 1024 ≤ Config.dramBytes)) := by
  refine ⟨?_, ?_, ?_, ?_, ?_, ?_⟩
  · exact ⟨(witState (fun x => (x.set (F.CTRL_EN 0x30) 1).onSieve (fun s =>
  { s with waiting := [{ row := 5, frame := 0, gain := 0, shift := 0, chans := [] }] }))), .a,
  ({ row := 5, frame := 0, gain := 0, shift := 0, chans := [] }), _, rfl, by decide +kernel⟩
  · exact ⟨(witState (fun x => x.onSieve (fun s => { s with inside := some { row := 5, frame := 0, pix := [] } }))),
  .a, ({ row := 5, frame := 0, pix := [] }), _, rfl, by decide +kernel⟩
  · exact ⟨(witState (fun x => x.onSieve (fun s =>
  { s with held := [{ row := 5, frame := 0, pix := [] }, { row := 6, frame := 0, pix := [] }] }))), .a,
  ({ row := 5, frame := 0, pix := [] }), ({ row := 6, frame := 0, pix := [] }), _, rfl, by decide +kernel⟩
  · exact ⟨(witState (fun x => (x.set F.CMM_CTRL_EN 1).set F.SEQ_ARRAY_NCLU_M1 0)), .a, _, rfl, by decide +kernel⟩
  · exact ⟨(witState (fun x => (x.set F.CMM_CTRL_EN 1).set F.SEQ_ARRAY_NCLU_M1 0)), .a, _, rfl, by decide +kernel⟩
  · exact ⟨(witState (fun x => ((x.set F.RAD_CTRL_HS_EN 1).set F.RAD_MAP_BASE_BASE 2 |>.set F.RAD_MAP_IDX_WRITTEN
  0).onRad (fun r => { r with closed := false, hits := [80, 3] }))), .a, _, rfl, by decide +kernel⟩

theorem witness_SieveControls :
    (∃ (s : State) (d : DieId) (x : Die), s.die d = x ∧ s.running d ∧ (x.on F.RAD_CTRL_PINMODE = false) ∧ (x.rad.pinAt
      ≠ some s.now)) ∧
    (∃ (s : State) (d : DieId) (x : Die), s.die d = x ∧ s.running d ∧ (x.on F.RAD_CTRL_PINMODE = true ∨ x.rad.pinAt =
      some s.now)) ∧
    (∃ (s : State) (d : DieId) (x : Die), s.die d = x ∧ s.running d ∧ (x.on F.RAD_BANK_COPYING = true)) ∧
    (∃ (s : State) (d : DieId) (x : Die), s.die d = x ∧ s.running d ∧ (x.on F.WDR_CTRL_AUDIT = true) ∧ (x.bandFull =
      true) ∧ (x.get F.WDR_AUDIT_STAT_BAND < (x.sieveParams x.wdr.done).rowsM1 / 8) ∧ (x.get F.WDR_AUDIT_STAT_BAND <
      255)) ∧
    (∃ (s : State) (d : DieId) (x : Die), s.die d = x ∧ s.running d ∧ (x.on F.WDR_CTRL_AUDIT = true) ∧ (x.bandFull =
      true) ∧ ((x.sieveParams x.wdr.done).rowsM1 / 8 ≤ x.get F.WDR_AUDIT_STAT_BAND)) ∧
    (∃ (s : State) (d : DieId) (x : Die), s.die d = x ∧ s.running d ∧ (x.on F.WDR_CTRL_AUDIT = false ∨ x.wdr.key =
      none ∨ (∃ a ∈ x.wdr.key, x.wdr.frames ≤ a.2.2))) ∧
    (∃ (s : State) (d : DieId) (n : Nat) (x : Die), s.die d = x ∧ s.running d ∧ (n ≤ 4) ∧ (x.takes 0x30 = true) ∧
      (x.sliceOut n = false) ∧ (x.sieve.inside = none) ∧ (x.sieve.removing = []) ∧ (x.resource? 3 n = none)) ∧
    (∃ (s : State) (d : DieId) (n : Nat) (x : Die), s.die d = x ∧ s.running d ∧ (4 < n ∨ x.takes 0x30 = false)) ∧
    (∃ (s : State) (d : DieId) (n : Nat) (x : Die), s.die d = x ∧ s.running d ∧ (n ≤ 4) ∧ (x.sliceOut n = true)) ∧
    (∃ (s : State) (d : DieId) (x : Die), s.die d = x ∧ s.running d ∧ (x.on F.CMM_HASH_CTRL_BUSY = true ∨ x.takes 0x33
      = false)) ∧
    (∃ (s : State) (d : DieId) (x : Die), s.die d = x ∧ s.running d ∧ (x.on F.CMM_HASH_CTRL_BUSY = false) ∧ (x.takes
      0x33 = true)) ∧
    (∃ (s : State) (d : DieId) (x : Die), s.die d = x ∧ s.running d ∧ (1 ≤ x.thm.acted)) ∧
    (∃ (s : State) (d : DieId) (base : Nat) (x : Die), s.die d = x ∧ s.running d ∧ (x.cmm.hashing = some base) ∧
      (x.cal.hash = false) ∧ (x.thm.acted = 0)) ∧
    (∃ (s : State) (d : DieId) (row : Nat) (col : Nat) (x : Die), s.die d = x ∧ s.running d ∧ (row ≤ 2047) ∧ (col ≤
      3071) ∧ (x.takes 0x30 = true)) ∧
    (∃ (s : State) (d : DieId) (row : Nat) (col : Nat) (x : Die), s.die d = x ∧ s.running d ∧ (2047 < row ∨ 3071 < col
      ∨ x.takes 0x30 = false)) := by
  refine ⟨?_, ?_, ?_, ?_, ?_, ?_, ?_, ?_, ?_, ?_, ?_, ?_, ?_, ?_, ?_⟩
  · exact ⟨(witState (fun x => (x.set F.RAD_CTRL_PINMODE 0).onRad (fun r => { r with pinLow := true }))), .a, _, rfl,
  by decide +kernel⟩
  · exact ⟨(witState (fun x => (x.set F.RAD_CTRL_PINMODE 0).onRad (fun r =>
  { r with pinLow := true, pinAt := some 1000000000 }))), .a, _, rfl, by decide +kernel⟩
  · exact ⟨(witState (fun x => (x.set F.RAD_BANK_COPYING 1).onRad (fun r => { r with resp := [(3, 7)] }))), .a, _,
  rfl, by decide +kernel⟩
  · exact ⟨(witState (fun x =>
  { (x.set F.WDR_CTRL_AUDIT 1).set F.WDR_AUDIT_STAT_BAND 3 with wdr := { x.wdr with frames := 64, key := some (0, 2047, 63), done := 5 }, sieve := { x.sieve with cur := { x.sieve.cur with frame := 5, rowsM1 := 2047 } } })),
  .a, _, rfl, by decide +kernel⟩
  · exact ⟨(witState (fun x =>
  { (x.set F.WDR_CTRL_AUDIT 1).set F.WDR_AUDIT_STAT_BAND 255 with wdr := { x.wdr with frames := 64, key := some (0, 2047, 63), done := 5 }, sieve := { x.sieve with cur := { x.sieve.cur with frame := 5, rowsM1 := 2047 } } })),
  .a, _, rfl, by decide +kernel⟩
  · exact ⟨(witState (fun x => x.set F.WDR_CTRL_AUDIT 0)), .a, _, rfl, by decide +kernel⟩
  · exact ⟨(witState (fun x => x.set F.SVE_SLICE_OUT 0)), .a, 4, _, rfl, by decide +kernel⟩
  · exact ⟨(witState (fun x => x)), .a, 5, _, rfl, by decide +kernel⟩
  · exact ⟨(witState (fun x => x.set F.SVE_SLICE_OUT 16)), .a, 4, _, rfl, by decide +kernel⟩
  · exact ⟨(witState (fun x => x.set F.CMM_HASH_CTRL_BUSY 1)), .a, _, rfl, by decide +kernel⟩
  · exact ⟨(witState (fun x => x.set F.CMM_HASH_CTRL_BUSY 0)), .a, _, rfl, by decide +kernel⟩
  · exact ⟨(witState (fun x =>
  { x with thm := { x.thm with acted := 1 }, cmm := { x.cmm with hashing := some 4096 } })), .a, _, rfl, by decide +kernel⟩
  · exact ⟨(witState (fun x => { x with cmm := { x.cmm with hashing := some 4096 } })), .a, 4096, _, rfl, by decide +kernel⟩
  · exact ⟨(witState (fun x => x)), .a, 2047, 3071, _, rfl, by decide +kernel⟩
  · exact ⟨(witState (fun x => x)), .a, 2048, 0, _, rfl, by decide +kernel⟩

theorem witness_ClocheMotion :
    (∃ (s : State) (d : DieId) (x : Die), s.die d = x ∧ s.running d ∧ (x.cal.event = none) ∧ (x.get F.CAL_STATE_PHASE
      ≠ 6) ∧ (x.rake.frameOpen = false) ∧ (x.on F.CLO_CTRL_EN = true) ∧ (x.cloFaulted = false) ∧ (x.takes 0x29 = true)
      ∧ (x.on F.CAL_PAIR_GRANT = true ∨ x.alone (s.env d) = true) ∧ (x.clo.move = none) ∧ (x.hallFailed = false) ∧
      (x.halls.2 = false)) ∧
    (∃ (s : State) (d : DieId) (x : Die), s.die d = x ∧ s.running d ∧ (x.cal.event = none) ∧ (x.get F.CAL_STATE_PHASE
      ≠ 6) ∧ (x.rake.frameOpen = false) ∧ (x.on F.CLO_CTRL_EN = true) ∧ (x.cloFaulted = false) ∧ (x.takes 0x29 = true)
      ∧ (x.clo.move = none) ∧ (x.halls.1 = false)) ∧
    (∃ (s : State) (d : DieId) (x : Die), s.die d = x ∧ s.running d ∧ (x.cal.event = none) ∧ (x.get F.CAL_STATE_PHASE
      ≠ 6) ∧ (x.rake.frameOpen = false) ∧ (x.on F.CLO_CTRL_EN = true) ∧ (x.cloFaulted = false) ∧ (x.takes 0x29 = true)
      ∧ (x.clo.move = none) ∧ (x.halls.1 = false)) ∧
    (∃ (s : State) (d : DieId) (x : Die), s.die d = x ∧ s.running d ∧ (x.cal.event = none) ∧ (x.get F.CAL_STATE_PHASE
      ≠ 6) ∧ (x.rake.frameOpen = false) ∧ (x.on F.CLO_CTRL_EN = true) ∧ (x.cloFaulted = false) ∧ (x.takes 0x29 = true)
      ∧ (x.clo.move = none) ∧ (x.halls.1 = true)) ∧
    (∃ (s : State) (d : DieId) (x : Die), s.die d = x ∧ s.running d ∧ (x.cal.event.isSome = true ∨ x.clo.move.isSome =
      true ∨ x.takes 0x29 = false ∨ x.on F.CLO_CTRL_EN = false ∨ x.cloFaulted = true ∨ x.hallFailed = true ∨ (x.on
      F.CAL_PAIR_GRANT = false ∧ x.alone (s.env d) = false))) ∧
    (∃ (s : State) (d : DieId) (x : Die), s.die d = x ∧ s.running d ∧ (x.cal.event.isSome = true ∨ x.clo.move.isSome =
      true ∨ x.takes 0x29 = false ∨ x.on F.CLO_CTRL_EN = false ∨ x.cloFaulted = true)) ∧
    (∃ (s : State) (d : DieId) (x : Die), s.die d = x ∧ s.running d ∧ (x.cal.event.isSome = true ∨ x.clo.move.isSome =
      true ∨ x.takes 0x29 = false ∨ x.on F.CLO_CTRL_EN = false ∨ x.cloFaulted = true)) ∧
    (∃ (s : State) (d : DieId) (x : Die), s.die d = x ∧ s.running d ∧ (x.on F.CLO_CTRL_EN = false) ∧ (x.on
      F.CLO_CTRL_AUTOHOME = false) ∧ (x.rake.frameOpen = false)) ∧
    (∃ (s : State) (d : DieId) (x : Die), s.die d = x ∧ s.running d ∧ (x.cal.event = none) ∧ (x.get F.CAL_STATE_PHASE
      ≠ 6) ∧ (x.rake.frameOpen = false) ∧ (x.on F.CLO_CTRL_EN = false) ∧ (x.on F.CLO_CTRL_AUTOHOME = true) ∧
      (x.cloFaulted = false) ∧ (x.clo.move = none) ∧ (x.halls.1 = false)) ∧
    (∃ (s : State) (d : DieId) (x : Die), s.die d = x ∧ s.running d ∧ (x.cal.event = none) ∧ (x.get F.CAL_STATE_PHASE
      ≠ 6) ∧ (x.rake.frameOpen = false) ∧ (x.on F.CLO_CTRL_EN = true) ∧ (x.cloFaulted = false) ∧
      (x.clo.closingAt.isSome = true) ∧ (x.clo.move = none) ∧ (x.openRest = false) ∧ (x.halls.1 = false)) ∧
    (∃ (s : State) (d : DieId) (m : Move) (x : Die), s.die d = x ∧ s.running d ∧ (x.get F.CAL_STATE_PHASE ≠ 6) ∧
      (x.clo.move = some m) ∧ (m.seg = 0) ∧ (x.cloTarget m.closing = false)) ∧
    (∃ (s : State) (d : DieId) (x : Die), s.die d = x ∧ s.running d ∧ (x.cal.event = none) ∧ (x.get F.CAL_STATE_PHASE
      ≠ 6) ∧ (x.rake.frameOpen = false) ∧ (x.boot.banks.getLsbD 1 = false) ∧ (x.clo.move = none)) ∧
    (∃ (s : State) (d : DieId) (m : Move) (x : Die), s.die d = x ∧ s.running d ∧ (x.cal.event = none) ∧ (x.get
      F.CAL_STATE_PHASE ≠ 6) ∧ (x.rake.frameOpen = false) ∧ (x.on F.CLO_CTRL_EN = true) ∧ (x.cloFaulted = false) ∧
      (x.clo.move = some m) ∧ (m.seg = 2) ∧ (m.closing = true) ∧ (x.clo.reopen = false) ∧ (x.halls.2 = true)) ∧
    (∃ (s : State) (d : DieId) (m : Move) (x : Die), s.die d = x ∧ s.running d ∧ (x.cal.event = none) ∧ (x.get
      F.CAL_STATE_PHASE ≠ 6) ∧ (x.rake.frameOpen = false) ∧ (x.on F.CLO_CTRL_EN = true) ∧ (x.cloFaulted = false) ∧
      (x.clo.move = some m) ∧ (m.seg = 2) ∧ (m.closing = false) ∧ (x.halls.1 = true)) ∧
    (∃ (s : State) (d : DieId) (m : Move) (x : Die), s.die d = x ∧ s.running d ∧ (x.cal.event = none) ∧ (x.get
      F.CAL_STATE_PHASE ≠ 6) ∧ (x.rake.frameOpen = false) ∧ (x.on F.CLO_CTRL_EN = true) ∧ (x.cloFaulted = false) ∧
      (x.clo.move = some m) ∧ (m.seg = 2) ∧ (m.again = false) ∧ (x.cloTarget m.closing = false)) ∧
    (∃ (s : State) (d : DieId) (m : Move) (x : Die), s.die d = x ∧ s.running d ∧ (x.cal.event = none) ∧ (x.get
      F.CAL_STATE_PHASE ≠ 6) ∧ (x.rake.frameOpen = false) ∧ (x.on F.CLO_CTRL_EN = true) ∧ (x.cloFaulted = false) ∧
      (x.clo.move = some m) ∧ (m.seg < 2) ∧ (m.again = true) ∧ (m.closing = true) ∧ (x.halls.2 = false) ∧ (x.halls.1 =
      false)) ∧
    (∃ (s : State) (d : DieId) (x : Die), s.die d = x ∧ s.running d ∧ (x.cal.event = none) ∧ (x.get F.CAL_STATE_PHASE
      ≠ 6) ∧ (x.rake.frameOpen = false) ∧ (x.on F.CLO_CTRL_EN = true) ∧ (x.cloFaulted = false) ∧ (x.clo.move = none) ∧
      (x.halls.1 = false) ∧ (x.halls.2 = false) ∧ (x.clo.idle = false)) ∧
    (∃ (s : State) (d : DieId) (x : Die), s.die d = x ∧ s.running d ∧ (x.on F.CLO_HTR_EN = true) ∧ (x.bladeInBand =
      true) ∧ (x.on F.CLO_HTR_STAT_READY = false) ∧ (x.clo.bandFrom.any (fun t => secsPassed s.now t 10) = true)) ∧
    (∃ (s : State) (d : DieId) (x : Die), s.die d = x ∧ s.running d ∧ (x.bladeInBand = false ∨ x.clo.bandFrom = none ∨
      x.on F.CLO_HTR_EN = false)) := by
  refine ⟨?_, ?_, ?_, ?_, ?_, ?_, ?_, ?_, ?_, ?_, ?_, ?_, ?_, ?_, ?_, ?_, ?_, ?_, ?_⟩
  · exact ⟨(witState (fun x => (({ x with evRaw := x.evRaw &&& ~~~ BitVec.twoPow 640 345 } : Die).set F.CLO_CTRL_EN 1
  |>.set F.CAL_STATE_PHASE 0 |>.set F.CLO_DRV_HALL0_POL 0 |>.set F.CLO_DRV_HALL1_POL 0 |>.set (F.BRST_ACTIVE 0x29) 0
  |>.set F.CAL_PAIR_GRANT 1).onClo (fun c => { c with hall0 := true, hall1 := false, move := none }))), .a, _, rfl, by decide +kernel⟩
  · exact ⟨(witState (fun x => (({ x with evRaw := x.evRaw &&& ~~~ BitVec.twoPow 640 345 } : Die).set F.CLO_CTRL_EN 1
  |>.set F.CAL_STATE_PHASE 0 |>.set F.CLO_DRV_HALL0_POL 0 |>.set F.CLO_DRV_HALL1_POL 0 |>.set (F.BRST_ACTIVE 0x29) 0
  |>.set F.CAL_PAIR_GRANT 1).onClo (fun c => { c with hall0 := false, hall1 := true, move := none }))), .a, _, rfl, by decide +kernel⟩
  · exact ⟨(witState (fun x => (({ x with evRaw := x.evRaw &&& ~~~ BitVec.twoPow 640 345 } : Die).set F.CLO_CTRL_EN 1
  |>.set F.CAL_STATE_PHASE 0 |>.set F.CLO_DRV_HALL0_POL 0 |>.set F.CLO_DRV_HALL1_POL 0 |>.set (F.BRST_ACTIVE 0x29) 0
  |>.set F.CAL_PAIR_GRANT 1).onClo (fun c => { c with hall0 := false, hall1 := true, move := none }))), .a, _, rfl, by decide +kernel⟩
  · exact ⟨(witState (fun x => (({ x with evRaw := x.evRaw &&& ~~~ BitVec.twoPow 640 345 } : Die).set F.CLO_CTRL_EN 1
  |>.set F.CAL_STATE_PHASE 0 |>.set F.CLO_DRV_HALL0_POL 0 |>.set F.CLO_DRV_HALL1_POL 0 |>.set (F.BRST_ACTIVE 0x29) 0
  |>.set F.CAL_PAIR_GRANT 1).onClo (fun c => { c with hall0 := true, hall1 := false, move := none }))), .a, _, rfl, by decide +kernel⟩
  · exact ⟨(witState (fun x => (({ x with evRaw := x.evRaw &&& ~~~ BitVec.twoPow 640 345 } : Die).set F.CLO_CTRL_EN 1
  |>.set F.CAL_STATE_PHASE 0 |>.set F.CLO_DRV_HALL0_POL 0 |>.set F.CLO_DRV_HALL1_POL 0).onClo (fun c =>
  { c with move := some { closing := true, seg := 1, began := 5, again := false } }))), .a, _, rfl, by decide +kernel⟩
  · exact ⟨(witState (fun x => (({ x with evRaw := x.evRaw &&& ~~~ BitVec.twoPow 640 345 } : Die).set F.CLO_CTRL_EN 1
  |>.set F.CAL_STATE_PHASE 0 |>.set F.CLO_DRV_HALL0_POL 0 |>.set F.CLO_DRV_HALL1_POL 0).onClo (fun c =>
  { c with move := some { closing := true, seg := 1, began := 5, again := false } }))), .a, _, rfl, by decide +kernel⟩
  · exact ⟨(witState (fun x => (({ x with evRaw := x.evRaw &&& ~~~ BitVec.twoPow 640 345 } : Die).set F.CLO_CTRL_EN 1
  |>.set F.CAL_STATE_PHASE 0 |>.set F.CLO_DRV_HALL0_POL 0 |>.set F.CLO_DRV_HALL1_POL 0).onClo (fun c =>
  { c with move := some { closing := true, seg := 1, began := 5, again := false } }))), .a, _, rfl, by decide +kernel⟩
  · exact ⟨(witState (fun x => (x.set F.CLO_CTRL_EN 0).set F.CLO_CTRL_AUTOHOME 0)), .a, _, rfl, by decide +kernel⟩
  · exact ⟨(witState (fun x => (({ x with evRaw := x.evRaw &&& ~~~ BitVec.twoPow 640 345 } : Die).set F.CLO_CTRL_EN 1
  |>.set F.CAL_STATE_PHASE 0 |>.set F.CLO_DRV_HALL0_POL 0 |>.set F.CLO_DRV_HALL1_POL 0 |>.set F.CLO_CTRL_EN 0 |>.set
  F.CLO_CTRL_AUTOHOME 1).onClo (fun c => { c with hall0 := false, move := none }))), .a, _, rfl, by decide +kernel⟩
  · exact ⟨(witState (fun x => (({ x with evRaw := x.evRaw &&& ~~~ BitVec.twoPow 640 345 } : Die).set F.CLO_CTRL_EN 1
  |>.set F.CAL_STATE_PHASE 0 |>.set F.CLO_DRV_HALL0_POL 0 |>.set F.CLO_DRV_HALL1_POL 0).onClo (fun c =>
  { c with hall0 := false, hall1 := true, closingAt := some 7, move := none }))), .a, _, rfl, by decide +kernel⟩
  · exact ⟨(witState (fun x => (({ x with evRaw := x.evRaw &&& ~~~ BitVec.twoPow 640 345 } : Die).set F.CLO_CTRL_EN 1
  |>.set F.CAL_STATE_PHASE 0 |>.set F.CLO_DRV_HALL0_POL 0 |>.set F.CLO_DRV_HALL1_POL 0).onClo (fun c =>
  { c with move := some { closing := true, seg := 0, began := 5, again := false }, hall1 := false }))), .a,
  ({ closing := true, seg := 0, began := 5, again := false }), _, rfl, by decide +kernel⟩
  · exact ⟨(witState (fun x => (({ x with evRaw := x.evRaw &&& ~~~ BitVec.twoPow 640 345 } : Die).set F.CLO_CTRL_EN 1
  |>.set F.CAL_STATE_PHASE 0 |>.set F.CLO_DRV_HALL0_POL 0 |>.set F.CLO_DRV_HALL1_POL 0).onClo (fun c =>
  { c with hall1 := true }))), .a, _, rfl, by decide +kernel⟩
  · exact ⟨(witState (fun x => (({ x with evRaw := x.evRaw &&& ~~~ BitVec.twoPow 640 345 } : Die).set F.CLO_CTRL_EN 1
  |>.set F.CAL_STATE_PHASE 0 |>.set F.CLO_DRV_HALL0_POL 0 |>.set F.CLO_DRV_HALL1_POL 0).onClo (fun c =>
  { c with move := some { closing := true, seg := 2, began := 5, again := false }, hall1 := true, hall0 := false }))),
  .a, ({ closing := true, seg := 2, began := 5, again := false }), _, rfl, by decide +kernel⟩
  · exact ⟨(witState (fun x => (({ x with evRaw := x.evRaw &&& ~~~ BitVec.twoPow 640 345 } : Die).set F.CLO_CTRL_EN 1
  |>.set F.CAL_STATE_PHASE 0 |>.set F.CLO_DRV_HALL0_POL 0 |>.set F.CLO_DRV_HALL1_POL 0).onClo (fun c =>
  { c with move := some { closing := false, seg := 2, began := 5, again := false }, hall1 := false, hall0 := true }))),
  .a, ({ closing := false, seg := 2, began := 5, again := false }), _, rfl, by decide +kernel⟩
  · exact ⟨(witState (fun x => (({ x with evRaw := x.evRaw &&& ~~~ BitVec.twoPow 640 345 } : Die).set F.CLO_CTRL_EN 1
  |>.set F.CAL_STATE_PHASE 0 |>.set F.CLO_DRV_HALL0_POL 0 |>.set F.CLO_DRV_HALL1_POL 0).onClo (fun c =>
  { c with move := some { closing := true, seg := 2, began := 5, again := false }, hall1 := false, hall0 := false }))),
  .a, ({ closing := true, seg := 2, began := 5, again := false }), _, rfl, by decide +kernel⟩
  · exact ⟨(witState (fun x => (({ x with evRaw := x.evRaw &&& ~~~ BitVec.twoPow 640 345 } : Die).set F.CLO_CTRL_EN 1
  |>.set F.CAL_STATE_PHASE 0 |>.set F.CLO_DRV_HALL0_POL 0 |>.set F.CLO_DRV_HALL1_POL 0).onClo (fun c =>
  { c with move := some { closing := true, seg := 1, began := 5, again := true }, hall1 := false, hall0 := false }))),
  .a, ({ closing := true, seg := 1, began := 5, again := true }), _, rfl, by decide +kernel⟩
  · exact ⟨(witState (fun x => (({ x with evRaw := x.evRaw &&& ~~~ BitVec.twoPow 640 345 } : Die).set F.CLO_CTRL_EN 1
  |>.set F.CAL_STATE_PHASE 0 |>.set F.CLO_DRV_HALL0_POL 0 |>.set F.CLO_DRV_HALL1_POL 0).onClo (fun c =>
  { c with move := none, hall0 := false, hall1 := false, idle := false }))), .a, _, rfl, by decide +kernel⟩
  · exact ⟨((fun s => { s with now := 2500000100 }) (witState (fun x => (((((x.set F.CLO_HTR_EN 1).set
  F.CLO_HTR_STAT_VALID 1).set F.CLO_HTR_STAT_READY 0).setS F.CLO_HTR_STAT_TEMP 40100).setS F.CLO_HTR_TARGET
  4000).onClo (fun c => { c with heatFrom := some 100, bandFrom := some 100 })))), .a, _, rfl, by decide +kernel⟩
  · exact ⟨(witState (fun x => x.set F.CLO_HTR_EN 0)), .a, _, rfl, by decide +kernel⟩

theorem witness_Calibration :
    (∃ (s : State) (d : DieId) (x : Die), s.die d = x ∧ s.running d ∧ (x.jobRuns 1 = true) ∧ (x.on F.CAL_CTRL_EN =
      true) ∧ (x.on F.CAL_CTRL_AUTO = true) ∧ (x.condOn 357 = false) ∧ (x.cal.hostDue = false) ∧ (x.cal.event = none)
      ∧ (x.get F.CAL_STATE_PHASE = 0) ∧ (x.firstDue s.now = true)) ∧
    (∃ (s : State) (d : DieId) (x : Die), s.die d = x ∧ s.running d ∧ (x.jobRuns 1 = true) ∧ (x.on F.CAL_CTRL_EN =
      true) ∧ (x.on F.CAL_CTRL_AUTO = true) ∧ (x.condOn 357 = false) ∧ (x.cal.hostDue = false) ∧ (x.cal.event = none)
      ∧ (x.get F.CAL_STATE_PHASE = 0) ∧ (x.firstDue s.now = false) ∧ (x.get F.CAL_PRED_PRED < x.get
      F.CAL_DRIFT1_LIMIT) ∧ (x.interval ≤ x.calAge s.now)) ∧
    (∃ (s : State) (d : DieId) (first : Bool) (x : Die), s.die d = x ∧ s.running d ∧ (x.jobRuns 1 = false ∨ (first =
      true ∧ x.firstDue s.now = false) ∨ (first = false ∧ x.calAge s.now < x.interval))) ∧
    (∃ (s : State) (d : DieId) (x : Die), s.die d = x ∧ s.running d ∧ (x.get F.CAL_STATE_PHASE = 1) ∧ (x.cal.deferred
      = false) ∧ (secsPassed s.now x.cal.waitFrom (x.get F.CAL_POLICY_DEFER_MAX) = true)) ∧
    (∃ (s : State) (d : DieId) (x : Die), s.die d = x ∧ s.running d ∧ (x.mayStart (s.die d.other) s.now = true) ∧
      (x.planF ≠ 0)) ∧
    (∃ (s : State) (d : DieId) (x : Die), s.die d = x ∧ s.running d ∧ (x.mayStart (s.die d.other) s.now = true) ∧
      (x.planF = 0)) ∧
    (∃ (s : State) (d : DieId) (e : CalEvent) (x : Die), s.die d = x ∧ s.running d ∧ (x.jobRuns 1 = true) ∧
      (x.cal.event = some e) ∧ (e.writing = true) ∧ (e.accepted = false) ∧ (e.armed = false)) ∧
    (∃ (s : State) (d : DieId) (lo : Nat) (hi : Nat) (x : Die), s.die d = x ∧ s.running d ∧ (x.jobRuns 1 = true) ∧
      (x.on F.CAL_CTRL_BG_EN = true) ∧ (x.takes 0x28 = true) ∧ (512 ≤ x.cal.words) ∧ (x.converts 1 = true) ∧
      (x.coreChecked 1 2 0 = true) ∧ (lo < hi) ∧ (x.cal.ests = []) ∧ (x.cal.trims = [])) ∧
    (∃ (s : State) (d : DieId) (v : Int) (x : Die), s.die d = x ∧ s.running d ∧ (x.jobRuns 1 = true) ∧ (x.on
      F.CAL_CTRL_BG_EN = true) ∧ (x.takes 0x28 = true) ∧ (512 ≤ x.cal.words) ∧ (x.converts 1 = true) ∧ (x.coreChecked
      1 2 0 = true) ∧ (x.coreChecked 1 2 1 = true) ∧ (x.cal.ests = [((F.bgTrim 1 2 4).key, x.getS (F.CLU_SKEW_SKEW 1
      2) - nearestInt v 512)]) ∧ (x.cal.trims = []) ∧ (nearestInt v 512 < 0) ∧ (x.getS (F.CLU_SKEW_SKEW 1 2) < 31) ∧
      (x.commitPending 0x81 = false)) ∧
    (∃ (s : State) (d : DieId) (x : Die), s.die d = x ∧ s.running d ∧ (x.cal.words < 512 ∨ x.on F.CAL_CTRL_BG_EN =
      false)) ∧
    (∃ (s : State) (d : DieId) (x : Die), s.die d = x ∧ s.running d ∧ (x.jobRuns 1 = true) ∧ (x.takes 0x28 = true) ∧
      (x.recordDue s.now = true) ∧ (x.cal.record = none) ∧ (x.nvsHalted = false) ∧ (x.canRead 320 256 = true)) ∧
    (∃ (s : State) (d : DieId) (x : Die), s.die d = x ∧ s.running d ∧ (x.recordDue s.now = false)) ∧
    (∃ (s : State) (d : DieId) (slot : Nat) (gen : Nat) (x : Die), s.die d = x ∧ s.running d ∧ (x.cal.record = some
      (slot, gen)) ∧ (x.cal.recordMbx = false) ∧ (leAt (x.nvs.logical (slotPage true slot)) 3 1 = 2) ∧ (x.nvs.slotGen
      true slot = gen)) ∧
    (∃ (s : State) (d : DieId) (who : DieId) (reason : Nat) (x : Die), s.die d = x ∧ s.running d ∧ (x.arbitrates
      (s.die d.other) = true) ∧ (x.inGroup (s.die d.other) false who = true) ∧ (reason ≠ 0) ∧ (x.cal.requests = [])) ∧
    (∃ (s : State) (d : DieId) (x : Die), s.die d = x ∧ s.running d ∧ (x.arbitrates (s.die d.other) = true)) ∧
    (∃ (s : State) (d : DieId) (x : Die), s.die d = x ∧ s.running d ∧ (x.pairRole = 2) ∧ (x.partnerIn (s.die d.other)
      = true) ∧ (x.pairBars (s.die d.other) = false) ∧ (x.on F.CAL_PAIR_WAIT = true)) ∧
    (∃ (s : State) (d : DieId) (r : StaggerReq) (x : Die), s.die d = x ∧ s.running d ∧ (x.mayGrant (s.die d.other)
      s.now = true) ∧ (x.liveRequests (s.die d.other) x.cal.requests = [r]) ∧ (r.partner = false) ∧ (r.die = d)) ∧
    (∃ (s : State) (d : DieId) (x : Die), s.die d = x ∧ s.running d ∧ (x.mayGrant (s.die d.other) s.now = false)) ∧
    (∃ (s : State) (d : DieId) (x : Die), s.die d = x ∧ s.running d ∧ (x.on F.CAL_PAIR_GRANT = true) ∧ (x.openRest =
      true)) := by
  refine ⟨?_, ?_, ?_, ?_, ?_, ?_, ?_, ?_, ?_, ?_, ?_, ?_, ?_, ?_, ?_, ?_, ?_, ?_, ?_⟩
  · exact ⟨(witState (fun x =>
  ({ (((x.set F.CAL_CTRL_EN 1).set F.CAL_CTRL_AUTO 1).set F.CAL_STATE_PHASE 0).set F.PWR_STATE_STATE 0 |>.set F.RST_START_KIND 0 |>.set F.CAL_POLICY_FIRST 4 |>.set F.CAL_POLICY_MAX_INT 0 |>.set F.CAL_PRED_PRED 0 |>.set F.CAL_DRIFT1_LIMIT 65535 with evRaw := 0 }
  : Die).onCal (fun c => { c with rakeAt := some 0, acceptedOnce := false }))), .a, _, rfl, by decide +kernel⟩
  · exact ⟨(witState (fun x =>
  ({ (((x.set F.CAL_CTRL_EN 1).set F.CAL_CTRL_AUTO 1).set F.CAL_STATE_PHASE 0).set F.PWR_STATE_STATE 0 |>.set F.RST_START_KIND 0 |>.set F.CAL_POLICY_FIRST 4 |>.set F.CAL_POLICY_MAX_INT 0 |>.set F.CAL_PRED_PRED 0 |>.set F.CAL_DRIFT1_LIMIT 65535 with evRaw := 0 }
  : Die).onCal (fun c => { c with acceptedOnce := true }))), .a, _, rfl, by decide +kernel⟩
  · exact ⟨(witState (fun x => x.set F.PWR_STATE_STATE 2)), .a, false, _, rfl, by decide +kernel⟩
  · exact ⟨(witState (fun x => (x.set F.CAL_STATE_PHASE 1).set F.CAL_POLICY_DEFER_MAX 4)), .a, _, rfl, by decide +kernel⟩
  · exact ⟨(witState (fun x => ((((((x.set F.CAL_STATE_PHASE 1).set F.CAL_CTRL_EN 1).set F.CLO_CTRL_EN 1).set
  F.SEQ_PC_STATE 1).set F.PWR_STATE_STATE 0).set F.CAL_PAIR_GRANT 1).set F.CAL_STATE_REASON 5 |>.set F.RST_START_KIND
  0 |>.set F.CAL_PAIR_PAIR 0 |>.set F.SEQ_FRAME_LEN_LEN 833333 |>.set F.CLO_TMAX_FORCE 2000 |>.set F.CLO_POS_CLOSE_T
  40 |>.set F.CLO_DRV_HALL0_POL 0 |>.set F.CLO_DRV_HALL1_POL 0 |>.set (F.BRST_ACTIVE 0x28) 0 |>.set (F.BRST_ACTIVE
  0x29) 0 |> fun x => { x with evRaw := 0 })), .a, _, rfl, by decide +kernel⟩
  · exact ⟨(witState (fun x => ((((((x.set F.CAL_STATE_PHASE 1).set F.CAL_CTRL_EN 1).set F.CLO_CTRL_EN 1).set
  F.SEQ_PC_STATE 1).set F.PWR_STATE_STATE 0).set F.CAL_PAIR_GRANT 1).set F.CAL_STATE_REASON 5 |>.set F.RST_START_KIND
  0 |>.set F.CAL_PAIR_PAIR 0 |>.set F.SEQ_FRAME_LEN_LEN 50000000 |>.set F.CLO_TMAX_FORCE 100 |>.set F.CLO_POS_CLOSE_T
  250 |>.set F.CLO_DRV_HALL0_POL 0 |>.set F.CLO_DRV_HALL1_POL 0 |>.set (F.BRST_ACTIVE 0x28) 0 |>.set (F.BRST_ACTIVE
  0x29) 0 |> fun x => { x with evRaw := 0 })), .a, _, rfl, by decide +kernel⟩
  · exact ⟨(witState (fun x => x.onCal (fun c =>
  { c with event := some { ({ gain := 0, f := 4, warm := false, first := 0, settleFrame := 1, groupA := 2, groupB := 6, last := 9, plane := 0, tf0 := 0, th0 := 0 } : CalEvent) with writing := true } }))),
  .a,
  ({ ({ gain := 0, f := 4, warm := false, first := 0, settleFrame := 1, groupA := 2, groupB := 6, last := 9, plane := 0, tf0 := 0, th0 := 0 } : CalEvent) with writing := true }),
  _, rfl, by decide +kernel⟩
  · exact ⟨(witState (fun x => ((x.set F.CAL_CTRL_BG_EN 1).set F.PWR_STATE_STATE 0 |>.set F.RST_START_KIND 0 |>.set
  (F.BRST_ACTIVE 0x28) 0 |>.set F.SEQ_ARRAY_NCLU_M1 31 |>.set F.ACB_CTRL_EN 1 |>.set (F.CLU_CTRL_EN 1) 1 |>.set
  (F.CLU_CORE0_OUT_OUT 1) 0 |>.set (F.CLU_CORE1_OUT_OUT 1) 0 |>.set F.ACB_MODE_LPM 0 |>.set (F.COMMIT_STAT_PENDING
  0x81) 0).onCal (fun c => { c with words := 600 }))), .a, 1048576, 7340000, _, rfl, by decide +kernel⟩
  · exact ⟨(witState (fun x => ((x.set F.CAL_CTRL_BG_EN 1).set F.PWR_STATE_STATE 0 |>.set F.RST_START_KIND 0 |>.set
  (F.BRST_ACTIVE 0x28) 0 |>.set F.SEQ_ARRAY_NCLU_M1 31 |>.set F.ACB_CTRL_EN 1 |>.set (F.CLU_CTRL_EN 1) 1 |>.set
  (F.CLU_CORE0_OUT_OUT 1) 0 |>.set (F.CLU_CORE1_OUT_OUT 1) 0 |>.set F.ACB_MODE_LPM 0 |>.set (F.COMMIT_STAT_PENDING
  0x81) 0 |>.set (F.CLU_SKEW_SKEW 1 2) 7).onCal (fun c =>
  { c with words := 512, ests := [((F.bgTrim 1 2 4).key, 9)] }))), .a, -1024, _, rfl, by decide +kernel⟩
  · exact ⟨(witState (fun x => x)), .a, _, rfl, by decide +kernel⟩
  · exact ⟨(witState (fun x => ((x.set F.NVS_STATE_EP_ONLY 0 |>.set F.NVS_STATE_READY 1).set F.NVS_STATE_STOPPED 0
  |>.set F.PWR_STATE_STATE 0 |>.set F.RST_START_KIND 0 |>.set (F.BRST_ACTIVE 0x28) 0).onCal (fun c =>
  { c with recordDue := true }))), .a, _, rfl, by decide +kernel⟩
  · exact ⟨(witState (fun x => x)), .a, _, rfl, by decide +kernel⟩
  · exact ⟨(witState (fun x =>
  ({ x with nvs := { x.nvs with pages := [(640, PhysPage.rewrite {} (slotHeader true 2 9 107 0) 1 0)] } } : Die).onCal
  (fun c => { c with record := some (0, 9) }))), .a, 0, 9, _, rfl, by decide +kernel⟩
  · exact ⟨(witState (fun x => (x.set F.SYS_IDENT_LEAD 1).set F.SYS_IDENT_PKGCFG 0 |>.set F.CAL_PAIR_LOCAL 1 |>.set
  F.D2D_STAT_UP 1)), .a, .b, 4, _, rfl, by decide +kernel⟩
  · exact ⟨(witState (fun x => x.set F.SYS_IDENT_LEAD 1 |>.set F.SYS_IDENT_PKGCFG 0)), .a, _, rfl, by decide +kernel⟩
  · exact ⟨(witState (fun x =>
  { ((x.set F.CAL_PAIR_WAIT 1).set F.SYS_IDENT_LEAD 1).set F.SYS_IDENT_PKGCFG 8 |>.set F.SYS_IDENT_PKG 1 |>.set F.CAL_PAIR_PAIR 1 |>.set F.PRL_STAT_UP 1 |>.set F.PRL_STAT_ROLE_BAD 0 |>.set F.PRL_STAT_FAILED 0 with prl := { x.prl with missed := false } })),
  .a, _, rfl, by decide +kernel⟩
  · exact ⟨(witState (fun x => ((x.set F.SYS_IDENT_LEAD 1).set F.CAL_PAIR_WAIT 1).set F.SYS_IDENT_PKGCFG 0 |>.set
  F.SYS_IDENT_DIE 0 |>.onCal (fun c =>
  { c with requests := [{ partner := false, die := .a, reason := 5, came := 3 }] }))), .a,
  ({ partner := false, die := .a, reason := 5, came := 3 }), _, rfl, by decide +kernel⟩
  · exact ⟨(witState (fun x => (x.set F.SYS_IDENT_LEAD 0).set F.CAL_PAIR_LOCAL 1)), .a, _, rfl, by decide +kernel⟩
  · exact ⟨(witState (fun x => (x.set F.CAL_PAIR_GRANT 1).set F.CLO_CTRL_EN 0)), .a, _, rfl, by decide +kernel⟩

theorem witness_CameraPackets :
    (∃ (s : State) (d : DieId) (port : Fin 4) (vc : Nat) (n : Nat) (x : Die), s.die d = x ∧ s.running d ∧ (x.on
      (F.CTRL_EN (csiPage port.val)) = true) ∧ (x.portCtxs port.val vc = [n]) ∧ (x.on (F.CTX_SRC_EN n) = true) ∧
      ((x.ctxOf n).rx = false) ∧ (x.takes (csiPage port.val) = true) ∧ ((x.ctxOf n).active = true ∨ (x.ctxOf
      n).askedAt ≠ some s.now)) ∧
    (∃ (s : State) (d : DieId) (port : Fin 4) (vc : Nat) (n : Nat) (x : Die), s.die d = x ∧ s.running d ∧ (x.on
      (F.CTRL_EN (csiPage port.val)) = true) ∧ (x.portCtxs port.val vc = [n]) ∧ (x.on (F.CTX_SRC_EN n) = true) ∧
      ((x.ctxOf n).rx = false) ∧ (x.takes (csiPage port.val) = false)) ∧
    (∃ (s : State) (d : DieId) (port : Fin 4) (vc : Nat) (n : Nat) (x : Die), s.die d = x ∧ s.running d ∧ (x.on
      (F.CTRL_EN (csiPage port.val)) = true) ∧ (x.portCtxs port.val vc = [n]) ∧ (x.on (F.CTX_SRC_EN n) = true) ∧
      ((x.ctxOf n).rx = false) ∧ (x.takes (csiPage port.val) = true) ∧ ((x.ctxOf n).active = false) ∧ ((x.ctxOf
      n).askedAt = some s.now) ∧ ((x.ctxOf n).frames = []) ∧ ((x.ctxOf n).holds = [])) ∧
    (∃ (s : State) (d : DieId) (port : Fin 4) (vc : Nat) (x : Die), s.die d = x ∧ s.running d ∧ (x.on (F.CTRL_EN
      (csiPage port.val)) = true) ∧ (x.portCtxs port.val vc = [])) ∧
    (∃ (s : State) (d : DieId) (port : Fin 4) (vc : Nat) (n : Nat) (f : CtxFrame) (x : Die), s.die d = x ∧ s.running d
      ∧ (x.on (F.CTRL_EN (csiPage port.val)) = true) ∧ (x.portCtxs port.val vc = [n]) ∧ (x.on (F.CTX_SRC_EN n) = true)
      ∧ ((x.ctxOf n).rx = true) ∧ ((x.ctxOf n).discarding = false) ∧ ((x.ctxOf n).frames = [f])) ∧
    (∃ (s : State) (d : DieId) (port : Fin 4) (vc : Nat) (dt : Nat) (n : Nat) (f : CtxFrame) (x : Die), s.die d = x ∧
      s.running d ∧ (x.on (F.CTRL_EN (csiPage port.val)) = true) ∧ (x.portCtxs port.val vc = [n]) ∧ (x.get
      (F.CTX_SRC_DT n) = dt) ∧ (dt ≠ 0x12) ∧ ((x.ctxOf n).rx = true) ∧ ((x.ctxOf n).discarding = false) ∧ ((x.ctxOf
      n).held = []) ∧ ((x.ctxOf n).frames = [f]) ∧ (f.units = []) ∧ (f.lens = []) ∧ (0 < f.lines) ∧ (f.ended = false)
      ∧ ((x.freeSlot n).isSome = true) ∧ (x.bufferFill n ≤ x.bufferSize n)) ∧
    (∃ (s : State) (d : DieId) (port : Fin 4) (vc : Nat) (n : Nat) (f : CtxFrame) (x : Die), s.die d = x ∧ s.running d
      ∧ (x.on (F.CTRL_EN (csiPage port.val)) = true) ∧ (x.portCtxs port.val vc = [n]) ∧ ((x.ctxOf n).rx = true) ∧
      ((x.ctxOf n).discarding = false) ∧ ((x.ctxOf n).frames = [f])) ∧
    (∃ (s : State) (d : DieId) (port : Fin 4) (x : Die), s.die d = x ∧ s.running d ∧ (x.on (F.CTRL_EN (csiPage
      port.val)) = true)) ∧
    (∃ (s : State) (d : DieId) (port : Fin 4) (vc : Nat) (x : Die), s.die d = x ∧ s.running d ∧ (x.on (F.CTRL_EN
      (csiPage port.val)) = true) ∧ (vc < 16)) ∧
    (∃ (s : State) (d : DieId) (port : Fin 4) (vc : Nat) (x : Die), s.die d = x ∧ s.running d ∧ (x.on (F.CTRL_EN
      (csiPage port.val)) = true) ∧ (vc < 16)) ∧
    (∃ (s : State) (d : DieId) (port : Fin 4) (vc : Nat) (x : Die), s.die d = x ∧ s.running d ∧ (x.on (F.CTRL_EN
      (csiPage port.val)) = true) ∧ (vc < 16)) ∧
    (∃ (s : State) (d : DieId) (port : Fin 4) (vc : Nat) (n : Nat) (f : CtxFrame) (x : Die), s.die d = x ∧ s.running d
      ∧ (x.portCtxs port.val vc = [n]) ∧ ((x.ctxOf n).rx = true) ∧ ((x.ctxOf n).discarding = false) ∧ ((x.ctxOf
      n).frames = [f])) ∧
    (∃ (s : State) (d : DieId) (port : Fin 4) (x : Die), s.die d = x ∧ s.running d ∧ (x.on (F.CTRL_EN (csiPage
      port.val)) = true)) ∧
    (∃ (s : State) (d : DieId) (port : Fin 4) (x : Die), s.die d = x ∧ s.running d ∧ (x.on (F.CTRL_EN (csiPage
      port.val)) = true)) := by
  refine ⟨?_, ?_, ?_, ?_, ?_, ?_, ?_, ?_, ?_, ?_, ?_, ?_, ?_, ?_⟩
  · exact ⟨(witState (fun x => ((((x.set (F.CTRL_EN 0x40) 1).set (F.CTX_SRC_SRC 2) 1).set (F.CTX_SRC_VC 2) 3 |>.set
  (F.CTX_SRC_EN 2) 1 |>.set (F.CTX_SRC_DT 2) 0x2A |>.set (F.CTX_SRC_IN_SLOTS_M1 2) 1 |>.set (F.CTX_SRC_SRC 0) 0 |>.set
  (F.CTX_SRC_SRC 1) 0 |>.set (F.CTX_SRC_SRC 3) 0 |>.set (F.CTX_SRC_SRC 5) 0).onIpp (fun i =>
  { i with ctx := [{}, {}, { active := true }] })).set (F.BRST_ACTIVE 0x40) 0)), .a, 0, 3, 2, _, rfl, by decide +kernel⟩
  · exact ⟨(witState (fun x => ((((x.set (F.CTRL_EN 0x40) 1).set (F.CTX_SRC_SRC 2) 1).set (F.CTX_SRC_VC 2) 3 |>.set
  (F.CTX_SRC_EN 2) 1 |>.set (F.CTX_SRC_DT 2) 0x2A |>.set (F.CTX_SRC_IN_SLOTS_M1 2) 1 |>.set (F.CTX_SRC_SRC 0) 0 |>.set
  (F.CTX_SRC_SRC 1) 0 |>.set (F.CTX_SRC_SRC 3) 0 |>.set (F.CTX_SRC_SRC 5) 0).onIpp (fun i =>
  { i with ctx := [{}, {}, { active := true }] })).set (F.BRST_ACTIVE 0x40) 1)), .a, 0, 3, 2, _, rfl, by decide +kernel⟩
  · exact ⟨(witState (fun x => ((((x.set (F.CTRL_EN 0x40) 1).set (F.CTX_SRC_SRC 2) 1).set (F.CTX_SRC_VC 2) 3 |>.set
  (F.CTX_SRC_EN 2) 1 |>.set (F.CTX_SRC_DT 2) 0x2A |>.set (F.CTX_SRC_IN_SLOTS_M1 2) 1 |>.set (F.CTX_SRC_SRC 0) 0 |>.set
  (F.CTX_SRC_SRC 1) 0 |>.set (F.CTX_SRC_SRC 3) 0 |>.set (F.CTX_SRC_SRC 5) 0).onIpp (fun i =>
  { i with ctx := [{}, {}, { active := false, askedAt := some 1000000000 }] })).set (F.BRST_ACTIVE 0x40) 0)), .a, 0,
  3, 2, _, rfl, by decide +kernel⟩
  · exact ⟨(witState (fun x => x.set (F.CTRL_EN 0x43) 1)), .a, 3, 9, _, rfl, by decide +kernel⟩
  · exact ⟨(witState (fun x => (((x.set (F.CTRL_EN 0x40) 1).set (F.CTX_SRC_SRC 2) 1).set (F.CTX_SRC_VC 2) 3 |>.set
  (F.CTX_SRC_EN 2) 1 |>.set (F.CTX_SRC_DT 2) 0x2A |>.set (F.CTX_SRC_IN_SLOTS_M1 2) 1 |>.set (F.CTX_SRC_SRC 0) 0 |>.set
  (F.CTX_SRC_SRC 1) 0 |>.set (F.CTX_SRC_SRC 3) 0 |>.set (F.CTX_SRC_SRC 5) 0).onIpp (fun i =>
  { i with ctx := [{}, {}, { active := true, rx := true, frames := [{ num := 4, lines := 3, width := 4 }] }] }))), .a,
  0, 3, 2, ({ num := 4, lines := 3, width := 4 }), _, rfl, by decide +kernel⟩
  · exact ⟨(witState (fun x => (((x.set (F.CTRL_EN 0x40) 1).set (F.CTX_SRC_SRC 2) 1).set (F.CTX_SRC_VC 2) 3 |>.set
  (F.CTX_SRC_EN 2) 1 |>.set (F.CTX_SRC_DT 2) 0x2A |>.set (F.CTX_SRC_IN_SLOTS_M1 2) 1 |>.set (F.CTX_SRC_SRC 0) 0 |>.set
  (F.CTX_SRC_SRC 1) 0 |>.set (F.CTX_SRC_SRC 3) 0 |>.set (F.CTX_SRC_SRC 5) 0).onIpp (fun i =>
  { i with ctx := [{}, {}, { active := true, rx := true, frames := [{ num := 4, lines := 3, width := 4 }] }] }))), .a,
  0, 3, 0x2A, 2, ({ num := 4, lines := 3, width := 4 }), _, rfl, by decide +kernel⟩
  · exact ⟨(witState (fun x => (((x.set (F.CTRL_EN 0x40) 1).set (F.CTX_SRC_SRC 2) 1).set (F.CTX_SRC_VC 2) 3 |>.set
  (F.CTX_SRC_EN 2) 1 |>.set (F.CTX_SRC_DT 2) 0x2A |>.set (F.CTX_SRC_IN_SLOTS_M1 2) 1 |>.set (F.CTX_SRC_SRC 0) 0 |>.set
  (F.CTX_SRC_SRC 1) 0 |>.set (F.CTX_SRC_SRC 3) 0 |>.set (F.CTX_SRC_SRC 5) 0).onIpp (fun i =>
  { i with ctx := [{}, {}, { active := true, rx := true, frames := [{ num := 4, lines := 3, width := 4 }] }] }))), .a,
  0, 3, 2, ({ num := 4, lines := 3, width := 4 }), _, rfl, by decide +kernel⟩
  · exact ⟨(witState (fun x => x.set (F.CTRL_EN 0x43) 1)), .a, 3, _, rfl, by decide +kernel⟩
  · exact ⟨(witState (fun x => x.set (F.CTRL_EN 0x40) 1)), .a, 0, 0, _, rfl, by decide +kernel⟩
  · exact ⟨(witState (fun x => x.set (F.CTRL_EN 0x40) 1)), .a, 0, 0, _, rfl, by decide +kernel⟩
  · exact ⟨(witState (fun x => x.set (F.CTRL_EN 0x40) 1)), .a, 0, 0, _, rfl, by decide +kernel⟩
  · exact ⟨(witState (fun x => (((x.set (F.CTRL_EN 0x40) 1).set (F.CTX_SRC_SRC 2) 1).set (F.CTX_SRC_VC 2) 3 |>.set
  (F.CTX_SRC_EN 2) 1 |>.set (F.CTX_SRC_DT 2) 0x2A |>.set (F.CTX_SRC_IN_SLOTS_M1 2) 1 |>.set (F.CTX_SRC_SRC 0) 0 |>.set
  (F.CTX_SRC_SRC 1) 0 |>.set (F.CTX_SRC_SRC 3) 0 |>.set (F.CTX_SRC_SRC 5) 0).onIpp (fun i =>
  { i with ctx := [{}, {}, { active := true, rx := true, frames := [{ num := 4, lines := 3, width := 4 }] }] }))), .a,
  0, 3, 2, ({ num := 4, lines := 3, width := 4 }), _, rfl, by decide +kernel⟩
  · exact ⟨(witState (fun x => x.set (F.CTRL_EN 0x40) 1)), .a, 0, _, rfl, by decide +kernel⟩
  · exact ⟨(witState (fun x => x.set (F.CTRL_EN 0x40) 1)), .a, 0, _, rfl, by decide +kernel⟩

theorem witness_PipelineUnits :
    (∃ (s : State) (d : DieId) (n : Nat) (val : Nat) (x : Die), s.die d = x ∧ s.running d ∧ (n < 8) ∧ (x.ctxRejects n
      val = false) ∧ ((x.ctxOf n).active = false)) ∧
    (∃ (s : State) (d : DieId) (n : Nat) (val : Nat) (x : Die), s.die d = x ∧ s.running d ∧ (n < 8) ∧
      ((F.CTX_SRC_SHARE n).ofWord val = 3 ∨ 4 < (F.CTX_SRC_SRC n).ofWord val ∨ (F.CTX_SRC_IN_SLOTS_M1 n).ofWord val =
      0)) ∧
    (∃ (s : State) (d : DieId) (n : Nat) (x : Die), s.die d = x ∧ s.running d ∧ (n < 8) ∧ ((x.ctxOf n).tokens.length <
      8)) ∧
    (∃ (s : State) (d : DieId) (n : Nat) (x : Die), s.die d = x ∧ s.running d ∧ (n < 8) ∧ (8 ≤ (x.ctxOf
      n).tokens.length)) ∧
    (∃ (s : State) (d : DieId) (n : Nat) (f : CtxFrame) (u : RingUnit) (x : Die), s.die d = x ∧ s.running d ∧
      (x.ipp.running = none) ∧ (x.ippAccepts = true) ∧ (n < 8) ∧ (x.readyUnit n = some (f, u)) ∧ (x.starved n = false)
      ∧ (∀ k ∈ List.range 8, k ≠ n → x.readyUnit k = none)) ∧
    (∃ (s : State) (d : DieId) (n : Nat) (x : Die), s.die d = x ∧ s.running d ∧ (x.ipp.running = some n)) ∧
    (∃ (s : State) (d : DieId) (v : VtxFrame) (x : Die), s.die d = x ∧ s.running d ∧ (x.ipp.vtxNext = some v) ∧
      (x.ipp.vtx = none) ∧ (x.on (F.CTRL_EN 0x47) = true) ∧ (x.takes 0x47 = true) ∧ (x.on F.VTX_CTRL_EMB = false)) ∧
    (∃ (s : State) (d : DieId) (x : Die), s.die d = x ∧ s.running d ∧ (x.ipp.vtxNext = none ∨ x.ipp.vtx.isSome = true
      ∨ x.on (F.CTRL_EN 0x47) = false ∨ x.takes 0x47 = false)) ∧
    (∃ (s : State) (d : DieId) (v : VtxFrame) (x : Die), s.die d = x ∧ s.running d ∧ (x.ipp.vtx = some v) ∧ (∀ g ∈
      (x.ctxOf v.ctx).frames, g.num ≠ v.num)) ∧
    (∃ (s : State) (d : DieId) (v : VtxFrame) (b : OutBuf) (x : Die), s.die d = x ∧ s.running d ∧ (x.ipp.vtx = some v)
      ∧ (∀ g ∈ (x.ctxOf v.ctx).frames, g.num ≠ v.num) ∧ (x.ipp.bufs = [b]) ∧ (x.ipp.done = []) ∧ (b.ctx = v.ctx ∧
      b.out = 0 ∧ b.num = v.buf ∧ b.bytes ≠ [])) ∧
    (∃ (s : State) (d : DieId) (f : CtxFrame) (v : VtxFrame) (x : Die), s.die d = x ∧ s.running d ∧ (x.ipp.vtx = some
      v) ∧ (x.ipp.under = false) ∧ (f ∈ (x.ctxOf v.ctx).frames) ∧ (f.num = v.num)) := by
  refine ⟨?_, ?_, ?_, ?_, ?_, ?_, ?_, ?_, ?_, ?_, ?_⟩
  · exact ⟨(witState (fun x => x.set (F.CTX_SRC_EN 7) 0)), .a, 7, 0x24252b30, _, rfl, by decide +kernel⟩
  · exact ⟨(witState (fun x => x)), .a, 7, 0, _, rfl, by decide +kernel⟩
  · exact ⟨(witState (fun x => x)), .a, 7, _, rfl, by decide +kernel⟩
  · exact ⟨(witState (fun x => x.onIpp (fun i =>
  { i with ctx := [{ tokens := List.replicate 8 { due := none, value := 0, snap := [] } }] }))), .a, 0, _, rfl, by decide +kernel⟩
  · exact ⟨(witState (fun x => (((x.set F.IPP_CTRL_EN 1).set (F.CTX_SRC_SRC 1) 1).set (F.BRST_ACTIVE 0x44) 0).onIpp
  (fun i =>
  { i with ctx := [{}, { frames := [{ num := 4, lines := 1, width := 4, units := [{ first := 0, count := 1, slot := none, ready := some 3 }] }] }] }))),
  .a, 1, ({ num := 4, lines := 1, width := 4, units := [{ first := 0, count := 1, slot := none, ready := some 3 }] }),
  ({ first := 0, count := 1, slot := none, ready := some 3 }), _, rfl, by decide +kernel⟩
  · exact ⟨(witState (fun x => (((x.set F.IPP_CTRL_EN 1).set (F.CTX_SRC_SRC 1) 1).set (F.CTX_SRC_DT 1) 0x2A).onIpp
  (fun i =>
  { i with running := some 1, ctx := [{}, { frames := [{ num := 4, lines := 1, width := 4, lens := [4], ended := true, units := [{ first := 0, count := 1, slot := some 0, ready := some 3 }] }] }] }))),
  .a, 1, _, rfl, by decide +kernel⟩
  · exact ⟨(witState (fun x => (((x.set (F.CTRL_EN 0x47) 1).set F.VTX_CTRL_EMB 0).set (F.BRST_ACTIVE 0x47) 0).onIpp
  (fun i => { i with vtxNext := some { ctx := 1, num := 9, buf := 9, frame := { num := 9 } } }))), .a,
  ({ ctx := 1, num := 9, buf := 9, frame := { num := 9 } }), _, rfl, by decide +kernel⟩
  · exact ⟨(witState (fun x => x.set (F.BRST_ACTIVE 0x47) 1)), .a, _, rfl, by decide +kernel⟩
  · exact ⟨(witState (fun x => x.onIpp (fun i =>
  { i with vtx := some { ctx := 1, num := 9, buf := 9, frame := { num := 9 } } }))), .a,
  ({ ctx := 1, num := 9, buf := 9, frame := { num := 9 } }), _, rfl, by decide +kernel⟩
  · exact ⟨(witState (fun x => x.onIpp (fun i =>
  { i with vtx := some { ctx := 1, num := 9, buf := 9, frame := { num := 9 } }, bufs := [{ ctx := 1, out := 0, k := 0, num := 9, bytes := [7, 8, 9], width := 1, height := 2, stride := 2, fmt := 0 }] }))),
  .a, ({ ctx := 1, num := 9, buf := 9, frame := { num := 9 } }),
  ({ ctx := 1, out := 0, k := 0, num := 9, bytes := [7, 8, 9], width := 1, height := 2, stride := 2, fmt := 0 }), _,
  rfl, by decide +kernel⟩
  · exact ⟨(witState (fun x => x.onIpp (fun i =>
  { i with vtx := some { ctx := 0, num := 4, buf := 4, frame := { num := 4 } }, ctx := [{ frames := [{ num := 4, lines := 3, width := 4 }] }] }))),
  .a, ({ num := 4, lines := 3, width := 4 }), ({ ctx := 0, num := 4, buf := 4, frame := { num := 4 } }), _, rfl, by decide +kernel⟩

theorem witness_Evidence :
    (∃ (s : State) (d : DieId) (e : DoneFrame) (b : OutBuf) (x : Die), s.die d = x ∧ s.running d ∧ (x.tagging = true)
      ∧ (x.noKey = false) ∧ (x.get F.EVD_START_KIND = 0) ∧ (x.ipp.done = [e]) ∧ (e.outs = [b]) ∧ (x.evd.streams = [])
      ∧ (x.evd.lastNum = []) ∧ (x.evd.count < 63) ∧ (x.takes 0x50 = true ∨ e.late = false) ∧ (x.esn < x.esnLimit)) ∧
    (∃ (s : State) (d : DieId) (e : DoneFrame) (b : OutBuf) (x : Die), s.die d = x ∧ s.running d ∧ (x.tagging = true)
      ∧ (x.ipp.done = [e]) ∧ (e.outs = [b]) ∧ (x.takes 0x50 = true ∨ e.late = false) ∧ (x.esnLimit ≤ x.esn)) ∧
    (∃ (s : State) (d : DieId) (v : Nat) (x : Die), s.die d = x ∧ s.running d ∧ (x.jobRuns 3 = true) ∧ (x.evd.opening
      = none) ∧ (x.evd.reserving = some v) ∧ (v ≤ x.nvs.tally 0) ∧ (x.ipp.done = []) ∧ (x.esn < x.nvs.tally 0 % 2 ^
      48)) ∧
    (∃ (s : State) (d : DieId) (x : Die), s.die d = x ∧ s.running d ∧ (x.tagging = true) ∧ (x.noKey = false) ∧
      (x.evd.queue = []) ∧ (64 ≤ x.evd.count ∨ (1 ≤ x.evd.count ∧ x.evd.cutAt + 250000000 ≤ s.now))) ∧
    (∃ (s : State) (d : DieId) (x : Die), s.die d = x ∧ s.running d ∧ (x.evd.count = 0 ∨ x.evd.queue ≠ [])) ∧
    (∃ (s : State) (d : DieId) (r : SealReq) (rest : List SealReq) (x : Die), s.die d = x ∧ s.running d ∧ (x.evd.queue
      = r :: rest) ∧ (r.ask = false) ∧ (x.maySign = true) ∧ (r.type = 1) ∧ (x.evd.sealAsk = false) ∧ (x.evd.count <
      64)) ∧
    (∃ (s : State) (d : DieId) (x : Die), s.die d = x ∧ s.running d ∧ (x.evd.queue ≠ [])) ∧
    (∃ (s : State) (d : DieId) (x : Die), s.die d = x ∧ s.running d ∧ (x.evd.queue = [])) := by
  refine ⟨?_, ?_, ?_, ?_, ?_, ?_, ?_, ?_⟩
  · exact ⟨(witState (fun x => (((((x.set (F.CTRL_EN 0x50) 1).set F.EVD_CTRL_CLOSED 0).set F.EVD_START_NOKEY 0).set
  F.EVD_START_KIND 0 |>.set F.EVD_ESN_HI_ESN 0 |>.set F.EVD_ESN_LO_ESN 9 |>.set F.EVD_LIMIT_HI_LIMIT 0 |>.set
  F.EVD_LIMIT_LO_LIMIT 4000).onEvd (fun e => { e with live := true })).onIpp (fun i =>
  { i with done := [{ ctx := 1, frame := { num := 4, lines := 1, width := 2 }, outs := [{ ctx := 1, out := 0, k := 0, num := 4, bytes := [7, 8], width := 2, height := 1, stride := 2, fmt := 1, complete := true }], grafts := 0 }] }))),
  .a,
  ({ ctx := 1, frame := { num := 4, lines := 1, width := 2 }, outs := [{ ctx := 1, out := 0, k := 0, num := 4, bytes := [7, 8], width := 2, height := 1, stride := 2, fmt := 1, complete := true }], grafts := 0 }),
  ({ ctx := 1, out := 0, k := 0, num := 4, bytes := [7, 8], width := 2, height := 1, stride := 2, fmt := 1, complete := true }),
  _, rfl, by decide +kernel⟩
  · exact ⟨(witState (fun x => (((((x.set (F.CTRL_EN 0x50) 1).set F.EVD_CTRL_CLOSED 0).set F.EVD_START_NOKEY 0).set
  F.EVD_START_KIND 0 |>.set F.EVD_ESN_HI_ESN 0 |>.set F.EVD_ESN_LO_ESN 9 |>.set F.EVD_LIMIT_HI_LIMIT 0 |>.set
  F.EVD_LIMIT_LO_LIMIT 9).onEvd (fun e => { e with live := true })).onIpp (fun i =>
  { i with done := [{ ctx := 1, frame := { num := 4, lines := 1, width := 2 }, outs := [{ ctx := 1, out := 0, k := 0, num := 4, bytes := [7, 8], width := 2, height := 1, stride := 2, fmt := 1, complete := true }], grafts := 0 }] }))),
  .a,
  ({ ctx := 1, frame := { num := 4, lines := 1, width := 2 }, outs := [{ ctx := 1, out := 0, k := 0, num := 4, bytes := [7, 8], width := 2, height := 1, stride := 2, fmt := 1, complete := true }], grafts := 0 }),
  ({ ctx := 1, out := 0, k := 0, num := 4, bytes := [7, 8], width := 2, height := 1, stride := 2, fmt := 1, complete := true }),
  _, rfl, by decide +kernel⟩
  · exact ⟨(witState (fun x =>
  ({ x with nvs := { x.nvs with tallies := [[{ value := 4096, gen := 1, valid := true }]] } } : Die).set
  F.RST_START_KIND 0 |>.set F.EVD_ESN_HI_ESN 0 |>.set F.EVD_ESN_LO_ESN 9 |>.onEvd (fun e =>
  { e with reserving := some 0 }))), .a, 0, _, rfl, by decide +kernel⟩
  · exact ⟨(witState (fun x => ((((x.set (F.CTRL_EN 0x50) 1).set F.EVD_CTRL_CLOSED 0).set F.EVD_START_NOKEY 0).set
  F.EVD_START_KIND 0 |>.set F.EVD_ESN_HI_ESN 0 |>.set F.EVD_ESN_LO_ESN 9 |>.set F.EVD_LIMIT_HI_LIMIT 0 |>.set
  F.EVD_LIMIT_LO_LIMIT 4000).onEvd (fun e => { e with live := true, count := 64 }))), .a, _, rfl, by decide +kernel⟩
  · exact ⟨(witState (fun x => ((((x.set (F.CTRL_EN 0x50) 1).set F.EVD_CTRL_CLOSED 0).set F.EVD_START_NOKEY 0).set
  F.EVD_START_KIND 0 |>.set F.EVD_ESN_HI_ESN 0 |>.set F.EVD_ESN_LO_ESN 9 |>.set F.EVD_LIMIT_HI_LIMIT 0 |>.set
  F.EVD_LIMIT_LO_LIMIT 4000).onEvd (fun e => { e with live := true }))), .a, _, rfl, by decide +kernel⟩
  · exact ⟨(witState (fun x => ((((x.set (F.CTRL_EN 0x50) 1).set F.EVD_CTRL_CLOSED 0).set F.EVD_START_NOKEY 0).set
  F.EVD_START_KIND 0 |>.set F.EVD_ESN_HI_ESN 0 |>.set F.EVD_ESN_LO_ESN 9 |>.set F.EVD_LIMIT_HI_LIMIT 0 |>.set
  F.EVD_LIMIT_LO_LIMIT 4000).onEvd (fun e =>
  { e with live := true, queue := [{ type := 1, info := 0, session := 1, epoch := 4, time := 0, next := 9, limit := 4096, key := [], commit := [], keyPrev := [], entries := [], ask := false }] }))),
  .a,
  ({ type := 1, info := 0, session := 1, epoch := 4, time := 0, next := 9, limit := 4096, key := [], commit := [], keyPrev := [], entries := [], ask := false }),
  [], _, rfl, by decide +kernel⟩
  · exact ⟨(witState (fun x => ((((x.set (F.CTRL_EN 0x50) 1).set F.EVD_CTRL_CLOSED 0).set F.EVD_START_NOKEY 0).set
  F.EVD_START_KIND 0 |>.set F.EVD_ESN_HI_ESN 0 |>.set F.EVD_ESN_LO_ESN 9 |>.set F.EVD_LIMIT_HI_LIMIT 0 |>.set
  F.EVD_LIMIT_LO_LIMIT 4000).onEvd (fun e =>
  { e with live := true, queue := [{ type := 1, info := 0, session := 1, epoch := 4, time := 0, next := 9, limit := 4096, key := [], commit := [], keyPrev := [], entries := [], ask := false }] }))),
  .a, _, rfl, by decide +kernel⟩
  · exact ⟨(witState (fun x => x)), .a, _, rfl, by decide +kernel⟩

theorem witness_EvidenceClose :
    (∃ (s : State) (d : DieId) (x : Die), s.die d = x ∧ s.running d ∧ (x.evd.pfail = false) ∧ (x.boot.power ≠ 2) ∧
      (x.tagging = true) ∧ (x.noKey = false) ∧ (x.ipp.done = [])) ∧
    (∃ (s : State) (d : DieId) (x : Die), s.die d = x ∧ s.running d ∧ (x.evd.pfail = true)) ∧
    (∃ (s : State) (d : DieId) (n : Nat) (x : Die), s.die d = x ∧ s.running d ∧ (x.evd.closing = some n) ∧
      (x.evd.finalSigned = true) ∧ (x.closeWrites = false) ∧ (x.evd.ringOnly = false) ∧ (x.evd.closeAsk = false) ∧
      (x.evd.pfClose = false)) ∧
    (∃ (s : State) (d : DieId) (n : Nat) (x : Die), s.die d = x ∧ s.running d ∧ (x.evd.closing = some n) ∧
      (x.evd.finalSigned = true) ∧ (x.closeWrites = false) ∧ (x.evd.ringOnly = false) ∧ (x.evd.closeAsk = false) ∧
      (x.evd.pfClose = true)) ∧
    (∃ (s : State) (d : DieId) (x : Die), s.die d = x ∧ s.running d ∧ (x.evd.pfail = true) ∧ (x.evd.closing = none) ∧
      (x.on F.EVD_CTRL_CLOSED = false) ∧ (x.boot.power ≠ 2)) ∧
    (∃ (s : State) (d : DieId) (x : Die), s.die d = x ∧ s.running d) ∧
    (∃ (s : State) (d : DieId) (x : Die), s.die d = x ∧ s.running d ∧ (x.evd.live = true)) ∧
    (∃ (s : State) (d : DieId) (x : Die), s.die d = x ∧ s.running d ∧ (x.evd.live = false) ∧ (x.evd.opening = none)) ∧
    (∃ (s : State) (d : DieId) (o : Opening) (x : Die), s.die d = x ∧ s.running d ∧ (x.jobRuns 3 = true) ∧
      (x.evd.opening = some o) ∧ (∃ r ∈ x.nvs.queue, r.tag = .opening)) ∧
    (∃ (s : State) (d : DieId) (o : Opening) (x : Die), s.die d = x ∧ s.running d ∧ (x.jobRuns 3 = true) ∧
      (x.evd.opening = some o) ∧ (x.nvs.queue = []) ∧ (x.nvs.doing = none) ∧ (o.noKey = false)) := by
  refine ⟨?_, ?_, ?_, ?_, ?_, ?_, ?_, ?_, ?_, ?_⟩
  · exact ⟨(witState (fun x => ((((x.set (F.CTRL_EN 0x50) 1).set F.EVD_CTRL_CLOSED 0).set F.EVD_START_NOKEY 0).set
  F.EVD_START_KIND 0 |>.set F.EVD_ESN_HI_ESN 0 |>.set F.EVD_ESN_LO_ESN 9 |>.set F.EVD_LIMIT_HI_LIMIT 0 |>.set
  F.EVD_LIMIT_LO_LIMIT 4000).onEvd (fun e => { e with live := true }))), .a, _, rfl, by decide +kernel⟩
  · exact ⟨(witState (fun x => x.onEvd (fun e => { e with pfail := true }))), .a, _, rfl, by decide +kernel⟩
  · exact ⟨(witState (fun x => ((((x.set (F.CTRL_EN 0x50) 1).set F.EVD_CTRL_CLOSED 0).set F.EVD_START_NOKEY 0).set
  F.EVD_START_KIND 0 |>.set F.EVD_ESN_HI_ESN 0 |>.set F.EVD_ESN_LO_ESN 9 |>.set F.EVD_LIMIT_HI_LIMIT 0 |>.set
  F.EVD_LIMIT_LO_LIMIT 4000).onEvd (fun e => { e with live := true, closing := some 0, finalSigned := true }))), .a,
  0, _, rfl, by decide +kernel⟩
  · exact ⟨(witState (fun x => ((((x.set (F.CTRL_EN 0x50) 1).set F.EVD_CTRL_CLOSED 0).set F.EVD_START_NOKEY 0).set
  F.EVD_START_KIND 0 |>.set F.EVD_ESN_HI_ESN 0 |>.set F.EVD_ESN_LO_ESN 9 |>.set F.EVD_LIMIT_HI_LIMIT 0 |>.set
  F.EVD_LIMIT_LO_LIMIT 4000).onEvd (fun e =>
  { e with live := true, closing := some 0, finalSigned := true, pfClose := true }))), .a, 0, _, rfl, by decide +kernel⟩
  · exact ⟨(witState (fun x => (x.set F.EVD_CTRL_CLOSED 0).onEvd (fun e => { e with pfail := true }))), .a, _, rfl, by decide +kernel⟩
  · exact ⟨(witState (fun x => x)), .a, _, rfl, by decide +kernel⟩
  · exact ⟨(witState (fun x => ((((x.set (F.CTRL_EN 0x50) 1).set F.EVD_CTRL_CLOSED 0).set F.EVD_START_NOKEY 0).set
  F.EVD_START_KIND 0 |>.set F.EVD_ESN_HI_ESN 0 |>.set F.EVD_ESN_LO_ESN 9 |>.set F.EVD_LIMIT_HI_LIMIT 0 |>.set
  F.EVD_LIMIT_LO_LIMIT 4000).onEvd (fun e => { e with live := true }))), .a, _, rfl, by decide +kernel⟩
  · exact ⟨(witState (fun x => x)), .a, _, rfl, by decide +kernel⟩
  · exact ⟨(witState (fun x =>
  ({ x with nvs := { x.nvs with queue := [{ prio := 2, what := .add 1 1, tag := .opening }] } } : Die).set
  F.RST_START_KIND 0 |>.onEvd (fun e =>
  { e with opening := some { kind := 0, noKey := false, session := 5, first := 4096, key := [1], nextKey := [2], hash := [3] } }))),
  .a, ({ kind := 0, noKey := false, session := 5, first := 4096, key := [1], nextKey := [2], hash := [3] }), _, rfl,
  by decide +kernel⟩
  · exact ⟨(witState (fun x => x.set F.RST_START_KIND 0 |>.onEvd (fun e =>
  { e with opening := some { kind := 0, noKey := false, session := 5, first := 4096, key := [1], nextKey := [2], hash := [3] } }))),
  .a, ({ kind := 0, noKey := false, session := 5, first := 4096, key := [1], nextKey := [2], hash := [3] }), _, rfl,
  by decide +kernel⟩

theorem witness_FieldConverterRuns :
    (∃ (s : State) (d : DieId) (start : Nat) (mode : Nat) (x : Die), s.die d = x ∧ s.running d ∧ (x.fcvOn = true) ∧
      (x.get F.FCV_STATE_MAIN = 0) ∧ (x.get F.FCV_STATE_URG = 0) ∧ (mode = 0 ∨ mode = 1 ∨ mode = 3) ∧ (start < 64)) ∧
    (∃ (s : State) (d : DieId) (x : Die), s.die d = x ∧ s.running d ∧ (x.fcvOn = true) ∧ (x.get F.FCV_STATE_MAIN = 0)) ∧
    (∃ (s : State) (d : DieId) (x : Die), s.die d = x ∧ s.running d ∧ (x.fcvOn = true) ∧ (x.get F.FCV_STATE_MAIN = 2)
      ∧ (x.fcv.mode = 0)) ∧
    (∃ (s : State) (d : DieId) (x : Die), s.die d = x ∧ s.running d ∧ (x.on F.FCV_CTRL_EN = false ∨ 2 ≤ x.boot.power ∨
      x.takes 0x38 = false)) ∧
    (∃ (s : State) (d : DieId) (x : Die), s.die d = x ∧ s.running d ∧ (x.get F.FCV_STATE_URG = 0)) ∧
    (∃ (s : State) (d : DieId) (start : Nat) (x : Die), s.die d = x ∧ s.running d ∧ (x.fcvOn = true) ∧ (x.get
      F.FCV_STATE_URG = 0) ∧ (start < 64) ∧ (x.get F.FCV_STATE_MAIN ≠ 2)) ∧
    (∃ (s : State) (d : DieId) (start : Nat) (t : Nat) (x : Die), s.die d = x ∧ s.running d ∧ (x.fcvOn = true) ∧
      (x.get F.FCV_STATE_URG = 0) ∧ (start < 64) ∧ (x.get F.FCV_STATE_MAIN = 2) ∧ (x.fcv.mainAt ≠ some s.now) ∧
      (x.fcv.nextAt = some t) ∧ (s.now + 5 ≤ t)) ∧
    (∃ (s : State) (d : DieId) (start : Nat) (t : Nat) (x : Die), s.die d = x ∧ s.running d ∧ (x.fcvOn = true) ∧
      (x.get F.FCV_STATE_URG = 0) ∧ (start < 64) ∧ (x.get F.FCV_STATE_MAIN = 2) ∧ (x.fcv.mainAt ≠ some s.now) ∧
      (x.fcv.nextAt = some t) ∧ (t < s.now + 5) ∧ (x.fcv.mode = 0) ∧ ((x.visitNow x.fcv.mainEntry).last = true) ∧
      ((x.visitNow x.fcv.mainEntry).taken + 1 = (x.visitNow x.fcv.mainEntry).samples)) ∧
    (∃ (s : State) (d : DieId) (start : Nat) (x : Die), s.die d = x ∧ s.running d ∧ (x.fcvOn = true) ∧ (x.get
      F.FCV_STATE_URG = 0) ∧ (start < 64) ∧ (x.get F.FCV_STATE_MAIN = 2) ∧ (x.fcv.mainAt = some s.now)) ∧
    (∃ (s : State) (d : DieId) (x : Die), s.die d = x ∧ s.running d ∧ (x.fcvOn = true) ∧ (x.get F.FCV_STATE_URG = 1)) ∧
    (∃ (s : State) (d : DieId) (x : Die), s.die d = x ∧ s.running d ∧ (x.fcvOn = true) ∧ (x.get F.FCV_STATE_URG = 2)) ∧
    (∃ (s : State) (d : DieId) (rising : Bool) (x : Die), s.die d = x ∧ s.running d ∧ (x.fcvOn = true) ∧
      (x.boot.banks.getLsbD 1 = false) ∧ (x.get F.FCV_TRIG_EDGE = (if rising then 1 else 2)) ∧ (x.on F.FCV_TRIG_DEST =
      true) ∧ (x.get F.FCV_STATE_URG = 0)) ∧
    (∃ (s : State) (d : DieId) (x : Die), s.die d = x ∧ s.running d ∧ (x.fcvOn = true) ∧ (x.boot.banks.getLsbD 1 =
      false) ∧ (x.get F.FCV_TRIG_EDGE = 3) ∧ (x.on F.FCV_TRIG_DEST = false) ∧ (x.fcv.mode = 2) ∧ (x.get
      F.FCV_STATE_MAIN = 1) ∧ (x.get F.FCV_STATE_URG = 0)) ∧
    (∃ (s : State) (d : DieId) (rising : Bool) (x : Die), s.die d = x ∧ s.running d ∧ (x.get F.FCV_TRIG_EDGE = (if
      rising then 2 else 1) ∨ x.fcvOn = false)) ∧
    (∃ (s : State) (d : DieId) (x : Die), s.die d = x ∧ s.running d ∧ (x.fcvOn = true) ∧ (x.fcv.mode = 1) ∧ (x.get
      F.FCV_STATE_MAIN = 1) ∧ (x.get F.FCV_STATE_URG = 0)) ∧
    (∃ (s : State) (d : DieId) (x : Die), s.die d = x ∧ s.running d ∧ (x.fcvOn = true) ∧ (x.fcv.mode = 1) ∧ (x.get
      F.FCV_STATE_MAIN = 2)) ∧
    (∃ (s : State) (d : DieId) (volts : List Int) (x : Die), s.die d = x ∧ s.running d ∧ (x.fcvRuns = true) ∧ (x.get
      F.FCV_STATE_URG = 1) ∧ (x.get F.FCV_STATE_MAIN = 3) ∧ ((x.visitNow x.fcv.urgEntry).last = true) ∧ ((x.visitNow
      x.fcv.urgEntry).samples ≤ volts.length)) := by
  refine ⟨?_, ?_, ?_, ?_, ?_, ?_, ?_, ?_, ?_, ?_, ?_, ?_, ?_, ?_, ?_, ?_, ?_⟩
  · exact ⟨(witState (fun x => ((((x.set F.FCV_CTRL_EN 1).set (F.BRST_ACTIVE 0x38) 0).set F.FCV_STATE_MAIN 0).set
  F.FCV_STATE_URG 0))), .a, 5, 3, _, rfl, by decide +kernel⟩
  · exact ⟨(witState (fun x => ((((x.set F.FCV_CTRL_EN 1).set (F.BRST_ACTIVE 0x38) 0).set F.FCV_STATE_MAIN 0).set
  F.FCV_STATE_URG 0))), .a, _, rfl, by decide +kernel⟩
  · exact ⟨(witState (fun x => ((((x.set F.FCV_CTRL_EN 1).set (F.BRST_ACTIVE 0x38) 0).set F.FCV_STATE_MAIN 2).set
  F.FCV_STATE_URG 0))), .a, _, rfl, by decide +kernel⟩
  · exact ⟨(witState (fun x => { x.set F.FCV_CTRL_EN 1 with boot := { x.boot with power := 2 } })), .a, _, rfl, by decide +kernel⟩
  · exact ⟨(witState (fun x => (((((x.set F.FCV_CTRL_EN 1).set (F.BRST_ACTIVE 0x38) 0).set F.FCV_STATE_MAIN 2).set
  F.FCV_STATE_URG 0)).onFcv (fun f =>
  { f with sampleAt := some 999999990, visit := some { entry := 3, ch := 2, diff := false, queue := true, last := true, gain := 1, cnt := 2, shift := 1, inv := 0 } }))),
  .a, _, rfl, by decide +kernel⟩
  · exact ⟨(witState (fun x => ((((x.set F.FCV_CTRL_EN 1).set (F.BRST_ACTIVE 0x38) 0).set F.FCV_STATE_MAIN 1).set
  F.FCV_STATE_URG 0))), .a, 7, _, rfl, by decide +kernel⟩
  · exact ⟨(witState (fun x => (((((x.set F.FCV_CTRL_EN 1).set (F.BRST_ACTIVE 0x38) 0).set F.FCV_STATE_MAIN 2).set
  F.FCV_STATE_URG 0)).onFcv (fun f =>
  { f with nextAt := some 1000000005, visit := some { entry := 3, ch := 2, diff := false, queue := true, last := true, gain := 1, cnt := 2, shift := 1, inv := 0 } }))),
  .a, 7, 1000000005, _, rfl, by decide +kernel⟩
  · exact ⟨(witState (fun x => (((((x.set F.FCV_CTRL_EN 1).set (F.BRST_ACTIVE 0x38) 0).set F.FCV_STATE_MAIN 2).set
  F.FCV_STATE_URG 0)).onFcv (fun f =>
  { f with nextAt := some 1000000003, visit := some { entry := 3, ch := 2, diff := false, queue := true, last := true, gain := 1, cnt := 2, shift := 1, inv := 0, taken := 1 } }))),
  .a, 7, 1000000003, _, rfl, by decide +kernel⟩
  · exact ⟨(witState (fun x => (((((x.set F.FCV_CTRL_EN 1).set (F.BRST_ACTIVE 0x38) 0).set F.FCV_STATE_MAIN 2).set
  F.FCV_STATE_URG 0)).onFcv (fun f => { f with mainAt := some 1000000000 }))), .a, 7, _, rfl, by decide +kernel⟩
  · exact ⟨(witState (fun x => ((((x.set F.FCV_CTRL_EN 1).set (F.BRST_ACTIVE 0x38) 0).set F.FCV_STATE_MAIN 2).set
  F.FCV_STATE_URG 1))), .a, _, rfl, by decide +kernel⟩
  · exact ⟨(witState (fun x => ((((x.set F.FCV_CTRL_EN 1).set (F.BRST_ACTIVE 0x38) 0).set F.FCV_STATE_MAIN 2).set
  F.FCV_STATE_URG 2))), .a, _, rfl, by decide +kernel⟩
  · exact ⟨(witState (fun x => ((((((x.set F.FCV_CTRL_EN 1).set (F.BRST_ACTIVE 0x38) 0).set F.FCV_STATE_MAIN 2).set
  F.FCV_STATE_URG 0)).set F.FCV_TRIG_EDGE 1).set F.FCV_TRIG_DEST 1)), .a, true, _, rfl, by decide +kernel⟩
  · exact ⟨(witState (fun x => (((((((x.set F.FCV_CTRL_EN 1).set (F.BRST_ACTIVE 0x38) 0).set F.FCV_STATE_MAIN 1).set
  F.FCV_STATE_URG 0)).set F.FCV_TRIG_EDGE 3).set F.FCV_TRIG_DEST 0).onFcv (fun f => { f with mode := 2 }))), .a, _,
  rfl, by decide +kernel⟩
  · exact ⟨(witState (fun x => (((((x.set F.FCV_CTRL_EN 1).set (F.BRST_ACTIVE 0x38) 0).set F.FCV_STATE_MAIN 1).set
  F.FCV_STATE_URG 0)).set F.FCV_TRIG_EDGE 2)), .a, true, _, rfl, by decide +kernel⟩
  · exact ⟨(witState (fun x => (((((x.set F.FCV_CTRL_EN 1).set (F.BRST_ACTIVE 0x38) 0).set F.FCV_STATE_MAIN 1).set
  F.FCV_STATE_URG 0)).onFcv (fun f => { f with mode := 1 }))), .a, _, rfl, by decide +kernel⟩
  · exact ⟨(witState (fun x => (((((x.set F.FCV_CTRL_EN 1).set (F.BRST_ACTIVE 0x38) 0).set F.FCV_STATE_MAIN 2).set
  F.FCV_STATE_URG 0)).onFcv (fun f => { f with mode := 1 }))), .a, _, rfl, by decide +kernel⟩
  · exact ⟨(witState (fun x => ((((((x.set F.FCV_CTRL_EN 1).set (F.BRST_ACTIVE 0x38) 0).set F.FCV_STATE_MAIN 3).set
  F.FCV_STATE_URG 1)).set (F.FCV_SEQ_CH 63) 2 |>.set (F.FCV_CHCFG_AVG_CNT_M1 2) 0 |>.set (F.FCV_CHCFG_SETTLE_CNT 2)
  0).onFcv (fun f => { f with urgEntry := 63 }))), .a, (List.replicate 40 5000000), _, rfl, by decide +kernel⟩

theorem witness_FieldConverterResults :
    (∃ (s : State) (d : DieId) (volts : List Int) (e : FcvEnded) (n : Nat) (x : Die), s.die d = x ∧ s.running d ∧
      (x.on F.FCV_CTRL_EN = true) ∧ (x.fcv.due = [e]) ∧ (e.volts = none) ∧ (e.cut = false) ∧ (e.inv = false) ∧
      (e.visit.dropped = []) ∧ (e.visit.queue = false) ∧ (e.samples ≤ volts.length) ∧ (e.visit.ch < 32) ∧
      (e.visit.gain < 8) ∧ (n = Sys2Proof.Machine.scaled ((List.range e.visit.cnt).map (fun i => (x.fieldSample e
      e.visit.gain (e.visit.inv + i) (volts.getD (e.visit.inv + i) 0)).1)).sum e.visit.shift) ∧ (n < 65536)) ∧
    (∃ (s : State) (d : DieId) (volts : List Int) (e : FcvEnded) (r : FcvResult) (x : Die), s.die d = x ∧ s.running d
      ∧ (x.on F.FCV_CTRL_EN = true) ∧ (x.fcv.due = [e]) ∧ (e.volts = none) ∧ (x.results e volts = some ([r], x)) ∧
      (r.invalid = false) ∧ (r.ch < 32) ∧ (r.queued = true) ∧ (x.fcv.queue.length < 240) ∧ (∀ k ∈ List.range 8, x.on
      (F.FCV_WIN_CFG_EN k) = false)) ∧
    (∃ (s : State) (d : DieId) (volts : List Int) (e : FcvEnded) (r : FcvResult) (x : Die), s.die d = x ∧ s.running d
      ∧ (x.on F.FCV_CTRL_EN = true) ∧ (x.fcv.due = [e]) ∧ (e.volts = none) ∧ (x.results e volts = some ([r], x)) ∧
      (r.invalid = false) ∧ (r.ch < 32) ∧ (r.queued = true) ∧ (r.urgent = false) ∧ (240 ≤ x.fcv.queue.length)) ∧
    (∃ (s : State) (d : DieId) (n : Nat) (rest : List Nat) (x : Die), s.die d = x ∧ s.running d ∧ (x.fcv.queue = n ::
      rest)) ∧
    (∃ (s : State) (d : DieId) (x : Die), s.die d = x ∧ s.running d ∧ (x.fcv.queue = [])) ∧
    (∃ (s : State) (d : DieId) (q : Requester) (n : Nat) (x : Die), s.die d = x ∧ s.running d ∧ (x.held =
      [{ req := q, lo := 0x38060, word := n }])) ∧
    (∃ (s : State) (d : DieId) (n : Nat) (rest : List Nat) (x : Die), s.die d = x ∧ s.running d ∧ (x.held = []) ∧
      (x.fcv.queue = n :: rest)) := by
  refine ⟨?_, ?_, ?_, ?_, ?_, ?_, ?_⟩
  · exact ⟨(witState (fun x => ((List.range 8).foldl (fun y k => y.set (F.FCV_WIN_CFG_EN k) 0) (((((x.set
  F.FCV_CTRL_EN 1).set (F.BRST_ACTIVE 0x38) 0).set F.FCV_STATE_MAIN 2).set F.FCV_STATE_URG 0))).onFcv (fun f =>
  { f with due := [{ visit := { entry := 3, ch := 2, diff := false, queue := false, last := true, gain := 1, cnt := 2, shift := 1, inv := 0 }, urgent := false, trig := true, part := true, inv := false, cut := false, comp := 0, core := none, lastAt := 900000000, pace := 5, volts := none }] }))),
  .a, ([100000000, 100100000]),
  ({ visit := { entry := 3, ch := 2, diff := false, queue := false, last := true, gain := 1, cnt := 2, shift := 1, inv := 0 }, urgent := false, trig := true, part := true, inv := false, cut := false, comp := 0, core := none, lastAt := 900000000, pace := 5, volts := none }),
  2732, _, rfl, by decide +kernel⟩
  · exact ⟨(witState (fun x => ((List.range 8).foldl (fun y k => y.set (F.FCV_WIN_CFG_EN k) 0) (((((x.set
  F.FCV_CTRL_EN 1).set (F.BRST_ACTIVE 0x38) 0).set F.FCV_STATE_MAIN 2).set F.FCV_STATE_URG 0))).onFcv (fun f =>
  { f with due := [{ visit := { entry := 3, ch := 2, diff := false, queue := true, last := true, gain := 1, cnt := 2, shift := 1, inv := 0 }, urgent := false, trig := true, part := true, inv := false, cut := false, comp := 0, core := none, lastAt := 900000000, pace := 5, volts := none }] }))),
  .a, ([100000000, 100100000]),
  ({ visit := { entry := 3, ch := 2, diff := false, queue := true, last := true, gain := 1, cnt := 2, shift := 1, inv := 0 }, urgent := false, trig := true, part := true, inv := false, cut := false, comp := 0, core := none, lastAt := 900000000, pace := 5, volts := none }),
  ({ entry := 3, ch := 2, gain := 1, diff := false, value := 2732, urgent := false, invalid := false, part := true, ovr := false, trig := true, queued := true, time := 3600000, last := true }),
  _, rfl, by decide +kernel⟩
  · exact ⟨(witState (fun x => ((List.range 8).foldl (fun y k => y.set (F.FCV_WIN_CFG_EN k) 0) (((((x.set
  F.FCV_CTRL_EN 1).set (F.BRST_ACTIVE 0x38) 0).set F.FCV_STATE_MAIN 2).set F.FCV_STATE_URG 0))).onFcv (fun f =>
  { f with due := [{ visit := { entry := 3, ch := 2, diff := false, queue := true, last := true, gain := 1, cnt := 2, shift := 1, inv := 0 }, urgent := false, trig := true, part := true, inv := false, cut := false, comp := 0, core := none, lastAt := 900000000, pace := 5, volts := none }], queue := List.replicate 240 9 }))),
  .a, ([100000000, 100100000]),
  ({ visit := { entry := 3, ch := 2, diff := false, queue := true, last := true, gain := 1, cnt := 2, shift := 1, inv := 0 }, urgent := false, trig := true, part := true, inv := false, cut := false, comp := 0, core := none, lastAt := 900000000, pace := 5, volts := none }),
  ({ entry := 3, ch := 2, gain := 1, diff := false, value := 2732, urgent := false, invalid := false, part := true, ovr := false, trig := true, queued := true, time := 3600000, last := true }),
  _, rfl, by decide +kernel⟩
  · exact ⟨(witState (fun x => x.onFcv (fun f => { f with queue := [0x12345678ABCDEF01, 7] }))), .a,
  0x12345678ABCDEF01, [7], _, rfl, by decide +kernel⟩
  · exact ⟨(witState (fun x => x)), .a, _, rfl, by decide +kernel⟩
  · exact ⟨(witState (fun x => { x with held := [{ req := .pcie, lo := 0x38060, word := 9 }] })), .a, Requester.pcie,
  9, _, rfl, by decide +kernel⟩
  · exact ⟨(witState (fun x => x.onFcv (fun f => { f with queue := [0x12345678ABCDEF01, 7] }))), .a,
  0x12345678ABCDEF01, [7], _, rfl, by decide +kernel⟩

theorem witness_LoopsAndPwm :
    (∃ (s : State) (d : DieId) (n : Fin 16) (m : Int) (e : Int) (lim : Int) (mark : Nat) (x : Die), s.die d = x ∧
      s.running d ∧ (x.loopRuns n.val = true) ∧ (x.jobRuns 2 = true) ∧ (x.loopRead n.val = (some m, false, mark)) ∧
      ((x.loop n.val).seen ≠ some mark) ∧ (x.bladeLoop n.val = false) ∧ (x.getS (F.LOOP_MLO_LIMIT n.val) ≤ m) ∧ (m ≤
      x.getS (F.LOOP_MHI_LIMIT n.val)) ∧ (m ≤ x.getS (F.LOOP_MTRIP_LIMIT n.val)) ∧ (x.bitOf F.LPC_TRIP_TRIP n.val =
      false) ∧ (x.get (F.LOOP_SLEW_VALUE n.val) = 0) ∧ (e = satS 32 (x.getS (F.LOOP_SP_VALUE n.val) - m)) ∧ (lim =
      (x.get (F.LOOP_SAFE_IMAX_IMAX n.val) * 2 ^ x.get (F.LOOP_KD_GSHIFT n.val) : Nat))) ∧
    (∃ (s : State) (d : DieId) (n : Fin 16) (m : Int) (mark : Nat) (x : Die), s.die d = x ∧ s.running d ∧ (x.loopRuns
      n.val = true) ∧ (x.jobRuns 2 = true) ∧ (x.loopRead n.val = (some m, false, mark)) ∧ ((x.loop n.val).seen ≠ some
      mark) ∧ (x.bladeLoop n.val = false) ∧ (x.getS (F.LOOP_MTRIP_LIMIT n.val) < m)) ∧
    (∃ (s : State) (d : DieId) (n : Fin 16) (skipped : Nat) (x : Die), s.die d = x ∧ s.running d ∧ (x.loopRuns n.val =
      true) ∧ (0 < skipped)) ∧
    (∃ (s : State) (d : DieId) (n : Fin 16) (x : Die), s.die d = x ∧ s.running d ∧ (x.loopRuns n.val = true) ∧
      (x.loopHot n.val = true)) ∧
    (∃ (s : State) (d : DieId) (x : Die), s.die d = x ∧ s.running d) ∧
    (∃ (s : State) (d : DieId) (n : Fin 16) (mark : Nat) (val : Nat) (x : Die), s.die d = x ∧ s.running d ∧ (val =
      0x80000000 + mark) ∧ (mark < 16) ∧ (x.on (F.LOOP_CFG_EN n.val) = false) ∧ (x.loopOwns mark (some n.val) = false)
      ∧ (x.cloOwns (mark / 2) = false) ∧ (0 ≤ x.getS (F.LOOP_DLIM_DMIN n.val)) ∧ (x.get (F.PWM_PAIR_CFG_MODE (mark /
      2)) = 0)) ∧
    (∃ (s : State) (d : DieId) (n : Fin 16) (mark : Nat) (val : Nat) (x : Die), s.die d = x ∧ s.running d ∧ (val =
      0x80000000 + mark) ∧ (mark < 16) ∧ (x.on (F.LOOP_CFG_EN n.val) = false) ∧ (x.loopOwns mark (some n.val) = true ∨
      x.cloOwns (mark / 2) = true)) ∧
    (∃ (s : State) (d : DieId) (val : Nat) (k : Fin 8) (x : Die), s.die d = x ∧ s.running d ∧ (x.on (F.CTRL_EN 0x3A) =
      true) ∧ (val.testBit k.val = true)) ∧
    (∃ (s : State) (d : DieId) (val : Nat) (k : Fin 8) (x : Die), s.die d = x ∧ s.running d ∧ (x.on (F.CTRL_EN 0x3A) =
      true) ∧ (val.testBit k.val = false)) ∧
    (∃ (s : State) (d : DieId) (x : Die), s.die d = x ∧ s.running d ∧ (x.on (F.CTRL_EN 0x3A) = false)) ∧
    (∃ (s : State) (d : DieId) (k : Fin 8) (x : Die), s.die d = x ∧ s.running d ∧ ((x.pair k.val).running = true) ∧
      (x.on (F.CTRL_EN 0x3A) = true) ∧ (x.boot.power < 3) ∧ (x.cloOwns k.val = false) ∧ (x.get (F.PWM_PAIR_CFG_MODE
      k.val) = 0) ∧ ((x.dutyAt (2 * k.val)).low = false) ∧ ((x.dutyAt (2 * k.val + 1)).low = false)) ∧
    (∃ (s : State) (d : DieId) (x : Die), s.die d = x ∧ s.running d) := by
  refine ⟨?_, ?_, ?_, ?_, ?_, ?_, ?_, ?_, ?_, ?_, ?_, ?_⟩
  · exact ⟨(witState (fun x => ((((((x.set (F.CTRL_EN 0x39) 1).set (F.LOOP_CFG_EN 6) 1).set F.PWR_STATE_STATE 0).set
  F.CLO_HTR_EN 0).set F.LPC_TRIP_TRIP 0).set (F.LOOP_CFG_SRC 6) 3 |>.setS (F.LOOP_HOSTM_M 6) 70 |>.setS
  (F.LOOP_MLO_LIMIT 6) (-100) |>.setS (F.LOOP_MHI_LIMIT 6) 1000 |>.setS (F.LOOP_MTRIP_LIMIT 6) 2000 |>.set
  (F.LOOP_SLEW_VALUE 6) 0 |>.setS (F.LOOP_SP_VALUE 6) 100 |>.setS (F.LOOP_KPKI_KP 6) 300 |>.setS (F.LOOP_KPKI_KI 6) 20
  |>.setS (F.LOOP_DLIM_DMIN 6) 0 |>.setS (F.LOOP_DLIM_DMAX 6) 20000 |>.set (F.LOOP_KD_GSHIFT 6) 3 |>.set
  (F.LOOP_SAFE_IMAX_IMAX 6) 30000 |>.set (F.LOOP_CFG_OUT 6) 4).onLpc (fun l =>
  { l with host := fillSet 0 l.host 6 5 }))), .a, 6, 70, 30, 240000, 5, _, rfl, by decide +kernel⟩
  · exact ⟨(witState (fun x => ((((((x.set (F.CTRL_EN 0x39) 1).set (F.LOOP_CFG_EN 6) 1).set F.PWR_STATE_STATE 0).set
  F.CLO_HTR_EN 0).set F.LPC_TRIP_TRIP 0).set (F.LOOP_CFG_SRC 6) 3 |>.setS (F.LOOP_HOSTM_M 6) 70 |>.setS
  (F.LOOP_MLO_LIMIT 6) (-100) |>.setS (F.LOOP_MHI_LIMIT 6) 1000 |>.setS (F.LOOP_MTRIP_LIMIT 6) 2000 |>.set
  (F.LOOP_SLEW_VALUE 6) 0 |>.setS (F.LOOP_SP_VALUE 6) 100 |>.setS (F.LOOP_KPKI_KP 6) 300 |>.setS (F.LOOP_KPKI_KI 6) 20
  |>.setS (F.LOOP_DLIM_DMIN 6) 0 |>.setS (F.LOOP_DLIM_DMAX 6) 20000 |>.set (F.LOOP_KD_GSHIFT 6) 3 |>.set
  (F.LOOP_SAFE_IMAX_IMAX 6) 30000 |>.set (F.LOOP_CFG_OUT 6) 4 |>.setS (F.LOOP_MTRIP_LIMIT 6) 60).onLpc (fun l =>
  { l with host := fillSet 0 l.host 6 5 }))), .a, 6, 70, 5, _, rfl, by decide +kernel⟩
  · exact ⟨(witState (fun x => ((((((x.set (F.CTRL_EN 0x39) 1).set (F.LOOP_CFG_EN 6) 1).set F.PWR_STATE_STATE 0).set
  F.CLO_HTR_EN 0).set F.LPC_TRIP_TRIP 0).set (F.LOOP_CFG_SRC 6) 3 |>.setS (F.LOOP_HOSTM_M 6) 70 |>.setS
  (F.LOOP_MLO_LIMIT 6) (-100) |>.setS (F.LOOP_MHI_LIMIT 6) 1000 |>.setS (F.LOOP_MTRIP_LIMIT 6) 2000 |>.set
  (F.LOOP_SLEW_VALUE 6) 0 |>.setS (F.LOOP_SP_VALUE 6) 100 |>.setS (F.LOOP_KPKI_KP 6) 300 |>.setS (F.LOOP_KPKI_KI 6) 20
  |>.setS (F.LOOP_DLIM_DMIN 6) 0 |>.setS (F.LOOP_DLIM_DMAX 6) 20000 |>.set (F.LOOP_KD_GSHIFT 6) 3 |>.set
  (F.LOOP_SAFE_IMAX_IMAX 6) 30000 |>.set (F.LOOP_CFG_OUT 6) 4).onLpc (fun l =>
  { l with host := fillSet 0 l.host 6 5 }))), .a, 6, 2, _, rfl, by decide +kernel⟩
  · exact ⟨(witState (fun x => (((((x.set (F.CTRL_EN 0x39) 1).set (F.LOOP_CFG_EN 6) 1).set F.PWR_STATE_STATE 0).set
  F.CLO_HTR_EN 0).set F.LPC_TRIP_TRIP 0).set (F.LOOP_CFG_KIND 6) 1)), .a, 6, _, rfl, by decide +kernel⟩
  · exact ⟨(witState (fun x => x.set F.LPC_TRIP_TRIP 0xFFFF)), .a, _, rfl, by decide +kernel⟩
  · exact ⟨(witState (fun x => (List.range 16).foldl (fun y k => y.set (F.LOOP_CFG_EN k) 0) ((((x.set F.CLO_HTR_EN
  0).set F.CLO_CTRL_EN 0).set (F.PWM_PAIR_CFG_MODE 2) 0).setS (F.LOOP_DLIM_DMIN 6) 0))), .a, 6, 5, 0x80000005, _, rfl,
  by decide +kernel⟩
  · exact ⟨(witState (fun x => ((x.set (F.LOOP_CFG_EN 6) 0).set (F.LOOP_CFG_EN 7) 1).set (F.LOOP_CFG_OUT 7) 5)), .a,
  6, 5, 0x80000005, _, rfl, by decide +kernel⟩
  · exact ⟨(witState (fun x => x.set (F.CTRL_EN 0x3A) 1)), .a, 0x20, 5, _, rfl, by decide +kernel⟩
  · exact ⟨(witState (fun x => x.set (F.CTRL_EN 0x3A) 1)), .a, 0xDF, 5, _, rfl, by decide +kernel⟩
  · exact ⟨(witState (fun x => x.set (F.CTRL_EN 0x3A) 0)), .a, _, rfl, by decide +kernel⟩
  · exact ⟨(witState (fun x => (((x.set (F.CTRL_EN 0x3A) 1).set (F.PWM_PAIR_CFG_MODE 5) 0).set F.CLO_CTRL_EN 0).onPair
  5 (fun p => { p with running := true }) |>.set F.PWR_STATE_STATE 0)), .a, 5, _, rfl, by decide +kernel⟩
  · exact ⟨(witState (fun x => x)), .a, _, rfl, by decide +kernel⟩

theorem witness_Lamps :
    (∃ (s : State) (d : DieId) (k : Fin 12) (x : Die), s.die d = x ∧ s.running d ∧ (x.commitPending 0x3B = false) ∧
      (x.get (F.LED_CFG_MODE k.val) = 1) ∧ (x.bitOf F.LED_FAULT_OPEN k.val = false) ∧ (x.bitOf F.LED_FAULT_SHORT k.val
      = false) ∧ ((x.lamp k.val).fade = none) ∧ (x.ledLit k.val = true)) ∧
    (∃ (s : State) (d : DieId) (k : Fin 12) (x : Die), s.die d = x ∧ s.running d ∧ (x.ledLit k.val = false ∨ x.bitOf
      F.LED_FAULT_OPEN k.val = true ∨ x.bitOf F.LED_FAULT_SHORT k.val = true) ∧ (x.commitPending 0x3B = false)) ∧
    (∃ (s : State) (d : DieId) (k : Fin 12) (ref : Nat) (x : Die), s.die d = x ∧ s.running d ∧ (x.get (F.LED_CFG_MODE
      k.val) = 2) ∧ (x.get (F.LED_CFG_REF k.val) = ref) ∧ (ref = 0) ∧ ((x.lamp k.val).pulses = []) ∧ (x.ledLit k.val =
      true) ∧ ((x.lamp k.val).held = false) ∧ (0 < x.get (F.LED_STROBE_VALUE k.val)) ∧ (∀ j ∈ List.range 12, j ≠ k.val
      → x.get (F.LED_CFG_MODE j) ≠ 2)) ∧
    (∃ (s : State) (d : DieId) (k : Fin 12) (ref : Nat) (p : Nat × Nat) (x : Die), s.die d = x ∧ s.running d ∧ (x.get
      (F.LED_CFG_MODE k.val) = 2) ∧ (x.get (F.LED_CFG_REF k.val) = ref) ∧ (ref = 0) ∧ ((x.lamp k.val).pulses = [p]) ∧
      (p.1 ≤ s.now) ∧ (s.now < p.2)) ∧
    (∃ (s : State) (d : DieId) (ref : Nat) (x : Die), s.die d = x ∧ s.running d ∧ (∀ j ∈ List.range 12, x.get
      (F.LED_CFG_MODE j) ≠ 2 ∨ x.get (F.LED_CFG_REF j) ≠ ref)) ∧
    (∃ (s : State) (d : DieId) (k : Fin 12) (p : Nat × Nat) (rest : List (Nat × Nat)) (x : Die), s.die d = x ∧
      s.running d ∧ ((x.lamp k.val).pulses = p :: rest) ∧ (x.on (F.LED_CFG_DRIVE k.val) = true)) ∧
    (∃ (s : State) (d : DieId) (k : Fin 12) (x : Die), s.die d = x ∧ s.running d ∧ (x.get (F.LED_CFG_MODE k.val) = 2)) ∧
    (∃ (s : State) (d : DieId) (k : Fin 12) (short : Bool) (x : Die), s.die d = x ∧ s.running d ∧ ((short = false ∧ 0
      < (x.lamp k.val).onFor ∧ (x.lamp k.val).held = false) ∨ (short = true ∧ x.on (F.LED_CFG_DRIVE k.val) = true ∧
      x.bitOf F.LED_FAULT_SHORT k.val = false))) ∧
    (∃ (s : State) (d : DieId) (x : Die), s.die d = x ∧ s.running d) ∧
    (∃ (s : State) (d : DieId) (x : Die), s.die d = x ∧ s.running d ∧ (x.commitPending 0x3B = false)) ∧
    (∃ (s : State) (d : DieId) (x : Die), s.die d = x ∧ s.running d ∧ (x.commitPending 0x3B = true)) := by
  refine ⟨?_, ?_, ?_, ?_, ?_, ?_, ?_, ?_, ?_, ?_, ?_⟩
  · exact ⟨(witState (fun x => ((((x.set (F.CTRL_EN 0x3B) 1).set F.PWR_STATE_STATE 0).set F.LED_FAULT_OPEN 0).set
  F.LED_FAULT_SHORT 0).set (F.COMMIT_STAT_PENDING 0x3B) 0 |>.set (F.LED_CFG_MODE 11) 1 |>.set (F.LED_STAT_B 11)
  4000)), .a, 11, _, rfl, by decide +kernel⟩
  · exact ⟨(witState (fun x => (x.set (F.CTRL_EN 0x3B) 0).set (F.COMMIT_STAT_PENDING 0x3B) 0)), .a, default, _, rfl,
  by decide +kernel⟩
  · exact ⟨(witState (fun x => (List.range 12).foldl (fun y j => y.set (F.LED_CFG_MODE j) 1) (((((x.set (F.CTRL_EN
  0x3B) 1).set F.PWR_STATE_STATE 0).set F.LED_FAULT_OPEN 0).set F.LED_FAULT_SHORT 0).set (F.COMMIT_STAT_PENDING 0x3B)
  0) |>.set (F.LED_CFG_MODE 11) 2 |>.set (F.LED_CFG_REF 11) 0 |>.set (F.LED_STROBE_VALUE 11) 40)), .a, 11, 0, _, rfl,
  by decide +kernel⟩
  · exact ⟨(witState (fun x => ((x.set (F.LED_CFG_MODE 11) 2).set (F.LED_CFG_REF 11) 0).onLamp 11 (fun c =>
  { c with pulses := [(5, 9000000000000)] }))), .a, 11, 0, ((5, 9000000000000)), _, rfl, by decide +kernel⟩
  · exact ⟨(witState (fun x => (List.range 12).foldl (fun y j => y.set (F.LED_CFG_MODE j) 1) x)), .a, 0, _, rfl, by decide +kernel⟩
  · exact ⟨(witState (fun x => (x.set (F.LED_CFG_DRIVE 11) 1).onLamp 11 (fun c => { c with pulses := [(5, 9)] }))),
  .a, 11, ((5, 9)), [], _, rfl, by decide +kernel⟩
  · exact ⟨(witState (fun x => x.set (F.LED_CFG_MODE 11) 2)), .a, 11, _, rfl, by decide +kernel⟩
  · exact ⟨(witState (fun x => ((x.set (F.LED_CFG_DRIVE 11) 1).set F.LED_FAULT_SHORT 0).onLamp 11 (fun c =>
  { c with onFor := 0 }))), .a, 11, true, _, rfl, by decide +kernel⟩
  · exact ⟨(witState (fun x => x.set F.LED_FAULT_OPEN 0xFFF)), .a, _, rfl, by decide +kernel⟩
  · exact ⟨(witState (fun x => x.set (F.COMMIT_STAT_PENDING 0x3B) 0)), .a, _, rfl, by decide +kernel⟩
  · exact ⟨(witState (fun x => x.set (F.COMMIT_STAT_PENDING 0x3B) 1)), .a, _, rfl, by decide +kernel⟩

theorem witness_ThermalSensors :
    (∃ (s : State) (d : DieId) (k : Fin 10) (m : Int) (v : Int) (x : Die), s.die d = x ∧ s.running d ∧ (x.sensed k.val
      = true) ∧ (x.on (F.THM_SENS_FAIL k.val) = false) ∧ (x.judgeReading k.val (.temp m) = (some v, 0)) ∧ (x.reaches
      k.val = []) ∧ (x.get F.CLO_HTR_TSEL ≠ k.val)) ∧
    (∃ (s : State) (d : DieId) (k : Fin 10) (x : Die), s.die d = x ∧ s.running d ∧ (x.sensed k.val = true) ∧ (x.on
      (F.THM_SENS_FAIL k.val) = false) ∧ (x.reaches k.val = [])) ∧
    (∃ (s : State) (d : DieId) (k : Fin 10) (z : Fin 4) (m : Int) (v : Int) (p : Int) (x : Die), s.die d = x ∧
      s.running d ∧ (x.sensed k.val = true) ∧ (x.on (F.THM_SENS_FAIL k.val) = false) ∧ (x.judgeReading k.val (.temp m)
      = (some v, 0)) ∧ ((x.sensor k.val).prev = some p) ∧ (x.zoneOn z.val = true) ∧ (x.bitOf (F.THM_ZONE_CFG_MASK
      z.val) k.val = true) ∧ (x.thr F.THM_ZONE_THR_SHUT z.val + 10000 ≤ p) ∧ (x.thr F.THM_ZONE_THR_SHUT z.val + 10000
      ≤ v) ∧ (x.boot.absorbed = [])) ∧
    (∃ (s : State) (d : DieId) (k : Fin 10) (z : Fin 4) (m : Int) (v : Int) (p : Int) (x : Die), s.die d = x ∧
      s.running d ∧ (x.sensed k.val = true) ∧ (x.on (F.THM_SENS_FAIL k.val) = false) ∧ (x.judgeReading k.val (.temp m)
      = (some v, 0)) ∧ (x.zoneOn z.val = true) ∧ (x.members z.val = [k.val]) ∧ ((x.zone z.val).graft = none) ∧
      ((x.zone z.val).shut = some p) ∧ (x.thr F.THM_ZONE_THR_SHUT z.val ≤ p) ∧ (x.thr F.THM_ZONE_THR_SHUT z.val ≤ v) ∧
      (x.tripHit k.val (x.sensor k.val).prev v = false) ∧ (x.thm.stopping = false)) ∧
    (∃ (s : State) (d : DieId) (k : Fin 10) (val : Nat) (x : Die), s.die d = x ∧ s.running d ∧ (val.testBit k.val =
      true) ∧ (x.on (F.THM_SENS_FAIL k.val) = true) ∧ ((x.sensor k.val).failAt < s.now)) := by
  refine ⟨?_, ?_, ?_, ?_, ?_⟩
  · exact ⟨(witState (fun x => (List.range 4).foldl (fun y z => y.set (F.THM_ZONE_CFG_MASK z) 0) ((x.set F.THM_CTRL_EN
  1).set (F.THM_DIODE_EN 2) 1 |>.set (F.THM_SENS_FAIL 2) 0 |>.set F.CLO_HTR_TSEL 9 |>.setS (F.THM_DIODE_OFFSET 2)
  5))), .a, 2, 40000, 40500, _, rfl, by decide +kernel⟩
  · exact ⟨(witState (fun x => (List.range 4).foldl (fun y z => y.set (F.THM_ZONE_CFG_MASK z) 0) ((x.set F.THM_CTRL_EN
  1).set (F.THM_DIODE_EN 2) 1 |>.set (F.THM_SENS_FAIL 2) 0 |>.set F.CLO_HTR_TSEL 9 |>.setS (F.THM_DIODE_OFFSET 2)
  5))), .a, 2, _, rfl, by decide +kernel⟩
  · exact ⟨(witState (fun x => ((((((List.range 4).foldl (fun y z => y.set (F.THM_ZONE_CFG_MASK z) 0) ((x.set
  F.THM_CTRL_EN 1).set (F.THM_DIODE_EN 2) 1 |>.set (F.THM_SENS_FAIL 2) 0 |>.set F.CLO_HTR_TSEL 9 |>.setS
  (F.THM_DIODE_OFFSET 2) 5)).set (F.THM_ZONE_CFG_MASK 1) 4).set (F.THM_ZONE_CFG_EN 1) 1).set (F.THM_ZONE_THR_SHUT 1)
  100)).onSensor 2 (fun s => { s with prev := some 111000, last := some 111000 }))), .a, 2, 1, 110000, 110500, 111000,
  _, rfl, by decide +kernel⟩
  · exact ⟨(witState (fun x => (((((((List.range 4).foldl (fun y z => y.set (F.THM_ZONE_CFG_MASK z) 0) ((x.set
  F.THM_CTRL_EN 1).set (F.THM_DIODE_EN 2) 1 |>.set (F.THM_SENS_FAIL 2) 0 |>.set F.CLO_HTR_TSEL 9 |>.setS
  (F.THM_DIODE_OFFSET 2) 5)).set (F.THM_ZONE_CFG_MASK 1) 4).set (F.THM_ZONE_CFG_EN 1) 1).set (F.THM_ZONE_THR_SHUT 1)
  100)).onSensor 2 (fun s => { s with prev := some 101000, last := some 101000 })).onZone 1 (fun g =>
  { g with shut := some 101000 }))), .a, 2, 1, 101000, 101500, 101000, _, rfl, by decide +kernel⟩
  · exact ⟨(witState (fun x => ((List.range 4).foldl (fun y z => y.set (F.THM_ZONE_CFG_MASK z) 0) ((x.set
  F.THM_CTRL_EN 1).set (F.THM_DIODE_EN 2) 1 |>.set (F.THM_SENS_FAIL 2) 0 |>.set F.CLO_HTR_TSEL 9 |>.setS
  (F.THM_DIODE_OFFSET 2) 5)).set (F.THM_SENS_FAIL 2) 1)), .a, 2, 4, _, rfl, by decide +kernel⟩

theorem witness_ThermalActions :
    (∃ (s : State) (d : DieId) (z : Fin 4) (t : Int × Nat) (x : Die), s.die d = x ∧ s.running d ∧ (x.zoneOn z.val =
      true) ∧ (x.on (F.THM_ZONE_STAT_THROT z.val) = true) ∧ (x.on (F.THM_ZONE_STAT_NOSENSOR z.val) = false) ∧
      (x.zoneTemp z.val = some t) ∧ (x.thr F.THM_ZONE_THR_THROT z.val ≤ t.1)) ∧
    (∃ (s : State) (d : DieId) (z : Fin 4) (x : Die), s.die d = x ∧ s.running d ∧ (x.zoneOn z.val = true) ∧ (x.on
      (F.THM_ZONE_STAT_THROT z.val) = false) ∧ (x.on (F.THM_ZONE_STAT_NOSENSOR z.val) = false) ∧ ((x.zone z.val).floor
      < x.get (F.THM_ZONE_STAT_LEVEL z.val))) ∧
    (∃ (s : State) (d : DieId) (x : Die), s.die d = x ∧ s.running d ∧ (x.jobRuns 0 = true) ∧ (x.thm.stopping = false)
      ∧ (x.get F.THM_LEVEL_LEVEL = 4) ∧ (x.thm.acted = 3) ∧ (x.thm.waiting = []) ∧ (x.thm.due = []) ∧ (x.rakeRuns =
      false) ∧ (x.thm.taken = []) ∧ (x.commitPending (F.ACB_MODE_LPM).page = false) ∧ (x.on F.ACB_MODE_LPM = false)) ∧
    (∃ (s : State) (d : DieId) (x : Die), s.die d = x ∧ s.running d ∧ (x.jobRuns 0 = true) ∧ (x.thm.stopping = false)
      ∧ (x.get F.THM_LEVEL_LEVEL = 4) ∧ (x.thm.acted = 3) ∧ (x.thm.waiting = []) ∧ (x.thm.due = []) ∧ (x.rakeRuns =
      true) ∧ (x.thm.taken = []) ∧ (x.commitPending (F.ACB_MODE_LPM).page = false) ∧ (x.on F.ACB_MODE_LPM = false)) ∧
    (∃ (s : State) (d : DieId) (x : Die), s.die d = x ∧ s.running d ∧ (x.jobRuns 0 = true) ∧ (x.thm.stopping = false)
      ∧ (x.get F.THM_LEVEL_LEVEL = 0) ∧ (x.thm.waiting = []) ∧ (x.thm.due = []) ∧ (x.rakeRuns = false) ∧ (x.thm.taken
      = [(4, F.ACB_MODE_LPM, 0, 1)]) ∧ (x.commitPending (F.ACB_MODE_LPM).page = false) ∧ (x.on F.ACB_MODE_LPM = true)) ∧
    (∃ (s : State) (d : DieId) (x : Die), s.die d = x ∧ s.running d ∧ (x.jobRuns 0 = true) ∧ (x.thm.stopping = false)
      ∧ (x.get F.THM_LEVEL_LEVEL = 0) ∧ (x.thm.waiting = []) ∧ (x.thm.due = []) ∧ (x.rakeRuns = true) ∧ (x.thm.taken =
      [(4, F.ACB_MODE_LPM, 0, 1)]) ∧ (x.commitPending (F.ACB_MODE_LPM).page = false) ∧ (x.on F.ACB_MODE_LPM = true)) ∧
    (∃ (s : State) (d : DieId) (x : Die), s.die d = x ∧ s.running d ∧ (s.dual = true) ∧ ((s.die d.other).thm.stopping
      = true) ∧ (x.thm.stopping = false)) ∧
    (∃ (s : State) (d : DieId) (x : Die), s.die d = x ∧ s.running d ∧ ((s.die d.other).thm.stopping = false) ∧ ((s.die
      d.other).boot.episode = none)) ∧
    (∃ (s : State) (d : DieId) (x : Die), s.die d = x ∧ s.running d ∧ (x.thm.stopping = true) ∧ (x.boot.absorbed = [])
      ∧ (x.boot.episode = none)) ∧
    (∃ (s : State) (d : DieId) (x : Die), s.die d = x ∧ s.running d ∧ (x.on F.THM_COMP_ACB = true) ∧
      (x.thm.trims.length = 6)) ∧
    (∃ (s : State) (d : DieId) (x : Die), s.die d = x ∧ s.running d ∧ (x.on F.THM_COMP_ACB = false)) := by
  refine ⟨?_, ?_, ?_, ?_, ?_, ?_, ?_, ?_, ?_, ?_, ?_⟩
  · exact ⟨(witState (fun x => (((((((((List.range 4).foldl (fun y z => y.set (F.THM_ZONE_CFG_MASK z) 0) ((x.set
  F.THM_CTRL_EN 1).set (F.THM_DIODE_EN 2) 1 |>.set (F.THM_SENS_FAIL 2) 0 |>.set F.CLO_HTR_TSEL 9 |>.setS
  (F.THM_DIODE_OFFSET 2) 5)).set (F.THM_ZONE_CFG_MASK 1) 4).set (F.THM_ZONE_CFG_EN 1) 1).set (F.THM_ZONE_THR_SHUT 1)
  100)).set (F.THM_ZONE_STAT_THROT 1) 1).set (F.THM_ZONE_STAT_NOSENSOR 1) 0).set (F.THM_ZONE_THR_THROT 1) 80).onSensor
  2 (fun s => { s with prev := some 90000, last := some 90000 }))), .a, 1, ((90000, 2)), _, rfl, by decide +kernel⟩
  · exact ⟨(witState (fun x => ((((((((List.range 4).foldl (fun y z => y.set (F.THM_ZONE_CFG_MASK z) 0) ((x.set
  F.THM_CTRL_EN 1).set (F.THM_DIODE_EN 2) 1 |>.set (F.THM_SENS_FAIL 2) 0 |>.set F.CLO_HTR_TSEL 9 |>.setS
  (F.THM_DIODE_OFFSET 2) 5)).set (F.THM_ZONE_CFG_MASK 1) 4).set (F.THM_ZONE_CFG_EN 1) 1).set (F.THM_ZONE_THR_SHUT 1)
  100)).set (F.THM_ZONE_STAT_THROT 1) 0).set (F.THM_ZONE_STAT_NOSENSOR 1) 0).set (F.THM_ZONE_STAT_LEVEL 1) 3)), .a, 1,
  _, rfl, by decide +kernel⟩
  · exact ⟨(witState (fun x => (((x.set F.THM_LEVEL_LEVEL 4).set (F.COMMIT_STAT_PENDING (F.ACB_MODE_LPM).page) 0).set
  F.ACB_MODE_LPM 0).onThm (fun t => { t with acted := 3 }))), .a, _, rfl, by decide +kernel⟩
  · exact ⟨(witState (fun x => ((((x.set F.SEQ_PC_STATE 1).set F.THM_LEVEL_LEVEL 4).set (F.COMMIT_STAT_PENDING
  (F.ACB_MODE_LPM).page) 0).set F.ACB_MODE_LPM 0).onThm (fun t => { t with acted := 3 }))), .a, _, rfl, by decide +kernel⟩
  · exact ⟨(witState (fun x => (((x.set F.THM_LEVEL_LEVEL 0).set (F.COMMIT_STAT_PENDING (F.ACB_MODE_LPM).page) 0).set
  F.ACB_MODE_LPM 1).onThm (fun t => { t with acted := 4, taken := [(4, F.ACB_MODE_LPM, 0, 1)] }))), .a, _, rfl, by decide +kernel⟩
  · exact ⟨(witState (fun x => ((((x.set F.SEQ_PC_STATE 1).set F.THM_LEVEL_LEVEL 0).set (F.COMMIT_STAT_PENDING
  (F.ACB_MODE_LPM).page) 0).set F.ACB_MODE_LPM 1).onThm (fun t =>
  { t with acted := 4, taken := [(4, F.ACB_MODE_LPM, 0, 1)] }))), .a, _, rfl, by decide +kernel⟩
  · exact ⟨((fun s => { s with dual := true, dieB := { s.dieB with thm := { s.dieB.thm with stopping := true } } })
  (witState (fun x => x))), .a, _, rfl, by decide +kernel⟩
  · exact ⟨(witState (fun x => x)), .a, _, rfl, by decide +kernel⟩
  · exact ⟨(witState (fun x => x.onThm (fun t => { t with stopping := true }))), .a, _, rfl, by decide +kernel⟩
  · exact ⟨(witState (fun x => x.set F.THM_COMP_ACB 1)), .a, _, rfl, by decide +kernel⟩
  · exact ⟨(witState (fun x => x.set F.THM_COMP_ACB 0)), .a, _, rfl, by decide +kernel⟩

theorem witness_ResetSources :
    (∃ (s : State) (d : DieId) (x : Die), s.die d = x ∧ s.has d = true) ∧
    (∃ (s : State) (d : DieId) (e : Episode) (x : Die), s.die d = x ∧ s.has d = true ∧ (x.boot.episode = some e)) ∧
    (∃ (s : State) (d : DieId) (x : Die), s.die d = x ∧ s.has d = true ∧ (x.thm.stopping = false) ∧ (x.filters =
      false)) ∧
    (∃ (s : State) (d : DieId) (e : Episode) (x : Die), s.die d = x ∧ s.has d = true ∧ (x.boot.episode = some e)) ∧
    (∃ (s : State) (d : DieId) (x : Die), s.die d = x ∧ s.has d = true ∧ (s.driving = false) ∧ (s.unmasking = false) ∧
      (x.filters = true)) ∧
    (∃ (s : State) (d : DieId) (x : Die), s.die d = x ∧ s.has d = true ∧ (s.driving = false) ∧ (s.unmasking = false) ∧
      (x.thm.stopping = false) ∧ (x.filters = false)) ∧
    (∃ (s : State) (d : DieId) (x : Die), s.die d = x ∧ s.has d = true ∧ (s.driving = true ∨ s.unmasking = true)) ∧
    (∃ (s : State) (d : DieId) (e : Episode) (x : Die), s.die d = x ∧ s.has d = true ∧ (x.boot.episode = some e)) ∧
    (∃ (s : State) (d : DieId) (x : Die), s.die d = x ∧ s.has d = true ∧ (s.unmasking = true) ∧ (s.driving = false) ∧
      (s.resetN = false)) ∧
    (∃ (s : State) (d : DieId) (x : Die), s.die d = x ∧ s.has d = true ∧ (s.unmasking = true) ∧ (s.driving = false) ∧
      (s.resetN = true) ∧ (x.thm.stopping = false) ∧ (x.filters = false ∨ s.resetNAt + 125 ≤ s.now)) ∧
    (∃ (s : State) (d : DieId) (x : Die), s.die d = x ∧ s.has d = true ∧ (x.thm.stopping = false) ∧ (x.boot.episode =
      none)) ∧
    (∃ (s : State) (d : DieId) (e : Episode) (x : Die), s.die d = x ∧ s.has d = true ∧ (x.boot.episode = some e)) := by
  refine ⟨?_, ?_, ?_, ?_, ?_, ?_, ?_, ?_, ?_, ?_, ?_, ?_⟩
  · exact ⟨(witState (fun x => x)), .a, _, rfl, by decide +kernel⟩
  · exact ⟨(witState (fun x => x.onBoot (fun b =>
  { b with episode := some { reach := 6, active := [1], best := { order := 1, reach := 6, cause := 1, detail := 0, held := true }, loading := true, begun := false, restarts := 0 } }))),
  .a,
  ({ reach := 6, active := [1], best := { order := 1, reach := 6, cause := 1, detail := 0, held := true }, loading := true, begun := false, restarts := 0 }),
  _, rfl, by decide +kernel⟩
  · exact ⟨(witState (fun x => x)), .a, _, rfl, by decide +kernel⟩
  · exact ⟨(witState (fun x => x.onBoot (fun b =>
  { b with episode := some { reach := 6, active := [2], best := { order := 2, reach := 6, cause := 2, detail := 0, held := true }, loading := true, begun := false, restarts := 0 } }))),
  .a,
  ({ reach := 6, active := [2], best := { order := 2, reach := 6, cause := 2, detail := 0, held := true }, loading := true, begun := false, restarts := 0 }),
  _, rfl, by decide +kernel⟩
  · exact ⟨((fun s => { s with unmasking := false }) (witState (fun x => x.set F.FUS_OPT_RFILT 1))), .a, _, rfl, by decide +kernel⟩
  · exact ⟨((fun s => { s with unmasking := false }) (witState (fun x => x))), .a, _, rfl, by decide +kernel⟩
  · exact ⟨((fun s => { s with unmasking := true }) (witState (fun x => x))), .a, _, rfl, by decide +kernel⟩
  · exact ⟨(witState (fun x => x.onBoot (fun b =>
  { b with episode := some { reach := 5, active := [4], best := { order := 4, reach := 5, cause := 4, detail := 0, held := true }, loading := true, begun := false, restarts := 0 } }))),
  .a,
  ({ reach := 5, active := [4], best := { order := 4, reach := 5, cause := 4, detail := 0, held := true }, loading := true, begun := false, restarts := 0 }),
  _, rfl, by decide +kernel⟩
  · exact ⟨((fun s => { s with unmasking := true, resetN := false }) (witState (fun x => x))), .a, _, rfl, by decide +kernel⟩
  · exact ⟨((fun s => { s with unmasking := true, resetN := true }) (witState (fun x => x))), .a, _, rfl, by decide +kernel⟩
  · exact ⟨(witState (fun x => x)), .a, _, rfl, by decide +kernel⟩
  · exact ⟨(witState (fun x => x.onBoot (fun b =>
  { b with episode := some { reach := 4, active := [5], best := { order := 5, reach := 4, cause := 5, detail := 0, held := true }, loading := false, begun := false, restarts := 0 } }))),
  .a,
  ({ reach := 4, active := [5], best := { order := 5, reach := 4, cause := 5, detail := 0, held := true }, loading := false, begun := false, restarts := 0 }),
  _, rfl, by decide +kernel⟩

theorem witness_ResetCommands :
    (∃ (s : State) (d : DieId) (x : Die), s.die d = x ∧ s.has d = true ∧ (x.inReset = false) ∧ (x.thm.stopping =
      false)) ∧
    (∃ (s : State) (d : DieId) (x : Die), s.die d = x ∧ s.has d = true ∧ (x.inReset = false) ∧ (x.thm.stopping =
      false)) ∧
    (∃ (s : State) (d : DieId) (key : Nat) (x : Die), s.die d = x ∧ s.has d = true ∧ (x.inReset = false) ∧ (key ≠
      0xC1D5)) ∧
    (∃ (s : State) (d : DieId) (key : Nat) (x : Die), s.die d = x ∧ s.has d = true ∧ (x.inReset = false) ∧ (key ≠
      0xC1D5)) ∧
    (∃ (s : State) (d : DieId) (x : Die), s.die d = x ∧ s.has d = true ∧ (x.inReset = false) ∧ (x.thm.stopping =
      false)) ∧
    (∃ (s : State) (d : DieId) (key : Nat) (x : Die), s.die d = x ∧ s.has d = true ∧ (x.inReset = false) ∧ (key ≠
      0xC1D5)) ∧
    (∃ (s : State) (d : DieId) (x : Die), s.die d = x ∧ s.has d = true ∧ (x.inReset = false) ∧ (x.thm.stopping =
      false)) ∧
    (∃ (s : State) (d : DieId) (x : Die), s.die d = x ∧ s.has d = true ∧ (x.inReset = false) ∧ (x.boot.retry = true) ∧
      (x.thm.stopping = false)) ∧
    (∃ (s : State) (d : DieId) (boot : Nat) (e : Episode) (x : Die), s.die d = x ∧ s.has d = true ∧ (x.boot.episode =
      some e) ∧ (e.loadRuns = true) ∧ (boot < 4)) ∧
    (∃ (s : State) (d : DieId) (boot : Nat) (x : Die), s.die d = x ∧ s.has d = true ∧ (x.boot.episode = none) ∧
      (x.startStep = 1) ∧ (boot < 4)) ∧
    (∃ (s : State) (d : DieId) (e : Episode) (x : Die), s.die d = x ∧ s.has d = true ∧ (x.boot.episode = some e) ∧
      (e.active = []) ∧ (e.loading = false) ∧ (e.reach < 7) ∧ (e.best.cause < 7) ∧ (e.best.detail < 32)) ∧
    (∃ (s : State) (d : DieId) (n : Fin 4) (x : Die), s.die d = x ∧ s.has d = true ∧ (x.boot.dormant = true) ∧ (n.val
      = 0) ∧ (x.boot.wake.testBit 0 = true) ∧ (x.thm.stopping = false) ∧ (x.boot.episode = none)) ∧
    (∃ (s : State) (d : DieId) (x : Die), s.die d = x ∧ s.has d = true ∧ (x.inReset = false)) ∧
    (∃ (s : State) (d : DieId) (target : Nat) (x : Die), s.die d = x ∧ s.has d = true ∧ (x.inReset = false) ∧ (target
      % 32 < 4)) ∧
    (∃ (s : State) (d : DieId) (key : Nat) (x : Die), s.die d = x ∧ s.has d = true ∧ (x.inReset = false) ∧ (key ≠
      0xC1D5)) ∧
    (∃ (s : State) (d : DieId) (key : Nat) (target : Nat) (x : Die), s.die d = x ∧ s.has d = true ∧ (x.inReset =
      false) ∧ (key ≠ 0xC1D5 ∨ 4 ≤ target % 32)) := by
  refine ⟨?_, ?_, ?_, ?_, ?_, ?_, ?_, ?_, ?_, ?_, ?_, ?_, ?_, ?_, ?_, ?_⟩
  · exact ⟨(witState (fun x => x)), .a, _, rfl, by decide +kernel⟩
  · exact ⟨(witState (fun x => x)), .a, _, rfl, by decide +kernel⟩
  · exact ⟨(witState (fun x => x)), .a, 0, _, rfl, by decide +kernel⟩
  · exact ⟨(witState (fun x => x)), .a, 0, _, rfl, by decide +kernel⟩
  · exact ⟨(witState (fun x => x)), .a, _, rfl, by decide +kernel⟩
  · exact ⟨(witState (fun x => x)), .a, 0, _, rfl, by decide +kernel⟩
  · exact ⟨(witState (fun x => x)), .a, _, rfl, by decide +kernel⟩
  · exact ⟨(witState (fun x => x.onBoot (fun b => { b with retry := true }))), .a, _, rfl, by decide +kernel⟩
  · exact ⟨(witState (fun x => x.onBoot (fun b =>
  { b with episode := some { reach := 5, active := [4], best := { order := 4, reach := 5, cause := 4, detail := 0, held := true }, loading := true, begun := true, restarts := 0 } }))),
  .a, 2,
  ({ reach := 5, active := [4], best := { order := 4, reach := 5, cause := 4, detail := 0, held := true }, loading := true, begun := true, restarts := 0 }),
  _, rfl, by decide +kernel⟩
  · exact ⟨(witState (fun x => (x.set F.RST_START_STEP 1).onBoot (fun b =>
  { b with start := some { step := 1, at_ := 9 } }))), .a, 2, _, rfl, by decide +kernel⟩
  · exact ⟨(witState (fun x => x.onBoot (fun b =>
  { b with episode := some { reach := 5, active := [], best := { order := 4, reach := 5, cause := 4, detail := 0, held := true }, loading := false, begun := false, restarts := 0 } }))),
  .a,
  ({ reach := 5, active := [], best := { order := 4, reach := 5, cause := 4, detail := 0, held := true }, loading := false, begun := false, restarts := 0 }),
  _, rfl, by decide +kernel⟩
  · exact ⟨(witState (fun x => x.onBoot (fun b => { b with dormant := true, wake := 1 }))), .a, 0, _, rfl, by decide +kernel⟩
  · exact ⟨(witState (fun x => (x.onRake (fun r => { r with frameOpen := true })).setB (F.CLU_GRAFT_ACTIVE 3) true)),
  .a, _, rfl, by decide +kernel⟩
  · exact ⟨(witState (fun x => (x.onRake (fun r => { r with frameOpen := true })).setB (F.CLU_GRAFT_ACTIVE 30) true)),
  .a, 3, _, rfl, by decide +kernel⟩
  · exact ⟨(witState (fun x => x)), .a, 0, _, rfl, by decide +kernel⟩
  · exact ⟨(witState (fun x => x)), .a, 0, 0, _, rfl, by decide +kernel⟩

theorem witness_StartSteps :
    (∃ (s : State) (d : DieId) (r : StepReport) (q : Start) (n : Nat) (x : Die), s.die d = x ∧ s.running d ∧ (x.get
      F.RST_START_KIND = 0) ∧ (x.boot.start = some q) ∧ (x.on F.NVS_STATE_READY = true) ∧ (q.step = 2) ∧ (r.err =
      none) ∧ (r.tries = n) ∧ (0 < n) ∧ (n < 4) ∧ (x.get F.CLK_CNT_RETRIES + n - 1 < 2 ^ (F.CLK_CNT_RETRIES).width)) ∧
    (∃ (s : State) (d : DieId) (r : StepReport) (q : Start) (x : Die), s.die d = x ∧ s.running d ∧ (x.get
      F.RST_START_KIND = 0) ∧ (x.boot.start = some q) ∧ (x.on F.NVS_STATE_READY = true) ∧ (q.step = 2) ∧ (4 ≤ r.tries)
      ∧ (x.get F.RST_START_TRIES < 2)) ∧
    (∃ (s : State) (d : DieId) (r : StepReport) (q : Start) (n : Nat) (x : Die), s.die d = x ∧ s.running d ∧ (x.get
      F.RST_START_KIND = 0) ∧ (x.boot.start = some q) ∧ (x.on F.NVS_STATE_READY = true) ∧ (q.step = 4) ∧ (r.err = some
      n) ∧ (n < 256) ∧ (x.get F.RST_START_TRIES = 2)) ∧
    (∃ (s : State) (d : DieId) (r : StepReport) (q : Start) (n : Nat) (x : Die), s.die d = x ∧ s.running d ∧ (x.get
      F.RST_START_KIND = 0) ∧ (x.boot.start = some q) ∧ (x.on F.NVS_STATE_READY = true) ∧ (q.step = 6) ∧ (r.err = some
      n) ∧ (x.get F.RST_START_TRIES = 2) ∧ (r.cores = []) ∧ (x.boot.limited = false)) ∧
    (∃ (s : State) (d : DieId) (r : StepReport) (q : Start) (x : Die), s.die d = x ∧ s.running d ∧ (x.get
      F.RST_START_KIND = 0) ∧ (x.boot.start = some q) ∧ (x.on F.NVS_STATE_READY = true) ∧ (q.step = 3) ∧ (r.err =
      none) ∧ (x.boot.limited = false)) ∧
    (∃ (s : State) (d : DieId) (q : Start) (x : Die), s.die d = x ∧ s.running d ∧ (x.get F.RST_START_KIND = 0) ∧
      (x.boot.start = some q) ∧ (x.on F.NVS_STATE_READY = true) ∧ (q.step = 8) ∧ (x.clo.move = none)) ∧
    (∃ (s : State) (d : DieId) (r : StepReport) (q : Start) (x : Die), s.die d = x ∧ s.running d ∧ (x.get
      F.RST_START_KIND = 0) ∧ (x.boot.start = some q) ∧ (x.on F.NVS_STATE_READY = false) ∧ (r.err = none) ∧ (q.step ≠
      2)) ∧
    (∃ (s : State) (d : DieId) (q : Start) (x : Die), s.die d = x ∧ s.running d ∧ (x.get F.RST_START_KIND = 0) ∧
      (x.boot.start = some q) ∧ (x.on F.NVS_STATE_READY = true) ∧ (q.step = 9) ∧ (q.opening = true) ∧
      (x.evd.opening.isSome = true)) ∧
    (∃ (s : State) (d : DieId) (q : Start) (x : Die), s.die d = x ∧ s.running d ∧ (x.get F.RST_START_KIND = 0) ∧
      (x.boot.start = some q) ∧ (x.on F.NVS_STATE_READY = true) ∧ (q.step = 9) ∧ (q.opening = true) ∧ (x.evd.opening =
      none)) ∧
    (∃ (s : State) (d : DieId) (q : Start) (x : Die), s.die d = x ∧ s.running d ∧ (x.get F.RST_START_KIND = 0) ∧
      (x.boot.start = some q) ∧ (x.on F.NVS_STATE_READY = true) ∧ (q.step = 10) ∧ (x.get F.AFE_OUT_STAT_RAMPING = 0)) ∧
    (∃ (s : State) (d : DieId) (q : Start) (x : Die), s.die d = x ∧ s.running d ∧ (x.get F.RST_START_KIND = 0) ∧
      (x.boot.start = some q) ∧ (x.on F.NVS_STATE_READY = true) ∧ (q.step = 11) ∧ (x.outGood .vdet = true) ∧
      (x.outGood .vblind = true)) ∧
    (∃ (s : State) (d : DieId) (q : Start) (x : Die), s.die d = x ∧ s.running d ∧ (x.get F.RST_START_KIND = 1) ∧
      (x.boot.start = some q) ∧ (x.on F.NVS_STATE_READY = true) ∧ (q.step = 8) ∧ (x.clo.move = none)) ∧
    (∃ (s : State) (d : DieId) (n : Nat) (x : Die), s.die d = x ∧ s.running d ∧ (x.boot.limitedDue = some n)) ∧
    (∃ (s : State) (d : DieId) (r : StepReport) (q : Start) (x : Die), s.die d = x ∧ s.running d ∧ (x.boot.limitedDue
      = none) ∧ (x.get F.RST_START_KIND = 2) ∧ (x.boot.start = some q) ∧ (q.step = 3) ∧ (x.boot.limited = true) ∧
      (r.err = none)) ∧
    (∃ (s : State) (d : DieId) (q : Start) (x : Die), s.die d = x ∧ s.running d ∧ (x.startStep = 5) ∧ (x.get
      F.SYS_IDENT_BOOT = 1) ∧ (x.boot.start = some q)) ∧
    (∃ (s : State) (d : DieId) (x : Die), s.die d = x ∧ s.running d ∧ (x.startStep ≠ 5)) ∧
    (∃ (s : State) (d : DieId) (q : Start) (x : Die), s.die d = x ∧ s.running d ∧ (x.boot.start = some q) ∧ (q.step =
      5) ∧ (q.go = false) ∧ (x.get F.SYS_IDENT_BOOT = 1) ∧ (x.get F.RST_START_TRIES < 2)) := by
  refine ⟨?_, ?_, ?_, ?_, ?_, ?_, ?_, ?_, ?_, ?_, ?_, ?_, ?_, ?_, ?_, ?_, ?_⟩
  · exact ⟨(witState (fun x => (((x.set F.NVS_STATE_READY 1 |>.set F.RST_START_KIND 0).set F.RST_START_STEP 2).onBoot
  (fun b => { b with start := some { step := 2, at_ := 5 } })).set F.CLK_CNT_RETRIES 0)), .a,
  ({ err := none, tries := 2, lockUs := 40, dram := true, images := true, cores := [], flash := [], regs := [], bad := [], crypto := true, ecc := .clean }),
  ({ step := 2, at_ := 5 }), 2, _, rfl, by decide +kernel⟩
  · exact ⟨(witState (fun x => (((x.set F.NVS_STATE_READY 1 |>.set F.RST_START_KIND 0).set F.RST_START_STEP 2).onBoot
  (fun b => { b with start := some { step := 2, at_ := 5 } })).set F.RST_START_TRIES 0)), .a,
  ({ err := none, tries := 4, lockUs := 40, dram := true, images := true, cores := [], flash := [], regs := [], bad := [], crypto := true, ecc := .clean }),
  ({ step := 2, at_ := 5 }), _, rfl, by decide +kernel⟩
  · exact ⟨(witState (fun x => (((x.set F.NVS_STATE_READY 1 |>.set F.RST_START_KIND 0).set F.RST_START_STEP 4).onBoot
  (fun b => { b with start := some { step := 4, at_ := 5 } })).set F.RST_START_TRIES 2)), .a,
  ({ err := some 2, tries := 1, lockUs := 40, dram := true, images := true, cores := [], flash := [], regs := [], bad := [], crypto := true, ecc := .clean }),
  ({ step := 4, at_ := 5 }), 2, _, rfl, by decide +kernel⟩
  · exact ⟨(witState (fun x => (((x.set F.NVS_STATE_READY 1 |>.set F.RST_START_KIND 0).set F.RST_START_STEP 6).onBoot
  (fun b => { b with start := some { step := 6, at_ := 5 } })).set F.RST_START_TRIES 2)), .a,
  ({ err := some 2, tries := 1, lockUs := 40, dram := true, images := true, cores := [], flash := [], regs := [], bad := [], crypto := true, ecc := .clean }),
  ({ step := 6, at_ := 5 }), 2, _, rfl, by decide +kernel⟩
  · exact ⟨(witState (fun x => ((x.set F.NVS_STATE_READY 1 |>.set F.RST_START_KIND 0).set F.RST_START_STEP 3).onBoot
  (fun b => { b with start := some { step := 3, at_ := 5 } }))), .a,
  ({ err := none, tries := 1, lockUs := 40, dram := true, images := true, cores := [], flash := [], regs := [], bad := [], crypto := true, ecc := .clean }),
  ({ step := 3, at_ := 5 }), _, rfl, by decide +kernel⟩
  · exact ⟨(witState (fun x => ((x.set F.NVS_STATE_READY 1 |>.set F.RST_START_KIND 0).set F.RST_START_STEP 8).onBoot
  (fun b => { b with start := some { step := 8, at_ := 5 } }))), .a, ({ step := 8, at_ := 5 }), _, rfl, by decide +kernel⟩
  · exact ⟨(witState (fun x => (((x.set F.NVS_STATE_READY 1 |>.set F.RST_START_KIND 0).set F.RST_START_STEP 9).onBoot
  (fun b => { b with start := some { step := 9, at_ := 5 } })).set F.NVS_STATE_READY 0)), .a,
  ({ err := none, tries := 1, lockUs := 40, dram := true, images := true, cores := [], flash := [], regs := [], bad := [], crypto := true, ecc := .clean }),
  ({ step := 9, at_ := 5 }), _, rfl, by decide +kernel⟩
  · exact ⟨(witState (fun x =>
  ({ x with evd := { x.evd with opening := some { kind := 0, noKey := false, session := 5, first := 1, key := [], nextKey := [], hash := [] } } }.set
  F.NVS_STATE_READY 1 |>.set F.RST_START_KIND 0).onBoot (fun b =>
  { b with start := some { step := 9, at_ := 5, opening := true } }))), .a,
  ({ step := 9, at_ := 5, opening := true }), _, rfl, by decide +kernel⟩
  · exact ⟨(witState (fun x => (x.set F.NVS_STATE_READY 1 |>.set F.RST_START_KIND 0).onBoot (fun b =>
  { b with start := some { step := 9, at_ := 5, opening := true } }))), .a,
  ({ step := 9, at_ := 5, opening := true }), _, rfl, by decide +kernel⟩
  · exact ⟨(witState (fun x => (((x.set F.NVS_STATE_READY 1 |>.set F.RST_START_KIND 0).set F.RST_START_STEP 10).onBoot
  (fun b => { b with start := some { step := 10, at_ := 5 } })).set F.AFE_OUT_STAT_RAMPING 0)), .a,
  ({ step := 10, at_ := 5 }), _, rfl, by decide +kernel⟩
  · exact ⟨(witState (fun x => (((x.set F.NVS_STATE_READY 1 |>.set F.RST_START_KIND 0).set F.RST_START_STEP 11).onBoot
  (fun b => { b with start := some { step := 11, at_ := 5 } })).set F.AFE_OUT_STAT_GOOD 31)), .a,
  ({ step := 11, at_ := 5 }), _, rfl, by decide +kernel⟩
  · exact ⟨(witState (fun x => ((x.set F.NVS_STATE_READY 1 |>.set F.RST_START_KIND 1).set F.RST_START_STEP 8).onBoot
  (fun b => { b with start := some { step := 8, at_ := 5 } }))), .a, ({ step := 8, at_ := 5 }), _, rfl, by decide +kernel⟩
  · exact ⟨(witState (fun x => x.onBoot (fun b => { b with limitedDue := some 5 }))), .a, 5, _, rfl, by decide +kernel⟩
  · exact ⟨(witState (fun x => (((x.set F.NVS_STATE_READY 1 |>.set F.RST_START_KIND 2).set F.RST_START_STEP 3).onBoot
  (fun b => { b with start := some { step := 3, at_ := 5 } })).onBoot (fun b => { b with limited := true }))), .a,
  ({ err := none, tries := 1, lockUs := 40, dram := true, images := true, cores := [], flash := [], regs := [], bad := [], crypto := true, ecc := .clean }),
  ({ step := 3, at_ := 5 }), _, rfl, by decide +kernel⟩
  · exact ⟨(witState (fun x => (((x.set F.NVS_STATE_READY 1 |>.set F.RST_START_KIND 0).set F.RST_START_STEP 5).onBoot
  (fun b => { b with start := some { step := 5, at_ := 5 } })).set F.SYS_IDENT_BOOT 1)), .a,
  ({ step := 5, at_ := 5 }), _, rfl, by decide +kernel⟩
  · exact ⟨(witState (fun x => x)), .a, _, rfl, by decide +kernel⟩
  · exact ⟨(witState (fun x => ((((x.set F.NVS_STATE_READY 1 |>.set F.RST_START_KIND 0).set F.RST_START_STEP 5).onBoot
  (fun b => { b with start := some { step := 5, at_ := 5 } })).set F.SYS_IDENT_BOOT 1).set F.RST_START_TRIES 0)), .a,
  ({ step := 5, at_ := 5 }), _, rfl, by decide +kernel⟩

theorem witness_PowerRequests :
    (∃ (s : State) (d : DieId) (x : Die), s.die d = x ∧ s.running d ∧ (x.boot.going = none) ∧ (x.boot.power = 1)) ∧
    (∃ (s : State) (d : DieId) (x : Die), s.die d = x ∧ s.running d ∧ (x.boot.going = none) ∧ (x.boot.power = 0)) ∧
    (∃ (s : State) (d : DieId) (x : Die), s.die d = x ∧ s.running d ∧ (x.boot.going = none) ∧ (x.boot.start = none) ∧
      (x.boot.retry = false) ∧ (x.boot.limitedDue = none) ∧ (x.thm.stopping = false) ∧ (x.evd.pfail = false) ∧
      (x.boot.power < 2)) ∧
    (∃ (s : State) (d : DieId) (x : Die), s.die d = x ∧ s.running d ∧ (x.boot.going = none) ∧ (x.boot.start = none) ∧
      (x.boot.retry = false) ∧ (x.boot.limitedDue = none) ∧ (x.thm.stopping = false) ∧ (x.evd.pfail = false) ∧
      (x.boot.power < 2)) ∧
    (∃ (s : State) (d : DieId) (x : Die), s.die d = x ∧ s.running d ∧ (x.boot.going = none) ∧ (x.boot.start.isSome =
      true ∨ x.boot.retry = true ∨ x.boot.limitedDue.isSome = true ∨ x.thm.stopping = true ∨ x.evd.pfail = true)) ∧
    (∃ (s : State) (d : DieId) (x : Die), s.die d = x ∧ s.running d ∧ (x.boot.going = none) ∧ (x.boot.start.isSome =
      true ∨ x.boot.retry = true ∨ x.boot.limitedDue.isSome = true ∨ x.thm.stopping = true ∨ x.evd.pfail = true)) ∧
    (∃ (s : State) (d : DieId) (x : Die), s.die d = x ∧ s.running d ∧ (x.boot.going.isSome = true)) ∧
    (∃ (s : State) (d : DieId) (x : Die), s.die d = x ∧ s.running d ∧ (x.boot.going = none) ∧ (x.boot.power = 2) ∧
      (x.evd.pfail = false)) ∧
    (∃ (s : State) (d : DieId) (x : Die), s.die d = x ∧ s.running d ∧ (x.boot.going = none) ∧ (x.boot.power = 0)) ∧
    (∃ (s : State) (d : DieId) (x : Die), s.die d = x ∧ s.running d ∧ (x.boot.going = none) ∧ (x.boot.power = 2) ∧
      (x.evd.pfail = false)) ∧
    (∃ (s : State) (d : DieId) (x : Die), s.die d = x ∧ s.running d ∧ (x.boot.going = none) ∧ (x.boot.power = 2) ∧
      (x.evd.pfail = true)) ∧
    (∃ (s : State) (d : DieId) (x : Die), s.die d = x ∧ s.running d ∧ (x.boot.going = none) ∧ (x.boot.power = 2) ∧
      (x.evd.pfail = true)) := by
  refine ⟨?_, ?_, ?_, ?_, ?_, ?_, ?_, ?_, ?_, ?_, ?_, ?_⟩
  · exact ⟨(witState (fun x => (x.set F.SEQ_PC_STATE 0 |>.onBoot (fun b => { b with power := 1 })))), .a, _, rfl, by decide +kernel⟩
  · exact ⟨(witState (fun x => (x.set F.SEQ_PC_STATE 0 |>.onBoot (fun b => { b with power := 0 })))), .a, _, rfl, by decide +kernel⟩
  · exact ⟨(witState (fun x => (x.set F.SEQ_PC_STATE 0 |>.onBoot (fun b => { b with power := 1 })))), .a, _, rfl, by decide +kernel⟩
  · exact ⟨(witState (fun x => (x.set F.SEQ_PC_STATE 0 |>.onBoot (fun b => { b with power := 1 })))), .a, _, rfl, by decide +kernel⟩
  · exact ⟨(witState (fun x => ((x.set F.SEQ_PC_STATE 0 |>.onBoot (fun b => { b with power := 0 }))).onBoot (fun b =>
  { b with start := some { step := 3 } }))), .a, _, rfl, by decide +kernel⟩
  · exact ⟨(witState (fun x => ((x.set F.SEQ_PC_STATE 0 |>.onBoot (fun b => { b with power := 0 }))).onBoot (fun b =>
  { b with start := some { step := 3 } }))), .a, _, rfl, by decide +kernel⟩
  · exact ⟨(witState (fun x => x.onBoot (fun b => { b with going := some 2 }))), .a, _, rfl, by decide +kernel⟩
  · exact ⟨(witState (fun x => (x.set F.SEQ_PC_STATE 0 |>.onBoot (fun b => { b with power := 2 })))), .a, _, rfl, by decide +kernel⟩
  · exact ⟨(witState (fun x => (x.set F.SEQ_PC_STATE 0 |>.onBoot (fun b => { b with power := 0 })))), .a, _, rfl, by decide +kernel⟩
  · exact ⟨(witState (fun x => (x.set F.SEQ_PC_STATE 0 |>.onBoot (fun b => { b with power := 2 })))), .a, _, rfl, by decide +kernel⟩
  · exact ⟨(witState (fun x => ((x.set F.SEQ_PC_STATE 0 |>.onBoot (fun b => { b with power := 2 }))).onEvd (fun e =>
  { e with pfail := true }))), .a, _, rfl, by decide +kernel⟩
  · exact ⟨(witState (fun x => ((x.set F.SEQ_PC_STATE 0 |>.onBoot (fun b => { b with power := 2 }))).onEvd (fun e =>
  { e with pfail := true }))), .a, _, rfl, by decide +kernel⟩

theorem witness_PowerStates :
    (∃ (s : State) (d : DieId) (x : Die), s.die d = x ∧ s.running d ∧ (x.boot.going = some 1) ∧ (x.rakeRuns = false) ∧
      (x.boot.power = 0) ∧ (x.biasDriven = true)) ∧
    (∃ (s : State) (d : DieId) (x : Die), s.die d = x ∧ s.running d ∧ (x.boot.going = some 1) ∧ (x.rakeRuns = false) ∧
      (x.boot.power = 0) ∧ (x.biasDriven = false)) ∧
    (∃ (s : State) (d : DieId) (x : Die), s.die d = x ∧ s.running d ∧ (x.boot.going = some 2) ∧ (x.rakeRuns = false) ∧
      (x.biasDriven = false) ∧ (x.boot.cutMade = true) ∧ (x.evd.queue = [])) ∧
    (∃ (s : State) (d : DieId) (x : Die), s.die d = x ∧ s.running d ∧ (x.boot.going = some 0) ∧ (x.boot.power = 1) ∧
      (x.rake.dozeRan = false) ∧ (x.boot.wokenAt = none) ∧ (x.anyRamp = false)) ∧
    (∃ (s : State) (d : DieId) (x : Die), s.die d = x ∧ s.running d ∧ (x.boot.going = some 0) ∧ (x.boot.power = 1) ∧
      (x.anyRamp = true)) ∧
    (∃ (s : State) (d : DieId) (x : Die), s.die d = x ∧ s.running d ∧ (x.boot.going = some 3) ∧ (x.rakeRuns = false) ∧
      (x.biasDriven = false) ∧ (x.boot.power < 2) ∧ (x.evd.closing = none) ∧ (x.evd.live = false)) ∧
    (∃ (s : State) (d : DieId) (n : Fin 3) (low : Bool) (x : Die), s.die d = x ∧ s.running d ∧ (low = true) ∧
      (x.boot.banks.getLsbD n.val = true)) ∧
    (∃ (s : State) (d : DieId) (low : Bool) (x : Die), s.die d = x ∧ s.running d ∧ (low = false)) ∧
    (∃ (s : State) (d : DieId) (low : Bool) (x : Die), s.die d = x ∧ s.running d ∧ (low = true)) ∧
    (∃ (s : State) (d : DieId) (x : Die), s.die d = x ∧ s.running d) := by
  refine ⟨?_, ?_, ?_, ?_, ?_, ?_, ?_, ?_, ?_, ?_⟩
  · exact ⟨(witState (fun x => (((x.set F.SEQ_PC_STATE 0 |>.onBoot (fun b => { b with power := 0 }))).onBoot (fun b =>
  { b with going := some 1 })).onAfe (fun a => { a with driven := 31 }))), .a, _, rfl, by decide +kernel⟩
  · exact ⟨(witState (fun x => (((x.set F.SEQ_PC_STATE 0 |>.onBoot (fun b => { b with power := 0 }))).onBoot (fun b =>
  { b with going := some 1 })).set (F.afeEn .vdet) 1)), .a, _, rfl, by decide +kernel⟩
  · exact ⟨(witState (fun x => (((x.set F.SEQ_PC_STATE 0 |>.onBoot (fun b => { b with power := 1 }))).onBoot (fun b =>
  { b with going := some 2 })).onBoot (fun b => { b with cutMade := true }))), .a, _, rfl, by decide +kernel⟩
  · exact ⟨(witState (fun x => (((x.set F.SEQ_PC_STATE 0 |>.onBoot (fun b => { b with power := 1 }))).onBoot (fun b =>
  { b with going := some 0 })).set F.AFE_OUT_STAT_RAMPING 0)), .a, _, rfl, by decide +kernel⟩
  · exact ⟨(witState (fun x => (((x.set F.SEQ_PC_STATE 0 |>.onBoot (fun b => { b with power := 1 }))).onBoot (fun b =>
  { b with going := some 0 })).set F.AFE_OUT_STAT_RAMPING 1)), .a, _, rfl, by decide +kernel⟩
  · exact ⟨(witState (fun x => ((x.set F.SEQ_PC_STATE 0 |>.onBoot (fun b => { b with power := 1 }))).onBoot (fun b =>
  { b with going := some 3 }))), .a, _, rfl, by decide +kernel⟩
  · exact ⟨(witState (fun x => x.onBoot (fun b => { b with banks := 7 }))), .a, default, true, _, rfl, by decide +kernel⟩
  · exact ⟨(witState (fun x => x.onBoot (fun b => { b with banks := 7 }))), .a, false, _, rfl, by decide +kernel⟩
  · exact ⟨(witState (fun x => x)), .a, true, _, rfl, by decide +kernel⟩
  · exact ⟨(witState (fun x => x)), .a, _, rfl, by decide +kernel⟩

theorem witness_SeedTrayOperations :
    (∃ (s : State) (d : DieId) (page : Nat) (n : Nat) (x : Die), s.die d = x ∧ s.running d ∧ (x.on F.NVS_OP_STAT_BUSY
      = false) ∧ (x.on F.NVS_STATE_READY = true) ∧ (page < 1328) ∧ (page ≠ 2) ∧ (x.nvs.writing ≠ some page) ∧
      (x.nvs.newer page = some n) ∧ (n = 0 ∨ n = 1)) ∧
    (∃ (s : State) (d : DieId) (page : Nat) (off : Nat) (len : Nat) (x : Die), s.die d = x ∧ s.running d ∧ (x.on
      F.NVS_OP_STAT_BUSY = false) ∧ (x.on F.NVS_STATE_READY = true) ∧ (x.on F.NVS_STATE_STOPPED = false) ∧ (x.on
      F.NVS_STATE_EP_ONLY = false) ∧ (x.nvs.mapFailed = false) ∧ (page < 1920) ∧ (0 < len) ∧ (len ≤ 64) ∧ (off < 64) ∧
      (x.mayWrite page = true)) ∧
    (∃ (s : State) (d : DieId) (page : Nat) (off : Nat) (len : Nat) (x : Die), s.die d = x ∧ s.running d ∧ (x.on
      F.NVS_OP_STAT_BUSY = false) ∧ (x.on F.NVS_STATE_READY = true) ∧ (page < 1328) ∧ (0 < len) ∧ (len ≤ 64) ∧ (off <
      64)) ∧
    (∃ (s : State) (d : DieId) (page : Nat) (x : Die), s.die d = x ∧ s.running d ∧ (x.on F.NVS_OP_STAT_BUSY = false) ∧
      (x.on F.NVS_STATE_READY = true) ∧ (page < 1328) ∧ (page ≠ 2) ∧ (x.nvs.writing ≠ some page)) ∧
    (∃ (s : State) (d : DieId) (page : Nat) (x : Die), s.die d = x ∧ s.running d ∧ (x.on F.NVS_OP_STAT_BUSY = false) ∧
      (x.on F.NVS_STATE_READY = true) ∧ (page < 1328) ∧ (page ≠ 2) ∧ (x.nvs.writing ≠ some page)) ∧
    (∃ (s : State) (d : DieId) (t : Nat) (x : Die), s.die d = x ∧ s.running d ∧ (x.on F.NVS_OP_STAT_BUSY = false) ∧
      (x.on F.NVS_STATE_READY = true) ∧ (t < 22) ∧ (x.get F.NVS_OP_LEN ≤ 64)) ∧
    (∃ (s : State) (d : DieId) (t : Nat) (x : Die), s.die d = x ∧ s.running d ∧ (x.on F.NVS_OP_STAT_BUSY = false) ∧
      (x.on F.NVS_STATE_READY = true) ∧ (21 < t) ∧ (t < 4096) ∧ (x.get F.NVS_OP_LEN ≤ 64)) ∧
    (∃ (s : State) (d : DieId) (t : Nat) (x : Die), s.die d = x ∧ s.running d ∧ (x.on F.NVS_OP_STAT_BUSY = false) ∧
      (x.on F.NVS_STATE_READY = true) ∧ (x.on F.NVS_STATE_STOPPED = false) ∧ (x.on F.NVS_STATE_EP_ONLY = false) ∧
      (x.nvs.mapFailed = false) ∧ (15 < t) ∧ (t < 22) ∧ (x.get F.NVS_OP_LEN ≤ 64) ∧ (0 < x.get F.NVS_TALLY_ADD_ADD)) ∧
    (∃ (s : State) (d : DieId) (t : Nat) (x : Die), s.die d = x ∧ s.running d ∧ (x.on F.NVS_OP_STAT_BUSY = false) ∧
      (x.on F.NVS_STATE_READY = true) ∧ (t < 16) ∧ (x.get F.NVS_OP_LEN ≤ 64)) ∧
    (∃ (s : State) (d : DieId) (x : Die), s.die d = x ∧ s.running d ∧ (x.on F.NVS_OP_STAT_BUSY = true)) ∧
    (∃ (s : State) (d : DieId) (x : Die), s.die d = x ∧ s.running d ∧ (x.on F.NVS_OP_STAT_BUSY = true)) := by
  refine ⟨?_, ?_, ?_, ?_, ?_, ?_, ?_, ?_, ?_, ?_, ?_⟩
  · exact ⟨(witState (fun x => (((((x.set F.NVS_STATE_READY 1).set F.NVS_OP_STAT_BUSY 0).set F.NVS_STATE_STOPPED
  0).set F.NVS_STATE_EP_ONLY 0)).onNvs (fun s =>
  { s with pages := [(1400, { data := (List.range 64).map (fun i => BitVec.ofNat 8 i), seq := 3, writes := 1, crc := crc32 ((List.range 64).map (fun i => BitVec.ofNat 8 i)) })] }))),
  .a, 700, 0, _, rfl, by decide +kernel⟩
  · exact ⟨(witState (fun x => ((((x.set F.NVS_STATE_READY 1).set F.NVS_OP_STAT_BUSY 0).set F.NVS_STATE_STOPPED 0).set
  F.NVS_STATE_EP_ONLY 0))), .a, 1700, 60, 8, _, rfl, by decide +kernel⟩
  · exact ⟨(witState (fun x => ((((x.set F.NVS_STATE_READY 1).set F.NVS_OP_STAT_BUSY 0).set F.NVS_STATE_STOPPED 0).set
  F.NVS_STATE_EP_ONLY 0))), .a, 700, 60, 8, _, rfl, by decide +kernel⟩
  · exact ⟨(witState (fun x => (((((x.set F.NVS_STATE_READY 1).set F.NVS_OP_STAT_BUSY 0).set F.NVS_STATE_STOPPED
  0).set F.NVS_STATE_EP_ONLY 0)).onNvs (fun s =>
  { s with pages := [(1400, { data := (List.range 64).map (fun i => BitVec.ofNat 8 i), seq := 3, writes := 1, crc := crc32 ((List.range 64).map (fun i => BitVec.ofNat 8 i)) })] }))),
  .a, 700, _, rfl, by decide +kernel⟩
  · exact ⟨(witState (fun x => (((((x.set F.NVS_STATE_READY 1).set F.NVS_OP_STAT_BUSY 0).set F.NVS_STATE_STOPPED
  0).set F.NVS_STATE_EP_ONLY 0)).onNvs (fun s =>
  { s with pages := [(1401, { data := (List.range 64).map (fun i => BitVec.ofNat 8 i), seq := 3, writes := 1, crc := crc32 ((List.range 64).map (fun i => BitVec.ofNat 8 i)) })] }))),
  .a, 700, _, rfl, by decide +kernel⟩
  · exact ⟨(witState (fun x => ((((((x.set F.NVS_STATE_READY 1).set F.NVS_OP_STAT_BUSY 0).set F.NVS_STATE_STOPPED
  0).set F.NVS_STATE_EP_ONLY 0)).set F.NVS_OP_LEN 4).onNvs (fun s =>
  { s with tallies := fillSet [] s.tallies 17 [{ value := 77, gen := 1, valid := true }] }))), .a, 17, _, rfl, by decide +kernel⟩
  · exact ⟨(witState (fun x => (((((x.set F.NVS_STATE_READY 1).set F.NVS_OP_STAT_BUSY 0).set F.NVS_STATE_STOPPED
  0).set F.NVS_STATE_EP_ONLY 0)).set F.NVS_OP_LEN 4)), .a, 22, _, rfl, by decide +kernel⟩
  · exact ⟨(witState (fun x => ((((((x.set F.NVS_STATE_READY 1).set F.NVS_OP_STAT_BUSY 0).set F.NVS_STATE_STOPPED
  0).set F.NVS_STATE_EP_ONLY 0)).set F.NVS_OP_LEN 4).set F.NVS_TALLY_ADD_ADD 3)), .a, 16, _, rfl, by decide +kernel⟩
  · exact ⟨(witState (fun x => (((((x.set F.NVS_STATE_READY 1).set F.NVS_OP_STAT_BUSY 0).set F.NVS_STATE_STOPPED
  0).set F.NVS_STATE_EP_ONLY 0)).set F.NVS_OP_LEN 4)), .a, 15, _, rfl, by decide +kernel⟩
  · exact ⟨(witState (fun x => x.set F.NVS_OP_STAT_BUSY 1)), .a, _, rfl, by decide +kernel⟩
  · exact ⟨(witState (fun x => x.set F.NVS_OP_STAT_BUSY 1)), .a, _, rfl, by decide +kernel⟩

theorem witness_SeedTrayWrites :
    (∃ (s : State) (d : DieId) (n : Nat) (off : Nat) (bytes : List Byte) (r : NvsReq) (x : Die), s.die d = x ∧
      s.running d ∧ (x.nvs.doing = none) ∧ (x.nvsNext = some r) ∧ (r.what = .page n off bytes)) ∧
    (∃ (s : State) (d : DieId) (r : NvsReq) (x : Die), s.die d = x ∧ s.running d ∧ (x.nvs.doing = some r)) ∧
    (∃ (s : State) (d : DieId) (n : Nat) (off : Nat) (v : Nat) (bytes : List Byte) (x : Die), s.die d = x ∧ s.running
      d ∧ (x.nvs.doing = some { prio := v, what := .page n off bytes, tag := .none }) ∧ (n < 1920) ∧ (x.nvs.op = none)
      ∧ (assocGet x.nvs.map (2 * n) = none) ∧ (assocGet x.nvs.map (2 * n + 1) = none) ∧ (x.nvs.dead = []) ∧
      ((x.nvs.copy n 0).writes < 1000000) ∧ ((x.nvs.copy n 1).writes < 1000000)) ∧
    (∃ (s : State) (d : DieId) (kind : Nat) (n : Nat) (v : Nat) (i : Nat) (x : Die), s.die d = x ∧ s.running d ∧
      (x.nvs.doing = some { prio := v, what := .retire i kind, tag := .none }) ∧ (x.nvs.map = []) ∧ (x.nvs.freeSpare =
      some n)) ∧
    (∃ (s : State) (d : DieId) (n : Nat) (v : Nat) (i : Nat) (x : Die), s.die d = x ∧ s.running d ∧ (x.nvs.doing =
      some { prio := v, what := .moved i i n, tag := .none }) ∧ (x.nvs.map = []) ∧ (x.nvs.dead = []) ∧ (x.nvs.op =
      none) ∧ (i < 3840) ∧ (n < 4096) ∧ (4032 ≤ n) ∧ ((x.nvs.copy (mapEntry n).1 0).writes < 1000000) ∧ ((x.nvs.copy
      (mapEntry n).1 1).writes < 1000000)) ∧
    (∃ (s : State) (d : DieId) (n : Nat) (v : Nat) (t : Nat) (i : Nat) (x : Die), s.die d = x ∧ s.running d ∧
      (x.nvs.doing = some { prio := n, what := .tally t v, tag := .none }) ∧ (t < 22) ∧ (x.nvs.tally t ≤ v) ∧
      (x.nvs.nextSlot t = some i) ∧ (((x.nvs.tallies.getD t []).getD i {}).writes < 1000000) ∧ (tallyNewest
      (x.nvs.tallies.getD t []) = none)) ∧
    (∃ (s : State) (d : DieId) (x : Die), s.die d = x ∧ s.running d ∧ (x.on F.NVS_STATE_READY = false) ∧ (x.nvs.doing
      = none) ∧ (x.nvs.journal = []) ∧ (x.nvs.op = none)) ∧
    (∃ (s : State) (d : DieId) (kind : Nat) (x : Die), s.die d = x ∧ s.running d ∧ (kind = 1 ∨ kind = 2) ∧ (x.canRead
      2 1 = true) ∧ (x.nvs.asks = []) ∧ (x.nvs.refusing = false) ∧ (x.pwdHash x.pwdOffered = x.pwdStored kind ∨
      (x.pwdOffered = 0 ∧ x.pwdUnset kind = true))) ∧
    (∃ (s : State) (d : DieId) (kind : Nat) (x : Die), s.die d = x ∧ s.running d ∧ (kind = 1 ∨ kind = 2) ∧ (x.canRead
      2 1 = true) ∧ (x.nvs.asks = []) ∧ (x.nvs.refusing = false) ∧ (x.pwdHash x.pwdOffered ≠ x.pwdStored kind) ∧
      (x.pwdOffered ≠ 0 ∨ x.pwdUnset kind = false)) ∧
    (∃ (s : State) (d : DieId) (kind : Nat) (x : Die), s.die d = x ∧ s.running d ∧ (kind = 1 ∨ kind = 2) ∧ (x.canRead
      2 1 = true) ∧ (x.nvs.asks = []) ∧ (x.nvs.refusing = true)) ∧
    (∃ (s : State) (d : DieId) (kind : Nat) (x : Die), s.die d = x ∧ s.running d ∧ (kind = 1 ∨ kind = 2) ∧ (x.canRead
      2 1 = false)) ∧
    (∃ (s : State) (d : DieId) (kind : Nat) (x : Die), s.die d = x ∧ s.running d ∧ (kind ≠ 1) ∧ (kind ≠ 2)) ∧
    (∃ (s : State) (d : DieId) (x : Die), s.die d = x ∧ s.running d) ∧
    (∃ (s : State) (d : DieId) (kind : Nat) (x : Die), s.die d = x ∧ s.running d ∧ (kind = 1 ∨ kind = 2) ∧ (x.canRead
      2 1 = true) ∧ (x.nvs.asks = []) ∧ (x.pwdOpen 2 = true)) ∧
    (∃ (s : State) (d : DieId) (kind : Nat) (x : Die), s.die d = x ∧ s.running d ∧ (kind = 1 ∨ kind = 2) ∧ (x.canRead
      2 1 = true) ∧ (x.nvs.asks = []) ∧ (x.pwdOpen 2 = false)) ∧
    (∃ (s : State) (d : DieId) (x : Die), s.die d = x ∧ s.running d ∧ (x.nvs.refusing = true)) := by
  refine ⟨?_, ?_, ?_, ?_, ?_, ?_, ?_, ?_, ?_, ?_, ?_, ?_, ?_, ?_, ?_, ?_⟩
  · exact ⟨(witState (fun x => (((((x.set F.NVS_STATE_READY 1).set F.NVS_OP_STAT_BUSY 0).set F.NVS_STATE_STOPPED
  0).set F.NVS_STATE_EP_ONLY 0)).onNvs (fun s =>
  { s with queue := [{ prio := 6, what := .page 1700 5 [1, 2, 3], tag := .host }, { prio := 6, what := .tally 17 9, tag := .none }] }))),
  .a, 1700, 5, ([1, 2, 3]), ({ prio := 6, what := .page 1700 5 [1, 2, 3], tag := .host }), _, rfl, by decide +kernel⟩
  · exact ⟨(witState (fun x => x.onNvs (fun s =>
  { s with doing := some { prio := 6, what := .tally 17 9, tag := .none } }))), .a,
  ({ prio := 6, what := .tally 17 9, tag := .none }), _, rfl, by decide +kernel⟩
  · exact ⟨(witState (fun x => x.onNvs (fun s =>
  { s with doing := some { prio := 6, what := .page 1700 62 [1, 2, 3], tag := .none } }))), .a, 1700, 62, 6, ([1, 2,
  3]), _, rfl, by decide +kernel⟩
  · exact ⟨(witState (fun x => x.onNvs (fun s =>
  { s with doing := some { prio := 6, what := .retire 3400 1, tag := .none } }))), .a, 1, 4032, 6, 3400, _, rfl, by decide +kernel⟩
  · exact ⟨(witState (fun x => x.onNvs (fun s =>
  { s with doing := some { prio := 6, what := .moved 3400 3400 4033, tag := .none } }))), .a, 4033, 6, 3400, _, rfl,
  by decide +kernel⟩
  · exact ⟨(witState (fun x => x.onNvs (fun s =>
  { s with doing := some { prio := 6, what := .tally 17 9, tag := .none } }))), .a, 6, 9, 17, 0, _, rfl, by decide +kernel⟩
  · exact ⟨(witState (fun x => x.set F.NVS_STATE_READY 0)), .a, _, rfl, by decide +kernel⟩
  · exact ⟨(witState (fun x => ((((x.set F.NVS_STATE_READY 1).set F.NVS_OP_STAT_BUSY 0).set F.NVS_STATE_STOPPED 0).set
  F.NVS_STATE_EP_ONLY 0) |>.set F.NVS_PWD_LO_PWD 0 |>.set F.NVS_PWD_HI_PWD 0)), .a, 2, _, rfl, by decide +kernel⟩
  · exact ⟨(witState (fun x => ((((x.set F.NVS_STATE_READY 1).set F.NVS_OP_STAT_BUSY 0).set F.NVS_STATE_STOPPED 0).set
  F.NVS_STATE_EP_ONLY 0) |>.set F.NVS_PWD_LO_PWD 5 |>.set F.NVS_PWD_HI_PWD 0)), .a, 2, _, rfl, by decide +kernel⟩
  · exact ⟨(witState (fun x => (((((x.set F.NVS_STATE_READY 1).set F.NVS_OP_STAT_BUSY 0).set F.NVS_STATE_STOPPED
  0).set F.NVS_STATE_EP_ONLY 0)).onNvs (fun s => { s with refusing := true }))), .a, 2, _, rfl, by decide +kernel⟩
  · exact ⟨(witState (fun x => x.set F.NVS_STATE_READY 0)), .a, 2, _, rfl, by decide +kernel⟩
  · exact ⟨(witState (fun x => x)), .a, 3, _, rfl, by decide +kernel⟩
  · exact ⟨(witState (fun x => x)), .a, _, rfl, by decide +kernel⟩
  · exact ⟨(witState (fun x => ((((x.set F.NVS_STATE_READY 1).set F.NVS_OP_STAT_BUSY 0).set F.NVS_STATE_STOPPED 0).set
  F.NVS_STATE_EP_ONLY 0) |>.set F.NVS_STATE_UNLOCK_W 1)), .a, 2, _, rfl, by decide +kernel⟩
  · exact ⟨(witState (fun x => (((((x.set F.NVS_STATE_READY 1).set F.NVS_OP_STAT_BUSY 0).set F.NVS_STATE_STOPPED
  0).set F.NVS_STATE_EP_ONLY 0) |>.set F.NVS_STATE_UNLOCK_W 0).onNvs (fun s =>
  { s with pages := [(4, { data := List.replicate 64 7, seq := 1, crc := crc32 (List.replicate 64 7) })] }))), .a, 2,
  _, rfl, by decide +kernel⟩
  · exact ⟨(witState (fun x => x.onNvs (fun s => { s with refusing := true }))), .a, _, rfl, by decide +kernel⟩

theorem witness_StreamEngines :
    (∃ (s : State) (d : DieId) (k : Nat) (x : Die), s.die d = x ∧ s.running d ∧ (k < 42) ∧ (x.takes 0x14 = true)) ∧
    (∃ (s : State) (d : DieId) (k : Nat) (x : Die), s.die d = x ∧ s.running d ∧ (42 ≤ k ∨ x.takes 0x14 = false)) ∧
    (∃ (s : State) (d : DieId) (k : Nat) (len : Nat) (i : DmaItem) (x : Die), s.die d = x ∧ s.running d ∧ ((x.itemsOf
      k).head? = some i) ∧ (x.streamReady k = true) ∧ (streamWaits k = true) ∧ (i.bytes.length ≤ len) ∧ (k < 42)) ∧
    (∃ (s : State) (d : DieId) (k : Nat) (len : Nat) (i : DmaItem) (x : Die), s.die d = x ∧ s.running d ∧ ((x.itemsOf
      k).head? = some i) ∧ (x.streamReady k = true) ∧ (streamWaits k = true) ∧ (len < i.bytes.length) ∧ (k < 42)) ∧
    (∃ (s : State) (d : DieId) (k : Nat) (kind : Nat) (x : Die), s.die d = x ∧ s.running d ∧ (x.streamReady k = true)
      ∧ (streamWaits k = true) ∧ (k < 42) ∧ (kind < 4)) ∧
    (∃ (s : State) (d : DieId) (off : Nat) (bs : List Byte) (x : Die), s.die d = x ∧ s.running d ∧ (x.get
      F.PCI_BAR2_BASE_BASE * 1048576 + off + bs.length ≤ Config.dramBytes)) ∧
    (∃ (s : State) (d : DieId) (len : Nat) (off : Nat) (x : Die), s.die d = x ∧ s.running d ∧ (x.get
      F.PCI_BAR2_BASE_BASE * 1048576 + off + len ≤ Config.dramBytes)) ∧
    (∃ (s : State) (d : DieId) (len : Nat) (off : Nat) (x : Die), s.die d = x ∧ s.running d ∧ (Config.dramBytes <
      x.get F.PCI_BAR2_BASE_BASE * 1048576 + off + len)) ∧
    (∃ (s : State) (d : DieId) (x : Die), s.die d = x ∧ s.running d ∧ (∀ j ∈ x.dma.items, streamWaits j.stream =
      true)) ∧
    (∃ (s : State) (d : DieId) (x : Die), s.die d = x ∧ s.running d ∧ (∀ j ∈ x.dma.items, streamWaits j.stream =
      true)) ∧
    (∃ (s : State) (d : DieId) (width : Nat) (speed : Nat) (x : Die), s.die d = x ∧ s.running d ∧ (x.dma.perst =
      false) ∧ (x.boot.banks.getLsbD 0 = false) ∧ (width ≠ x.dma.width) ∧ (width = 1 ∨ width = 2 ∨ width = 4) ∧ (1 ≤
      speed ∧ speed ≤ 4)) ∧
    (∃ (s : State) (d : DieId) (width : Nat) (speed : Nat) (x : Die), s.die d = x ∧ s.running d ∧ (width ≠ 0) ∧
      ((width ≠ 1 ∧ width ≠ 2 ∧ width ≠ 4) ∨ speed = 0 ∨ 4 < speed)) ∧
    (∃ (s : State) (d : DieId) (low : Bool) (x : Die), s.die d = x ∧ s.running d ∧ (low = true)) ∧
    (∃ (s : State) (d : DieId) (low : Bool) (x : Die), s.die d = x ∧ s.running d ∧ (low = false)) := by
  refine ⟨?_, ?_, ?_, ?_, ?_, ?_, ?_, ?_, ?_, ?_, ?_, ?_, ?_, ?_⟩
  · exact ⟨(witState (fun x => (((((x.set (F.STR_RING_LO_ADDR 40) 0x12340 |>.set (F.STR_RING_HI_ADDR 40) 1).set
  (F.STR_CFG_EN 40) 1).set (F.STR_CFG_SIZE_LOG2 40) 6).set (F.STR_IDX_HEAD 40) 63).set (F.STR_IDX_TAIL 40) 1).onDma
  (fun m =>
  { m with bme := true, width := 4, d3 := false, items := [{ stream := 40, bytes := [1, 2, 3] }, { stream := 40, bytes := [4] }, { stream := 3, bytes := [5] }] }))),
  .a, 41, _, rfl, by decide +kernel⟩
  · exact ⟨(witState (fun x => x)), .a, 42, _, rfl, by decide +kernel⟩
  · exact ⟨(witState (fun x => (((((x.set (F.STR_RING_LO_ADDR 40) 0x12340 |>.set (F.STR_RING_HI_ADDR 40) 1).set
  (F.STR_CFG_EN 40) 1).set (F.STR_CFG_SIZE_LOG2 40) 6).set (F.STR_IDX_HEAD 40) 63).set (F.STR_IDX_TAIL 40) 1).onDma
  (fun m =>
  { m with bme := true, width := 4, d3 := false, items := [{ stream := 40, bytes := [1, 2, 3] }, { stream := 40, bytes := [4] }, { stream := 3, bytes := [5] }] }))),
  .a, 40, 3, ({ stream := 40, bytes := [1, 2, 3] }), _, rfl, by decide +kernel⟩
  · exact ⟨(witState (fun x => (((((x.set (F.STR_RING_LO_ADDR 40) 0x12340 |>.set (F.STR_RING_HI_ADDR 40) 1).set
  (F.STR_CFG_EN 40) 1).set (F.STR_CFG_SIZE_LOG2 40) 6).set (F.STR_IDX_HEAD 40) 63).set (F.STR_IDX_TAIL 40) 1).onDma
  (fun m =>
  { m with bme := true, width := 4, d3 := false, items := [{ stream := 40, bytes := [1, 2, 3] }, { stream := 40, bytes := [4] }, { stream := 3, bytes := [5] }] }))),
  .a, 40, 2, ({ stream := 40, bytes := [1, 2, 3] }), _, rfl, by decide +kernel⟩
  · exact ⟨(witState (fun x => (((((x.set (F.STR_RING_LO_ADDR 40) 0x12340 |>.set (F.STR_RING_HI_ADDR 40) 1).set
  (F.STR_CFG_EN 40) 1).set (F.STR_CFG_SIZE_LOG2 40) 6).set (F.STR_IDX_HEAD 40) 63).set (F.STR_IDX_TAIL 40) 1).onDma
  (fun m =>
  { m with bme := true, width := 4, d3 := false, items := [{ stream := 40, bytes := [1, 2, 3] }, { stream := 40, bytes := [4] }, { stream := 3, bytes := [5] }] }))),
  .a, 40, 1, _, rfl, by decide +kernel⟩
  · exact ⟨(witState (fun x => x.set F.PCI_BAR2_BASE_BASE 2)), .a, 12, ([1, 2, 3]), _, rfl, by decide +kernel⟩
  · exact ⟨(witState (fun x => x.set F.PCI_BAR2_BASE_BASE 2)), .a, 3, 12, _, rfl, by decide +kernel⟩
  · exact ⟨(witState (fun x => x)), .a, 3, 8589934592000, _, rfl, by decide +kernel⟩
  · exact ⟨(witState (fun x => (((((x.set (F.STR_RING_LO_ADDR 40) 0x12340 |>.set (F.STR_RING_HI_ADDR 40) 1).set
  (F.STR_CFG_EN 40) 1).set (F.STR_CFG_SIZE_LOG2 40) 6).set (F.STR_IDX_HEAD 40) 63).set (F.STR_IDX_TAIL 40) 1).onDma
  (fun m =>
  { m with bme := true, width := 4, d3 := false, items := [{ stream := 40, bytes := [1, 2, 3] }, { stream := 40, bytes := [4] }, { stream := 3, bytes := [5] }] }))),
  .a, _, rfl, by decide +kernel⟩
  · exact ⟨(witState (fun x => (((((x.set (F.STR_RING_LO_ADDR 40) 0x12340 |>.set (F.STR_RING_HI_ADDR 40) 1).set
  (F.STR_CFG_EN 40) 1).set (F.STR_CFG_SIZE_LOG2 40) 6).set (F.STR_IDX_HEAD 40) 63).set (F.STR_IDX_TAIL 40) 1).onDma
  (fun m =>
  { m with bme := true, width := 4, d3 := false, items := [{ stream := 40, bytes := [1, 2, 3] }, { stream := 40, bytes := [4] }, { stream := 3, bytes := [5] }] }))),
  .a, _, rfl, by decide +kernel⟩
  · exact ⟨(witState (fun x => x.set F.PCI_LINK_WIDTH 0)), .a, 4, 3, _, rfl, by decide +kernel⟩
  · exact ⟨(witState (fun x => x)), .a, 8, 3, _, rfl, by decide +kernel⟩
  · exact ⟨(witState (fun x => (((((x.set (F.STR_RING_LO_ADDR 40) 0x12340 |>.set (F.STR_RING_HI_ADDR 40) 1).set
  (F.STR_CFG_EN 40) 1).set (F.STR_CFG_SIZE_LOG2 40) 6).set (F.STR_IDX_HEAD 40) 63).set (F.STR_IDX_TAIL 40) 1).onDma
  (fun m =>
  { m with bme := true, width := 4, d3 := false, items := [{ stream := 40, bytes := [1, 2, 3] }, { stream := 40, bytes := [4] }, { stream := 3, bytes := [5] }] }))),
  .a, true, _, rfl, by decide +kernel⟩
  · exact ⟨(witState (fun x => (((((x.set (F.STR_RING_LO_ADDR 40) 0x12340 |>.set (F.STR_RING_HI_ADDR 40) 1).set
  (F.STR_CFG_EN 40) 1).set (F.STR_CFG_SIZE_LOG2 40) 6).set (F.STR_IDX_HEAD 40) 63).set (F.STR_IDX_TAIL 40) 1).onDma
  (fun m =>
  { m with bme := true, width := 4, d3 := false, items := [{ stream := 40, bytes := [1, 2, 3] }, { stream := 40, bytes := [4] }, { stream := 3, bytes := [5] }] }))),
  .a, false, _, rfl, by decide +kernel⟩

theorem witness_TrellisPackets :
    (∃ (s : State) (d : DieId) (p : Packet) (bitmap : Nat) (a : Nat) (x : Die), s.die d = x ∧ s.running d ∧ (x.chained
      = true) ∧ (x.on F.TRL_ADDR_MASTER = false) ∧ (p.good = true) ∧ (p.up = true) ∧ (bitmap < 2 ^ 64) ∧ (x.prefers =
      some a) ∧ (bitmap.testBit a = false) ∧ (x.downUp = true)) ∧
    (∃ (s : State) (d : DieId) (p : Packet) (depth : Nat) (bitmap : Nat) (a : Nat) (x : Die), s.die d = x ∧ s.running
      d ∧ (x.chained = true) ∧ (x.on F.TRL_ADDR_MASTER = false) ∧ (p.good = true) ∧ (p.up = true) ∧ (depth < 64) ∧
      (bitmap < 2 ^ 64) ∧ (x.trl.claim = some a) ∧ (a < 64) ∧ (x.downUp = false) ∧ (x.on F.TRL_ADDR_STICKY = false)) ∧
    (∃ (s : State) (d : DieId) (acc : Nat) (x : Die), s.die d = x ∧ s.running d ∧ (x.chained = true) ∧ (x.on
      F.TRL_ADDR_MASTER = false) ∧ (x.get F.TRL_PATH_PATH + 50 * acc ≤ 1000 * x.trl.lead)) ∧
    (∃ (s : State) (d : DieId) (x : Die), s.die d = x ∧ s.running d ∧ (x.chained = true) ∧ (x.on F.TRL_ADDR_MASTER =
      false)) ∧
    (∃ (s : State) (d : DieId) (acc : Nat) (dst : Nat) (x : Die), s.die d = x ∧ s.running d ∧ (x.chained = true) ∧
      (x.on F.TRL_ADDR_MASTER = false) ∧ (dst = 63) ∧ (x.led.sync = true) ∧ (x.led.synced = none) ∧ (x.led.armedAt ≠
      some s.now) ∧ (x.commitPending 0x3B = true) ∧ (x.trl.seen = none) ∧ (x.get F.TRL_PATH_PATH + 50 * acc ≤ 1000 *
      x.trl.lead)) ∧
    (∃ (s : State) (d : DieId) (src : Nat) (cls : Nat) (x : Die), s.die d = x ∧ s.running d ∧ (x.chained = true) ∧
      (src < 64) ∧ (cls < 4)) ∧
    (∃ (s : State) (d : DieId) (p : Packet) (x : Die), s.die d = x ∧ s.running d ∧ (x.chained = true) ∧ (p.good =
      true)) ∧
    (∃ (s : State) (d : DieId) (p : Packet) (x : Die), s.die d = x ∧ s.running d ∧ (x.chained = true) ∧ (p.good =
      false)) ∧
    (∃ (s : State) (d : DieId) (x : Die), s.die d = x ∧ s.running d ∧ (x.chained = true)) ∧
    (∃ (s : State) (d : DieId) (p : Packet) (reach : Nat) (x : Die), s.die d = x ∧ s.running d ∧ (x.chained = true) ∧
      (x.on F.TRL_ADDR_MASTER = false) ∧ (p.good = true) ∧ (p.up = true) ∧ (x.addressed p.dst = true) ∧ (x.on
      F.TRL_CTRL_RSTEN = true) ∧ (3 ≤ reach) ∧ (reach ≤ 5) ∧ (x.thm.stopping = false)) ∧
    (∃ (s : State) (d : DieId) (p : Packet) (die : Nat) (x : Die), s.die d = x ∧ s.running d ∧ (x.chained = true) ∧
      (x.on F.TRL_ADDR_MASTER = false) ∧ (p.good = true) ∧ (p.up = true) ∧ (x.boot.cores = true) ∧ (p.dst ≠ 63) ∧
      (x.addressed p.dst = true) ∧ (x.on F.TRL_CTRL_RWEN = true) ∧ (die = (if d = .a then 0 else 1))) ∧
    (∃ (s : State) (d : DieId) (p : Packet) (x : Die), s.die d = x ∧ s.running d ∧ (x.chained = true) ∧ (x.on
      F.TRL_ADDR_MASTER = false) ∧ (p.good = true) ∧ (p.up = true) ∧ (x.boot.cores = true) ∧ (p.dst ≠ 63) ∧
      (x.addressed p.dst = true) ∧ (x.on F.TRL_CTRL_RWEN = false)) ∧
    (∃ (s : State) (d : DieId) (p : Packet) (die : Nat) (w : Nat) (x : Die), s.die d = x ∧ s.running d ∧ (x.chained =
      true) ∧ (x.on F.TRL_ADDR_MASTER = false) ∧ (p.good = true) ∧ (p.up = true) ∧ (x.boot.cores = true) ∧ (p.dst ≠
      63) ∧ (x.addressed p.dst = true) ∧ (x.on F.TRL_CTRL_RWEN = true) ∧ (die = (if d = .a then 0 else 1)) ∧ (∀ fl ∈
      fieldsAt 0x21 0x05C, ∀ f ∈ fl, f.inRange (f.ofWord (w % 2 ^ 32)) = true)) := by
  refine ⟨?_, ?_, ?_, ?_, ?_, ?_, ?_, ?_, ?_, ?_, ?_, ?_, ?_⟩
  · exact ⟨(witState (fun x => (((((x.set F.SYS_IDENT_LEAD 1).set F.TRL_ADDR_MODE 0).set F.TRL_CTRL_EN 1).set
  F.TRL_ADDR_MASTER 0).set F.TRL_PORT_DOWN 1).set F.TRL_ADDR_ADDR 9 |>.onTrl (fun t => { t with ports := 2 }))), .a,
  ({ up := true, good := true, dst := 9, src := 4, tag := 7 }), 6, 9, _, rfl, by decide +kernel⟩
  · exact ⟨(witState (fun x => ((((((x.set F.SYS_IDENT_LEAD 1).set F.TRL_ADDR_MODE 0).set F.TRL_CTRL_EN 1).set
  F.TRL_ADDR_MASTER 0).set F.TRL_PORT_DOWN 0).set F.TRL_ADDR_ADDR 9 |>.onTrl (fun t => { t with ports := 0 })).onTrl
  (fun t => { t with claim := some 11 }) |>.set F.TRL_ADDR_STICKY 0)), .a,
  ({ up := true, good := true, dst := 9, src := 4, tag := 7 }), 3, 6, 11, _, rfl, by decide +kernel⟩
  · exact ⟨(witState (fun x => (((((((x.set F.SYS_IDENT_LEAD 1).set F.TRL_ADDR_MODE 0).set F.TRL_CTRL_EN 1).set
  F.TRL_ADDR_MASTER 0).set F.TRL_PORT_DOWN 0).set F.TRL_ADDR_ADDR 9 |>.onTrl (fun t => { t with ports := 0 })).set
  F.TRL_PATH_PATH 100).onTrl (fun t => { t with lead := 50 }))), .a, 4, _, rfl, by decide +kernel⟩
  · exact ⟨(witState (fun x => (((((x.set F.SYS_IDENT_LEAD 1).set F.TRL_ADDR_MODE 0).set F.TRL_CTRL_EN 1).set
  F.TRL_ADDR_MASTER 0).set F.TRL_PORT_DOWN 0).set F.TRL_ADDR_ADDR 9 |>.onTrl (fun t => { t with ports := 0 }))), .a,
  _, rfl, by decide +kernel⟩
  · exact ⟨(witState (fun x => ((((((((x.set F.SYS_IDENT_LEAD 1).set F.TRL_ADDR_MODE 0).set F.TRL_CTRL_EN 1).set
  F.TRL_ADDR_MASTER 0).set F.TRL_PORT_DOWN 0).set F.TRL_ADDR_ADDR 9 |>.onTrl (fun t => { t with ports := 0 })).set
  (F.COMMIT_STAT_PENDING 0x3B) 1).onLed (fun l => { l with sync := true })).onTrl (fun t =>
  { t with lead := 5000 }))), .a, 0, 63, _, rfl, by decide +kernel⟩
  · exact ⟨(witState (fun x => (((((x.set F.SYS_IDENT_LEAD 1).set F.TRL_ADDR_MODE 0).set F.TRL_CTRL_EN 1).set
  F.TRL_ADDR_MASTER 0).set F.TRL_PORT_DOWN 0).set F.TRL_ADDR_ADDR 9 |>.onTrl (fun t => { t with ports := 0 }))), .a,
  9, 3, _, rfl, by decide +kernel⟩
  · exact ⟨(witState (fun x => (((((x.set F.SYS_IDENT_LEAD 1).set F.TRL_ADDR_MODE 2).set F.TRL_CTRL_EN 1).set
  F.TRL_ADDR_MASTER 1).set F.TRL_PORT_DOWN 0).set F.TRL_ADDR_ADDR 9 |>.onTrl (fun t => { t with ports := 0 }))), .a,
  ({ up := true, good := true, dst := 9, src := 4, tag := 7 }), _, rfl, by decide +kernel⟩
  · exact ⟨(witState (fun x => (((((x.set F.SYS_IDENT_LEAD 1).set F.TRL_ADDR_MODE 2).set F.TRL_CTRL_EN 1).set
  F.TRL_ADDR_MASTER 1).set F.TRL_PORT_DOWN 0).set F.TRL_ADDR_ADDR 9 |>.onTrl (fun t => { t with ports := 0 }))), .a,
  ({ up := true, good := false, dst := 9, src := 4, tag := 7 }), _, rfl, by decide +kernel⟩
  · exact ⟨(witState (fun x => (((((x.set F.SYS_IDENT_LEAD 1).set F.TRL_ADDR_MODE 0).set F.TRL_CTRL_EN 1).set
  F.TRL_ADDR_MASTER 0).set F.TRL_PORT_DOWN 0).set F.TRL_ADDR_ADDR 9 |>.onTrl (fun t => { t with ports := 0 }))), .a,
  _, rfl, by decide +kernel⟩
  · exact ⟨(witState (fun x => ((((((x.set F.SYS_IDENT_LEAD 1).set F.TRL_ADDR_MODE 0).set F.TRL_CTRL_EN 1).set
  F.TRL_ADDR_MASTER 0).set F.TRL_PORT_DOWN 0).set F.TRL_ADDR_ADDR 9 |>.onTrl (fun t => { t with ports := 0 })).set
  F.TRL_CTRL_RSTEN 1)), .a, ({ up := true, good := true, dst := 9, src := 4, tag := 7 }), 4, _, rfl, by decide +kernel⟩
  · exact ⟨(witState (fun x => ((((((x.set F.SYS_IDENT_LEAD 1).set F.TRL_ADDR_MODE 0).set F.TRL_CTRL_EN 1).set
  F.TRL_ADDR_MASTER 0).set F.TRL_PORT_DOWN 0).set F.TRL_ADDR_ADDR 9 |>.onTrl (fun t => { t with ports := 0 })).set
  F.TRL_CTRL_RWEN 1)), .a, ({ up := true, good := true, dst := 9, src := 4, tag := 7 }), 0, _, rfl, by decide +kernel⟩
  · exact ⟨(witState (fun x => ((((((x.set F.SYS_IDENT_LEAD 1).set F.TRL_ADDR_MODE 0).set F.TRL_CTRL_EN 1).set
  F.TRL_ADDR_MASTER 0).set F.TRL_PORT_DOWN 0).set F.TRL_ADDR_ADDR 9 |>.onTrl (fun t => { t with ports := 0 })).set
  F.TRL_CTRL_RWEN 0)), .a, ({ up := true, good := true, dst := 9, src := 4, tag := 7 }), _, rfl, by decide +kernel⟩
  · exact ⟨(witState (fun x => ((((((x.set F.SYS_IDENT_LEAD 1).set F.TRL_ADDR_MODE 0).set F.TRL_CTRL_EN 1).set
  F.TRL_ADDR_MASTER 0).set F.TRL_PORT_DOWN 0).set F.TRL_ADDR_ADDR 9 |>.onTrl (fun t => { t with ports := 0 })).set
  F.TRL_CTRL_RWEN 1)), .a, ({ up := true, good := true, dst := 9, src := 4, tag := 7 }), 0, 0x64641464, _, rfl, by decide +kernel⟩

theorem witness_TrellisTime :
    (∃ (s : State) (d : DieId) (p : Packet) (time : Nat) (x : Die), s.die d = x ∧ s.running d ∧ (x.chained = true) ∧
      (x.on F.TRL_ADDR_MASTER = false) ∧ (p.good = true) ∧ (p.up = true) ∧ (x.get F.TRL_ADDR_DEPTH ≤ 1) ∧ (x.downUp =
      false) ∧ (1000 < ((time + x.get F.TRL_PATH_HOP : Nat) - (x.timeNs s.now : Nat) : Int).natAbs)) ∧
    (∃ (s : State) (d : DieId) (p : Packet) (time : Nat) (x : Die), s.die d = x ∧ s.running d ∧ (x.chained = true) ∧
      (x.on F.TRL_ADDR_MASTER = false) ∧ (p.good = true) ∧ (p.up = true) ∧ (x.get F.TRL_ADDR_DEPTH ≤ 1) ∧ (x.downUp =
      false) ∧ (((time + x.get F.TRL_PATH_HOP : Nat) - (x.timeNs s.now : Nat) : Int).natAbs ≤ 1000)) ∧
    (∃ (s : State) (d : DieId) (p : Packet) (x : Die), s.die d = x ∧ s.running d ∧ (x.chained = true) ∧ (p.good =
      true)) ∧
    (∃ (s : State) (d : DieId) (x : Die), s.die d = x ∧ s.running d ∧ (x.chained = true) ∧ (x.on F.TRL_ADDR_MASTER =
      false)) ∧
    (∃ (s : State) (d : DieId) (p : Packet) (t1 : Nat) (t2 : Nat) (t3 : Nat) (x : Die), s.die d = x ∧ s.running d ∧
      (x.chained = true) ∧ (p.good = true) ∧ (x.trl.t1 = some t1) ∧ (t1 + (t3 - t2) ≤ x.timeNs s.now / 4 * 4) ∧
      ((x.timeNs s.now / 4 * 4 - t1 - (t3 - t2)) % 2 = 0)) ∧
    (∃ (s : State) (d : DieId) (x : Die), s.die d = x ∧ s.running d ∧ (x.chained = true) ∧ (x.on F.TRL_ADDR_MASTER =
      true)) ∧
    (∃ (s : State) (d : DieId) (x : Die), s.die d = x ∧ s.running d ∧ (x.chained = true) ∧ (x.on F.TRL_ADDR_MASTER =
      false)) ∧
    (∃ (s : State) (d : DieId) (time : Nat) (x : Die), s.die d = x ∧ s.running d ∧ (x.chained = true) ∧ (x.on
      F.TRL_ADDR_MASTER = true) ∧ (time < 2 ^ 64)) ∧
    (∃ (s : State) (d : DieId) (x : Die), s.die d = x ∧ s.running d ∧ (x.on F.TRL_ADDR_MASTER = false)) := by
  refine ⟨?_, ?_, ?_, ?_, ?_, ?_, ?_, ?_, ?_⟩
  · exact ⟨(witState (fun x => ((((((x.set F.SYS_IDENT_LEAD 1).set F.TRL_ADDR_MODE 0).set F.TRL_CTRL_EN 1).set
  F.TRL_ADDR_MASTER 0).set F.TRL_PORT_DOWN 0).set F.TRL_ADDR_ADDR 9 |>.onTrl (fun t => { t with ports := 0 })).set
  F.TRL_ADDR_DEPTH 1)), .a, ({ up := true, good := true, dst := 9, src := 4, tag := 7 }), 5000, _, rfl, by decide +kernel⟩
  · exact ⟨(witState (fun x =>
  { (((((((x.set F.SYS_IDENT_LEAD 1).set F.TRL_ADDR_MODE 0).set F.TRL_CTRL_EN 1).set F.TRL_ADDR_MASTER 0).set F.TRL_PORT_DOWN 0).set F.TRL_ADDR_ADDR 9 |>.onTrl (fun t => { t with ports := 0 })).set F.TRL_ADDR_DEPTH 1).set F.TRL_PATH_HOP 40 with clock := { base := 5000, from_ := 10 ^ 18 } })),
  .a, ({ up := true, good := true, dst := 9, src := 4, tag := 7 }), 5000, _, rfl, by decide +kernel⟩
  · exact ⟨(witState (fun x => (((((x.set F.SYS_IDENT_LEAD 1).set F.TRL_ADDR_MODE 2).set F.TRL_CTRL_EN 1).set
  F.TRL_ADDR_MASTER 1).set F.TRL_PORT_DOWN 0).set F.TRL_ADDR_ADDR 9 |>.onTrl (fun t => { t with ports := 0 }))), .a,
  ({ up := false, good := true, dst := 9, src := 4, tag := 7 }), _, rfl, by decide +kernel⟩
  · exact ⟨(witState (fun x => (((((x.set F.SYS_IDENT_LEAD 1).set F.TRL_ADDR_MODE 0).set F.TRL_CTRL_EN 1).set
  F.TRL_ADDR_MASTER 0).set F.TRL_PORT_DOWN 0).set F.TRL_ADDR_ADDR 9 |>.onTrl (fun t => { t with ports := 0 }))), .a,
  _, rfl, by decide +kernel⟩
  · exact ⟨(witState (fun x => ((((((x.set F.SYS_IDENT_LEAD 1).set F.TRL_ADDR_MODE 0).set F.TRL_CTRL_EN 1).set
  F.TRL_ADDR_MASTER 0).set F.TRL_PORT_DOWN 0).set F.TRL_ADDR_ADDR 9 |>.onTrl (fun t => { t with ports := 0 })).onTrl
  (fun t => { t with t1 := some 8 }))), .a, ({ up := true, good := true, dst := 9, src := 4, tag := 7 }), 8, 0, 4, _,
  rfl, by decide +kernel⟩
  · exact ⟨(witState (fun x => (((((x.set F.SYS_IDENT_LEAD 1).set F.TRL_ADDR_MODE 2).set F.TRL_CTRL_EN 1).set
  F.TRL_ADDR_MASTER 1).set F.TRL_PORT_DOWN 0).set F.TRL_ADDR_ADDR 9 |>.onTrl (fun t => { t with ports := 0 }))), .a,
  _, rfl, by decide +kernel⟩
  · exact ⟨(witState (fun x => (((((x.set F.SYS_IDENT_LEAD 1).set F.TRL_ADDR_MODE 0).set F.TRL_CTRL_EN 1).set
  F.TRL_ADDR_MASTER 0).set F.TRL_PORT_DOWN 0).set F.TRL_ADDR_ADDR 9 |>.onTrl (fun t => { t with ports := 0 }))), .a,
  _, rfl, by decide +kernel⟩
  · exact ⟨(witState (fun x => (((((x.set F.SYS_IDENT_LEAD 1).set F.TRL_ADDR_MODE 2).set F.TRL_CTRL_EN 1).set
  F.TRL_ADDR_MASTER 1).set F.TRL_PORT_DOWN 0).set F.TRL_ADDR_ADDR 9 |>.onTrl (fun t => { t with ports := 0 }))), .a,
  5000, _, rfl, by decide +kernel⟩
  · exact ⟨(witState (fun x => (((((x.set F.SYS_IDENT_LEAD 1).set F.TRL_ADDR_MODE 0).set F.TRL_CTRL_EN 1).set
  F.TRL_ADDR_MASTER 0).set F.TRL_PORT_DOWN 0).set F.TRL_ADDR_ADDR 9 |>.onTrl (fun t => { t with ports := 0 }))), .a,
  _, rfl, by decide +kernel⟩

theorem witness_TrellisCommands :
    (∃ (s : State) (d : DieId) (dst : Nat) (type : Nat) (len : Nat) (x : Die), s.die d = x ∧ s.running d ∧ (x.chained
      = true) ∧ (x.on F.TRL_ADDR_MASTER = true) ∧ (x.on F.TRL_CMD_STAT_BUSY = false) ∧ (dst < 63) ∧ (type = 3 ∨ type =
      4) ∧ (0 < len) ∧ (len ≤ 256)) ∧
    (∃ (s : State) (d : DieId) (type : Nat) (len : Nat) (x : Die), s.die d = x ∧ s.running d ∧ (x.chained = true) ∧
      (x.on F.TRL_ADDR_MASTER = true) ∧ (x.on F.TRL_CMD_STAT_BUSY = false) ∧ (type = 4) ∧ (0 < len) ∧ (len ≤ 256)) ∧
    (∃ (s : State) (d : DieId) (dst : Nat) (type : Nat) (x : Die), s.die d = x ∧ s.running d ∧ (x.chained = true) ∧
      (x.on F.TRL_ADDR_MASTER = true) ∧ (x.on F.TRL_CMD_STAT_BUSY = false) ∧ (dst < 64) ∧ (type = 3 ∨ type = 4 ∨ type
      = 9)) ∧
    (∃ (s : State) (d : DieId) (x : Die), s.die d = x ∧ s.running d ∧ (x.on F.TRL_ADDR_MASTER = false ∨ x.on
      F.TRL_CMD_STAT_BUSY = true)) ∧
    (∃ (s : State) (d : DieId) (p : Packet) (status : Nat) (data : List Byte) (x : Die), s.die d = x ∧ s.running d ∧
      (x.chained = true) ∧ (x.on F.TRL_ADDR_MASTER = true) ∧ (p.good = true) ∧ (x.on F.TRL_CMD_STAT_BUSY = true) ∧
      (p.tag = x.trl.tag) ∧ (status < 8) ∧ (data = [])) ∧
    (∃ (s : State) (d : DieId) (p : Packet) (x : Die), s.die d = x ∧ s.running d ∧ (x.chained = true) ∧ (x.on
      F.TRL_ADDR_MASTER = true) ∧ (p.good = true) ∧ (p.tag ≠ x.trl.tag)) ∧
    (∃ (s : State) (d : DieId) (x : Die), s.die d = x ∧ s.running d ∧ (x.on F.TRL_CMD_STAT_BUSY = true)) ∧
    (∃ (s : State) (d : DieId) (x : Die), s.die d = x ∧ s.running d ∧ (x.on F.TRL_ADDR_MASTER = true) ∧ (x.leads =
      true) ∧ (x.downUp = true)) ∧
    (∃ (s : State) (d : DieId) (x : Die), s.die d = x ∧ s.running d ∧ (x.on F.TRL_ADDR_MASTER = false)) ∧
    (∃ (s : State) (d : DieId) (p : Packet) (x : Die), s.die d = x ∧ s.running d ∧ (x.chained = true) ∧ (x.on
      F.TRL_ADDR_MASTER = true) ∧ (p.good = true) ∧ (x.trl.stage = 1) ∧ (x.downUp = true)) ∧
    (∃ (s : State) (d : DieId) (p : Packet) (x : Die), s.die d = x ∧ s.running d ∧ (x.chained = true) ∧ (x.on
      F.TRL_ADDR_MASTER = true) ∧ (p.good = true) ∧ (x.trl.stage = 2)) ∧
    (∃ (s : State) (d : DieId) (x : Die), s.die d = x ∧ s.running d ∧ (x.on F.TRL_ADDR_MASTER = true) ∧ (x.leads =
      true)) ∧
    (∃ (s : State) (d : DieId) (x : Die), s.die d = x ∧ s.running d ∧ (x.on F.TRL_ADDR_MASTER = false)) ∧
    (∃ (s : State) (d : DieId) (b : Bool) (x : Die), s.die d = x ∧ s.running d ∧ (x.leads = true) ∧ (x.hasPort b =
      true)) ∧
    (∃ (s : State) (d : DieId) (x : Die), s.die d = x ∧ s.running d ∧ (x.leads = true) ∧ (x.hasPort true = true)) ∧
    (∃ (s : State) (d : DieId) (x : Die), s.die d = x ∧ s.running d ∧ (x.leads = true) ∧ (x.hasPort false = true) ∧
      (x.on F.TRL_CTRL_EN = true) ∧ (x.on F.TRL_ADDR_MASTER = false)) ∧
    (∃ (s : State) (d : DieId) (p : Packet) (x : Die), s.die d = x ∧ s.running d ∧ (x.chained = true) ∧ (x.on
      F.TRL_ADDR_MASTER = true) ∧ (p.good = true) ∧ (x.on F.TRL_MASTER_AUTOENUM = true) ∧ (x.downUp = true)) ∧
    (∃ (s : State) (d : DieId) (a : Nat) (x : Die), s.die d = x ∧ s.running d ∧ (x.trl.store = some a) ∧ (x.jobRuns 0
      = true) ∧ (x.nvsHalted = false)) ∧
    (∃ (s : State) (d : DieId) (x : Die), s.die d = x ∧ s.running d ∧ (x.chained = true)) ∧
    (∃ (s : State) (d : DieId) (a : Nat) (x : Die), s.die d = x ∧ s.running d ∧ (a < 64) ∧ (x.seesUnit a = true)) ∧
    (∃ (s : State) (d : DieId) (p : Packet) (x : Die), s.die d = x ∧ s.running d ∧ (x.chained = true) ∧ (p.good =
      true) ∧ (p.up = false) ∧ (x.images = true)) ∧
    (∃ (s : State) (d : DieId) (p : Packet) (x : Die), s.die d = x ∧ s.running d ∧ (x.chained = true) ∧ (p.good =
      true) ∧ (p.up = true) ∧ (x.startStep = 5) ∧ (x.get F.SYS_IDENT_BOOT = 2) ∧ (x.trl.boot = 2047)) := by
  refine ⟨?_, ?_, ?_, ?_, ?_, ?_, ?_, ?_, ?_, ?_, ?_, ?_, ?_, ?_, ?_, ?_, ?_, ?_, ?_, ?_, ?_, ?_⟩
  · exact ⟨(witState (fun x => ((((((x.set F.SYS_IDENT_LEAD 1).set F.TRL_ADDR_MODE 2).set F.TRL_CTRL_EN 1).set
  F.TRL_ADDR_MASTER 1).set F.TRL_PORT_DOWN 0).set F.TRL_ADDR_ADDR 9 |>.onTrl (fun t => { t with ports := 0 })).set
  F.TRL_CMD_STAT_BUSY 0)), .a, 5, 3, 7, _, rfl, by decide +kernel⟩
  · exact ⟨(witState (fun x => ((((((x.set F.SYS_IDENT_LEAD 1).set F.TRL_ADDR_MODE 2).set F.TRL_CTRL_EN 1).set
  F.TRL_ADDR_MASTER 1).set F.TRL_PORT_DOWN 0).set F.TRL_ADDR_ADDR 9 |>.onTrl (fun t => { t with ports := 0 })).set
  F.TRL_CMD_STAT_BUSY 0)), .a, 4, 7, _, rfl, by decide +kernel⟩
  · exact ⟨(witState (fun x => ((((((x.set F.SYS_IDENT_LEAD 1).set F.TRL_ADDR_MODE 2).set F.TRL_CTRL_EN 1).set
  F.TRL_ADDR_MASTER 1).set F.TRL_PORT_DOWN 0).set F.TRL_ADDR_ADDR 9 |>.onTrl (fun t => { t with ports := 0 })).set
  F.TRL_CMD_STAT_BUSY 0)), .a, 5, 3, _, rfl, by decide +kernel⟩
  · exact ⟨(witState (fun x => x.set F.TRL_ADDR_MASTER 0)), .a, _, rfl, by decide +kernel⟩
  · exact ⟨(witState (fun x => (((((((x.set F.SYS_IDENT_LEAD 1).set F.TRL_ADDR_MODE 2).set F.TRL_CTRL_EN 1).set
  F.TRL_ADDR_MASTER 1).set F.TRL_PORT_DOWN 0).set F.TRL_ADDR_ADDR 9 |>.onTrl (fun t => { t with ports := 0 })).set
  F.TRL_CMD_STAT_BUSY 1).onTrl (fun t => { t with tag := 7 }))), .a,
  ({ up := false, good := true, dst := 9, src := 4, tag := 7 }), 2, [], _, rfl, by decide +kernel⟩
  · exact ⟨(witState (fun x => (((((((x.set F.SYS_IDENT_LEAD 1).set F.TRL_ADDR_MODE 2).set F.TRL_CTRL_EN 1).set
  F.TRL_ADDR_MASTER 1).set F.TRL_PORT_DOWN 0).set F.TRL_ADDR_ADDR 9 |>.onTrl (fun t => { t with ports := 0 })).set
  F.TRL_CMD_STAT_BUSY 1).onTrl (fun t => { t with tag := 8 }))), .a,
  ({ up := false, good := true, dst := 9, src := 4, tag := 7 }), _, rfl, by decide +kernel⟩
  · exact ⟨(witState (fun x => x.set F.TRL_CMD_STAT_BUSY 1)), .a, _, rfl, by decide +kernel⟩
  · exact ⟨(witState (fun x => (((((x.set F.SYS_IDENT_LEAD 1).set F.TRL_ADDR_MODE 2).set F.TRL_CTRL_EN 1).set
  F.TRL_ADDR_MASTER 1).set F.TRL_PORT_DOWN 1).set F.TRL_ADDR_ADDR 9 |>.onTrl (fun t => { t with ports := 2 }))), .a,
  _, rfl, by decide +kernel⟩
  · exact ⟨(witState (fun x => (((((x.set F.SYS_IDENT_LEAD 1).set F.TRL_ADDR_MODE 0).set F.TRL_CTRL_EN 1).set
  F.TRL_ADDR_MASTER 0).set F.TRL_PORT_DOWN 0).set F.TRL_ADDR_ADDR 9 |>.onTrl (fun t => { t with ports := 0 }))), .a,
  _, rfl, by decide +kernel⟩
  · exact ⟨(witState (fun x => ((((((x.set F.SYS_IDENT_LEAD 1).set F.TRL_ADDR_MODE 2).set F.TRL_CTRL_EN 1).set
  F.TRL_ADDR_MASTER 1).set F.TRL_PORT_DOWN 1).set F.TRL_ADDR_ADDR 9 |>.onTrl (fun t => { t with ports := 2 })).onTrl
  (fun t => { t with stage := 1, claim := some 9 }))), .a,
  ({ up := false, good := true, dst := 9, src := 4, tag := 7 }), _, rfl, by decide +kernel⟩
  · exact ⟨(witState (fun x => ((((((x.set F.SYS_IDENT_LEAD 1).set F.TRL_ADDR_MODE 2).set F.TRL_CTRL_EN 1).set
  F.TRL_ADDR_MASTER 1).set F.TRL_PORT_DOWN 1).set F.TRL_ADDR_ADDR 9 |>.onTrl (fun t => { t with ports := 2 })).onTrl
  (fun t => { t with stage := 2 }))), .a, ({ up := false, good := true, dst := 9, src := 4, tag := 7 }), _, rfl, by decide +kernel⟩
  · exact ⟨(witState (fun x => (((((x.set F.SYS_IDENT_LEAD 1).set F.TRL_ADDR_MODE 2).set F.TRL_CTRL_EN 1).set
  F.TRL_ADDR_MASTER 1).set F.TRL_PORT_DOWN 0).set F.TRL_ADDR_ADDR 9 |>.onTrl (fun t => { t with ports := 0 }))), .a,
  _, rfl, by decide +kernel⟩
  · exact ⟨(witState (fun x => (((((x.set F.SYS_IDENT_LEAD 1).set F.TRL_ADDR_MODE 0).set F.TRL_CTRL_EN 1).set
  F.TRL_ADDR_MASTER 0).set F.TRL_PORT_DOWN 0).set F.TRL_ADDR_ADDR 9 |>.onTrl (fun t => { t with ports := 0 }))), .a,
  _, rfl, by decide +kernel⟩
  · exact ⟨(witState (fun x => (((((x.set F.SYS_IDENT_LEAD 1).set F.TRL_ADDR_MODE 0).set F.TRL_CTRL_EN 1).set
  F.TRL_ADDR_MASTER 0).set F.TRL_PORT_DOWN 1).set F.TRL_ADDR_ADDR 9 |>.onTrl (fun t => { t with ports := 2 }))), .a,
  true, _, rfl, by decide +kernel⟩
  · exact ⟨(witState (fun x => (((((x.set F.SYS_IDENT_LEAD 1).set F.TRL_ADDR_MODE 0).set F.TRL_CTRL_EN 1).set
  F.TRL_ADDR_MASTER 0).set F.TRL_PORT_DOWN 1).set F.TRL_ADDR_ADDR 9 |>.onTrl (fun t => { t with ports := 2 }))), .a,
  _, rfl, by decide +kernel⟩
  · exact ⟨(witState (fun x => (((((x.set F.SYS_IDENT_LEAD 1).set F.TRL_ADDR_MODE 0).set F.TRL_CTRL_EN 1).set
  F.TRL_ADDR_MASTER 0).set F.TRL_PORT_DOWN 0).set F.TRL_ADDR_ADDR 9 |>.onTrl (fun t => { t with ports := 0 }))), .a,
  _, rfl, by decide +kernel⟩
  · exact ⟨(witState (fun x => ((((((x.set F.SYS_IDENT_LEAD 1).set F.TRL_ADDR_MODE 2).set F.TRL_CTRL_EN 1).set
  F.TRL_ADDR_MASTER 1).set F.TRL_PORT_DOWN 1).set F.TRL_ADDR_ADDR 9 |>.onTrl (fun t => { t with ports := 2 })).set
  F.TRL_MASTER_AUTOENUM 1)), .a, ({ up := false, good := true, dst := 9, src := 4, tag := 7 }), _, rfl, by decide +kernel⟩
  · exact ⟨(witState (fun x => ((x.set F.NVS_STATE_STOPPED 0).set F.NVS_STATE_EP_ONLY 0).onTrl (fun t =>
  { t with store := some 9 }))), .a, 9, _, rfl, by decide +kernel⟩
  · exact ⟨(witState (fun x => (((((x.set F.SYS_IDENT_LEAD 1).set F.TRL_ADDR_MODE 0).set F.TRL_CTRL_EN 1).set
  F.TRL_ADDR_MASTER 0).set F.TRL_PORT_DOWN 0).set F.TRL_ADDR_ADDR 9 |>.onTrl (fun t => { t with ports := 0 }))), .a,
  _, rfl, by decide +kernel⟩
  · exact ⟨(witState (fun x => x.markSeen 40 true)), .a, 40, _, rfl, by decide +kernel⟩
  · exact ⟨(witState (fun x =>
  { ((((((x.set F.SYS_IDENT_LEAD 1).set F.TRL_ADDR_MODE 0).set F.TRL_CTRL_EN 1).set F.TRL_ADDR_MASTER 0).set F.TRL_PORT_DOWN 0).set F.TRL_ADDR_ADDR 9 |>.onTrl (fun t => { t with ports := 0 })) with images := true })),
  .a, ({ up := false, good := true, dst := 9, src := 4, tag := 7 }), _, rfl, by decide +kernel⟩
  · exact ⟨(witState (fun x => (((((((x.set F.SYS_IDENT_LEAD 1).set F.TRL_ADDR_MODE 0).set F.TRL_CTRL_EN 1).set
  F.TRL_ADDR_MASTER 0).set F.TRL_PORT_DOWN 0).set F.TRL_ADDR_ADDR 9 |>.onTrl (fun t => { t with ports := 0 })).set
  F.SYS_IDENT_BOOT 2).onBoot (fun b => { b with start := some { step := 5 } }) |>.onTrl (fun t =>
  { t with boot := 2047 }))), .a, ({ up := true, good := true, dst := 9, src := 4, tag := 7 }), _, rfl, by decide +kernel⟩

theorem witness_DieToDie :
    (∃ (s : State) (d : DieId) (x : Die), s.die d = x ∧ s.dual = true ∧ s.running d) ∧
    (∃ (s : State) (d : DieId) (x : Die), s.die d = x ∧ s.dual = true ∧ s.running d) ∧
    (∃ (s : State) (d : DieId) (x : Die), s.die d = x ∧ s.dual = true ∧ s.running d) ∧
    (∃ (s : State) (d : DieId) (x : Die), s.die d = x ∧ s.dual = true ∧ s.running d) ∧
    (∃ (s : State) (d : DieId) (x : Die), s.die d = x ∧ s.dual = true ∧ s.running d) ∧
    (∃ (s : State) (d : DieId) (x : Die), s.die d = x ∧ s.dual = true ∧ s.running d ∧ (d = .b) ∧ (x.leads = false) ∧
      (x.pairRole = 1 ∨ x.pairRole = 2) ∧ (s.dieA.inReset = false)) := by
  refine ⟨?_, ?_, ?_, ?_, ?_, ?_⟩
  · exact ⟨(witState (fun x => x)), .a, _, rfl, by decide +kernel⟩
  · exact ⟨(witState (fun x => x)), .a, _, rfl, by decide +kernel⟩
  · exact ⟨(witState (fun x => x)), .a, _, rfl, by decide +kernel⟩
  · exact ⟨(witState (fun x => x)), .a, _, rfl, by decide +kernel⟩
  · exact ⟨(witState (fun x => x)), .a, _, rfl, by decide +kernel⟩
  · exact ⟨(witStateB (fun x => ((x.set F.SYS_IDENT_PKG 1).set F.SYS_IDENT_LEAD 0).set F.SYS_IDENT_PKGCFG 4)), .b, _,
  rfl, by decide +kernel⟩

theorem witness_PairLink :
    (∃ (s : State) (d : DieId) (serial : Nat) (role : Nat) (addr : Nat) (x : Die), s.die d = x ∧ s.running d ∧
      (x.paired = true) ∧ (role = 3 - x.pairRole) ∧ (addr < 64) ∧ (serial < 2 ^ 64)) ∧
    (∃ (s : State) (d : DieId) (role : Nat) (x : Die), s.die d = x ∧ s.running d ∧ (x.paired = true) ∧ (role =
      x.pairRole) ∧ (x.on F.CAL_PAIR_GRANT = false) ∧ ((s.die d.other).on F.CAL_PAIR_GRANT = false)) ∧
    (∃ (s : State) (d : DieId) (x : Die), s.die d = x ∧ s.running d ∧ (x.paired = true) ∧ (x.on F.PRL_STAT_UP = true)
      ∧ (x.on F.CAL_PAIR_GRANT = false) ∧ ((s.die d.other).on F.CAL_PAIR_GRANT = false)) ∧
    (∃ (s : State) (d : DieId) (x : Die), s.die d = x ∧ s.running d ∧ (x.paired = true) ∧ (x.on F.PRL_STAT_UP = true)
      ∧ (x.pairRole = 2) ∧ (x.on F.CAL_PAIR_PAIR = true) ∧ (x.on F.PRL_STAT_FAILED = false)) ∧
    (∃ (s : State) (d : DieId) (x : Die), s.die d = x ∧ s.running d ∧ (x.paired = true)) ∧
    (∃ (s : State) (d : DieId) (x : Die), s.die d = x ∧ s.running d ∧ (x.paired = true) ∧ (x.on F.PRL_STAT_FAILED =
      false)) ∧
    (∃ (s : State) (d : DieId) (x : Die), s.die d = x ∧ s.running d ∧ (x.paired = true) ∧ (x.on F.CAL_PAIR_GRANT =
      false) ∧ ((s.die d.other).on F.CAL_PAIR_GRANT = false)) ∧
    (∃ (s : State) (d : DieId) (x : Die), s.die d = x ∧ s.running d ∧ (x.paired = true) ∧ (x.prl.missed = true) ∧
      (x.hearsPartner = false) ∧ (x.on F.PRL_STAT_FAILED = false) ∧ (x.on F.PRL_STAT_OWNER = false)) ∧
    (∃ (s : State) (d : DieId) (x : Die), s.die d = x ∧ s.running d ∧ (x.paired = true) ∧ (x.on F.PRL_CTRL_AUTOBACK =
      true) ∧ (x.on F.PRL_STAT_ALIVE = true) ∧ (x.pairRole = 2) ∧ (x.on F.PRL_STAT_OWNER = true)) ∧
    (∃ (s : State) (d : DieId) (cls : Nat) (x : Die), s.die d = x ∧ s.running d ∧ (x.paired = true) ∧ (x.pairUp =
      true) ∧ (cls < 16)) ∧
    (∃ (s : State) (d : DieId) (from_ : DieId) (x : Die), s.die d = x ∧ s.running d ∧ (x.paired = true) ∧ (x.pairUp =
      true) ∧ (from_ = .a)) ∧
    (∃ (s : State) (d : DieId) (x : Die), s.die d = x ∧ s.running d ∧ (x.paired = true) ∧ (x.pairUp = true) ∧
      ((x.itemsOf 41).length < 32)) ∧
    (∃ (s : State) (d : DieId) (x : Die), s.die d = x ∧ s.running d ∧ (x.paired = true) ∧ (x.pairUp = true) ∧ (32 ≤
      (x.itemsOf 41).length)) := by
  refine ⟨?_, ?_, ?_, ?_, ?_, ?_, ?_, ?_, ?_, ?_, ?_, ?_, ?_⟩
  · exact ⟨(witState (fun x => ((((x.set F.SYS_IDENT_PKG 1).set F.SYS_IDENT_LEAD 1).set F.SYS_IDENT_PKGCFG 4).set
  F.PRL_CTRL_EN 1).set F.PRL_STAT_UP 1)), .a, 0x123456789, 2, 9, _, rfl, by decide +kernel⟩
  · exact ⟨(witState (fun x => ((((x.set F.SYS_IDENT_PKG 1).set F.SYS_IDENT_LEAD 1).set F.SYS_IDENT_PKGCFG 4).set
  F.PRL_CTRL_EN 1).set F.PRL_STAT_UP 1)), .a, 1, _, rfl, by decide +kernel⟩
  · exact ⟨(witState (fun x => ((((x.set F.SYS_IDENT_PKG 1).set F.SYS_IDENT_LEAD 1).set F.SYS_IDENT_PKGCFG 4).set
  F.PRL_CTRL_EN 1).set F.PRL_STAT_UP 1)), .a, _, rfl, by decide +kernel⟩
  · exact ⟨(witState (fun x => ((((((((x.set F.SYS_IDENT_PKG 1).set F.SYS_IDENT_LEAD 1).set F.SYS_IDENT_PKGCFG 4).set
  F.PRL_CTRL_EN 1).set F.PRL_STAT_UP 1).set F.SYS_IDENT_PKGCFG 8).set F.CAL_PAIR_PAIR 1).set F.CAL_PAIR_GRANT 1).set
  F.PRL_STAT_FAILED 0)), .a, _, rfl, by decide +kernel⟩
  · exact ⟨(witState (fun x => ((((x.set F.SYS_IDENT_PKG 1).set F.SYS_IDENT_LEAD 1).set F.SYS_IDENT_PKGCFG 4).set
  F.PRL_CTRL_EN 1).set F.PRL_STAT_UP 1)), .a, _, rfl, by decide +kernel⟩
  · exact ⟨(witState (fun x => (((((x.set F.SYS_IDENT_PKG 1).set F.SYS_IDENT_LEAD 1).set F.SYS_IDENT_PKGCFG 4).set
  F.PRL_CTRL_EN 1).set F.PRL_STAT_UP 1).set F.PRL_STAT_FAILED 0)), .a, _, rfl, by decide +kernel⟩
  · exact ⟨(witState (fun x => ((((x.set F.SYS_IDENT_PKG 1).set F.SYS_IDENT_LEAD 1).set F.SYS_IDENT_PKGCFG 4).set
  F.PRL_CTRL_EN 1).set F.PRL_STAT_UP 1)), .a, _, rfl, by decide +kernel⟩
  · exact ⟨(witState (fun x => (((((((x.set F.SYS_IDENT_PKG 1).set F.SYS_IDENT_LEAD 1).set F.SYS_IDENT_PKGCFG 4).set
  F.PRL_CTRL_EN 1).set F.PRL_STAT_UP 1).set F.PRL_STAT_FAILED 0).set F.PRL_STAT_OWNER 0).onPrl (fun p =>
  { p with missed := true }) |>.set F.TRL_ADDR_MODE 3)), .a, _, rfl, by decide +kernel⟩
  · exact ⟨(witState (fun x => ((((((((x.set F.SYS_IDENT_PKG 1).set F.SYS_IDENT_LEAD 1).set F.SYS_IDENT_PKGCFG 4).set
  F.PRL_CTRL_EN 1).set F.PRL_STAT_UP 1).set F.SYS_IDENT_PKGCFG 8).set F.PRL_CTRL_AUTOBACK 1).set F.PRL_STAT_ALIVE
  1).set F.PRL_STAT_OWNER 1)), .a, _, rfl, by decide +kernel⟩
  · exact ⟨(witState (fun x => ((((x.set F.SYS_IDENT_PKG 1).set F.SYS_IDENT_LEAD 1).set F.SYS_IDENT_PKGCFG 4).set
  F.PRL_CTRL_EN 1).set F.PRL_STAT_UP 1)), .a, 3, _, rfl, by decide +kernel⟩
  · exact ⟨(witState (fun x => ((((x.set F.SYS_IDENT_PKG 1).set F.SYS_IDENT_LEAD 1).set F.SYS_IDENT_PKGCFG 4).set
  F.PRL_CTRL_EN 1).set F.PRL_STAT_UP 1)), .a, DieId.a, _, rfl, by decide +kernel⟩
  · exact ⟨(witState (fun x => ((((x.set F.SYS_IDENT_PKG 1).set F.SYS_IDENT_LEAD 1).set F.SYS_IDENT_PKGCFG 4).set
  F.PRL_CTRL_EN 1).set F.PRL_STAT_UP 1)), .a, _, rfl, by decide +kernel⟩
  · exact ⟨(witState (fun x => (((((x.set F.SYS_IDENT_PKG 1).set F.SYS_IDENT_LEAD 1).set F.SYS_IDENT_PKGCFG 4).set
  F.PRL_CTRL_EN 1).set F.PRL_STAT_UP 1).onDma (fun m =>
  { m with items := List.replicate 32 { stream := 41, bytes := [] } }))), .a, _, rfl, by decide +kernel⟩

theorem witness_SerialMaster :
    (∃ (s : State) (d : DieId) (tgt : Nat) (n : Nat) (x : Die), s.die d = x ∧ s.running d ∧ (x.spiMaster = true) ∧
      (x.on F.SPI_STATE_MBUSY = false) ∧ (x.on F.SPI_STATE_SEL = false) ∧ (0 < n) ∧ (n < 65536) ∧ (tgt < 8)) ∧
    (∃ (s : State) (d : DieId) (x : Die), s.die d = x ∧ s.running d ∧ (x.spiMaster = true) ∧ (x.on F.SPI_STATE_MBUSY =
      false)) ∧
    (∃ (s : State) (d : DieId) (x : Die), s.die d = x ∧ s.running d ∧ (x.on F.SPI_STATE_MBUSY = true ∨ x.spiMaster =
      false)) ∧
    (∃ (s : State) (d : DieId) (val : Nat) (rest : List Nat) (x : Die), s.die d = x ∧ s.running d ∧ (x.on
      F.SPI_STATE_MBUSY = true) ∧ (x.boot.banks.getLsbD 0 = false) ∧ (x.spi.tx = val :: rest) ∧ (x.spi.rx = []) ∧
      (x.get F.SPI_STATE_LEFT = 1) ∧ (x.on F.SPI_MXFER_HOLD = false)) ∧
    (∃ (s : State) (d : DieId) (x : Die), s.die d = x ∧ s.running d ∧ (x.spi.tx.length < 16) ∧ (x.on F.SPI_STATE_XIP =
      false)) ∧
    (∃ (s : State) (d : DieId) (x : Die), s.die d = x ∧ s.running d ∧ (16 ≤ x.spi.tx.length ∨ x.on F.SPI_STATE_XIP =
      true)) ∧
    (∃ (s : State) (d : DieId) (hold : Bool) (n : Nat) (w : Nat) (x : Die), s.die d = x ∧ s.running d ∧ (x.spi.rx =
      (w, hold, n) :: [])) ∧
    (∃ (s : State) (d : DieId) (x : Die), s.die d = x ∧ s.running d ∧ (x.spi.rx = [])) ∧
    (∃ (s : State) (d : DieId) (addr : Nat) (x : Die), s.die d = x ∧ s.running d ∧ (x.on F.SPI_STATE_XIP = true) ∧
      (x.boot.banks.getLsbD 0 = false) ∧ (∀ l ∈ x.spi.lines, l.1 ≠ addr / 32) ∧ (x.spi.lastLine = none) ∧ (x.get
      F.SPI_XIP_CONT = 0)) ∧
    (∃ (s : State) (d : DieId) (addr : Nat) (flash : List (List Byte)) (x : Die), s.die d = x ∧ s.running d ∧ (x.on
      F.SPI_STATE_XIP = true) ∧ (x.spi.lines = [(addr / 32, flash.headD [])]) ∧ (x.spi.lastLine = none)) ∧
    (∃ (s : State) (d : DieId) (x : Die), s.die d = x ∧ s.running d ∧ (x.on F.SPI_STATE_XIP = true) ∧ (x.on
      F.RST_START_DONE = true)) := by
  refine ⟨?_, ?_, ?_, ?_, ?_, ?_, ?_, ?_, ?_, ?_, ?_⟩
  · exact ⟨(witState (fun x => (((((x.set (F.CTRL_EN 0x11) 1).set F.SPI_CFG_ROLE 0).set F.SPI_STATE_XIP 0).set
  F.SPI_STATE_MBUSY 0).set F.SPI_STATE_SEL 0).set F.SPI_CFG_WLEN_M1 7)), .a, 5, 9, _, rfl, by decide +kernel⟩
  · exact ⟨(witState (fun x => (((((x.set (F.CTRL_EN 0x11) 1).set F.SPI_CFG_ROLE 0).set F.SPI_STATE_XIP 0).set
  F.SPI_STATE_MBUSY 0).set F.SPI_STATE_SEL 0).set F.SPI_CFG_WLEN_M1 7)), .a, _, rfl, by decide +kernel⟩
  · exact ⟨(witState (fun x => (((((x.set (F.CTRL_EN 0x11) 1).set F.SPI_CFG_ROLE 0).set F.SPI_STATE_XIP 0).set
  F.SPI_STATE_MBUSY 1).set F.SPI_STATE_SEL 0).set F.SPI_CFG_WLEN_M1 7)), .a, _, rfl, by decide +kernel⟩
  · exact ⟨(witState (fun x => (((((((x.set (F.CTRL_EN 0x11) 1).set F.SPI_CFG_ROLE 0).set F.SPI_STATE_XIP 0).set
  F.SPI_STATE_MBUSY 1).set F.SPI_STATE_SEL 1).set F.SPI_CFG_WLEN_M1 7).set F.SPI_STATE_LEFT 1).set F.SPI_MXFER_HOLD 0
  |>.onSpi (fun p => { p with tx := [0x1A5, 7] }))), .a, 0x1A5, [7], _, rfl, by decide +kernel⟩
  · exact ⟨(witState (fun x => (((((x.set (F.CTRL_EN 0x11) 1).set F.SPI_CFG_ROLE 0).set F.SPI_STATE_XIP 0).set
  F.SPI_STATE_MBUSY 0).set F.SPI_STATE_SEL 0).set F.SPI_CFG_WLEN_M1 7)), .a, _, rfl, by decide +kernel⟩
  · exact ⟨(witState (fun x => x.onSpi (fun p => { p with tx := List.replicate 16 0 }))), .a, _, rfl, by decide +kernel⟩
  · exact ⟨(witState (fun x => x.onSpi (fun p => { p with rx := [(5, false, 8)] }))), .a, false, 8, 5, _, rfl, by decide +kernel⟩
  · exact ⟨(witState (fun x => x)), .a, _, rfl, by decide +kernel⟩
  · exact ⟨(witState (fun x => (x.set F.SPI_STATE_XIP 1).set F.SPI_XIP_CONT 0)), .a, 100, _, rfl, by decide +kernel⟩
  · exact ⟨(witState (fun x => (x.set F.SPI_STATE_XIP 1).onSpi (fun p => { p with lines := [(3, [9])] }))), .a, 100,
  [[9]], _, rfl, by decide +kernel⟩
  · exact ⟨(witState (fun x => (x.set F.SPI_STATE_XIP 1).set F.RST_START_DONE 1)), .a, _, rfl, by decide +kernel⟩

theorem witness_SerialSlave :
    (∃ (s : State) (d : DieId) (t : Nat) (rest : List Nat) (x : Die), s.die d = x ∧ s.running d ∧ (x.spiSlave = true)
      ∧ (x.boot.banks.getLsbD 0 = false) ∧ (x.spi.sel = false) ∧ (x.on F.SPI_CFG_PROTO = false) ∧ (x.spi.tx = t ::
      rest)) ∧
    (∃ (s : State) (d : DieId) (x : Die), s.die d = x ∧ s.running d ∧ (x.spiSlave = true) ∧ (x.boot.banks.getLsbD 0 =
      false) ∧ (x.spi.sel = false) ∧ (x.on F.SPI_CFG_PROTO = false) ∧ (x.spi.tx = [])) ∧
    (∃ (s : State) (d : DieId) (x : Die), s.die d = x ∧ s.running d ∧ (x.slaveOn = true) ∧ (x.on F.SPI_CFG_PROTO =
      false) ∧ (x.spi.rx.length < 16)) ∧
    (∃ (s : State) (d : DieId) (x : Die), s.die d = x ∧ s.running d ∧ (x.slaveOn = true) ∧ (x.on F.SPI_CFG_PROTO =
      false) ∧ (16 ≤ x.spi.rx.length)) ∧
    (∃ (s : State) (d : DieId) (edges : Nat) (x : Die), s.die d = x ∧ s.running d ∧ (x.spi.sel = true) ∧
      (x.boot.banks.getLsbD 0 = false) ∧ (x.on F.SPI_CFG_PROTO = false) ∧ (0 < edges) ∧ (edges < x.wordBits) ∧
      (x.spi.rx.length < 16)) ∧
    (∃ (s : State) (d : DieId) (x : Die), s.die d = x ∧ s.running d ∧ (x.spi.sel = true) ∧ (x.boot.banks.getLsbD 0 =
      false) ∧ (x.on F.SPI_CFG_PROTO = false)) ∧
    (∃ (s : State) (d : DieId) (x : Die), s.die d = x ∧ s.running d ∧ (x.spi.sel = true) ∧ (x.boot.banks.getLsbD 0 =
      false) ∧ (x.on F.SPI_CFG_PROTO = true) ∧ (x.spi.phase = 1)) ∧
    (∃ (s : State) (d : DieId) (x : Die), s.die d = x ∧ s.running d ∧ (x.spi.sel = true) ∧ (x.boot.banks.getLsbD 0 =
      false) ∧ (x.on F.SPI_CFG_PROTO = true) ∧ (x.spi.phase = 2) ∧ (x.get F.SPI_PROTO_STAT_STATUS = 2)) ∧
    (∃ (s : State) (d : DieId) (w : Nat) (x : Die), s.die d = x ∧ s.running d ∧ (x.slaveOn = true) ∧ (x.on
      F.SPI_CFG_PROTO = true) ∧ (x.spi.phase = 0) ∧ (w = 0x40000000 + 0x2105C) ∧ (x.evq.entries = [])) ∧
    (∃ (s : State) (d : DieId) (w : Nat) (x : Die), s.die d = x ∧ s.running d ∧ (x.slaveOn = true) ∧ (x.on
      F.SPI_CFG_PROTO = true) ∧ (x.spi.phase = 0) ∧ (w = 0x80000000 + 0x2105C)) ∧
    (∃ (s : State) (d : DieId) (x : Die), s.die d = x ∧ s.running d ∧ (x.slaveOn = true) ∧ (x.on F.SPI_CFG_PROTO =
      true) ∧ (x.spi.phase = 1) ∧ (x.spi.data = []) ∧ (x.spi.cmd = 0x80000000 + 0x2105C) ∧ (x.on F.SPI_PROTO_WEN =
      false)) ∧
    (∃ (s : State) (d : DieId) (w : Nat) (x : Die), s.die d = x ∧ s.running d ∧ (x.slaveOn = true) ∧ (x.on
      F.SPI_CFG_PROTO = true) ∧ (x.spi.phase = 1) ∧ (x.spi.data = []) ∧ (x.spi.cmd = 0x80000000 + 0x2105C) ∧ (x.on
      F.SPI_PROTO_WEN = true) ∧ (∀ fl ∈ fieldsAt 0x21 0x05C, ∀ f ∈ fl, f.inRange (f.ofWord (w % 2 ^ 32)) = true) ∧
      (x.evq.entries = [])) ∧
    (∃ (s : State) (d : DieId) (w : Nat) (x : Die), s.die d = x ∧ s.running d ∧ (x.slaveOn = true) ∧ (x.on
      F.SPI_CFG_PROTO = true) ∧ (x.spi.phase = 0) ∧ (w < 2 ^ 30)) := by
  refine ⟨?_, ?_, ?_, ?_, ?_, ?_, ?_, ?_, ?_, ?_, ?_, ?_, ?_⟩
  · exact ⟨(witState (fun x => (((((x.set (F.CTRL_EN 0x11) 1).set F.SPI_CFG_ROLE 1).set F.SPI_STATE_XIP 0).set
  F.SPI_CFG_PROTO 0).set F.SPI_CFG_WLEN_M1 31).onSpi (fun p => { p with tx := [5, 6] }))), .a, 5, [6], _, rfl, by decide +kernel⟩
  · exact ⟨(witState (fun x => ((((x.set (F.CTRL_EN 0x11) 1).set F.SPI_CFG_ROLE 1).set F.SPI_STATE_XIP 0).set
  F.SPI_CFG_PROTO 0).set F.SPI_CFG_WLEN_M1 31)), .a, _, rfl, by decide +kernel⟩
  · exact ⟨(witState (fun x => (((((x.set (F.CTRL_EN 0x11) 1).set F.SPI_CFG_ROLE 1).set F.SPI_STATE_XIP 0).set
  F.SPI_CFG_PROTO 0).set F.SPI_CFG_WLEN_M1 31).onSpi (fun p => { p with sel := true }))), .a, _, rfl, by decide +kernel⟩
  · exact ⟨(witState (fun x => (((((x.set (F.CTRL_EN 0x11) 1).set F.SPI_CFG_ROLE 1).set F.SPI_STATE_XIP 0).set
  F.SPI_CFG_PROTO 0).set F.SPI_CFG_WLEN_M1 31).onSpi (fun p =>
  { p with sel := true, rx := List.replicate 16 (0, false, 8) }))), .a, _, rfl, by decide +kernel⟩
  · exact ⟨(witState (fun x => (((((x.set (F.CTRL_EN 0x11) 1).set F.SPI_CFG_ROLE 1).set F.SPI_STATE_XIP 0).set
  F.SPI_CFG_PROTO 0).set F.SPI_CFG_WLEN_M1 31).onSpi (fun p => { p with sel := true }))), .a, 5, _, rfl, by decide +kernel⟩
  · exact ⟨(witState (fun x => (((((x.set (F.CTRL_EN 0x11) 1).set F.SPI_CFG_ROLE 1).set F.SPI_STATE_XIP 0).set
  F.SPI_CFG_PROTO 0).set F.SPI_CFG_WLEN_M1 31).onSpi (fun p => { p with sel := true }))), .a, _, rfl, by decide +kernel⟩
  · exact ⟨(witState (fun x => (((((x.set (F.CTRL_EN 0x11) 1).set F.SPI_CFG_ROLE 1).set F.SPI_STATE_XIP 0).set
  F.SPI_CFG_PROTO 1).set F.SPI_CFG_WLEN_M1 31).onSpi (fun p => { p with sel := true, phase := 1 }))), .a, _, rfl, by decide +kernel⟩
  · exact ⟨(witState (fun x => ((((((x.set (F.CTRL_EN 0x11) 1).set F.SPI_CFG_ROLE 1).set F.SPI_STATE_XIP 0).set
  F.SPI_CFG_PROTO 1).set F.SPI_CFG_WLEN_M1 31).onSpi (fun p => { p with sel := true, phase := 2 })).set
  F.SPI_PROTO_STAT_STATUS 2)), .a, _, rfl, by decide +kernel⟩
  · exact ⟨(witState (fun x => (((((x.set (F.CTRL_EN 0x11) 1).set F.SPI_CFG_ROLE 1).set F.SPI_STATE_XIP 0).set
  F.SPI_CFG_PROTO 1).set F.SPI_CFG_WLEN_M1 31).onSpi (fun p => { p with sel := true }))), .a, 0x4002105C, _, rfl, by decide +kernel⟩
  · exact ⟨(witState (fun x => (((((x.set (F.CTRL_EN 0x11) 1).set F.SPI_CFG_ROLE 1).set F.SPI_STATE_XIP 0).set
  F.SPI_CFG_PROTO 1).set F.SPI_CFG_WLEN_M1 31).onSpi (fun p => { p with sel := true }))), .a, 0x8002105C, _, rfl, by decide +kernel⟩
  · exact ⟨(witState (fun x => ((((((x.set (F.CTRL_EN 0x11) 1).set F.SPI_CFG_ROLE 1).set F.SPI_STATE_XIP 0).set
  F.SPI_CFG_PROTO 1).set F.SPI_CFG_WLEN_M1 31).onSpi (fun p =>
  { p with sel := true, phase := 1, cmd := 0x8002105C })).set F.SPI_PROTO_WEN 0)), .a, _, rfl, by decide +kernel⟩
  · exact ⟨(witState (fun x => ((((((x.set (F.CTRL_EN 0x11) 1).set F.SPI_CFG_ROLE 1).set F.SPI_STATE_XIP 0).set
  F.SPI_CFG_PROTO 1).set F.SPI_CFG_WLEN_M1 31).onSpi (fun p =>
  { p with sel := true, phase := 1, cmd := 0x8002105C })).set F.SPI_PROTO_WEN 1)), .a, 0x64641464, _, rfl, by decide +kernel⟩
  · exact ⟨(witState (fun x => (((((x.set (F.CTRL_EN 0x11) 1).set F.SPI_CFG_ROLE 1).set F.SPI_STATE_XIP 0).set
  F.SPI_CFG_PROTO 1).set F.SPI_CFG_WLEN_M1 31).onSpi (fun p => { p with sel := true }))), .a, 77, _, rfl, by decide +kernel⟩

theorem witness_SparingAndCores :
    (∃ (s : State) (d : DieId) (bank : Nat) (row : Nat) (x : Die), s.die d = x ∧ s.running d ∧ (bank < 1024) ∧ (row <
      1024) ∧ (x.resource? 5 (bank * 1024 + row) = none) ∧ (x.spr.inventory.all (fun q => q.since != s.now) = true)) ∧
    (∃ (s : State) (d : DieId) (row : Nat) (x : Die), s.die d = x ∧ s.running d ∧ (x.resource? 8 row = none) ∧
      (x.spr.dramCorr = [])) ∧
    (∃ (s : State) (d : DieId) (x : Die), s.die d = x ∧ s.running d ∧ (x.spr.dramCorr = [])) ∧
    (∃ (s : State) (d : DieId) (r : Resource) (x : Die), s.die d = x ∧ s.running d ∧ (x.on F.STS_STATE_BUSY = false) ∧
      (x.takes 0x0B = true) ∧ (x.nextTest = some r) ∧ (r.type = 5) ∧ (r.inst < 2 ^ 20)) ∧
    (∃ (s : State) (d : DieId) (r : Resource) (x : Die), s.die d = x ∧ s.running d ∧ (x.on F.STS_STATE_BUSY = true) ∧
      (x.spr.inventory = [r]) ∧ (r.type = 5) ∧ (r.testing = true) ∧ (r.spoilt = false) ∧ (r.hostTest = false) ∧
      (x.repeats r s.now = false)) ∧
    (∃ (s : State) (d : DieId) (r : Resource) (x : Die), s.die d = x ∧ s.running d ∧ (x.on F.STS_STATE_BUSY = true) ∧
      (x.spr.inventory = [r]) ∧ (r.type = 5) ∧ (r.testing = true) ∧ (r.hostTest = false)) ∧
    (∃ (s : State) (d : DieId) (r : Resource) (x : Die), s.die d = x ∧ s.running d ∧ (x.on F.STS_STATE_BUSY = true) ∧
      (x.spr.inventory = [r]) ∧ (r.type = 5) ∧ (r.testing = true) ∧ (r.hostTest = false)) ∧
    (∃ (s : State) (d : DieId) (ty : Nat) (inst : Nat) (cause : Nat) (rest : List (Nat × Nat × Nat)) (x : Die), s.die
      d = x ∧ s.running d ∧ (x.jobRuns 0 = true) ∧ (x.spr.toWrite = (ty, inst, cause) :: rest) ∧ (x.on
      F.SPR_CTRL_PERSIST = true) ∧ (x.nvs.queue = []) ∧ (graftInForce (x.nvs.graftEntry 0) = false)) ∧
    (∃ (s : State) (d : DieId) (ty : Nat) (inst : Nat) (cause : Nat) (rest : List (Nat × Nat × Nat)) (x : Die), s.die
      d = x ∧ s.running d ∧ (x.jobRuns 0 = true) ∧ (x.spr.toWrite = (ty, inst, cause) :: rest) ∧ (x.on
      F.SPR_CTRL_PERSIST = false)) ∧
    (∃ (s : State) (d : DieId) (x : Die), s.die d = x ∧ s.running d ∧ (x.on F.SPR_REQ_STAT_BUSY = false) ∧ (x.takes
      0x0A = true) ∧ (x.sprFree = true)) ∧
    (∃ (s : State) (d : DieId) (x : Die), s.die d = x ∧ s.running d ∧ (x.on F.SPR_REQ_STAT_BUSY = false) ∧ (x.takes
      0x0A = true) ∧ (x.sprFree = true) ∧ (x.resource? 3 4 = none)) ∧
    (∃ (s : State) (d : DieId) (ty : Nat) (inst : Nat) (r : Resource) (x : Die), s.die d = x ∧ s.running d ∧ (x.on
      F.SPR_REQ_STAT_BUSY = false) ∧ (x.takes 0x0A = true) ∧ (x.sprFree = true) ∧ (ty = 5) ∧ (inst < 2 ^ 20) ∧
      (x.spr.inventory = [r]) ∧ (r.type = ty) ∧ (r.inst = inst)) ∧
    (∃ (s : State) (d : DieId) (ty : Nat) (inst : Nat) (r : Resource) (x : Die), s.die d = x ∧ s.running d ∧ (x.on
      F.SPR_REQ_STAT_BUSY = false) ∧ (x.takes 0x0A = true) ∧ (x.sprFree = true) ∧ (ty = 5) ∧ (inst < 2 ^ 20) ∧
      (x.spr.inventory = [r]) ∧ (r.type = ty) ∧ (r.inst = inst) ∧ (r.lasting = true)) ∧
    (∃ (s : State) (d : DieId) (ty : Nat) (inst : Nat) (r : Resource) (x : Die), s.die d = x ∧ s.running d ∧ (x.on
      F.SPR_REQ_STAT_BUSY = false) ∧ (x.takes 0x0A = true) ∧ (x.sprFree = true) ∧ (ty = 5) ∧ (inst < 2 ^ 20) ∧
      (x.spr.inventory = [r]) ∧ (r.type = ty) ∧ (r.inst = inst) ∧ (r.lasting = true)) ∧
    (∃ (s : State) (d : DieId) (x : Die), s.die d = x ∧ s.running d ∧ (x.on F.SPR_REQ_STAT_BUSY = true)) ∧
    (∃ (s : State) (d : DieId) (n : Nat) (core : Fin 5) (j : Nat) (x : Die), s.die d = x ∧ s.running d ∧ (x.boot.cores
      = true) ∧ (x.jobOf core.val = some j) ∧ (j = 2 ∨ j = 3) ∧ (x.get F.PRC_MAP_SPARE = n) ∧ (n < 5) ∧ (x.resource? 4
      core.val = none)) ∧
    (∃ (s : State) (d : DieId) (core : Fin 5) (j : Nat) (x : Die), s.die d = x ∧ s.running d ∧ (x.boot.cores = true) ∧
      (x.jobOf core.val = some j) ∧ (x.get F.PRC_MAP_SPARE = 7) ∧ (x.boot.down = []) ∧ (x.thm.stopping = false)) ∧
    (∃ (s : State) (d : DieId) (n : Nat) (core : Fin 5) (j : Nat) (x : Die), s.die d = x ∧ s.running d ∧ (x.boot.cores
      = true) ∧ (x.jobOf core.val = some j) ∧ (j = 2 ∨ j = 3) ∧ (x.get F.PRC_MAP_SPARE = n) ∧ (n < 5) ∧ (x.resource? 4
      core.val = none)) ∧
    (∃ (s : State) (d : DieId) (n : Nat) (j : Nat) (x : Die), s.die d = x ∧ s.running d ∧ (x.boot.down = [j]) ∧ (j = 2
      ∨ j = 3) ∧ ((List.range 5).find? (fun k => x.get (F.PRC_CORE_CORE k) = 2) = some n)) := by
  refine ⟨?_, ?_, ?_, ?_, ?_, ?_, ?_, ?_, ?_, ?_, ?_, ?_, ?_, ?_, ?_, ?_, ?_, ?_, ?_⟩
  · exact ⟨(witState (fun x => x)), .a, 2, 3, _, rfl, by decide +kernel⟩
  · exact ⟨(witState (fun x => x)), .a, 3, _, rfl, by decide +kernel⟩
  · exact ⟨(witState (fun x => x)), .a, _, rfl, by decide +kernel⟩
  · exact ⟨(witState (fun x => (x.set F.STS_STATE_BUSY 0).onSpr (fun p =>
  { p with inventory := [{ type := 5, inst := 2051, waiting := true, testing := false, spoilt := false, lasting := false, cause := 5, since := 3, hostTest := false }] }))),
  .a,
  ({ type := 5, inst := 2051, waiting := true, testing := false, spoilt := false, lasting := false, cause := 5, since := 3, hostTest := false }),
  _, rfl, by decide +kernel⟩
  · exact ⟨(witState (fun x => ((x.set F.STS_STATE_BUSY 1).onSpr (fun p =>
  { p with inventory := [{ type := 5, inst := 2051, waiting := false, testing := true, spoilt := false, lasting := false, cause := 5, since := 3, hostTest := false }] })).set
  F.SPR_POLICY_TRANS_MAX 3)), .a,
  ({ type := 5, inst := 2051, waiting := false, testing := true, spoilt := false, lasting := false, cause := 5, since := 3, hostTest := false }),
  _, rfl, by decide +kernel⟩
  · exact ⟨(witState (fun x => (x.set F.STS_STATE_BUSY 1).onSpr (fun p =>
  { p with inventory := [{ type := 5, inst := 2051, waiting := false, testing := true, spoilt := false, lasting := false, cause := 5, since := 3, hostTest := false }] }))),
  .a,
  ({ type := 5, inst := 2051, waiting := false, testing := true, spoilt := false, lasting := false, cause := 5, since := 3, hostTest := false }),
  _, rfl, by decide +kernel⟩
  · exact ⟨(witState (fun x => (x.set F.STS_STATE_BUSY 1).onSpr (fun p =>
  { p with inventory := [{ type := 5, inst := 2051, waiting := false, testing := true, spoilt := false, lasting := false, cause := 5, since := 3, hostTest := false }] }))),
  .a,
  ({ type := 5, inst := 2051, waiting := false, testing := true, spoilt := false, lasting := false, cause := 5, since := 3, hostTest := false }),
  _, rfl, by decide +kernel⟩
  · exact ⟨(witState (fun x => (x.set F.SPR_CTRL_PERSIST 1).onSpr (fun p => { p with toWrite := [(5, 2051, 5)] }))),
  .a, 5, 2051, 5, [], _, rfl, by decide +kernel⟩
  · exact ⟨(witState (fun x => (x.set F.SPR_CTRL_PERSIST 0).onSpr (fun p => { p with toWrite := [(5, 2051, 5)] }))),
  .a, 5, 2051, 5, [], _, rfl, by decide +kernel⟩
  · exact ⟨(witState (fun x => x.set F.SPR_REQ_STAT_BUSY 0)), .a, _, rfl, by decide +kernel⟩
  · exact ⟨(witState (fun x => x.set F.SPR_REQ_STAT_BUSY 0)), .a, _, rfl, by decide +kernel⟩
  · exact ⟨(witState (fun x => ((x.set F.STS_STATE_BUSY 0).onSpr (fun p =>
  { p with inventory := [{ type := 5, inst := 2051, waiting := true, testing := false, spoilt := false, lasting := false, cause := 5, since := 3, hostTest := false }] })).set
  F.SPR_REQ_STAT_BUSY 0)), .a, 5, 2051,
  ({ type := 5, inst := 2051, waiting := true, testing := false, spoilt := false, lasting := false, cause := 5, since := 3, hostTest := false }),
  _, rfl, by decide +kernel⟩
  · exact ⟨(witState (fun x => ((x.set F.STS_STATE_BUSY 0).onSpr (fun p =>
  { p with inventory := [{ type := 5, inst := 2051, waiting := false, testing := false, spoilt := false, lasting := true, cause := 5, since := 3, hostTest := false }] })).set
  F.SPR_REQ_STAT_BUSY 0)), .a, 5, 2051,
  ({ type := 5, inst := 2051, waiting := false, testing := false, spoilt := false, lasting := true, cause := 5, since := 3, hostTest := false }),
  _, rfl, by decide +kernel⟩
  · exact ⟨(witState (fun x => ((x.set F.STS_STATE_BUSY 0).onSpr (fun p =>
  { p with inventory := [{ type := 5, inst := 2051, waiting := false, testing := false, spoilt := false, lasting := true, cause := 5, since := 3, hostTest := false }] })).set
  F.SPR_REQ_STAT_BUSY 0)), .a, 5, 2051,
  ({ type := 5, inst := 2051, waiting := false, testing := false, spoilt := false, lasting := true, cause := 5, since := 3, hostTest := false }),
  _, rfl, by decide +kernel⟩
  · exact ⟨(witState (fun x => x.set F.SPR_REQ_STAT_BUSY 1)), .a, _, rfl, by decide +kernel⟩
  · exact ⟨(witState (fun x => ((((((x.set F.PRC_MAP_MP 0).set F.PRC_MAP_CP 1).set F.PRC_MAP_LP 2).set F.PRC_MAP_EP
  3).set F.PRC_MAP_SPARE 4).set F.RST_START_KIND 0).set F.PWR_STATE_STATE 0)), .a, 4, 3, 3, _, rfl, by decide +kernel⟩
  · exact ⟨(witState (fun x => ((((((x.set F.PRC_MAP_MP 0).set F.PRC_MAP_CP 1).set F.PRC_MAP_LP 2).set F.PRC_MAP_EP
  3).set F.PRC_MAP_SPARE 7).set F.RST_START_KIND 0).set F.PWR_STATE_STATE 0)), .a, 3, 3, _, rfl, by decide +kernel⟩
  · exact ⟨(witState (fun x => ((((((x.set F.PRC_MAP_MP 0).set F.PRC_MAP_CP 1).set F.PRC_MAP_LP 2).set F.PRC_MAP_EP
  3).set F.PRC_MAP_SPARE 4).set F.RST_START_KIND 0).set F.PWR_STATE_STATE 0)), .a, 4, 3, 3, _, rfl, by decide +kernel⟩
  · exact ⟨(witState (fun x => (((((((x.set F.PRC_MAP_MP 0).set F.PRC_MAP_CP 1).set F.PRC_MAP_LP 2).set F.PRC_MAP_EP
  3).set F.PRC_MAP_SPARE 7).set F.RST_START_KIND 0).set F.PWR_STATE_STATE 0).set (F.PRC_CORE_CORE 4) 2 |>.onBoot (fun
  b => { b with down := [3] }))), .a, 4, 3, _, rfl, by decide +kernel⟩

theorem witness_MailboxSystem :
    (∃ (s : State) (d : DieId) (q : Start) (x : Die), s.die d = x ∧ s.running d ∧ (x.on (F.MBX_RSP_BUSY 0) = false) ∧
      (x.takes 0x08 = true) ∧ (x.mbxFree 0 = true) ∧ (x.boot.start = some q) ∧ (q.step = 7)) ∧
    (∃ (s : State) (d : DieId) (x : Die), s.die d = x ∧ s.running d ∧ (x.on (F.MBX_RSP_BUSY 0) = false) ∧ (x.takes
      0x08 = true) ∧ (x.mbxFree 0 = true) ∧ (x.startStep ≠ 7)) ∧
    (∃ (s : State) (d : DieId) (x : Die), s.die d = x ∧ s.running d ∧ (x.on (F.MBX_RSP_BUSY 0) = false) ∧ (x.takes
      0x08 = true) ∧ (x.mbxFree 0 = true) ∧ (x.canRead 64 256 = true) ∧ (x.nvsHalted = false)) ∧
    (∃ (s : State) (d : DieId) (x : Die), s.die d = x ∧ s.running d ∧ (x.on (F.MBX_RSP_BUSY 0) = false) ∧ (x.takes
      0x08 = true) ∧ (x.mbxFree 0 = true) ∧ (x.nvsHalted = true)) ∧
    (∃ (s : State) (d : DieId) (x : Die), s.die d = x ∧ s.running d ∧ (x.on (F.MBX_RSP_BUSY 0) = false) ∧ (x.takes
      0x08 = true) ∧ (x.mbxFree 0 = true) ∧ (x.canRead 2 1 = true) ∧ (x.canRead 64 256 = true) ∧ (x.nvsHalted = false)
      ∧ (x.pwdOpen 2 = true)) ∧
    (∃ (s : State) (d : DieId) (x : Die), s.die d = x ∧ s.running d ∧ (x.on (F.MBX_RSP_BUSY 0) = false) ∧ (x.takes
      0x08 = true) ∧ (x.mbxFree 0 = true) ∧ (x.canRead 2 1 = true) ∧ (x.canRead 64 256 = true) ∧ (x.pwdOpen 2 = true)
      ∧ (x.nvsHalted = true)) ∧
    (∃ (s : State) (d : DieId) (x : Die), s.die d = x ∧ s.running d ∧ (x.on (F.MBX_RSP_BUSY 0) = false) ∧ (x.takes
      0x08 = true) ∧ (x.mbxFree 0 = true) ∧ (x.canRead 2 1 = false ∨ x.canRead 64 256 = false)) ∧
    (∃ (s : State) (d : DieId) (x : Die), s.die d = x ∧ s.running d ∧ (x.on (F.MBX_RSP_BUSY 0) = false) ∧ (x.takes
      0x08 = true) ∧ (x.mbxFree 0 = true) ∧ (x.nvsHalted = false) ∧ (x.canRead 64 256 = false)) ∧
    (∃ (s : State) (d : DieId) (x : Die), s.die d = x ∧ s.running d ∧ (x.on (F.MBX_RSP_BUSY 0) = false) ∧ (x.takes
      0x08 = true) ∧ (x.mbxFree 0 = true) ∧ (x.nvsHalted = false)) ∧
    (∃ (s : State) (d : DieId) (good : Bool) (x : Die), s.die d = x ∧ s.running d ∧ (x.on (F.MBX_RSP_BUSY 0) = false)
      ∧ (x.takes 0x08 = true) ∧ (x.mbxFree 0 = true) ∧ (x.canRead 2 1 = true) ∧ (x.pwdOpen 2 = true) ∧ (good = false)) ∧
    (∃ (s : State) (d : DieId) (good : Bool) (x : Die), s.die d = x ∧ s.running d ∧ (x.on (F.MBX_RSP_BUSY 0) = false)
      ∧ (x.takes 0x08 = true) ∧ (x.mbxFree 0 = true) ∧ (x.canRead 2 1 = true) ∧ (x.pwdOpen 2 = true) ∧ (good = true) ∧
      (x.nvsHalted = false)) := by
  refine ⟨?_, ?_, ?_, ?_, ?_, ?_, ?_, ?_, ?_, ?_, ?_⟩
  · exact ⟨(witState (fun x => (((x.set (F.MBX_RSP_BUSY 0) 0).set F.NVS_STATE_READY 1).set F.RST_START_KIND 0).onBoot
  (fun b => { b with start := some { step := 7 } }))), .a, ({ step := 7 }), _, rfl, by decide +kernel⟩
  · exact ⟨(witState (fun x => (((x.set (F.MBX_RSP_BUSY 0) 0).set F.NVS_STATE_READY 1).set F.RST_START_KIND 0))), .a,
  _, rfl, by decide +kernel⟩
  · exact ⟨(witState (fun x => (((((x.set (F.MBX_RSP_BUSY 0) 0).set F.NVS_STATE_READY 1).set F.RST_START_KIND 0).set
  F.NVS_STATE_STOPPED 0).set F.NVS_STATE_EP_ONLY 0).set F.NVS_STATE_READY 1)), .a, _, rfl, by decide +kernel⟩
  · exact ⟨(witState (fun x => (((x.set (F.MBX_RSP_BUSY 0) 0).set F.NVS_STATE_READY 1).set F.RST_START_KIND 0).set
  F.NVS_STATE_STOPPED 1)), .a, _, rfl, by decide +kernel⟩
  · exact ⟨(witState (fun x => ((((((x.set (F.MBX_RSP_BUSY 0) 0).set F.NVS_STATE_READY 1).set F.RST_START_KIND 0).set
  F.NVS_STATE_STOPPED 0).set F.NVS_STATE_EP_ONLY 0).set F.NVS_STATE_READY 1).set F.NVS_STATE_UNLOCK_W 1)), .a, _, rfl,
  by decide +kernel⟩
  · exact ⟨(witState (fun x => ((((x.set (F.MBX_RSP_BUSY 0) 0).set F.NVS_STATE_READY 1).set F.RST_START_KIND 0)).set
  F.NVS_STATE_STOPPED 1)), .a, _, rfl, by decide +kernel⟩
  · exact ⟨(witState (fun x => (((x.set (F.MBX_RSP_BUSY 0) 0).set F.NVS_STATE_READY 1).set F.RST_START_KIND 0).set
  F.NVS_STATE_READY 0)), .a, _, rfl, by decide +kernel⟩
  · exact ⟨(witState (fun x => ((((((x.set (F.MBX_RSP_BUSY 0) 0).set F.NVS_STATE_READY 1).set F.RST_START_KIND 0).set
  F.NVS_STATE_STOPPED 0).set F.NVS_STATE_EP_ONLY 0).set F.NVS_STATE_READY 1).set F.NVS_STATE_READY 0)), .a, _, rfl, by decide +kernel⟩
  · exact ⟨(witState (fun x => (((((x.set (F.MBX_RSP_BUSY 0) 0).set F.NVS_STATE_READY 1).set F.RST_START_KIND 0).set
  F.NVS_STATE_STOPPED 0).set F.NVS_STATE_EP_ONLY 0).set F.NVS_STATE_READY 1)), .a, _, rfl, by decide +kernel⟩
  · exact ⟨(witState (fun x => ((((((x.set (F.MBX_RSP_BUSY 0) 0).set F.NVS_STATE_READY 1).set F.RST_START_KIND 0).set
  F.NVS_STATE_STOPPED 0).set F.NVS_STATE_EP_ONLY 0).set F.NVS_STATE_READY 1).set F.NVS_STATE_UNLOCK_W 1)), .a, false,
  _, rfl, by decide +kernel⟩
  · exact ⟨(witState (fun x => ((((((x.set (F.MBX_RSP_BUSY 0) 0).set F.NVS_STATE_READY 1).set F.RST_START_KIND 0).set
  F.NVS_STATE_STOPPED 0).set F.NVS_STATE_EP_ONLY 0).set F.NVS_STATE_READY 1).set F.NVS_STATE_UNLOCK_W 1)), .a, true,
  _, rfl, by decide +kernel⟩

theorem witness_MailboxCalibration :
    (∃ (s : State) (d : DieId) (arg : Nat) (x : Die), s.die d = x ∧ s.running d ∧ (x.on (F.MBX_RSP_BUSY 1) = false) ∧
      (x.takes 0x08 = true) ∧ (x.mbxFree 1 = true) ∧ (arg < 2) ∧ (x.cal.event = none) ∧ (x.on F.CAL_CTRL_EN = true) ∧
      (x.canClose = true)) ∧
    (∃ (s : State) (d : DieId) (arg : Nat) (x : Die), s.die d = x ∧ s.running d ∧ (x.on (F.MBX_RSP_BUSY 1) = false) ∧
      (x.takes 0x08 = true) ∧ (x.mbxFree 1 = true) ∧ (2 ≤ arg)) ∧
    (∃ (s : State) (d : DieId) (arg : Nat) (x : Die), s.die d = x ∧ s.running d ∧ (x.on (F.MBX_RSP_BUSY 1) = false) ∧
      (x.takes 0x08 = true) ∧ (x.mbxFree 1 = true) ∧ (arg < 2) ∧ (x.on F.CAL_CTRL_EN = false)) ∧
    (∃ (s : State) (d : DieId) (x : Die), s.die d = x ∧ s.running d ∧ (x.on (F.MBX_RSP_BUSY 1) = false) ∧ (x.takes
      0x08 = true) ∧ (x.mbxFree 1 = true) ∧ (x.cal.event = none)) ∧
    (∃ (s : State) (d : DieId) (e : CalEvent) (x : Die), s.die d = x ∧ s.running d ∧ (x.on (F.MBX_RSP_BUSY 1) = false)
      ∧ (x.takes 0x08 = true) ∧ (x.mbxFree 1 = true) ∧ (x.cal.event = some e) ∧ (e.armed = false)) ∧
    (∃ (s : State) (d : DieId) (x : Die), s.die d = x ∧ s.running d ∧ (x.on (F.MBX_RSP_BUSY 1) = false) ∧ (x.takes
      0x08 = true) ∧ (x.mbxFree 1 = true) ∧ (x.canRead 320 256 = true) ∧ (x.nvsHalted = false)) ∧
    (∃ (s : State) (d : DieId) (x : Die), s.die d = x ∧ s.running d ∧ (x.on (F.MBX_RSP_BUSY 1) = false) ∧ (x.takes
      0x08 = true) ∧ (x.mbxFree 1 = true) ∧ (x.nvsHalted = true)) ∧
    (∃ (s : State) (d : DieId) (x : Die), s.die d = x ∧ s.running d ∧ (x.on (F.MBX_RSP_BUSY 1) = false) ∧ (x.takes
      0x08 = true) ∧ (x.mbxFree 1 = true) ∧ (x.on F.CAL_CTRL_EN = true ∨ x.on F.CAL_CTRL_BG_EN = true)) ∧
    (∃ (s : State) (d : DieId) (x : Die), s.die d = x ∧ s.running d ∧ (x.on (F.MBX_RSP_BUSY 1) = false) ∧ (x.takes
      0x08 = true) ∧ (x.mbxFree 1 = true) ∧ (x.canRead 320 256 = true) ∧ (x.on F.CAL_CTRL_EN = false) ∧ (x.on
      F.CAL_CTRL_BG_EN = false) ∧ (x.nvs.newestSlot true = none)) ∧
    (∃ (s : State) (d : DieId) (x : Die), s.die d = x ∧ s.running d ∧ (x.on (F.MBX_RSP_BUSY 1) = false) ∧ (x.takes
      0x08 = true) ∧ (x.mbxFree 1 = true) ∧ (x.on F.CAL_CTRL_EN = false) ∧ (x.on F.CAL_CTRL_BG_EN = false) ∧
      (x.canRead 320 256 = false)) ∧
    (∃ (s : State) (d : DieId) (x : Die), s.die d = x ∧ s.running d ∧ (x.on (F.MBX_RSP_BUSY 1) = false) ∧ (x.takes
      0x08 = true) ∧ (x.mbxFree 1 = true)) := by
  refine ⟨?_, ?_, ?_, ?_, ?_, ?_, ?_, ?_, ?_, ?_, ?_⟩
  · exact ⟨(witState (fun x => (((((x.set (F.MBX_RSP_BUSY 1) 0).set F.NVS_STATE_READY 1).set F.RST_START_KIND 0).set
  F.CAL_CTRL_EN 1).set F.CLO_CTRL_EN 1))), .a, 1, _, rfl, by decide +kernel⟩
  · exact ⟨(witState (fun x => (((x.set (F.MBX_RSP_BUSY 1) 0).set F.NVS_STATE_READY 1).set F.RST_START_KIND 0))), .a,
  2, _, rfl, by decide +kernel⟩
  · exact ⟨(witState (fun x => (((x.set (F.MBX_RSP_BUSY 1) 0).set F.NVS_STATE_READY 1).set F.RST_START_KIND 0).set
  F.CAL_CTRL_EN 0)), .a, 1, _, rfl, by decide +kernel⟩
  · exact ⟨(witState (fun x => (((x.set (F.MBX_RSP_BUSY 1) 0).set F.NVS_STATE_READY 1).set F.RST_START_KIND 0))), .a,
  _, rfl, by decide +kernel⟩
  · exact ⟨(witState (fun x => (((x.set (F.MBX_RSP_BUSY 1) 0).set F.NVS_STATE_READY 1).set F.RST_START_KIND 0).onCal
  (fun c =>
  { c with event := some { gain := 0, f := 4, warm := false, first := 0, settleFrame := 1, groupA := 2, groupB := 6, last := 9, plane := 0, tf0 := 0, th0 := 0 } }))),
  .a,
  ({ gain := 0, f := 4, warm := false, first := 0, settleFrame := 1, groupA := 2, groupB := 6, last := 9, plane := 0, tf0 := 0, th0 := 0 }),
  _, rfl, by decide +kernel⟩
  · exact ⟨(witState (fun x => (((((x.set (F.MBX_RSP_BUSY 1) 0).set F.NVS_STATE_READY 1).set F.RST_START_KIND 0).set
  F.NVS_STATE_STOPPED 0).set F.NVS_STATE_EP_ONLY 0).set F.NVS_STATE_READY 1)), .a, _, rfl, by decide +kernel⟩
  · exact ⟨(witState (fun x => (((x.set (F.MBX_RSP_BUSY 1) 0).set F.NVS_STATE_READY 1).set F.RST_START_KIND 0).set
  F.NVS_STATE_STOPPED 1)), .a, _, rfl, by decide +kernel⟩
  · exact ⟨(witState (fun x => (((x.set (F.MBX_RSP_BUSY 1) 0).set F.NVS_STATE_READY 1).set F.RST_START_KIND 0).set
  F.CAL_CTRL_EN 1)), .a, _, rfl, by decide +kernel⟩
  · exact ⟨(witState (fun x => (((x.set (F.MBX_RSP_BUSY 1) 0).set F.NVS_STATE_READY 1).set F.RST_START_KIND 0).set
  F.CAL_CTRL_EN 0 |>.set F.CAL_CTRL_BG_EN 0)), .a, _, rfl, by decide +kernel⟩
  · exact ⟨(witState (fun x => (((x.set (F.MBX_RSP_BUSY 1) 0).set F.NVS_STATE_READY 1).set F.RST_START_KIND 0).set
  F.CAL_CTRL_EN 0 |>.set F.CAL_CTRL_BG_EN 0 |>.set F.NVS_STATE_READY 0)), .a, _, rfl, by decide +kernel⟩
  · exact ⟨(witState (fun x => (((x.set (F.MBX_RSP_BUSY 1) 0).set F.NVS_STATE_READY 1).set F.RST_START_KIND 0))), .a,
  _, rfl, by decide +kernel⟩

theorem witness_MailboxEvidence :
    (∃ (s : State) (d : DieId) (x : Die), s.die d = x ∧ s.running d ∧ (x.on (F.MBX_RSP_BUSY 3) = false) ∧ (x.takes
      0x08 = true) ∧ (x.mbxFree 3 = true) ∧ (x.tagging = true) ∧ (x.noKey = false) ∧ (x.evd.queue = []) ∧ (0 <
      x.evd.count)) ∧
    (∃ (s : State) (d : DieId) (x : Die), s.die d = x ∧ s.running d ∧ (x.on (F.MBX_RSP_BUSY 3) = false) ∧ (x.takes
      0x08 = true) ∧ (x.mbxFree 3 = true) ∧ (x.tagging = true) ∧ (x.noKey = false) ∧ (x.evd.queue = []) ∧ (x.evd.count
      = 0)) ∧
    (∃ (s : State) (d : DieId) (x : Die), s.die d = x ∧ s.running d ∧ (x.on (F.MBX_RSP_BUSY 3) = false) ∧ (x.takes
      0x08 = true) ∧ (x.mbxFree 3 = true) ∧ (x.tagging = true) ∧ (x.noKey = true)) ∧
    (∃ (s : State) (d : DieId) (arg : Nat) (x : Die), s.die d = x ∧ s.running d ∧ (x.on (F.MBX_RSP_BUSY 3) = false) ∧
      (x.takes 0x08 = true) ∧ (x.mbxFree 3 = true) ∧ (x.evd.live = true) ∧ (x.noKey = false) ∧ (arg + 32 ≤
      Config.dramBytes)) ∧
    (∃ (s : State) (d : DieId) (x : Die), s.die d = x ∧ s.running d ∧ (x.on (F.MBX_RSP_BUSY 3) = false) ∧ (x.takes
      0x08 = true) ∧ (x.mbxFree 3 = true) ∧ (x.noKey = true)) ∧
    (∃ (s : State) (d : DieId) (x : Die), s.die d = x ∧ s.running d ∧ (x.on (F.MBX_RSP_BUSY 3) = false) ∧ (x.takes
      0x08 = true) ∧ (x.mbxFree 3 = true) ∧ (x.tagging = true) ∧ (x.noKey = false) ∧ (x.ipp.done = [])) ∧
    (∃ (s : State) (d : DieId) (x : Die), s.die d = x ∧ s.running d ∧ (x.on (F.MBX_RSP_BUSY 3) = false) ∧ (x.takes
      0x08 = true) ∧ (x.mbxFree 3 = true) ∧ (x.tagging = false) ∧ (x.evd.closing = none)) ∧
    (∃ (s : State) (d : DieId) (x : Die), s.die d = x ∧ s.running d ∧ (x.on (F.MBX_RSP_BUSY 3) = false) ∧ (x.takes
      0x08 = true) ∧ (x.mbxFree 3 = true) ∧ (x.canRead 704 48 = true) ∧ (isFinal (x.nvs.finalAt 0) = false) ∧ (isFinal
      (x.nvs.finalAt 1) = false)) ∧
    (∃ (s : State) (d : DieId) (arg : Nat) (x : Die), s.die d = x ∧ s.running d ∧ (x.on (F.MBX_RSP_BUSY 3) = false) ∧
      (x.takes 0x08 = true) ∧ (x.mbxFree 3 = true) ∧ (x.canRead 704 48 = true) ∧ (isFinal (x.nvs.finalAt 1) = false) ∧
      (arg + 2048 ≤ Config.dramBytes)) ∧
    (∃ (s : State) (d : DieId) (arg : Nat) (x : Die), s.die d = x ∧ s.running d ∧ (x.on (F.MBX_RSP_BUSY 3) = false) ∧
      (x.takes 0x08 = true) ∧ (x.mbxFree 3 = true) ∧ (x.canRead 576 128 = true) ∧ (arg + 8192 ≤ Config.dramBytes)) ∧
    (∃ (s : State) (d : DieId) (arg : Nat) (x : Die), s.die d = x ∧ s.running d ∧ (x.on (F.MBX_RSP_BUSY 3) = false) ∧
      (x.takes 0x08 = true) ∧ (x.mbxFree 3 = true) ∧ (x.canRead 576 128 = true) ∧ (Config.dramBytes < arg + 8192)) ∧
    (∃ (s : State) (d : DieId) (x : Die), s.die d = x ∧ s.running d ∧ (x.on (F.MBX_RSP_BUSY 3) = false) ∧ (x.takes
      0x08 = true) ∧ (x.mbxFree 3 = true) ∧ (x.canRead 704 48 = false)) := by
  refine ⟨?_, ?_, ?_, ?_, ?_, ?_, ?_, ?_, ?_, ?_, ?_, ?_⟩
  · exact ⟨(witState (fun x => (((((x.set (F.CTRL_EN 0x50) 1).set F.EVD_CTRL_CLOSED 0).set F.EVD_START_NOKEY 0).set
  F.EVD_START_KIND 0 |>.set F.EVD_ESN_HI_ESN 0 |>.set F.EVD_ESN_LO_ESN 9 |>.set F.EVD_LIMIT_HI_LIMIT 0 |>.set
  F.EVD_LIMIT_LO_LIMIT 4000).onEvd (fun e => { e with live := true, count := 3 })).set (F.MBX_RSP_BUSY 3) 0 |>.set
  F.NVS_STATE_READY 1 |>.set F.RST_START_KIND 0)), .a, _, rfl, by decide +kernel⟩
  · exact ⟨(witState (fun x => (((((x.set (F.CTRL_EN 0x50) 1).set F.EVD_CTRL_CLOSED 0).set F.EVD_START_NOKEY 0).set
  F.EVD_START_KIND 0 |>.set F.EVD_ESN_HI_ESN 0 |>.set F.EVD_ESN_LO_ESN 9 |>.set F.EVD_LIMIT_HI_LIMIT 0 |>.set
  F.EVD_LIMIT_LO_LIMIT 4000).onEvd (fun e => { e with live := true })).set (F.MBX_RSP_BUSY 3) 0 |>.set
  F.NVS_STATE_READY 1 |>.set F.RST_START_KIND 0)), .a, _, rfl, by decide +kernel⟩
  · exact ⟨(witState (fun x => ((((((x.set (F.CTRL_EN 0x50) 1).set F.EVD_CTRL_CLOSED 0).set F.EVD_START_NOKEY 0).set
  F.EVD_START_KIND 0 |>.set F.EVD_ESN_HI_ESN 0 |>.set F.EVD_ESN_LO_ESN 9 |>.set F.EVD_LIMIT_HI_LIMIT 0 |>.set
  F.EVD_LIMIT_LO_LIMIT 4000).onEvd (fun e => { e with live := true })).set (F.MBX_RSP_BUSY 3) 0 |>.set
  F.NVS_STATE_READY 1 |>.set F.RST_START_KIND 0).set F.EVD_START_NOKEY 1)), .a, _, rfl, by decide +kernel⟩
  · exact ⟨(witState (fun x => (((((x.set (F.CTRL_EN 0x50) 1).set F.EVD_CTRL_CLOSED 0).set F.EVD_START_NOKEY 0).set
  F.EVD_START_KIND 0 |>.set F.EVD_ESN_HI_ESN 0 |>.set F.EVD_ESN_LO_ESN 9 |>.set F.EVD_LIMIT_HI_LIMIT 0 |>.set
  F.EVD_LIMIT_LO_LIMIT 4000).onEvd (fun e => { e with live := true })).set (F.MBX_RSP_BUSY 3) 0 |>.set
  F.NVS_STATE_READY 1 |>.set F.RST_START_KIND 0)), .a, 64, _, rfl, by decide +kernel⟩
  · exact ⟨(witState (fun x => ((((((x.set (F.CTRL_EN 0x50) 1).set F.EVD_CTRL_CLOSED 0).set F.EVD_START_NOKEY 0).set
  F.EVD_START_KIND 0 |>.set F.EVD_ESN_HI_ESN 0 |>.set F.EVD_ESN_LO_ESN 9 |>.set F.EVD_LIMIT_HI_LIMIT 0 |>.set
  F.EVD_LIMIT_LO_LIMIT 4000).onEvd (fun e => { e with live := true })).set (F.MBX_RSP_BUSY 3) 0 |>.set
  F.NVS_STATE_READY 1 |>.set F.RST_START_KIND 0).set F.EVD_START_NOKEY 1)), .a, _, rfl, by decide +kernel⟩
  · exact ⟨(witState (fun x => (((((x.set (F.CTRL_EN 0x50) 1).set F.EVD_CTRL_CLOSED 0).set F.EVD_START_NOKEY 0).set
  F.EVD_START_KIND 0 |>.set F.EVD_ESN_HI_ESN 0 |>.set F.EVD_ESN_LO_ESN 9 |>.set F.EVD_LIMIT_HI_LIMIT 0 |>.set
  F.EVD_LIMIT_LO_LIMIT 4000).onEvd (fun e => { e with live := true })).set (F.MBX_RSP_BUSY 3) 0 |>.set
  F.NVS_STATE_READY 1 |>.set F.RST_START_KIND 0)), .a, _, rfl, by decide +kernel⟩
  · exact ⟨(witState (fun x => (x).set (F.MBX_RSP_BUSY 3) 0 |>.set F.NVS_STATE_READY 1 |>.set F.RST_START_KIND 0)),
  .a, _, rfl, by decide +kernel⟩
  · exact ⟨(witState (fun x => (x).set (F.MBX_RSP_BUSY 3) 0 |>.set F.NVS_STATE_READY 1 |>.set F.RST_START_KIND 0)),
  .a, _, rfl, by decide +kernel⟩
  · exact ⟨(witState (fun x => ((x).set (F.MBX_RSP_BUSY 3) 0 |>.set F.NVS_STATE_READY 1 |>.set F.RST_START_KIND
  0).onNvs (fun p =>
  { p with pages := [(1408, { data := padTo 64 (bytesLE 4 0x4C414553 ++ bytesLE 1 1 ++ bytesLE 1 2 ++ bytesLE 14 0 ++ bytesLE 4 77), seq := 3, writes := 1, crc := crc32 (padTo 64 (bytesLE 4 0x4C414553 ++ bytesLE 1 1 ++ bytesLE 1 2 ++ bytesLE 14 0 ++ bytesLE 4 77)) })] }))),
  .a, 64, _, rfl, by decide +kernel⟩
  · exact ⟨(witState (fun x => ((x).set (F.MBX_RSP_BUSY 3) 0 |>.set F.NVS_STATE_READY 1 |>.set F.RST_START_KIND
  0).onNvs (fun p => { p with logNext := 1, logUsed := 1 }))), .a, 64, _, rfl, by decide +kernel⟩
  · exact ⟨(witState (fun x => (x).set (F.MBX_RSP_BUSY 3) 0 |>.set F.NVS_STATE_READY 1 |>.set F.RST_START_KIND 0)),
  .a, 2080374784, _, rfl, by decide +kernel⟩
  · exact ⟨(witState (fun x => ((x).set (F.MBX_RSP_BUSY 3) 0 |>.set F.NVS_STATE_READY 1 |>.set F.RST_START_KIND 0).set
  F.NVS_STATE_READY 0)), .a, _, rfl, by decide +kernel⟩

end Sys2Proof.Tests
end

/-! A package with one die (R1, R19): no command and no idle step reaches Die B. -/

namespace Sys2Proof.Machine

/-! ### Die B of a package with one die -/

/-- `t` has Die B, its DRAM and the package's kind as `s` has them. -/
def State.KeepsDieB (s t : State) : Prop := t.dieB = s.dieB ∧ t.memB = s.memB ∧ t.dual = s.dual

/-- Whatever next state the outcome is, it has Die B, its DRAM and the package's kind as `s` has them. -/
def State.SparesDieB (s : State) (o : Host.Outcome State Fault Refusal) : Prop := ∀ t, o = .next t → s.KeepsDieB t

theorem State.KeepsDieB.refl (s : State) : s.KeepsDieB s := ⟨rfl, rfl, rfl⟩

theorem State.KeepsDieB.trans {s t u : State} (h : s.KeepsDieB t) (k : t.KeepsDieB u) : s.KeepsDieB u :=
  ⟨k.1.trans h.1, k.2.1.trans h.2.1, k.2.2.trans h.2.2⟩

theorem State.mark_keepsDieB (s : State) (d : DieId) : s.KeepsDieB (s.mark d) := by
  cases d <;> exact ⟨rfl, rfl, rfl⟩

theorem State.alsoOn_keepsDieB (s : State) (f : Env → Die → Die) : s.KeepsDieB (s.alsoOn .a f) := ⟨rfl, rfl, rfl⟩

theorem State.runAlways_keepsDieB (s : State) (f : Env → Die → Die) : s.KeepsDieB (s.runAlways .a f) := ⟨rfl, rfl, rfl⟩

theorem State.runOn_keepsDieB (s : State) (f : Env → Die → Die) : s.KeepsDieB (s.runOn .a f) := ⟨rfl, rfl, rfl⟩

theorem State.sparesDieB_next {s t : State} (h : s.KeepsDieB t) : s.SparesDieB (.next t) := by
  rintro u ⟨⟩; exact h

theorem State.sparesDieB_fault (s : State) (r : Fault) : s.SparesDieB (.fault r) := by
  intro t h; cases h

theorem State.sparesDieB_ite {s : State} {c : Prop} [Decidable c] {o p : Host.Outcome State Fault Refusal}
    (h : c → s.SparesDieB o) (k : ¬ c → s.SparesDieB p) : s.SparesDieB (if c then o else p) := by
  split
  · next hc => exact h hc
  · next hc => exact k hc

/-- A change that begins from a state with the same Die B. -/
theorem State.SparesDieB.of_keeps {s t : State} {o : Host.Outcome State Fault Refusal} (h : s.KeepsDieB t)
    (k : t.SparesDieB o) : s.SparesDieB o := fun u hu => h.trans (k u hu)

/-- The only die that a package with one die has. -/
theorem State.eq_a_of_has {s : State} {d : DieId} (hs : s.dual = false) (h : s.has d = true) : d = .a := by
  cases d with
  | a => rfl
  | b => exact absurd (hs.symm.trans h) (by decide)

section OneDie
variable {s : State} (hs : s.dual = false)
include hs

/-- What is done with a die that the package has is done with Die A. -/
theorem sparesDieB_ite_has {d : DieId} {o : Host.Outcome State Fault Refusal} (h : d = .a → s.SparesDieB o) :
    s.SparesDieB (if s.has d then o else .fault .noSuchDie) := by
  split
  · next hd => exact h (State.eq_a_of_has hs hd)
  · exact s.sparesDieB_fault _

theorem onDie_sparesDieB (d : DieId) (f : Env → Die → Die) : s.SparesDieB (onDie d s f) := by
  refine sparesDieB_ite_has hs ?_
  rintro rfl
  exact State.sparesDieB_next (s.runOn_keepsDieB f)

theorem onDieAlways_sparesDieB (d : DieId) (f : Env → Die → Die) : s.SparesDieB (onDieAlways d s f) := by
  refine sparesDieB_ite_has hs ?_
  rintro rfl
  exact State.sparesDieB_next (s.runAlways_keepsDieB f)

theorem onBoth_sparesDieB (d : DieId) (f g : Env → Die → Die) : s.SparesDieB (onBoth d s f g) := by
  refine sparesDieB_ite_has hs ?_
  rintro rfl
  simp only [DieId.other, State.has, hs, Bool.false_eq_true, if_false]
  exact State.sparesDieB_next (s.runOn_keepsDieB f)

theorem onPackage_sparesDieB (f : Env → Die → Die) : s.SparesDieB (onPackage s f) := by
  simp only [onPackage, hs, Bool.false_eq_true, if_false]
  exact State.sparesDieB_next (s.runOn_keepsDieB f)

theorem onPackageAlways_sparesDieB (f : Env → Die → Die) : s.SparesDieB (onPackageAlways s f) := by
  simp only [onPackageAlways, hs, Bool.false_eq_true, if_false]
  exact State.sparesDieB_next (s.runAlways_keepsDieB f)

theorem onTime_sparesDieB (d : DieId) (f : Env → Die → Die) : s.SparesDieB (onTime d s f) := by
  refine sparesDieB_ite_has hs ?_
  rintro rfl
  simp only [DieId.other, State.has, hs, Bool.false_eq_true, if_false]
  exact State.sparesDieB_next (s.runAlways_keepsDieB _)

theorem State.afterBus_keepsDieB (r : Die × List (Nat × Nat)) : s.KeepsDieB (s.afterBus .a r) := by
  simp only [State.afterBus, DieId.other, State.has, hs, Bool.false_and, Bool.false_eq_true, if_false]
  exact (s.mark_keepsDieB .a).trans (State.alsoOn_keepsDieB _ _)

theorem onBus_sparesDieB (d : DieId) (f : Env → Die → Die × List (Nat × Nat)) : s.SparesDieB (onBus d s f) := by
  refine sparesDieB_ite_has hs ?_
  rintro rfl
  exact State.sparesDieB_next (State.afterBus_keepsDieB hs _)

theorem onHop_sparesDieB (d : DieId) (f : Env → Die → Die) : s.SparesDieB (onHop d s f) := onDieAlways_sparesDieB hs _ _

theorem resetBlock_sparesDieB (d : DieId) (page : Nat) (forced : Bool) (may : Die → Bool) (before after : Env → Die → Die) :
    s.SparesDieB (resetBlock d page s forced may before after) := onBoth_sparesDieB hs _ _ _

theorem protoTake_sparesDieB (d : DieId) (ok : Nat → Bool) (w : Nat) : s.SparesDieB (protoTake d ok w s) :=
  onBus_sparesDieB hs _ _

/-- The die that a Trellis access reaches is Die A. -/
theorem State.accessDie_eq_a {d t : DieId} {die st : Nat} (hd : d = .a) (h : s.accessDie d die = (st, some t)) : t = .a := by
  subst hd
  cases t with
  | a => rfl
  | b =>
    have hb : s.has .b = false := hs
    unfold State.accessDie at h
    by_cases h0 : die = 0
    · cases hw : (s.die .a).on F.TRL_CTRL_RWEN <;> simp [h0, hw] at h
    by_cases h1 : die = 1
    · cases hw : (s.die .a).on F.TRL_CTRL_RWEN <;> simp [h1, hb, hw] at h
    · cases hw : (s.die .a).on F.TRL_CTRL_RWEN <;> simp [h0, h1, hw] at h

/-! The commands that are more than one change of the die they name. -/

theorem execTrellisRead_sparesDieB (d : DieId) (p : Packet) (die page off count : Nat) :
    s.SparesDieB (execTrellisRead d p die page off count s) := by
  unfold execTrellisRead
  split
  · exact s.sparesDieB_fault _
  next hd =>
  obtain rfl := State.eq_a_of_has hs (by simpa using hd)
  split
  · exact onDie_sparesDieB hs _ _
  split
  next st t hacc =>
    obtain rfl := State.accessDie_eq_a hs rfl hacc
    simp only [if_true]
    exact State.sparesDieB_next
      (((s.mark_keepsDieB .a).trans (State.alsoOn_keepsDieB _ _)).trans (State.alsoOn_keepsDieB _ _))
  · exact onDie_sparesDieB hs _ _

theorem execTrellisWrite_sparesDieB (d : DieId) (p : Packet) (die page off : Nat) (words : List Nat) :
    s.SparesDieB (execTrellisWrite d p die page off words s) := by
  unfold execTrellisWrite
  dsimp only
  split
  · exact s.sparesDieB_fault _
  next hd =>
  obtain rfl := State.eq_a_of_has hs (by simpa using hd)
  split
  · exact onDie_sparesDieB hs _ _
  split
  next st t hacc =>
    obtain rfl := State.accessDie_eq_a hs rfl hacc
    exact State.sparesDieB_next ((State.afterBus_keepsDieB hs _).trans (State.alsoOn_keepsDieB _ _))
  · exact onDie_sparesDieB hs _ _

theorem execTrellisReset_sparesDieB (d : DieId) (p : Packet) (reach : Nat) :
    s.SparesDieB (execTrellisReset d p reach s) := by
  unfold execTrellisReset
  dsimp only
  split
  · exact s.sparesDieB_fault _
  split
  · exact onPackageAlways_sparesDieB hs _
  · exact onDieAlways_sparesDieB hs _ _

theorem execResetRelease_sparesDieB (d : DieId) : s.SparesDieB (execResetRelease d s) := by
  refine State.sparesDieB_ite (fun _ => s.sparesDieB_fault _) (fun hd => ?_)
  obtain rfl := State.eq_a_of_has hs (by simpa using hd)
  exact State.sparesDieB_ite (fun _ => State.sparesDieB_next (.refl s)) (fun _ => State.sparesDieB_next ⟨rfl, rfl, rfl⟩)

theorem execRstPackage_sparesDieB (d : DieId) (key : Nat) : s.SparesDieB (execRstPackage d key s) := by
  unfold execRstPackage
  split
  · exact onPackageAlways_sparesDieB hs _
  · exact onDie_sparesDieB hs _ _

theorem resetPin_sparesDieB : s.SparesDieB s.resetPin := onPackageAlways_sparesDieB hs _

theorem execResetNFall_sparesDieB : s.SparesDieB (execResetNFall s) := by
  have hk : s.KeepsDieB { s with resetN := true, resetNAt := s.now } := ⟨rfl, rfl, rfl⟩
  unfold execResetNFall
  dsimp only
  split
  · exact State.sparesDieB_next hk
  · exact .of_keeps hk (resetPin_sparesDieB (hk.2.2.trans hs))

theorem execResetNUnmask_sparesDieB : s.SparesDieB (execResetNUnmask s) := by
  have hk : s.KeepsDieB { s with unmasking := false } := ⟨rfl, rfl, rfl⟩
  unfold execResetNUnmask
  dsimp only
  split
  · exact State.sparesDieB_next (.refl s)
  split
  · exact .of_keeps hk (resetPin_sparesDieB (hk.2.2.trans hs))
  · exact State.sparesDieB_next hk

theorem execResetNRise_sparesDieB : s.SparesDieB (execResetNRise s) := by
  have hk : s.KeepsDieB { s with resetN := false } := ⟨rfl, rfl, rfl⟩
  exact .of_keeps hk (onPackageAlways_sparesDieB (hk.2.2.trans hs) _)

theorem execD2dStopSignal_sparesDieB (d : DieId) (trip : Bool) : s.SparesDieB (execD2dStopSignal d trip s) := by
  cases trip with
  | true => exact onDieAlways_sparesDieB hs _ _
  | false => exact onDie_sparesDieB hs _ _

theorem execThermalLatch_sparesDieB : s.SparesDieB (execThermalLatch s) := by
  unfold execThermalLatch
  split
  · exact onPackageAlways_sparesDieB hs _
  · exact State.sparesDieB_next (.refl s)

theorem execTakeover_sparesDieB : s.SparesDieB (execTakeover s) := by
  unfold execTakeover
  rw [if_pos (by simp [hs])]
  exact State.sparesDieB_next (.refl s)

/-- R1, R19. Of the commands, those named below reach a die in reset, a second die or the whole package, or access
registers; every other one is one change of the die that it names. -/
theorem exec_sparesDieB (c : Instr) : s.SparesDieB (exec c s) := by
  unfold exec
  cases c with
  | registerWrite | slaveWord => exact onBus_sparesDieB hs _ _
  | protoRead | protoWrite | protoNop => exact protoTake_sparesDieB hs _ _ _
  | sieveRowEntry | staggerGrant | staggerRelease | externalTick | trellisSync | timeSet | prlTrainingDone | prlMessageFail
  | partnerMiss | partnerFailTmo | autoback => exact onBoth_sparesDieB hs _ _ _
  | blockReset | brstTimeout => exact resetBlock_sparesDieB hs _ _ _ _ _ _
  | portDown | portUp | enum | timeReq | timeRsp | hopDelayMeasure | timeSend | eopTimeout | bootReq | bootData =>
    exact onHop_sparesDieB hs _ _
  | tallyWriteDone | pageWriteDone | hallChange | pePerst | clockFault | clockRecovered | pfailRestart | dormantWake
  | fuseLoadDone | bankSupplyLoss => exact onDieAlways_sparesDieB hs _ _
  | trellisRead => exact execTrellisRead_sparesDieB hs _ _ _ _ _ _
  | trellisWrite => exact execTrellisWrite_sparesDieB hs _ _ _ _ _ _
  | trellisReset => exact execTrellisReset_sparesDieB hs _ _ _
  | trellisTime | unlocked => exact onTime_sparesDieB hs _ _
  | resetRelease => exact execResetRelease_sparesDieB hs _
  | rstPackage => exact execRstPackage_sparesDieB hs _ _
  | resetNFall => exact execResetNFall_sparesDieB hs
  | resetNUnmask => exact execResetNUnmask_sparesDieB hs
  | resetNRise => exact execResetNRise_sparesDieB hs
  | d2dStopSignal => exact execD2dStopSignal_sparesDieB hs _ _
  | thermalLatch => exact execThermalLatch_sparesDieB hs
  | takeover => exact execTakeover_sparesDieB hs
  | d2dDown | d2dRetrain => exact onPackage_sparesDieB hs _
  | pfailAssert | supplyFall | supplyRecover | porstNFall | porstNRise | supplyWarn =>
    exact onPackageAlways_sparesDieB hs _
  | _ => exact onDie_sparesDieB hs _ _

theorem State.takePins_keepsDieB : s.KeepsDieB s.takePins := by
  unfold State.takePins
  split
  · exact .refl s
  · simp only [hs, Bool.false_eq_true, if_false]
    exact State.alsoOn_keepsDieB _ _

/-- On an empty queue the MP of Die A alone works. -/
theorem State.idle_keepsDieB : s.KeepsDieB s.idle := by
  have hn : s.KeepsDieB { s with now := s.now + 1 } := ⟨rfl, rfl, rfl⟩
  have hc := hn.trans (State.alsoOn_keepsDieB _ Die.cycle)
  have hp := hc.trans (State.takePins_keepsDieB (hc.2.2.trans hs))
  unfold State.idle
  dsimp only
  rw [if_neg (by simp [hs])]
  exact (hp.trans (State.mark_keepsDieB _ .a)).trans (State.mark_keepsDieB _ .b)

theorem step_sparesDieB : s.SparesDieB (step s) := by
  unfold step
  split
  · exact State.sparesDieB_next (State.idle_keepsDieB hs)
  · next c r _ =>
    have hk : s.KeepsDieB { s with pending := r } := ⟨rfl, rfl, rfl⟩
    exact .of_keeps hk (exec_sparesDieB (hk.2.2.trans hs) c)

/-- A command on Die B. -/
theorem onDie_b_fault (f : Env → Die → Die) : onDie .b s f = .fault .noSuchDie := by simp [onDie, State.has, hs]

theorem onBus_b_fault (f : Env → Die → Die × List (Nat × Nat)) : onBus .b s f = .fault .noSuchDie := by
  simp [onBus, State.has, hs]

end OneDie

/-- Settles O7: no step of a package with one die reaches Die B, because every way in which a command is carried out
reaches a die that the package has. -/
theorem singleDie : Obligations.SingleDie := by
  unfold Obligations.SingleDie
  refine ⟨fun s t hs h => ?_, fun s u q addr val size hs => ?_⟩
  · obtain ⟨hdie, hmem, hdual⟩ := step_sparesDieB hs t h
    exact ⟨hdie, hmem, hdual.trans hs⟩
  · exact ⟨show execRegisterWrite .b u addr val size s = _ from onBus_b_fault hs _, onDie_b_fault hs _,
      onDie_b_fault hs _, onDie_b_fault hs _⟩

end Sys2Proof.Machine

/-! Aligned 32-bit writes to a register of a listed page: what is rejected (R7, R8) and what takes (R4, R37, R38). -/

namespace Sys2Proof.Machine

/-! ### ACC_ERR -/

theorem accErrOf_lt (p : Nat) : accErrOf p < 640 := by
  by_cases h : p < 0xA0
  · exact (by decide +kernel : ∀ p < 0xA0, accErrOf p < 640) p h
  · unfold accErrOf pageEvents
    repeat rw [if_neg (by omega)]
    decide

/-- What a die that has only reported a rejected access is: the event pends, and nothing else changed. -/
theorem Die.accErr_settled_only (s : State) (d : DieId) (p : Nat) :
    ((s.fresh d).accErr p).settled.pends (accErrOf p) = true ∧
      (s.die d).only [] [accErrOf p] ((s.fresh d).accErr p).settled :=
  ⟨Die.accErr_pending _ (accErrOf_lt p), Die.only_settled (Die.only_accErr (Die.only_fresh s d _ _) (by simp))⟩

/-! ### The way from a bus write to the fields of a register -/

theorem listedPage_lt {p : Nat} (h : listedPage p = true) : p < 0xA0 := by
  simp only [listedPage, Bool.or_eq_true, Bool.and_eq_true, decide_eq_true_eq] at h
  omega

theorem Die.writeWord_page (x : Die) (env : Env) {p off : Nat} (val : Nat) (hp : listedPage p = true) (ho : off < 0x1000) :
    x.writeWord env (p * 0x1000 + off) val = x.writePage env p off val := by
  have hlt := listedPage_lt hp
  have hdiv : (p * 0x1000 + off) / 0x1000 = p := by omega
  have hmod : (p * 0x1000 + off) % 0x1000 = off := by omega
  have hbar : p * 0x1000 + off < 0x100000 := by omega
  simp [Die.writeWord, inBar0, hdiv, hmod, hbar, hp]

/-- A register of a listed page that is none of those whose write acts by its own rule (the events, BRST and COMMIT of Table
1.2, the MSI-X table) or on the other die. -/
structure OrdinaryReg (p off : Nat) : Prop where
  listed : listedPage p = true
  inPage : off < 0x1000
  aligned : off % 4 = 0
  ownRule : off ∉ [0x14, 0x18, 0x1C, 0x20, 0x2C]
  msix : ¬ (p = 0x14 ∧ 0x800 ≤ off ∧ off < 0x880)
  peer : peerActs (p * 0x1000 + off) = false

theorem Die.writePage_fields (x : Die) (env : Env) {p off : Nat} (val : Nat) {fl : List Fld} (ho : OrdinaryReg p off)
    (hf : fieldsAt p off = some fl) : x.writePage env p off val = x.writeFields env p off val fl := by
  have hoff := ho.ownRule
  simp only [List.mem_cons, List.not_mem_nil, or_false, not_or] at hoff
  obtain ⟨h1, h2, h3, h4, h5⟩ := hoff
  unfold Die.writePage
  rw [if_neg (by simpa [and_assoc] using ho.msix)]
  split
  · exact absurd rfl h1
  · exact absurd rfl h2
  · exact absurd rfl h3
  · exact absurd rfl h4
  · exact absurd rfl h5
  · rw [hf]

/-- A write to an ordinary register of a running die: what it does with the fields is the command's whole effect. -/
theorem registerWrite_effect {s : State} {d : DieId} {u : Writer} {p off val : Nat} {fl : List Fld} {y : Die} {P : Die → Prop}
    (hr : s.running d) (ho : OrdinaryReg p off) (hf : fieldsAt p off = some fl)
    (hy : (s.fresh d).writeFields { s.env d with tied := s.hits d u.tie } p off (val % 2 ^ 32) fl = y)
    (hw : y.wr = []) (hd : y.dramCut = false) (hP : P y.settled) :
    Effect (.registerWrite d u (p * 0x1000 + off) val 4) d s P := by
  have halign : (p * 0x1000 + off) % 4 = 0 := by have := ho.aligned; omega
  have hbus : (s.fresh d).busWrite { s.env d with tied := s.hits d u.tie } (p * 0x1000 + off) val 4 = y := by
    rw [← hy, ← Die.writePage_fields _ _ _ ho hf, ← Die.writeWord_page _ _ _ ho.listed ho.inPage]
    simp [Die.busWrite, hr.2, halign]
  have hc : exec (.registerWrite d u (p * 0x1000 + off) val 4) s = execRegisterWrite d u (p * 0x1000 + off) val 4 s := rfl
  refine effectBus_of hc hr ?_ ?_ ?_ ?_
  · simp [halign, ho.peer]
  · rw [hbus]; exact hw
  · rw [hbus]; exact hd
  · rw [hbus]; exact hP

/-! ### Rejected writes -/

theorem Die.writeFields_rejected (x : Die) (env : Env) (p off val : Nat) {fl : List Fld}
    (h : (∀ f ∈ fl, f.writable = false) ∨ ∃ f ∈ fl, f.writable = true ∧ f.inRange (f.ofWord val) = false) :
    x.writeFields env p off val fl = x.accErr p := by
  unfold Die.writeFields
  rw [if_pos]
  simpa using h

/-- Settles O9: a rejected write reaches the fields' check and no further. -/
theorem registerWriteRejected : Obligations.RegisterWriteRejected := by
  unfold Obligations.RegisterWriteRejected
  rintro s d u p off val fl x hr rfl hp ho ha hoff hm hn hf hbad
  have hreg : OrdinaryReg p off := ⟨hp, ho, ha, hoff, hm, by simpa using hn⟩
  exact registerWrite_effect hr hreg hf (Die.writeFields_rejected _ _ _ _ _ hbad) (by simp) (by simp)
    (Die.accErr_settled_only s d p)

/-! ### Writes that take -/

/-- The fields of a register set from a word. -/
def Die.setFields (x : Die) (val : Nat) (fl : List Fld) : Die := fl.foldl (fun y f => y.set f (f.ofWord val)) x

/-- The fields of a register staged from a word. -/
def Die.stageFields (x : Die) (val : Nat) (fl : List Fld) : Die := fl.foldl (fun y f => y.stageVal f (f.ofWord val)) x

/-- The fields of a register all have access code `a` and lie on its page; each has its own place, and none is a field that
another one's Reset follows or that shows the MP's queue. -/
def uniform (a : Acc) (p : Nat) (fl : List Fld) : Bool :=
  fl.all (fun f => f.acc = a && f.page = p && !f.steers && !f.showsQueue) && decide (fl.map Fld.key).Nodup

theorem uniform_iff {a : Acc} {p : Nat} {fl : List Fld} : uniform a p fl = true ↔
    (∀ f ∈ fl, f.acc = a ∧ f.page = p ∧ f.steers = false ∧ f.showsQueue = false) ∧ (fl.map Fld.key).Nodup := by
  simp [uniform, and_assoc]

/-- What no step of a fold changes, the fold keeps. -/
theorem foldl_keeps {α β : Type} {g : Die → β → Die} (k : Die → α) {l : List β} (h : ∀ z, ∀ b ∈ l, k (g z b) = k z) (x : Die) :
    k (l.foldl g x) = k x := by
  induction l generalizing x with
  | nil => rfl
  | cons b r ih =>
    rw [List.foldl_cons, ih (fun z c hc => h z c (List.mem_cons_of_mem _ hc)), h x b List.mem_cons_self]

@[simp] theorem Die.setFields_wr (x : Die) (val : Nat) (fl : List Fld) : (x.setFields val fl).wr = x.wr :=
  foldl_keeps Die.wr (fun z f _ => Die.set_wr z f _) x

@[simp] theorem Die.setFields_dramCut (x : Die) (val : Nat) (fl : List Fld) : (x.setFields val fl).dramCut = x.dramCut :=
  foldl_keeps Die.dramCut (fun z f _ => Die.set_dramCut z f _) x

@[simp] theorem Die.stageFields_wr (x : Die) (val : Nat) (fl : List Fld) : (x.stageFields val fl).wr = x.wr :=
  foldl_keeps Die.wr (fun z f _ => Die.stageVal_wr z f _) x

@[simp] theorem Die.stageFields_dramCut (x : Die) (val : Nat) (fl : List Fld) :
    (x.stageFields val fl).dramCut = x.dramCut :=
  foldl_keeps Die.dramCut (fun z f _ => Die.stageVal_dramCut z f _) x

@[simp] theorem Die.stageFields_live (x : Die) (val : Nat) (fl : List Fld) : (x.stageFields val fl).live = x.live :=
  foldl_keeps Die.live (fun z f _ => Die.stageVal_live z f _) x

theorem Die.setFields_only (x : Die) (val : Nat) (fl : List Fld) : x.only fl [] (x.setFields val fl) :=
  Die.only_fold (Die.only_refl x fl []) _ fl (fun _ _ hf h => Die.only_set h hf _)

theorem Fld.ofWord_mod (f : Fld) (v : Nat) : f.ofWord v % 2 ^ f.width = f.ofWord v := Nat.mod_mod _ _

/-- Each field holds its part of the word: the writes after its own are to other places. -/
theorem Die.setFields_get {val : Nat} {fl : List Fld} (hs : ∀ f ∈ fl, f.steers = false) (hn : (fl.map Fld.key).Nodup)
    (x : Die) : ∀ f ∈ fl, (x.setFields val fl).get f = f.ofWord val := by
  induction fl generalizing x with
  | nil => nofun
  | cons g r ih =>
    obtain ⟨hg, hr⟩ := List.nodup_cons.1 hn
    obtain ⟨hsg, hsr⟩ := List.forall_mem_cons.1 hs
    refine List.forall_mem_cons.2 ⟨?_, ih hsr hr _⟩
    have hlater : ∀ z : Die, ∀ f ∈ r, (z.set f (f.ofWord val)).get g = z.get g := fun z f hf =>
      Die.get_set_ne z _ (fun e => hg (e ▸ List.mem_map_of_mem hf)) (hsr f hf)
    calc (r.foldl (fun y f => y.set f (f.ofWord val)) (x.set g (g.ofWord val))).get g
        = (x.set g (g.ofWord val)).get g := foldl_keeps (fun z => z.get g) hlater _
      _ = g.ofWord val := by rw [Die.get_set_self, Fld.ofWord_mod]

theorem Die.stageFields_look {val : Nat} {fl : List Fld} (hn : (fl.map Fld.key).Nodup) (x : Die) :
    ∀ f ∈ fl, (x.stageFields val fl).stage.look f = some (f.ofWord val) := by
  induction fl generalizing x with
  | nil => nofun
  | cons g r ih =>
    obtain ⟨hg, hr⟩ := List.nodup_cons.1 hn
    refine List.forall_mem_cons.2 ⟨?_, ih hr _⟩
    have hlater : ∀ z : Die, ∀ f ∈ r, (z.stageVal f (f.ofWord val)).stage.look g = z.stage.look g := fun z f hf =>
      RegFile.look_put_ne _ _ (fun e => hg (e ▸ List.mem_map_of_mem hf))
    calc (r.foldl (fun y f => y.stageVal f (f.ofWord val)) (x.stageVal g (g.ofWord val))).stage.look g
        = (x.stageVal g (g.ofWord val)).stage.look g := foldl_keeps (fun z => z.stage.look g) hlater _
      _ = some (g.ofWord val) := by rw [Die.stageVal, RegFile.look_put_self, Fld.ofWord_mod]

/-- Staging leaves everything but the staged values as it was. -/
theorem Die.stageFields_eq (x : Die) (val : Nat) (fl : List Fld) :
    x.stageFields val fl = { x with stage := (x.stageFields val fl).stage } := by
  induction fl generalizing x with
  | nil => rfl
  | cons f r ih => exact ih (x.stageVal f (f.ofWord val))

theorem exists_writable_of_uniform {a : Acc} {p : Nat} {fl : List Fld} (ha : a ≠ .ro) (h : fl ≠ [] ∧ uniform a p fl = true) :
    ∃ f ∈ fl, f.writable = true := by
  obtain ⟨f, hf⟩ := List.exists_mem_of_ne_nil _ h.1
  exact ⟨f, hf, by simp [Fld.writable, ((uniform_iff.1 h.2).1 f hf).1, ha]⟩

theorem any_rws_of_uniform {a : Acc} {p : Nat} {fl : List Fld} (h : fl ≠ [] ∧ uniform a p fl = true) :
    fl.any (fun f => f.acc = .rws) = decide (a = .rws) := by
  obtain ⟨f, hf⟩ := List.exists_mem_of_ne_nil _ h.1
  have hall := (uniform_iff.1 h.2).1
  rw [Bool.eq_iff_iff, List.any_eq_true]
  constructor
  · rintro ⟨g, hg, hga⟩
    simpa [(hall g hg).1] using hga
  · exact fun ha => ⟨f, hf, by simpa [(hall f hf).1] using ha⟩

theorem Die.foldl_putField_rw {fl : List Fld} (h : ∀ f ∈ fl, f.acc = .rw) (x : Die) (tied : Option Hits) (val : Nat) :
    fl.foldl (fun y f => y.putField tied val f) x = x.setFields val fl := by
  induction fl generalizing x with
  | nil => rfl
  | cons f r ih =>
    obtain ⟨hf, hr⟩ := List.forall_mem_cons.1 h
    rw [List.foldl_cons, ih hr]
    simp only [Die.putField, hf]
    rfl

theorem Die.foldl_putField_rws {p : Nat} {fl : List Fld} (h : ∀ f ∈ fl, f.acc = .rws ∧ f.page = p) (x : Die)
    (hp : x.commitPending p = false) (tied : Option Hits) (val : Nat) :
    fl.foldl (fun y f => y.putField tied val f) x = x.stageFields val fl := by
  induction fl generalizing x with
  | nil => rfl
  | cons f r ih =>
    obtain ⟨⟨hf, rfl⟩, hr⟩ := List.forall_mem_cons.1 h
    have hput : x.putField tied val f = x.stageVal f (f.ofWord val) := by simp [Die.putField, hf, hp]
    rw [List.foldl_cons, hput, ih hr (x.stageVal f (f.ofWord val)) hp]
    rfl

theorem Die.foldl_putField_held {p : Nat} {fl : List Fld} (h : ∀ f ∈ fl, f.acc = .rws ∧ f.page = p) (x : Die)
    (hp : x.commitPending p = true) (tied : Option Hits) (val : Nat) :
    fl.foldl (fun y f => y.putField tied val f) x = x := by
  induction fl with
  | nil => rfl
  | cons f r ih =>
    obtain ⟨⟨hf, rfl⟩, hr⟩ := List.forall_mem_cons.1 h
    have hput : x.putField tied val f = x := by simp [Die.putField, hf, hp]
    rw [List.foldl_cons, hput, ih hr]

/-! ### The registers of the statement -/

theorem ordinaryReg_of_mem : ∀ e ∈ plainRegs ++ stagedRegs, OrdinaryReg e.1 e.2 := by
  have h : ∀ e ∈ plainRegs ++ stagedRegs, listedPage e.1 = true ∧ e.2 < 0x1000 ∧ e.2 % 4 = 0 ∧
      e.2 ∉ [0x14, 0x18, 0x1C, 0x20, 0x2C] ∧ ¬ (e.1 = 0x14 ∧ 0x800 ≤ e.2 ∧ e.2 < 0x880) ∧
      peerActs (e.1 * 0x1000 + e.2) = false := by decide +kernel
  intro e he
  obtain ⟨h1, h2, h3, h4, h5, h6⟩ := h e he
  exact ⟨h1, h2, h3, h4, h5, h6⟩

theorem plainRegs_uniform : ∀ e ∈ plainRegs, ∀ fl ∈ fieldsAt e.1 e.2, fl ≠ [] ∧ uniform .rw e.1 fl = true := by
  decide +kernel

theorem stagedRegs_uniform : ∀ e ∈ stagedRegs, ∀ fl ∈ fieldsAt e.1 e.2, fl ≠ [] ∧ uniform .rws e.1 fl = true := by
  decide +kernel

/-- None of these registers does more with a write than take its fields. -/
theorem Die.writeEffect_of_mem (x g : Die) (env : Env) (val : Nat) :
    ∀ e ∈ plainRegs ++ stagedRegs, x.writeEffect g env e.1 e.2 val = g := by
  intro e he
  fin_cases he <;> rfl

/-- A write in range: the check passes, and what the fields take is the whole write. -/
theorem Die.writeFields_inRange {e : Nat × Nat} (he : e ∈ plainRegs ++ stagedRegs) (x : Die) (env : Env) {val : Nat}
    {fl : List Fld} (hw : ∃ f ∈ fl, f.writable = true) (hin : ∀ f ∈ fl, f.inRange (f.ofWord val) = true) :
    x.writeFields env e.1 e.2 val fl =
      if x.commitPending e.1 && fl.any (fun f => f.acc = .rws) then
        (fl.foldl (fun y f => y.putField env.tied val f) x).accErr e.1
      else fl.foldl (fun y f => y.putField env.tied val f) x := by
  have hpass : (fl.all (fun f => !f.writable) || fl.any (fun f => f.writable && !f.inRange (f.ofWord val))) = false := by
    obtain ⟨g, hg, hgw⟩ := hw
    simp only [Bool.or_eq_false_iff, List.all_eq_false, List.any_eq_false]
    exact ⟨⟨g, hg, by simp [hgw]⟩, fun f hf => by simp [hin f hf]⟩
  unfold Die.writeFields
  rw [if_neg (by simp [hpass])]
  exact Die.writeEffect_of_mem _ _ _ _ e he

section
variable {s : State} {d : DieId} {u : Writer} {p off val : Nat} {fl : List Fld} (hr : s.running d)
  (hf : fieldsAt p off = some fl) (hin : ∀ f ∈ fl, f.inRange (f.ofWord (val % 2 ^ 32)) = true)
include hr hf hin

/-- R4: a register of RW fields takes the word's encodings at once. -/
theorem plainWrite_effect (hmem : (p, off) ∈ plainRegs) :
    Effect (.registerWrite d u (p * 0x1000 + off) val 4) d s (fun y =>
      (∀ f ∈ fl, y.get f = f.ofWord (val % 2 ^ 32)) ∧ (s.die d).only fl [] y) := by
  have he := List.mem_append_left stagedRegs hmem
  have hne := plainRegs_uniform _ hmem fl hf
  obtain ⟨hu, hn⟩ := uniform_iff.1 hne.2
  have hy := Die.writeFields_inRange he (s.fresh d) { s.env d with tied := s.hits d u.tie }
    (exists_writable_of_uniform (by decide) hne) hin
  rw [any_rws_of_uniform hne, decide_eq_false (by decide), Bool.and_false, if_neg Bool.false_ne_true,
    Die.foldl_putField_rw (fun f h => (hu f h).1)] at hy
  refine registerWrite_effect hr (ordinaryReg_of_mem _ he) hf hy (by simp) (by simp) ⟨?_, ?_⟩
  · exact Die.setFields_get (fun f h => (hu f h).2.2.1) hn _
  · exact Die.only_settled (Die.only_trans (Die.only_fresh s d _ _) (Die.setFields_only _ _ _))

/-- R4, R37: a register of RWS fields holds them, and the values in force stay. -/
theorem stagedWrite_effect (hmem : (p, off) ∈ stagedRegs) (hp : (s.die d).commitPending p = false) :
    Effect (.registerWrite d u (p * 0x1000 + off) val 4) d s (fun y =>
      (∀ f ∈ fl, y.written f = f.ofWord (val % 2 ^ 32) ∧ y.get f = (s.die d).get f) ∧
        ({ s.die d with stage := y.stage }).only [] [] y) := by
  have he := List.mem_append_right plainRegs hmem
  have hne := stagedRegs_uniform _ hmem fl hf
  obtain ⟨hu, hn⟩ := uniform_iff.1 hne.2
  have hy := Die.writeFields_inRange he (s.fresh d) { s.env d with tied := s.hits d u.tie }
    (exists_writable_of_uniform (by decide) hne) hin
  have hpf : (s.fresh d).commitPending p = false := hp
  rw [hpf, Bool.false_and, if_neg Bool.false_ne_true,
    Die.foldl_putField_rws (fun f h => ⟨(hu f h).1, (hu f h).2.1⟩) _ hpf] at hy
  refine registerWrite_effect hr (ordinaryReg_of_mem _ he) hf hy (by simp) (by simp) ⟨fun f h => ⟨?_, ?_⟩, ?_⟩
  · simp [Die.written, Die.stageFields_look hn _ f h]
  · exact Die.get_of_live (by simp) f
  · rw [Die.stageFields_eq]
    exact ⟨rfl, fun _ _ _ => rfl, fun _ _ _ => rfl, fun _ _ => rfl⟩

/-- R38: while a commit of its page is pending, the register keeps what it held. -/
theorem heldWrite_effect (hmem : (p, off) ∈ stagedRegs) (hp : (s.die d).commitPending p = true) :
    Effect (.registerWrite d u (p * 0x1000 + off) val 4) d s (fun y =>
      (∀ f ∈ fl, y.written f = (s.die d).written f) ∧ y.pends (accErrOf p) = true ∧ (s.die d).only [] [accErrOf p] y) := by
  have he := List.mem_append_right plainRegs hmem
  have hne := stagedRegs_uniform _ hmem fl hf
  obtain ⟨hu, hn⟩ := uniform_iff.1 hne.2
  have hy := Die.writeFields_inRange he (s.fresh d) { s.env d with tied := s.hits d u.tie }
    (exists_writable_of_uniform (by decide) hne) hin
  have hpf : (s.fresh d).commitPending p = true := hp
  rw [any_rws_of_uniform hne, decide_eq_true rfl, Bool.and_true, if_pos hpf,
    Die.foldl_putField_held (fun f h => ⟨(hu f h).1, (hu f h).2.1⟩) _ hpf] at hy
  refine registerWrite_effect hr (ordinaryReg_of_mem _ he) hf hy (by simp) (by simp)
    ⟨fun f h => ?_, Die.accErr_settled_only s d p⟩
  rw [Die.settled_written, Die.written, Die.accErr_stage, Die.accErr_get _ _ (hu f h).2.2.2]
  rfl

end

/-- Settles O12: the twenty-four registers are ordinary ones of uniform fields, whose write does nothing but take them. -/
theorem registerWriteTakes : Obligations.RegisterWriteTakes := by
  unfold Obligations.RegisterWriteTakes
  rintro s d u p off val fl x hr rfl hf hin
  exact ⟨plainWrite_effect hr hf hin, stagedWrite_effect hr hf hin, heldWrite_effect hr hf hin⟩

end Sys2Proof.Machine

/-! Statements that fail in this model: for each the state and the command that refute it, and what the model evaluates to. -/

namespace Sys2Proof.Machine

/-- What a property of Die A is after a command that answers a next state. -/
def afterOnDieA {α : Type} (k : Die → α) (o : Host.Outcome State Fault Refusal) : Option α :=
  match o with
  | .next t => some (k t.dieA)
  | _ => none

@[simp] theorem afterOnDieA_next {α : Type} (k : Die → α) (t : State) : afterOnDieA k (.next t) = some (k t.dieA) := rfl

theorem Die.only_held {x y : Die} {L : List Fld} {E : List Nat} (h : x.only L E y) : y.held = x.held :=
  show y.hidden.held = x.hidden.held from congrArg Die.held h.1

/-! ### A tied read that is refused (O8) -/

/-- A read by PCIe in the PERI cycle of the command before it (R10). -/
def tiedRead : Reader := { req := .pcie, tie := true, size := 4 }

/-- The record of Die A holds a word under the offset 1, which no register has. -/
def strayWord : State := { wasA := { held := [{ req := .pcie, lo := 1, word := 0 }] } }

theorem strayWord_read :
    afterOnDieA Die.held (exec (.readLo .a tiedRead 1) strayWord) = some [{ req := .pcie, lo := 1, word := 0 }] := by
  decide +kernel

/-- Refutes O8: a tied read answers from the record of the die and takes over what that held of its address, also where
the access is refused. The statement is for every state; in `strayWord`, which no run from reset reaches, a refused read
at a misaligned offset changes the words held. -/
theorem not_accessesRefused : ¬ Obligations.AccessesRefused := by
  unfold Obligations.AccessesRefused
  intro h
  obtain ⟨-, hread, -⟩ := h strayWord .a { req := .pcie, tie := false } tiedRead 1 0 4 _ (by decide) rfl
  obtain ⟨⟨t, ht, -, -, -, honly⟩, -⟩ := hread (.inr (by decide)) (by decide)
  have hheld : t.dieA.held = [] := Die.only_held honly
  have heval := strayWord_read
  rw [ht, afterOnDieA_next, hheld] at heval
  exact absurd heval (by decide)

/-! ### A tied read of a word that the command before it took (O13) -/

/-- The record of Die A holds the high word of SEQ_FRAME_NUM for PCIe, and Die A itself holds none: so it is after a READ_HI. -/
def wordTaken : State := { wasA := { held := [{ req := .pcie, lo := 0x20064, word := 7 }] } }

theorem wordTaken_read :
    afterOnDieA (fun y => y.live.look (F.STAT_TEAR 0x20)) (exec (.readHi .a tiedRead 0x20068) wordTaken) = some (some 1) := by
  decide +kernel

/-- Refutes O13: where the record of the die holds the high word and the die no longer does, a tied READ_HI answers the word
held, as the statement says, but it sets TEAR as well, which the statement excludes. -/
theorem not_readPairs : ¬ Obligations.ReadPairs := by
  unfold Obligations.ReadPairs
  intro h
  obtain ⟨-, hheld, -⟩ := h wordTaken .a tiedRead 0x20 0x064 _ _ _ (by decide) rfl rfl (by decide) (by decide) rfl rfl
  obtain ⟨t, ht, -, -, -, honly⟩ := hheld _ rfl
  have htear : t.dieA.live.look (F.STAT_TEAR 0x20) = none := honly.2.1 _ (by decide) (by simp)
  have heval := wordTaken_read
  rw [ht, afterOnDieA_next, htear] at heval
  exact absurd heval (by decide)

/-! ### A command of the master while a reset of the Trellis block waits (O52) -/

/-- Die A leads and is the master of an enabled chain, and a reset of the Trellis block is asked for and waits (R36). -/
def masterInReset : State :=
  { dieA := (((({} : Die).set F.SYS_IDENT_LEAD 1).set F.TRL_CTRL_EN 1).set F.TRL_ADDR_MASTER 1).set (F.BRST_ACTIVE 0x12) 1 }

theorem masterInReset_command :
    afterOnDieA (fun y => y.on F.TRL_CMD_STAT_BUSY) (exec (.trlCmdGo .a 1 3 4) masterInReset) = some false := by
  decide +kernel

/-- Refutes O52: its first clause has no premise that the block takes new work; while a reset of it waits, TRL_CMD_GO is
refused with ACC_ERR and BUSY stays 0. -/
theorem not_trellisCommands : ¬ Obligations.TrellisCommands := by
  unfold Obligations.TrellisCommands
  intro h
  obtain ⟨hgo, -⟩ := h masterInReset .a { dst := 1, src := 0, tag := 0, up := true, good := true } 1 3 4 0 0 0 [] false _
    (by decide) rfl
  obtain ⟨t, ht, -, hbusy, -⟩ :=
    hgo (by decide) (by decide) (by decide) (by decide) (.inl rfl) (by decide) (by decide)
  have heval := masterInReset_command
  rw [ht, afterOnDieA_next] at heval
  exact absurd (hbusy.symm.trans (Option.some.inj heval)) (by decide)

end Sys2Proof.Machine

/-! The event registers (R34, R35) and the COMMIT register (R38) of a page. -/

namespace Sys2Proof.Machine

/-! ### EVT_PEND and EVT_SET (O10) -/

theorem justFired_hits (s : State) (d : DieId) (tie : Bool) :
    justFired (s.hits d tie) = if tie then (s.die d).hits.fired else 0 := by
  cases tie <;> rfl

/-- What messages leave alone is, after a write to EVT_PEND, as the change of the pending bits has left it. -/
theorem Die.clearPend_keeps {α : Type} (k : Die → α) (hk : ∀ z v, k (Die.vecMessage z v) = k z) (x : Die)
    (tied : Option Hits) (p val : Nat) :
    k (x.clearPend tied p val) =
      k (Die.settleMsix { x with evPend := x.evPend &&& ~~~ (eventSpread p val &&& ~~~ justFired tied) }) :=
  foldl_keeps k (fun z v _ => by split <;> simp [hk]) _

@[simp] theorem Die.notify_hidden (x y : Die) : (x.notify y).hidden = y.hidden :=
  Die.notify_keeps Die.hidden Die.vecMessage_hidden x y

section
variable {s : State} {d : DieId} {p : Nat} (hr : s.running d) (hp : listedPage p = true)
include hr hp

/-- R9, R34: the bits written 1 are cleared, but for those that the command before a tied write has fired. -/
theorem evtPendClear_effect (u : PendMask) :
    Effect (.evtPendClear d p u) d s (fun y =>
      y.evPend = (s.die d).evPend &&& ~~~ (eventSpread p u.bits &&& ~~~ (if u.tie then (s.die d).hits.fired else 0)) ∧
        y.evRaw = (s.die d).evRaw ∧ y.evq = (s.die d).evq ∧ y.live = (s.die d).live ∧ y.hidden = (s.die d).hidden) := by
  have hc : exec (.evtPendClear d p u) s = onDie d s (fun _ x => x.clearPend (s.hits d u.tie) p u.bits) := by
    show execEvtPendClear d p u s = _
    simp only [execEvtPendClear, hp, if_true]
  have keep {α : Type} (k : Die → α) (hk : ∀ z v, k (Die.vecMessage z v) = k z) :=
    Die.clearPend_keeps k hk (s.fresh d) (s.hits d u.tie) p u.bits
  refine effect_of hc hr (keep Die.wr (by simp)) (keep Die.dramCut (by simp)) ⟨?_, ?_, ?_, ?_, ?_⟩
  · rw [← justFired_hits]; exact keep Die.evPend (by simp)
  · exact keep Die.evRaw (by simp)
  · exact keep Die.evq (by simp)
  · exact keep Die.live (by simp)
  · exact keep Die.hidden (by simp)

/-- R35: the bits written 1 become pending, and the messages are all that this sets off. -/
theorem evtSet_effect (val : Nat) :
    Effect (.evtSet d p val) d s (fun y => y.evPend = (s.die d).evPend ||| eventSpread p val ∧
      y.evRaw = (s.die d).evRaw ∧ y.evq = (s.die d).evq ∧ y.live = (s.die d).live ∧ y.hidden = (s.die d).hidden) := by
  have hc : exec (.evtSet d p val) s = onDie d s (fun _ x => x.setEvents p val) := by
    show execEvtSet d p val s = _
    simp only [execEvtSet, hp, if_true]
  refine effect_of hc hr (by simp [Die.setEvents]) (by simp [Die.setEvents]) ?_
  simp only [Die.setEvents, Die.settled_hidden, Die.notify_hidden]
  exact ⟨by simp, by simp, by simp, by simp, rfl⟩

end

/-- Settles O10: messages change no event bit, no register and no queue, so a write to EVT_PEND or EVT_SET is its change of the
pending bits. -/
theorem eventRegisters : Obligations.EventRegisters := by
  unfold Obligations.EventRegisters
  rintro s d p val u x hr rfl hp
  exact ⟨evtPendClear_effect hr hp u, evtSet_effect hr hp val⟩

/-! ### CANCEL, BOUNDARY and ARM (O11) -/

@[simp] theorem COMMIT_BOUNDARY_steers (p : Nat) : (F.COMMIT_BOUNDARY p).steers = false := by
  simp [Fld.steers, Fld.key, F.COMMIT_BOUNDARY, F.SYS_IDENT_DIE, F.SEQ_LIMITS_EXPORT]; omega

@[simp] theorem COMMIT_STAT_PENDING_steers (p : Nat) : (F.COMMIT_STAT_PENDING p).steers = false := by
  simp [Fld.steers, Fld.key, F.COMMIT_STAT_PENDING, F.SYS_IDENT_DIE, F.SEQ_LIMITS_EXPORT]; omega

theorem COMMIT_BOUNDARY_ne_PENDING (p : Nat) : (F.COMMIT_BOUNDARY p).key ≠ (F.COMMIT_STAT_PENDING p).key := by
  simp [Fld.key, F.COMMIT_BOUNDARY, F.COMMIT_STAT_PENDING]

@[simp] theorem Die.commitPending_setBoundary (x : Die) (p b : Nat) :
    (x.set (F.COMMIT_BOUNDARY p) b).commitPending p = x.commitPending p :=
  Die.on_set_ne x b (COMMIT_BOUNDARY_ne_PENDING p) (COMMIT_BOUNDARY_steers p)

theorem Die.commitPending_setPending (x : Die) (p v : Nat) :
    (x.set (F.COMMIT_STAT_PENDING p) v).commitPending p = (v % 2 != 0) :=
  Die.on_set_self x _ v

theorem Die.get_setBoundary (x : Die) (p : Nat) {b : Nat} (hb : b < 4) :
    (x.set (F.COMMIT_BOUNDARY p) b).get (F.COMMIT_BOUNDARY p) = b :=
  (Die.get_set_self x _ b).trans (Nat.mod_eq_of_lt hb)

/-- Two dies that differ in fields and events differ in no more where both take the same record of when commits were armed. -/
theorem Die.only_arms {x y : Die} {L : List Fld} {E : List Nat} (h : x.only L E y) (a : RegMap) :
    ({ x with arms := a } : Die).only L E { y with arms := a } :=
  ⟨congrArg (fun z : Die => { z with arms := a }) h.1, h.2⟩

/-- R37: the page's COMMIT as a write of ARM leaves it where no commit is pending. -/
theorem Die.armPage_of_free {x : Die} {p : Nat} (h : x.commitPending p = false) {b : Nat} (hb : b < 4) (now : Nat) :
    (x.armPage p b now).commitPending p = true ∧ (x.armPage p b now).get (F.COMMIT_BOUNDARY p) = b ∧
      ({ x with arms := x.arms.put p now } : Die).only [F.COMMIT_BOUNDARY p, F.COMMIT_STAT_PENDING p] []
        (x.armPage p b now) := by
  have harm : x.armPage p b now =
      { (x.set (F.COMMIT_BOUNDARY p) b).set (F.COMMIT_STAT_PENDING p) 1 with arms := x.arms.put p now } := by
    simp [Die.armPage, h]
  rw [harm]
  refine ⟨Die.commitPending_setPending _ p 1, ?_, ?_⟩
  · exact (Die.get_set_ne _ 1 (COMMIT_BOUNDARY_ne_PENDING p).symm (COMMIT_STAT_PENDING_steers p)).trans
      (Die.get_setBoundary x p hb)
  · exact Die.only_arms (Die.only_set (Die.only_set (Die.only_refl x _ _) (by simp) b) (by simp) 1) _

/-- The pages whose ARM arms another page too, or does more than arm. -/
theorem Die.armLinked_of_notMem {p : Nat} (h : p ∉ [0x20, 0x23, 0x33, 0x3B]) (x : Die) (b now : Nat) :
    x.armLinked p b now = x.armPage p b now := by
  simp only [List.mem_cons, List.not_mem_nil, or_false, not_or] at h
  obtain ⟨h20, h23, h33, h3B⟩ := h
  simp [Die.armLinked, h20, h23, h33, h3B]

@[simp] theorem Die.armPage_wr (x : Die) (p b now : Nat) : (x.armPage p b now).wr = x.wr := by
  unfold Die.armPage; split <;> rfl

@[simp] theorem Die.armPage_dramCut (x : Die) (p b now : Nat) : (x.armPage p b now).dramCut = x.dramCut := by
  unfold Die.armPage; split <;> rfl

/-- R38: a second ARM is rejected. -/
theorem Die.commitWrite_arm_of_pending {x : Die} {p : Nat} (h : x.commitPending p = true) (b now : Nat) :
    x.commitWrite p b true false now = x.accErr p := by
  simp [Die.commitWrite, h]

section
variable {x : Die} {p b : Nat} (hok : boundaryOk p b = true) (hlink : p ∉ [0x20, 0x23, 0x33, 0x3B])
include hok hlink

/-- With no commit pending, BOUNDARY is taken before ARM. -/
theorem Die.commitWrite_arm_of_free (h : x.commitPending p = false) (cancel : Bool) (now : Nat) :
    x.commitWrite p b true cancel now = (x.set (F.COMMIT_BOUNDARY p) b).armPage p b now := by
  simp [Die.commitWrite, h, hok, Die.armLinked_of_notMem hlink]

omit hlink in
theorem Die.commitWrite_disarm_of_free (h : x.commitPending p = false) (cancel : Bool) (now : Nat) :
    x.commitWrite p b false cancel now = x.set (F.COMMIT_BOUNDARY p) b := by
  simp [Die.commitWrite, h, hok]

/-- R38: CANCEL withdraws what is pending, and the rest of the write finds no commit pending. -/
theorem Die.commitWrite_cancel (h : x.commitPending p = true) (arm : Bool) (now : Nat) :
    x.commitWrite p b arm true now = (x.set (F.COMMIT_STAT_PENDING p) 0).commitWrite p b arm true now := by
  have hfree : (x.set (F.COMMIT_STAT_PENDING p) 0).commitPending p = false := Die.commitPending_setPending x p 0
  have hwithdraw : x.commitCancel p = x.set (F.COMMIT_STAT_PENDING p) 0 := by
    simp only [List.mem_cons, List.not_mem_nil, or_false, not_or] at hlink
    obtain ⟨-, h23, -, h3B⟩ := hlink
    simp [Die.commitCancel, h23, h3B]
  simp [Die.commitWrite, h, hfree, hok, hwithdraw]

end

section
variable {s : State} {d : DieId} {p b : Nat} (hr : s.running d) (hp : listedPage p = true) (hb : b < 4)

include hp hb in
theorem exec_commitArm :
    exec (.commitArm d p b) s = onDie d s fun env x => x.commitWrite p b true false env.now := by
  show execCommitArm d p b s = _
  simp only [execCommitArm, hp, if_true, Nat.mod_eq_of_lt hb]

include hp hb in
theorem exec_commitCancel (arm : Bool) :
    exec (.commitCancel d p b arm) s = onDie d s fun env x => x.commitWrite p b arm true env.now := by
  show execCommitCancel d p b arm s = _
  simp only [execCommitCancel, hp, if_true, Nat.mod_eq_of_lt hb]

include hr

/-- A write to COMMIT that leaves the die `y`. -/
theorem commitWrite_effect {c : Instr} {arm cancel : Bool} {y : Die} {P : Die → Prop}
    (hc : exec c s = onDie d s fun env x => x.commitWrite p b arm cancel env.now)
    (hy : (s.fresh d).commitWrite p b arm cancel s.now = y) (hw : y.wr = []) (hd : y.dramCut = false) (hP : P y.settled) :
    Effect c d s P := by
  subst hy
  exact effect_of hc hr hw hd hP

include hb

/-- A write of ARM that finds the die as `z`, of which no commit is pending. -/
theorem commitWrite_arms {c : Instr} {cancel : Bool} {z : Die}
    (hc : exec c s = onDie d s fun env x => x.commitWrite p b true cancel env.now)
    (hz : (s.fresh d).commitWrite p b true cancel s.now = (z.set (F.COMMIT_BOUNDARY p) b).armPage p b s.now)
    (hfree : z.commitPending p = false) (hw : z.wr = []) (hd : z.dramCut = false) (hsame : z.arms = (s.die d).arms)
    (honly : (s.die d).only [F.COMMIT_BOUNDARY p, F.COMMIT_STAT_PENDING p] [] z) :
    Effect c d s (fun y => y.commitPending p = true ∧ y.get (F.COMMIT_BOUNDARY p) = b ∧
      ({ s.die d with arms := (s.die d).arms.put p s.now } : Die).only
        [F.COMMIT_BOUNDARY p, F.COMMIT_STAT_PENDING p] [] y) := by
  obtain ⟨hpend, hbound, harmed⟩ :=
    Die.armPage_of_free ((Die.commitPending_setBoundary z p b).trans hfree) hb s.now
  have hset := Die.only_set honly (f := F.COMMIT_BOUNDARY p) (by simp) b
  refine commitWrite_effect hr hc hz (by simp [hw]) (by simp [hd]) ⟨hpend, hbound, Die.only_settled ?_⟩
  rw [Die.set_arms, hsame] at harmed
  exact Die.only_trans (Die.only_arms hset _) harmed

/-- A write of CANCEL without ARM that finds the die as `z`, of which no commit is pending. -/
theorem commitWrite_disarms {c : Instr} {L : List Fld} {z : Die} (hL : F.COMMIT_BOUNDARY p ∈ L)
    (hc : exec c s = onDie d s fun env x => x.commitWrite p b false true env.now)
    (hz : (s.fresh d).commitWrite p b false true s.now = z.set (F.COMMIT_BOUNDARY p) b)
    (hfree : z.commitPending p = false) (hw : z.wr = []) (hd : z.dramCut = false) (honly : (s.die d).only L [] z) :
    Effect c d s (fun y => y.commitPending p = false ∧ y.get (F.COMMIT_BOUNDARY p) = b ∧ (s.die d).only L [] y) := by
  refine commitWrite_effect hr hc hz (by simp [hw]) (by simp [hd]) ⟨?_, Die.get_setBoundary z p hb, ?_⟩
  · exact (Die.commitPending_setBoundary z p b).trans hfree
  · exact Die.only_settled (Die.only_set honly hL b)

include hp

theorem commitArm_of_pending (h : (s.die d).commitPending p = true) :
    Effect (.commitArm d p b) d s (fun y => y.pends (accErrOf p) ∧ (s.die d).only [] [accErrOf p] y) := by
  have hy := Die.commitWrite_arm_of_pending (x := s.fresh d) h b s.now
  exact commitWrite_effect hr (exec_commitArm hp hb) hy (by simp) (by simp) (Die.accErr_settled_only s d p)

end

/-- Settles O11: a write that is not rejected acts on the die with its pending commit withdrawn, if there was one. -/
theorem commitRegister : Obligations.CommitRegister := by
  unfold Obligations.CommitRegister
  rintro s d p b x hr rfl hp hok hb hlink
  refine ⟨fun h => ?_, fun h => ?_⟩
  · have hfree : (s.fresh d).commitPending p = false := h
    constructor
    · exact commitWrite_arms hr hb (exec_commitArm hp hb) (Die.commitWrite_arm_of_free hok hlink hfree false s.now) hfree
        rfl rfl rfl (Die.only_fresh s d _ _)
    · exact commitWrite_disarms hr hb (by simp) (exec_commitCancel hp hb false)
        (Die.commitWrite_disarm_of_free hok hfree true s.now) hfree rfl rfl (Die.only_fresh s d _ _)
  · have hfree : ((s.fresh d).set (F.COMMIT_STAT_PENDING p) 0).commitPending p = false := Die.commitPending_setPending _ p 0
    have honly : (s.die d).only [F.COMMIT_BOUNDARY p, F.COMMIT_STAT_PENDING p] []
        ((s.fresh d).set (F.COMMIT_STAT_PENDING p) 0) :=
      Die.only_set (Die.only_fresh s d _ _) (by simp) 0
    have hwithdraw := Die.commitWrite_cancel (x := s.fresh d) hok hlink h
    refine ⟨commitArm_of_pending hr hp hb h, ?_, ?_⟩
    · exact commitWrite_disarms hr hb (by simp) (exec_commitCancel hp hb false)
        ((hwithdraw false s.now).trans (Die.commitWrite_disarm_of_free hok hfree true s.now)) hfree rfl rfl honly
    · exact commitWrite_arms hr hb (exec_commitCancel hp hb true)
        ((hwithdraw true s.now).trans (Die.commitWrite_arm_of_free hok hlink hfree true s.now)) hfree rfl rfl rfl honly

end Sys2Proof.Machine

/-! A mailbox command whose core takes it at once (R41, R437): what the core finds, and what it may leave. -/

namespace Sys2Proof.Machine

theorem Effect.mono {c : Instr} {d : DieId} {s : State} {P Q : Die → Prop} (h : Effect c d s P) (hpq : ∀ y, P y → Q y) :
    Effect c d s Q := by
  obtain ⟨t, ht, hrest, hP⟩ := h
  exact ⟨t, ht, hrest, hpq _ hP⟩

/-! ### The command as its core finds it -/

/-- The fields of a mailbox that a command written to it changes. -/
abbrev mbxFields (n : Nat) : List Fld := [F.MBX_CMD_OPCODE n, F.MBX_CMD_TAG n, F.MBX_ARG_ARG n, F.MBX_RSP_BUSY n]

/-- The die with a command posted and taken by its core. -/
def Die.mbxTaken (x : Die) (n opcode tag arg : Nat) : Die := (x.mbxPost n opcode tag arg).mbxTake n

/-- A command written to mailbox `n` is taken by its core at once: the mailbox is not BUSY, no reset of its page waits, and the
core is free. -/
structure Die.MbxOpen (x : Die) (n : Nat) : Prop where
  lt : n < 8
  idle : x.on (F.MBX_RSP_BUSY n) = false
  takes : x.takes 0x08 = true
  free : x.mbxFree n = true

theorem mbxFields_place {n : Nat} (hn : n < 8) {g : Fld} (hg : g ∈ mbxFields n) :
    g.page = 8 ∧ g.off < 0x1000 ∧ g.lo < 32 := by
  simp only [List.mem_cons, List.not_mem_nil, or_false] at hg
  obtain rfl | rfl | rfl | rfl := hg <;>
    refine ⟨rfl, ?_, ?_⟩ <;>
    simp only [F.MBX_CMD_OPCODE, F.MBX_CMD_TAG, F.MBX_ARG_ARG, F.MBX_RSP_BUSY] <;> omega

theorem mbxFields_steers {n : Nat} (hn : n < 8) {g : Fld} (hg : g ∈ mbxFields n) : g.steers = false := by
  obtain ⟨hpage, hoff, hlo⟩ := mbxFields_place hn hg
  have hdie : g.key ≠ F.SYS_IDENT_DIE.key := Fld.key_ne_of_page hoff hlo (by decide) (by decide) (by rw [hpage]; decide)
  have hexport : g.key ≠ F.SEQ_LIMITS_EXPORT.key :=
    Fld.key_ne_of_page hoff hlo (by decide) (by decide) (by rw [hpage]; decide)
  simp [Fld.steers, hdie, hexport]

/-- Two dies that differ in fields and events differ in no more where both are given the same mailboxes. -/
theorem Die.only_mbx {x y : Die} {L : List Fld} {E : List Nat} (h : x.only L E y) (m : List Mailbox) :
    ({ x with mbx := m } : Die).only L E { y with mbx := m } :=
  ⟨congrArg (fun z : Die => { z with mbx := m }) h.1, h.2⟩

theorem Die.only_nvs {x y : Die} {L : List Fld} {E : List Nat} (h : x.only L E y) (v : Nvs) :
    ({ x with nvs := v } : Die).only L E { y with nvs := v } :=
  ⟨congrArg (fun z : Die => { z with nvs := v }) h.1, h.2⟩

theorem Die.only_boot {x y : Die} {L : List Fld} {E : List Nat} (h : x.only L E y) (b : Boot) :
    ({ x with boot := b } : Die).only L E { y with boot := b } :=
  ⟨congrArg (fun z : Die => { z with boot := b }) h.1, h.2⟩

theorem Die.mailbox_fillSet (x : Die) (n : Nat) (m : Mailbox) :
    ({ x with mbx := fillSet {} x.mbx n m } : Die).mailbox n = m :=
  getD_fillSet_self ({} : Mailbox) x.mbx n m

section
variable (x : Die) (n opcode tag arg : Nat)

/-- Of the registers, posting a command writes these four; the mailbox behind them is no register. -/
theorem Die.mbxPost_only : ({ x with mbx := (x.mbxPost n opcode tag arg).mbx } : Die).only (mbxFields n) []
    (x.mbxPost n opcode tag arg) := by
  have h := Die.only_set (Die.only_set (Die.only_set (Die.only_set (Die.only_refl x (mbxFields n) [])
    (f := F.MBX_CMD_OPCODE n) (by simp) opcode) (f := F.MBX_CMD_TAG n) (by simp) tag)
    (f := F.MBX_ARG_ARG n) (by simp) arg) (f := F.MBX_RSP_BUSY n) (by simp) 1
  exact Die.only_mbx h _

theorem Die.mbxTaken_only : ({ x with mbx := (x.mbxTaken n opcode tag arg).mbx } : Die).only (mbxFields n) []
    (x.mbxTaken n opcode tag arg) :=
  Die.only_mbx (Die.mbxPost_only x n opcode tag arg) _

@[simp] theorem Die.mbxTaken_nvs : (x.mbxTaken n opcode tag arg).nvs = x.nvs := rfl

theorem Die.mbxTaken_busy : (x.mbxTaken n opcode tag arg).on (F.MBX_RSP_BUSY n) = true :=
  Die.on_set_self (((x.set (F.MBX_CMD_OPCODE n) opcode).set (F.MBX_CMD_TAG n) tag).set (F.MBX_ARG_ARG n) arg)
    (F.MBX_RSP_BUSY n) 1

theorem Die.mbxTaken_mailbox : (x.mbxTaken n opcode tag arg).mailbox n = { waiting := false, result := none } :=
  Die.mailbox_fillSet (x.mbxPost n opcode tag arg) n _

variable {n}

/-- The fields of every other page are as they were. -/
theorem Die.mbxTaken_get (hn : n < 8) {f : Fld} (h : f.page ≠ 8 ∧ f.off < 0x1000 ∧ f.lo < 32 ∧ f.showsQueue = false) :
    (x.mbxTaken n opcode tag arg).get f = x.get f := by
  obtain ⟨hpage, hoff, hlo, hqueue⟩ := h
  refine Die.only_get (Die.mbxTaken_only x n opcode tag arg) hqueue (fun g hg => ?_) (fun g hg => mbxFields_steers hn hg)
  obtain ⟨hpage', hoff', hlo'⟩ := mbxFields_place hn hg
  exact Fld.key_ne_of_page hoff' hlo' hoff hlo (by omega)

theorem Die.mbxTaken_on (hn : n < 8) {f : Fld} (h : f.page ≠ 8 ∧ f.off < 0x1000 ∧ f.lo < 32 ∧ f.showsQueue = false) :
    (x.mbxTaken n opcode tag arg).on f = x.on f := by
  rw [Die.on, Die.mbxTaken_get x opcode tag arg hn h, Die.on]

theorem Die.mbxTaken_canRead (hn : n < 8) (first count : Nat) :
    (x.mbxTaken n opcode tag arg).canRead first count = x.canRead first count := by
  rw [Die.canRead, Die.mbxTaken_on x opcode tag arg hn (by decide)]
  rfl

theorem Die.mbxTaken_nvsHalted (hn : n < 8) : (x.mbxTaken n opcode tag arg).nvsHalted = x.nvsHalted := by
  simp only [Die.nvsHalted, Die.mbxTaken_on x opcode tag arg hn (f := F.NVS_STATE_EP_ONLY) (by decide),
    Die.mbxTaken_on x opcode tag arg hn (f := F.NVS_STATE_STOPPED) (by decide)]

theorem Die.mbxTaken_pwdHash (hn : n < 8) (pwd : Nat) : (x.mbxTaken n opcode tag arg).pwdHash pwd = x.pwdHash pwd := by
  simp only [Die.pwdHash, Die.get64, Die.mbxTaken_get x opcode tag arg hn (f := F.SYS_SERIAL_LO_SERIAL) (by decide),
    Die.mbxTaken_get x opcode tag arg hn (f := F.SYS_SERIAL_HI_SERIAL) (by decide)]

theorem Die.mbxTaken_pwdOpen (hn : n < 8) (kind : Nat) : (x.mbxTaken n opcode tag arg).pwdOpen kind = x.pwdOpen kind := by
  simp only [Die.pwdOpen, Die.pwdUnset, Die.pwdStored, Die.mbxTaken_pwdHash x opcode tag arg hn, Die.mbxTaken_nvs,
    Die.mbxTaken_on x opcode tag arg hn (f := F.NVS_STATE_UNLOCK_R) (by decide),
    Die.mbxTaken_on x opcode tag arg hn (f := F.NVS_STATE_UNLOCK_W) (by decide)]
  rfl

theorem Die.mbxPost_mbxFree (hn : n < 8) : (x.mbxPost n opcode tag arg).mbxFree n = x.mbxFree n := by
  have hkind : (x.mbxPost n opcode tag arg).get F.RST_START_KIND = x.get F.RST_START_KIND :=
    Die.mbxTaken_get x opcode tag arg hn (by decide)
  simp only [Die.mbxFree, Die.jobRuns, hkind]
  rfl

theorem Die.mbxCommand_open {x : Die} (h : x.MbxOpen n) (serve : Die → Die) :
    x.mbxCommand n opcode tag arg serve = serve (x.mbxTaken n opcode tag arg) := by
  obtain ⟨hn, hidle, htakes, hfree⟩ := h
  simp [Die.mbxCommand, hidle, htakes, Die.mbxPost_mbxFree x opcode tag arg hn, hfree, Die.mbxTaken]

end

/-! ### Requests of Seed Tray writes -/

/-- The die with writes of the Seed Tray requested in order. -/
def Die.nvsRequests (x : Die) (l : List NvsReq) : Die := x.onNvs (fun v => { v with queue := v.queue ++ l })

theorem Die.nvsRequest_eq (x : Die) (prio : Nat) (what : NvsWrite) (tag : NvsTag) :
    x.nvsRequest prio what tag = x.nvsRequests [{ prio := prio, what := what, tag := tag }] := rfl

@[simp] theorem Die.nvsRequests_nil (x : Die) : x.nvsRequests [] = x := by
  simp [Die.nvsRequests, Die.onNvs]

@[simp] theorem Die.nvsRequests_append (x : Die) (l m : List NvsReq) :
    (x.nvsRequests l).nvsRequests m = x.nvsRequests (l ++ m) := by
  simp [Die.nvsRequests, Die.onNvs]

theorem Die.foldl_nvsRequest {α : Type} (prio : Nat) (what : α → NvsWrite) (l : List α) (x : Die) :
    l.foldl (fun y a => y.nvsRequest prio (what a)) x =
      x.nvsRequests (l.map fun a => { prio := prio, what := what a, tag := .none }) := by
  induction l generalizing x with
  | nil => exact (Die.nvsRequests_nil x).symm
  | cons a r ih => rw [List.foldl_cons, ih, Die.nvsRequest_eq, Die.nvsRequests_append]; rfl

/-! ### What a command taken at once leaves -/

section
variable {c : Instr} {s : State} {d : DieId} {n opcode tag arg : Nat} {serve : Env → Die → Die} (hr : s.running d)
  (ho : (s.die d).MbxOpen n) (hc : exec c s = onDie d s fun env x => x.mbxCommand n opcode tag arg (serve env))
include hr ho hc

theorem mbxServed_effect {y : Die} {P : Die → Prop} (hy : serve (s.env d) ((s.fresh d).mbxTaken n opcode tag arg) = y)
    (hw : y.wr = []) (hd : y.dramCut = false) (hP : P y.settled) : Effect c d s P := by
  have hopen : (s.fresh d).MbxOpen n := ⟨ho.lt, ho.idle, ho.takes, ho.free⟩
  subst hy
  rw [← Die.mbxCommand_open opcode tag arg hopen (serve (s.env d))] at hw hd hP
  exact effect_of hc hr hw hd hP

/-- The core answers the command, or leaves it to wait: nothing but the mailbox changes. -/
theorem mbxLeft_effect (m : Mailbox)
    (hy : serve (s.env d) ((s.fresh d).mbxTaken n opcode tag arg) =
      { (s.fresh d).mbxTaken n opcode tag arg with mbx := fillSet {} ((s.fresh d).mbxTaken n opcode tag arg).mbx n m }) :
    Effect c d s (fun y => y.mailbox n = m ∧ y.on (F.MBX_RSP_BUSY n) = true ∧
      ({ s.die d with mbx := y.mbx } : Die).only (mbxFields n) [] y) := by
  refine mbxServed_effect hr ho hc hy rfl rfl ⟨?_, ?_, ?_⟩
  · exact Die.mailbox_fillSet _ n m
  · exact Die.mbxTaken_busy (s.fresh d) n opcode tag arg
  · have htaken := Die.mbxTaken_only (s.fresh d) n opcode tag arg
    exact Die.only_settled (Die.only_trans (Die.only_mbx (Die.only_fresh s d _ _) _) (Die.only_mbx htaken _))

theorem mbxAnswered_effect {status data : Nat}
    (hy : serve (s.env d) ((s.fresh d).mbxTaken n opcode tag arg) =
      ((s.fresh d).mbxTaken n opcode tag arg).mbxResult n status data) :
    Effect c d s (fun y => (y.mailbox n).result = some (status, data) ∧ y.on (F.MBX_RSP_BUSY n) = true ∧
      ({ s.die d with mbx := y.mbx } : Die).only (mbxFields n) [] y) :=
  (mbxLeft_effect hr ho hc { waiting := false, result := some (status, data) } hy).mono
    fun _ ⟨hm, hrest⟩ => ⟨congrArg Mailbox.result hm, hrest⟩

theorem mbxWaits_effect
    (hy : serve (s.env d) ((s.fresh d).mbxTaken n opcode tag arg) = ((s.fresh d).mbxTaken n opcode tag arg).mbxAgain n) :
    Effect c d s (fun y => (y.mailbox n).waiting = true ∧ (y.mailbox n).result = none ∧ y.on (F.MBX_RSP_BUSY n) = true ∧
      ({ s.die d with mbx := y.mbx } : Die).only (mbxFields n) [] y) :=
  (mbxLeft_effect hr ho hc { waiting := true, result := none } hy).mono
    fun _ ⟨hm, hrest⟩ => ⟨congrArg Mailbox.waiting hm, congrArg Mailbox.result hm, hrest⟩

/-- The core requests writes of the Seed Tray, and the command is in work until they are done. -/
theorem mbxRequests_effect (l : List NvsReq)
    (hy : serve (s.env d) ((s.fresh d).mbxTaken n opcode tag arg) = ((s.fresh d).mbxTaken n opcode tag arg).nvsRequests l) :
    Effect c d s (fun y => y.nvs.queue = (s.die d).nvs.queue ++ l ∧ (y.mailbox n).result = none ∧
      y.on (F.MBX_RSP_BUSY n) = true ∧ ({ s.die d with mbx := y.mbx, nvs := y.nvs } : Die).only (mbxFields n) [] y) := by
  refine mbxServed_effect hr ho hc hy rfl rfl ⟨rfl, ?_, ?_, ?_⟩
  · exact congrArg Mailbox.result (Die.mbxTaken_mailbox (s.fresh d) n opcode tag arg)
  · exact Die.mbxTaken_busy (s.fresh d) n opcode tag arg
  · have htaken := Die.only_nvs (Die.mbxTaken_only (s.fresh d) n opcode tag arg)
    exact Die.only_settled (Die.only_trans (Die.only_nvs (Die.only_mbx (Die.only_fresh s d _ _) _) _) (htaken _))

end

/-! ### What the MP does with the commands of the system mailbox (Tables 11.4 and 12.6) -/

section
variable (x : Die)

theorem Die.writeSet_requests (record : Bool) (prio slot gen : Nat) (body : List Byte) (tag : NvsTag) :
    ∃ l r, x.writeSet record prio slot gen body tag = x.nvsRequests (l ++ [r]) ∧ r.tag = tag := by
  unfold Die.writeSet
  dsimp only
  rw [Die.foldl_nvsRequest, Die.nvsRequest_eq x, Die.nvsRequests_append, Die.nvsRequest_eq, Die.nvsRequests_append]
  exact ⟨_, _, rfl, rfl⟩

theorem Die.zeroPages_requests (first count : Nat) : ∃ l, x.zeroPages first count = x.nvsRequests l :=
  ⟨_, Die.foldl_nvsRequest 5 _ _ x⟩

theorem Die.nvsPages_requests (prio n : Nat) (bytes : List Byte) : ∃ l, x.nvsPages prio n bytes = x.nvsRequests l :=
  ⟨_, Die.foldl_nvsRequest prio _ _ x⟩

variable {x}

theorem Die.serveParamSave_halted (h : x.nvsHalted = true) : x.serveParamSave = x.mbxResult 0 7 0 := by
  simp [Die.serveParamSave, h]

theorem Die.serveParamSave_waits (h : x.nvsHalted = false) (hr : x.canRead 64 256 = false) :
    x.serveParamSave = x.mbxAgain 0 := by
  simp [Die.serveParamSave, h, hr]

theorem Die.serveParamSave_requests (h : x.nvsHalted = false) (hr : x.canRead 64 256 = true) :
    ∃ l r, x.serveParamSave = x.nvsRequests (l ++ [r]) ∧ r.tag = .mbx 0 0 (x.nvs.nextSlotOf false).2 := by
  simp only [Die.serveParamSave, h, hr, Bool.false_eq_true, Bool.not_true, if_false]
  exact x.writeSet_requests _ _ _ _ _ _

theorem Die.serveParamDiscard_waits (hr : x.canRead 2 1 = false ∨ x.canRead 64 256 = false) :
    x.serveParamDiscard = x.mbxAgain 0 := by
  rcases hr with hr | hr <;> simp [Die.serveParamDiscard, hr]

theorem Die.serveParamDiscard_halted (hp : x.canRead 2 1 = true) (hr : x.canRead 64 256 = true) (hw : x.pwdOpen 2 = true)
    (h : x.nvsHalted = true) : x.serveParamDiscard = x.mbxResult 0 7 0 := by
  simp [Die.serveParamDiscard, hp, hr, hw, h]

theorem Die.serveParamDiscard_requests (hp : x.canRead 2 1 = true) (hr : x.canRead 64 256 = true) (hw : x.pwdOpen 2 = true)
    (h : x.nvsHalted = false) : ∃ q r, x.serveParamDiscard = x.nvsRequests ([q] ++ [r]) ∧ r.tag = .mbx 0 0 0 := by
  simp only [Die.serveParamDiscard, hp, hr, hw, h, Bool.false_eq_true, Bool.not_true, Bool.or_self, if_false,
    Die.nvsRequest_eq, Die.nvsRequests_append]
  exact ⟨_, _, rfl, rfl⟩

theorem Die.servePwdRecover_requests (h : x.nvsHalted = false) :
    ∃ l, x.servePwdRecover = x.nvsRequests (l ++ [{ prio := 5, what := .add 7 1, tag := .mbx 0 0 0 }]) := by
  obtain ⟨l1, h1⟩ := x.zeroPages_requests 1624 296
  obtain ⟨l2, h2⟩ := (x.nvsRequests l1).zeroPages_requests 1328 296
  obtain ⟨l3, h3⟩ := ((x.nvsRequests l1).nvsRequests l2).zeroPages_requests 64 256
  simp only [Die.servePwdRecover, h, Bool.false_eq_true, if_false, h1, h2, h3]
  rw [Die.nvsRequests_append, Die.nvsRequests_append, Die.nvsRequest_eq, Die.nvsRequest_eq, Die.nvsRequests_append,
    Die.nvsRequests_append, ← List.append_assoc]
  exact ⟨_, rfl⟩

theorem Die.serveRecovery_unsigned (hp : x.canRead 2 1 = true) (hw : x.pwdOpen 2 = true) (mem : Memory) (arg : Nat) :
    x.serveRecovery mem arg false = x.mbxResult 0 3 0 := by
  simp [Die.serveRecovery, hp, hw]

theorem Die.serveRecovery_requests (hp : x.canRead 2 1 = true) (hw : x.pwdOpen 2 = true) (h : x.nvsHalted = false)
    (mem : Memory) (arg : Nat) :
    ∃ l, x.serveRecovery mem arg true = x.nvsRequests
      (l ++ [{ prio := 5, what := .page 1327 0 (mem.readBytes (arg + 511 * 64) 64), tag := .mbx 0 0 0 }]) := by
  obtain ⟨l, hl⟩ := x.nvsPages_requests 5 816 (mem.readBytes arg (511 * 64))
  simp only [Die.serveRecovery, hp, hw, h, Bool.false_eq_true, Bool.not_true, if_false, hl, Die.nvsRequest_eq,
    Die.nvsRequests_append]
  exact ⟨_, rfl⟩

end

section
variable {x : Die} {q : Start}

theorem Die.startStep_of_start (h : x.boot.start = some q) : x.startStep = q.step := by simp [Die.startStep, h]

theorem Die.serveBaseReady_taken (h : x.startStep = 7) :
    x.serveBaseReady = (x.onStart fun st => { st with base := true }).mbxResult 0 0 0 := by
  simp [Die.serveBaseReady, h]

theorem Die.serveBaseReady_denied (h : x.startStep ≠ 7) : x.serveBaseReady = x.mbxResult 0 5 0 := by
  simp [Die.serveBaseReady, h]

end

/-! ### The commands of the system mailbox (O58) -/

section
variable {s : State} {d : DieId} {tag arg : Nat} (hr : s.running d) (ho : (s.die d).MbxOpen 0)
include hr ho

/-- R321: a start in step 7 takes note that the base set is in place. -/
theorem baseReady_taken {q : Start} (hq : (s.die d).boot.start = some q) (h7 : q.step = 7) :
    Effect (.baseReady d tag arg) d s (fun y => (y.mailbox 0).result = some (0, 0) ∧ y.on (F.MBX_RSP_BUSY 0) = true ∧
      y.boot.start = some { q with base := true } ∧
      ({ s.die d with mbx := y.mbx, boot := y.boot } : Die).only (mbxFields 0) [] y) := by
  have hserve := Die.serveBaseReady_taken (x := (s.fresh d).mbxTaken 0 0x0001 tag arg) ((Die.startStep_of_start hq).trans h7)
  refine mbxServed_effect (serve := fun _ y => y.serveBaseReady) hr ho rfl hserve rfl rfl ⟨?_, ?_, ?_, ?_⟩
  · exact congrArg Mailbox.result (Die.mailbox_fillSet _ 0 { waiting := false, result := some (0, 0) })
  · exact Die.mbxTaken_busy (s.fresh d) 0 0x0001 tag arg
  · exact congrArg (Option.map fun st : Start => { st with base := true }) hq
  · have htaken := Die.mbxTaken_only (s.fresh d) 0 0x0001 tag arg
    exact Die.only_settled (Die.only_trans (Die.only_boot (Die.only_mbx (Die.only_fresh s d _ _) _) _)
      (Die.only_boot (Die.only_mbx htaken _) _))

end

/-- Settles O58: each clause is what the MP does with its command on the die as it finds it, which is as it was but for the
mailbox. -/
theorem mailboxSystem : Obligations.MailboxSystem := by
  unfold Obligations.MailboxSystem
  rintro s d tag arg good q x hr rfl
  have hopen (hidle : (s.die d).on (F.MBX_RSP_BUSY 0) = false) (htakes : (s.die d).takes 0x08 = true)
      (hfree : (s.die d).mbxFree 0 = true) : (s.die d).MbxOpen 0 := ⟨by decide, hidle, htakes, hfree⟩
  have hcan (op first count : Nat) := Die.mbxTaken_canRead (s.fresh d) op tag arg (n := 0) (by decide) first count
  have hhalt (op : Nat) := Die.mbxTaken_nvsHalted (s.fresh d) op tag arg (n := 0) (by decide)
  have hpwd (op : Nat) := Die.mbxTaken_pwdOpen (s.fresh d) op tag arg (n := 0) (by decide) 2
  refine ⟨fun hb ht hf hq h7 => baseReady_taken hr (hopen hb ht hf) hq h7, fun hb ht hf hstep => ?baseDenied,
    fun hb ht hf hread hh => ?save, fun hb ht hf hh => ?saveHalted, fun hb ht hf hp hread hh hw => ?discard,
    fun hb ht hf hp hread hw hh => ?discardHalted, fun hb ht hf hread => ?discardWaits, fun hb ht hf hh hread => ?saveWaits,
    fun hb ht hf hh => ?recover, fun hb ht hf hp hw hgood => ?recoveryUnsigned, fun hb ht hf hp hw hgood hh => ?recovery⟩
  case baseDenied =>
    exact mbxAnswered_effect (serve := fun _ y => y.serveBaseReady) hr (hopen hb ht hf) rfl (Die.serveBaseReady_denied hstep)
  case save =>
    obtain ⟨l, r, hserve, htag⟩ := Die.serveParamSave_requests ((hhalt 0x0010).trans hh) ((hcan 0x0010 _ _).trans hread)
    refine (mbxRequests_effect (serve := fun _ y => y.serveParamSave) hr (hopen hb ht hf) rfl _ hserve).mono ?_
    exact fun y ⟨hq, hrest⟩ => ⟨by simpa [hq] using htag, hrest⟩
  case saveHalted =>
    exact mbxAnswered_effect (serve := fun _ y => y.serveParamSave) hr (hopen hb ht hf) rfl
      (Die.serveParamSave_halted ((hhalt _).trans hh))
  case saveWaits =>
    exact mbxWaits_effect (serve := fun _ y => y.serveParamSave) hr (hopen hb ht hf) rfl
      (Die.serveParamSave_waits ((hhalt _).trans hh) ((hcan _ _ _).trans hread))
  case discard =>
    obtain ⟨q, r, hserve, htag⟩ := Die.serveParamDiscard_requests ((hcan 0x0011 _ _).trans hp)
      ((hcan 0x0011 _ _).trans hread) ((hpwd 0x0011).trans hw) ((hhalt 0x0011).trans hh)
    refine (mbxRequests_effect (serve := fun _ y => y.serveParamDiscard) hr (hopen hb ht hf) rfl _ hserve).mono ?_
    exact fun y ⟨hq, hrest⟩ => ⟨by simp [hq], by simpa [hq] using htag, hrest⟩
  case discardHalted =>
    exact mbxAnswered_effect (serve := fun _ y => y.serveParamDiscard) hr (hopen hb ht hf) rfl
      (Die.serveParamDiscard_halted ((hcan _ _ _).trans hp) ((hcan _ _ _).trans hread) ((hpwd _).trans hw) ((hhalt _).trans hh))
  case discardWaits =>
    exact mbxWaits_effect (serve := fun _ y => y.serveParamDiscard) hr (hopen hb ht hf) rfl
      (Die.serveParamDiscard_waits (hread.imp (hcan _ _ _).trans (hcan _ _ _).trans))
  case recover =>
    obtain ⟨l, hserve⟩ := Die.servePwdRecover_requests ((hhalt 0x0012).trans hh)
    refine (mbxRequests_effect (serve := fun _ y => y.servePwdRecover) hr (hopen hb ht hf) rfl _ hserve).mono ?_
    exact fun y ⟨hq, hrest⟩ => ⟨by simp [hq], hrest⟩
  case recoveryUnsigned =>
    subst hgood
    exact mbxAnswered_effect (serve := fun e y => y.serveRecovery e.mem arg false) hr (hopen hb ht hf) rfl
      (Die.serveRecovery_unsigned ((hcan _ _ _).trans hp) ((hpwd _).trans hw) _ _)
  case recovery =>
    subst hgood
    obtain ⟨l, hserve⟩ := Die.serveRecovery_requests ((hcan 0x0013 _ _).trans hp) ((hpwd 0x0013).trans hw)
      ((hhalt 0x0013).trans hh) (s.mem d) arg
    refine (mbxRequests_effect (serve := fun e y => y.serveRecovery e.mem arg true) hr (hopen hb ht hf) rfl _ hserve).mono ?_
    exact fun y ⟨hq, hnone, hbusy, _⟩ => ⟨by simp [hq], hbusy, hnone⟩

end Sys2Proof.Machine

/-! Statements on mailboxes, commits and block resets that fail in this model: the state and the command that refute each. -/

namespace Sys2Proof.Machine

/-! ### A mailbox of the MP while work of higher priority waits (O16) -/

/-- Die A's mailbox 0 has its result, and event 32 of the thermal controller waits in the MP's queue (R28). -/
def resultHeldBack : State :=
  { dieA := { (({} : Die).set (F.MBX_RSP_BUSY 0) 1).mbxResult 0 0 5 with evq := { entries := [(32, 1)] } } }

theorem resultHeldBack_completion :
    afterOnDieA (fun y => y.on (F.MBX_RSP_BUSY 0)) (exec (.mbxCompletion .a 0) resultHeldBack) = some true := by
  decide +kernel

/-- Refutes O16: its clause of a completion has no premise that no work of higher priority waits for the MP. A mailbox of the MP
whose result is ready stays BUSY while such work waits (R28). -/
theorem not_mailboxes : ¬ Obligations.Mailboxes := by
  unfold Obligations.Mailboxes
  rintro ⟨-, h⟩
  obtain ⟨hdone, -⟩ := h resultHeldBack .a 0 0 5 _ (by decide) rfl (by decide)
  obtain ⟨t, ht, -, hbusy, -⟩ := hdone rfl rfl
  have heval := resultHeldBack_completion
  rw [ht, afterOnDieA_next] at heval
  exact absurd (hbusy.symm.trans (Option.some.inj heval)) (by decide)

/-! ### A staged value beyond its field (O14) -/

/-- Die A has a commit of the ACB common page armed for the idle boundary, and the number 2 is staged for LPM, a field of one
bit. -/
def wideStaged : State :=
  { dieA := { (({} : Die).set (F.COMMIT_STAT_PENDING 0x23) 1).set (F.COMMIT_BOUNDARY 0x23) 2 with
              stage := RegFile.put {} F.ACB_MODE_LPM 2 } }

theorem wideStaged_commit :
    afterOnDieA (fun y => (y.get F.ACB_STATE_LPM, y.get F.ACB_MODE_LPM)) (exec (.commitApply .a 0x23) wideStaged) =
      some (0, 2) := by
  decide +kernel

/-- Refutes O14: the statement is for every state. In `wideStaged`, which no run from reset reaches, since a staged value fits
its field, LPM in force becomes 2 and the one bit ACB_STATE.LPM shows 0. -/
theorem not_commitApplies : ¬ Obligations.CommitApplies := by
  unfold Obligations.CommitApplies
  intro h
  obtain ⟨hacb, -⟩ := h wideStaged .a 0x23 _ (by decide) rfl (by decide) (.inl (by decide))
  obtain ⟨t, ht, -, -, hlpm, -⟩ := hacb (by decide) (fun _ => rfl)
  have heval := wideStaged_commit
  rw [ht, afterOnDieA_next] at heval
  obtain ⟨hstate, hmode⟩ := Prod.mk.inj (Option.some.inj heval)
  exact absurd (hstate.symm.trans ((hlpm rfl).trans hmode)) (by decide)

/-! ### A pending bit of a reserved event (O15) -/

/-- A reset of Die A's transmit port is asked for, and the bit of event 540, which Table 1.11 gives the
port and R219 reserves, is pending. -/
def reservedPends : State :=
  { dieA := { ({} : Die).set (F.BRST_ACTIVE 0x47) 1 with evPend := BitVec.twoPow 640 540 } }

theorem reservedPends_reset :
    afterOnDieA (fun y => y.pends 540) (exec (.blockReset .a 0x47) reservedPends) = some true := by
  decide +kernel

/-- Refutes O15: a block reset loses the events of the block that Table 6.8 names, and the statement is of all eight of the
port's allocation, for every state. In `reservedPends`, which no run from reset reaches, a reserved event stays pending. -/
theorem not_blockResets : ¬ Obligations.BlockResets := by
  unfold Obligations.BlockResets
  intro h
  obtain ⟨-, -, hport⟩ := h reservedPends .a 0x47 _ (by decide) rfl (by decide)
  obtain ⟨t, ht, hlost, -⟩ := hport (by decide) rfl rfl (by decide)
  have heval := reservedPends_reset
  rw [ht, afterOnDieA_next] at heval
  exact absurd ((hlost 540 (by decide) (by decide)).1.symm.trans (Option.some.inj heval)) (by decide)

end Sys2Proof.Machine

/-! The sensor port and the Rake: what a die's registers and events differ in, whatever changed behind them. -/

namespace Sys2Proof.Machine
open Sys2Proof

/-! ### Registers and events alone -/

/-- Of the registers and the events, `y` differs from `x` in no more than the fields `L` and the events `E`, with what an event
sets off: the part of `Die.only` that says nothing of the state behind the registers. -/
structure Die.Regs (x : Die) (L : List Fld) (E : List Nat) (y : Die) : Prop where
  live : ∀ f : Fld, f.showsQueue = false → (∀ g ∈ L, g.key ≠ f.key) → y.live.look f = x.live.look f
  pend : ∀ e, e ≠ 620 → e ∉ E → y.evPend.getLsbD e = x.evPend.getLsbD e
  raw : ∀ e, e ∉ E → y.evRaw.getLsbD e = x.evRaw.getLsbD e

section
variable {x y z : Die} {L : List Fld} {E : List Nat}

theorem Die.only_of_regs (h : x.Regs L E y) (hh : y.hidden = z.hidden) (hl : z.live = x.live) (hp : z.evPend = x.evPend)
    (hr : z.evRaw = x.evRaw) : z.only L E y := by
  obtain ⟨live, pend, raw⟩ := h
  exact ⟨hh, by rwa [hl], by rwa [hp], by rwa [hr]⟩

/-- Seen from a die that has the same state behind its registers as `y`, `y` differs in registers and events only. -/
theorem Die.Regs.only (h : x.Regs L E y) :
    ({ y with live := x.live, evPend := x.evPend, evRaw := x.evRaw } : Die).only L E y :=
  Die.only_of_regs h rfl rfl rfl rfl

theorem Die.Regs.of_step
    (k : ({ y with live := x.live, evPend := x.evPend, evRaw := x.evRaw } : Die).only L E z) : x.Regs L E z :=
  ⟨k.2.1, k.2.2.1, k.2.2.2⟩

theorem Die.Regs.refl (x : Die) (L : List Fld) (E : List Nat) : x.Regs L E x :=
  ⟨fun _ _ _ => rfl, fun _ _ _ => rfl, fun _ _ => rfl⟩

theorem Die.Regs.fresh (s : State) (d : DieId) (L : List Fld) (E : List Nat) : (s.die d).Regs L E (s.fresh d) :=
  ⟨fun _ _ _ => rfl, fun _ _ _ => rfl, fun _ _ => rfl⟩

theorem Die.Regs.of_fresh {s : State} {d : DieId} (h : (s.fresh d).Regs L E y) : (s.die d).Regs L E y :=
  ⟨h.live, h.pend, h.raw⟩

theorem Die.Regs.settled (h : x.Regs L E y) : x.Regs L E y.settled := ⟨h.live, h.pend, h.raw⟩

theorem Die.Regs.set {f : Fld} {v : Nat} (hf : f ∈ L) (h : x.Regs L E y) : x.Regs L E (y.set f v) :=
  .of_step (Die.only_set h.only hf v)

theorem Die.Regs.setBit {f : Fld} {i : Nat} {b : Bool} (hf : f ∈ L) (h : x.Regs L E y) : x.Regs L E (y.setBit f i b) :=
  .set hf h

theorem Die.Regs.count {f : Fld} {n : Nat} (hf : f ∈ L) (h : x.Regs L E y) : x.Regs L E (y.count f n) := .set hf h

theorem Die.Regs.raise {f : Fld} {v : Nat} (hf : f ∈ L) (h : x.Regs L E y) : x.Regs L E (y.raise f v) :=
  .of_step (Die.only_raise h.only hf v)

theorem Die.Regs.fire {e : Nat} (he : e ∈ E) (h : x.Regs L E y) : x.Regs L E (y.fire e) := .of_step (Die.only_fire h.only he)

theorem Die.Regs.cond {e : Nat} {b : Bool} (he : e ∈ E) (h : x.Regs L E y) : x.Regs L E (y.cond e b) :=
  .of_step (Die.only_cond h.only he b)

theorem Die.Regs.trans {M : List Fld} {D : List Nat} (h : x.Regs L E y) (k : y.Regs M D z) (hl : ∀ f ∈ M, f ∈ L)
    (he : ∀ e ∈ D, e ∈ E) : x.Regs L E z where
  live f hq hf := (k.live f hq fun g hg => hf g (hl g hg)).trans (h.live f hq hf)
  pend e h620 hE := (k.pend e h620 fun hD => hE (he e hD)).trans (h.pend e h620 hE)
  raw e hE := (k.raw e fun hD => hE (he e hD)).trans (h.raw e hE)

theorem Die.Regs.get (h : x.Regs L E y) {f : Fld} (hq : f.showsQueue = false) (hf : ∀ g ∈ L, g.key ≠ f.key)
    (hs : ∀ g ∈ L, g.steers = false) : y.get f = x.get f :=
  Die.only_get h.only hq hf hs

end

@[simp] theorem Die.cond_hidden (x : Die) (e : Nat) (b : Bool) : (x.cond e b).hidden = x.hidden := by
  unfold Die.cond; dsimp only; split
  · rw [Die.fire_hidden]; rfl
  · rfl

/-- A command on a running die that leaves no DRAM write, by what the die is then. -/
theorem effect_to {c : Instr} {d : DieId} {s : State} {f : Env → Die → Die} {P : Die → Prop} {y : Die}
    (hc : exec c s = onDie d s f) (hr : s.running d) (hy : f (s.env d) (s.fresh d) = y) (hw : y.wr = []) (hd : y.dramCut = false)
    (h : P y.settled) : Effect c d s P := by
  subst hy
  exact effect_of hc hr hw hd h

/-! ### Single fields and events, read after a change -/

section
variable (x : Die)

theorem Die.get_set_of_lt {f : Fld} {v : Nat} (h : v < 2 ^ f.width) : (x.set f v).get f = v := by
  rw [Die.get_set_self, Nat.mod_eq_of_lt h]

@[simp] theorem Die.set_condOn (f : Fld) (v e : Nat) : (x.set f v).condOn e = x.condOn e := rfl
@[simp] theorem Die.settled_condOn (e : Nat) : x.settled.condOn e = x.condOn e := rfl
@[simp] theorem Die.settled_pends (e : Nat) : x.settled.pends e = x.pends e := rfl
@[simp] theorem Die.fire_condOn (e i : Nat) : (x.fire e).condOn i = x.condOn i := by simp only [Die.condOn, Die.fire_evRaw]

theorem Die.cond_condOn {e : Nat} (b : Bool) (h : e < 640) : (x.cond e b).condOn e = b := Die.cond_raw x b h

theorem Die.fire_pends {e : Nat} (h : e < 640) : (x.fire e).pends e = true := Die.fire_pending x h

@[simp] theorem Die.settled_rakeRuns : x.settled.rakeRuns = x.rakeRuns := rfl

end

/-! ### SEQ_WIN (O19) -/

theorem seqWin_fieldsAt : fieldsAt 0x20 0x54 = some [F.SEQ_WIN_ROWS_M1, F.SEQ_WIN_ROW0] := by decide +kernel

theorem seqWin_ordinary : OrdinaryReg 0x20 0x54 where
  listed := by decide
  inPage := by decide
  aligned := by decide
  ownRule := by decide
  msix := by decide
  peer := by decide +kernel

theorem seqWin_uniform : uniform .rws 0x20 [F.SEQ_WIN_ROWS_M1, F.SEQ_WIN_ROW0] = true := by decide +kernel

/-- Every encoding of an 11-bit field lies in a range that has no bounds of its own. -/
theorem seqWin_inRange (v : Nat) : ∀ f ∈ [F.SEQ_WIN_ROWS_M1, F.SEQ_WIN_ROW0], f.inRange (f.ofWord v) = true := by
  have hbound : ∀ lo, bits v lo 11 ≤ 0x7FF := fun lo => Nat.le_of_lt_succ (Nat.mod_lt _ (by decide))
  simp [Fld.inRange, Fld.ofWord, F.SEQ_WIN_ROWS_M1, F.SEQ_WIN_ROW0, hbound]

theorem Die.writeSeqWin (x : Die) (env : Env) (val : Nat) :
    x.writeFields env 0x20 0x54 val [F.SEQ_WIN_ROWS_M1, F.SEQ_WIN_ROW0] =
      if x.get F.SEQ_ARRAY_ROWS_M1 < F.SEQ_WIN_ROW0.ofWord val + F.SEQ_WIN_ROWS_M1.ofWord val then x.accErr 0x20
      else
        let g := [F.SEQ_WIN_ROWS_M1, F.SEQ_WIN_ROW0].foldl (fun y f => y.putField env.tied val f) x
        if x.commitPending 0x20 then g.accErr 0x20 else g := by
  have hin := seqWin_inRange val
  unfold Die.writeFields
  rw [if_neg]
  · rw [show ([F.SEQ_WIN_ROWS_M1, F.SEQ_WIN_ROW0].any fun f => f.acc = .rws) = true from rfl, Bool.and_true]
    rfl
  · simpa [Fld.writable, F.SEQ_WIN_ROWS_M1, F.SEQ_WIN_ROW0] using hin

/-- Settles O19: the check of R68 comes after the fields' own ranges, which every word meets, and before anything is staged. -/
theorem windowWithinArray : Obligations.WindowWithinArray := by
  unfold Obligations.WindowWithinArray
  rintro s d u val x hr rfl
  have hy := Die.writeSeqWin (s.fresh d) { s.env d with tied := s.hits d u.tie } (val % 2 ^ 32)
  rw [State.fresh_get] at hy
  refine ⟨fun hbeyond => ?_, fun hwithin hfree => ?_⟩
  · rw [if_pos hbeyond] at hy
    exact registerWrite_effect (p := 0x20) (off := 0x54) hr seqWin_ordinary seqWin_fieldsAt hy (by simp) (by simp) (Die.accErr_settled_only s d _)
  · have hf : (s.fresh d).commitPending 0x20 = false := hfree
    obtain ⟨hu, hn⟩ := uniform_iff.1 seqWin_uniform
    rw [if_neg (Nat.not_lt.2 hwithin), hf, if_neg Bool.false_ne_true,
      Die.foldl_putField_rws (fun f h => ⟨(hu f h).1, (hu f h).2.1⟩) _ hf] at hy
    refine registerWrite_effect (p := 0x20) (off := 0x54) hr seqWin_ordinary seqWin_fieldsAt hy (by simp) (by simp) ⟨?_, ?_, ?_⟩
    · simp [Die.written, Die.stageFields_look hn _ F.SEQ_WIN_ROW0 (by simp)]
    · simp [Die.written, Die.stageFields_look hn _ F.SEQ_WIN_ROWS_M1 (by simp)]
    · rw [Die.stageFields_eq]
      exact ⟨rfl, fun _ _ _ => rfl, fun _ _ _ => rfl, fun _ _ => rfl⟩

end Sys2Proof.Machine

/-! The Rake: its stages, the words that it enters, and its stops (R58, R59, R73, R74). -/

namespace Sys2Proof.Machine

/-! ### The Rake behind its registers -/

section
variable (x : Die) (k : Rake → Rake)

@[simp] theorem Die.onRake_get (f : Fld) : (x.onRake k).get f = x.get f := rfl
@[simp] theorem Die.onRake_on (f : Fld) : (x.onRake k).on f = x.on f := rfl
@[simp] theorem Die.onRake_rake : (x.onRake k).rake = k x.rake := rfl
@[simp] theorem Die.onRake_wr : (x.onRake k).wr = x.wr := rfl
@[simp] theorem Die.onRake_dramCut : (x.onRake k).dramCut = x.dramCut := rfl
@[simp] theorem Die.onRake_cal : (x.onRake k).cal = x.cal := rfl
@[simp] theorem Die.onRake_acb : (x.onRake k).acb = x.acb := rfl
@[simp] theorem Die.onRake_frame : (x.onRake k).frame = x.frame := rfl

end

/-- The die behind its registers, without its Rake. -/
def Die.butRake (x : Die) : Die := { x.hidden with rake := {} }

theorem Die.butRake_of_hidden {x y : Die} (h : y.hidden = x.hidden) : y.butRake = x.butRake := by simp [Die.butRake, h]

@[simp] theorem Die.onRake_butRake (x : Die) (k : Rake → Rake) : (x.onRake k).butRake = x.butRake := rfl
@[simp] theorem Die.pass_butRake (x : Die) (n : Nat) : (x.pass n).butRake = x.butRake := rfl
@[simp] theorem Die.set_butRake (x : Die) (f : Fld) (v : Nat) : (x.set f v).butRake = x.butRake := rfl
@[simp] theorem Die.count_butRake (x : Die) (f : Fld) (n : Nat) : (x.count f n).butRake = x.butRake := rfl
@[simp] theorem Die.fire_butRake (x : Die) (e : Nat) : (x.fire e).butRake = x.butRake := Die.butRake_of_hidden (by simp)
@[simp] theorem Die.cond_butRake (x : Die) (e : Nat) (b : Bool) : (x.cond e b).butRake = x.butRake :=
  Die.butRake_of_hidden (by simp)
@[simp] theorem Die.settled_butRake (x : Die) : x.settled.butRake = x.butRake := rfl
@[simp] theorem State.fresh_butRake (s : State) (d : DieId) : (s.fresh d).butRake = (s.die d).butRake := rfl

/-- A die that differs from `x` in registers, events and its Rake. -/
theorem Die.only_of_butRake {x y : Die} {L : List Fld} {E : List Nat} (h : x.Regs L E y) (hb : y.butRake = x.butRake) :
    ({ x with rake := y.rake } : Die).only L E y :=
  Die.only_of_regs h (congrArg (fun z : Die => { z with rake := y.rake }) hb) rfl rfl rfl

theorem Die.Regs.onRake {x y : Die} {L : List Fld} {E : List Nat} {k : Rake → Rake} (h : x.Regs L E y) :
    x.Regs L E (y.onRake k) := ⟨h.live, h.pend, h.raw⟩

theorem Die.Regs.pass {x y : Die} {L : List Fld} {E : List Nat} {n : Nat} (h : x.Regs L E y) : x.Regs L E (y.pass n) :=
  ⟨h.live, h.pend, h.raw⟩

/-! ### The stages of a word (R58) -/

theorem Die.stages_of_done {x : Die} {upto : Nat} (h : x.rakeRuns = false ∨ upto ≤ x.rake.begun) (env : Env) (late : List Nat)
    (next : List (Nat × Ecc)) (n : Nat) : x.stages env upto late next n = x := by
  cases n with
  | zero => rfl
  | succ n => obtain h | h := h <;> simp [Die.stages, h, Nat.not_lt.2]

/-- A command that names the stage that comes next carries out that stage. -/
theorem Die.nameStage_next {x y : Die} {env : Env} {stage : Nat} {has : RakeWord → Bool} {late : List Nat}
    {next : List (Nat × Ecc)} (hr : x.rakeRuns = true) (hh : x.rake.held = false) (hb : x.rake.begun = stage)
    (hw : has x.rakeNow = true) (hy : x.stage1 env late next = y) (hd : y.rakeRuns = false ∨ y.rake.begun = stage + 1) :
    x.nameStage env stage has late next = y := by
  have hdone : y.rakeRuns = false ∨ stage + 1 ≤ y.rake.begun := hd.imp_right fun h => h.ge
  have hstep : x.stages env (stage + 1) late next 6 = y := by
    rw [Die.stages, if_pos (by simp [hr, hb]), hy, Die.stages_of_done hdone]
  simpa [Die.nameStage, hr, hh, hb, hw] using hstep

/-- The Rake with one stage more of its word acted. -/
def Rake.stageOn (r : Rake) : Rake := { r with begun := r.begun + 1 }

section
variable {x : Die} (env : Env) (late : List Nat) (next : List (Nat × Ecc))

theorem Die.stage1_rowop (h : x.rake.begun = 1) :
    x.stage1 env late next = (x.onRake Rake.stageOn).rowop x.rakeNow env.now := by simp only [Die.stage1, h]; rfl

theorem Die.stage1_ldc0 (h : x.rake.begun = 2) (hw : x.rakeNow.ldc0 = true) :
    x.stage1 env late next = (x.onRake Rake.stageOn).set F.SEQ_CNT_C0 (x.get F.SEQ_WIN_ROWS_M1 + 1) := by
  simp only [Die.stage1, h, hw, if_true]; rfl

theorem Die.stage1_ldc1 (h : x.rake.begun = 3) (hw : x.rakeNow.ldc1 = true) :
    x.stage1 env late next = (x.onRake Rake.stageOn).set F.SEQ_CNT_C1 (x.get F.SEQ_LOOP1_COUNT) := by
  simp only [Die.stage1, h, hw, if_true]; rfl

theorem Die.stage1_scan (h : x.rake.begun = 4) : x.stage1 env late next = (x.onRake Rake.stageOn).scanOp x.rakeNow := by
  simp only [Die.stage1, h]; rfl

/-- The markers that only fire an event (Table 2.8), with the samples of the word after them. -/
theorem Die.stage1_userMarker (h : x.rake.begun = 5) {k : Nat} (hm : x.rakeNow.mark = 5 + k) (hk : k < 3)
    (hr : x.rakeRuns = true) :
    x.stage1 env late next = ((x.onRake Rake.stageOn).fire (131 + k)).addScan x.rakeNow.cycles := by
  have hruns : ((x.onRake Rake.stageOn).fire (131 + k)).rakeRuns = true := by
    simpa [Die.rakeRuns, Die.fire_get _ _ (f := F.SEQ_PC_STATE) (by decide)] using hr
  have hmark : (x.onRake Rake.stageOn).marker env x.rakeNow late next = (x.onRake Rake.stageOn).fire (131 + k) := by
    unfold Die.marker
    rw [hm]
    interval_cases k <;> rfl
  have hne : 5 + k ≠ 3 := by omega
  have hz : (x.onRake fun r => { r with begun := r.begun + 1 }).marker env x.rakeNow late next =
    (x.onRake Rake.stageOn).fire (131 + k) := hmark
  simp [Die.stage1, h, hz, hm, hne, hruns]

/-- A row address in the array goes to RA. -/
theorem Die.rowop_next {w : RakeWord} (hw : w.rowop = 1) (now : Nat) :
    x.rowop w now = if x.get F.SEQ_ARRAY_ROWS_M1 < x.get F.SEQ_ROW_RA + 1 then x.rakeHalt (some 2) now
      else x.set F.SEQ_ROW_RA (x.get F.SEQ_ROW_RA + 1) := by
  simp [Die.rowop, hw]

theorem Die.rowop_first {w : RakeWord} (hw : w.rowop = 2) (now : Nat) :
    x.rowop w now = if x.get F.SEQ_ARRAY_ROWS_M1 < x.get F.SEQ_WIN_ROW0 then x.rakeHalt (some 2) now
      else x.set F.SEQ_ROW_RA (x.get F.SEQ_WIN_ROW0) := by
  simp [Die.rowop, hw]

end

/-! ### The Rake's stop (R59, R74) -/

/-- The Rake as a stop leaves it: the outputs in their stop states, no word under way, no row, no scan and no tick. -/
def Rake.halted (r : Rake) : Rake :=
  { r with held := false, scanning := false, tail := none, tick := false, early := false, begun := 0, again := false, row := none,
           blankRow := false, rowen := false, biasen := false, blindsel := false }

section
variable {x : Die} (hr : x.rakeRuns = true) (hf : x.rake.frameOpen = false) (he : x.cal.event = none)
include hr hf he

/-- A stop with no frame open and no event in progress. -/
theorem Die.rakeHalt_none (now : Nat) :
    x.rakeHalt none now = (((x.onRake Rake.halted).set F.SEQ_CTRL_EN 0).set F.SEQ_PC_STATE 0).fire 140 := by
  have hquit : x.rakeQuit none now = ((x.onRake Rake.halted).set F.SEQ_CTRL_EN 0).set F.SEQ_PC_STATE 0 := by
    simp [Die.rakeQuit, hr, Die.abandonFrame, hf, Die.calAbandon, he]
    rfl
  simp [Die.rakeHalt, hr, hquit]

/-- A fault, with its cause and the word's address. -/
theorem Die.rakeHalt_some (c now : Nat) :
    x.rakeHalt (some c) now =
      ((((((x.onRake Rake.halted).set F.SEQ_CTRL_EN 0).set F.SEQ_PC_STATE 4).set F.SEQ_FAULT_CAUSE c).set F.SEQ_FAULT_ADDR
        (x.get F.SEQ_PC_PC)).cond 139 true).fire 140 := by
  have hquit : x.rakeQuit (some c) now =
      (((((x.onRake Rake.halted).set F.SEQ_CTRL_EN 0).set F.SEQ_PC_STATE 4).set F.SEQ_FAULT_CAUSE c).set F.SEQ_FAULT_ADDR
        (x.get F.SEQ_PC_PC)).cond 139 true := by
    have hpc : (((x.onRake Rake.halted).set F.SEQ_CTRL_EN 0).set F.SEQ_PC_STATE 4).get F.SEQ_PC_PC = x.get F.SEQ_PC_PC := by
      simp (disch := decide) [Die.get_set_ne]
    rw [← hpc]
    simp [Die.rakeQuit, hr, Die.abandonFrame, hf, Die.calAbandon, he]
    rfl
  simp [Die.rakeHalt, hr, hquit]

end

/-- What a stop reports (R74), seen from the die before it. -/
structure Die.Stopped (x : Die) (y : Die) : Prop where
  en : y.on F.SEQ_CTRL_EN = false
  state : y.get F.SEQ_PC_STATE = 0
  stopped : y.pends 140 = true
  runs : y.rakeRuns = false
  only : ({ x with rake := y.rake } : Die).only [F.SEQ_CTRL_EN, F.SEQ_PC_STATE] [140] y

/-- What a stop with a fault reports (R59), seen from the die before it. -/
structure Die.Faulted (x : Die) (cause : Nat) (y : Die) : Prop where
  cause : y.get F.SEQ_FAULT_CAUSE = cause
  addr : y.get F.SEQ_FAULT_ADDR = x.get F.SEQ_PC_PC % 2 ^ F.SEQ_FAULT_ADDR.width
  fault : y.condOn 139 = true
  stopped : y.pends 140 = true
  runs : y.rakeRuns = false
  only : ({ x with rake := y.rake } : Die).only [F.SEQ_CTRL_EN, F.SEQ_PC_STATE, F.SEQ_FAULT_CAUSE, F.SEQ_FAULT_ADDR] [139, 140] y

section
variable {c : Instr} {s : State} {d : DieId} {f : Env → Die → Die} {k : Rake → Rake} (hc : exec c s = onDie d s f)
  (hr : s.running d) (hruns : (s.die d).rakeRuns = true) (hframe : (k (s.die d).rake).frameOpen = false)
  (hevent : (s.die d).cal.event = none)
include hc hr hruns hframe hevent

/-- A command that stops the Rake, after a change of the Rake alone. -/
theorem rakeHalt_effect (hf : f (s.env d) (s.fresh d) = ((s.fresh d).onRake k).rakeHalt none s.now) :
    Effect c d s (s.die d).Stopped := by
  rw [Die.rakeHalt_none (by exact hruns) (by exact hframe) (by exact hevent)] at hf
  refine effect_to hc hr hf (by simp) (by simp) ⟨?_, ?_, Die.fire_pends _ (by decide), ?_, Die.only_of_butRake ?_ (by simp)⟩
  · simp (disch := decide) [Die.fire_on, Die.on_set_ne, Die.on_set_self]
  · simp (disch := decide) [Die.fire_get, Die.get_set_of_lt]
  · simp (disch := decide) [Die.rakeRuns, Die.fire_get, Die.get_set_of_lt]
  · exact .settled <| .fire (by simp) <| .set (by simp) <| .set (by simp) <| .onRake <| .onRake <| .fresh s d _ _

/-- A command that stops the Rake with a fault, after a change of the Rake alone. -/
theorem rakeFault_effect {cause : Nat} (hcause : cause < 16)
    (hf : f (s.env d) (s.fresh d) = ((s.fresh d).onRake k).rakeHalt (some cause) s.now) :
    Effect c d s ((s.die d).Faulted cause) := by
  rw [Die.rakeHalt_some (by exact hruns) (by exact hframe) (by exact hevent)] at hf
  refine effect_to hc hr hf (by simp) (by simp)
    ⟨?_, ?_, ?_, Die.fire_pends _ (by decide), ?_, Die.only_of_butRake ?_ (by simp)⟩
  · simp (disch := decide) [Die.fire_get, Die.cond_get, Die.get_set_ne, Die.get_set_self]
    exact Nat.mod_eq_of_lt hcause
  · simp (disch := decide) [Die.fire_get, Die.cond_get, Die.get_set_self]
  · simp [Die.cond_condOn]
  · simp (disch := decide) [Die.rakeRuns, Die.fire_get, Die.cond_get, Die.get_set_ne, Die.get_set_of_lt]
  · exact .settled <| .fire (by simp) <| .cond (by simp) <| .set (by simp) <| .set (by simp) <| .set (by simp) <|
      .set (by simp) <| .onRake <| .onRake <| .fresh s d _ _

end

end Sys2Proof.Machine

/-! The parts of a Rake word: row address, counters, scan and user markers (O22). -/

namespace Sys2Proof.Machine

/-! ### Commands that name a stage -/

/-- The next stage of the word in force is `stage`, and no row is held. -/
structure Die.AtStage (x : Die) (stage : Nat) : Prop where
  runs : x.rakeRuns = true
  free : x.rake.held = false
  begun : x.rake.begun = stage

section
variable {c : Instr} {s : State} {d : DieId} {stage : Nat} {has : RakeWord → Bool} {late : List Nat} {next : List (Nat × Ecc)}
  (hr : s.running d) (hat : (s.die d).AtStage stage) (hw : has (s.die d).rakeNow = true)
  (hc : exec c s = onDie d s fun env x => x.nameStage env stage has late next)
include hr hat hw hc

/-- What a command that names the stage does is that stage. -/
theorem stage_effect {y : Die} {P : Die → Prop} (hy : (s.fresh d).stage1 (s.env d) late next = y)
    (hd : y.rakeRuns = false ∨ y.rake.begun = stage + 1) (hwr : y.wr = []) (hcut : y.dramCut = false) (hP : P y.settled) :
    Effect c d s P := by
  obtain ⟨hruns, hheld, hbegun⟩ := hat
  exact effect_to hc hr (Die.nameStage_next (x := s.fresh d) hruns hheld hbegun hw hy hd) hwr hcut hP

/-- A stage that sets one field. -/
theorem stageSet_effect {f : Fld} {v : Nat}
    (hy : (s.fresh d).stage1 (s.env d) late next = ((s.fresh d).onRake Rake.stageOn).set f v) :
    Effect c d s (fun y => y.get f = v % 2 ^ f.width ∧ y.rake = { (s.die d).rake with begun := stage + 1 } ∧
      ({ s.die d with rake := y.rake } : Die).only [f] [] y) := by
  obtain ⟨hruns, hheld, hbegun⟩ := hat
  refine stage_effect hr ⟨hruns, hheld, hbegun⟩ hw hc hy (.inr ?_) rfl rfl ⟨?_, ?_, ?_⟩
  · simp [Rake.stageOn, hbegun]
  · simp [Die.get_set_self]
  · simp [Rake.stageOn, hbegun]
  · exact Die.only_of_butRake (.settled <| .set (by simp) <| .onRake <| .fresh s d _ _) rfl

/-- A stage that changes the Rake alone. -/
theorem stageRake_effect {k : Rake → Rake} {r : Rake}
    (hy : (s.fresh d).stage1 (s.env d) late next = (s.fresh d).onRake k) (hk : k (s.die d).rake = r)
    (hb : r.begun = stage + 1) :
    Effect c d s (fun y => y.rake = r ∧ ({ s.die d with rake := y.rake } : Die).only [] [] y) := by
  subst hk
  exact stage_effect hr hat hw hc hy (.inr hb) rfl rfl
    ⟨rfl, Die.only_of_butRake (.settled <| .onRake <| .fresh s d _ _) rfl⟩

end

/-! ### ROWOP and LDC -/

section
variable {s : State} {d : DieId} (hr : s.running d)
include hr

theorem loadC0_effect (hat : (s.die d).AtStage 2) (hw : (s.die d).rakeNow.ldc0 = true) :
    Effect (.loadC0 d) d s (fun y =>
      y.get F.SEQ_CNT_C0 = ((s.die d).get F.SEQ_WIN_ROWS_M1 + 1) % 2 ^ F.SEQ_CNT_C0.width ∧
        y.rake = { (s.die d).rake with begun := 3 } ∧ ({ s.die d with rake := y.rake } : Die).only [F.SEQ_CNT_C0] [] y) :=
  stageSet_effect hr hat hw rfl (Die.stage1_ldc0 _ _ _ hat.begun hw)

theorem loadC1_effect (hat : (s.die d).AtStage 3) (hw : (s.die d).rakeNow.ldc1 = true) :
    Effect (.loadC1 d) d s (fun y =>
      y.get F.SEQ_CNT_C1 = (s.die d).get F.SEQ_LOOP1_COUNT % 2 ^ F.SEQ_CNT_C1.width ∧
        y.rake = { (s.die d).rake with begun := 4 } ∧ ({ s.die d with rake := y.rake } : Die).only [F.SEQ_CNT_C1] [] y) :=
  stageSet_effect hr hat hw rfl (Die.stage1_ldc1 _ _ _ hat.begun hw)

/-- A ROWOP whose row address lies in the array. -/
theorem rowop_effect {c : Instr} {has : RakeWord → Bool} {ra : Nat} (hat : (s.die d).AtStage 1)
    (hw : has (s.die d).rakeNow = true) (hc : exec c s = onDie d s fun env x => x.nameStage env 1 has)
    (hy : ((s.fresh d).onRake Rake.stageOn).rowop (s.die d).rakeNow s.now = ((s.fresh d).onRake Rake.stageOn).set F.SEQ_ROW_RA ra)
    (hra : ra < 2048) :
    Effect c d s (fun y => y.get F.SEQ_ROW_RA = ra ∧ y.rake = { (s.die d).rake with begun := 2 } ∧
      ({ s.die d with rake := y.rake } : Die).only [F.SEQ_ROW_RA] [] y) := by
  have h := stageSet_effect hr hat hw hc ((Die.stage1_rowop (x := s.fresh d) _ _ _ hat.begun).trans hy)
  rwa [show ra % 2 ^ F.SEQ_ROW_RA.width = ra from Nat.mod_eq_of_lt hra] at h

theorem rowopNext_effect (hat : (s.die d).AtStage 1) (hw : (s.die d).rakeNow.rowop = 1)
    (hin : (s.die d).get F.SEQ_ROW_RA + 1 ≤ (s.die d).get F.SEQ_ARRAY_ROWS_M1)
    (htop : (s.die d).get F.SEQ_ARRAY_ROWS_M1 < 2048) :
    Effect (.rowopNext d) d s (fun y => y.get F.SEQ_ROW_RA = (s.die d).get F.SEQ_ROW_RA + 1 ∧
      y.rake = { (s.die d).rake with begun := 2 } ∧ ({ s.die d with rake := y.rake } : Die).only [F.SEQ_ROW_RA] [] y) := by
  refine rowop_effect hr hat (has := fun w => w.rowop = 1) (by simpa using hw) rfl ?_ (by omega)
  simp [Die.rowop_next hw, Nat.not_lt.2 hin]

theorem rowopFirst_effect (hat : (s.die d).AtStage 1) (hw : (s.die d).rakeNow.rowop = 2)
    (hin : (s.die d).get F.SEQ_WIN_ROW0 ≤ (s.die d).get F.SEQ_ARRAY_ROWS_M1)
    (htop : (s.die d).get F.SEQ_ARRAY_ROWS_M1 < 2048) :
    Effect (.rowopFirst d) d s (fun y => y.get F.SEQ_ROW_RA = (s.die d).get F.SEQ_WIN_ROW0 ∧
      y.rake = { (s.die d).rake with begun := 2 } ∧ ({ s.die d with rake := y.rake } : Die).only [F.SEQ_ROW_RA] [] y) := by
  refine rowop_effect hr hat (has := fun w => w.rowop = 2) (by simpa using hw) rfl ?_ (by omega)
  simp [Die.rowop_first hw, Nat.not_lt.2 hin]

/-- R59: a row address outside the array is fault 2. -/
theorem rowopNext_fault (hat : (s.die d).AtStage 1) (hw : (s.die d).rakeNow.rowop = 1)
    (hout : (s.die d).get F.SEQ_ARRAY_ROWS_M1 < (s.die d).get F.SEQ_ROW_RA + 1)
    (hframe : (s.die d).rake.frameOpen = false) (hevent : (s.die d).cal.event = none) :
    Effect (.rowopNext d) d s ((s.die d).Faulted 2) := by
  obtain ⟨hruns, hheld, hbegun⟩ := hat
  have hy : (s.fresh d).stage1 (s.env d) [] [] = ((s.fresh d).onRake Rake.stageOn).rakeHalt (some 2) s.now := by
    rw [Die.stage1_rowop _ _ _ (by exact hbegun), Die.rowop_next (by exact hw), if_pos (by exact hout)]
    rfl
  have hstop : (((s.fresh d).onRake Rake.stageOn).rakeHalt (some 2) s.now).rakeRuns = false := by
    rw [Die.rakeHalt_some (by exact hruns) (by exact hframe) (by exact hevent)]
    simp (disch := decide) [Die.rakeRuns, Die.fire_get, Die.cond_get, Die.get_set_ne, Die.get_set_of_lt]
  exact rakeFault_effect rfl hr hruns hframe hevent (by decide)
    (Die.nameStage_next (x := s.fresh d) hruns hheld hbegun (decide_eq_true hw) hy (.inl hstop))

end

/-! ### The scan (R56) -/

/-- A slot is under way where the word begins, and ends at the first CONV edge from there on. -/
abbrev Rake.slotUnderWay (r : Rake) : Prop := r.scanning = true ∧ r.cyc % 3 ≠ 0 ∧ r.next ≤ (r.cyc + 2) / 3

/-- SCAN RUN: scanning from phase 0, while a slot under way ends by itself. -/
def Rake.scanFrom0 (r : Rake) : Rake :=
  { r with begun := 5, scanning := true, off := 0, next := (r.cyc + 2) / 3 + 1,
           tail := if r.slotUnderWay then some ((r.cyc + 2) / 3, r.off) else r.tail }

/-- SCAN CONTINUE where no scan runs: it is taken up where it stopped. -/
def Rake.scanTakenUp (r : Rake) : Rake := { r with begun := 5, scanning := true, next := (r.cyc + 2) / 3 + 1 }

/-- SCAN STOP: a slot under way counts as taken. -/
def Rake.scanStopped (r : Rake) : Rake :=
  { r with begun := 5, scanning := false, off := if r.slotUnderWay then r.off + 1 else r.off, next := (r.cyc + 2) / 3 + 1,
           tail := if r.slotUnderWay then some ((r.cyc + 2) / 3, r.off) else r.tail }

section
variable {x : Die} {w : RakeWord} (hb : x.rake.begun = 4)
include hb

theorem Die.scanOp_run (hw : w.scan = 1) : (x.onRake Rake.stageOn).scanOp w = x.onRake (fun _ => x.rake.scanFrom0) := by
  simp [Die.scanOp, Die.onRake, Rake.stageOn, Rake.scanFrom0, Rake.slotUnderWay, hw, hb, and_assoc]

theorem Die.scanOp_continue (hw : w.scan = 2) (hs : x.rake.scanning = true) :
    (x.onRake Rake.stageOn).scanOp w = x.onRake (fun _ => { x.rake with begun := 5 }) := by
  simp [Die.scanOp, Die.onRake, Rake.stageOn, hw, hb, hs]

theorem Die.scanOp_takeUp (hw : w.scan = 2) (hs : x.rake.scanning = false) :
    (x.onRake Rake.stageOn).scanOp w = x.onRake (fun _ => x.rake.scanTakenUp) := by
  simp [Die.scanOp, Die.onRake, Rake.stageOn, Rake.scanTakenUp, hw, hb, hs]

theorem Die.scanOp_stop (hw : w.scan = 0) : (x.onRake Rake.stageOn).scanOp w = x.onRake (fun _ => x.rake.scanStopped) := by
  simp [Die.scanOp, Die.onRake, Rake.stageOn, Rake.scanStopped, Rake.slotUnderWay, hw, hb, and_assoc]

end

/-- A command that names the scan stage. -/
theorem scan_effect {s : State} {d : DieId} {c : Instr} {has : RakeWord → Bool} {r : Rake} (hr : s.running d)
    (hat : (s.die d).AtStage 4) (hw : has (s.die d).rakeNow = true)
    (hc : exec c s = onDie d s fun env x => x.nameStage env 4 has)
    (hy : ((s.fresh d).onRake Rake.stageOn).scanOp (s.die d).rakeNow = (s.fresh d).onRake (fun _ => r)) (hb : r.begun = 5) :
    Effect c d s (fun y => y.rake = r ∧ ({ s.die d with rake := y.rake } : Die).only [] [] y) :=
  stageRake_effect hr hat hw hc ((Die.stage1_scan (x := s.fresh d) _ _ _ hat.begun).trans hy) rfl hb

/-! ### The samples of a word (R57) -/

section
variable (x : Die) (n : Nat)

/-- The samples of a word change the open rows alone. -/
theorem Die.addScan_eq : x.addScan n = x.onAcb (fun _ => (x.addScan n).acb) := by
  unfold Die.addScan
  dsimp only
  split
  · rfl
  · split <;> rfl

theorem Die.addScan_of_noRow {x : Die} (h : x.rake.frameOpen = false ∨ x.rake.row = none) : x.addScan n = x := by
  obtain h | h := h <;> simp [Die.addScan, h]

/-- Where a row of the frame is open, the word's samples go to it. -/
theorem Die.addScan_openRow {x : Die} {rs : List OpenRow} {r : OpenRow} (hf : x.rake.frameOpen = true)
    (hrows : x.acb.rows = rs ++ [r]) (hframe : r.frame = x.frame.num) (hrow : x.rake.row = some r.row) :
    (x.addScan n).acb = { x.acb with rows := rs ++ [{ r with scan := r.scan ++ x.scanPart n }] } := by
  unfold Die.addScan
  dsimp only
  split
  next hnone => simp [List.isEmpty_iff.1 hnone, ← hrows]
  next => simp [hf, hrow, Die.onAcb, hrows, hframe]

end

theorem Die.Regs.onAcb {x y : Die} {L : List Fld} {E : List Nat} {a : Acb → Acb} (h : x.Regs L E y) :
    x.Regs L E (y.onAcb a) := ⟨h.live, h.pend, h.raw⟩

theorem Die.only_of_butRakeAcb {x y : Die} {L : List Fld} {E : List Nat} (h : x.Regs L E y)
    (hb : y.butRake = { x.butRake with acb := y.acb }) : ({ x with rake := y.rake, acb := y.acb } : Die).only L E y :=
  Die.only_of_regs h (congrArg (fun z : Die => { z with rake := y.rake }) hb) rfl rfl rfl

@[simp] theorem State.fresh_rakeNow (s : State) (d : DieId) : (s.fresh d).rakeNow = (s.die d).rakeNow := rfl
@[simp] theorem State.fresh_scanPart (s : State) (d : DieId) (n : Nat) : (s.fresh d).scanPart n = (s.die d).scanPart n := rfl

/-! ### The user markers (Table 2.8) -/

/-- A die whose word has fired its user marker: the word's samples follow. -/
def Die.userMarked (x : Die) (k : Nat) : Die := ((x.onRake Rake.stageOn).fire (131 + k)).addScan x.rakeNow.cycles

section
variable (x : Die) (k : Nat)

theorem Die.userMarked_eq :
    x.userMarked k = ((x.onRake Rake.stageOn).fire (131 + k)).onAcb (fun _ => (x.userMarked k).acb) :=
  Die.addScan_eq _ _

@[simp] theorem Die.userMarked_rake : (x.userMarked k).rake = x.rake.stageOn := by rw [Die.userMarked_eq]; simp [Die.onAcb]
@[simp] theorem Die.userMarked_wr : (x.userMarked k).wr = x.wr := by rw [Die.userMarked_eq]; simp [Die.onAcb]
@[simp] theorem Die.userMarked_dramCut : (x.userMarked k).dramCut = x.dramCut := by rw [Die.userMarked_eq]; simp [Die.onAcb]

theorem Die.userMarked_pends (hk : k < 3) : (x.userMarked k).pends (131 + k) = true := by
  have h : ((x.onRake Rake.stageOn).fire (131 + k)).pends (131 + k) = true := Die.fire_pends _ (by omega)
  rw [Die.userMarked_eq]
  exact h

theorem Die.userMarked_acb_of_noRow {x : Die} (h : x.rake.frameOpen = false ∨ x.rake.row = none) :
    (x.userMarked k).acb = x.acb := by
  have hrow : ((x.onRake Rake.stageOn).fire (131 + k)).rake.frameOpen = false ∨
      ((x.onRake Rake.stageOn).fire (131 + k)).rake.row = none := by simpa [Rake.stageOn] using h
  rw [Die.userMarked, Die.addScan_of_noRow _ hrow]
  simp

theorem Die.userMarked_acb_openRow {x : Die} {rs : List OpenRow} {r : OpenRow} (hf : x.rake.frameOpen = true)
    (hrows : x.acb.rows = rs ++ [r]) (hframe : r.frame = x.frame.num) (hrow : x.rake.row = some r.row) :
    (x.userMarked k).acb =
      { x.acb with rows := rs ++ [{ r with scan := r.scan ++ x.scanPart x.rakeNow.cycles }] } := by
  have h := Die.addScan_openRow (x := (x.onRake Rake.stageOn).fire (131 + k)) x.rakeNow.cycles (rs := rs) (r := r)
    (by simpa [Rake.stageOn] using hf) (by simpa using hrows) (by simpa using hframe) (by simpa [Rake.stageOn] using hrow)
  rw [Die.userMarked, h]
  simp [Die.scanPart, Rake.stageOn]

theorem Die.userMarked_regs : x.Regs [] [131 + k] (x.userMarked k) := by
  rw [Die.userMarked_eq]
  exact .onAcb <| .fire (by simp) <| .onRake <| .refl x _ _

theorem Die.userMarked_butRake : (x.userMarked k).butRake = { x.butRake with acb := (x.userMarked k).acb } := by
  have hb : ((x.onRake Rake.stageOn).fire (131 + k)).butRake = x.butRake := by simp
  rw [← hb]
  conv_lhs => rw [Die.userMarked_eq]
  rfl

end

theorem userMarked_settled_only (s : State) (d : DieId) (k : Nat) :
    ({ s.die d with rake := ((s.fresh d).userMarked k).settled.rake, acb := ((s.fresh d).userMarked k).settled.acb } : Die).only
      [] [131 + k] ((s.fresh d).userMarked k).settled := by
  refine Die.only_of_butRakeAcb (Die.userMarked_regs _ k).settled.of_fresh ?_
  rw [Die.settled_butRake, Die.userMarked_butRake, State.fresh_butRake, Die.settled_acb]

section
variable {s : State} {d : DieId} {k : Nat} (hr : s.running d) (hat : (s.die d).AtStage 5)
  (hm : (s.die d).rakeNow.mark = 5 + k) (hk : k < 3)
include hr hat hm hk

/-- USER_MARKER: its event, and the samples of its word. -/
theorem userMarker_effect {P : Die → Prop} (hP : P ((s.fresh d).userMarked k).settled) :
    Effect (.userMarker d) d s P := by
  have hy := Die.stage1_userMarker (x := s.fresh d) (s.env d) [] [] hat.begun hm hk hat.runs
  refine stage_effect hr hat (has := fun w => 5 ≤ w.mark && w.mark ≤ 7) (by simp [hm]; omega) rfl (y := (s.fresh d).userMarked k)
    hy (.inr ?_) (by simp) (by simp) hP
  simp [Rake.stageOn, hat.begun]

end

/-! ### O22 -/

/-- Settles O22: each command names the stage that comes next, and the stage is a write of one field, a change of the scan, a fault
or an event with the samples of the word. -/
theorem rakeWordParts : Obligations.RakeWordParts := by
  unfold Obligations.RakeWordParts
  rintro s d k x hr rfl
  refine ⟨fun hruns hh hb hw => rowopNext_effect hr ⟨hruns, hh, hb⟩ hw, fun hruns hh hb hw hout hframe hevent => ?_,
    fun hruns hh hb hw => rowopFirst_effect hr ⟨hruns, hh, hb⟩ hw, fun hruns hh hb hw => loadC0_effect hr ⟨hruns, hh, hb⟩ hw,
    fun hruns hh hb hw => loadC1_effect hr ⟨hruns, hh, hb⟩ hw, fun hruns hh hb hw => ?_, fun hruns hh hb hw hs => ?_,
    fun hruns hh hb hw hs => ?_, fun hruns hh hb hw => ?_, fun hruns hh hb hm hk => ?_,
    fun rs r hruns hh hb hm hk hframe hrows hnum hrow => ?_⟩
  · refine (rowopNext_fault hr ⟨hruns, hh, hb⟩ hw hout hframe hevent).mono ?_
    rintro y ⟨hcause, haddr, hfault, hstopped, hstill, honly⟩
    have hra : y.get F.SEQ_ROW_RA = (s.die d).get F.SEQ_ROW_RA := Die.only_get honly (by decide) (by decide) (by decide)
    exact ⟨hcause, haddr, hfault, hstopped, hstill, hra, honly⟩
  · exact scan_effect hr ⟨hruns, hh, hb⟩ (decide_eq_true hw) rfl (Die.scanOp_run (x := s.fresh d) hb hw) rfl
  · exact scan_effect hr ⟨hruns, hh, hb⟩ (decide_eq_true hw) rfl (Die.scanOp_continue (x := s.fresh d) hb hw hs) rfl
  · exact scan_effect hr ⟨hruns, hh, hb⟩ (decide_eq_true hw) rfl (Die.scanOp_takeUp (x := s.fresh d) hb hw hs) rfl
  · exact scan_effect hr ⟨hruns, hh, hb⟩ (decide_eq_true hw) rfl (Die.scanOp_stop (x := s.fresh d) hb hw) rfl
  · refine userMarker_effect hr ⟨hruns, hh, hb⟩ hm hk ⟨?_, ?_, fun hnone => ?_, ?_⟩
    · rw [Die.settled_pends, Die.userMarked_pends _ _ hk]
    · simp [Rake.stageOn, hb]
    · rw [Die.settled_acb, Die.userMarked_acb_of_noRow (x := s.fresh d) k hnone, State.fresh_acb]
    · exact userMarked_settled_only s d k
  · refine userMarker_effect hr ⟨hruns, hh, hb⟩ hm hk ⟨?_, ?_⟩
    · rw [Die.settled_acb, Die.userMarked_acb_openRow (x := s.fresh d) k hframe hrows hnum hrow, State.fresh_acb,
        State.fresh_scanPart, State.fresh_rakeNow]
    · exact userMarked_settled_only s d k

end Sys2Proof.Machine

/-! The flow from word to word (O21). -/

namespace Sys2Proof.Machine

/-! ### A word begins (R58, R59) -/

/-- The word that address `pc` of the store spells is none of R59's reserved ones. -/
abbrev Die.wordGood (x : Die) (pc : Nat) : Prop := (rakeWord ((x.rake.store.look (pc % 256)).getD 0)).reserved = false

theorem Die.wordGood_mod {x : Die} {pc : Nat} (h : x.wordGood pc) : x.wordGood (pc % 256) := by
  rwa [Die.wordGood, Nat.mod_mod]

/-- The word at `pc` begins, from the die `x`: the Rake is at its start, and the pins take its levels. -/
structure Die.WordBegins (x : Die) (pc : Nat) (y : Die) : Prop where
  pc : y.get F.SEQ_PC_PC = pc % 256
  state : y.get F.SEQ_PC_STATE = if x.get F.SEQ_PC_STATE = 2 then 1 else x.get F.SEQ_PC_STATE
  begun : y.rake.begun = 0
  tick : y.rake.tick = x.rake.tick
  rowen : y.rake.rowen = y.rakeNow.rowen
  biasen : y.rake.biasen = y.rakeNow.biasen
  blindsel : y.rake.blindsel = y.rakeNow.blindsel
  regs : x.Regs [F.SEQ_PC_PC, F.SEQ_PC_STATE] [] y
  raw : y.evRaw = x.evRaw
  behind : y.butRake = x.butRake

/-- The Rake at the start of a word. -/
def Rake.atStart (r : Rake) : Rake := { r with begun := 0, held := false, early := false }

/-- The die with the address of a word in PC, and a waiting Rake running again. -/
def Die.wordAt (x : Die) (pc : Nat) : Die :=
  if x.get F.SEQ_PC_STATE = 2 then ((x.set F.SEQ_PC_PC pc).onRake Rake.atStart).set F.SEQ_PC_STATE 1
  else (x.set F.SEQ_PC_PC pc).onRake Rake.atStart

section
variable (x : Die) (pc : Nat)

theorem Die.wordAt_rake : (x.wordAt pc).rake = x.rake.atStart := by unfold Die.wordAt; split <;> rfl
theorem Die.wordAt_evRaw : (x.wordAt pc).evRaw = x.evRaw := by unfold Die.wordAt; split <;> rfl
theorem Die.wordAt_wr : (x.wordAt pc).wr = x.wr := by unfold Die.wordAt; split <;> rfl
theorem Die.wordAt_dramCut : (x.wordAt pc).dramCut = x.dramCut := by unfold Die.wordAt; split <;> rfl
theorem Die.wordAt_butRake : (x.wordAt pc).butRake = x.butRake := by unfold Die.wordAt; split <;> rfl

theorem Die.wordAt_pc : (x.wordAt pc).get F.SEQ_PC_PC = pc % 256 := by
  unfold Die.wordAt
  split
  · rw [Die.get_set_ne _ _ (by decide) (by decide), Die.onRake_get, Die.get_set_self]; rfl
  · rw [Die.onRake_get, Die.get_set_self]; rfl

theorem Die.wordAt_state :
    (x.wordAt pc).get F.SEQ_PC_STATE = if x.get F.SEQ_PC_STATE = 2 then 1 else x.get F.SEQ_PC_STATE := by
  unfold Die.wordAt
  split
  · rw [Die.get_set_of_lt _ (by decide)]
  · rw [Die.onRake_get, Die.get_set_ne _ _ (by decide) (by decide)]

theorem Die.wordAt_regs : x.Regs [F.SEQ_PC_PC, F.SEQ_PC_STATE] [] (x.wordAt pc) := by
  unfold Die.wordAt
  split
  · exact .set (by simp) <| .onRake <| .set (by simp) <| .refl x _ _
  · exact .onRake <| .set (by simp) <| .refl x _ _

theorem Die.wordAt_rakeNow : (x.wordAt pc).rakeNow = rakeWord ((x.rake.store.look (pc % 256)).getD 0) := by
  rw [Die.rakeNow, Die.wordAt_rake, Die.wordAt_pc]; rfl

/-- A word that reads clean. -/
theorem Die.enterWord_clean {x : Die} {pc : Nat} (h : x.wordGood pc) (now : Nat) :
    x.enterWord pc .clean now = (x.wordAt pc).rakeLevels (x.wordAt pc).rakeNow := by
  have hstate : ((x.set F.SEQ_PC_PC pc).onRake Rake.atStart).get F.SEQ_PC_STATE = x.get F.SEQ_PC_STATE := by
    rw [Die.onRake_get, Die.get_set_ne _ _ (by decide) (by decide)]
  have hword : x.wordAt pc =
      if ((x.set F.SEQ_PC_PC pc).onRake Rake.atStart).get F.SEQ_PC_STATE = 2 then
        ((x.set F.SEQ_PC_PC pc).onRake Rake.atStart).set F.SEQ_PC_STATE 1
      else (x.set F.SEQ_PC_PC pc).onRake Rake.atStart := by
    rw [hstate]; rfl
  have hgood : (x.wordAt pc).rakeNow.reserved = false := by rw [Die.wordAt_rakeNow]; exact h
  rw [hword] at hgood ⊢
  simp only [Die.enterWord, reduceCtorEq, if_false]
  exact if_neg (ne_true_of_eq_false hgood)

theorem Die.enterWord_begins {x : Die} {pc : Nat} (h : x.wordGood pc) (now : Nat) :
    x.WordBegins pc (x.enterWord pc .clean now) := by
  rw [Die.enterWord_clean h]
  have hnow : ((x.wordAt pc).rakeLevels (x.wordAt pc).rakeNow).rakeNow = (x.wordAt pc).rakeNow := rfl
  exact {
    pc := Die.wordAt_pc x pc
    state := Die.wordAt_state x pc
    begun := by simp [Die.rakeLevels, Die.wordAt_rake, Rake.atStart]
    tick := by simp [Die.rakeLevels, Die.wordAt_rake, Rake.atStart]
    rowen := by rw [hnow]; rfl
    biasen := by rw [hnow]; rfl
    blindsel := by rw [hnow]; rfl
    regs := .onRake (Die.wordAt_regs x pc)
    raw := Die.wordAt_evRaw x pc
    behind := Die.wordAt_butRake x pc }

theorem Die.WordBegins.settled {x y : Die} {pc : Nat} (h : x.WordBegins pc y) : x.WordBegins pc y.settled :=
  ⟨h.pc, h.state, h.begun, h.tick, h.rowen, h.biasen, h.blindsel, h.regs.settled, h.raw, h.behind⟩

/-- What the die was changed in before the word began, the word's beginning leaves, but for PC. -/
theorem Die.WordBegins.only {x y z : Die} {pc : Nat} {L : List Fld} {E : List Nat} (h : z.WordBegins pc y) (hz : x.Regs L E z)
    (hb : z.butRake = x.butRake) (hp : F.SEQ_PC_PC ∈ L) (hs : F.SEQ_PC_STATE ∈ L) :
    ({ x with rake := y.rake } : Die).only L E y :=
  Die.only_of_butRake (hz.trans h.regs (by simp [hp, hs]) (by simp)) (h.behind.trans hb)

end

/-- A command after which a word begins that reads clean. -/
theorem enterWord_effect {c : Instr} {s : State} {d : DieId} {f : Env → Die → Die} {z : Die} {pc : Nat}
    (hc : exec c s = onDie d s f) (hr : s.running d) (hf : f (s.env d) (s.fresh d) = z.enterWord pc .clean s.now)
    (hgood : z.wordGood pc) (hw : z.wr = []) (hd : z.dramCut = false) : Effect c d s (z.WordBegins pc) := by
  refine effect_to hc hr hf ?_ ?_ (Die.enterWord_begins hgood s.now).settled <;> rw [Die.enterWord_clean hgood]
  · exact (Die.wordAt_wr z pc).trans hw
  · exact (Die.wordAt_dramCut z pc).trans hd

/-! ### The end of a word (R58, R65, Table 2.7) -/

/-- The word in force has only its flow operation, `op`, left. -/
structure Die.AtEnd (x : Die) (op : Nat) : Prop where
  runs : x.rakeRuns = true
  free : x.rake.held = false
  begun : x.rake.begun = 6
  seqop : x.rakeNow.seqop = op

/-- The die with the time of its word gone by. -/
def Die.wordOver (x : Die) : Die := x.pass x.rakeNow.cycles

@[simp] theorem Die.pass_early (x : Die) (n : Nat) : (x.pass n).rake.early = x.rake.early := rfl
@[simp] theorem Die.pass_tick (x : Die) (n : Nat) : (x.pass n).rake.tick = x.rake.tick := rfl
@[simp] theorem Die.pass_get (x : Die) (n : Nat) (f : Fld) : (x.pass n).get f = x.get f := rfl

section
variable {x : Die} (env : Env) (ecc : Ecc)

theorem Die.endWord_next (h : x.AtEnd 0) :
    x.endWord env 0 ecc = x.wordOver.enterWord ((x.get F.SEQ_PC_PC + 1) % 256) ecc env.now := by
  obtain ⟨hruns, hheld, hbegun, hop⟩ := h
  simp [Die.endWord, hruns, hheld, hbegun, hop, Die.stages_of_done, Die.wordOver]

theorem Die.endWord_jump (h : x.AtEnd 1) :
    x.endWord env 1 ecc = x.wordOver.enterWord x.rakeNow.target ecc env.now := by
  obtain ⟨hruns, hheld, hbegun, hop⟩ := h
  simp [Die.endWord, hruns, hheld, hbegun, hop, Die.stages_of_done, Die.wordOver]

theorem Die.endWord_loop0 (h : x.AtEnd 2) :
    x.endWord env 2 ecc = (x.wordOver.set F.SEQ_CNT_C0 (x.get F.SEQ_CNT_C0 - 1)).enterWord
      (if x.get F.SEQ_CNT_C0 - 1 ≠ 0 then x.rakeNow.target else (x.get F.SEQ_PC_PC + 1) % 256) ecc env.now := by
  obtain ⟨hruns, hheld, hbegun, hop⟩ := h
  simp [Die.endWord, hruns, hheld, hbegun, hop, Die.stages_of_done, Die.wordOver]

theorem Die.endWord_loop1 (h : x.AtEnd 3) :
    x.endWord env 3 ecc = (x.wordOver.set F.SEQ_CNT_C1 (x.get F.SEQ_CNT_C1 - 1)).enterWord
      (if x.get F.SEQ_CNT_C1 - 1 ≠ 0 then x.rakeNow.target else (x.get F.SEQ_PC_PC + 1) % 256) ecc env.now := by
  obtain ⟨hruns, hheld, hbegun, hop⟩ := h
  simp [Die.endWord, hruns, hheld, hbegun, hop, Die.stages_of_done, Die.wordOver]

/-- A tick that came early in the WAIT_FRAME word. -/
theorem Die.endWord_early (h : x.AtEnd 4) (he : x.rake.early = true) :
    x.endWord env 4 ecc = x.wordOver.enterWord ((x.get F.SEQ_PC_PC + 1) % 256) ecc env.now := by
  obtain ⟨hruns, hheld, hbegun, hop⟩ := h
  simp [Die.endWord, hruns, hheld, hbegun, hop, Die.stages_of_done, he, Die.wordOver]

/-- The Rake without its pending tick. -/
def Rake.noTick (r : Rake) : Rake := { r with tick := false }

/-- The die with its pending tick taken, too late to be waited for. -/
def Die.tickLate (x : Die) : Die := ((x.wordOver.onRake Rake.noTick).count F.SEQ_TICK_ERR_LATE).fire 134

/-- A tick that was pending when the WAIT_FRAME word began. -/
theorem Die.endWord_late (h : x.AtEnd 4) (he : x.rake.early = false) (ht : x.rake.tick = true) :
    x.endWord env 4 ecc = x.tickLate.enterWord ((x.get F.SEQ_PC_PC + 1) % 256) ecc env.now := by
  obtain ⟨hruns, hheld, hbegun, hop⟩ := h
  simp [Die.endWord, hruns, hheld, hbegun, hop, Die.stages_of_done, he, ht, Die.wordOver, Die.tickLate]
  rfl

/-- The Rake from the instant at which its word waits for a tick. -/
def Rake.waitFrom (now : Nat) (r : Rake) : Rake := { r with begun := 7, waitAt := now }

/-- The die that waits for a tick. -/
def Die.waiting (x : Die) (now : Nat) : Die :=
  if x.get F.SEQ_PC_STATE = 1 then (x.wordOver.onRake (Rake.waitFrom now)).set F.SEQ_PC_STATE 2
  else x.wordOver.onRake (Rake.waitFrom now)

theorem Die.endWord_waits (h : x.AtEnd 4) (he : x.rake.early = false) (ht : x.rake.tick = false) :
    x.endWord env 4 ecc = x.waiting env.now := by
  obtain ⟨hruns, hheld, hbegun, hop⟩ := h
  simp [Die.endWord, hruns, hheld, hbegun, hop, Die.stages_of_done, he, ht, Die.wordOver, Die.waiting]
  rfl

theorem Die.endWord_stop (h : x.AtEnd 5) : x.endWord env 5 ecc = x.wordOver.rakeHalt none env.now := by
  obtain ⟨hruns, hheld, hbegun, hop⟩ := h
  simp [Die.endWord, hruns, hheld, hbegun, hop, Die.stages_of_done, Die.wordOver]

end

section
variable (x : Die) (now : Nat) (L : List Fld) (E : List Nat)

theorem Die.waiting_rake : (x.waiting now).rake = x.wordOver.rake.waitFrom now := by unfold Die.waiting; split <;> rfl
theorem Die.waiting_wr : (x.waiting now).wr = x.wr := by unfold Die.waiting; split <;> rfl
theorem Die.waiting_dramCut : (x.waiting now).dramCut = x.dramCut := by unfold Die.waiting; split <;> rfl
theorem Die.waiting_butRake : (x.waiting now).butRake = x.butRake := by unfold Die.waiting; split <;> rfl

theorem Die.waiting_regs : x.Regs [F.SEQ_PC_STATE] [] (x.waiting now) := by
  unfold Die.waiting
  split
  · exact .set (by simp) <| .onRake <| .pass <| .refl x _ _
  · exact .onRake <| .pass <| .refl x _ _

theorem Die.waiting_state {x : Die} (h : x.get F.SEQ_PC_STATE = 1) : (x.waiting now).get F.SEQ_PC_STATE = 2 := by
  rw [Die.waiting, if_pos h, Die.get_set_of_lt _ (by decide)]

theorem Die.tickLate_rake : x.tickLate.rake = x.wordOver.rake.noTick := by rw [Die.tickLate, Die.fire_rake]; rfl
theorem Die.tickLate_wr : x.tickLate.wr = x.wr := Die.fire_wr _ _
theorem Die.tickLate_dramCut : x.tickLate.dramCut = x.dramCut := Die.fire_dramCut _ _
theorem Die.tickLate_butRake : x.tickLate.butRake = x.butRake := Die.fire_butRake _ _
theorem Die.tickLate_pends : x.tickLate.pends 134 = true := Die.fire_pends _ (by decide)

variable {L E} in
theorem Die.tickLate_regs (hL : F.SEQ_TICK_ERR_LATE ∈ L) (hE : 134 ∈ E) : x.Regs L E x.tickLate := by
  unfold Die.tickLate
  exact .fire hE <| .count hL <| .onRake <| .pass <| .refl x _ _

theorem Die.tickLate_late :
    x.tickLate.get F.SEQ_TICK_ERR_LATE = min (x.get F.SEQ_TICK_ERR_LATE + 1) (2 ^ F.SEQ_TICK_ERR_LATE.width - 1) := by
  have hmin : min (x.get F.SEQ_TICK_ERR_LATE + 1) (2 ^ F.SEQ_TICK_ERR_LATE.width - 1) < 2 ^ F.SEQ_TICK_ERR_LATE.width :=
    (Nat.min_le_right _ _).trans_lt (by decide)
  rw [Die.tickLate, Die.fire_get _ _ (by decide)]
  exact Die.get_set_of_lt _ hmin

end

/-! ### The next word and the word jumped to -/

/-- A flow operation that only goes to the word at `pc`. -/
theorem seqopGoTo_effect {c : Instr} {s : State} {d : DieId} {f : Env → Die → Die} {pc : Nat} (hc : exec c s = onDie d s f)
    (hr : s.running d) (hf : f (s.env d) (s.fresh d) = (s.fresh d).wordOver.enterWord pc .clean s.now)
    (hgood : (s.die d).wordGood pc) :
    Effect c d s (fun y => y.get F.SEQ_PC_PC = pc % 256 ∧ y.rake.begun = 0 ∧ y.rake.rowen = y.rakeNow.rowen ∧
      y.rake.biasen = y.rakeNow.biasen ∧ y.rake.blindsel = y.rakeNow.blindsel ∧
        ({ s.die d with rake := y.rake } : Die).only [F.SEQ_PC_PC, F.SEQ_PC_STATE] [] y) :=
  (enterWord_effect hc hr hf hgood rfl rfl).mono fun _ hy =>
    ⟨hy.pc, hy.begun, hy.rowen, hy.biasen, hy.blindsel, hy.only (.pass <| .fresh s d _ _) rfl (by simp) (by simp)⟩

/-! ### SEQOP_LOOP0 and SEQOP_LOOP1 -/

section
variable {c : Instr} {s : State} {d : DieId} {f : Env → Die → Die} {cnt : Fld}
  (hc : exec c s = onDie d s f) (hr : s.running d)
  (hf : f (s.env d) (s.fresh d) = ((s.fresh d).wordOver.set cnt ((s.die d).get cnt - 1)).enterWord
    (if (s.die d).get cnt - 1 ≠ 0 then (s.die d).rakeNow.target else ((s.die d).get F.SEQ_PC_PC + 1) % 256) .clean s.now)
  (hq : cnt.showsQueue = false) (hkey : F.SEQ_PC_PC.key ≠ cnt.key ∧ F.SEQ_PC_STATE.key ≠ cnt.key)
include hc hr hf hq hkey

/-- A loop operation: the counter counts down, and the word at `pc` begins. -/
theorem seqopLoop_effect {pc : Nat}
    (hpc : (if (s.die d).get cnt - 1 ≠ 0 then (s.die d).rakeNow.target else ((s.die d).get F.SEQ_PC_PC + 1) % 256) = pc)
    (hgood : (s.die d).wordGood pc) :
    Effect c d s (fun y => y.get cnt = ((s.die d).get cnt - 1) % 2 ^ cnt.width ∧ y.get F.SEQ_PC_PC = pc % 256 ∧
      y.rake.begun = 0 ∧ ({ s.die d with rake := y.rake } : Die).only [cnt, F.SEQ_PC_PC, F.SEQ_PC_STATE] [] y) := by
  rw [hpc] at hf
  refine (enterWord_effect hc hr hf hgood rfl rfl).mono fun y hy => ⟨?_, hy.pc, hy.begun, ?_⟩
  · rw [hy.regs.get hq (by simpa using hkey) (by decide), Die.get_set_self]
  · exact hy.only (.set (by simp) <| .pass <| .fresh s d _ _) rfl (by simp) (by simp)

/-- A counter that is not 0 after counting down: the loop goes on. -/
theorem seqopLoop_jumps (hcnt : 1 < (s.die d).get cnt) (hgood : (s.die d).wordGood (s.die d).rakeNow.target) :
    Effect c d s (fun y => y.get cnt = ((s.die d).get cnt - 1) % 2 ^ cnt.width ∧
      y.get F.SEQ_PC_PC = (s.die d).rakeNow.target % 256 ∧ y.rake.begun = 0 ∧
        ({ s.die d with rake := y.rake } : Die).only [cnt, F.SEQ_PC_PC, F.SEQ_PC_STATE] [] y) :=
  seqopLoop_effect hc hr hf hq hkey (if_pos (by omega)) hgood

/-- A counter that has run out: the word after the loop begins. -/
theorem seqopLoop_falls (hcnt : (s.die d).get cnt ≤ 1) (hgood : (s.die d).wordGood ((s.die d).get F.SEQ_PC_PC + 1)) :
    Effect c d s (fun y => y.get cnt = 0 ∧ y.get F.SEQ_PC_PC = ((s.die d).get F.SEQ_PC_PC + 1) % 256 ∧ y.rake.begun = 0 ∧
      ({ s.die d with rake := y.rake } : Die).only [cnt, F.SEQ_PC_PC, F.SEQ_PC_STATE] [] y) := by
  have h := seqopLoop_effect hc hr hf hq hkey (if_neg (by omega)) (Die.wordGood_mod hgood)
  rwa [Nat.sub_eq_zero_of_le hcnt, Nat.zero_mod, Nat.mod_mod] at h

end

/-! ### SEQOP_WAIT_FRAME (R65) -/

section
variable {s : State} {d : DieId} {ecc : Ecc} (hr : s.running d) (hat : (s.die d).AtEnd 4) (he : (s.die d).rake.early = false)
include hr hat he

theorem seqopWaitFrame_waits (ht : (s.die d).rake.tick = false) :
    Effect (.seqopWaitFrame d ecc) d s (fun y => y.get F.SEQ_PC_PC = (s.die d).get F.SEQ_PC_PC ∧ y.rake.begun = 7 ∧
      ((s.die d).get F.SEQ_PC_STATE = 1 → y.get F.SEQ_PC_STATE = 2) ∧
        ({ s.die d with rake := y.rake } : Die).only [F.SEQ_PC_STATE] [] y) := by
  obtain ⟨hruns, hheld, hbegun, hop⟩ := hat
  have hy := Die.endWord_waits (x := s.fresh d) (s.env d) ecc ⟨hruns, hheld, hbegun, hop⟩ he ht
  have hregs := (Die.waiting_regs (s.fresh d) s.now).settled
  refine effect_to rfl hr hy (Die.waiting_wr _ _) (Die.waiting_dramCut _ _) ⟨?_, ?_, fun hstate => ?_, ?_⟩
  · exact hregs.get (by decide) (by decide) (by decide)
  · exact congrArg Rake.begun (Die.waiting_rake _ _)
  · exact Die.waiting_state _ hstate
  · exact Die.only_of_butRake hregs.of_fresh (Die.waiting_butRake _ _)

theorem seqopWaitFrame_late (ht : (s.die d).rake.tick = true)
    (hgood : (s.die d).wordGood ((s.die d).get F.SEQ_PC_PC + 1)) :
    Effect (.seqopWaitFrame d .clean) d s (fun y => y.get F.SEQ_PC_PC = ((s.die d).get F.SEQ_PC_PC + 1) % 256 ∧
      y.rake.tick = false ∧ y.pends 134 = true ∧
        y.get F.SEQ_TICK_ERR_LATE = min ((s.die d).get F.SEQ_TICK_ERR_LATE + 1) (2 ^ F.SEQ_TICK_ERR_LATE.width - 1) ∧
          ({ s.die d with rake := y.rake } : Die).only [F.SEQ_PC_PC, F.SEQ_PC_STATE, F.SEQ_TICK_ERR_LATE] [134] y) := by
  obtain ⟨hruns, hheld, hbegun, hop⟩ := hat
  have hf := Die.endWord_late (x := s.fresh d) (s.env d) .clean ⟨hruns, hheld, hbegun, hop⟩ he ht
  have hgood' : (s.fresh d).tickLate.wordGood (((s.die d).get F.SEQ_PC_PC + 1) % 256) := by
    rw [Die.wordGood, Die.tickLate_rake]; exact Die.wordGood_mod hgood
  refine (enterWord_effect rfl hr hf hgood' (Die.tickLate_wr _) (Die.tickLate_dramCut _)).mono fun y hy => ⟨?_, ?_, ?_, ?_, ?_⟩
  · rw [hy.pc, Nat.mod_mod]
  · exact hy.tick.trans (congrArg Rake.tick (Die.tickLate_rake _))
  · rw [Die.pends, hy.regs.pend _ (by decide) (by simp)]; exact Die.tickLate_pends _
  · rw [hy.regs.get (by decide) (by decide) (by decide), Die.tickLate_late]; rfl
  · exact hy.only (.of_fresh (Die.tickLate_regs _ (by simp) (by simp))) (Die.tickLate_butRake _) (by simp) (by simp)

end

/-! ### O21 -/

/-- Settles O21: with the earlier stages done, the end of a word is the passing of its cycles and its flow operation. -/
theorem rakeFlow : Obligations.RakeFlow := by
  unfold Obligations.RakeFlow
  rintro s d ecc x hr rfl
  refine ⟨fun hruns hh hb hop hgood => ?_, fun hruns hh hb hop hgood => ?_, fun hruns hh hb hop hcnt hgood => ?_,
    fun hruns hh hb hop hcnt hgood => ?_, fun hruns hh hb hop hcnt hgood => ?_, fun hruns hh hb hop hcnt hgood => ?_,
    fun hruns hh hb hop he ht => ?_, fun hruns hh hb hop he hgood => ?_, fun hruns hh hb hop he ht hgood => ?_,
    fun hruns hh hb hop hframe hevent => ?_⟩
  · have h := seqopGoTo_effect (c := .seqopNext d .clean) rfl hr
      (Die.endWord_next (x := s.fresh d) _ _ ⟨hruns, hh, hb, hop⟩) (Die.wordGood_mod hgood)
    rwa [Nat.mod_mod] at h
  · exact seqopGoTo_effect rfl hr (Die.endWord_jump (x := s.fresh d) _ _ ⟨hruns, hh, hb, hop⟩) hgood
  · exact seqopLoop_jumps (cnt := F.SEQ_CNT_C0) rfl hr (Die.endWord_loop0 (x := s.fresh d) _ _ ⟨hruns, hh, hb, hop⟩)
      (by decide) (by decide) hcnt hgood
  · exact seqopLoop_falls (cnt := F.SEQ_CNT_C0) rfl hr (Die.endWord_loop0 (x := s.fresh d) _ _ ⟨hruns, hh, hb, hop⟩)
      (by decide) (by decide) hcnt hgood
  · exact seqopLoop_jumps (cnt := F.SEQ_CNT_C1) rfl hr (Die.endWord_loop1 (x := s.fresh d) _ _ ⟨hruns, hh, hb, hop⟩)
      (by decide) (by decide) hcnt hgood
  · exact seqopLoop_falls (cnt := F.SEQ_CNT_C1) rfl hr (Die.endWord_loop1 (x := s.fresh d) _ _ ⟨hruns, hh, hb, hop⟩)
      (by decide) (by decide) hcnt hgood
  · exact seqopWaitFrame_waits hr ⟨hruns, hh, hb, hop⟩ he ht
  · have h := seqopGoTo_effect (c := .seqopWaitFrame d .clean) rfl hr
      (Die.endWord_early (x := s.fresh d) _ _ ⟨hruns, hh, hb, hop⟩ he) (Die.wordGood_mod hgood)
    rw [Nat.mod_mod] at h
    exact h.mono fun y ⟨hpc, hbegun, _, _, _, honly⟩ => ⟨hpc, hbegun, honly⟩
  · exact seqopWaitFrame_late hr ⟨hruns, hh, hb, hop⟩ he ht hgood
  · refine (rakeHalt_effect (f := fun env x => x.endWord env 5 .clean) (k := fun _ => (s.fresh d).wordOver.rake) rfl hr hruns hframe
      hevent (Die.endWord_stop (x := s.fresh d) _ _ ⟨hruns, hh, hb, hop⟩)).mono ?_
    rintro y ⟨hen, hstate, hstopped, hstill, honly⟩
    exact ⟨hen, hstate, hstopped, hstill, honly⟩

end Sys2Proof.Machine

/-! The Rake's start, its stops and its store (O24). -/

namespace Sys2Proof.Machine

/-- A command that is refused with ACC_ERR. -/
theorem accErr_effect {c : Instr} {s : State} {d : DieId} {f : Env → Die → Die} {p : Nat} (hc : exec c s = onDie d s f)
    (hr : s.running d) (hf : f (s.env d) (s.fresh d) = (s.fresh d).accErr p) :
    Effect c d s (fun y => y.pends (accErrOf p) = true ∧ (s.die d).only [] [accErrOf p] y) :=
  effect_to hc hr hf (by simp) (by simp) (Die.accErr_settled_only s d p)

theorem Die.Regs.onCal {x y : Die} {L : List Fld} {E : List Nat} {k : Cal → Cal} (h : x.Regs L E y) : x.Regs L E (y.onCal k) :=
  ⟨h.live, h.pend, h.raw⟩

section
variable (x : Die) (k : Cal → Cal)

@[simp] theorem Die.onCal_get (f : Fld) : (x.onCal k).get f = x.get f := rfl
@[simp] theorem Die.onCal_on (f : Fld) : (x.onCal k).on f = x.on f := rfl
@[simp] theorem Die.onCal_rake : (x.onCal k).rake = x.rake := rfl
@[simp] theorem Die.onCal_condOn (e : Nat) : (x.onCal k).condOn e = x.condOn e := rfl
@[simp] theorem Die.onRake_condOn (k : Rake → Rake) (e : Nat) : (x.onRake k).condOn e = x.condOn e := rfl

end

/-! ### RAKE_START (R73) -/

/-- What the start of a Rake configures as its pins. -/
def rakePins : List Fld := (List.range 13).map fun k => F.FUS_PIN_CONFIGURED (k / 8) (k % 8)

theorem Die.Regs.configure {x y : Die} {L : List Fld} {E : List Nat} {pins : List Nat}
    (hf : ∀ k ∈ pins, F.FUS_PIN_CONFIGURED (k / 8) (k % 8) ∈ L) (h : x.Regs L E y) : x.Regs L E (y.configure pins) := by
  induction pins generalizing y with
  | nil => exact h
  | cons k ks ih => exact ih (fun j hj => hf j (by simp [hj])) (.set (hf k (by simp)) h)

theorem rakePins_mem : ∀ k ∈ List.range 13, F.FUS_PIN_CONFIGURED (k / 8) (k % 8) ∈ rakePins := fun _ hk => List.mem_map_of_mem hk

@[simp] theorem Die.configure_rake (x : Die) (pins : List Nat) : (x.configure pins).rake = x.rake := by
  induction pins generalizing x with
  | nil => rfl
  | cons k ks ih => exact ih _

/-- The Rake as a start finds it: no tick, no word held, no scan and no captures. -/
def Rake.started (r : Rake) : Rake :=
  { r with tick := false, early := false, held := false, again := false, cyc := 0, waitAt := 0, frameCyc := none, rowCyc := none,
           divided := 0, scanning := false, tail := none, off := 0, caps := {} }

/-- The time at which the Rake began to run. -/
def Cal.rakeFrom (now : Nat) (c : Cal) : Cal := { c with rakeAt := some (c.rakeAt.getD now) }

/-- The die whose Rake is on, before its first word. -/
def Die.rakeOn (x : Die) (now : Nat) : Die :=
  ((((((x.configure (List.range 13)).set F.SEQ_FAULT_CAUSE 0).cond 139 false).set F.SEQ_CTRL_EN 1).set F.SEQ_PC_STATE 1).onRake
    Rake.started).onCal (Cal.rakeFrom now)

section
variable (x : Die) (now : Nat)

theorem Die.rakeBegin_eq (ecc : Ecc) :
    x.rakeBegin ecc now = (x.rakeOn now).enterWord ((x.rakeOn now).get F.SEQ_CTRL_START) ecc now := rfl

theorem Die.rakeOn_rake : (x.rakeOn now).rake = x.rake.started := by simp [Die.rakeOn]

theorem Die.rakeOn_regs :
    x.Regs (F.SEQ_FAULT_CAUSE :: F.SEQ_CTRL_EN :: F.SEQ_PC_STATE :: rakePins) [139] (x.rakeOn now) := by
  unfold Die.rakeOn
  exact .onCal <| .onRake <| .set (by simp) <| .set (by simp) <| .cond (by simp) <| .set (by simp) <|
    .configure (fun k hk => by simp [rakePins_mem k hk]) <| .refl x _ _

theorem Die.rakeOn_start : (x.rakeOn now).get F.SEQ_CTRL_START = x.get F.SEQ_CTRL_START :=
  (x.rakeOn_regs now).get (by decide) (by decide) (by decide)

theorem Die.rakeOn_state : (x.rakeOn now).get F.SEQ_PC_STATE = 1 := by
  simp (disch := decide) [Die.rakeOn, Die.get_set_of_lt]

theorem Die.rakeOn_en : (x.rakeOn now).on F.SEQ_CTRL_EN = true := by
  simp (disch := decide) [Die.rakeOn, Die.on_set_ne, Die.on_set_self]

theorem Die.rakeOn_cause : (x.rakeOn now).get F.SEQ_FAULT_CAUSE = 0 := by
  simp (disch := decide) [Die.rakeOn, Die.get_set_ne, Die.cond_get, Die.get_set_of_lt]

theorem Die.rakeOn_fault : (x.rakeOn now).condOn 139 = false := by simp [Die.rakeOn, Die.cond_condOn]

/-- A start whose first word reads clean (R73). -/
theorem Die.rakeBegin_begins {x : Die} (h : x.wordGood (x.get F.SEQ_CTRL_START)) :
    (x.rakeOn now).WordBegins (x.get F.SEQ_CTRL_START) (x.rakeBegin .clean now) := by
  rw [Die.rakeBegin_eq, Die.rakeOn_start]
  exact Die.enterWord_begins (by rw [Die.wordGood, Die.rakeOn_rake]; exact h) now

end

section
variable {x : Die} (h : x.rakeRuns = false)
include h

/-- A start that finds the AFE's bias missing, or the SEQ waiting for its reset. -/
theorem Die.rakeEnable_refused (ecc : Ecc) (now : Nat)
    (hno : x.takes 0x20 = false ∨ (x.on F.SEQ_CTRL_NOBIAS = false ∧ (x.outGood .vdet = false ∨ x.outGood .vblind = false))) :
    x.rakeEnable ecc now = x.accErr 0x20 := by
  unfold Die.rakeEnable
  rw [if_neg (by simp [h])]
  by_cases htakes : x.takes 0x20
  · obtain htakes' | ⟨hbias, hgood⟩ := hno
    · exact absurd htakes (by simp [htakes'])
    · obtain hgood | hgood := hgood <;> simp [htakes, hbias, hgood]
  · simp [htakes]

theorem Die.rakeEnable_begins (ecc : Ecc) (now : Nat) (htakes : x.takes 0x20 = true)
    (hbias : x.on F.SEQ_CTRL_NOBIAS = true ∨ (x.outGood .vdet = true ∧ x.outGood .vblind = true)) :
    x.rakeEnable ecc now = x.rakeBegin ecc now := by
  obtain hbias | ⟨hdet, hblind⟩ := hbias
  · simp [Die.rakeEnable, h, htakes, hbias]
  · simp [Die.rakeEnable, h, htakes, hdet, hblind]

end

/-- A running die answers a command on it with what the command makes of it. -/
theorem dieAnswers_of {c : Instr} {s : State} {d : DieId} {f : Env → Die → Die} {P : Die → Prop} (hc : exec c s = onDie d s f)
    (hr : s.running d) (h : P (f (s.env d) (s.fresh d)).settled) : DieAnswers c d s P :=
  ⟨_, hc.trans (onDie_next hr.1 f), by simpa [hr.2, State.settle] using h⟩

/-! ### RAKE_STOP and RAKE_STALL (R59, R60, R74) -/

section
variable {x : Die} (h : x.rakeRuns = true) (now : Nat)
include h

theorem Die.rakeDisable_later (ha : x.rake.again = false) (hw : x.rakeNow.seqop ≠ 4) :
    x.rakeDisable false now = (x.set F.SEQ_CTRL_EN 0).set F.SEQ_PC_STATE 3 := by
  simp [Die.rakeDisable, h, ha, hw]

theorem Die.rakeDisable_now {mode : Bool} (hnow : mode = true ∨ x.rakeNow.seqop = 4 ∨ x.rake.again = true) :
    x.rakeDisable mode now = x.rakeHalt none now := by
  have hstop : (mode || x.rake.again || x.rakeNow.seqop = 4) = true := by
    obtain h | h | h := hnow <;> simp [h]
  simp only [Die.rakeDisable, h, Bool.not_true, hstop, if_true]
  simp

end

/-! ### The microinstruction store (R62) -/

/-- The Rake with the low half of word `w` held back until its high half lands. -/
def Rake.withLow (w v : Nat) (r : Rake) : Rake := { r with low := some (w, v) }

/-- The Rake with word `w` of its store whole. -/
def Rake.withWord (w v : Nat) (r : Rake) : Rake := { r with store := r.store.put w v, low := none }

section
variable {x : Die} {w lo : Nat} (hw : w < 256) (val : Nat)
include hw

theorem Die.rakeCode_low (h : x.rakeRuns = false) :
    x.rakeCode (rakeStoreAt + 8 * w) val = x.onRake (Rake.withLow w (val % 2 ^ 32)) := by
  have hin : ¬ rakeStoreAt + 2048 ≤ rakeStoreAt + 8 * w := by omega
  have haligned : (rakeStoreAt + 8 * w) % 4 = 0 := by simp only [rakeStoreAt]; omega
  simp [Die.rakeCode, hin, haligned, h]
  rfl

theorem Die.rakeCode_high (h : x.rakeRuns = false) (hlow : x.rake.low = some (w, lo)) :
    x.rakeCode (rakeStoreAt + 8 * w + 4) val =
      x.onRake (Rake.withWord w (val % 2 ^ 32 * 2 ^ 32 + lo)) := by
  have hin : ¬ (rakeStoreAt + 8 * w + 4 < rakeStoreAt ∨ rakeStoreAt + 2048 ≤ rakeStoreAt + 8 * w + 4) := by omega
  have haligned : (rakeStoreAt + 8 * w + 4) % 4 = 0 := by simp only [rakeStoreAt]; omega
  have hat : rakeStoreAt + 8 * w + 4 - rakeStoreAt = 8 * w + 4 := by omega
  have hhigh : ¬ (8 * w + 4) % 8 < 4 := by omega
  have hword : (8 * w + 4) / 8 = w := by omega
  simp only [Die.rakeCode, Bool.or_eq_true, decide_eq_true_eq, hin, if_false, haligned, h, hat, hhigh, hword, hlow, if_true]
  rfl

theorem Die.rakeCode_refused (hlo : lo < 8) (h : x.rakeRuns = true ∨ lo % 4 ≠ 0) :
    x.rakeCode (rakeStoreAt + 8 * w + lo) val = x.accErr 0x20 := by
  have hin : ¬ (rakeStoreAt + 8 * w + lo < rakeStoreAt ∨ rakeStoreAt + 2048 ≤ rakeStoreAt + 8 * w + lo) := by omega
  have hmod : (rakeStoreAt + 8 * w + lo) % 4 = lo % 4 := by simp only [rakeStoreAt]; omega
  have hno : ((rakeStoreAt + 8 * w + lo) % 4 != 0) = true ∨ x.rakeRuns = true := by
    obtain h | h := h <;> simp [h, hmod]
  simp only [Die.rakeCode, Bool.or_eq_true, decide_eq_true_eq, hin, if_false, hno, if_true]

end

/-- A command that changes the Rake alone. -/
theorem onRake_effect {c : Instr} {s : State} {d : DieId} {f : Env → Die → Die} {k : Rake → Rake} (hc : exec c s = onDie d s f)
    (hr : s.running d) (hf : f (s.env d) (s.fresh d) = (s.fresh d).onRake k) :
    Effect c d s (fun y => y.rake = k (s.die d).rake ∧ ({ s.die d with rake := y.rake } : Die).only [] [] y) :=
  effect_to hc hr hf rfl rfl ⟨rfl, Die.only_of_butRake (.settled <| .onRake <| .fresh s d _ _) rfl⟩

/-! ### O24 -/

/-- Settles O24: a start, once it is taken, is the beginning of the word at START, and a stop is either a change of EN and STATE or
the same stop that a fault brings. -/
theorem rakeStartStop : Obligations.RakeStartStop := by
  unfold Obligations.RakeStartStop
  rintro s d q w lo hi ecc x hr rfl
  refine ⟨fun hruns hbias hgood => ?_, fun hruns htakes => ?_, fun hruns htakes hbias hgood => ?_, fun hruns hmode hop hagain => ?_,
    fun hruns hnow hframe hevent => ?_, fun hruns hframe hevent => ?_, fun hw hruns => ?_, fun hw hruns hlow => ?_,
    fun hw hlo hruns => ?_, fun hw hlo hodd => ?_⟩
  · exact accErr_effect rfl hr (Die.rakeEnable_refused (x := s.fresh d) hruns _ _ (.inr ⟨hbias, hgood⟩))
  · exact accErr_effect rfl hr (Die.rakeEnable_refused (x := s.fresh d) hruns _ _ (.inl htakes))
  · refine dieAnswers_of rfl hr ?_
    have hb := (Die.rakeBegin_begins (x := s.fresh d) s.now hgood).settled
    rw [← Die.rakeEnable_begins (x := s.fresh d) hruns _ _ htakes hbias] at hb
    refine ⟨?_, hb.pc, ?_, ?_, ?_, ?_, hb.begun⟩
    · exact (congrArg (· != 0) (hb.regs.get (f := F.SEQ_CTRL_EN) (by decide) (by decide) (by decide))).trans (Die.rakeOn_en _ _)
    · exact hb.state.trans (by rw [Die.rakeOn_state]; rfl)
    · exact (congrArg (fun v => v.getLsbD 139) hb.raw).trans (Die.rakeOn_fault _ _)
    · exact (hb.regs.get (by decide) (by decide) (by decide)).trans (Die.rakeOn_cause _ _)
    · exact hb.tick.trans (by rw [Die.rakeOn_rake]; rfl)
  · have hf : (s.fresh d).rakeDisable ((s.fresh d).on F.SEQ_CTRL_STOPMODE) s.now =
        ((s.fresh d).set F.SEQ_CTRL_EN 0).set F.SEQ_PC_STATE 3 := by
      rw [State.fresh_on, hmode]; exact Die.rakeDisable_later (x := s.fresh d) hruns _ hagain hop
    refine effect_to rfl hr hf rfl rfl ⟨?_, ?_, ?_, ?_⟩
    · simp (disch := decide) [Die.on_set_ne, Die.on_set_self]
    · simp (disch := decide) [Die.get_set_of_lt]
    · simp (disch := decide) [Die.rakeRuns, Die.get_set_of_lt]
    · exact Die.only_of_regs (.settled <| .set (by simp) <| .set (by simp) <| .fresh s d _ _) rfl rfl rfl rfl
  · refine (rakeHalt_effect (c := .rakeStop d) (k := id) rfl hr hruns hframe hevent
      (Die.rakeDisable_now (x := s.fresh d) hruns _ hnow)).mono ?_
    rintro y ⟨hen, hstate, hstopped, hstill, honly⟩
    exact ⟨hen, hstate, hstill, hstopped, honly⟩
  · refine (rakeFault_effect (c := .rakeStall d) (k := id) rfl hr hruns hframe hevent (cause := 4) (by decide) rfl).mono ?_
    rintro y ⟨hcause, haddr, hfault, hstopped, hstill, honly⟩
    exact ⟨hcause, haddr, hfault, hstopped, hstill, honly⟩
  · exact onRake_effect (f := fun _ x => x.rakeCode _ _) rfl hr (Die.rakeCode_low (x := s.fresh d) hw _ hruns)
  · exact onRake_effect (f := fun _ x => x.rakeCode _ _) rfl hr (Die.rakeCode_high (x := s.fresh d) hw _ hruns hlow)
  · exact accErr_effect rfl hr (Die.rakeCode_refused (x := s.fresh d) hw _ hlo (.inl hruns))
  · exact accErr_effect rfl hr (Die.rakeCode_refused (x := s.fresh d) hw _ hlo (.inr hodd))

end Sys2Proof.Machine

/-! What a change elsewhere on the die leaves of its power banks, its sensor port and the Rake's registers. -/

namespace Sys2Proof.Machine

/-- The fields of the SEQ and the AFE pages, and the two that reset values depend on. -/
def Fld.ofSensor (f : Fld) : Bool := f.pageOf = 0x20 || f.pageOf = 0x21 || f.steers

/-- The die behind the registers that a change beside the sensor port leaves. -/
def Die.sensorSide (x : Die) : List (Nat × List Byte) × Bool × Boot × Afe := (x.wr, x.dramCut, x.boot, x.afe)

/-- `y` is `x` but for what lies beside its banks, its sensor port and the Rake's registers. -/
structure Die.Beside (x y : Die) : Prop where
  side : y.sensorSide = x.sensorSide
  live : ∀ f : Fld, f.ofSensor = true → y.live.look f = x.live.look f

/-! ### Fields -/

theorem Fld.ofSensor_of_beyond {f : Fld} (h : 0x22 * 0x20000 ≤ f.key) : f.ofSensor = false := by
  have hdie : F.SYS_IDENT_DIE.key < 0x22 * 0x20000 := by decide
  have hexport : F.SEQ_LIMITS_EXPORT.key < 0x22 * 0x20000 := by decide
  simp only [Fld.ofSensor, Fld.pageOf, Fld.steers, Bool.or_eq_false_iff, decide_eq_false_iff_not]
  exact ⟨⟨decide_eq_false (by omega), decide_eq_false (by omega)⟩, by omega, by omega⟩

theorem Fld.key_ne_of_ofSensor {f g : Fld} (hf : f.ofSensor = true) (hg : g.ofSensor = false) : g.key ≠ f.key := by
  intro h
  simp only [Fld.ofSensor, Fld.pageOf, Fld.steers, h] at hf hg
  exact absurd (hf.symm.trans hg) (by decide)

theorem Fld.showsQueue_of_ofSensor {f : Fld} (hf : f.ofSensor = true) : f.showsQueue = false := by
  have hfill : F.PRC_EVQ_FILL.ofSensor = false := by decide
  have hpeak : F.PRC_MP_LOAD_PEAK.ofSensor = false := by decide
  have hmerged : F.PRC_EVQ_MERGED.ofSensor = false := by decide
  have hovf : F.PRC_MP_LOAD_OVF.ofSensor = false := by decide
  simp [Fld.showsQueue, (Fld.key_ne_of_ofSensor hf hfill).symm, (Fld.key_ne_of_ofSensor hf hpeak).symm,
    (Fld.key_ne_of_ofSensor hf hmerged).symm, (Fld.key_ne_of_ofSensor hf hovf).symm]

@[simp] theorem F.ofSensor_pwmDutyHigh (m : Nat) : (F.PWM_DUTY_HIGH m).ofSensor = false :=
  Fld.ofSensor_of_beyond (by simp only [Fld.key, F.PWM_DUTY_HIGH]; omega)

@[simp] theorem F.ofSensor_pwmDutyFrac (m : Nat) : (F.PWM_DUTY_FRAC m).ofSensor = false :=
  Fld.ofSensor_of_beyond (by simp only [Fld.key, F.PWM_DUTY_FRAC]; omega)

@[simp] theorem F.ofSensor_pwmDutySign (m : Nat) : (F.PWM_DUTY_SIGN m).ofSensor = false :=
  Fld.ofSensor_of_beyond (by simp only [Fld.key, F.PWM_DUTY_SIGN]; omega)

@[simp] theorem F.ofSensor_pwmOwn (m : Nat) : (F.PWM_OWN_OWN m).ofSensor = false :=
  Fld.ofSensor_of_beyond (by simp only [Fld.key, F.PWM_OWN_OWN]; omega)

@[simp] theorem F.ofSensor_loopValue (n : Nat) : (F.LOOP_I_VALUE n).ofSensor = false :=
  Fld.ofSensor_of_beyond (by simp only [Fld.key, F.LOOP_I_VALUE]; omega)

/-! ### The steps of a change -/

section
variable {x y z : Die}

theorem Die.Beside.refl (x : Die) : x.Beside x := ⟨rfl, fun _ _ => rfl⟩

theorem Die.Beside.trans (h : x.Beside y) (k : y.Beside z) : x.Beside z :=
  ⟨k.side.trans h.side, fun f hf => (k.live f hf).trans (h.live f hf)⟩

theorem Die.Beside.set {f : Fld} {v : Nat} (hf : f.ofSensor = false) (h : x.Beside y) : x.Beside (y.set f v) :=
  ⟨h.side, fun g hg => (RegFile.look_put_ne _ _ (Fld.key_ne_of_ofSensor hg hf)).trans (h.live g hg)⟩

theorem Die.Beside.setB {f : Fld} {b : Bool} (hf : f.ofSensor = false) (h : x.Beside y) : x.Beside (y.setB f b) := .set hf h

theorem Die.Beside.setBit {f : Fld} {i : Nat} {b : Bool} (hf : f.ofSensor = false) (h : x.Beside y) :
    x.Beside (y.setBit f i b) := .set hf h

theorem Die.Beside.count {f : Fld} {n : Nat} (hf : f.ofSensor = false) (h : x.Beside y) : x.Beside (y.count f n) := .set hf h

theorem Die.Beside.fire {e : Nat} (h : x.Beside y) : x.Beside (y.fire e) :=
  ⟨by simpa [Die.sensorSide] using h.side,
    fun f hf => (Die.fire_look y e (Fld.showsQueue_of_ofSensor hf)).trans (h.live f hf)⟩

theorem Die.Beside.cond {e : Nat} {b : Bool} (h : x.Beside y) : x.Beside (y.cond e b) := by
  unfold Die.cond
  dsimp only
  split
  · exact .fire ⟨h.side, h.live⟩
  · exact ⟨h.side, h.live⟩

theorem Die.Beside.foldl {α : Type} {f : Die → α → Die} {l : List α} (hf : ∀ z, ∀ a ∈ l, x.Beside z → x.Beside (f z a))
    (h : x.Beside y) : x.Beside (l.foldl f y) := by
  induction l generalizing y with
  | nil => exact h
  | cons a l ih => exact ih (fun z b hb => hf z b (by simp [hb])) (hf y a (by simp) h)

theorem Die.Beside.get (h : x.Beside y) {f : Fld} (hf : f.ofSensor = true) : y.get f = x.get f := by
  have hdie : y.live.look F.SYS_IDENT_DIE = x.live.look F.SYS_IDENT_DIE := h.live _ (by decide)
  have hexport : y.live.look F.SEQ_LIMITS_EXPORT = x.live.look F.SEQ_LIMITS_EXPORT := h.live _ (by decide)
  simp only [Die.get, Die.resetOf, h.live f hf, hdie, hexport]

theorem Die.Beside.wr (h : x.Beside y) : y.wr = x.wr := congrArg (·.1) h.side
theorem Die.Beside.dramCut (h : x.Beside y) : y.dramCut = x.dramCut := congrArg (·.2.1) h.side
theorem Die.Beside.boot (h : x.Beside y) : y.boot = x.boot := congrArg (·.2.2.1) h.side
theorem Die.Beside.afe (h : x.Beside y) : y.afe = x.afe := congrArg (·.2.2.2) h.side

end

/-! ### The state of the other blocks -/

section
variable {x y : Die} (h : x.Beside y)
include h

theorem Die.Beside.onRake {k : Rake → Rake} : x.Beside (y.onRake k) := ⟨h.side, h.live⟩
theorem Die.Beside.onClo {k : Clo → Clo} : x.Beside (y.onClo k) := ⟨h.side, h.live⟩
theorem Die.Beside.onPwm {k : Pwm → Pwm} : x.Beside (y.onPwm k) := ⟨h.side, h.live⟩
theorem Die.Beside.onLpc {k : Lpc → Lpc} : x.Beside (y.onLpc k) := ⟨h.side, h.live⟩
theorem Die.Beside.onSieve {k : Sieve → Sieve} : x.Beside (y.onSieve k) := ⟨h.side, h.live⟩
theorem Die.Beside.onIpp {k : Ipp → Ipp} : x.Beside (y.onIpp k) := ⟨h.side, h.live⟩
theorem Die.Beside.onAcb {k : Acb → Acb} : x.Beside (y.onAcb k) := ⟨h.side, h.live⟩
theorem Die.Beside.onCal {k : Cal → Cal} : x.Beside (y.onCal k) := ⟨h.side, h.live⟩
theorem Die.Beside.onNvs {k : Nvs → Nvs} : x.Beside (y.onNvs k) := ⟨h.side, h.live⟩
theorem Die.Beside.onDma {k : Dma → Dma} : x.Beside (y.onDma k) := ⟨h.side, h.live⟩
theorem Die.Beside.onSpi {k : Spi → Spi} : x.Beside (y.onSpi k) := ⟨h.side, h.live⟩
theorem Die.Beside.onLoop {n : Nat} {k : Loop → Loop} : x.Beside (y.onLoop n k) := .onLpc h
theorem Die.Beside.onCtx {n : Nat} {k : Ctx → Ctx} : x.Beside (y.onCtx n k) := .onIpp h
theorem Die.Beside.send {m : OutMsg} : x.Beside (y.send m) := ⟨h.side, h.live⟩

theorem Die.Beside.onFrame {n : Nat} {f : ThermFrame → ThermFrame} : x.Beside (y.onFrame n f) := by
  unfold Die.onFrame
  split
  · exact ⟨h.side, h.live⟩
  · split
    · exact ⟨h.side, h.live⟩
    · exact h

end

/-! ### The Cloche (chapter 5) -/

section
variable {x y : Die} (h : x.Beside y)
include h

theorem Die.Beside.viewLost : x.Beside y.viewLost := by
  unfold Die.viewLost
  split
  · exact .onSieve h
  · exact h

theorem Die.Beside.showClo : x.Beside y.showClo := by
  have hpos : ∀ {b c d : Bool} {n : Nat}, x.Beside (((((y.setB F.CLO_POS_HALL0 b).setB F.CLO_POS_HALL1 c).set F.CLO_POS_STATE n).setB
      (F.STAT_IDLE 0x29) d)) := .setB (by decide) <| .set (by decide) <| .setB (by decide) <| .setB (by decide) h
  unfold Die.showClo
  dsimp only
  split
  · exact .cond hpos
  · split
    · exact .onFrame (.viewLost (.cond hpos))
    · exact .viewLost (.cond hpos)

theorem Die.Beside.cloBegin {closing again : Bool} {now : Nat} : x.Beside (y.cloBegin closing again now) :=
  .showClo (.onPwm (.onClo h))

theorem Die.Beside.cloRest {m : Move} {now : Nat} : x.Beside (y.cloRest m now).1 := by
  unfold Die.cloRest
  extract_lets z shut opened
  have hz : x.Beside z := .onNvs (.onClo h)
  have hshut : x.Beside shut := .fire <| .showClo <| .set (by decide) hz
  have hopened : x.Beside opened := by
    unfold opened
    split
    · exact .set (by decide) hz
    · exact hz
  split
  · split
    · dsimp only; exact .cloBegin hshut
    · exact hshut
  · dsimp only; exact .fire <| .showClo <| .onClo <| .set (by decide) hopened

theorem Die.Beside.cloSettle {now n : Nat} : x.Beside (y.cloSettle now n).1 := by
  induction n generalizing y with
  | zero => exact h
  | succ n ih =>
    unfold Die.cloSettle
    split
    · exact h
    · split
      · dsimp only
        split
        · exact ih (.cloRest (.onClo h))
        · dsimp only; exact .onClo h
      · exact h

theorem Die.Beside.cloMove {closing : Bool} {now : Nat} : x.Beside (y.cloMove closing now).1 := .cloSettle (.cloBegin h)

theorem Die.Beside.openAtOnce {now : Nat} : x.Beside (y.openAtOnce now).1 := by
  unfold Die.openAtOnce
  split
  · exact h
  · split
    · split
      · exact h
      · split
        · dsimp only; exact .onClo h
        · exact .cloMove h
    · exact .cloMove h

theorem Die.Beside.cloHalls {h0 h1 : Bool} {now : Nat} : x.Beside (y.cloHalls h0 h1 now).1 := by
  unfold Die.cloHalls
  exact .cloSettle (.showClo (.onClo (.onClo h)))

/-! ### The blade's heater and its loop (chapters 5 and 8) -/

theorem Die.Beside.keepDuty {m : Nat} : x.Beside (y.keepDuty m) := by
  unfold Die.keepDuty
  split
  · exact h
  · exact .onPwm h

theorem Die.Beside.writeDuty {m n : Nat} {rev : Bool} : x.Beside (y.writeDuty m n rev) := by
  unfold Die.writeDuty
  exact .onPwm <| .setB (by simp) <| .set (by simp) <| .set (by simp) <| .keepDuty (.keepDuty h)

theorem Die.Beside.loopDrive {n : Nat} {u : Int} : x.Beside (y.loopDrive n u) := .writeDuty h

theorem Die.Beside.setInteg {n : Nat} {i : Int} : x.Beside (y.setInteg n i) := by
  unfold Die.setInteg
  exact .set (by simp) (.onLoop h)

theorem Die.Beside.showLoops : x.Beside y.showLoops := .foldl (fun _ _ _ hz => .setBit (by decide) hz) h

theorem Die.Beside.showOwners : x.Beside y.showOwners := .foldl (fun _ _ _ hz => .set (by simp) hz) h

theorem Die.Beside.bladeLoopOff : x.Beside y.bladeLoopOff :=
  .showOwners <| .showLoops <| .onLoop <| .setInteg <| .loopDrive h

theorem Die.Beside.heaterOff : x.Beside y.heaterOff := by
  unfold Die.heaterOff
  refine .onClo <| .set (by decide) ?_
  split
  · exact .bladeLoopOff (.set (by decide) h)
  · exact h

/-! ### The calibration event -/

theorem Die.Beside.phaseOver : x.Beside y.phaseOver :=
  .set (by decide) <| .set (by decide) <| .set (by decide) <| .set (by decide) h

theorem Die.Beside.calAbandon {result now : Nat} : x.Beside (y.calAbandon result now) := by
  unfold Die.calAbandon
  split
  · exact h
  · split
    · exact h
    · refine .phaseOver <| .openAtOnce <| .fire <| .set (by decide) ?_
      split
      · exact .heaterOff (.onCal h)
      · exact .onCal h

theorem Die.Beside.calNotes {l : List CloNote} {now : Nat} : x.Beside (Die.calNotes (y, l) now) := by
  have hquiet : ∀ {z : Die}, x.Beside z →
      x.Beside (if z.cal.event.isNone && z.get F.CAL_STATE_PHASE = 6 then z.phaseOver else z) := by
    intro z hz
    split
    · exact .phaseOver hz
    · exact hz
  unfold Die.calNotes
  dsimp only
  split
  · exact hquiet (.calAbandon h)
  · exact hquiet h

/-! ### PCI Express and its streams (chapter 13) -/

theorem Die.Beside.dropExcess {s : Nat} : x.Beside (y.dropExcess s) := by
  have hlost : ∀ l : List Nat, ∀ {z : Die}, x.Beside z → x.Beside
      (l.foldl (fun y _ => ((y.count F.PCI_SLOST_COUNT).set F.PCI_SLOST_LAST s).fire 121) z) :=
    fun _ {_} hz => .foldl (fun _ _ _ hz => .fire <| .set (by decide) <| .count (by decide) hz) hz
  unfold Die.dropExcess
  extract_lets mine keep
  split
  · exact h
  · exact hlost _ (.onDma h)

theorem Die.Beside.showWait : x.Beside y.showWait := by
  have hwait : ∀ s ∈ List.range 42, (F.STR_CFG_WAIT s).ofSensor = false := by decide
  exact .cond <| .foldl (fun _ s hs hz => .setB (hwait s hs) hz) h

theorem Die.Beside.dmaChanged : x.Beside y.dmaChanged := .showWait <| .foldl (fun _ _ _ hz => .dropExcess hz) h

theorem Die.Beside.linkTo {width speed : Nat} : x.Beside (y.linkTo width speed) := by
  unfold Die.linkTo
  extract_lets w rate z
  split
  · exact h
  · have hlink : x.Beside z := .fire <| .onDma <| .set (by decide) <| .set (by decide) h
    refine .dmaChanged ?_
    split
    · exact hlink
    · exact .count (by decide) hlink

theorem Die.Beside.configReset : x.Beside y.configReset :=
  .dmaChanged ⟨h.side, h.live⟩

/-! ### The SPI slave (chapter 14) -/

theorem Die.Beside.spiSend {w : Nat} : x.Beside (y.spiSend w) := by
  unfold Die.spiSend
  split
  · exact h
  · exact .send h

theorem Die.Beside.busyWord : x.Beside y.busyWord := .spiSend <| .fire <| .count (by decide) h

theorem Die.Beside.showSpi : x.Beside y.showSpi := by
  unfold Die.showSpi
  extract_lets y1 y2
  refine .cond ?_
  have h1 : x.Beside y1 := .set (by decide) (.set (by decide) h)
  unfold y2
  split
  · exact .set (by decide) <| .set (by decide) <| .setB (by decide) <| .set (by decide) h1
  · exact .set (by decide) <| .set (by decide) <| .set (by decide) <| .set (by decide) h1

theorem Die.Beside.wordStart {now : Nat} : x.Beside (y.wordStart now) := by
  unfold Die.wordStart
  split
  · split
    · split
      · exact .spiSend (.onSpi h)
      · exact .busyWord h
    · split
      · exact .spiSend (.onSpi h)
      · exact .spiSend h
    · split
      · exact .spiSend (.onSpi h)
      · exact .spiSend h
    · exact .spiSend h
  · split
    · exact .showSpi <| .spiSend <| .onSpi h
    · exact .busyWord (.onSpi h)

theorem Die.Beside.configure {pins : List Nat} (hp : ∀ k ∈ pins, (F.FUS_PIN_CONFIGURED (k / 8) (k % 8)).ofSensor = false) :
    x.Beside (y.configure pins) := .foldl (fun _ k hk hz => .set (hp k hk) hz) h

theorem Die.Beside.selectFalls {now : Nat} : x.Beside (y.selectFalls now) := by
  unfold Die.selectFalls
  split
  · exact h
  · exact .wordStart <| .configure (.set (by decide) (.onSpi h)) (by decide)

/-! ### A bank's supply lost (R424) -/

theorem Die.Beside.bankLost {env : Env} {bank : Nat} : x.Beside (y.bankLost env bank) := by
  unfold Die.bankLost
  split
  · split
    · exact .onClo h
    · exact h
  · split
    · exact .selectFalls <| .configReset <| .linkTo h
    · split
      · exact .calNotes (.cloHalls h)
      · exact h

/-! ### An abandoned frame (R17, R59) -/

theorem Die.Beside.passOn {n num : Nat} {gap drop settle : Bool} : x.Beside (y.passOn n num gap drop settle) := by
  unfold Die.passOn
  split <;> exact .onCtx h

theorem Die.Beside.handOn {n num : Nat} {settling : Bool} : x.Beside (y.handOn n num settling) := by
  unfold Die.handOn
  split <;> exact .passOn h

theorem Die.Beside.removeFrame {n num : Nat} : x.Beside (y.removeFrame n num) := by
  unfold Die.removeFrame
  extract_lets k
  split
  · exact .onCtx h
  · exact .onIpp (.onCtx h)

theorem Die.Beside.loseFrame {n : Nat} {abandoned : Bool} : x.Beside (y.loseFrame n abandoned) := by
  unfold Die.loseFrame
  split
  · dsimp only
    split
    · exact h
    · split
      · exact ⟨(Die.Beside.onFrame h).side, (Die.Beside.onFrame h).live⟩
      · exact .foldl (fun _ _ _ hz => .removeFrame (.handOn hz)) (.onFrame h)
  · exact h

theorem Die.Beside.abandonFrame {now : Nat} : x.Beside (y.abandonFrame now) := by
  unfold Die.abandonFrame
  dsimp only
  split
  · exact h
  · have hlost : x.Beside ((((y.onRake fun r => { r with frameOpen := false, row := none, blankRow := false }).loseFrame
        y.frame.num true).discardRows y.frame.num).onAcb fun a => { a with
          rows := a.rows.filter (fun r => r.frame != y.frame.num), ovr := a.ovr.filter (fun e => e.1 != y.frame.num),
          settleDue := a.settleDue || y.frame.flags.settling }) :=
      .onAcb <| .onSieve <| .loseFrame (.onRake h)
    split
    · split
      · exact .calAbandon hlost
      · exact hlost
    · exact hlost

end

end Sys2Proof.Machine

/-! Bits of status fields and of the AFE's small sets, and the sensor port's operations read by output (R47, R48, R438). -/

namespace Sys2Proof.Machine
open Sys2Proof

/-! ### Bits -/

theorem testBit_sub_and (v w j : Nat) : (v - (v &&& w)).testBit j = (v.testBit j && !w.testBit j) := by
  induction j generalizing v w with
  | zero =>
    have hle : v &&& w ≤ v := Nat.and_le_left
    have hodd := Nat.and_mod_two_eq_one (a := v) (b := w)
    simp only [Nat.testBit_zero]
    generalize v &&& w = a at hle hodd ⊢
    by_cases hv : v % 2 = 1 <;> by_cases hw : w % 2 = 1 <;> simp [hv, hw] at hodd ⊢ <;> omega
  | succ j ih =>
    have hle : v &&& w ≤ v := Nat.and_le_left
    have hodd := Nat.and_mod_two_eq_one (a := v) (b := w)
    have hhalf : (v - (v &&& w)) / 2 = v / 2 - (v / 2 &&& w / 2) := by
      rw [← Nat.and_div_two]
      generalize v &&& w = a at hle hodd ⊢
      omega
    rw [Nat.testBit_succ, hhalf, ih, ← Nat.testBit_succ, ← Nat.testBit_succ]

/-- A bit of what a write-one-to-clear write clears (R9). -/
theorem clearable_testBit (tied : Option Hits) (f : Fld) (v i : Nat) :
    (clearable tied f v).testBit i = (v.testBit i && !(justSet tied f).testBit i) := testBit_sub_and _ _ _

section
variable (x : Die) {f g : Fld} {i j : Nat} (b : Bool)

theorem Die.bitOf_setBit (hi : i < f.width) :
    (x.setBit f j b).bitOf f i = if i = j then b else x.bitOf f i := by
  have hbit : (x.get f).testBit j = true → 2 ^ j = x.get f &&& 2 ^ j := fun h => by simp [Nat.and_two_pow, h]
  have hclear : x.get f - (if (x.get f).testBit j then 2 ^ j else 0) = x.get f - (x.get f &&& 2 ^ j) := by
    split
    next h => rw [← hbit h]
    next h => simp [Nat.and_two_pow, h]
  have hset : (x.setBit f j b).get f = (if b then x.get f ||| 2 ^ j else x.get f - (x.get f &&& 2 ^ j)) % 2 ^ f.width := by
    rw [← hclear]
    exact Die.get_set_self x f _
  rw [Die.bitOf, hset, Nat.testBit_mod_two_pow, Die.bitOf]
  by_cases hij : i = j
  · subst hij
    cases b <;> simp [hi, testBit_sub_and]
  · have hji : j ≠ i := Ne.symm hij
    cases b <;> simp [hi, hij, hji, testBit_sub_and]

theorem Die.bitOf_setBit_self (hi : i < f.width) : (x.setBit f i b).bitOf f i = b := by rw [Die.bitOf_setBit x b hi, if_pos rfl]

theorem Die.bitOf_setBit_ne (hi : i < f.width) (h : i ≠ j) : (x.setBit f j b).bitOf f i = x.bitOf f i := by
  rw [Die.bitOf_setBit x b hi, if_neg h]

theorem Die.setBit_get_ne (h : f.key ≠ g.key) (hs : f.steers = false) : (x.setBit f j b).get g = x.get g := Die.get_set_ne x _ h hs

theorem Die.setBit_on_ne (h : f.key ≠ g.key) (hs : f.steers = false) : (x.setBit f j b).on g = x.on g := Die.on_set_ne x _ h hs

theorem Die.setBit_bitOf_ne (h : f.key ≠ g.key) (hs : f.steers = false) : (x.setBit f j b).bitOf g i = x.bitOf g i := by
  rw [Die.bitOf, Die.setBit_get_ne x b h hs, Die.bitOf]

theorem Die.set_bitOf_ne (v : Nat) (h : f.key ≠ g.key) (hs : f.steers = false) : (x.set f v).bitOf g i = x.bitOf g i := by
  rw [Die.bitOf, Die.get_set_ne x v h hs, Die.bitOf]

theorem Die.cond_bitOf (e : Nat) (h : f.showsQueue = false) : (x.cond e b).bitOf f i = x.bitOf f i := by
  rw [Die.bitOf, Die.cond_get x e b h, Die.bitOf]

@[simp] theorem Die.setBit_afe : (x.setBit f j b).afe = x.afe := rfl

end

section
variable {w : Nat} (v : BitVec w) {i j : Nat} (b : Bool)

theorem setAt_getLsbD (hi : i < w) : (setAt v j b).getLsbD i = if i = j then b else v.getLsbD i := by
  by_cases h : i = j
  · subst h
    cases b <;> simp [setAt, hi]
  · cases b <;> simp [setAt, hi, h]

end

/-! ### The AFE behind its registers -/

section
variable (x : Die) (k : Afe → Afe)

@[simp] theorem Die.onAfe_on (f : Fld) : (x.onAfe k).on f = x.on f := rfl
@[simp] theorem Die.onAfe_bitOf (f : Fld) (i : Nat) : (x.onAfe k).bitOf f i = x.bitOf f i := rfl
@[simp] theorem Die.onAfe_afe : (x.onAfe k).afe = k x.afe := rfl
end

theorem Die.Regs.onAfe {x y : Die} {L : List Fld} {E : List Nat} {k : Afe → Afe} (h : x.Regs L E y) : x.Regs L E (y.onAfe k) :=
  ⟨h.live, h.pend, h.raw⟩

/-- The die behind its registers, without its AFE. -/
def Die.butAfe (x : Die) : Die := { x.hidden with afe := {} }

theorem Die.butAfe_of_hidden {x y : Die} (h : y.hidden = x.hidden) : y.butAfe = x.butAfe := by simp [Die.butAfe, h]

@[simp] theorem Die.fire_butAfe (x : Die) (e : Nat) : (x.fire e).butAfe = x.butAfe := Die.butAfe_of_hidden (by simp)
@[simp] theorem Die.cond_butAfe (x : Die) (e : Nat) (b : Bool) : (x.cond e b).butAfe = x.butAfe := Die.butAfe_of_hidden (by simp)

/-- `y` is `x` but for register fields `L`, events `E` and the AFE, and leaves no DRAM write. -/
structure Die.OnPort (x : Die) (L : List Fld) (E : List Nat) (y : Die) : Prop where
  regs : x.Regs L E y
  behind : y.butAfe = x.butAfe
  wr : y.wr = x.wr
  dramCut : y.dramCut = x.dramCut

section
variable {x y z : Die} {L : List Fld} {E : List Nat}

theorem Die.OnPort.refl (x : Die) (L : List Fld) (E : List Nat) : x.OnPort L E x := ⟨.refl x L E, rfl, rfl, rfl⟩

theorem Die.OnPort.set {f : Fld} {v : Nat} (hf : f ∈ L) (h : x.OnPort L E y) : x.OnPort L E (y.set f v) :=
  ⟨.set hf h.regs, h.behind, h.wr, h.dramCut⟩

theorem Die.OnPort.setBit {f : Fld} {i : Nat} {b : Bool} (hf : f ∈ L) (h : x.OnPort L E y) : x.OnPort L E (y.setBit f i b) :=
  .set hf h

theorem Die.OnPort.onAfe {k : Afe → Afe} (h : x.OnPort L E y) : x.OnPort L E (y.onAfe k) :=
  ⟨.onAfe h.regs, h.behind, h.wr, h.dramCut⟩

theorem Die.OnPort.fire {e : Nat} (he : e ∈ E) (h : x.OnPort L E y) : x.OnPort L E (y.fire e) :=
  ⟨.fire he h.regs, by simp [h.behind], by simp [h.wr], by simp [h.dramCut]⟩

theorem Die.OnPort.cond {e : Nat} {b : Bool} (he : e ∈ E) (h : x.OnPort L E y) : x.OnPort L E (y.cond e b) :=
  ⟨.cond he h.regs, by simp [h.behind], by simp [h.wr], by simp [h.dramCut]⟩

theorem Die.OnPort.foldl {α : Type} {f : Die → α → Die} {l : List α} (hf : ∀ z, ∀ a ∈ l, x.OnPort L E z → x.OnPort L E (f z a))
    (h : x.OnPort L E y) : x.OnPort L E (l.foldl f y) := by
  induction l generalizing y with
  | nil => exact h
  | cons a l ih => exact ih (fun z b hb => hf z b (by simp [hb])) (hf y a (by simp) h)

/-- What a change at the sensor port leaves of the die, seen by a statement. -/
theorem Die.OnPort.settled_only {s : State} {d : DieId} (h : (s.fresh d).OnPort L E y) :
    ({ s.die d with afe := y.settled.afe } : Die).only L E y.settled :=
  Die.only_of_regs h.regs.of_fresh.settled (congrArg (fun z : Die => { z with afe := y.afe }) h.behind) rfl rfl rfl

/-- The same where the AFE behind the registers has not changed. -/
theorem Die.OnPort.settled_only_same {s : State} {d : DieId} (h : (s.fresh d).OnPort L E y) (ha : y.afe = (s.die d).afe) :
    (s.die d).only L E y.settled := by
  have hall := h.settled_only
  rwa [Die.settled_afe, ha] at hall

theorem Die.OnPort.afeVrange (he : 146 ∈ E) (h : x.OnPort L E y) : x.OnPort L E y.afeVrange := .cond he h

end

/-- A command at the sensor port. -/
theorem onPort_effect {c : Instr} {d : DieId} {s : State} {f : Env → Die → Die} {P : Die → Prop} {y : Die} {L : List Fld}
    {E : List Nat} (hc : exec c s = onDie d s f) (hr : s.running d) (hy : f (s.env d) (s.fresh d) = y)
    (h : (s.fresh d).OnPort L E y) (hP : P y.settled) : Effect c d s P :=
  effect_to hc hr hy (by simp [h.wr]) (by simp [h.dramCut]) hP

/-! ### Outputs -/

theorem afeOut_idx_lt (o : AfeOut) : o.idx < 5 := by cases o <;> decide

theorem afeOut_idx_ne {o p : AfeOut} (h : o ≠ p) : o.idx ≠ p.idx := by revert h; cases o <;> cases p <;> decide

theorem afeEn_key_ne {o p : AfeOut} (h : o ≠ p) : (F.afeEn o).key ≠ (F.afeEn p).key := by revert h; cases o <;> cases p <;> decide

theorem afeEn_steers (o : AfeOut) : (F.afeEn o).steers = false := by cases o <;> decide

/-- What shows of an output and what drives it. -/
structure OutView where
  en : Bool
  ramping : Bool
  good : Bool
  tripped : Bool
  driven : Bool
  falling : Bool
  outside : Bool
  overs : Nat

/-- An output of a die. -/
def Die.outView (x : Die) (o : AfeOut) : OutView :=
  { en := x.outEn o, ramping := x.bitOf F.AFE_OUT_STAT_RAMPING o.idx, good := x.outGood o,
    tripped := x.bitOf F.AFE_OUT_STAT_TRIPPED o.idx, driven := x.afe.driven.getLsbD o.idx, falling := x.afe.falling.getLsbD o.idx,
    outside := x.afe.outside.getLsbD o.idx, overs := x.afe.overs.getD o.idx 0 }

/-- The fields in which an output shows, but for its enable. -/
def outStats : List Fld := [F.AFE_OUT_STAT_RAMPING, F.AFE_OUT_STAT_GOOD, F.AFE_OUT_STAT_TRIPPED]

theorem afeEn_key_ne_stat (o : AfeOut) : ∀ f ∈ outStats, (F.afeEn o).key ≠ f.key := by cases o <;> decide

section
variable (x : Die) (o p : AfeOut)

/-- A change of registers and events in which no output shows. -/
theorem Die.outView_congr {x y : Die} (h : ∀ f ∈ F.afeEn o :: outStats, y.get f = x.get f) (ha : y.afe = x.afe) :
    y.outView o = x.outView o := by
  simp only [outStats, List.forall_mem_cons] at h
  obtain ⟨hen, hramping, hgood, htripped, -⟩ := h
  simp only [Die.outView, Die.outEn, Die.on, Die.outGood, Die.bitOf, hen, hramping, hgood, htripped, ha]

theorem Die.set_outView_other {f : Fld} (v : Nat) (h : ∀ g ∈ F.afeEn o :: outStats, f.key ≠ g.key) (hs : f.steers = false) :
    (x.set f v).outView o = x.outView o :=
  Die.outView_congr o (fun g hg => Die.get_set_ne x v (h g hg) hs) rfl

theorem outView_showsQueue : ∀ f ∈ F.afeEn o :: outStats, f.showsQueue = false := by cases o <;> decide

@[simp] theorem Die.fire_outView (e : Nat) : (x.fire e).outView o = x.outView o :=
  Die.outView_congr o (fun f hf => Die.fire_get x e (outView_showsQueue o f hf)) (by simp)

@[simp] theorem Die.cond_outView (e : Nat) (b : Bool) : (x.cond e b).outView o = x.outView o :=
  Die.outView_congr o (fun f hf => Die.cond_get x e b (outView_showsQueue o f hf)) (by simp)

@[simp] theorem Die.settled_outView : x.settled.outView o = x.outView o := rfl
@[simp] theorem State.fresh_outView (s : State) (d : DieId) : (s.fresh d).outView o = (s.die d).outView o := rfl

@[simp] theorem Die.afeVrange_outView : x.afeVrange.outView o = x.outView o := Die.cond_outView x o _ _

@[simp] theorem Die.onAfe_outView (k : Afe → Afe) :
    (x.onAfe k).outView o =
      { x.outView o with
        driven := (k x.afe).driven.getLsbD o.idx, falling := (k x.afe).falling.getLsbD o.idx,
        outside := (k x.afe).outside.getLsbD o.idx, overs := (k x.afe).overs.getD o.idx 0 } := rfl

theorem Die.setEn_outView (v : Nat) :
    (x.set (F.afeEn p) v).outView o = if o = p then { x.outView o with en := v % 2 != 0 } else x.outView o := by
  have hw : (F.afeEn p).width = 1 := by cases p <;> rfl
  have hstat : ∀ f ∈ outStats, ∀ i, (x.set (F.afeEn p) v).bitOf f i = x.bitOf f i := fun f hf i =>
    Die.set_bitOf_ne x v (afeEn_key_ne_stat p f hf) (afeEn_steers p)
  simp only [outStats, List.forall_mem_cons] at hstat
  obtain ⟨hramping, hgood, htripped, -⟩ := hstat
  split
  next h =>
    subst h
    simp [Die.outView, Die.outEn, Die.outGood, hramping, hgood, htripped, Die.on_set_self, hw]
  next h =>
    simp [Die.outView, Die.outEn, Die.outGood, hramping, hgood, htripped, Die.on_set_ne x v (afeEn_key_ne (Ne.symm h)) (afeEn_steers p)]

theorem Die.setBit_outEn {f : Fld} {i : Nat} {b : Bool} (hf : f ∈ outStats) : (x.setBit f i b).outEn o = x.outEn o := by
  have hs : ∀ f ∈ outStats, f.steers = false := by decide
  exact Die.setBit_on_ne x b (afeEn_key_ne_stat o f hf).symm (hs f hf)

/-- A status bit of an output, set. -/
theorem Die.setStat_bitOf {f g : Fld} {b : Bool} (hf : f ∈ outStats) (hg : g ∈ outStats) :
    (x.setBit f p.idx b).bitOf g o.idx = if g.key = f.key ∧ o = p then b else x.bitOf g o.idx := by
  have hplain : ∀ f ∈ outStats, f.steers = false ∧ f.width = 5 := by decide
  have hsame : ∀ f ∈ outStats, ∀ g ∈ outStats, g.key = f.key → g = f := by decide
  by_cases hk : g.key = f.key
  · obtain rfl := hsame f hf g hg hk
    have hi : o.idx < g.width := (hplain g hg).2 ▸ afeOut_idx_lt o
    by_cases h : o = p
    · subst h
      simp [Die.bitOf_setBit_self x b hi]
    · simp [h, Die.bitOf_setBit_ne x b hi (afeOut_idx_ne h)]
  · simp [hk, Die.setBit_bitOf_ne x b (Ne.symm hk) (hplain f hf).1]

/-- An output's view after a status bit of `p` has been set. -/
theorem Die.setStat_outView {f : Fld} {b : Bool} (hf : f ∈ outStats) :
    (x.setBit f p.idx b).outView o =
      { x.outView o with
        ramping := if F.AFE_OUT_STAT_RAMPING.key = f.key ∧ o = p then b else x.bitOf F.AFE_OUT_STAT_RAMPING o.idx,
        good := if F.AFE_OUT_STAT_GOOD.key = f.key ∧ o = p then b else x.outGood o,
        tripped := if F.AFE_OUT_STAT_TRIPPED.key = f.key ∧ o = p then b else x.bitOf F.AFE_OUT_STAT_TRIPPED o.idx } := by
  simp only [Die.outView, Die.outGood, Die.setBit_outEn x o hf, Die.setBit_afe,
    Die.setStat_bitOf x o p hf (g := F.AFE_OUT_STAT_RAMPING) (by simp [outStats]),
    Die.setStat_bitOf x o p hf (g := F.AFE_OUT_STAT_GOOD) (by simp [outStats]),
    Die.setStat_bitOf x o p hf (g := F.AFE_OUT_STAT_TRIPPED) (by simp [outStats])]

theorem Die.setRamping_outView (b : Bool) : (x.setBit F.AFE_OUT_STAT_RAMPING p.idx b).outView o =
    if o = p then { x.outView o with ramping := b } else x.outView o := by
  rw [Die.setStat_outView _ _ _ (by simp [outStats])]
  by_cases h : o = p <;> simp [h, Die.outView, Fld.key, F.AFE_OUT_STAT_RAMPING, F.AFE_OUT_STAT_GOOD, F.AFE_OUT_STAT_TRIPPED]

theorem Die.setGood_outView (b : Bool) : (x.setBit F.AFE_OUT_STAT_GOOD p.idx b).outView o =
    if o = p then { x.outView o with good := b } else x.outView o := by
  rw [Die.setStat_outView _ _ _ (by simp [outStats])]
  by_cases h : o = p <;> simp [h, Die.outView, Fld.key, F.AFE_OUT_STAT_RAMPING, F.AFE_OUT_STAT_GOOD, F.AFE_OUT_STAT_TRIPPED]

theorem Die.setTripped_outView (b : Bool) : (x.setBit F.AFE_OUT_STAT_TRIPPED p.idx b).outView o =
    if o = p then { x.outView o with tripped := b } else x.outView o := by
  rw [Die.setStat_outView _ _ _ (by simp [outStats])]
  by_cases h : o = p <;> simp [h, Die.outView, Fld.key, F.AFE_OUT_STAT_RAMPING, F.AFE_OUT_STAT_GOOD, F.AFE_OUT_STAT_TRIPPED]

/-! ### The operations on one output -/

/-- An output's bit of a small set. -/
theorem setAt_out {v : BitVec 5} {b : Bool} :
    (setAt v p.idx b).getLsbD o.idx = if o = p then b else v.getLsbD o.idx := by
  rw [setAt_getLsbD v b (afeOut_idx_lt o)]
  by_cases h : o = p
  · simp [h]
  · simp [h, afeOut_idx_ne h]

theorem fillSet_out {α : Type} {e v : α} {l : List α} :
    (fillSet e l p.idx v).getD o.idx e = if o = p then v else l.getD o.idx e := by
  split
  next h => rw [h, getD_fillSet_self]
  next h => rw [getD_fillSet_ne _ _ _ (afeOut_idx_ne h)]

theorem Die.rampDown_outView :
    (x.rampDown p).outView o =
      if o = p then { x.outView o with ramping := true, good := false, falling := true, outside := false } else x.outView o := by
  simp only [Die.rampDown, Die.onAfe_outView, Die.setGood_outView, Die.setRamping_outView, setAt_out, Die.setBit_afe]
  by_cases h : o = p
  · simp [h, Die.outView]
  · simp [h, Die.outView]

/-- An output that does not drive. -/
def OutView.off (v : OutView) : OutView :=
  { v with ramping := false, good := false, driven := false, falling := false, outside := false, overs := 0 }

/-- An output that is disabled: one that ramps begins to ramp down, another waits for its turn (R47, R48). -/
def OutView.drop (ramps : Bool) (v : OutView) : OutView :=
  if !v.en then v
  else if ramps then { v with en := false, ramping := true, good := false, falling := true, outside := false }
  else { v with en := false }

/-- An output that is enabled: one that ramps begins to ramp up (R47, R48). -/
def OutView.enable (ramps : Bool) (v : OutView) : OutView :=
  if ramps then { v with en := true, ramping := true, good := false, tripped := false, driven := true, falling := false }
  else { v with en := true, tripped := false, driven := true, falling := false }

theorem Die.outOff_outView : (x.outOff p).outView o = if o = p then (x.outView o).off else x.outView o := by
  simp only [Die.outOff, Die.onAfe_outView, Die.setGood_outView, Die.setRamping_outView, setAt_out, fillSet_out, Die.setBit_afe]
  by_cases h : o = p
  · simp [h, OutView.off]
  · simp [h, Die.outView]

theorem Die.dropOut_outView :
    (x.dropOut p).outView o = if o = p then (x.outView o).drop (afeRamps p) else x.outView o := by
  have hview : (x.outView p).en = x.outEn p := rfl
  by_cases h : o = p
  · subst h
    cases hen : x.outEn o <;> cases hr : afeRamps o <;>
      simp [Die.dropOut, OutView.drop, hview, hen, hr, Die.rampDown_outView, Die.setEn_outView]
  · cases hen : x.outEn p <;> cases hr : afeRamps p <;> simp [Die.dropOut, hen, hr, h, Die.rampDown_outView, Die.setEn_outView]

theorem Die.enableOut_outView (hen : x.outEn p = false) :
    (x.enableOut p).outView o = if o = p then (x.outView o).enable (afeRamps p) else x.outView o := by
  unfold Die.enableOut
  rw [hen, if_neg Bool.false_ne_true]
  dsimp only
  cases hr : afeRamps p <;>
    simp only [Die.onAfe_outView, Die.setGood_outView, Die.setRamping_outView, Die.setTripped_outView, Die.setEn_outView, setAt_out,
      Die.setBit_afe, Die.set_afe, Bool.false_eq_true, if_false, if_true] <;>
    by_cases h : o = p
  all_goals simp [h, OutView.enable, Die.outView]

end

/-! ### The operations on all outputs -/

/-- A change made output by output, in which `view` shows each output's own change alone, while `I` holds. -/
theorem foldl_perOutput {β : Type} {f : Die → AfeOut → Die} {view : Die → AfeOut → β} {g : AfeOut → β → β} {I : Die → Prop}
    (hI : ∀ z p, I z → I (f z p)) (hf : ∀ z p q, I z → view (f z p) q = if q = p then g p (view z q) else view z q)
    {l : List AfeOut} (hl : l.Nodup) {x : Die} (hx : I x) (q : AfeOut) :
    view (l.foldl f x) q = if q ∈ l then g q (view x q) else view x q := by
  induction l generalizing x with
  | nil => simp
  | cons p l ih =>
    obtain ⟨hp, hl⟩ := List.nodup_cons.1 hl
    rw [List.foldl_cons, ih hl (hI x p hx), hf x p q hx]
    by_cases h : q = p
    · subst h
      simp [hp]
    · simp [h]

section
variable (x : Die) (o p : AfeOut)

theorem OutView.off_off (v : OutView) : v.off.off = v.off := rfl

/-- Outputs that go off one by one, where `c` holds then. -/
theorem Die.foldl_outOff_outView (c : Die → AfeOut → Bool) (l : List AfeOut) :
    (l.foldl (fun z q => if c z q then z.outOff q else z) x).outView o = x.outView o ∨
      o ∈ l ∧ (l.foldl (fun z q => if c z q then z.outOff q else z) x).outView o = (x.outView o).off := by
  induction l generalizing x with
  | nil => exact .inl rfl
  | cons q l ih =>
    have hstep : (if c x q then x.outOff q else x).outView o = x.outView o ∨
        o = q ∧ (if c x q then x.outOff q else x).outView o = (x.outView o).off := by
      by_cases h : o = q <;> cases c x q <;> simp [h, Die.outOff_outView]
    rw [List.foldl_cons]
    obtain hsame | ⟨hq, hoff⟩ := hstep
    · refine (ih (if c x q then x.outOff q else x)).imp (·.trans hsame) fun ⟨hm, hv⟩ => ⟨by simp [hm], by rw [hv, hsame]⟩
    · obtain h | ⟨-, h⟩ := ih (if c x q then x.outOff q else x)
      · exact .inr ⟨by simp [hq], h.trans hoff⟩
      · exact .inr ⟨by simp [hq], by rw [h, hoff, OutView.off_off]⟩

theorem Die.afeCascade_outView : x.afeCascade.outView o = x.outView o ∨
    o ∈ [AfeOut.vrefc, .vsa, .vsd] ∧ x.afeCascade.outView o = (x.outView o).off := Die.foldl_outOff_outView x o _ _

theorem mem_afeOuts_reverse : o ∈ afeOuts.reverse := by cases o <;> decide

/-- The outputs that are disabled with `o`: `o` itself and every output of higher order (R47). -/
theorem Die.disableOut_drops :
    (afeOuts.reverse.foldl (fun z q => if o = q ∨ afeOrder o < afeOrder q then z.dropOut q else z) x).outView p =
    if o = p ∨ afeOrder o < afeOrder p then (x.outView p).drop (afeRamps p) else x.outView p := by
  have h := foldl_perOutput (I := fun _ => True) (view := Die.outView) (l := afeOuts.reverse) (x := x)
    (f := fun z q => if o = q ∨ afeOrder o < afeOrder q then z.dropOut q else z)
    (g := fun q v => if o = q ∨ afeOrder o < afeOrder q then v.drop (afeRamps q) else v) (fun _ _ _ => trivial)
    (fun z q r _ => by
      by_cases hr : r = q <;> by_cases hq : o = q ∨ afeOrder o < afeOrder q <;> simp [hr, hq, Die.dropOut_outView])
    (by decide) trivial p
  rw [if_pos (mem_afeOuts_reverse p)] at h
  exact h

theorem Die.disableOut_outView (v : OutView)
    (hv : (if o = p ∨ afeOrder o < afeOrder p then (x.outView p).drop (afeRamps p) else x.outView p) = v) :
    (x.disableOut o).outView p = v ∨ p ∈ [AfeOut.vrefc, .vsa, .vsd] ∧ (x.disableOut o).outView p = v.off := by
  subst hv
  rw [← Die.disableOut_drops, Die.disableOut, Die.afeVrange_outView]
  exact Die.afeCascade_outView _ _

/-- The fields that show the outputs' currents. -/
def afeImons : List Fld := [F.AFE_IMON0_VBLIND, F.AFE_IMON0_VDET, F.AFE_IMON1_VSD, F.AFE_IMON1_VSA]

theorem afeImons_key_ne : ∀ f ∈ afeImons, ∀ g ∈ F.afeEn o :: outStats, f.key ≠ g.key := by cases o <;> decide

theorem afeImons_steers : ∀ f ∈ afeImons, f.steers = false := by decide

/-- The off sequence takes every output off (R52). -/
theorem Die.afeOff_outEn : x.afeOff.outEn o = false := by
  have h := foldl_perOutput (I := fun _ => True) (view := Die.outView) (l := afeOuts.reverse) (x := x)
    (f := fun z q => (z.set (F.afeEn q) 0).outOff q) (g := fun _ v => { v.off with en := false }) (fun _ _ _ => trivial)
    (fun z q r _ => by by_cases hr : r = q <;> simp [hr, Die.outOff_outView, Die.setEn_outView, OutView.off])
    (by decide) trivial o
  rw [if_pos (mem_afeOuts_reverse o)] at h
  have hshown : ∀ f ∈ afeImons, ∀ z v, (Die.set z f v).outView o = z.outView o := fun f hf z v =>
    Die.set_outView_other z o v (afeImons_key_ne o f hf) (afeImons_steers f hf)
  have hview : x.afeOff.outView o = { (x.outView o).off with en := false } := by
    rw [Die.afeOff, Die.afeVrange_outView, hshown _ (by simp [afeImons]), hshown _ (by simp [afeImons]),
      hshown _ (by simp [afeImons]), hshown _ (by simp [afeImons]), Die.onAfe_outView]
    exact h
  exact congrArg OutView.en hview

end

/-! ### What the operations leave -/

section
variable {x y : Die} {L : List Fld} {E : List Nat} {p : AfeOut}

theorem Die.OnPort.rampDown (hg : F.AFE_OUT_STAT_GOOD ∈ L) (hr : F.AFE_OUT_STAT_RAMPING ∈ L) (h : x.OnPort L E y) :
    x.OnPort L E (y.rampDown p) := .onAfe <| .setBit hg <| .setBit hr h

theorem Die.OnPort.outOff (hg : F.AFE_OUT_STAT_GOOD ∈ L) (hr : F.AFE_OUT_STAT_RAMPING ∈ L) (h : x.OnPort L E y) :
    x.OnPort L E (y.outOff p) := .onAfe <| .setBit hr <| .setBit hg h

theorem Die.OnPort.afeCascade (hg : F.AFE_OUT_STAT_GOOD ∈ L) (hr : F.AFE_OUT_STAT_RAMPING ∈ L) (h : x.OnPort L E y) :
    x.OnPort L E y.afeCascade := by
  refine .foldl (fun z q _ hz => ?_) h
  split
  · exact .outOff hg hr hz
  · exact hz

theorem Die.OnPort.dropOut (hg : F.AFE_OUT_STAT_GOOD ∈ L) (hr : F.AFE_OUT_STAT_RAMPING ∈ L) (hen : F.afeEn p ∈ L) (h : x.OnPort L E y) :
    x.OnPort L E (y.dropOut p) := by
  unfold Die.dropOut
  split
  · exact h
  · dsimp only
    split
    · exact .rampDown hg hr (.set hen h)
    · exact .set hen h

theorem Die.OnPort.disableOut (hg : F.AFE_OUT_STAT_GOOD ∈ L) (hr : F.AFE_OUT_STAT_RAMPING ∈ L) (hen : ∀ q, F.afeEn q ∈ L)
    (he : 146 ∈ E) (h : x.OnPort L E y) : x.OnPort L E (y.disableOut p) := by
  refine .afeVrange he (.afeCascade hg hr (.foldl (fun z q _ hz => ?_) h))
  split
  · exact .dropOut hg hr (hen q) hz
  · exact hz

theorem Die.OnPort.enableOut (hg : F.AFE_OUT_STAT_GOOD ∈ L) (hr : F.AFE_OUT_STAT_RAMPING ∈ L) (ht : F.AFE_OUT_STAT_TRIPPED ∈ L)
    (hen : F.afeEn p ∈ L) (h : x.OnPort L E y) : x.OnPort L E (y.enableOut p) := by
  have hon : ∀ {k : Afe → Afe}, x.OnPort L E (((y.set (F.afeEn p) 1).setBit F.AFE_OUT_STAT_TRIPPED p.idx false).onAfe k) :=
    .onAfe <| .setBit ht <| .set hen h
  unfold Die.enableOut
  split
  · exact h
  · dsimp only
    split
    · exact .setBit hg <| .setBit hr hon
    · exact hon

theorem Die.OnPort.afeOff (hg : F.AFE_OUT_STAT_GOOD ∈ L) (hr : F.AFE_OUT_STAT_RAMPING ∈ L) (hen : ∀ q, F.afeEn q ∈ L)
    (hi : ∀ f ∈ afeImons, f ∈ L) (he : 146 ∈ E) (h : x.OnPort L E y) :
    x.OnPort L E y.afeOff :=
  .afeVrange he <| .set (hi _ (by simp [afeImons])) <| .set (hi _ (by simp [afeImons])) <| .set (hi _ (by simp [afeImons])) <|
    .set (hi _ (by simp [afeImons])) <| .onAfe <|
    .foldl (fun _ q _ hz => .outOff hg hr (.set (hen q) hz)) h

end

end Sys2Proof.Machine

/-! The AFE's outputs, their measurements and the focal-plane diodes (O20). -/

namespace Sys2Proof.Machine
open Sys2Proof

theorem Die.outView_en (x : Die) (o : AfeOut) : (x.outView o).en = x.outEn o := rfl
theorem Die.settled_outEn (x : Die) (o : AfeOut) : x.settled.outEn o = x.outEn o := rfl

/-! ### Enabling and disabling (R47) -/

section
variable (x : Die) (o : AfeOut)

theorem mem_afeOuts (p : AfeOut) : p ∈ afeOuts := by cases p <;> decide

theorem Die.mayEnable_iff : x.mayEnable o = true ↔
    (∀ p ∈ afeOuts, afeOrder p < afeOrder o → x.outEn p = true ∧ x.outGood p = true) ∧ x.bitOf F.AFE_TRIP_CAUSE o.idx = false := by
  simp only [Die.mayEnable, Bool.and_eq_true, List.all_eq_true, Bool.or_eq_true, decide_eq_true_eq, Bool.not_eq_true']
  refine and_congr_left fun _ => forall₂_congr fun p _ => ?_
  rw [← Nat.not_lt, imp_iff_not_or]

end

section
variable {s : State} {d : DieId} {o : AfeOut} (hr : s.running d)
include hr

theorem afeOutputEnable_effect (hmay : (s.die d).mayEnable o = true) (hen : (s.die d).outEn o = false) :
    Effect (.afeOutputEnable d o) d s (fun y => y.outEn o = true ∧ y.bitOf F.AFE_OUT_STAT_TRIPPED o.idx = false ∧
      y.afe.driven.getLsbD o.idx = true ∧
        (afeRamps o = true → y.bitOf F.AFE_OUT_STAT_RAMPING o.idx = true ∧ y.outGood o = false) ∧
          ({ s.die d with afe := y.afe } : Die).only
            [F.afeEn o, F.AFE_OUT_STAT_TRIPPED, F.AFE_OUT_STAT_RAMPING, F.AFE_OUT_STAT_GOOD] [] y) := by
  have hport : (s.fresh d).OnPort [F.afeEn o, F.AFE_OUT_STAT_TRIPPED, F.AFE_OUT_STAT_RAMPING, F.AFE_OUT_STAT_GOOD] []
      ((s.fresh d).enableOut o) := .enableOut (by simp) (by simp) (by simp) (by simp) (.refl _ _ _)
  have hview : ((s.fresh d).enableOut o).settled.outView o = ((s.die d).outView o).enable (afeRamps o) := by
    rw [Die.settled_outView, Die.enableOut_outView (s.fresh d) _ _ hen, if_pos rfl, State.fresh_outView]
  refine onPort_effect rfl hr (if_pos hmay) hport ⟨?_, ?_, ?_, fun hramps => ⟨?_, ?_⟩, hport.settled_only⟩
  · exact (congrArg OutView.en hview).trans (by unfold OutView.enable; split <;> rfl)
  · exact (congrArg OutView.tripped hview).trans (by unfold OutView.enable; split <;> rfl)
  · exact (congrArg OutView.driven hview).trans (by unfold OutView.enable; split <;> rfl)
  · exact (congrArg OutView.ramping hview).trans (by simp [OutView.enable, hramps])
  · exact (congrArg OutView.good hview).trans (by simp [OutView.enable, hramps])

theorem afeOutputEnable_refused (hmay : (s.die d).mayEnable o ≠ true) :
    Effect (.afeOutputEnable d o) d s (fun y => y.pends (accErrOf 0x21) = true ∧ (s.die d).only [] [accErrOf 0x21] y) :=
  effect_to rfl hr (if_neg hmay) (by simp) (by simp) (Die.accErr_settled_only s d _)

/-- The fields that a switch-off of outputs changes. -/
def offFields : List Fld :=
  [F.afeEn .vsd, F.afeEn .vsa, F.afeEn .vrefc, F.afeEn .vblind, F.afeEn .vdet, F.AFE_OUT_STAT_RAMPING, F.AFE_OUT_STAT_GOOD]

omit hr in
theorem afeEn_mem_offFields (p : AfeOut) : F.afeEn p ∈ offFields := by cases p <;> simp [offFields]

theorem afeOutputDisable_effect (hen : (s.die d).outEn o = true) :
    Effect (.afeOutputDisable d o) d s (fun y =>
      (∀ p ∈ afeOuts, p = o ∨ afeOrder o < afeOrder p → y.outEn p = false) ∧
        (∀ p ∈ afeOuts, p ≠ o → ¬ afeOrder o < afeOrder p → y.outEn p = (s.die d).outEn p) ∧
          (afeRamps o = true → y.bitOf F.AFE_OUT_STAT_RAMPING o.idx = true ∧ y.outGood o = false) ∧
            ({ s.die d with afe := y.afe } : Die).only offFields [146] y) := by
  have hport : (s.fresh d).OnPort offFields [146] ((s.fresh d).disableOut o) :=
    .disableOut (by simp [offFields]) (by simp [offFields]) afeEn_mem_offFields (by simp) (.refl _ _ _)
  have hview : ∀ p, ((s.fresh d).disableOut o).outEn p =
      ((if o = p ∨ afeOrder o < afeOrder p then ((s.die d).outView p).drop (afeRamps p) else (s.die d).outView p)).en := by
    intro p
    rw [← Die.outView_en]
    obtain h | ⟨-, h⟩ := Die.disableOut_outView (s.fresh d) o p _ rfl <;> rw [h] <;> simp only [OutView.off, State.fresh_outView]
  refine onPort_effect rfl hr rfl hport ⟨fun p _ hp => ?_, fun p _ hp hlow => ?_, fun hramps => ?_, hport.settled_only⟩
  · rw [Die.settled_outEn, hview, if_pos (hp.imp_left Eq.symm)]
    unfold OutView.drop
    cases h : ((s.die d).outView p).en <;> cases afeRamps p <;> simp [h]
  · rw [Die.settled_outEn, hview, if_neg (by simp [Ne.symm hp, hlow])]
    rfl
  · have ho : ((s.fresh d).disableOut o).settled.outView o = ((s.die d).outView o).drop (afeRamps o) := by
      rw [Die.settled_outView, ← State.fresh_outView]
      obtain h | ⟨hm, -⟩ := Die.disableOut_outView (s.fresh d) o o _ (if_pos (.inl rfl))
      · exact h
      · exact absurd hramps (by revert hm; cases o <;> decide)
    have hview : ((s.die d).outView o).en = true := hen
    refine ⟨(congrArg OutView.ramping ho).trans ?_, (congrArg OutView.good ho).trans ?_⟩ <;>
      simp [OutView.drop, hramps, hview]

/-! ### Ramps and GOOD (R48, R438) -/

omit hr in
/-- What the end of a ramp changes. -/
theorem Die.rampUp_onPort (x : Die) : x.OnPort [F.AFE_OUT_STAT_RAMPING, F.AFE_OUT_STAT_GOOD] [146, 147]
    ((((x.setBit F.AFE_OUT_STAT_RAMPING o.idx false).setBit F.AFE_OUT_STAT_GOOD o.idx true).afeVrange).fire 147) :=
  .fire (by simp) <| .afeVrange (by simp) <| .setBit (by simp) <| .setBit (by simp) <| .refl _ _ _

omit hr in
theorem Die.rampGone_onPort (x : Die) : x.OnPort [F.AFE_OUT_STAT_RAMPING, F.AFE_OUT_STAT_GOOD] [146, 147]
    (((((x.setBit F.AFE_OUT_STAT_RAMPING o.idx false).outOff o).afeCascade).afeVrange).fire 147) :=
  .fire (by simp) <| .afeVrange (by simp) <| .afeCascade (by simp) (by simp) <| .outOff (by simp) (by simp) <| .setBit (by simp) <|
    .refl _ _ _

theorem rampDone_up (hramp : (s.die d).bitOf F.AFE_OUT_STAT_RAMPING o.idx = true) (hen : (s.die d).outEn o = true)
    (hup : (s.die d).afe.falling.getLsbD o.idx = false) :
    Effect (.rampDone d o) d s (fun y => y.bitOf F.AFE_OUT_STAT_RAMPING o.idx = false ∧ y.outGood o = true ∧ y.pends 147 = true ∧
      (s.die d).only [F.AFE_OUT_STAT_RAMPING, F.AFE_OUT_STAT_GOOD] [146, 147] y) := by
  have hramp' : (s.fresh d).bitOf F.AFE_OUT_STAT_RAMPING o.idx = true := hramp
  have hen' : (s.fresh d).outEn o = true := hen
  have hup' : (s.fresh d).afe.falling.getLsbD o.idx = false := hup
  have hport := Die.rampUp_onPort (o := o) (s.fresh d)
  have hview : (((((s.fresh d).setBit F.AFE_OUT_STAT_RAMPING o.idx false).setBit F.AFE_OUT_STAT_GOOD o.idx true).afeVrange).fire
      147).settled.outView o = { (s.die d).outView o with ramping := false, good := true } := by
    simp [Die.setGood_outView, Die.setRamping_outView]
  refine onPort_effect rfl hr (by simp only [hramp', hen', hup']; rfl) hport ⟨?_, ?_, ?_, hport.settled_only_same ?_⟩
  · exact congrArg OutView.ramping hview
  · exact congrArg OutView.good hview
  · rw [Die.settled_pends]; exact Die.fire_pends _ (by decide)
  · simp [Die.afeVrange]

theorem rampDone_down (hramp : (s.die d).bitOf F.AFE_OUT_STAT_RAMPING o.idx = true) (hen : (s.die d).outEn o = false) :
    Effect (.rampDone d o) d s (fun y => y.bitOf F.AFE_OUT_STAT_RAMPING o.idx = false ∧ y.outGood o = false ∧
      y.afe.driven.getLsbD o.idx = false ∧ y.pends 147 = true ∧
        ({ s.die d with afe := y.afe } : Die).only [F.AFE_OUT_STAT_RAMPING, F.AFE_OUT_STAT_GOOD] [146, 147] y) := by
  have hramp' : (s.fresh d).bitOf F.AFE_OUT_STAT_RAMPING o.idx = true := hramp
  have hen' : (s.fresh d).outEn o = false := hen
  have hport := Die.rampGone_onPort (o := o) (s.fresh d)
  have hoff : ((((s.fresh d).setBit F.AFE_OUT_STAT_RAMPING o.idx false).outOff o).afeCascade).outView o =
      ((s.die d).outView o).off := by
    have ho : (((s.fresh d).setBit F.AFE_OUT_STAT_RAMPING o.idx false).outOff o).outView o = ((s.die d).outView o).off := by
      simp [Die.outOff_outView, Die.setRamping_outView, OutView.off]
    obtain h | ⟨-, h⟩ := Die.afeCascade_outView (((s.fresh d).setBit F.AFE_OUT_STAT_RAMPING o.idx false).outOff o) o
    · rw [h, ho]
    · rw [h, ho, OutView.off_off]
  have hview : ((((((s.fresh d).setBit F.AFE_OUT_STAT_RAMPING o.idx false).outOff o).afeCascade).afeVrange).fire
      147).settled.outView o = ((s.die d).outView o).off := by
    rw [Die.settled_outView, Die.fire_outView, Die.afeVrange_outView, hoff]
  refine onPort_effect rfl hr (by simp only [hramp', hen']; rfl) hport ⟨?_, ?_, ?_, ?_, hport.settled_only⟩
  · exact congrArg OutView.ramping hview
  · exact congrArg OutView.good hview
  · exact congrArg OutView.driven hview
  · rw [Die.settled_pends]; exact Die.fire_pends _ (by decide)

theorem outputGood_effect (hen : (s.die d).outEn o = true) (hdriven : (s.die d).afe.driven.getLsbD o.idx = true)
    (hramp : (s.die d).bitOf F.AFE_OUT_STAT_RAMPING o.idx = false) (hstep : (s.die d).outStepping o s.now = false) :
    Effect (.outputGood d o) d s (fun y => y.outGood o = true ∧ y.afe.outside.getLsbD o.idx = false ∧
      ({ s.die d with afe := y.afe } : Die).only [F.AFE_OUT_STAT_GOOD] [146] y) := by
  have hcond : ((s.die d).outEn o && (s.die d).afe.driven.getLsbD o.idx && !(s.die d).bitOf F.AFE_OUT_STAT_RAMPING o.idx &&
      !(s.die d).outStepping o s.now) = true := by simp [hen, hdriven, hramp, hstep]
  have hport : (s.fresh d).OnPort [F.AFE_OUT_STAT_GOOD] [146] ((((s.fresh d).setBit F.AFE_OUT_STAT_GOOD o.idx true).onAfe
      (fun a => { a with outside := setAt a.outside o.idx false })).afeVrange) :=
    .afeVrange (by simp) <| .onAfe <| .setBit (by simp) <| .refl _ _ _
  have hview : ((((s.fresh d).setBit F.AFE_OUT_STAT_GOOD o.idx true).onAfe
      (fun a => { a with outside := setAt a.outside o.idx false })).afeVrange).settled.outView o =
        { (s.die d).outView o with good := true, outside := false } := by
    simp [Die.setGood_outView, setAt_out]
    exact ⟨rfl, rfl, rfl⟩
  refine onPort_effect rfl hr (if_pos hcond) hport ⟨?_, ?_, hport.settled_only⟩
  · exact congrArg OutView.good hview
  · exact congrArg OutView.outside hview

theorem outputGood_ignored (h : (s.die d).outEn o = false ∨ (s.die d).bitOf F.AFE_OUT_STAT_RAMPING o.idx = true ∨
    (s.die d).outStepping o s.now = true) : Effect (.outputGood d o) d s (fun y => (s.die d).only [] [] y) := by
  have hcond : ((s.die d).outEn o && (s.die d).afe.driven.getLsbD o.idx && !(s.die d).bitOf F.AFE_OUT_STAT_RAMPING o.idx &&
      !(s.die d).outStepping o s.now) ≠ true := by
    obtain h | h | h := h <;> simp [h]
  have hport : (s.fresh d).OnPort [] [] (s.fresh d) := .refl _ _ _
  exact onPort_effect rfl hr (if_neg hcond) hport (hport.settled_only_same rfl)

theorem offDone_effect (h : (s.die d).afe.offSeq = true) :
    Effect (.offDone d) d s (fun y => y.pends 150 = true ∧ y.afe = { (s.die d).afe with offSeq := false } ∧
      ({ s.die d with afe := y.afe } : Die).only [] [150] y) := by
  have hport : (s.fresh d).OnPort [] [150] (((s.fresh d).onAfe fun a => { a with offSeq := false }).fire 150) :=
    .fire (by simp) <| .onAfe <| .refl _ _ _
  refine onPort_effect rfl hr (if_pos h) hport ⟨?_, ?_, hport.settled_only⟩
  · rw [Die.settled_pends]; exact Die.fire_pends _ (by decide)
  · simp

end

end Sys2Proof.Machine

/-! The AFE's trip causes, its measurements and the focal-plane diodes (O20). -/

namespace Sys2Proof.Machine
open Sys2Proof

/-! ### Trip causes (R50) -/

/-- An output's trip cause and its TRIPPED. -/
def Die.tripBits (x : Die) (o : AfeOut) : Bool × Bool := (x.bitOf F.AFE_TRIP_CAUSE o.idx, x.bitOf F.AFE_OUT_STAT_TRIPPED o.idx)

section
variable (x : Die) (o p : AfeOut)

theorem Die.setTripBits (b : Bool) :
    ((x.setBit F.AFE_TRIP_CAUSE p.idx b).setBit F.AFE_OUT_STAT_TRIPPED p.idx b).tripBits o =
      if o = p then (b, b) else x.tripBits o := by
  have hcause : o.idx < F.AFE_TRIP_CAUSE.width := afeOut_idx_lt o
  have htripped : o.idx < F.AFE_OUT_STAT_TRIPPED.width := afeOut_idx_lt o
  by_cases h : o = p
  · subst h
    simp (disch := decide) [Die.tripBits, Die.setBit_bitOf_ne, Die.bitOf_setBit_self _ _ hcause, Die.bitOf_setBit_self _ _ htripped]
  · simp (disch := decide) [h, Die.tripBits, Die.setBit_bitOf_ne, Die.bitOf_setBit_ne _ _ hcause (afeOut_idx_ne h),
      Die.bitOf_setBit_ne _ _ htripped (afeOut_idx_ne h)]

theorem Die.clearTripCause_tripBits (val : Nat) :
    (x.clearTripCause val).tripBits o = if val.testBit o.idx then (false, false) else x.tripBits o := by
  have h := foldl_perOutput (I := fun _ => True) (view := Die.tripBits) (l := afeOuts) (x := x)
    (f := fun z q => if val.testBit q.idx then
      (z.setBit F.AFE_TRIP_CAUSE q.idx false).setBit F.AFE_OUT_STAT_TRIPPED q.idx false else z)
    (g := fun q v => if val.testBit q.idx then (false, false) else v) (fun _ _ _ => trivial)
    (fun z q r _ => by by_cases hr : r = q <;> cases hq : val.testBit q.idx <;> simp [hr, Die.setTripBits])
    (by decide) trivial o
  rw [if_pos (mem_afeOuts o)] at h
  rw [← h]
  simp (disch := decide) only [Die.clearTripCause, Die.tripBits, Die.cond_bitOf]

theorem Die.clearTripCause_onPort (val : Nat) :
    x.OnPort [F.AFE_TRIP_CAUSE, F.AFE_OUT_STAT_TRIPPED] [145] (x.clearTripCause val) := by
  refine .cond (by simp) (.foldl (fun z q _ hz => ?_) (.refl _ _ _))
  split
  · exact .setBit (by simp) (.setBit (by simp) hz)
  · exact hz

theorem Die.clearTripCause_afe (val : Nat) : (x.clearTripCause val).afe = x.afe := by
  have hfold : ∀ (l : List AfeOut) (z : Die), (l.foldl (fun z q => if val.testBit q.idx then
      (z.setBit F.AFE_TRIP_CAUSE q.idx false).setBit F.AFE_OUT_STAT_TRIPPED q.idx false else z) z).afe = z.afe := by
    intro l
    induction l with
    | nil => exact fun _ => rfl
    | cons q l ih => exact fun z => (ih _).trans (by dsimp only; split <;> rfl)
  rw [Die.clearTripCause, Die.cond_afe, hfold]

theorem Die.clearTripCause_trip (val : Nat) :
    (x.clearTripCause val).condOn 145 = ((x.clearTripCause val).get F.AFE_TRIP_CAUSE != 0) := by
  rw [Die.clearTripCause, Die.cond_condOn _ _ (by decide), Die.cond_get _ _ _ (by decide)]

end

theorem State.hits_justSet (s : State) (d : DieId) (tie : Bool) (f : Fld) (i : Nat) :
    (justSet (s.hits d tie) f).testBit i = (tie && (justSet (some (s.die d).hits) f).testBit i) := by
  cases tie <;> simp [State.hits, justSet]

section
variable {s : State} {d : DieId} (hr : s.running d)
include hr

theorem tripCauseClear_effect (val : PendMask) :
    Effect (.tripCauseClear d val) d s (fun y =>
      (∀ o ∈ afeOuts, y.bitOf F.AFE_TRIP_CAUSE o.idx = ((s.die d).bitOf F.AFE_TRIP_CAUSE o.idx &&
        !(val.bits.testBit o.idx && !(val.tie && (justSet (some (s.die d).hits) F.AFE_TRIP_CAUSE).testBit o.idx)))) ∧
      (∀ o ∈ afeOuts, val.bits.testBit o.idx = true →
        (val.tie && (justSet (some (s.die d).hits) F.AFE_TRIP_CAUSE).testBit o.idx) = false →
          y.bitOf F.AFE_OUT_STAT_TRIPPED o.idx = false) ∧
      y.condOn 145 = (y.get F.AFE_TRIP_CAUSE != 0) ∧
      (s.die d).only [F.AFE_TRIP_CAUSE, F.AFE_OUT_STAT_TRIPPED] [145] y) := by
  have hport := Die.clearTripCause_onPort (s.fresh d) (clearable (s.hits d val.tie) F.AFE_TRIP_CAUSE val.bits)
  have hbits : ∀ o, ((s.fresh d).clearTripCause (clearable (s.hits d val.tie) F.AFE_TRIP_CAUSE val.bits)).settled.tripBits o =
      if (val.bits.testBit o.idx && !(val.tie && (justSet (some (s.die d).hits) F.AFE_TRIP_CAUSE).testBit o.idx)) = true
        then (false, false) else (s.die d).tripBits o := by
    intro o
    rw [← State.hits_justSet, ← clearable_testBit]
    exact Die.clearTripCause_tripBits _ _ _
  refine onPort_effect rfl hr rfl hport ⟨fun o _ => ?_, fun o _ hw ht => ?_, Die.clearTripCause_trip _ _,
    hport.settled_only_same (Die.clearTripCause_afe _ _)⟩
  · refine (congrArg Prod.fst (hbits o)).trans ?_
    cases h : (val.bits.testBit o.idx && !(val.tie && (justSet (some (s.die d).hits) F.AFE_TRIP_CAUSE).testBit o.idx)) <;>
      simp [Die.tripBits]
  · refine (congrArg Prod.snd (hbits o)).trans ?_
    rw [hw, ht]
    rfl

/-! ### The focal-plane diodes (R54, R55) -/

omit hr in
theorem fpdFail_plain (n : Fin 2) : (F.AFE_FPD_FAIL n.val).showsQueue = false ∧ (F.AFE_FPD_FAIL n.val).width = 1 := by
  revert n; decide

omit hr in
theorem fpdEvent_lt (n : Fin 2) : 148 + n.val < 640 := by omega

/-- A reading that enters its diode's mean. -/
def Die.fpdTaken (x : Die) (n : Fin 2) (code : Int) : Die :=
  ((x.set (F.AFE_FPD_FAIL n.val) 0).onAfe fun a =>
    { a with fpdSum := fillSet 0 a.fpdSum n.val (a.fpdSum.getD n.val 0 + code),
             fpdCnt := fillSet 0 a.fpdCnt n.val (a.fpdCnt.getD n.val 0 + 1) }).cond (148 + n.val) false

omit hr in
theorem Die.fpdTaken_onPort (x : Die) (n : Fin 2) (code : Int) :
    x.OnPort [F.AFE_FPD_FAIL n.val] [148 + n.val] (x.fpdTaken n code) :=
  .cond (by simp) <| .onAfe <| .set (by simp) <| .refl _ _ _

theorem fpdReading_valid {n : Fin 2} {code : Int} (hon : (s.die d).on (F.CTRL_EN 0x21) = true)
    (hvalid : -200000 ≤ code ∧ code ≤ 600000) :
    Effect (.fpdReading d n (some code)) d s (fun y => y.on (F.AFE_FPD_FAIL n.val) = false ∧ y.condOn (148 + n.val) = false ∧
      y.afe.fpdSum.getD n.val 0 = (s.die d).afe.fpdSum.getD n.val 0 + code ∧
        y.afe.fpdCnt.getD n.val 0 = (s.die d).afe.fpdCnt.getD n.val 0 + 1 ∧
          ({ s.die d with afe := y.afe } : Die).only [F.AFE_FPD_FAIL n.val] [148 + n.val] y) := by
  have hin : fpdValid code = true := by simp [fpdValid, hvalid]
  have hon' : (s.fresh d).on (F.CTRL_EN 0x21) = true := hon
  obtain ⟨hq, hwidth⟩ := fpdFail_plain n
  have hport := Die.fpdTaken_onPort (s.fresh d) n code
  refine onPort_effect rfl hr (by simp only [hon', hin]; rfl) hport ⟨?_, ?_, ?_, ?_, hport.settled_only⟩
  · simp [Die.fpdTaken, Die.cond_on _ _ _ hq, Die.on_set_self]
  · rw [Die.settled_condOn]; exact Die.cond_condOn _ _ (fpdEvent_lt n)
  · rw [Die.settled_afe, Die.fpdTaken, Die.cond_afe]; exact getD_fillSet_self _ _ _ _
  · rw [Die.settled_afe, Die.fpdTaken, Die.cond_afe]; exact getD_fillSet_self _ _ _ _

theorem fpdReading_bad {n : Fin 2} {code : Option Int} (hon : (s.die d).on (F.CTRL_EN 0x21) = true)
    (hbad : ∀ c ∈ code, fpdValid c = false) :
    Effect (.fpdReading d n code) d s (fun y => y.on (F.AFE_FPD_FAIL n.val) = true ∧ y.condOn (148 + n.val) = true ∧
      (s.die d).only [F.AFE_FPD_FAIL n.val] [148 + n.val] y) := by
  have hon' : (s.fresh d).on (F.CTRL_EN 0x21) = true := hon
  have hport : (s.fresh d).OnPort [F.AFE_FPD_FAIL n.val] [148 + n.val]
      (((s.fresh d).set (F.AFE_FPD_FAIL n.val) 1).cond (148 + n.val) true) := .cond (by simp) <| .set (by simp) <| .refl _ _ _
  obtain ⟨hq, hwidth⟩ := fpdFail_plain n
  refine onPort_effect rfl hr ?_ hport ⟨?_, ?_, hport.settled_only_same (by simp)⟩
  · cases code with
    | none => simp only [hon']; rfl
    | some c => simp only [hon', hbad c rfl]; rfl
  · simp [Die.cond_on _ _ _ hq, Die.on_set_self, hwidth]
  · rw [Die.settled_condOn]; exact Die.cond_condOn _ _ (fpdEvent_lt n)

end

end Sys2Proof.Machine

/-! CURRENT_SAMPLE: what a measurement shows, and the trip of an output over its limit (O20). -/

namespace Sys2Proof.Machine
open Sys2Proof

/-! ### One measurement (R50, R72, R438) -/

/-- An output's current is over its limit. -/
def Die.overLimit (x : Die) (m : AfeSample) (o : AfeOut) : Bool :=
  match x.afeLimit o with
  | some l => decide (l < afeCurrent m o)
  | none => false

/-- Whether an output drives, and its measurements in a row over the limit. -/
def Die.overRun (x : Die) (o : AfeOut) : Bool × Nat := (x.afe.driven.getLsbD o.idx, x.afe.overs.getD o.idx 0)

/-- What a measurement makes of an output's run: `high` says that it is over its limit. -/
def nextRun (high : Bool) (v : Bool × Nat) : Bool × Nat := if v.1 then (v.1, if high then v.2 + 1 else 0) else v

section
variable (x : Die) (m : AfeSample) (now : Nat) (o p : AfeOut)

theorem Die.sampleOut_afe : (x.sampleOut m now p).afe.driven = x.afe.driven ∧
    (x.sampleOut m now p).afe.overs = if x.afe.driven.getLsbD p.idx then
      fillSet 0 x.afe.overs p.idx (if x.overLimit m p then x.afe.overs.getD p.idx 0 + 1 else 0) else x.afe.overs := by
  unfold Die.sampleOut
  cases h : x.afe.driven.getLsbD p.idx
  · exact ⟨rfl, rfl⟩
  · rw [if_neg (by simp)]
    extract_lets above y
    split
    · exact ⟨rfl, rfl⟩
    · exact ⟨rfl, rfl⟩

theorem Die.sampleOut_overRun :
    (x.sampleOut m now p).overRun o = if o = p then nextRun (x.overLimit m p) (x.overRun o) else x.overRun o := by
  obtain ⟨hdriven, hovers⟩ := Die.sampleOut_afe x m now p
  simp only [Die.overRun, hdriven, hovers, nextRun]
  by_cases h : o = p
  · subst h
    by_cases hd : x.afe.driven.getLsbD o.idx = true
    · simp only [hd, if_true, getD_fillSet_self]
    · simp only [hd, if_false, if_true, Bool.false_eq_true]
  · by_cases hd : x.afe.driven.getLsbD p.idx = true
    · simp only [hd, if_true, fillSet_out, if_neg h]
    · simp only [hd, if_false, if_neg h, Bool.false_eq_true]

theorem Die.OnPort.sampleOut {x y : Die} {L : List Fld} {E : List Nat} (hg : F.AFE_OUT_STAT_GOOD ∈ L) (h : x.OnPort L E y) :
    x.OnPort L E (y.sampleOut m now p) := by
  unfold Die.sampleOut
  split
  · exact h
  · extract_lets above z
    split
    · exact .onAfe h
    · exact .onAfe <| .setBit hg <| .onAfe h

/-- The limits are registers that the measurement leaves. -/
theorem Die.OnPort.overLimit {x y : Die} {E : List Nat} (h : x.OnPort [F.AFE_OUT_STAT_GOOD] E y) : y.overLimit m o = x.overLimit m o := by
  have hlimit : y.afeLimit o = x.afeLimit o := by
    cases o <;> simp only [Die.afeLimit, h.regs.get (f := F.AFE_ILIM_VSD) (by decide) (by decide) (by decide),
      h.regs.get (f := F.AFE_ILIM_VSA) (by decide) (by decide) (by decide),
      h.regs.get (f := F.AFE_ILIM_VBLIND) (by decide) (by decide) (by decide),
      h.regs.get (f := F.AFE_ILIM_VDET) (by decide) (by decide) (by decide)]
  rw [Die.overLimit, Die.overLimit, hlimit]

/-- The measurement as the registers show it. -/
def Die.shown : Die :=
  (((x.set F.AFE_IMON0_VDET (min 4095 m.vdet)).set F.AFE_IMON0_VBLIND (min 4095 m.vblind)).set F.AFE_IMON1_VSA
    (min 4095 m.vsa)).set F.AFE_IMON1_VSD (min 4095 m.vsd)

theorem Die.shown_imons : (x.shown m).get F.AFE_IMON0_VDET = min 4095 m.vdet ∧
    (x.shown m).get F.AFE_IMON0_VBLIND = min 4095 m.vblind ∧ (x.shown m).get F.AFE_IMON1_VSA = min 4095 m.vsa ∧
      (x.shown m).get F.AFE_IMON1_VSD = min 4095 m.vsd := by
  have hmin : ∀ n, min 4095 n % 2 ^ 12 = min 4095 n := fun n => Nat.mod_eq_of_lt (by omega)
  refine ⟨?_, ?_, ?_, ?_⟩ <;> simp (disch := decide) only [Die.shown, Die.get_set_ne, Die.get_set_self] <;> exact hmin _

/-- The die with the measurement taken, before any trip. -/
def Die.sampled : Die := (afeOuts.foldl (fun z q => z.sampleOut m now q) (x.shown m)).afeVrange

/-- The driven outputs whose run over the limit has reached FILT. -/
def Die.tripping : List AfeOut :=
  afeOuts.filter fun q => x.afe.driven.getLsbD q.idx && x.get F.AFE_TRIP_FILT ≤ x.afe.overs.getD q.idx 0

theorem Die.sampled_onPort : (x.shown m).OnPort [F.AFE_OUT_STAT_GOOD] [146] (x.sampled m now) :=
  .afeVrange (by simp) <| .foldl (fun _ _ _ hz => .sampleOut _ _ _ (by simp) hz) <| .refl _ _ _

theorem Die.shown_onPort {L : List Fld} {E : List Nat} (hi : ∀ f ∈ afeImons, f ∈ L) : x.OnPort L E (x.shown m) :=
  .set (hi _ (by simp [afeImons])) <| .set (hi _ (by simp [afeImons])) <| .set (hi _ (by simp [afeImons])) <|
    .set (hi _ (by simp [afeImons])) <| .refl _ _ _

theorem Die.shown_overLimit : (x.shown m).overLimit m o = x.overLimit m o := by
  have hlimit : (x.shown m).afeLimit o = x.afeLimit o := by
    cases o <;> simp (disch := decide) [Die.afeLimit, Die.shown, Die.get_set_ne]
  rw [Die.overLimit, Die.overLimit, hlimit]

theorem Die.sampled_overRun : (x.sampled m now).overRun o = nextRun (x.overLimit m o) (x.overRun o) := by
  have h := foldl_perOutput (I := (x.shown m).OnPort [F.AFE_OUT_STAT_GOOD] [146]) (view := Die.overRun) (l := afeOuts)
    (f := fun z q => z.sampleOut m now q) (g := fun q => nextRun (x.overLimit m q))
    (fun z q hz => .sampleOut _ _ _ (by simp) hz)
    (fun z q r hz => by rw [Die.sampleOut_overRun, hz.overLimit, Die.shown_overLimit]) (by decide) (.refl _ _ _) o
  rw [if_pos (mem_afeOuts o)] at h
  simp only [Die.sampled, Die.overRun, Die.afeVrange, Die.cond_afe]
  exact h

theorem Die.sampled_filt : (x.sampled m now).get F.AFE_TRIP_FILT = x.get F.AFE_TRIP_FILT := by
  rw [(x.sampled_onPort m now).regs.get (by decide) (by decide) (by decide),
    (x.shown_onPort m (L := afeImons) (E := []) (fun _ h => h)).regs.get (by decide) (by decide) (by decide)]

theorem Die.mem_tripping : o ∈ x.tripping ↔ (x.overRun o).1 = true ∧ x.get F.AFE_TRIP_FILT ≤ (x.overRun o).2 := by
  simp [Die.tripping, Die.overRun, mem_afeOuts]

end

/-! ### The trip -/

/-- An output's trip recorded: its CAUSE and its TRIPPED. -/
def Die.markTrip (x : Die) (o : AfeOut) : Die := (x.raise F.AFE_TRIP_CAUSE (2 ^ o.idx)).setBit F.AFE_OUT_STAT_TRIPPED o.idx true

section
variable (x : Die) (o p : AfeOut)

theorem Die.raise_bitOf {f : Fld} {i j : Nat} (hi : i < f.width) : (x.raise f (2 ^ j)).bitOf f i = (decide (i = j) || x.bitOf f i) := by
  rw [Die.bitOf, Die.raise_get, Die.get_set_self, Nat.testBit_mod_two_pow, Nat.testBit_or, Nat.testBit_two_pow, Die.bitOf]
  simp [hi, eq_comm, Bool.or_comm]

theorem Die.raise_bitOf_ne {f g : Fld} {v i : Nat} (h : f.key ≠ g.key) (hs : f.steers = false) :
    (x.raise f v).bitOf g i = x.bitOf g i := by
  rw [Die.bitOf, Die.raise_get, Die.get_set_ne _ _ h hs, Die.bitOf]

theorem Die.markTrip_tripBits : (x.markTrip p).tripBits o = if o = p then (true, true) else x.tripBits o := by
  have hcause : o.idx < F.AFE_TRIP_CAUSE.width := afeOut_idx_lt o
  have htripped : o.idx < F.AFE_OUT_STAT_TRIPPED.width := afeOut_idx_lt o
  by_cases h : o = p
  · subst h
    simp (disch := decide) [Die.markTrip, Die.tripBits, Die.setBit_bitOf_ne, Die.bitOf_setBit_self _ _ htripped, Die.raise_bitOf _ hcause]
  · simp (disch := decide) [h, Die.markTrip, Die.tripBits, Die.setBit_bitOf_ne, Die.bitOf_setBit_ne _ _ htripped (afeOut_idx_ne h),
      Die.raise_bitOf _ hcause, Die.raise_bitOf_ne, afeOut_idx_ne h]

/-- Of the outputs that trip, each has its CAUSE and its TRIPPED. -/
theorem Die.foldl_markTrip_tripBits (l : List AfeOut) (h : o ∈ l ∨ x.tripBits o = (true, true)) :
    (l.foldl Die.markTrip x).tripBits o = (true, true) := by
  induction l generalizing x with
  | nil => simpa using h
  | cons p l ih =>
    refine ih _ ?_
    rw [Die.markTrip_tripBits]
    by_cases hp : o = p
    · exact .inr (if_pos hp)
    · exact h.imp (by simp [hp]) (by simp [hp])

/-- The registers of a stop by a fault, before a calibration event is abandoned. -/
def Die.faultStop (c : Nat) : Die :=
  let y := ((x.onRake Rake.halted).set F.SEQ_CTRL_EN 0).set F.SEQ_PC_STATE 4
  ((y.set F.SEQ_FAULT_CAUSE c).set F.SEQ_FAULT_ADDR (y.get F.SEQ_PC_PC)).cond 139 true

theorem Die.rakeHalt_fault {x : Die} (h : x.rakeRuns = true) (c now : Nat) :
    x.rakeHalt (some c) now = ((((x.abandonFrame now).faultStop c).calAbandon 5 now).fire 140) := by
  have hquit : x.rakeQuit (some c) now = ((x.abandonFrame now).faultStop c).calAbandon 5 now := by
    simp only [Die.rakeQuit, h]
    rfl
  rw [Die.rakeHalt, hquit, h]
  rfl

/-- A stop by a fault, whatever frame and calibration event it finds: the AFE's page is left as it was. -/
theorem Die.rakeHalt_afePage (c now : Nat) :
    (x.rakeHalt (some c) now).wr = x.wr ∧ (x.rakeHalt (some c) now).dramCut = x.dramCut ∧
      (x.rakeHalt (some c) now).rakeRuns = false ∧
        ∀ f : Fld, f.pageOf = 0x21 → (x.rakeHalt (some c) now).get f = x.get f := by
  by_cases h : x.rakeRuns = true
  · have hlost : x.Beside (x.abandonFrame now) := .abandonFrame (.refl x)
    have hstop : ((x.abandonFrame now).faultStop c).Beside (x.rakeHalt (some c) now) := by
      rw [Die.rakeHalt_fault h]
      exact .fire (.calAbandon (.refl _))
    refine ⟨?_, ?_, ?_, fun f hf => ?_⟩
    · rw [hstop.wr, Die.faultStop, Die.cond_wr]; exact hlost.wr
    · rw [hstop.dramCut, Die.faultStop, Die.cond_dramCut]; exact hlost.dramCut
    · have hstate : ((x.abandonFrame now).faultStop c).get F.SEQ_PC_STATE = 4 := by
        simp (disch := decide) [Die.faultStop, Die.cond_get, Die.get_set_ne, Die.get_set_of_lt]
      simp [Die.rakeRuns, hstop.get (f := F.SEQ_PC_STATE) (by decide), hstate]
    · have hport : f.ofSensor = true := by simp [Fld.ofSensor, hf]
      have hregs : (x.abandonFrame now).Regs [F.SEQ_CTRL_EN, F.SEQ_PC_STATE, F.SEQ_FAULT_CAUSE, F.SEQ_FAULT_ADDR] [139]
          ((x.abandonFrame now).faultStop c) := by
        unfold Die.faultStop
        exact .cond (by simp) <| .set (by simp) <| .set (by simp) <| .set (by simp) <| .set (by simp) <| .onRake <| .refl _ _ _
      have hkey : ∀ g ∈ [F.SEQ_CTRL_EN, F.SEQ_PC_STATE, F.SEQ_FAULT_CAUSE, F.SEQ_FAULT_ADDR], g.key ≠ f.key := by
        have hpage : ∀ g ∈ [F.SEQ_CTRL_EN, F.SEQ_PC_STATE, F.SEQ_FAULT_CAUSE, F.SEQ_FAULT_ADDR], g.pageOf = 0x20 := by decide
        intro g hg hk
        have := hpage g hg
        simp only [Fld.pageOf, hk] at this hf
        omega
      rw [hstop.get hport, hregs.get (Fld.showsQueue_of_ofSensor hport) hkey (by decide), hlost.get hport]
  · rw [Die.rakeHalt, if_pos (by simpa using h)]
    exact ⟨rfl, rfl, by simpa using h, fun _ _ => rfl⟩

end

/-! ### CURRENT_SAMPLE -/

theorem Die.OnPort.raise {x y : Die} {L : List Fld} {E : List Nat} {f : Fld} {v : Nat} (hf : f ∈ L) (h : x.OnPort L E y) :
    x.OnPort L E (y.raise f v) := ⟨.raise hf h.regs, h.behind, h.wr, h.dramCut⟩

/-- The fields that a measurement and the trips that it finds change, before the Rake stops. -/
def sampleFields : List Fld := F.AFE_TRIP_CAUSE :: F.AFE_OUT_STAT_TRIPPED :: F.AFE_OUT_STAT_GOOD :: afeImons

section
variable (x : Die) (m : AfeSample) (now : Nat)

/-- The die with its trips recorded. -/
def Die.marked : Die := (x.sampled m now).tripping.foldl Die.markTrip (x.sampled m now)

/-- The die after a trip: the Rake stopped and every output off. -/
def Die.trippedOff : Die := (((x.marked m now).rakeHalt (some 5) now).afeOff).cond 145 true

/-- What CURRENT_SAMPLE makes of a die. -/
def Die.measured : Die :=
  if x.afe.driven = 0 then x
  else if (x.sampled m now).tripping.isEmpty then x.sampled m now
  else if x.boundaryNow (bits ((x.rake.store.look (x.get F.SEQ_PC_PC)).getD 0) 22 4) then
    (x.trippedOff m now).commitBoundary 0 x.nextFrame now
  else x.trippedOff m now

theorem execCurrentSample_eq (s : State) (d : DieId) (m : AfeSample) :
    exec (.currentSample d m) s = onDie d s fun env x => x.measured m env.now := rfl

theorem Die.sampled_onPort_all {L : List Fld} {E : List Nat} (hi : ∀ f ∈ afeImons, f ∈ L) (hg : F.AFE_OUT_STAT_GOOD ∈ L) (he : 146 ∈ E) :
    x.OnPort L E (x.sampled m now) :=
  .afeVrange he <| .foldl (fun _ _ _ hz => .sampleOut _ _ _ hg hz) <| x.shown_onPort m hi

theorem Die.marked_onPort : x.OnPort sampleFields [146] (x.marked m now) := by
  refine .foldl (fun z q _ hz => ?_) (x.sampled_onPort_all m now ?_ (by simp [sampleFields]) (by simp))
  · exact .setBit (by simp [sampleFields]) (.raise (by simp [sampleFields]) hz)
  · exact fun f hf => by simp [sampleFields, hf]

theorem Die.off_onPort : ((x.marked m now).rakeHalt (some 5) now).OnPort (offFields ++ afeImons) [145, 146] (x.trippedOff m now) :=
  .cond (by simp) <| .afeOff (by simp [offFields]) (by simp [offFields]) (fun q => by simp [afeEn_mem_offFields])
    (fun f hf => by simp [hf]) (by simp) <| .refl _ _ _

theorem Die.trippedOff_tripBits (o : AfeOut) : (x.trippedOff m now).tripBits o = (x.marked m now).tripBits o := by
  obtain ⟨-, -, -, hpage⟩ := (x.marked m now).rakeHalt_afePage 5 now
  have hregs := (x.off_onPort m now).regs
  simp only [Die.tripBits, Die.bitOf, hregs.get (f := F.AFE_TRIP_CAUSE) (by decide) (by decide) (by decide),
    hregs.get (f := F.AFE_OUT_STAT_TRIPPED) (by decide) (by decide) (by decide), hpage F.AFE_TRIP_CAUSE (by decide),
    hpage F.AFE_OUT_STAT_TRIPPED (by decide)]

theorem Die.trippedOff_rakeRuns : (x.trippedOff m now).rakeRuns = false := by
  obtain ⟨-, -, hruns, -⟩ := (x.marked m now).rakeHalt_afePage 5 now
  have hstate := (x.off_onPort m now).regs.get (f := F.SEQ_PC_STATE) (by decide) (by decide) (by decide)
  rw [← hruns, Die.rakeRuns, Die.rakeRuns, hstate]

theorem Die.trippedOff_outEn (o : AfeOut) : (x.trippedOff m now).outEn o = false := by
  rw [← Die.outView_en, Die.trippedOff, Die.cond_outView, Die.outView_en, Die.afeOff_outEn]

theorem Die.trippedOff_wr : (x.trippedOff m now).wr = x.wr := by
  obtain ⟨hwr, -, -, -⟩ := (x.marked m now).rakeHalt_afePage 5 now
  rw [(x.off_onPort m now).wr, hwr, (x.marked_onPort m now).wr]

theorem Die.trippedOff_dramCut : (x.trippedOff m now).dramCut = x.dramCut := by
  obtain ⟨-, hcut, -, -⟩ := (x.marked m now).rakeHalt_afePage 5 now
  rw [(x.off_onPort m now).dramCut, hcut, (x.marked_onPort m now).dramCut]

/-- A driven output within its limit has no run over it. -/
theorem Die.sampled_quiet {x : Die} (hfilt : 0 < x.get F.AFE_TRIP_FILT)
    (hin : ∀ p ∈ afeOuts, x.afe.driven.getLsbD p.idx = true → ∀ l ∈ x.afeLimit p, afeCurrent m p ≤ l) :
    (x.sampled m now).tripping = [] := by
  refine List.eq_nil_iff_forall_not_mem.2 fun o ho => ?_
  obtain ⟨hdriven, hover⟩ := (Die.mem_tripping _ o).1 ho
  rw [Die.sampled_overRun] at hdriven hover
  rw [Die.sampled_filt] at hover
  cases hd : x.afe.driven.getLsbD o.idx
  · simp [nextRun, Die.overRun, hd] at hdriven
  · have hwithin : x.overLimit m o = false := by
      unfold Die.overLimit
      cases hl : x.afeLimit o with
      | none => rfl
      | some l => exact decide_eq_false (Nat.not_lt.2 (hin o (mem_afeOuts o) hd l hl))
    have hzero : (nextRun (x.overLimit m o) (x.overRun o)).2 = 0 := by
      simp only [nextRun, Die.overRun, hd, hwithin, if_true, Bool.false_eq_true, if_false]
    omega

/-- An output that has been over its limit for FILT measurements with this one trips. -/
theorem Die.sampled_trips {x : Die} {o : AfeOut} (hdriven : x.afe.driven.getLsbD o.idx = true) (hhigh : x.overLimit m o = true)
    (hfilt : x.get F.AFE_TRIP_FILT ≤ x.afe.overs.getD o.idx 0 + 1) : o ∈ (x.sampled m now).tripping := by
  rw [Die.mem_tripping, Die.sampled_overRun, Die.sampled_filt]
  simp only [nextRun, Die.overRun, hdriven, hhigh, if_true]
  exact ⟨trivial, hfilt⟩

end

section
variable {s : State} {d : DieId} {m : AfeSample} (hr : s.running d)
include hr

theorem currentSample_idle (h : (s.die d).afe.driven = 0) : Effect (.currentSample d m) d s (fun y => (s.die d).only [] [] y) := by
  have hport : (s.fresh d).OnPort [] [] (s.fresh d) := .refl _ _ _
  exact onPort_effect rfl hr (if_pos h) hport (hport.settled_only_same rfl)

theorem currentSample_quiet (hdriven : (s.die d).afe.driven ≠ 0) (hquiet : ((s.fresh d).sampled m s.now).tripping = []) :
    Effect (.currentSample d m) d s (fun y => y.get F.AFE_IMON0_VDET = min 4095 m.vdet ∧
      y.get F.AFE_IMON0_VBLIND = min 4095 m.vblind ∧ y.get F.AFE_IMON1_VSA = min 4095 m.vsa ∧
        y.get F.AFE_IMON1_VSD = min 4095 m.vsd ∧ ({ s.die d with afe := y.afe } : Die).only
          [F.AFE_IMON0_VDET, F.AFE_IMON0_VBLIND, F.AFE_IMON1_VSA, F.AFE_IMON1_VSD, F.AFE_OUT_STAT_GOOD] [146] y) := by
  have hy : (s.fresh d).measured m s.now = (s.fresh d).sampled m s.now := by
    rw [Die.measured, if_neg (by exact hdriven), hquiet, if_pos (by rfl)]
  have hport := Die.sampled_onPort_all (s.fresh d) m s.now
    (L := [F.AFE_IMON0_VDET, F.AFE_IMON0_VBLIND, F.AFE_IMON1_VSA, F.AFE_IMON1_VSD, F.AFE_OUT_STAT_GOOD]) (E := [146]) (by decide)
    (by simp) (by simp)
  have hregs := (Die.sampled_onPort (s.fresh d) m s.now).regs.settled
  have hshown : ∀ f ∈ afeImons, ((s.fresh d).sampled m s.now).settled.get f = ((s.fresh d).shown m).get f := fun f hf => by
    have hkeys : ∀ f ∈ afeImons, f.showsQueue = false ∧ ∀ g ∈ [F.AFE_OUT_STAT_GOOD], g.key ≠ f.key := by decide
    exact hregs.get (hkeys f hf).1 (hkeys f hf).2 (by decide)
  obtain ⟨hdet, hblind, hvsa, hvsd⟩ := (s.fresh d).shown_imons m
  exact onPort_effect (execCurrentSample_eq s d m) hr hy hport ⟨(hshown _ (by simp [afeImons])).trans hdet,
    (hshown _ (by simp [afeImons])).trans hblind, (hshown _ (by simp [afeImons])).trans hvsa,
    (hshown _ (by simp [afeImons])).trans hvsd, hport.settled_only⟩

/-- A trip, with no FRAME_START in the same SEQC cycle. -/
theorem currentSample_trip {o : AfeOut} (hdriven : (s.die d).afe.driven.getLsbD o.idx = true)
    (hnow : (s.die d).rakeRuns = false ∨ (s.die d).rake.begun ≠ 0) (htrips : o ∈ ((s.fresh d).sampled m s.now).tripping) :
    Effect (.currentSample d m) d s (fun y => y.bitOf F.AFE_TRIP_CAUSE o.idx = true ∧ y.bitOf F.AFE_OUT_STAT_TRIPPED o.idx = true ∧
      y.condOn 145 = true ∧ (∀ p ∈ afeOuts, y.outEn p = false) ∧ y.rakeRuns = false) := by
  have hdrives : (s.fresh d).afe.driven ≠ 0 := fun h => by
    have h' : (s.die d).afe.driven = 0 := h
    simp [h'] at hdriven
  have hsome : ((s.fresh d).sampled m s.now).tripping.isEmpty = false := by
    cases h : ((s.fresh d).sampled m s.now).tripping with
    | nil => simp [h] at htrips
    | cons _ _ => rfl
  have hnoBoundary : ∀ mark, (s.fresh d).boundaryNow mark = false := fun mark => by
    obtain h | h := hnow
    · have h' : (s.fresh d).rakeRuns = false := h
      simp [Die.boundaryNow, h']
    · simp [Die.boundaryNow, h]
  have hy : (s.fresh d).measured m s.now = (s.fresh d).trippedOff m s.now := by
    rw [Die.measured, if_neg hdrives, hsome, hnoBoundary, if_neg Bool.false_ne_true, if_neg Bool.false_ne_true]
  have hbits : ((s.fresh d).trippedOff m s.now).tripBits o = (true, true) :=
    (Die.trippedOff_tripBits _ _ _ _).trans (Die.foldl_markTrip_tripBits _ _ _ (.inl htrips))
  obtain ⟨hcause, htripped⟩ := Prod.mk.inj hbits
  refine effect_to (execCurrentSample_eq s d m) hr hy ?_ ?_ ⟨hcause, htripped, ?_, fun p _ => ?_, ?_⟩
  · rw [Die.trippedOff_wr, State.fresh_wr]
  · rw [Die.trippedOff_dramCut, State.fresh_dramCut]
  · rw [Die.settled_condOn]; exact Die.cond_condOn _ _ (by decide)
  · rw [Die.settled_outEn, Die.trippedOff_outEn]
  · rw [Die.settled_rakeRuns, Die.trippedOff_rakeRuns]

end

/-! ### O20 -/

/-- Settles O20: an operation changes its own output alone, a measurement changes each driven output's run over its limit, and a trip
leaves of the AFE's page what it recorded, whatever frame and calibration event the Rake's stop abandons. -/
theorem afeOutputsAndMeasurement : Obligations.AfeOutputsAndMeasurement := by
  unfold Obligations.AfeOutputsAndMeasurement
  rintro s d o m val n code x hr rfl
  refine ⟨fun hlower hcause hen => afeOutputEnable_effect hr ((Die.mayEnable_iff _ _).2 ⟨hlower, hcause⟩) hen, fun hno => ?_,
    afeOutputDisable_effect hr, rampDone_up hr, rampDone_down hr, outputGood_effect hr, outputGood_ignored hr, offDone_effect hr,
    fun hdriven hfilt hin => currentSample_quiet hr hdriven (Die.sampled_quiet m s.now hfilt hin),
    fun hdriven hnow hhigh hfilt => currentSample_trip hr hdriven hnow
      (Die.sampled_trips m s.now hdriven (decide_eq_true hhigh) hfilt), currentSample_idle hr, tripCauseClear_effect hr val,
    fpdReading_valid hr, fun hon => fpdReading_bad hr hon (by simp), fun hon hbad => fpdReading_bad hr hon ?_⟩
  · refine afeOutputEnable_refused hr fun hmay => ?_
    obtain ⟨hlower, hcause⟩ := (Die.mayEnable_iff _ _).1 hmay
    obtain ⟨p, hp, hlow, hbad⟩ | hset := hno
    · obtain ⟨hen, hgood⟩ := hlower p hp hlow
      simp [hen, hgood] at hbad
    · simp [hcause] at hset
  · simp only [Option.mem_def, Option.some.injEq, forall_eq', fpdValid, Bool.and_eq_false_iff, decide_eq_false_iff_not]
    omega

end Sys2Proof.Machine

/-! The power states reached, and the supplies (O46). -/

namespace Sys2Proof.Machine
open Sys2Proof

/-! ### VDET and VBLIND ramp down (R75, R327) -/

/-- A bias output that drives and does not ramp down yet begins to. -/
def Die.dropBias (x : Die) (o : AfeOut) : Die :=
  if x.afe.driven.getLsbD o.idx && !x.afe.falling.getLsbD o.idx then x.rampDown o else x

/-- The same, seen of the output. -/
def OutView.dropBias (v : OutView) : OutView :=
  if v.driven && !v.falling then { v with ramping := true, good := false, falling := true, outside := false } else v

section
variable (x : Die) (o p : AfeOut)

theorem Die.dropBias_outView : (x.dropBias p).outView o = if o = p then (x.outView o).dropBias else x.outView o := by
  have hview : (x.afe.driven.getLsbD p.idx && !x.afe.falling.getLsbD p.idx) = ((x.outView p).driven && !(x.outView p).falling) := rfl
  by_cases h : o = p
  · subst h
    cases hc : (x.outView o).driven && !(x.outView o).falling <;>
      simp [Die.dropBias, hview, hc, OutView.dropBias, Die.rampDown_outView]
  · cases hc : (x.outView p).driven && !(x.outView p).falling <;> simp [Die.dropBias, hview, hc, h, Die.rampDown_outView]

theorem Die.biasDown_outView (ho : o ∈ [AfeOut.vdet, .vblind]) : x.biasDown.outView o = (x.outView o).dropBias := by
  have h := foldl_perOutput (I := fun _ => True) (view := Die.outView) (l := [AfeOut.vdet, .vblind]) (x := x) (f := Die.dropBias)
    (g := fun _ => OutView.dropBias) (fun _ _ _ => trivial) (fun z q r _ => Die.dropBias_outView z r q) (by decide) trivial o
  rw [if_pos ho] at h
  rw [← h]
  exact Die.afeVrange_outView _ _

theorem Die.biasDown_onPort : x.OnPort [F.AFE_OUT_STAT_RAMPING, F.AFE_OUT_STAT_GOOD] [146] x.biasDown := by
  refine .afeVrange (by simp) (.foldl (fun z q _ hz => ?_) (.refl _ _ _))
  split
  · exact .rampDown (by simp) (by simp) hz
  · exact hz

end

/-! ### A state reached (R328, R329) -/

/-- `z` has reached the power state `st`. -/
structure Die.Reached (z : Die) (st : Nat) (y : Die) : Prop where
  state : y.get F.PWR_STATE_STATE = st
  busy : y.on F.PWR_STATE_BUSY = false
  boot : y.boot = { z.boot with power := st, going := none, wokenAt := none }
  pends : y.pends 25 = true
  regs : z.Regs [F.PWR_STATE_STATE, F.PWR_STATE_BUSY] [25] y
  hidden : y.hidden = { z.hidden with boot := { z.boot with power := st, going := none, wokenAt := none } }

theorem Die.stateReached_reached (z : Die) {st : Nat} (h : st < 4) : z.Reached st (z.stateReached st).settled where
  state := by
    rw [Die.settled_get, Die.stateReached, Die.fire_get _ _ (by decide)]
    change (((z.set F.PWR_STATE_STATE st).set F.PWR_STATE_BUSY 0)).get F.PWR_STATE_STATE = st
    rw [Die.get_set_ne _ _ (by decide) (by decide), Die.get_set_of_lt _ h]
  busy := by
    rw [Die.settled_on, Die.stateReached, Die.fire_on _ _ (by decide)]
    change (((z.set F.PWR_STATE_STATE st).set F.PWR_STATE_BUSY 0)).on F.PWR_STATE_BUSY = false
    rw [Die.on_set_self]
    rfl
  boot := by rw [Die.settled_boot, Die.stateReached, Die.fire_boot]; rfl
  pends := Die.fire_pends _ (by decide)
  regs := by
    have hset : z.Regs [F.PWR_STATE_STATE, F.PWR_STATE_BUSY] [25] ((z.set F.PWR_STATE_STATE st).set F.PWR_STATE_BUSY 0) :=
      .set (by simp) <| .set (by simp) <| .refl z _ _
    exact .settled <| .fire (by simp) ⟨hset.live, hset.pend, hset.raw⟩
  hidden := by
    have h : (z.stateReached st).settled.hidden = (z.stateReached st).hidden := rfl
    rw [h, Die.stateReached, Die.fire_hidden]
    rfl

theorem Die.stateReached_wr (z : Die) (st : Nat) : (z.stateReached st).wr = z.wr := Die.fire_wr _ _
theorem Die.stateReached_dramCut (z : Die) (st : Nat) : (z.stateReached st).dramCut = z.dramCut := Die.fire_dramCut _ _

/-! ### POWER_STATE_DONE -/

section
variable {x : Die} {env : Env}

theorem Die.powerStep_biasDown (hg : x.boot.going = some 1) (hruns : x.rakeRuns = false) (hp : x.boot.power = 0)
    (hb : x.biasDriven = true) : x.powerStep env = x.biasDown := by
  simp [Die.powerStep, hg, hruns, hp, hb]

theorem Die.powerStep_doze (hg : x.boot.going = some 1) (hruns : x.rakeRuns = false) (hp : x.boot.power = 0)
    (hb : x.biasDriven = false) : x.powerStep env = x.stateReached 1 := by
  simp [Die.powerStep, hg, hruns, hp, hb]

theorem Die.powerStep_hold (hg : x.boot.going = some 2) (hruns : x.rakeRuns = false) (hb : x.biasDriven = false)
    (hcut : x.boot.cutMade = true) (hq : x.evd.queue = []) : x.powerStep env = x.enterHold env := by
  simp [Die.powerStep, hg, hruns, hb, hcut, hq]

theorem Die.powerStep_run (hg : x.boot.going = some 0) (hp : x.boot.power = 1) (hr : x.anyRamp = false) :
    x.powerStep env = x.enterRun env := by
  simp [Die.powerStep, hg, hp, hr]

theorem Die.powerStep_ramping (hg : x.boot.going = some 0) (hp : x.boot.power = 1) (hr : x.anyRamp = true) :
    x.powerStep env = x := by
  simp [Die.powerStep, hg, hp, hr]

theorem Die.powerStep_dormant (hg : x.boot.going = some 3) (hruns : x.rakeRuns = false) (hb : x.biasDriven = false)
    (hp : x.boot.power < 2) (hclosing : x.evd.closing = none) (hlive : x.evd.live = false) :
    x.powerStep env = x.enterDormant env := by
  have hne : x.boot.power ≠ 2 := hp.ne
  simp [Die.powerStep, hg, hruns, hb, hne, hclosing, hlive]

/-- The entry to Hold ends with the trim map's SRAM lost and the clocks stopped. -/
theorem Die.enterHold_ends : ∃ u : Die, x.enterHold env =
    ((u.onTrm fun t => { t with sram := [], stale := false, loading := false }).set F.CLK_GATE_RUN 0x24).stateReached 2 := ⟨_, rfl⟩

/-- The entry to Run with the Rake as Doze found it, and no wake to time. -/
theorem Die.enterRun_eq (hrake : x.rake.dozeRan = false) (hwoken : x.boot.wokenAt = none) :
    x.enterRun env = (x.onAcb fun a => { a with settleDue := true }).stateReached 0 := by
  have hagain : x.rakeAgain = x.onAcb fun a => { a with settleDue := true } := by
    have hsame : ({ x.rake with dozeRan := false } : Rake) = x.rake := by rw [← hrake]
    simp only [Die.rakeAgain, hrake, Bool.false_and, Bool.false_eq_true, if_false]
    simp only [Die.onRake, Die.onAcb, hsame]
  simp only [Die.enterRun, hagain, hwoken]

end

section
variable {s : State} {d : DieId} {ecc : Ecc} (hr : s.running d)
include hr

theorem powerStateDone_biasDown (hg : (s.die d).boot.going = some 1) (hruns : (s.die d).rakeRuns = false)
    (hp : (s.die d).boot.power = 0) (hb : (s.die d).biasDriven = true) :
    Effect (.powerStateDone d ecc) d s (fun y =>
      (∀ o ∈ [AfeOut.vdet, AfeOut.vblind], (s.die d).afe.driven.getLsbD o.idx = true → y.afe.falling.getLsbD o.idx = true ∧
        ((s.die d).afe.falling.getLsbD o.idx = false → y.bitOf F.AFE_OUT_STAT_RAMPING o.idx = true ∧ y.outGood o = false)) ∧
      ({ s.die d with afe := y.afe } : Die).only [F.AFE_OUT_STAT_RAMPING, F.AFE_OUT_STAT_GOOD] [146] y) := by
  have hport := (s.fresh d).biasDown_onPort
  refine onPort_effect rfl hr (Die.powerStep_biasDown (x := s.fresh d) hg hruns hp hb) hport
    ⟨fun o ho hdriven => ⟨?_, fun hfalling => ⟨?_, ?_⟩⟩, hport.settled_only⟩
  all_goals have hview : (s.fresh d).biasDown.settled.outView o = ((s.die d).outView o).dropBias := Die.biasDown_outView _ o ho
  · refine (congrArg OutView.falling hview).trans ?_
    have hd : ((s.die d).outView o).driven = true := hdriven
    cases hf : ((s.die d).outView o).falling <;> simp [OutView.dropBias, hd, hf]
  · have hd : ((s.die d).outView o).driven = true := hdriven
    have hf : ((s.die d).outView o).falling = false := hfalling
    exact (congrArg OutView.ramping hview).trans (by simp [OutView.dropBias, hd, hf])
  · have hd : ((s.die d).outView o).driven = true := hdriven
    have hf : ((s.die d).outView o).falling = false := hfalling
    exact (congrArg OutView.good hview).trans (by simp [OutView.dropBias, hd, hf])

theorem powerStateDone_doze (hg : (s.die d).boot.going = some 1) (hruns : (s.die d).rakeRuns = false)
    (hp : (s.die d).boot.power = 0) (hb : (s.die d).biasDriven = false) :
    Effect (.powerStateDone d ecc) d s (fun y => y.get F.PWR_STATE_STATE = 1 ∧ y.on F.PWR_STATE_BUSY = false ∧
      y.boot = { (s.die d).boot with power := 1, going := none, wokenAt := none } ∧ y.pends 25 = true ∧
        ({ s.die d with boot := y.boot } : Die).only [F.PWR_STATE_STATE, F.PWR_STATE_BUSY] [25] y) := by
  obtain ⟨hstate, hbusy, hboot, hpends, hregs, hhidden⟩ := (s.fresh d).stateReached_reached (st := 1) (by decide)
  refine effect_to rfl hr (Die.powerStep_doze (x := s.fresh d) hg hruns hp hb) (Die.stateReached_wr _ _) (Die.stateReached_dramCut _ _)
    ⟨hstate, hbusy, hboot, hpends, ?_⟩
  rw [hboot]
  exact Die.only_of_regs hregs.of_fresh hhidden rfl rfl rfl

theorem powerStateDone_hold (hg : (s.die d).boot.going = some 2) (hruns : (s.die d).rakeRuns = false)
    (hb : (s.die d).biasDriven = false) (hcut : (s.die d).boot.cutMade = true) (hq : (s.die d).evd.queue = []) :
    DieAnswers (.powerStateDone d ecc) d s (fun y => y.get F.PWR_STATE_STATE = 2 ∧ y.boot.power = 2 ∧
      y.on F.PWR_STATE_BUSY = false ∧ y.boot.going = none ∧ y.pends 25 = true ∧ y.get F.CLK_GATE_RUN = 0x24 ∧
        y.trm.sram = []) := by
  refine dieAnswers_of rfl hr ?_
  obtain ⟨u, hu⟩ := Die.enterHold_ends (x := s.fresh d) (env := s.env d)
  rw [Die.powerStep_hold (x := s.fresh d) hg hruns hb hcut hq, hu]
  obtain ⟨hstate, hbusy, hboot, hpends, hregs, hhidden⟩ :=
    Die.stateReached_reached ((u.onTrm fun t => { t with sram := [], stale := false, loading := false }).set F.CLK_GATE_RUN 0x24)
      (st := 2) (by decide)
  refine ⟨hstate, by rw [hboot], hbusy, by rw [hboot], hpends, ?_, congrArg (fun z : Die => z.trm.sram) hhidden⟩
  rw [hregs.get (by decide) (by decide) (by decide), Die.get_set_of_lt _ (by decide)]

theorem powerStateDone_run (hg : (s.die d).boot.going = some 0) (hp : (s.die d).boot.power = 1)
    (hrake : (s.die d).rake.dozeRan = false) (hwoken : (s.die d).boot.wokenAt = none) (hramp : (s.die d).anyRamp = false) :
    Effect (.powerStateDone d ecc) d s (fun y => y.get F.PWR_STATE_STATE = 0 ∧ y.on F.PWR_STATE_BUSY = false ∧
      y.boot = { (s.die d).boot with power := 0, going := none } ∧ y.pends 25 = true ∧
        y.acb = { (s.die d).acb with settleDue := true } ∧
          ({ s.die d with boot := y.boot, acb := y.acb } : Die).only [F.PWR_STATE_STATE, F.PWR_STATE_BUSY] [25] y) := by
  obtain ⟨hstate, hbusy, hboot, hpends, hregs, hhidden⟩ :=
    Die.stateReached_reached ((s.fresh d).onAcb fun a => { a with settleDue := true }) (st := 0) (by decide)
  have hboot' : (((s.fresh d).onAcb fun a => { a with settleDue := true }).stateReached 0).settled.boot =
      { (s.die d).boot with power := 0, going := none } := by
    rw [hboot, ← hwoken]
    rfl
  have hacb : (((s.fresh d).onAcb fun a => { a with settleDue := true }).stateReached 0).settled.acb =
      { (s.die d).acb with settleDue := true } := congrArg Die.acb hhidden
  refine effect_to rfl hr ((Die.powerStep_run (x := s.fresh d) hg hp hramp).trans (Die.enterRun_eq (x := s.fresh d) hrake hwoken))
    (Die.stateReached_wr _ _) (Die.stateReached_dramCut _ _) ⟨hstate, hbusy, hboot', hpends, hacb, ?_⟩
  rw [hacb, hboot]
  have hacbRegs : (s.die d).Regs [F.PWR_STATE_STATE, F.PWR_STATE_BUSY] [25] ((s.fresh d).onAcb fun a => { a with settleDue := true }) :=
    .onAcb <| .fresh s d _ _
  exact Die.only_of_regs (hacbRegs.trans hregs (fun _ h => h) (fun _ h => h)) hhidden rfl rfl rfl

theorem powerStateDone_ramping (hg : (s.die d).boot.going = some 0) (hp : (s.die d).boot.power = 1) (hramp : (s.die d).anyRamp = true) :
    Effect (.powerStateDone d ecc) d s (fun y => (s.die d).only [] [] y) := by
  have hport : (s.fresh d).OnPort [] [] (s.fresh d) := .refl _ _ _
  exact onPort_effect rfl hr (Die.powerStep_ramping (x := s.fresh d) hg hp hramp) hport (hport.settled_only_same rfl)

/-! ### Dormant (R329) -/

omit hr in
theorem Die.onBoot_boot (x : Die) (k : Boot → Boot) : (x.onBoot k).boot = k x.boot := rfl

omit hr in
theorem State.fresh_wakeLatch (s : State) (d : DieId) : (s.fresh d).wakeLatch = (s.die d).wakeLatch := rfl

section
omit hr
variable (x : Die) (env : Env)

/-- The registers that the reset to Dormant sets anew. -/
def dormantFields : List Fld :=
  [F.SYS_IDENT_DIE, F.SYS_IDENT_PKG, F.SYS_IDENT_LEAD, F.EVT_PKG_SUM_DIE_B, F.PWR_SUPPLY_WARN, F.NVS_STATE_EP_ONLY, F.CLK_STAT_REF_OK]

theorem dormantFields_key_ne (o : AfeOut) : ∀ f ∈ dormantFields, f.key ≠ (F.afeEn o).key := by cases o <;> decide

theorem Die.enterDormant_wr : (x.enterDormant env).wr = [] := rfl
theorem Die.enterDormant_dramCut : (x.enterDormant env).dramCut = true := by
  change (x.dramCut || decide (4 ≤ 5)) = true
  simp
theorem Die.enterDormant_nvs : (x.enterDormant env).nvs = x.nvs.afterReset := rfl

end

omit hr in
/-- After the reset that leaves the wake configuration alone, no output is enabled. -/
theorem Die.enterDormant_outEn (x : Die) (env : Env) (o : AfeOut) : (x.enterDormant env).outEn o = false := by
  have hset : ∀ f ∈ dormantFields, ∀ z v, (Die.set z f v).live.look (F.afeEn o) = z.live.look (F.afeEn o) := fun f hf _ _ =>
    RegFile.look_put_ne _ _ (dormantFields_key_ne o f hf)
  have hlook : (x.enterDormant env).live.look (F.afeEn o) = none := by
    change (x.afterReset env 5).live.look (F.afeEn o) = none
    simp only [Die.afterReset, Die.hardwired, Die.setB, Nat.lt_irrefl, if_false]
    rw [hset _ (by simp [dormantFields]), hset _ (by simp [dormantFields]), hset _ (by simp [dormantFields]),
      hset _ (by simp [dormantFields]), hset _ (by simp [dormantFields]), hset _ (by simp [dormantFields]),
      hset _ (by simp [dormantFields])]
    cases o <;> rfl
  have hkeys : (F.afeEn o).key ≠ F.SEQ_SYNC_SRC.key ∧ (F.afeEn o).key ≠ F.SEQ_FRAME_LEN_LEN.key ∧ (F.afeEn o).rst = 0 := by
    cases o <;> decide
  obtain ⟨hsync, hlen, hrst⟩ := hkeys
  simp [Die.outEn, Die.on, Die.get, hlook, Die.resetOf, hsync, hlen, hrst]

theorem powerStateDone_dormant (hg : (s.die d).boot.going = some 3) (hruns : (s.die d).rakeRuns = false)
    (hb : (s.die d).biasDriven = false) (hp : (s.die d).boot.power < 2) (hclosing : (s.die d).evd.closing = none)
    (hlive : (s.die d).evd.live = false) :
    EffectMem (.powerStateDone d ecc) d s (fun y m => y.boot.dormant = true ∧ y.boot.wake = (s.die d).wakeLatch ∧ m = [] ∧
      y.nvs = (s.die d).nvs.afterReset ∧ ∀ o ∈ afeOuts, y.outEn o = false) := by
  refine effectMem_of rfl hr ?_
  rw [Die.powerStep_dormant (x := s.fresh d) hg hruns hb hp hclosing hlive]
  refine ⟨?_, ?_, ?_, ?_, fun o _ => ?_⟩
  · rw [Die.settled_boot, Die.enterDormant, Die.onBoot_boot]
  · rw [Die.settled_boot, Die.enterDormant, Die.onBoot_boot, State.fresh_wakeLatch]
  · rw [Die.enterDormant_dramCut, Die.enterDormant_wr]; rfl
  · rw [Die.settled_nvs, Die.enterDormant_nvs, State.fresh_nvs]
  · rw [Die.settled_outEn, Die.enterDormant_outEn]

end

/-! ### Supplies (R331, R424) -/

/-- The banks once bank `n` has or has not its supply. -/
def banksWith (banks : BitVec 3) (n : Nat) (low : Bool) : BitVec 3 :=
  if low then banks ||| BitVec.twoPow 3 n else banks &&& ~~~ BitVec.twoPow 3 n

theorem banksWith_bit (banks : BitVec 3) (n : Fin 3) (low : Bool) {j : Nat} (hj : j < 3) :
    (banksWith banks n.val low).getLsbD j = if j = n.val then low else banks.getLsbD j := setAt_getLsbD banks low hj

theorem banksWith_known {banks : BitVec 3} {n : Fin 3} (h : banks.getLsbD n.val = true) : banksWith banks n.val true = banks := by
  refine BitVec.eq_of_getLsbD_eq fun j hj => ?_
  rw [banksWith_bit banks n true hj]
  split
  next hjn => rw [hjn, h]
  next => rfl

/-- The die with bank `n` marked. -/
def Die.markBank (x : Die) (n : Nat) (low : Bool) : Die := { x with boot := { x.boot with banks := banksWith x.boot.banks n low } }

section
variable {s : State} {d : DieId} {n : Fin 3} (hr : s.running d)
include hr

omit hr in
theorem execBankSupplyLoss_eq (s : State) (d : DieId) (n : Fin 3) (low : Bool) : exec (.bankSupplyLoss d n low) s =
    onDieAlways d s fun env x => if low && !x.boot.banks.getLsbD n.val then (x.markBank n.val low).bankLost env n.val
      else x.markBank n.val low := rfl

omit hr in
/-- A die whose banks alone have changed. -/
theorem Die.markBank_only (s : State) (d : DieId) (low : Bool) :
    ({ s.die d with boot := ((s.fresh d).markBank n.val low).settled.boot } : Die).only [] [] ((s.fresh d).markBank n.val low).settled :=
  Die.only_of_regs ⟨fun _ _ _ => rfl, fun _ _ _ => rfl, fun _ _ => rfl⟩ rfl rfl rfl rfl

theorem bankSupplyLoss_known (hlost : (s.die d).boot.banks.getLsbD n.val = true) :
    Effect (.bankSupplyLoss d n true) d s (fun y => y.boot = (s.die d).boot ∧
      ({ s.die d with boot := y.boot } : Die).only [] [] y) := by
  have hlost' : (s.fresh d).boot.banks.getLsbD n.val = true := hlost
  have hboot : ((s.fresh d).markBank n.val true).boot = (s.die d).boot := by
    rw [Die.markBank, banksWith_known hlost']
    rfl
  have hf : (if true && !(s.fresh d).boot.banks.getLsbD n.val then ((s.fresh d).markBank n.val true).bankLost (s.env d) n.val
      else (s.fresh d).markBank n.val true) = (s.fresh d).markBank n.val true := by rw [hlost']; rfl
  refine effectAlways_of (execBankSupplyLoss_eq s d n true) hr.1 ?_ ?_ ?_ <;> rw [hf]
  · rfl
  · rfl
  · exact ⟨hboot, Die.markBank_only s d true⟩

theorem bankSupplyLoss_back :
    Effect (.bankSupplyLoss d n false) d s (fun y => y.boot.banks.getLsbD n.val = false ∧
      (∀ j ∈ List.range 3, j ≠ n.val → y.boot.banks.getLsbD j = (s.die d).boot.banks.getLsbD j) ∧
        ({ s.die d with boot := y.boot } : Die).only [] [] y) := by
  refine effectAlways_of (execBankSupplyLoss_eq s d n false) hr.1 rfl rfl ⟨?_, fun j hj hne => ?_, Die.markBank_only s d false⟩
  · exact (banksWith_bit _ n false n.isLt).trans (if_pos rfl)
  · exact (banksWith_bit _ n false (List.mem_range.1 hj)).trans (if_neg hne)

/-- A bank that loses its supply, whatever its link, its SPI port or its Hall sensors make of it. -/
theorem bankSupplyLoss_low : Effect (.bankSupplyLoss d n true) d s (fun y => y.boot.banks.getLsbD n.val = true) := by
  have hbit : ((s.fresh d).markBank n.val true).boot.banks.getLsbD n.val = true :=
    (banksWith_bit _ n true n.isLt).trans (if_pos rfl)
  have hbeside : ((s.fresh d).markBank n.val true).Beside
      (if true && !(s.fresh d).boot.banks.getLsbD n.val then ((s.fresh d).markBank n.val true).bankLost (s.env d) n.val
        else (s.fresh d).markBank n.val true) := by
    split
    · exact .bankLost (.refl _)
    · exact .refl _
  refine effectAlways_of (execBankSupplyLoss_eq s d n true) hr.1 ?_ ?_ ?_
  · exact hbeside.wr
  · exact hbeside.dramCut
  · exact (congrArg (fun b : Boot => b.banks.getLsbD n.val) hbeside.boot).trans hbit

end

/-! ### SUPPLY_WARN (R331) -/

/-- A die whose supply `n` crosses its warning level. -/
def Die.supplyWarned (x : Die) (n : Nat) (low : Bool) : Die :=
  if (x.setBit F.PWR_SUPPLY_WARN n low).inReset then x.setBit F.PWR_SUPPLY_WARN n low
  else (x.setBit F.PWR_SUPPLY_WARN n low).cond 26 ((x.setBit F.PWR_SUPPLY_WARN n low).get F.PWR_SUPPLY_WARN != 0)

/-- A command on every die of the package does to each what it does to that die alone. -/
theorem onPackageAlways_die {s : State} {d : DieId} (hd : s.has d = true) (g : Die → Die) :
    ∃ t, onPackageAlways s (fun _ x => g x) = .next t ∧ t.die d = (g (s.fresh d)).settled := by
  refine ⟨_, rfl, ?_⟩
  have ha : (s.runAlways .a fun _ x => g x).die .a = (g (s.fresh .a)).settled := State.settle_die _ _ _
  have hafter : ((s.runAlways .a fun _ x => g x).runAlways .b fun _ x => g x).die d = (g (s.fresh d)).settled := by
    cases d with
    | a => exact (State.settle_other _ .b _).trans ha
    | b =>
      have hb : (s.runAlways .a fun _ x => g x).die .b = s.die .b := State.settle_other _ .a _
      rw [State.runAlways_eq, State.settle_die, State.fresh, hb]
      rfl
  cases hdual : s.dual with
  | true => exact hafter
  | false =>
    have hd : d = .a := by
      cases d with
      | a => rfl
      | b => exact absurd (hd.symm.trans hdual) (by decide)
    subst hd
    exact ha

theorem supplyWarn_effect {s : State} {d : DieId} {n : Fin 3} {low : Bool} (hr : s.running d) :
    DieAnswers (.supplyWarn n low) d s (fun y => y.bitOf F.PWR_SUPPLY_WARN n.val = low ∧
      y.condOn 26 = decide (y.get F.PWR_SUPPLY_WARN ≠ 0) ∧
        (∀ j ∈ List.range 3, j ≠ n.val → y.bitOf F.PWR_SUPPLY_WARN j = (s.die d).bitOf F.PWR_SUPPLY_WARN j) ∧
          (s.die d).only [F.PWR_SUPPLY_WARN] [26] y) := by
  obtain ⟨t, ht, hdie⟩ := onPackageAlways_die hr.1 fun x => x.supplyWarned n.val low
  have hwarned : (s.fresh d).supplyWarned n.val low = ((s.fresh d).setBit F.PWR_SUPPLY_WARN n.val low).cond 26
      (((s.fresh d).setBit F.PWR_SUPPLY_WARN n.val low).get F.PWR_SUPPLY_WARN != 0) := if_neg (by
    have hreset : ((s.fresh d).setBit F.PWR_SUPPLY_WARN n.val low).inReset = false := hr.2
    simp [hreset])
  have hbit : ∀ j < 3, ((s.fresh d).supplyWarned n.val low).bitOf F.PWR_SUPPLY_WARN j =
      if j = n.val then low else (s.die d).bitOf F.PWR_SUPPLY_WARN j := by
    intro j hj
    rw [hwarned, Die.cond_bitOf _ _ _ (by decide), Die.bitOf_setBit _ _ hj]
    rfl
  refine ⟨t, ht, ?_⟩
  beta_reduce
  rw [hdie]
  refine ⟨(hbit _ n.isLt).trans (if_pos rfl), ?_, fun j hj hne => (hbit j (List.mem_range.1 hj)).trans (if_neg hne), ?_⟩
  · rw [hwarned, Die.settled_condOn, Die.cond_condOn _ _ (by decide), Die.settled_get, Die.cond_get _ _ _ (by decide)]
    simp [bne, Bool.beq_eq_decide_eq]
  · rw [hwarned]
    refine Die.only_of_regs (.settled <| .cond (by simp) <| .setBit (by simp) <| .fresh s d _ _) ?_ rfl rfl rfl
    rw [Die.settled_hidden, Die.cond_hidden]
    rfl

/-! ### O46 -/

/-- Settles O46: POWER_STATE_DONE is one step of the transition under way, whose end sets the state that it has reached, and a bank's
loss marks the bank whatever it sets off on the die. -/
theorem powerStates : Obligations.PowerStates := by
  unfold Obligations.PowerStates
  rintro s d ecc n low x hr rfl
  refine ⟨powerStateDone_biasDown hr, powerStateDone_doze hr, powerStateDone_hold hr, powerStateDone_run hr,
    powerStateDone_ramping hr, powerStateDone_dormant hr, ?_, ?_, ?_, supplyWarn_effect hr⟩
  · rintro rfl hlost
    exact bankSupplyLoss_known hr hlost
  · rintro rfl
    exact bankSupplyLoss_back hr
  · rintro rfl
    exact bankSupplyLoss_low hr

end Sys2Proof.Machine

/-! Statements on the Rake that fail in this model: the state and the command that refute each. -/

namespace Sys2Proof.Machine

/-! ### The samples of the open row (O23, O25) -/

/-- Row 0 of frame 0, opened with nothing scanned yet. -/
def openRowZero : OpenRow :=
  { row := 0, frame := 0, gain := 0, skip := 0, cnt := 0, shift := 0, lpm := false, lpCore := 0, trims := {}, clus := [],
    scan := [], regs := {} }

/-- Die A's Rake runs in the word `w` at address 0, whose first `begun` stages have acted. A frame and its row 0 are open, and the
column scan runs. -/
def scanningRow (w begun : Nat) : State :=
  { dieA := { ({} : Die).set F.SEQ_PC_STATE 1 with
              rake := { store := [(0, w)], begun := begun, scanning := true, frameOpen := true, row := some 0 },
              acb := { ({} : Acb) with rows := [openRowZero] } },
    now := 100 }

/-- The samples of each open row, as the scan segments that it holds. -/
def Die.scans (x : Die) : List Nat := x.acb.rows.map (fun r => r.scan.length)

theorem Die.scans_of_only {x y : Die} {L : List Fld} {E : List Nat} (h : x.only L E y) : y.scans = x.scans :=
  show y.hidden.scans = x.hidden.scans from congrArg Die.scans h.1

theorem scanningRow_blankRow :
    afterOnDieA Die.scans (exec (.blankRow .a) (scanningRow (rakeBits 0 0 6 0 0 0 1 4) 5)) = some [1] := by
  decide +kernel

/-- Refutes O23: for a blanking word below 300 cycles its clause lets the converters' state not change, but a BLANK_ROW closes no
row (R57). In a frame, with a row open and the scan running, the word's samples still go to that row. -/
theorem not_rakeMarkers : ¬ Obligations.RakeMarkers := by
  unfold Obligations.RakeMarkers
  intro h
  obtain ⟨-, -, -, -, -, -, hblank, -⟩ := h (scanningRow (rakeBits 0 0 6 0 0 0 1 4) 5) .a [] [] _ (by decide) rfl
  obtain ⟨t, ht, -, -, -, hshort⟩ := hblank (by decide) rfl rfl (by decide)
  have hscans : t.dieA.scans = [0] := Die.scans_of_only (hshort (by decide))
  have heval := scanningRow_blankRow
  rw [ht, afterOnDieA_next, hscans] at heval
  exact absurd (Option.some.inj heval) (by decide)

theorem scanningRow_frameTick :
    afterOnDieA Die.scans (exec (.frameTick .a .clean) (scanningRow (rakeBits 4 0 1 0 0 0 1 0) 7)) = some [1] := by
  decide +kernel

/-- Refutes O25: its first clause lets a tick that ends a WAIT_FRAME word change the Rake alone, but the scan goes on while the word
waits, and where a row is open its samples until then belong to that row (R56, R57). -/
theorem not_rakeTicks : ¬ Obligations.RakeTicks := by
  unfold Obligations.RakeTicks
  intro h
  obtain ⟨htick, -⟩ := h (scanningRow (rakeBits 4 0 1 0 0 0 1 0) 7) .a .clean _ (by decide) rfl
  obtain ⟨t, ht, -, -, -, -, -, -, honly⟩ :=
    htick (by decide) (by decide) (by decide) rfl rfl (by decide) (by decide)
  have hscans : t.dieA.scans = [0] := Die.scans_of_only honly
  have heval := scanningRow_frameTick
  rw [ht, afterOnDieA_next, hscans] at heval
  exact absurd (Option.some.inj heval) (by decide)

end Sys2Proof.Machine

/-! ACB_GANG: one write arms the commits of all cluster pages in use (R103). -/

namespace Sys2Proof.Machine

/-! ### The commit of one page -/

/-- The state of a page's commit: whether one is pending, and the boundary set for it. -/
def Die.commitState (x : Die) (p : Nat) : Bool × Nat := (x.commitPending p, x.get (F.COMMIT_BOUNDARY p))

/-- The commit of page `p` armed for the frame boundary. -/
def Die.armForFrame (x : Die) (p : Nat) : Die := (x.set (F.COMMIT_BOUNDARY p) 0).set (F.COMMIT_STAT_PENDING p) 1

@[simp] theorem Die.settled_commitState (x : Die) (p : Nat) : x.settled.commitState p = x.commitState p := rfl
@[simp] theorem State.fresh_commitState (s : State) (d : DieId) (p : Nat) :
    (s.fresh d).commitState p = (s.die d).commitState p := rfl
@[simp] theorem Die.armForFrame_wr (x : Die) (p : Nat) : (x.armForFrame p).wr = x.wr := rfl
@[simp] theorem Die.armForFrame_dramCut (x : Die) (p : Nat) : (x.armForFrame p).dramCut = x.dramCut := rfl

/-- Registers of different pages have different places. -/
theorem Fld.key_ne_of_page_ne {f g : Fld} (h : f.page ≠ g.page) (hf : f.off < 0x1000 ∧ f.lo < 32)
    (hg : g.off < 0x1000 ∧ g.lo < 32) : f.key ≠ g.key := by
  unfold Fld.key; omega

theorem Die.armForFrame_commitState_same (x : Die) (p : Nat) : (x.armForFrame p).commitState p = (true, 0) := by
  have hpending : (x.armForFrame p).commitPending p = true := Die.commitPending_setPending _ p 1
  have hboundary : (x.armForFrame p).get (F.COMMIT_BOUNDARY p) = 0 :=
    (Die.get_set_ne _ 1 (COMMIT_BOUNDARY_ne_PENDING p).symm (COMMIT_STAT_PENDING_steers p)).trans
      (Die.get_setBoundary x p (by decide))
  rw [Die.commitState, hpending, hboundary]

/-- Arming the commit of a page leaves every field of another page as it was. -/
theorem Die.armForFrame_get (x : Die) {p : Nat} {f : Fld} (h : p ≠ f.page) (hf : f.off < 0x1000 ∧ f.lo < 32) :
    (x.armForFrame p).get f = x.get f :=
  have hpending : (F.COMMIT_STAT_PENDING p).key ≠ f.key :=
    Fld.key_ne_of_page_ne h (by simp [F.COMMIT_STAT_PENDING]) hf
  have hboundary : (F.COMMIT_BOUNDARY p).key ≠ f.key :=
    Fld.key_ne_of_page_ne h (by simp [F.COMMIT_BOUNDARY]) hf
  (Die.get_set_ne _ 1 hpending (COMMIT_STAT_PENDING_steers p)).trans
    (Die.get_set_ne x 0 hboundary (COMMIT_BOUNDARY_steers p))

theorem Die.armForFrame_commitState_other (x : Die) {p q : Nat} (h : p ≠ q) :
    (x.armForFrame p).commitState q = x.commitState q := by
  have hpending := Die.armForFrame_get x (f := F.COMMIT_STAT_PENDING q) h (by simp [F.COMMIT_STAT_PENDING])
  have hboundary := Die.armForFrame_get x (f := F.COMMIT_BOUNDARY q) h (by simp [F.COMMIT_BOUNDARY])
  simp only [Die.commitState, Die.commitPending, Die.on, hpending, hboundary]

/-! ### The cluster pages in turn -/

/-- What ACB_GANG.ARM does with the page of cluster `c`. -/
def Die.gangArmPage (x : Die) (c : Nat) : Die :=
  if x.commitPending (0x80 + c) then x else x.armForFrame (0x80 + c)

theorem Die.gangArm_eq (x : Die) : x.gangArm = x.clusters.foldl Die.gangArmPage x := rfl

theorem Die.mem_clusters {x : Die} {k : Nat} : k ∈ x.clusters ↔ x.cluInUse k = true := by
  simp [Die.clusters, Die.cluInUse]

theorem Die.gangArmPage_of_pending {x : Die} {c : Nat} (h : x.commitPending (0x80 + c) = true) : x.gangArmPage c = x :=
  if_pos h

theorem Die.gangArmPage_of_free {x : Die} {c : Nat} (h : x.commitPending (0x80 + c) = false) :
    x.gangArmPage c = x.armForFrame (0x80 + c) := by simp [Die.gangArmPage, h]

@[simp] theorem Die.gangArmPage_wr (x : Die) (c : Nat) : (x.gangArmPage c).wr = x.wr := by
  unfold Die.gangArmPage; split <;> rfl

@[simp] theorem Die.gangArmPage_dramCut (x : Die) (c : Nat) : (x.gangArmPage c).dramCut = x.dramCut := by
  unfold Die.gangArmPage; split <;> rfl

@[simp] theorem Die.gangArm_wr (x : Die) : x.gangArm.wr = x.wr := foldl_keeps Die.wr (fun z c _ => z.gangArmPage_wr c) x

@[simp] theorem Die.gangArm_dramCut (x : Die) : x.gangArm.dramCut = x.dramCut :=
  foldl_keeps Die.dramCut (fun z c _ => z.gangArmPage_dramCut c) x

/-- A page whose commit is pending, and one of another cluster, is left as it is. -/
theorem Die.gangArmPage_keeps (x : Die) {c k : Nat} (h : x.commitPending (0x80 + k) = true ∨ c ≠ k) :
    (x.gangArmPage c).commitState (0x80 + k) = x.commitState (0x80 + k) := by
  cases hc : x.commitPending (0x80 + c) with
  | true => rw [Die.gangArmPage_of_pending hc]
  | false =>
    have hne : c ≠ k := h.elim (fun hk e => by simp [e, hk] at hc) (fun hne => hne)
    rw [Die.gangArmPage_of_free hc, Die.armForFrame_commitState_other x (by omega)]

theorem Die.foldl_gangArmPage_keeps {l : List Nat} {k : Nat} (x : Die)
    (h : x.commitPending (0x80 + k) = true ∨ k ∉ l) :
    (l.foldl Die.gangArmPage x).commitState (0x80 + k) = x.commitState (0x80 + k) := by
  induction l generalizing x with
  | nil => rfl
  | cons c r ih =>
    have hhead := Die.gangArmPage_keeps x (c := c) (h.imp_right fun hk e => hk (e ▸ List.mem_cons_self))
    have hpending : (x.gangArmPage c).commitPending (0x80 + k) = x.commitPending (0x80 + k) := congrArg Prod.fst hhead
    have hrest := h.imp_right fun hk hr => hk (List.mem_cons_of_mem c hr)
    exact (ih _ (by rwa [hpending])).trans hhead

/-- The page of a listed cluster is armed when its turn comes, and the turns after it find its commit pending. -/
theorem Die.foldl_gangArmPage_arms {l : List Nat} {k : Nat} (x : Die) (hk : k ∈ l)
    (hfree : x.commitPending (0x80 + k) = false) : (l.foldl Die.gangArmPage x).commitState (0x80 + k) = (true, 0) := by
  induction l generalizing x with
  | nil => cases hk
  | cons c r ih =>
    rw [List.foldl_cons]
    by_cases hck : c = k
    · subst hck
      have harmed : (x.gangArmPage c).commitState (0x80 + c) = (true, 0) := by
        rw [Die.gangArmPage_of_free hfree, Die.armForFrame_commitState_same]
      exact (Die.foldl_gangArmPage_keeps _ (.inl (congrArg Prod.fst harmed))).trans harmed
    · have hhead := congrArg Prod.fst (Die.gangArmPage_keeps x (.inr hck))
      exact ih _ ((List.mem_cons.1 hk).resolve_left (Ne.symm hck)) (hhead.trans hfree)

theorem Die.gangArm_arms (x : Die) {k : Nat} (hk : x.cluInUse k = true) (hfree : x.commitPending (0x80 + k) = false) :
    x.gangArm.commitState (0x80 + k) = (true, 0) :=
  Die.foldl_gangArmPage_arms x (Die.mem_clusters.2 hk) hfree

theorem Die.gangArm_keeps (x : Die) {k : Nat} (h : x.commitPending (0x80 + k) = true ∨ x.cluInUse k = false) :
    x.gangArm.commitState (0x80 + k) = x.commitState (0x80 + k) :=
  Die.foldl_gangArmPage_keeps x (h.imp_right fun hk hmem => by simp [Die.mem_clusters.1 hmem] at hk)

/-! ### ACB_GANG (O18) -/

theorem acbGang_fieldsAt : fieldsAt 0x23 0x60 = some [F.ACB_GANG_ARM] := by decide +kernel

theorem acbGang_ordinary : OrdinaryReg 0x23 0x60 where
  listed := by decide
  inPage := by decide
  aligned := by decide
  ownRule := by decide
  msix := by decide
  peer := by decide +kernel

/-- ARM is the register's only field and holds no value: with 1 in it, the write is the arming. -/
theorem Die.writeAcbGang (x : Die) (env : Env) {val : Nat} (h : F.ACB_GANG_ARM.ofWord val = 1) :
    x.writeFields env 0x23 0x60 val [F.ACB_GANG_ARM] = x.gangArm := by
  have hin : F.ACB_GANG_ARM.inRange (F.ACB_GANG_ARM.ofWord val) = true := by rw [h]; rfl
  have heffect : ∀ g, x.writeEffect g env 0x23 0x60 val = x.gangArm := fun _ => if_pos h
  unfold Die.writeFields
  rw [if_neg (by simpa [Fld.writable, F.ACB_GANG_ARM] using hin)]
  exact heffect _

/-- A write of 1 to ARM has the properties of the die whose cluster pages were armed. -/
theorem acbGang_effect {s : State} {d : DieId} {u : Writer} {val : Nat} {P : Die → Prop} (hr : s.running d)
    (hval : val % 2 = 1) (hP : P (s.fresh d).gangArm.settled) : Effect (.registerWrite d u 0x23060 val 4) d s P := by
  have harm : F.ACB_GANG_ARM.ofWord (val % 2 ^ 32) = 1 := by
    simp only [Fld.ofWord, F.ACB_GANG_ARM, bits, Nat.shiftRight_zero]; omega
  exact registerWrite_effect (p := 0x23) (off := 0x60) hr acbGang_ordinary acbGang_fieldsAt (Die.writeAcbGang _ _ harm)
    (by simp) (by simp) hP

/-- Settles O18: each turn of the arming changes the page of its own cluster alone, and that one only where no commit is
pending. -/
theorem gangArm : Obligations.GangArm := by
  unfold Obligations.GangArm
  rintro s d u val k x hr rfl
  have hkept (hval : val % 2 = 1) (hk : (s.die d).commitPending (0x80 + k) = true ∨ (s.die d).cluInUse k = false) :
      Effect (.registerWrite d u 0x23060 val 4) d s (fun y =>
        y.commitPending (0x80 + k) = (s.die d).commitPending (0x80 + k) ∧
          y.get (F.COMMIT_BOUNDARY (0x80 + k)) = (s.die d).get (F.COMMIT_BOUNDARY (0x80 + k))) :=
    acbGang_effect hr hval (Prod.mk.inj (Die.gangArm_keeps (s.fresh d) hk))
  refine ⟨fun hval hk _ hfree => ?_, hkept, hkept⟩
  exact acbGang_effect hr hval (Prod.mk.inj (Die.gangArm_arms (s.fresh d) hk hfree))

end Sys2Proof.Machine

/-! A statement on the Sieve that fails in this model: the state and the command that refute it. -/

namespace Sys2Proof.Machine

/-! ### The tile-hit map in a DRAM that is not canonical (O28) -/

/-- The DRAM of Die A lists the address 1 before the address 0, against its canonical form; no tile has hit in the frame compared
last, whose map goes to the address 0. -/
def mapOverUnsortedDram : State :=
  { dieA := { ({} : Die).set F.RAD_CTRL_HS_EN 1 with rad := { closed := false } }, memA := [(1, 1), (0, 7)] }

theorem mapOverUnsortedDram_tileMapWrite :
    Answers (.tileMapWrite .a) mapOverUnsortedDram (fun t => t.memA.read 0 = 7) :=
  ⟨_, rfl, by decide +kernel⟩

/-- Refutes O28: its last clause reads the whole tile-hit map back from the DRAM, and is stated for every state, also where the DRAM
is not in its canonical form (`Memory.wf`). A write of 0 below the first listed address changes nothing, as in canonical form no
such address is listed. In `mapOverUnsortedDram`, which no run from reset reaches, the map's first byte is 0 and the 7 that stood in
its place stays. -/
theorem not_sieveRows : ¬ Obligations.SieveRows := by
  unfold Obligations.SieveRows
  intro h
  obtain ⟨-, -, -, -, -, hmap⟩ :=
    h mapOverUnsortedDram .a { late := [], resid := [], twin := [], tiles := [], entries := [] }
      { row := 0, frame := 0, gain := 0, shift := 0, chans := [] } { row := 0, frame := 0, pix := [] }
      { row := 0, frame := 0, pix := [] } 0 0 0 _ (by decide) rfl
  obtain ⟨t, ht, -, -, -, -, -, -, hread, -⟩ :=
    hmap rfl rfl rfl (by decide) rfl rfl rfl (by decide) (by decide)
  obtain ⟨u, hu, hseven⟩ := mapOverUnsortedDram_tileMapWrite
  obtain rfl : t = u := Host.Outcome.next.inj (ht.symm.trans hu)
  have hzero : t.memA.read 0 = 0 := (hread 0 (List.mem_range.2 (by decide))).trans (by decide +kernel)
  exact absurd (hzero.symm.trans hseven) (by decide)

end Sys2Proof.Machine

/-! A statement on the calibration mailbox that fails in this model: the state and the command that refute it. -/

namespace Sys2Proof.Machine

/-! ### CAL_HASH while a reset of the CMM waits (O59) -/

/-- The cores of Die A run, and a reset of its CMM is asked for and waits (R36). -/
def cmmInReset : State := { dieA := { ({} : Die).set (F.BRST_ACTIVE 0x33) 1 with boot := { cores := true } } }

/-- The CMM refuses the hash that the CP asks it for, with its ACC_ERR, event 376. -/
theorem cmmInReset_calHash : afterOnDieA (fun y => y.pends 376) (exec (.calHash .a 0 0) cmmInReset) = some true := by
  decide +kernel

/-- Refutes O59: its clause of CAL_HASH lets no event become pending and has no premise that the CMM takes new work. While a
reset of the CMM waits, the hash that CAL_HASH asks for is refused with the CMM's ACC_ERR. -/
theorem not_mailboxCalibration : ¬ Obligations.MailboxCalibration := by
  unfold Obligations.MailboxCalibration
  intro h
  obtain ⟨-, -, -, -, -, -, -, -, -, -, hhash⟩ := h cmmInReset .a 0 0
    { gain := 0, f := 1, warm := false, first := 0, settleFrame := 1, groupA := 1, groupB := 2, last := 2, plane := 0, tf0 := 0,
      th0 := 0 } _ (by decide) rfl
  obtain ⟨t, ht, -, -, -, -, -, hpend, -⟩ := hhash (by decide) (by decide) (by decide)
  have hbefore : cmmInReset.dieA.pends 376 = false := by decide +kernel
  have hnone : t.dieA.pends 376 = false := (hpend 376 (by decide) (by decide)).trans hbefore
  have heval := cmmInReset_calHash
  rw [ht, afterOnDieA_next, hnone] at heval
  exact absurd heval (by decide)

end Sys2Proof.Machine

/-! The Cloche: its commands and the movement of its blade (O30). -/

namespace Sys2Proof.Machine

/-! ### The stagger group, as a command finds it -/
section
variable (s : State) (d : DieId) (peer : Die)

/-- The Pair Link's die, read through what a command leaves of a die as it finds it. -/
theorem State.fresh_pairDie {α : Type} (k : Die → α) (hk : k (s.fresh d) = k (s.die d)) :
    k ((s.fresh d).pairDie peer) = k ((s.die d).pairDie peer) := by
  change k (if (s.die d).leads then s.fresh d else peer) = k (if (s.die d).leads then s.die d else peer)
  split
  · exact hk
  · rfl

@[simp] theorem State.fresh_partnerIn : (s.fresh d).partnerIn peer = (s.die d).partnerIn peer :=
  State.fresh_pairDie s d peer (fun p => (s.die d).on F.CAL_PAIR_PAIR && !p.on F.PRL_STAT_FAILED &&
    ((s.die d).pairRole = 2 || ((s.die d).pairRole = 1 && p.pairUp))) rfl

@[simp] theorem State.fresh_pairBars : (s.fresh d).pairBars peer = (s.die d).pairBars peer :=
  State.fresh_pairDie s d peer (fun p => (s.die d).on F.CAL_PAIR_PAIR && (s.die d).pairRole = 2 && !p.pairUp &&
    !p.on F.PRL_STAT_FAILED) rfl

@[simp] theorem State.fresh_alone (env : Env) : (s.fresh d).alone env = (s.die d).alone env := by
  simp only [Die.alone, State.fresh_on, State.fresh_partnerIn]

@[simp] theorem State.fresh_groupHot : (s.fresh d).groupHot peer = (s.die d).groupHot peer := by
  have hhot := State.fresh_pairDie s d peer (fun p => p.vote.partnerHot) rfl
  simp only [Die.groupHot, State.fresh_on, State.fresh_evRaw, State.fresh_partnerIn, hhot]

@[simp] theorem State.fresh_mayStart (now : Nat) : (s.fresh d).mayStart peer now = (s.die d).mayStart peer now := by
  simp only [Die.mayStart, State.fresh_on, State.fresh_get, State.fresh_groupHot, State.fresh_pairBars, State.fresh_clo,
    State.fresh_cal, State.fresh_boot]
  rfl

@[simp] theorem State.fresh_arbitrates : (s.fresh d).arbitrates peer = (s.die d).arbitrates peer := by
  simp only [Die.arbitrates, State.fresh_on, State.fresh_partnerIn]
  rfl

@[simp] theorem State.fresh_inGroup (partner : Bool) (who : DieId) :
    (s.fresh d).inGroup peer partner who = (s.die d).inGroup peer partner who := by
  simp only [Die.inGroup, State.fresh_on, State.fresh_partnerIn]
  rfl

/-- One of the package's dies by its name, read through what a command leaves of a die as it finds it. -/
theorem State.fresh_named {α : Type} (k : Die → α) (hk : k (s.fresh d) = k (s.die d)) (who : DieId) :
    k (if who = (s.fresh d).id then s.fresh d else peer) = k (if who = (s.die d).id then s.die d else peer) := by
  change k (if who = (s.die d).id then s.fresh d else peer) = _
  split
  · exact hk
  · rfl

@[simp] theorem State.fresh_liveRequests (l : List StaggerReq) :
    (s.fresh d).liveRequests peer l = (s.die d).liveRequests peer l := by
  have hwait := State.fresh_named s d peer (fun p => p.on F.CAL_PAIR_WAIT) rfl
  simp only [Die.liveRequests, State.fresh_inGroup, hwait]

@[simp] theorem State.fresh_mayGrant (now : Nat) : (s.fresh d).mayGrant peer now = (s.die d).mayGrant peer now := by
  have hgrant := State.fresh_named s d peer (fun p => p.on F.CAL_PAIR_GRANT) rfl
  have hopen := State.fresh_named s d peer (fun p => p.openRest) rfl
  simp only [Die.mayGrant, Die.grantOut, State.fresh_arbitrates, State.fresh_inGroup, State.fresh_cal, hgrant, hopen]
  rfl

end

/-! ### What a move changes -/

/-- The fields that show the Cloche. -/
def cloShown : List Fld := [F.CLO_POS_HALL0, F.CLO_POS_HALL1, F.CLO_POS_STATE, F.STAT_IDLE 0x29]

/-- The owners of the PWM's outputs. -/
def pwmOwners : List Fld := (List.range 16).map F.PWM_OWN_OWN

/-- The fields that the Cloche's moves write, but for its enable. -/
def cloWrites : List Fld := [F.CLO_POS_CLOSE_T, F.CLO_POS_OPEN_T, F.CLO_POS_CLOSURE] ++ cloShown ++ pwmOwners

/-- The fields that decide how the Cloche moves and what its moves mean to calibration. -/
def cloReads : List Fld :=
  [F.CLO_CTRL_EN, F.CLO_CTRL_AUTOHOME, F.CLO_DRV_HALL0_POL, F.CLO_DRV_HALL1_POL, F.CLO_DRV_PAIR, F.CLO_PROF_CLOSE_BOOST,
   F.CLO_PROF_OPEN_BOOST, F.CAL_STATE_PHASE]

theorem cloReads_apart : ∀ f ∈ cloReads, f.showsQueue = false ∧ ∀ g ∈ cloWrites, g.key ≠ f.key := by decide +kernel

theorem cloWrites_steers : ∀ g ∈ cloWrites, g.steers = false := by decide +kernel

theorem cloShown_sub : cloShown ⊆ cloWrites := by decide +kernel

/-- The die behind its registers, but for the Cloche and the holds of the PWM's legs. -/
def Die.butMove (x : Die) : Die := { x.hidden with clo := {}, pwm := { x.pwm with low := 0 } }

/-- `y` is `x` but for the Cloche, the holds of the PWM's legs, the fields `L` and the events `E`. -/
structure Die.OnCloche (x : Die) (L : List Fld) (E : List Nat) (y : Die) : Prop where
  regs : x.Regs L E y
  behind : y.butMove = x.butMove
  wr : y.wr = x.wr
  dramCut : y.dramCut = x.dramCut

section
variable {x y z : Die} {L M : List Fld} {E D : List Nat}

theorem Die.butMove_of_hidden (h : y.hidden = x.hidden) : y.butMove = x.butMove := by
  have hpwm : y.pwm = x.pwm := show y.hidden.pwm = x.hidden.pwm from congrArg Die.pwm h
  simp [Die.butMove, h, hpwm]

theorem Die.OnCloche.refl (x : Die) (L : List Fld) (E : List Nat) : x.OnCloche L E x := ⟨.refl x L E, rfl, rfl, rfl⟩

theorem Die.OnCloche.set {f : Fld} {v : Nat} (hf : f ∈ L) (h : x.OnCloche L E y) : x.OnCloche L E (y.set f v) :=
  ⟨.set hf h.regs, h.behind, h.wr, h.dramCut⟩

theorem Die.OnCloche.setB {f : Fld} {b : Bool} (hf : f ∈ L) (h : x.OnCloche L E y) : x.OnCloche L E (y.setB f b) := .set hf h

theorem Die.OnCloche.onClo {k : Clo → Clo} (h : x.OnCloche L E y) : x.OnCloche L E (y.onClo k) :=
  ⟨⟨h.regs.live, h.regs.pend, h.regs.raw⟩, h.behind, h.wr, h.dramCut⟩

theorem Die.OnCloche.fire {e : Nat} (he : e ∈ E) (h : x.OnCloche L E y) : x.OnCloche L E (y.fire e) :=
  ⟨.fire he h.regs, (Die.butMove_of_hidden (Die.fire_hidden y e)).trans h.behind, (Die.fire_wr y e).trans h.wr,
    (Die.fire_dramCut y e).trans h.dramCut⟩

theorem Die.OnCloche.cond {e : Nat} {b : Bool} (he : e ∈ E) (h : x.OnCloche L E y) : x.OnCloche L E (y.cond e b) :=
  ⟨.cond he h.regs, (Die.butMove_of_hidden (Die.cond_hidden y e b)).trans h.behind, (Die.cond_wr y e b).trans h.wr,
    (Die.cond_dramCut y e b).trans h.dramCut⟩

theorem Die.OnCloche.trans (h : x.OnCloche L E y) (k : y.OnCloche M D z) (hl : M ⊆ L) (he : D ⊆ E) : x.OnCloche L E z :=
  ⟨h.regs.trans k.regs (fun _ hf => hl hf) (fun _ hd => he hd), k.behind.trans h.behind, k.wr.trans h.wr,
    k.dramCut.trans h.dramCut⟩

theorem Die.OnCloche.foldl {α : Type} {f : Die → α → Die} {l : List α} (hf : ∀ z, ∀ a ∈ l, x.OnCloche L E z → x.OnCloche L E (f z a))
    (h : x.OnCloche L E y) : x.OnCloche L E (l.foldl f y) := by
  induction l generalizing y with
  | nil => exact h
  | cons a l ih => exact ih (fun z b hb => hf z b (by simp [hb])) (hf y a (by simp) h)

theorem Die.OnCloche.showOwners (hl : pwmOwners ⊆ L) (h : x.OnCloche L E y) : x.OnCloche L E y.showOwners :=
  .foldl (fun _ _ hm hz => .set (hl (List.mem_map_of_mem hm)) hz) h

/-! ### What it leaves -/

variable (h : x.OnCloche L E y)
include h

theorem Die.OnCloche.cal : y.cal = x.cal := show y.butMove.cal = x.butMove.cal from congrArg Die.cal h.behind
theorem Die.OnCloche.rake : y.rake = x.rake := show y.butMove.rake = x.butMove.rake from congrArg Die.rake h.behind
theorem Die.OnCloche.nvs : y.nvs = x.nvs := show y.butMove.nvs = x.butMove.nvs from congrArg Die.nvs h.behind

theorem Die.OnCloche.pends {e : Nat} (h620 : e ≠ 620) (he : e ∉ E) : y.pends e = x.pends e := h.regs.pend e h620 he
theorem Die.OnCloche.condOn {e : Nat} (he : e ∉ E) : y.condOn e = x.condOn e := h.regs.raw e he

variable (hL : L ⊆ cloWrites)
include hL

theorem Die.OnCloche.get {f : Fld} (hf : f ∈ cloReads) : y.get f = x.get f :=
  h.regs.get (cloReads_apart f hf).1 (fun g hg => (cloReads_apart f hf).2 g (hL hg)) (fun g hg => cloWrites_steers g (hL hg))

theorem Die.OnCloche.on {f : Fld} (hf : f ∈ cloReads) : y.on f = x.on f := by rw [Die.on, h.get hL hf, Die.on]

theorem Die.OnCloche.halls (h0 : y.clo.hall0 = x.clo.hall0) (h1 : y.clo.hall1 = x.clo.hall1) : y.halls = x.halls := by
  simp only [Die.halls, h0, h1, h.on hL (f := F.CLO_DRV_HALL0_POL) (by decide), h.on hL (f := F.CLO_DRV_HALL1_POL) (by decide)]

theorem Die.OnCloche.hallFailed (hc : y.clo = x.clo) : y.hallFailed = x.hallFailed := by
  simp only [Die.hallFailed, h.on hL (f := F.CLO_CTRL_EN) (by decide), h.halls hL (by rw [hc]) (by rw [hc]), hc]

theorem Die.OnCloche.cloBoost (closing : Bool) : y.cloBoost closing = x.cloBoost closing := by
  simp only [Die.cloBoost, h.get hL (f := F.CLO_PROF_CLOSE_BOOST) (by decide), h.get hL (f := F.CLO_PROF_OPEN_BOOST) (by decide)]

end

/-! ### The registers of the Cloche brought up to date (R157, R165) -/

section
variable (x : Die)

/-- The die with the Cloche's inputs, its state and whether it is idle shown in their fields. -/
def Die.cloFigures : Die :=
  (((x.setB F.CLO_POS_HALL0 x.halls.1).setB F.CLO_POS_HALL1 x.halls.2).set F.CLO_POS_STATE x.cloState).setB (F.STAT_IDLE 0x29)
    x.clo.move.isNone

theorem Die.cloFigures_onCloche : x.OnCloche cloShown [] x.cloFigures :=
  .setB (by decide) <| .set (by decide) <| .setB (by decide) <| .setB (by decide) <| .refl x _ _

theorem Die.cloState_lt : x.cloState < 8 := by
  unfold Die.cloState
  repeat' split
  all_goals decide

theorem Die.cloFigures_figures : x.cloFigures.on F.CLO_POS_HALL0 = x.halls.1 ∧ x.cloFigures.on F.CLO_POS_HALL1 = x.halls.2 ∧
    x.cloFigures.get F.CLO_POS_STATE = x.cloState := by
  refine ⟨?_, ?_, ?_⟩
  · simp only [Die.cloFigures, Die.setB]
    rw [Die.on_set_ne _ _ (by decide) (by decide), Die.on_set_ne _ _ (by decide) (by decide),
      Die.on_set_ne _ _ (by decide) (by decide), Die.on_set_self]
    cases x.halls.1 <;> rfl
  · simp only [Die.cloFigures, Die.setB]
    rw [Die.on_set_ne _ _ (by decide) (by decide), Die.on_set_ne _ _ (by decide) (by decide), Die.on_set_self]
    cases x.halls.2 <;> rfl
  · simp only [Die.cloFigures, Die.setB]
    rw [Die.get_set_ne _ _ (by decide) (by decide)]
    exact Die.get_set_of_lt _ x.cloState_lt

variable {x} (hframe : x.rake.frameOpen = false)
include hframe

/-- With no frame open, the Cloche's registers and HALL_FAIL are all that is brought up to date. -/
theorem Die.showClo_closed : x.showClo = x.cloFigures.cond 341 x.hallFailed := by
  have hfail : x.cloFigures.hallFailed = x.hallFailed := x.cloFigures_onCloche.hallFailed cloShown_sub rfl
  have hopen : (x.cloFigures.cond 341 x.hallFailed).rake.frameOpen = false := by rw [Die.cond_rake]; exact hframe
  unfold Die.showClo
  extract_lets shown y z
  have hy : y = x.cloFigures.cond 341 x.hallFailed := congrArg (Die.cond shown 341) hfail
  have hz : z = y := by simp only [z, Die.viewLost, hy, hopen, Bool.false_eq_true, if_false]
  rw [hz, hy, hopen]
  simp

theorem Die.showClo_onCloche : x.OnCloche cloShown [341] x.showClo := by
  rw [Die.showClo_closed hframe]
  exact .cond (by decide) (.trans (.refl x _ _) x.cloFigures_onCloche (by simp) (by simp))

theorem Die.showClo_clo : x.showClo.clo = x.clo := by rw [Die.showClo_closed hframe, Die.cond_clo]; rfl
theorem Die.showClo_pwm : x.showClo.pwm = x.pwm := by rw [Die.showClo_closed hframe, Die.cond_pwm]; rfl

theorem Die.showClo_hallFailed : x.showClo.condOn 341 = x.showClo.hallFailed := by
  rw [(Die.showClo_onCloche hframe).hallFailed cloShown_sub (Die.showClo_clo hframe), Die.showClo_closed hframe]
  exact Die.cond_condOn _ _ (by decide)

theorem Die.showClo_figures : x.showClo.on F.CLO_POS_HALL0 = x.halls.1 ∧ x.showClo.on F.CLO_POS_HALL1 = x.halls.2 ∧
    x.showClo.get F.CLO_POS_STATE = x.cloState := by
  rw [Die.showClo_closed hframe, Die.cond_on _ _ _ (by decide), Die.cond_on _ _ _ (by decide), Die.cond_get _ _ _ (by decide)]
  exact x.cloFigures_figures

theorem Die.showClo_cloState : x.showClo.cloState = x.cloState := by
  have h := Die.showClo_onCloche hframe
  have hc := Die.showClo_clo hframe
  have hhalls := h.halls cloShown_sub (congrArg Clo.hall0 hc) (congrArg Clo.hall1 hc)
  have hfault : x.showClo.cloFaulted = x.cloFaulted := h.condOn (e := 345) (by decide)
  simp only [Die.cloState, Die.openRest, Die.closedRest, h.on cloShown_sub (f := F.CLO_CTRL_EN) (by decide), hc, hhalls, hfault,
    h.hallFailed cloShown_sub hc]
  rfl

end

/-! ### A move begins (R154) -/

/-- The move that begins in a direction at an instant. -/
def Die.moveBegun (x : Die) (closing again : Bool) (now : Nat) : Move :=
  { closing := closing, seg := if x.cloBoost closing = 0 then 1 else 0, began := now, again := again }

/-- The Cloche as a move begins. -/
def Clo.begun (c : Clo) (m : Move) : Clo :=
  { c with move := some m, idle := false, closingAt := if m.closing && !m.again then some m.began else c.closingAt,
           reopen := c.reopen && m.closing }

section
variable {x : Die} (hframe : x.rake.frameOpen = false) (closing again : Bool) (now : Nat)
include hframe

theorem Die.cloBegin_clo : (x.cloBegin closing again now).clo = x.clo.begun (x.moveBegun closing again now) :=
  Die.showClo_clo hframe

theorem Die.cloBegin_onCloche : x.OnCloche cloShown [341] (x.cloBegin closing again now) := by
  have h := Die.showClo_onCloche (x := (x.onClo fun c => c.begun (x.moveBegun closing again now)).onPwm fun p =>
    { p with low := p.low &&& ~~~ (bit16 (2 * x.get F.CLO_DRV_PAIR) ||| bit16 (2 * x.get F.CLO_DRV_PAIR + 1)) }) hframe
  exact ⟨⟨h.regs.live, h.regs.pend, h.regs.raw⟩, h.behind, h.wr, h.dramCut⟩

theorem Die.cloBegin_cloTarget : (x.cloBegin closing again now).cloTarget closing = x.cloTarget closing := by
  have hc := Die.cloBegin_clo hframe closing again now
  have hhalls := (Die.cloBegin_onCloche hframe closing again now).halls cloShown_sub (by rw [hc]; rfl) (by rw [hc]; rfl)
  simp only [Die.cloTarget, hhalls]

end

section
variable {x : Die} {m : Move} (hm : x.clo.move = some m) (h : x.cloTarget m.closing = false)
include hm h

/-- A move whose target is not asserted waits for what happens next. -/
theorem Die.cloSettle_waits (now n : Nat) : x.cloSettle now n = (x, []) := by
  cases n with
  | zero => rfl
  | succ n => simp [Die.cloSettle, hm, h]

end

theorem Die.cloSettle_rest {x : Die} (hm : x.clo.move = none) (now n : Nat) : x.cloSettle now n = (x, []) := by
  cases n with
  | zero => rfl
  | succ n => simp [Die.cloSettle, hm]

theorem Die.cloBegin_waits {x : Die} (hframe : x.rake.frameOpen = false) {closing : Bool} (h : x.cloTarget closing = false)
    (again : Bool) (now n : Nat) : (x.cloBegin closing again now).cloSettle now n = (x.cloBegin closing again now, []) :=
  Die.cloSettle_waits (congrArg Clo.move (Die.cloBegin_clo hframe closing again now))
    ((Die.cloBegin_cloTarget hframe closing again now).trans h) now n

theorem Die.cloMove_begins {x : Die} (hframe : x.rake.frameOpen = false) {closing : Bool} (h : x.cloTarget closing = false)
    (now : Nat) : x.cloMove closing now = (x.cloBegin closing false now, []) := Die.cloBegin_waits hframe h false now 4

/-! ### Seen by a statement -/

section
variable {s : State} {d : DieId} {y : Die} {L : List Fld} {E : List Nat}

theorem Die.OnCloche.settled_only (h : (s.fresh d).OnCloche L E y) :
    ({ s.die d with clo := y.settled.clo, pwm := { (s.die d).pwm with low := y.settled.pwm.low } } : Die).only L E y.settled :=
  Die.only_of_regs h.regs.of_fresh.settled
    (congrArg (fun z : Die => { z with clo := y.clo, pwm := { z.pwm with low := y.pwm.low } }) h.behind) rfl rfl rfl

/-- The same where no leg of the PWM was held. -/
theorem Die.OnCloche.settled_only_clo (h : (s.fresh d).OnCloche L E y) (hp : y.pwm = (s.die d).pwm) :
    ({ s.die d with clo := y.settled.clo } : Die).only L E y.settled := by
  have k := h.settled_only
  rwa [Die.settled_pwm, hp] at k

/-- The same where the Cloche behind the registers has not changed either. -/
theorem Die.OnCloche.settled_only_same (h : (s.fresh d).OnCloche L E y) (hc : y.clo = (s.die d).clo) (hp : y.pwm = (s.die d).pwm) :
    (s.die d).only L E y.settled := by
  have k := h.settled_only_clo hp
  rwa [Die.settled_clo, hc] at k

/-- The same where writes of the Seed Tray have been requested before. -/
theorem Die.OnCloche.settled_only_nvs {k : Nvs → Nvs} (h : ((s.fresh d).onNvs k).OnCloche L E y) (hp : y.pwm = (s.die d).pwm) :
    ({ s.die d with clo := y.settled.clo, nvs := y.settled.nvs } : Die).only L E y.settled := by
  have hn : y.nvs = k (s.die d).nvs := h.nvs
  have hh : y.hidden = ({ s.die d with clo := y.clo, pwm := { (s.die d).pwm with low := y.pwm.low }, nvs := y.nvs } : Die).hidden := by
    rw [hn]
    exact congrArg (fun z : Die => { z with clo := y.clo, pwm := { z.pwm with low := y.pwm.low } }) h.behind
  rw [hp] at hh
  exact Die.only_of_regs (x := s.die d) ⟨h.regs.live, h.regs.pend, h.regs.raw⟩ hh rfl rfl rfl

/-- A command on the Cloche. -/
theorem cloche_effect {c : Instr} {f : Env → Die → Die} {P : Die → Prop} (hc : exec c s = onDie d s f) (hr : s.running d)
    (hy : f (s.env d) (s.fresh d) = y) (h : (s.fresh d).OnCloche L E y) (hP : P y.settled) : Effect c d s P :=
  effect_to hc hr hy (by simp [h.wr]) (by simp [h.dramCut]) hP

end

/-! ### The Cloche alone -/

/-- No event is in progress or over with the blade still to open, and no frame is open: what the Cloche does means nothing to
calibration or to a frame. -/
structure Die.CloAlone (x : Die) : Prop where
  event : x.cal.event = none
  phase : x.get F.CAL_STATE_PHASE ≠ 6
  frame : x.rake.frameOpen = false

theorem Die.calNotes_nil {x : Die} (h : x.get F.CAL_STATE_PHASE ≠ 6) (now : Nat) : Die.calNotes (x, []) now = x := by
  simp [Die.calNotes, h]

theorem Die.CloAlone.calNotes {x : Die} (h : x.CloAlone) (l : List CloNote) (now : Nat) : Die.calNotes (x, l) now = x := by
  have habandon : x.calAbandon 5 now = x := by simp [Die.calAbandon, h.event]
  simp [Die.calNotes, habandon, h.phase]

section
variable {x y : Die} {L : List Fld} {E : List Nat}

theorem Die.OnCloche.alone (h : x.OnCloche L E y) (hL : L ⊆ cloWrites) (hx : x.CloAlone) : y.CloAlone :=
  ⟨by rw [h.cal, hx.event], by rw [h.get hL (by decide)]; exact hx.phase, by rw [h.rake, hx.frame]⟩

theorem Die.CloAlone.fire (h : x.CloAlone) (e : Nat) : (x.fire e).CloAlone :=
  (Die.OnCloche.fire (L := []) (E := [e]) (by simp) (.refl x _ _)).alone (by simp) h

theorem Die.CloAlone.onClo {k : Clo → Clo} (h : x.CloAlone) : (x.onClo k).CloAlone := ⟨h.event, h.phase, h.frame⟩

theorem Die.CloAlone.showClo (h : x.CloAlone) : x.showClo.CloAlone := (Die.showClo_onCloche h.frame).alone cloShown_sub h

theorem Die.CloAlone.cloBegin (h : x.CloAlone) (closing again : Bool) (now : Nat) : (x.cloBegin closing again now).CloAlone :=
  (Die.cloBegin_onCloche h.frame closing again now).alone cloShown_sub h

/-- A move to a position whose input is not asserted begins, and no more. -/
theorem Die.CloAlone.moves (h : x.CloAlone) {closing : Bool} (ht : x.cloTarget closing = false) (now : Nat) :
    Die.calNotes (x.cloMove closing now) now = x.cloBegin closing false now := by
  rw [Die.cloMove_begins h.frame ht, (h.cloBegin closing false now).calNotes]

@[simp] theorem Die.onClo_get (k : Clo → Clo) (f : Fld) : (x.onClo k).get f = x.get f := rfl
@[simp] theorem Die.onClo_on (k : Clo → Clo) (f : Fld) : (x.onClo k).on f = x.on f := rfl
@[simp] theorem Die.onClo_clo (k : Clo → Clo) : (x.onClo k).clo = k x.clo := rfl

end

/-- A command that begins a move: the move, what else `P` says of the die, and what has not changed. -/
theorem moveBegins_effect {c : Instr} {s : State} {d : DieId} {f : Env → Die → Die} {P : Die → Prop} {z : Die} {closing again : Bool}
    {L : List Fld} {E : List Nat} (hc : exec c s = onDie d s f) (hr : s.running d)
    (hf : f (s.env d) (s.fresh d) = z.cloBegin closing again s.now) (hz : (s.fresh d).OnCloche L E z)
    (hframe : (s.die d).rake.frameOpen = false) (hboost : z.cloBoost closing = (s.die d).cloBoost closing)
    (hL : cloShown ⊆ L) (hE : 341 ∈ E) (hP : P (z.cloBegin closing again s.now).settled) :
    Effect c d s (fun y => P y ∧ y.clo.move = some
        { closing := closing, seg := if (s.die d).cloBoost closing = 0 then 1 else 0, began := s.now, again := again } ∧
      ({ s.die d with clo := y.clo, pwm := { (s.die d).pwm with low := y.pwm.low } } : Die).only L E y) := by
  have hzframe : z.rake.frameOpen = false := by rw [hz.rake]; exact hframe
  have hbegin := hz.trans (Die.cloBegin_onCloche hzframe closing again s.now) hL (by simpa using hE)
  refine cloche_effect hc hr hf hbegin ⟨hP, ?_, hbegin.settled_only⟩
  rw [Die.settled_clo, Die.cloBegin_clo hzframe, ← hboost]
  rfl

/-! ### CLO_OPEN, CLO_CLOSE and CLO_HOME (R155, R157, R158, R183, R187) -/

/-- The Cloche takes a command that opens its blade. -/
structure Die.CloTakes (x : Die) : Prop where
  alone : x.CloAlone
  en : x.on F.CLO_CTRL_EN = true
  sound : x.cloFaulted = false
  takes : x.takes 0x29 = true
  still : x.clo.move = none

section
variable {x : Die} {env : Env}

theorem Die.cloCommand_refused {home closing : Bool}
    (h : x.cal.event.isSome = true ∨ x.clo.move.isSome = true ∨ x.takes 0x29 = false ∨ x.on F.CLO_CTRL_EN = false ∨
      x.cloFaulted = true ∨ closing = true ∧ (x.hallFailed = true ∨ x.on F.CAL_PAIR_GRANT = false ∧ x.alone env = false)) :
    x.cloCommand env home closing = x.accErr 0x29 := by
  unfold Die.cloCommand
  rw [if_pos]
  rcases h with h | h | h | h | h | ⟨hc, h | ⟨h, h'⟩⟩ <;> simp [*]

theorem Die.cloCommand_taken (h : x.CloTakes) {home closing : Bool}
    (hclose : closing = true → x.hallFailed = false ∧ (x.on F.CAL_PAIR_GRANT = true ∨ x.alone env = true)) :
    x.cloCommand env home closing =
      if home then Die.calNotes (x.cloHomeMove env.now) env.now else Die.calNotes (x.cloMove closing env.now) env.now := by
  unfold Die.cloCommand
  rw [if_neg]
  obtain ⟨halone, hen, hsound, htakes, hstill⟩ := h
  cases closing with
  | false => simp [halone.event, hstill, htakes, hen, hsound]
  | true =>
    obtain ⟨hfail, hgrant | hgrant⟩ := hclose rfl <;> simp [halone.event, hstill, htakes, hen, hsound, hfail, hgrant]

theorem Die.cloHomeMove_eq (hen : x.on F.CLO_CTRL_EN = true) (hsound : x.cloFaulted = false) (hstill : x.clo.move = none) (now : Nat) :
    x.cloHomeMove now = if x.halls.1 then (x.showClo, []) else x.cloMove false now := by
  simp [Die.cloHomeMove, hen, hsound, hstill]

/-- The blade moves on a command. -/
theorem Die.cloCommand_moves (h : x.CloTakes) {home closing : Bool} (htarget : x.cloTarget closing = false)
    (hhome : home = true → closing = false)
    (hclose : closing = true → x.hallFailed = false ∧ (x.on F.CAL_PAIR_GRANT = true ∨ x.alone env = true)) :
    x.cloCommand env home closing = x.cloBegin closing false env.now := by
  rw [Die.cloCommand_taken h hclose, ← h.alone.moves htarget env.now]
  cases home with
  | false => rfl
  | true =>
    obtain rfl := hhome rfl
    have hopen : x.halls.1 = false := htarget
    simp [Die.cloHomeMove_eq h.en h.sound h.still, hopen]

end

theorem State.fresh_cloTakes {s : State} {d : DieId} (h : (s.die d).CloTakes) : (s.fresh d).CloTakes :=
  ⟨⟨h.alone.event, h.alone.phase, h.alone.frame⟩, h.en, h.sound, h.takes, h.still⟩

section
variable {s : State} {d : DieId} {c : Instr} (hr : s.running d)
include hr

theorem cloCommand_refused_effect {home closing : Bool} (hc : exec c s = onDie d s fun env x => x.cloCommand env home closing)
    (h : (s.die d).cal.event.isSome = true ∨ (s.die d).clo.move.isSome = true ∨ (s.die d).takes 0x29 = false ∨
      (s.die d).on F.CLO_CTRL_EN = false ∨ (s.die d).cloFaulted = true ∨
      closing = true ∧ ((s.die d).hallFailed = true ∨ (s.die d).on F.CAL_PAIR_GRANT = false ∧ (s.die d).alone (s.env d) = false)) :
    Effect c d s (fun y => y.pends (accErrOf 0x29) = true ∧ (s.die d).only [] [accErrOf 0x29] y) :=
  accErr_effect hc hr (Die.cloCommand_refused (by rw [State.fresh_alone]; exact h))

variable (ht : (s.die d).CloTakes)
include ht

theorem cloClose_effect (hgrant : (s.die d).on F.CAL_PAIR_GRANT = true ∨ (s.die d).alone (s.env d) = true)
    (hfail : (s.die d).hallFailed = false) (htarget : (s.die d).halls.2 = false) :
    Effect (.cloClose d) d s (fun y => y.clo.closingAt = some s.now ∧ y.clo.move = some
        { closing := true, seg := if (s.die d).cloBoost true = 0 then 1 else 0, began := s.now, again := false } ∧
      ({ s.die d with clo := y.clo, pwm := { (s.die d).pwm with low := y.pwm.low } } : Die).only cloShown [341] y) := by
  refine moveBegins_effect rfl hr (Die.cloCommand_moves (State.fresh_cloTakes ht) htarget (by simp) fun _ =>
    ⟨hfail, by rw [State.fresh_alone]; exact hgrant⟩)
    (.refl _ _ _) ht.alone.frame rfl (by simp) (by simp) ?_
  rw [Die.settled_clo, Die.cloBegin_clo (x := s.fresh d) ht.alone.frame]
  rfl

theorem cloOpens_effect {home : Bool} (hc : exec c s = onDie d s fun env x => x.cloCommand env home false)
    (htarget : (s.die d).halls.1 = false) :
    Effect c d s (fun y => True ∧ y.clo.move = some
        { closing := false, seg := if (s.die d).cloBoost false = 0 then 1 else 0, began := s.now, again := false } ∧
      ({ s.die d with clo := y.clo, pwm := { (s.die d).pwm with low := y.pwm.low } } : Die).only cloShown [341] y) :=
  moveBegins_effect hc hr (Die.cloCommand_moves (State.fresh_cloTakes ht) htarget (by simp) (by simp))
    (.refl _ _ _) ht.alone.frame rfl (by simp) (by simp) trivial

theorem cloHome_stays (hopen : (s.die d).halls.1 = true) :
    Effect (.cloHome d) d s (fun y => y.clo.move = none ∧ y.get F.CLO_POS_STATE = y.cloState ∧ (s.die d).only cloShown [341] y) := by
  have hfresh := State.fresh_cloTakes ht
  have hframe := hfresh.alone.frame
  have hshown := Die.showClo_onCloche hframe
  have hrun : (s.fresh d).cloCommand (s.env d) true false = (s.fresh d).showClo := by
    have hhome : (s.fresh d).cloHomeMove s.now = ((s.fresh d).showClo, []) :=
      (Die.cloHomeMove_eq hfresh.en hfresh.sound hfresh.still s.now).trans (if_pos hopen)
    rw [Die.cloCommand_taken hfresh (by simp), if_pos rfl]
    exact (congrArg (Die.calNotes · s.now) hhome).trans (hfresh.alone.showClo.calNotes [] s.now)
  refine cloche_effect rfl hr hrun hshown ⟨?_, ?_, ?_⟩
  · rw [Die.settled_clo, Die.showClo_clo hframe]
    exact ht.still
  · rw [Die.settled_get, (Die.showClo_figures hframe).2.2]
    exact (Die.showClo_cloState hframe).symm
  · exact hshown.settled_only_same (Die.showClo_clo hframe) (Die.showClo_pwm hframe)

end

/-! ### CLO_ENABLE (R158, R275) -/

/-- The die with the Cloche enabled, shown as the owner of its pair's outputs. -/
def Die.cloEnabled (x : Die) : Die := (x.set F.CLO_CTRL_EN 1).showClo.showOwners

/-- Of the fields that the Cloche reads, its enable changes its own alone. -/
theorem Die.cloEnabled_onCloche {x : Die} (hframe : x.rake.frameOpen = false) :
    (x.set F.CLO_CTRL_EN 1).OnCloche (cloShown ++ pwmOwners) [341] x.cloEnabled :=
  .showOwners (by simp) (.trans (.refl _ _ _) (Die.showClo_onCloche hframe) (by simp) (by simp))

theorem Die.showOwners_keeps {α : Type} (k : Die → α) (hk : ∀ z f v, k (Die.set z f v) = k z) (x : Die) : k x.showOwners = k x :=
  foldl_keeps k (fun z _ _ => hk z _ _) x

theorem cloEnable_sub : cloShown ++ pwmOwners ⊆ cloWrites := by decide +kernel

section
variable {x : Die} (hframe : x.rake.frameOpen = false)
include hframe

theorem Die.cloEnabled_clo : x.cloEnabled.clo = x.clo :=
  (Die.showOwners_keeps Die.clo (fun _ _ _ => rfl) _).trans (Die.showClo_clo (x := x.set F.CLO_CTRL_EN 1) hframe)

theorem Die.cloEnabled_pwm : x.cloEnabled.pwm = x.pwm :=
  (Die.showOwners_keeps Die.pwm (fun _ _ _ => rfl) _).trans (Die.showClo_pwm (x := x.set F.CLO_CTRL_EN 1) hframe)

theorem Die.cloEnabled_en : x.cloEnabled.on F.CLO_CTRL_EN = true :=
  ((Die.cloEnabled_onCloche hframe).on cloEnable_sub (by decide)).trans (Die.on_set_self x _ 1)

theorem Die.cloEnabled_get {f : Fld} (hf : f ∈ cloReads) (hne : F.CLO_CTRL_EN.key ≠ f.key) : x.cloEnabled.get f = x.get f :=
  ((Die.cloEnabled_onCloche hframe).get cloEnable_sub hf).trans (Die.get_set_ne x 1 hne (by decide))

end

theorem pwmOwn_key_ne {a m : Nat} (ha : a < 16) (hm : m < 16) (h : a ≠ m) : (F.PWM_OWN_OWN a).key ≠ (F.PWM_OWN_OWN m).key :=
  (by decide +kernel : ∀ a < 16, ∀ m < 16, a ≠ m → (F.PWM_OWN_OWN a).key ≠ (F.PWM_OWN_OWN m).key) a ha m hm h

theorem pwmOwn_steers {m : Nat} (hm : m < 16) : (F.PWM_OWN_OWN m).steers = false :=
  (by decide +kernel : ∀ m < 16, (F.PWM_OWN_OWN m).steers = false) m hm

theorem Die.foldl_setOwner_get (owner : Nat → Nat) {m : Nat} (hm : m < 16) {l : List Nat} (hl : ∀ a ∈ l, a < 16) (x : Die) :
    (l.foldl (fun y a => y.set (F.PWM_OWN_OWN a) (owner a)) x).get (F.PWM_OWN_OWN m) =
      if m ∈ l then owner m % 4 else x.get (F.PWM_OWN_OWN m) := by
  induction l generalizing x with
  | nil => simp
  | cons a l ih =>
    rw [List.foldl_cons, ih fun b hb => hl b (by simp [hb])]
    by_cases ham : a = m
    · subst ham
      have hset : (x.set (F.PWM_OWN_OWN a) (owner a)).get (F.PWM_OWN_OWN a) = owner a % 4 := Die.get_set_self x _ _
      simp [hset]
    · have hset := Die.get_set_ne x (owner a) (pwmOwn_key_ne (hl a (by simp)) hm ham) (pwmOwn_steers (hl a (by simp)))
      simp [hset, Ne.symm ham]

theorem Die.showOwners_get (x : Die) {m : Nat} (hm : m < 16) : x.showOwners.get (F.PWM_OWN_OWN m) = x.ownerOf m % 4 := by
  have h := Die.foldl_setOwner_get x.ownerOf hm (l := List.range 16) (fun a ha => List.mem_range.1 ha) x
  rwa [if_pos (List.mem_range.2 hm)] at h

/-- The Cloche owns the two outputs of its pair. -/
theorem Die.cloEnabled_owns {x : Die} (hframe : x.rake.frameOpen = false) {k m : Nat} (hk : x.get F.CLO_DRV_PAIR = k) (h8 : k < 8)
    (hm : m / 2 = k) : x.cloEnabled.get (F.PWM_OWN_OWN m) = 2 := by
  have hshown := Die.showClo_onCloche (x := x.set F.CLO_CTRL_EN 1) hframe
  have hen : (x.set F.CLO_CTRL_EN 1).showClo.on F.CLO_CTRL_EN = true :=
    (hshown.on cloShown_sub (by decide)).trans (Die.on_set_self x _ 1)
  have hpair : (x.set F.CLO_CTRL_EN 1).showClo.get F.CLO_DRV_PAIR = k :=
    (hshown.get cloShown_sub (by decide)).trans ((Die.get_set_ne x 1 (by decide) (by decide)).trans hk)
  rw [Die.cloEnabled, Die.showOwners_get _ (by omega)]
  simp [Die.ownerOf, Die.cloOwns, hen, hpair, hm]

theorem Die.cloEnabled_fields {x : Die} (hframe : x.rake.frameOpen = false) :
    x.OnCloche (F.CLO_CTRL_EN :: cloShown ++ pwmOwners) [341] x.cloEnabled :=
  .trans (.set (by simp) (.refl x _ _)) (Die.cloEnabled_onCloche hframe) (by simp) (by simp)

theorem Die.cloEnable_eq {x : Die} (hoff : x.on F.CLO_CTRL_EN = false) (now : Nat) :
    x.cloEnable now = if x.cloEnabled.on F.CLO_CTRL_AUTOHOME then Die.calNotes (x.cloEnabled.cloHomeMove now) now else x.cloEnabled := by
  unfold Die.cloEnable
  rw [if_neg (by simp [hoff])]
  rfl

section
variable {s : State} {d : DieId} (hr : s.running d) (hoff : (s.die d).on F.CLO_CTRL_EN = false)
include hr hoff

theorem cloEnable_effect (hauto : (s.die d).on F.CLO_CTRL_AUTOHOME = false) (hframe : (s.die d).rake.frameOpen = false) :
    Effect (.cloEnable d) d s (fun y => y.on F.CLO_CTRL_EN = true ∧ y.clo = (s.die d).clo ∧
      ((s.die d).get F.CLO_DRV_PAIR < 8 → y.get (F.PWM_OWN_OWN (2 * (s.die d).get F.CLO_DRV_PAIR)) = 2 ∧
        y.get (F.PWM_OWN_OWN (2 * (s.die d).get F.CLO_DRV_PAIR + 1)) = 2) ∧
      (s.die d).only (F.CLO_CTRL_EN :: cloShown ++ pwmOwners) [341] y) := by
  have hfr : (s.fresh d).rake.frameOpen = false := hframe
  have hz := Die.cloEnabled_fields hfr
  have hhome : (s.fresh d).cloEnabled.on F.CLO_CTRL_AUTOHOME = false := by
    rw [Die.on, Die.cloEnabled_get hfr (by decide) (by decide)]
    exact hauto
  have hrun : (s.fresh d).cloEnable s.now = (s.fresh d).cloEnabled := by
    rw [Die.cloEnable_eq (x := s.fresh d) hoff, hhome]
    simp
  refine cloche_effect rfl hr hrun hz ⟨?_, ?_, fun h8 => ⟨?_, ?_⟩, ?_⟩
  · rw [Die.settled_on, Die.cloEnabled_en hfr]
  · rw [Die.settled_clo, Die.cloEnabled_clo hfr, State.fresh_clo]
  · rw [Die.settled_get, Die.cloEnabled_owns hfr (State.fresh_get s d _) h8 (by omega)]
  · rw [Die.settled_get, Die.cloEnabled_owns hfr (State.fresh_get s d _) h8 (by omega)]
  · exact hz.settled_only_same (Die.cloEnabled_clo hfr) (Die.cloEnabled_pwm hfr)

theorem cloEnable_homes (halone : (s.die d).CloAlone) (hauto : (s.die d).on F.CLO_CTRL_AUTOHOME = true)
    (hsound : (s.die d).cloFaulted = false) (hstill : (s.die d).clo.move = none) (htarget : (s.die d).halls.1 = false) :
    Effect (.cloEnable d) d s (fun y => y.on F.CLO_CTRL_EN = true ∧ y.clo.move = some
        { closing := false, seg := if (s.die d).cloBoost false = 0 then 1 else 0, began := s.now, again := false } ∧
      ({ s.die d with clo := y.clo, pwm := { (s.die d).pwm with low := y.pwm.low } } : Die).only
        (F.CLO_CTRL_EN :: cloShown ++ pwmOwners) [341] y) := by
  have hfr : (s.fresh d).rake.frameOpen = false := halone.frame
  have hz := Die.cloEnabled_onCloche hfr
  have hclo := Die.cloEnabled_clo hfr
  have hset : ((s.fresh d).set F.CLO_CTRL_EN 1).CloAlone :=
    ⟨halone.event, by rw [Die.get_set_ne _ _ (by decide) (by decide)]; exact halone.phase, halone.frame⟩
  have hzalone := hz.alone cloEnable_sub hset
  have hzen := Die.cloEnabled_en hfr
  have hztarget : (s.fresh d).cloEnabled.cloTarget false = false := by
    have hpol0 : ((s.fresh d).set F.CLO_CTRL_EN 1).on F.CLO_DRV_HALL0_POL = (s.fresh d).on F.CLO_DRV_HALL0_POL :=
      Die.on_set_ne _ _ (by decide) (by decide)
    have hhalls := hz.halls cloEnable_sub (congrArg Clo.hall0 hclo) (congrArg Clo.hall1 hclo)
    change (s.fresh d).cloEnabled.halls.1 = false
    rw [hhalls]
    exact (congrArg ((s.die d).clo.hall0 != ·) hpol0).trans htarget
  have hboost : (s.fresh d).cloEnabled.cloBoost false = (s.die d).cloBoost false :=
    Die.cloEnabled_get hfr (f := F.CLO_PROF_OPEN_BOOST) (by decide) (by decide)
  have hrun : (s.fresh d).cloEnable s.now = (s.fresh d).cloEnabled.cloBegin false false s.now := by
    have hhome : (s.fresh d).cloEnabled.on F.CLO_CTRL_AUTOHOME = true := by
      rw [Die.on, Die.cloEnabled_get hfr (by decide) (by decide)]
      exact hauto
    have hzsound : (s.fresh d).cloEnabled.cloFaulted = false := (hz.condOn (e := 345) (by decide)).trans hsound
    have hzstill : (s.fresh d).cloEnabled.clo.move = none := (congrArg Clo.move hclo).trans hstill
    have hhalls : (s.fresh d).cloEnabled.halls.1 = false := hztarget
    rw [Die.cloEnable_eq (x := s.fresh d) hoff, hhome, Die.cloHomeMove_eq hzen hzsound hzstill, hhalls, ← hzalone.moves hztarget]
    simp
  refine moveBegins_effect (P := fun y => y.on F.CLO_CTRL_EN = true) rfl hr hrun (Die.cloEnabled_fields hfr) halone.frame hboost
    (by simp) (by simp) ?_
  rw [Die.settled_on, (Die.cloBegin_onCloche hzalone.frame _ _ _).on cloShown_sub (by decide), hzen]

end

/-! ### FORCED_OPEN, BOOST_END and HALL_CHANGE (R154, R156, R157) -/

/-- An event that fires leaves the Hall inputs as they were. -/
theorem Die.fire_cloTarget (x : Die) (e : Nat) (closing : Bool) : (x.fire e).cloTarget closing = x.cloTarget closing := by
  have h : x.OnCloche [] [e] (x.fire e) := .fire (by simp) (.refl x _ _)
  simp only [Die.cloTarget, h.halls (by simp) (by simp) (by simp)]

theorem Die.fire_cloBoost (x : Die) (e : Nat) (closing : Bool) : (x.fire e).cloBoost closing = x.cloBoost closing :=
  (Die.OnCloche.fire (L := []) (E := [e]) (by simp) (.refl x _ _)).cloBoost (by simp) closing

section
variable {s : State} {d : DieId} (hr : s.running d)
include hr

theorem forcedOpen_effect (halone : (s.die d).CloAlone) (hen : (s.die d).on F.CLO_CTRL_EN = true)
    (hsound : (s.die d).cloFaulted = false) (hclosing : (s.die d).clo.closingAt.isSome = true) (hstill : (s.die d).clo.move = none)
    (hrest : (s.die d).openRest = false) (htarget : (s.die d).halls.1 = false) :
    Effect (.forcedOpen d) d s (fun y => y.pends 340 = true ∧ y.clo.move = some
        { closing := false, seg := if (s.die d).cloBoost false = 0 then 1 else 0, began := s.now, again := false } ∧
      ({ s.die d with clo := y.clo, pwm := { (s.die d).pwm with low := y.pwm.low } } : Die).only cloShown [340, 341] y) := by
  have hfresh : (s.fresh d).CloAlone := ⟨halone.event, halone.phase, halone.frame⟩
  have hfired := hfresh.fire 340
  have hmove := Die.cloMove_begins hfired.frame (closing := false) ((Die.fire_cloTarget _ _ _).trans htarget) s.now
  refine moveBegins_effect (P := fun y => y.pends 340 = true) (z := (s.fresh d).fire 340) (f := fun env x =>
    if x.on F.CLO_CTRL_EN && x.clo.closingAt.isSome && (match x.clo.move with | some m => m.closing | none => true) &&
        !x.openRest && !x.cloFaulted then
      Die.calNotes (((x.fire 340).cloMove false env.now).1, .forced :: ((x.fire 340).cloMove false env.now).2) env.now
    else x) rfl hr ?_ (.fire (by simp) (.refl _ _ _)) halone.frame (Die.fire_cloBoost _ _ _) (by simp) (by simp) ?_
  · have hgo : ((s.fresh d).on F.CLO_CTRL_EN && (s.fresh d).clo.closingAt.isSome &&
        (match (s.fresh d).clo.move with | some m => m.closing | none => true) && !(s.fresh d).openRest &&
        !(s.fresh d).cloFaulted) = true := by
      rw [State.fresh_on, State.fresh_clo, hen, hclosing, hstill, show (s.fresh d).openRest = false from hrest,
        show (s.fresh d).cloFaulted = false from hsound]
      rfl
    refine (if_pos hgo).trans ?_
    rw [show (s.env d).now = s.now from rfl, hmove, (hfired.cloBegin false false s.now).calNotes]
  · rw [Die.settled_pends, (Die.cloBegin_onCloche hfired.frame _ _ _).pends (by decide) (by decide),
      Die.fire_pends _ (by decide)]

theorem boostEnd_effect {m : Move} (hphase : (s.die d).get F.CAL_STATE_PHASE ≠ 6) (hm : (s.die d).clo.move = some m) (hseg : m.seg = 0)
    (htarget : (s.die d).cloTarget m.closing = false) :
    Effect (.boostEnd d) d s (fun y => y.clo = { (s.die d).clo with move := some { m with seg := 1 } } ∧
      ({ s.die d with clo := y.clo } : Die).only [] [] y) := by
  have hrun : Die.calNotes (((s.fresh d).onClo fun c => { c with move := some { m with seg := 1 } }).cloSettle s.now 4) s.now =
      (s.fresh d).onClo fun c => { c with move := some { m with seg := 1 } } := by
    have hwaits := Die.cloSettle_waits (x := (s.fresh d).onClo fun c => { c with move := some { m with seg := 1 } }) rfl htarget s.now 4
    rw [hwaits, Die.calNotes_nil (by simpa using hphase)]
  have hz : (s.fresh d).OnCloche [] [] ((s.fresh d).onClo fun c => { c with move := some { m with seg := 1 } }) := .onClo (.refl _ _ _)
  refine cloche_effect rfl hr ?_ hz ⟨by simp, hz.settled_only_clo rfl⟩
  simp only [State.fresh_clo, hm, hseg, if_true]
  exact hrun

end

/-! ### HALL_CHANGE and HALL_IDLE_TIMEOUT (R157) -/

/-- The die with its Hall balls as they have changed to. -/
def Die.hallsTurned (x : Die) (h0 h1 : Bool) : Die :=
  (x.onClo fun c => { c with hall0 := h0, hall1 := h1 }).onClo fun c =>
    { c with idle := c.idle && !(x.onClo fun c => { c with hall0 := h0, hall1 := h1 }).halls.1 &&
      !(x.onClo fun c => { c with hall0 := h0, hall1 := h1 }).halls.2 }

theorem Die.hallsTurned_onCloche (x : Die) (h0 h1 : Bool) (L : List Fld) (E : List Nat) : x.OnCloche L E (x.hallsTurned h0 h1) :=
  .onClo (.onClo (.refl x _ _))

/-- The Cloche at rest finds its Hall inputs changed and shows them; what the change means to calibration is left to `calNotes`. -/
theorem Die.cloHalls_rest {x : Die} (hstill : x.clo.move = none) (hframe : x.rake.frameOpen = false) (h0 h1 : Bool) (now : Nat) :
    ∃ notes, x.cloHalls h0 h1 now = ((x.hallsTurned h0 h1).showClo, notes) := by
  have hrest : (x.hallsTurned h0 h1).showClo.clo.move = none :=
    (congrArg Clo.move (Die.showClo_clo (x := x.hallsTurned h0 h1) hframe)).trans hstill
  have hsettle := Die.cloSettle_rest hrest now 4
  unfold Die.cloHalls
  change ∃ notes, ((((x.hallsTurned h0 h1).showClo.cloSettle now 4).1, _) : Die × List CloNote) = _
  rw [hsettle]
  exact ⟨_, rfl⟩

/-- A command on a die that may be in reset, and the die that it makes. -/
theorem effectAlways_to {c : Instr} {d : DieId} {s : State} {f : Env → Die → Die} {P : Die → Prop} {y : Die}
    (hc : exec c s = onDieAlways d s f) (hr : s.has d = true) (hy : f (s.env d) (s.fresh d) = y) (hw : y.wr = [])
    (hd : y.dramCut = false) (h : P y.settled) : Effect c d s P := by
  subst hy
  exact effectAlways_of hc hr hw hd h

section
variable {s : State} {d : DieId} (hr : s.running d)
include hr

theorem hallChange_effect (halone : (s.die d).CloAlone) (hbank : (s.die d).boot.banks.getLsbD 1 = false)
    (hstill : (s.die d).clo.move = none) (a b : Bool) :
    Effect (.hallChange d a b) d s (fun y => y.clo.hall0 = a ∧ y.clo.hall1 = b ∧
      y.on F.CLO_POS_HALL0 = (a != (s.die d).on F.CLO_DRV_HALL0_POL) ∧
      y.on F.CLO_POS_HALL1 = (b != (s.die d).on F.CLO_DRV_HALL1_POL) ∧ y.condOn 341 = y.hallFailed ∧
      ({ s.die d with clo := y.clo } : Die).only cloShown [341] y) := by
  have hturned : ((s.fresh d).hallsTurned a b).CloAlone := ⟨halone.event, halone.phase, halone.frame⟩
  have hframe := hturned.frame
  have hclo := Die.showClo_clo hframe
  have hall : (s.fresh d).OnCloche cloShown [341] ((s.fresh d).hallsTurned a b).showClo :=
    .trans ((s.fresh d).hallsTurned_onCloche a b _ _) (Die.showClo_onCloche hframe) (by simp) (by simp)
  obtain ⟨notes, hhalls⟩ := Die.cloHalls_rest (x := s.fresh d) hstill halone.frame a b s.now
  refine effectAlways_to rfl hr.1 ?_ (hall.wr.trans rfl) (hall.dramCut.trans rfl)
    ⟨?_, ?_, ?_, ?_, ?_, hall.settled_only_clo (Die.showClo_pwm hframe)⟩
  · have hlive : (s.fresh d).inReset = false := hr.2
    have hpower : (s.fresh d).boot.banks.getLsbD 1 = false := hbank
    have hnow : (s.env d).now = s.now := rfl
    simp only [hlive, hpower, Bool.false_eq_true, if_false, Bool.not_false, Bool.true_and, hnow]
    rw [hhalls, hturned.showClo.calNotes]
  · rw [Die.settled_clo, hclo]; rfl
  · rw [Die.settled_clo, hclo]; rfl
  · rw [Die.settled_on, (Die.showClo_figures hframe).1]; rfl
  · rw [Die.settled_on, (Die.showClo_figures hframe).2.1]; rfl
  · exact Die.showClo_hallFailed hframe

theorem hallIdle_effect (halone : (s.die d).CloAlone) (hen : (s.die d).on F.CLO_CTRL_EN = true)
    (hstill : (s.die d).clo.move = none) (hopen : (s.die d).halls.1 = false) (hclosed : (s.die d).halls.2 = false)
    (hidle : (s.die d).clo.idle = false) :
    Effect (.hallIdleTimeout d) d s (fun y => y.clo = { (s.die d).clo with idle := true } ∧ y.condOn 341 = true ∧
      ({ s.die d with clo := y.clo } : Die).only cloShown [341] y) := by
  have hidled : ((s.fresh d).onClo fun c => { c with idle := true }).CloAlone := ⟨halone.event, halone.phase, halone.frame⟩
  have hframe := hidled.frame
  have hclo := Die.showClo_clo hframe
  have hall : (s.fresh d).OnCloche cloShown [341] ((s.fresh d).onClo fun c => { c with idle := true }).showClo :=
    .trans (.onClo (.refl _ _ _)) (Die.showClo_onCloche hframe) (by simp) (by simp)
  have hgo : ((s.fresh d).on F.CLO_CTRL_EN && (s.fresh d).clo.move.isNone && !(s.fresh d).halls.1 && !(s.fresh d).halls.2 &&
      !(s.fresh d).clo.idle) = true := by
    rw [State.fresh_on, State.fresh_clo, hen, hstill, show (s.fresh d).halls.1 = false from hopen,
      show (s.fresh d).halls.2 = false from hclosed, hidle]
    rfl
  have hfail : ((s.fresh d).onClo fun c => { c with idle := true }).hallFailed = true := by
    have hon : (s.fresh d).on F.CLO_CTRL_EN = true := hen
    simp [Die.hallFailed, hon]
  refine cloche_effect rfl hr ((if_pos hgo).trans (hidled.showClo.calNotes [.hallFail] s.now)) hall
    ⟨?_, ?_, hall.settled_only_clo (Die.showClo_pwm hframe)⟩
  · rw [Die.settled_clo, hclo]; rfl
  · have hshown := Die.showClo_hallFailed hframe
    rw [(Die.showClo_onCloche hframe).hallFailed cloShown_sub hclo, hfail] at hshown
    exact hshown

end

/-! ### BRAKE_END and MOVE_TIMEOUT (R154, R155, R159) -/

/-- The die with its blade at rest and a move counted in the Seed Tray. -/
def Die.atRest (x : Die) : Die := (x.onClo fun c => { c with move := none }).nvsRequest 5 (.add 2 1)

/-- The time of the closure written, where the blade had been closing. -/
def Die.noteClosure (x : Die) (now : Nat) : Die :=
  match x.clo.closingAt with
  | some t => x.set F.CLO_POS_CLOSURE (msSince now t)
  | none => x

/-- What the end of a closing move writes. -/
def Die.closingEnds (x : Die) (m : Move) (now : Nat) : Die := x.atRest.set F.CLO_POS_CLOSE_T (msSince now m.began)

/-- What the end of an opening move writes. -/
def Die.openingEnds (x : Die) (m : Move) (now : Nat) : Die :=
  ((x.atRest.noteClosure now).set F.CLO_POS_OPEN_T (msSince now m.began)).onClo fun c => { c with closingAt := none }

section
variable {x : Die} {m : Move} (now : Nat)

theorem Die.cloRest_closing (hframe : x.rake.frameOpen = false) (hm : m.closing = true) (hreopen : x.clo.reopen = false) :
    x.cloRest m now = ((x.closingEnds m now).showClo.fire 337, [.closed]) := by
  have hclo : ((x.closingEnds m now).showClo.fire 337).clo.reopen = false := by
    rw [Die.fire_clo, Die.showClo_clo (x := x.closingEnds m now) hframe]
    exact hreopen
  unfold Die.cloRest
  rw [if_pos hm]
  exact if_neg (by rw [Bool.not_eq_true]; exact hclo)

theorem Die.cloRest_opening (hm : m.closing = false) : x.cloRest m now = ((x.openingEnds m now).showClo.fire 338, [.opened]) := by
  unfold Die.cloRest
  rw [hm]
  rfl

theorem Die.cloStall_repeats (hm : m.again = false) : x.cloStall m now = ((x.fire 339).cloBegin m.closing true now, [.stalled]) := by
  unfold Die.cloStall
  rw [hm]
  rfl

/-- The brake segment of a move ends with its target asserted. -/
theorem Die.cloBrakeEnd_rests (hm : x.clo.move = some m) (hseg : m.seg = 2) (htarget : x.cloTarget m.closing = true) {y : Die}
    {l : List CloNote} (hy : x.cloRest m now = (y, l)) (hrest : y.clo.move = none) : x.cloBrakeEnd now = (y, l) := by
  simp [Die.cloBrakeEnd, hm, hseg, htarget, hy, Die.cloSettle_rest hrest]

/-- The brake segment of a move ends without its target asserted. -/
theorem Die.cloBrakeEnd_stalls (hm : x.clo.move = some m) (hseg : m.seg = 2) (htarget : x.cloTarget m.closing = false) {y : Die}
    {l : List CloNote} (hy : x.cloStall m now = (y, l)) (hwaits : y.cloSettle now 4 = (y, [])) : x.cloBrakeEnd now = (y, l) := by
  simp [Die.cloBrakeEnd, hm, hseg, htarget, hy, hwaits]

theorem Die.cloTimeout_stalls (hm : x.clo.move = some m) (hseg : m.seg < 2) (htarget : x.cloTarget m.closing = false) {y : Die}
    {l : List CloNote} (hy : x.cloStall m now = (y, l)) (hwaits : y.cloSettle now 4 = (y, [])) : x.cloTimeout now = (y, l) := by
  have hne : m.seg ≠ 2 := by omega
  simp [Die.cloTimeout, hm, hne, htarget, hy, hwaits]

end

/-- A move counted in the Seed Tray as the blade comes to rest. -/
def Nvs.moveCounted (n : Nvs) : Nvs := { n with queue := n.queue ++ [{ prio := 5, what := .add 2 1, tag := .none }] }

/-- The die as the Seed Tray's counting of a move leaves it. -/
def Die.moveCounted (x : Die) : Die := x.onNvs Nvs.moveCounted

theorem Die.atRest_onCloche (x : Die) (L : List Fld) (E : List Nat) : x.moveCounted.OnCloche L E x.atRest :=
  show x.moveCounted.OnCloche L E (x.moveCounted.onClo fun c => { c with move := none }) from .onClo (.refl _ L E)

section
variable {x : Die} (m : Move) (now : Nat)

theorem Die.closingEnds_onCloche : x.moveCounted.OnCloche [F.CLO_POS_CLOSE_T] [] (x.closingEnds m now) :=
  .set (by simp) (x.atRest_onCloche _ _)

theorem Die.openingEnds_onCloche : x.moveCounted.OnCloche [F.CLO_POS_OPEN_T, F.CLO_POS_CLOSURE] [] (x.openingEnds m now) := by
  refine .onClo (.set (by simp) ?_)
  unfold Die.noteClosure
  split
  · exact .set (by simp) (x.atRest_onCloche _ _)
  · exact x.atRest_onCloche _ _

/-- The longest time that the Cloche's time fields show is 255 ms. -/
theorem msSince_lt (t : Nat) : msSince now t < 2 ^ 8 := Nat.lt_succ_of_le (Nat.min_le_left 255 _)

theorem Die.closingEnds_time : (x.closingEnds m now).get F.CLO_POS_CLOSE_T = msSince now m.began :=
  Die.get_set_of_lt _ (msSince_lt now m.began)

theorem Die.openingEnds_time : (x.openingEnds m now).get F.CLO_POS_OPEN_T = msSince now m.began :=
  Die.get_set_of_lt (f := F.CLO_POS_OPEN_T) (x.atRest.noteClosure now) (msSince_lt now m.began)

theorem Die.openingEnds_clo : (x.openingEnds m now).clo = { x.clo with move := none, closingAt := none } := by
  unfold Die.openingEnds Die.noteClosure
  split <;> rfl

end

/-- The end of a move, written as `z`, is shown with its event. -/
theorem moveEnds_effect {s : State} {d : DieId} {P : Die → Prop} {z : Die} {m : Move} {L : List Fld} {e : Nat} {l : List CloNote}
    (hr : s.running d) (halone : (s.die d).CloAlone) (hm : (s.die d).clo.move = some m) (hseg : m.seg = 2)
    (htarget : (s.die d).cloTarget m.closing = true) (hrest : (s.fresh d).cloRest m s.now = (z.showClo.fire e, l))
    (hz : (s.fresh d).moveCounted.OnCloche L [] z) (hL : L ⊆ cloWrites) (hstill : z.clo.move = none)
    (hpwm : z.pwm = (s.die d).pwm) (hP : z.CloAlone → P (z.showClo.fire e).settled) :
    Effect (.brakeEnd d) d s (fun y => y.clo.move = none ∧ P y ∧
      ({ s.die d with clo := y.clo, nvs := y.nvs } : Die).only (L ++ cloShown) [e, 341] y) := by
  have hcounted : (s.fresh d).moveCounted.CloAlone := ⟨halone.event, halone.phase, halone.frame⟩
  have hza := hz.alone hL hcounted
  have hclo : (z.showClo.fire e).clo = z.clo := (Die.fire_clo _ _).trans (Die.showClo_clo hza.frame)
  have hall : (s.fresh d).moveCounted.OnCloche (L ++ cloShown) [e, 341] (z.showClo.fire e) :=
    .fire (by simp) (.trans (.trans (.refl _ _ _) hz (by simp) (by simp)) (Die.showClo_onCloche hza.frame) (by simp) (by simp))
  have hstill' : (z.showClo.fire e).clo.move = none := by rw [hclo, hstill]
  have hend : (s.fresh d).cloBrakeEnd s.now = (z.showClo.fire e, l) :=
    Die.cloBrakeEnd_rests s.now (x := s.fresh d) hm hseg htarget hrest hstill'
  refine effect_to (y := z.showClo.fire e) rfl hr ?_ ?_ ?_ ⟨?_, hP hza, ?_⟩
  · change Die.calNotes ((s.fresh d).cloBrakeEnd s.now) s.now = _
    rw [hend, (hza.showClo.fire e).calNotes]
  · rw [hall.wr]; rfl
  · rw [hall.dramCut]; rfl
  · rw [Die.settled_clo, hstill']
  · exact hall.settled_only_nvs ((Die.fire_pwm _ _).trans ((Die.showClo_pwm hza.frame).trans hpwm))

/-- A field that shows a time of the Cloche, after the end of a move is shown. -/
theorem Die.CloAlone.shownFired_get {z : Die} (h : z.CloAlone) (e : Nat) {f : Fld} (hq : f.showsQueue = false)
    (hf : ∀ g ∈ cloShown, g.key ≠ f.key) : (z.showClo.fire e).get f = z.get f := by
  rw [Die.fire_get _ _ hq, (Die.showClo_onCloche h.frame).regs.get hq hf (by decide)]

section
variable {s : State} {d : DieId} (hr : s.running d) (halone : (s.die d).CloAlone) {m : Move} (hm : (s.die d).clo.move = some m)
include hr halone hm

theorem brakeEnd_closes (hseg : m.seg = 2) (hclosing : m.closing = true) (hreopen : (s.die d).clo.reopen = false)
    (htarget : (s.die d).halls.2 = true) :
    Effect (.brakeEnd d) d s (fun y => y.clo.move = none ∧ (y.pends 337 = true ∧ y.get F.CLO_POS_CLOSE_T = msSince s.now m.began) ∧
      ({ s.die d with clo := y.clo, nvs := y.nvs } : Die).only (F.CLO_POS_CLOSE_T :: cloShown) [337, 341] y) := by
  refine moveEnds_effect hr halone hm hseg (by rw [hclosing]; exact htarget)
    (Die.cloRest_closing s.now (x := s.fresh d) halone.frame hclosing hreopen) (Die.closingEnds_onCloche m s.now) (by decide) rfl rfl ?_
  intro hz
  refine ⟨?_, ?_⟩
  · rw [Die.settled_pends, Die.fire_pends _ (by decide)]
  · rw [Die.settled_get, hz.shownFired_get 337 (by decide) (by decide), Die.closingEnds_time]

theorem brakeEnd_opens (hseg : m.seg = 2) (hclosing : m.closing = false) (htarget : (s.die d).halls.1 = true) :
    Effect (.brakeEnd d) d s (fun y => y.clo.move = none ∧
      (y.clo.closingAt = none ∧ y.pends 338 = true ∧ y.get F.CLO_POS_OPEN_T = msSince s.now m.began) ∧
      ({ s.die d with clo := y.clo, nvs := y.nvs } : Die).only (F.CLO_POS_OPEN_T :: F.CLO_POS_CLOSURE :: cloShown) [338, 341] y) := by
  have hclo := Die.openingEnds_clo (x := s.fresh d) m s.now
  have hpwm : ((s.fresh d).openingEnds m s.now).pwm = (s.die d).pwm := by
    unfold Die.openingEnds Die.noteClosure
    split <;> rfl
  refine moveEnds_effect hr halone hm hseg (by rw [hclosing]; exact htarget) (Die.cloRest_opening s.now hclosing)
    (Die.openingEnds_onCloche m s.now) (by decide) (by rw [hclo]) hpwm ?_
  intro hz
  refine ⟨?_, ?_, ?_⟩
  · rw [Die.settled_clo, Die.fire_clo, Die.showClo_clo hz.frame, hclo]
  · rw [Die.settled_pends, Die.fire_pends _ (by decide)]
  · rw [Die.settled_get, hz.shownFired_get 338 (by decide) (by decide), Die.openingEnds_time]

theorem brakeEnd_stalls (hseg : m.seg = 2) (hagain : m.again = false) (htarget : (s.die d).cloTarget m.closing = false) :
    Effect (.brakeEnd d) d s (fun y => y.pends 339 = true ∧ y.clo.move = some
        { closing := m.closing, seg := if (s.die d).cloBoost m.closing = 0 then 1 else 0, began := s.now, again := true } ∧
      ({ s.die d with clo := y.clo, pwm := { (s.die d).pwm with low := y.pwm.low } } : Die).only cloShown [339, 341] y) := by
  have hfresh : (s.fresh d).CloAlone := ⟨halone.event, halone.phase, halone.frame⟩
  have hfired := hfresh.fire 339
  have hwaits := Die.cloBegin_waits hfired.frame ((Die.fire_cloTarget (s.fresh d) 339 m.closing).trans htarget) true s.now 4
  have hend : (s.fresh d).cloBrakeEnd s.now = (((s.fresh d).fire 339).cloBegin m.closing true s.now, [.stalled]) :=
    Die.cloBrakeEnd_stalls s.now (x := s.fresh d) hm hseg htarget (Die.cloStall_repeats s.now hagain) hwaits
  refine moveBegins_effect (P := fun y => y.pends 339 = true) (z := (s.fresh d).fire 339)
    (f := fun env x => Die.calNotes (x.cloBrakeEnd env.now) env.now) rfl hr ?_ (.fire (by simp) (.refl _ _ _)) halone.frame
    (Die.fire_cloBoost _ _ _) (by simp) (by simp) ?_
  · change Die.calNotes ((s.fresh d).cloBrakeEnd s.now) s.now = _
    rw [hend, (hfired.cloBegin m.closing true s.now).calNotes]
  · rw [Die.settled_pends, (Die.cloBegin_onCloche hfired.frame _ _ _).pends (by decide) (by decide), Die.fire_pends _ (by decide)]

end

/-! ### The repeated closing move stalls (R155, R156) -/

/-- The drive is off and CLO_FAULT raised after a repeated move, with the blade to be opened by force. -/
def Die.cloForced (x : Die) : Die := (((x.fire 339).onClo fun c => { c with move := none }).cond 345 true).showClo.fire 340

section
variable {x : Die} {m : Move} (h : x.CloAlone)
include h

theorem Die.cloForced_fault : (((x.fire 339).onClo fun c => { c with move := none }).cond 345 true).CloAlone :=
  (Die.OnCloche.cond (L := []) (E := [345]) (by simp) (.refl _ _ _)).alone (by simp) (h.fire 339).onClo

theorem Die.cloForced_alone : x.cloForced.CloAlone := (Die.cloForced_fault h).showClo.fire 340

/-- After the STALL event. -/
theorem Die.cloForced_stalled : (x.fire 339).OnCloche cloShown [340, 341, 345] x.cloForced :=
  .fire (by simp) <| .trans (.cond (by simp) (.onClo (.refl _ _ _))) (Die.showClo_onCloche (Die.cloForced_fault h).frame) (by simp) (by simp)

theorem Die.cloForced_onCloche : x.OnCloche cloShown [339, 340, 341, 345] x.cloForced :=
  .trans (.fire (by simp) (.refl x _ _)) (Die.cloForced_stalled h) (by simp) (by simp)

theorem Die.cloForced_cloTarget (closing : Bool) : x.cloForced.cloTarget closing = x.cloTarget closing := by
  have hclo : x.cloForced.clo = { x.clo with move := none } := by
    rw [Die.cloForced, Die.fire_clo, Die.showClo_clo (Die.cloForced_fault h).frame, Die.cond_clo, Die.onClo_clo, Die.fire_clo]
  have hhalls := (Die.cloForced_onCloche h).halls cloShown_sub (by rw [hclo]) (by rw [hclo])
  simp only [Die.cloTarget, hhalls]

theorem Die.cloForced_pends : x.cloForced.pends 339 = true ∧ x.cloForced.condOn 345 = true ∧ x.cloForced.pends 340 = true := by
  refine ⟨?_, ?_, Die.fire_pends _ (by decide)⟩
  · rw [(Die.cloForced_stalled h).pends (by decide) (by decide), Die.fire_pends _ (by decide)]
  · rw [Die.cloForced, Die.fire_condOn, (Die.showClo_onCloche (Die.cloForced_fault h).frame).condOn (by decide), Die.cond_condOn _ _ (by decide)]

omit h in
theorem Die.cloStall_forces (hagain : m.again = true) (hm : m.closing = true) (now : Nat) :
    x.cloStall m now = (x.cloForced.cloBegin false false now, [.stalled, .faulted, .forced]) := by
  unfold Die.cloStall
  rw [hagain, hm]
  rfl

end

theorem moveTimeout_forces {s : State} {d : DieId} {m : Move} (hr : s.running d) (halone : (s.die d).CloAlone)
    (hm : (s.die d).clo.move = some m) (hseg : m.seg < 2) (hagain : m.again = true) (hclosing : m.closing = true)
    (hclosed : (s.die d).halls.2 = false) (hopen : (s.die d).halls.1 = false) :
    Effect (.moveTimeout d) d s (fun y => (y.pends 339 = true ∧ y.condOn 345 = true ∧ y.pends 340 = true) ∧ y.clo.move = some
        { closing := false, seg := if (s.die d).cloBoost false = 0 then 1 else 0, began := s.now, again := false } ∧
      ({ s.die d with clo := y.clo, pwm := { (s.die d).pwm with low := y.pwm.low } } : Die).only cloShown [339, 340, 341, 345] y) := by
  have hfresh : (s.fresh d).CloAlone := ⟨halone.event, halone.phase, halone.frame⟩
  have hforced := Die.cloForced_onCloche hfresh
  have hza := Die.cloForced_alone hfresh
  have hwaits := Die.cloBegin_waits hza.frame ((Die.cloForced_cloTarget hfresh false).trans hopen) false s.now 4
  have hend : (s.fresh d).cloTimeout s.now = ((s.fresh d).cloForced.cloBegin false false s.now, [.stalled, .faulted, .forced]) :=
    Die.cloTimeout_stalls s.now (x := s.fresh d) hm hseg (by rw [hclosing]; exact hclosed) (Die.cloStall_forces hagain hclosing s.now) hwaits
  have hbegin := Die.cloBegin_onCloche hza.frame false false s.now
  obtain ⟨hstall, hfault, hopens⟩ := Die.cloForced_pends hfresh
  refine moveBegins_effect (P := fun y => y.pends 339 = true ∧ y.condOn 345 = true ∧ y.pends 340 = true) (z := (s.fresh d).cloForced)
    (f := fun env x => Die.calNotes (x.cloTimeout env.now) env.now) rfl hr ?_ hforced halone.frame
    (hforced.cloBoost cloShown_sub false) (by simp) (by simp) ⟨?_, ?_, ?_⟩
  · change Die.calNotes ((s.fresh d).cloTimeout s.now) s.now = _
    rw [hend, (hza.cloBegin false false s.now).calNotes]
  · rw [Die.settled_pends, hbegin.pends (by decide) (by decide), hstall]
  · rw [Die.settled_condOn, hbegin.condOn (by decide), hfault]
  · rw [Die.settled_pends, hbegin.pends (by decide) (by decide), hopens]

/-! ### HTR_READY (R160) -/

/-- The settling time and the rms error of the readings within the band, as Q shows them. -/
def Die.settlingTime (x : Die) (now : Nat) : Nat := match x.clo.heatFrom with | some t => (now - t) / 250000000 | none => 0

/-- The rms error of the readings within the band, or the one that the command gives where there was none. -/
def Die.bladeRms (x : Die) (err : Nat) : Nat := if x.clo.bandCnt = 0 then err else sqrtRound (100 * x.clo.bandSq) x.clo.bandCnt

/-- The blade's heater shown to be ready. -/
def Die.heaterReady (x : Die) (err now : Nat) : Die :=
  (((x.set F.CLO_HTR_STAT_READY 1).set F.CLO_HTR_Q_SETTLE (min 65535 (x.settlingTime now))).set F.CLO_HTR_Q_ERR
    (min 65535 (x.bladeRms err))).fire 342

section
variable {s : State} {d : DieId} (hr : s.running d) (err : Nat)
include hr

theorem htrReady_effect (hen : (s.die d).on F.CLO_HTR_EN = true) (hband : (s.die d).bladeInBand = true)
    (hready : (s.die d).on F.CLO_HTR_STAT_READY = false)
    (hpassed : (s.die d).clo.bandFrom.any (fun t => secsPassed s.now t 10) = true) :
    Effect (.htrReady d err) d s (fun y => y.on F.CLO_HTR_STAT_READY = true ∧
      y.get F.CLO_HTR_Q_ERR = min 65535 ((s.die d).bladeRms err) ∧ y.pends 342 = true ∧
      (∀ t ∈ (s.die d).clo.heatFrom, y.get F.CLO_HTR_Q_SETTLE = min 65535 ((s.now - t) / 250000000)) ∧
      (s.die d).only [F.CLO_HTR_STAT_READY, F.CLO_HTR_Q_SETTLE, F.CLO_HTR_Q_ERR] [342] y) := by
  have hgo : ((s.fresh d).on F.CLO_HTR_EN && (s.fresh d).bladeInBand && !(s.fresh d).on F.CLO_HTR_STAT_READY &&
      (s.fresh d).clo.bandFrom.any (fun t => secsPassed (s.env d).now t 10)) = true := by
    rw [State.fresh_on, State.fresh_on, State.fresh_clo, hen, hready, show (s.fresh d).bladeInBand = true from hband,
      show (s.env d).now = s.now from rfl, hpassed]
    rfl
  have hcap : ∀ n, min 65535 n < 2 ^ 16 := fun n => Nat.lt_succ_of_le (Nat.min_le_left _ n)
  have hframe : (s.fresh d).OnCloche [F.CLO_HTR_STAT_READY, F.CLO_HTR_Q_SETTLE, F.CLO_HTR_Q_ERR] [342]
      ((s.fresh d).heaterReady err s.now) :=
    .fire (by simp) (.set (by simp) (.set (by simp) (.set (by simp) (.refl _ _ _))))
  have hclo : ((s.fresh d).heaterReady err s.now).clo = (s.die d).clo := Die.fire_clo _ _
  have hpwm : ((s.fresh d).heaterReady err s.now).pwm = (s.die d).pwm := Die.fire_pwm _ _
  refine cloche_effect (y := (s.fresh d).heaterReady err s.now) rfl hr (if_pos hgo) hframe ⟨?_, ?_, ?_, ?_, hframe.settled_only_same hclo hpwm⟩
  · rw [Die.settled_on, Die.heaterReady, Die.fire_on _ _ (by decide), Die.on_set_ne _ _ (by decide) (by decide),
      Die.on_set_ne _ _ (by decide) (by decide), Die.on_set_self]
    rfl
  · rw [Die.settled_get, Die.heaterReady, Die.fire_get _ _ (by decide)]
    exact Die.get_set_of_lt _ (hcap _)
  · rw [Die.settled_pends, Die.heaterReady, Die.fire_pends _ (by decide)]
  · intro t ht
    have htime : (s.fresh d).settlingTime s.now = (s.now - t) / 250000000 := by
      rw [Die.settlingTime, State.fresh_clo, show (s.die d).clo.heatFrom = some t from ht]
    rw [Die.settled_get, Die.heaterReady, Die.fire_get _ _ (by decide), Die.get_set_ne _ _ (by decide) (by decide), htime]
    exact Die.get_set_of_lt _ (hcap _)

theorem htrReady_waits
    (h : (s.die d).bladeInBand = false ∨ (s.die d).clo.bandFrom = none ∨ (s.die d).on F.CLO_HTR_EN = false) :
    Effect (.htrReady d err) d s (fun y => (s.die d).only [] [] y) := by
  have hstop : ¬ ((s.fresh d).on F.CLO_HTR_EN && (s.fresh d).bladeInBand && !(s.fresh d).on F.CLO_HTR_STAT_READY &&
      (s.fresh d).clo.bandFrom.any (fun t => secsPassed (s.env d).now t 10)) = true := by
    rw [State.fresh_on, State.fresh_on, State.fresh_clo, show (s.fresh d).bladeInBand = (s.die d).bladeInBand from rfl]
    rcases h with h | h | h <;> simp [h]
  exact cloche_effect rfl hr (if_neg hstop) (.refl _ [] [])
    (Die.OnCloche.settled_only_same (.refl _ _ _) rfl rfl)

end

/-- Settles O30: each command's die is computed up to the move that it begins, ends or repeats (`moveBegins_effect`,
`moveEnds_effect`), and `Die.OnCloche` says what it has left as it was. -/
theorem clocheMotion : Obligations.ClocheMotion := by
  unfold Obligations.ClocheMotion
  rintro s d a b m err x hr rfl
  refine ⟨?_, ?_, ?_, ?_, ?_, ?_, ?_, ?_, ?_, ?_, ?_, ?_, ?_, ?_, ?_, ?_, ?_, ?_, ?_⟩
  · intro hevent hphase hframe hen hsound htakes hgrant hstill hfail htarget
    refine (cloClose_effect hr ⟨⟨hevent, hphase, hframe⟩, hen, hsound, htakes, hstill⟩ hgrant hfail htarget).mono ?_
    rintro y ⟨hclosing, hmove, honly⟩
    exact ⟨hmove, hclosing, honly⟩
  · intro hevent hphase hframe hen hsound htakes hstill htarget
    exact (cloOpens_effect hr ⟨⟨hevent, hphase, hframe⟩, hen, hsound, htakes, hstill⟩ (c := .cloOpen d) rfl htarget).mono fun _ h => h.2
  · intro hevent hphase hframe hen hsound htakes hstill htarget
    exact (cloOpens_effect hr ⟨⟨hevent, hphase, hframe⟩, hen, hsound, htakes, hstill⟩ (c := .cloHome d) rfl htarget).mono fun _ h => h.2
  · intro hevent hphase hframe hen hsound htakes hstill hopen
    exact cloHome_stays hr ⟨⟨hevent, hphase, hframe⟩, hen, hsound, htakes, hstill⟩ hopen
  · intro h
    refine cloCommand_refused_effect hr (closing := true) rfl ?_
    rcases h with h | h | h | h | h | h | h <;> simp only [h, true_or, or_true, and_self]
  · intro h
    refine cloCommand_refused_effect hr (c := .cloOpen d) (closing := false) rfl ?_
    rcases h with h | h | h | h | h <;> simp only [h, true_or, or_true]
  · intro h
    refine cloCommand_refused_effect hr (c := .cloHome d) (closing := false) rfl ?_
    rcases h with h | h | h | h | h <;> simp only [h, true_or, or_true]
  · intro hoff hauto hframe
    exact cloEnable_effect hr hoff hauto hframe
  · intro hevent hphase hframe hoff hauto hsound hstill htarget
    exact cloEnable_homes hr hoff ⟨hevent, hphase, hframe⟩ hauto hsound hstill htarget
  · intro hevent hphase hframe hen hsound hclosing hstill hrest htarget
    exact forcedOpen_effect hr ⟨hevent, hphase, hframe⟩ hen hsound hclosing hstill hrest htarget
  · intro hphase hm hseg htarget
    exact boostEnd_effect hr hphase hm hseg htarget
  · intro hevent hphase hframe hbank hstill
    exact hallChange_effect hr ⟨hevent, hphase, hframe⟩ hbank hstill a b
  · intro hevent hphase hframe _ _ hm hseg hclosing hreopen htarget
    refine (brakeEnd_closes hr ⟨hevent, hphase, hframe⟩ hm hseg hclosing hreopen htarget).mono ?_
    rintro y ⟨hrest, ⟨hclosed, htime⟩, honly⟩
    exact ⟨hrest, hclosed, htime, honly⟩
  · intro hevent hphase hframe _ _ hm hseg hclosing htarget
    refine (brakeEnd_opens hr ⟨hevent, hphase, hframe⟩ hm hseg hclosing htarget).mono ?_
    rintro y ⟨hrest, ⟨hnone, hopened, htime⟩, honly⟩
    exact ⟨hrest, hnone, hopened, htime, honly⟩
  · intro hevent hphase hframe _ _ hm hseg hagain htarget
    exact brakeEnd_stalls hr ⟨hevent, hphase, hframe⟩ hm hseg hagain htarget
  · intro hevent hphase hframe _ _ hm hseg hagain hclosing hclosed hopen
    refine (moveTimeout_forces hr ⟨hevent, hphase, hframe⟩ hm hseg hagain hclosing hclosed hopen).mono ?_
    rintro y ⟨⟨hstall, hfault, hforced⟩, hmove, honly⟩
    exact ⟨hstall, hfault, hforced, hmove, honly⟩
  · intro hevent hphase hframe hen _ hstill hopen hclosed hidle
    exact hallIdle_effect hr ⟨hevent, hphase, hframe⟩ hen hstill hopen hclosed hidle
  · intro hen hband hready hpassed
    exact htrReady_effect hr err hen hband hready hpassed
  · intro h
    exact htrReady_waits hr err h

end Sys2Proof.Machine

/-! Calibration: when an event is due, how it begins and is judged, and who may run one (O31). -/

namespace Sys2Proof.Machine

/-! ### What calibration changes of its own -/

/-- The die behind its registers, but for the calibration's own state and the mailboxes. -/
def Die.butCal (x : Die) : Die := { x.hidden with cal := {}, mbx := [] }

/-- `y` is `x` but for the calibration's own state, the mailboxes, the fields `L` and the events `E`. -/
structure Die.OnCal (x : Die) (L : List Fld) (E : List Nat) (y : Die) : Prop where
  regs : x.Regs L E y
  behind : y.butCal = x.butCal
  wr : y.wr = x.wr
  dramCut : y.dramCut = x.dramCut

section
variable {x y : Die} {L : List Fld} {E : List Nat}

theorem Die.butCal_of_hidden (h : y.hidden = x.hidden) : y.butCal = x.butCal := by simp [Die.butCal, h]

theorem Die.OnCal.refl (x : Die) (L : List Fld) (E : List Nat) : x.OnCal L E x := ⟨.refl x L E, rfl, rfl, rfl⟩

theorem Die.OnCal.set {f : Fld} {v : Nat} (hf : f ∈ L) (h : x.OnCal L E y) : x.OnCal L E (y.set f v) :=
  ⟨.set hf h.regs, h.behind, h.wr, h.dramCut⟩

theorem Die.OnCal.onCal {k : Cal → Cal} (h : x.OnCal L E y) : x.OnCal L E (y.onCal k) := ⟨h.regs.onCal, h.behind, h.wr, h.dramCut⟩

theorem Die.OnCal.mbxResult {n status data : Nat} (h : x.OnCal L E y) : x.OnCal L E (y.mbxResult n status data) :=
  ⟨⟨h.regs.live, h.regs.pend, h.regs.raw⟩, h.behind, h.wr, h.dramCut⟩

theorem Die.OnCal.send {m : OutMsg} (h : x.OnCal L E y) : x.OnCal L E (y.send m) :=
  ⟨⟨h.regs.live, h.regs.pend, h.regs.raw⟩, h.behind, h.wr, h.dramCut⟩

theorem Die.OnCal.fire {e : Nat} (he : e ∈ E) (h : x.OnCal L E y) : x.OnCal L E (y.fire e) :=
  ⟨.fire he h.regs, (Die.butCal_of_hidden (Die.fire_hidden y e)).trans h.behind, (Die.fire_wr y e).trans h.wr,
    (Die.fire_dramCut y e).trans h.dramCut⟩

theorem Die.OnCal.cond {e : Nat} {b : Bool} (he : e ∈ E) (h : x.OnCal L E y) : x.OnCal L E (y.cond e b) :=
  ⟨.cond he h.regs, (Die.butCal_of_hidden (Die.cond_hidden y e b)).trans h.behind, (Die.cond_wr y e b).trans h.wr,
    (Die.cond_dramCut y e b).trans h.dramCut⟩

end

/-! ### Seen by a statement -/

section
variable {s : State} {d : DieId} {y : Die} {L : List Fld} {E : List Nat}

theorem Die.OnCal.settled_only_mbx (h : (s.fresh d).OnCal L E y) :
    ({ s.die d with cal := y.settled.cal, mbx := y.settled.mbx } : Die).only L E y.settled :=
  Die.only_of_regs h.regs.of_fresh.settled (congrArg (fun z : Die => { z with cal := y.cal, mbx := y.mbx }) h.behind) rfl rfl rfl

/-- The same where no mailbox answered. -/
theorem Die.OnCal.settled_only (h : (s.fresh d).OnCal L E y) (hm : y.mbx = (s.die d).mbx) :
    ({ s.die d with cal := y.settled.cal } : Die).only L E y.settled := by
  have k := h.settled_only_mbx
  rwa [show y.settled.mbx = y.mbx from rfl, hm] at k

/-- The same where the calibration behind the registers has not changed either. -/
theorem Die.OnCal.settled_only_same (h : (s.fresh d).OnCal L E y) (hm : y.mbx = (s.die d).mbx) (hc : y.cal = (s.die d).cal) :
    (s.die d).only L E y.settled := by
  have k := h.settled_only hm
  rwa [show y.settled.cal = y.cal from rfl, hc] at k

/-- A command on the calibration. -/
theorem calibration_effect {c : Instr} {f : Env → Die → Die} {P : Die → Prop} (hc : exec c s = onDie d s f) (hr : s.running d)
    (hy : f (s.env d) (s.fresh d) = y) (h : (s.fresh d).OnCal L E y) (hP : P y.settled) : Effect c d s P :=
  effect_to hc hr hy (h.wr.trans rfl) (h.dramCut.trans rfl) hP

/-- A command that finds nothing to do. -/
theorem nothing_effect {c : Instr} {f : Env → Die → Die} (hc : exec c s = onDie d s f) (hr : s.running d)
    (hy : f (s.env d) (s.fresh d) = s.fresh d) : Effect c d s (fun y => (s.die d).only [] [] y) :=
  calibration_effect hc hr hy (.refl _ [] []) (Die.OnCal.settled_only_same (.refl _ _ _) rfl rfl)

end

/-! ### Messages sent before an event fires -/

theorem Die.vecMessage_sent {x : Die} {m : OutMsg} (h : m ∈ x.out) (v : Nat) : m ∈ (x.vecMessage v).out := by
  unfold Die.vecMessage
  split
  · exact h
  · split
    · exact h
    · exact List.mem_append_left _ h

theorem Die.foldl_vecMessage_sent {m : OutMsg} (due : Nat → Bool) (l : List Nat) {z : Die} (h : m ∈ z.out) :
    m ∈ (l.foldl (fun z v => if due v then z.vecMessage v else z) z).out := by
  induction l generalizing z with
  | nil => exact h
  | cons v l ih =>
    refine ih ?_
    dsimp only
    split
    · exact Die.vecMessage_sent h v
    · exact h

theorem Die.pend_sent {x : Die} {m : OutMsg} (h : m ∈ x.out) (e : Nat) : m ∈ (x.pend e).out := Die.foldl_vecMessage_sent _ _ h

theorem Die.showQueue_out (x : Die) : x.showQueue.out = x.out := by
  unfold Die.showQueue Die.peak
  split <;> rfl

/-- What has been sent stays sent as an event fires. -/
theorem Die.fire_sent {x : Die} {m : OutMsg} (h : m ∈ x.out) (e : Nat) : m ∈ (x.fire e).out := by
  have hqueued : ∀ q, m ∈ ({ x.pend e with evq := q } : Die).showQueue.out := fun q => by
    rw [Die.showQueue_out]
    exact Die.pend_sent h e
  unfold Die.fire
  dsimp only
  split
  · refine Die.pend_sent ?_ 620
    rw [Die.raise_out]
    split
    · rw [Die.count, Die.set_out]
      exact hqueued _
    · exact hqueued _
  · exact hqueued _

/-! ### What the blade and the heater leave of an event -/

/-- The fields of the calibration that tell of an event. -/
def calFields : List Fld := [F.CAL_PAIR_WAIT, F.CAL_STATE_PHASE, F.CAL_STATE_F, F.CAL_RES_RESULT]

/-- The field is none of those that tell of an event, and none that reset values depend on. -/
def Fld.besideCal (f : Fld) : Bool := !f.steers && calFields.all fun g => f.key != g.key

/-- `y` is `x` but for what does not tell of an event: it is in progress as it was, and what was pending still is. -/
structure Die.EventKept (x y : Die) : Prop where
  event : y.cal.event = x.cal.event
  get : ∀ f ∈ calFields, y.get f = x.get f
  pends : ∀ i, x.pends i = true → y.pends i = true

theorem Fld.besideCal_of_beyond {f : Fld} (h : 0x29 * 0x20000 ≤ f.key) : f.besideCal = true := by
  have hcal : ∀ g ∈ calFields, g.key < 0x29 * 0x20000 := by decide
  have hne : ∀ g ∈ calFields, f.key ≠ g.key := fun g hg e => by have := hcal g hg; omega
  have hdie : F.SYS_IDENT_DIE.key < 0x29 * 0x20000 := by decide
  have hexport : F.SEQ_LIMITS_EXPORT.key < 0x29 * 0x20000 := by decide
  have hsteers : f.steers = false := by
    simp only [Fld.steers, Bool.or_eq_false_iff, decide_eq_false_iff_not]
    omega
  simpa [Fld.besideCal, hsteers] using hne

@[simp] theorem F.besideCal_pwmDutyHigh (m : Nat) : (F.PWM_DUTY_HIGH m).besideCal = true :=
  Fld.besideCal_of_beyond (by simp only [Fld.key, F.PWM_DUTY_HIGH]; omega)

@[simp] theorem F.besideCal_pwmDutyFrac (m : Nat) : (F.PWM_DUTY_FRAC m).besideCal = true :=
  Fld.besideCal_of_beyond (by simp only [Fld.key, F.PWM_DUTY_FRAC]; omega)

@[simp] theorem F.besideCal_pwmDutySign (m : Nat) : (F.PWM_DUTY_SIGN m).besideCal = true :=
  Fld.besideCal_of_beyond (by simp only [Fld.key, F.PWM_DUTY_SIGN]; omega)

@[simp] theorem F.besideCal_pwmOwn (m : Nat) : (F.PWM_OWN_OWN m).besideCal = true :=
  Fld.besideCal_of_beyond (by simp only [Fld.key, F.PWM_OWN_OWN]; omega)

@[simp] theorem F.besideCal_loopValue (n : Nat) : (F.LOOP_I_VALUE n).besideCal = true :=
  Fld.besideCal_of_beyond (by simp only [Fld.key, F.LOOP_I_VALUE]; omega)

theorem calFields_showsQueue : ∀ f ∈ calFields, f.showsQueue = false := by decide

section
variable {x y z : Die}

theorem Die.EventKept.refl (x : Die) : x.EventKept x := ⟨rfl, fun _ _ => rfl, fun _ h => h⟩

theorem Die.EventKept.trans (h : x.EventKept y) (k : y.EventKept z) : x.EventKept z :=
  ⟨k.event.trans h.event, fun f hf => (k.get f hf).trans (h.get f hf), fun i hi => k.pends i (h.pends i hi)⟩

/-- A change of state behind the registers that is not the event's. -/
theorem Die.EventKept.hidden (h : x.EventKept y) (hevent : z.cal.event = y.cal.event) (hlive : z.live = y.live)
    (hpend : z.evPend = y.evPend) : x.EventKept z := by
  have hget : ∀ f, z.get f = y.get f := fun f => by simp only [Die.get, Die.resetOf, hlive]
  exact h.trans ⟨hevent, fun f _ => hget f, fun i hi => by rw [Die.pends, hpend]; exact hi⟩

theorem Die.EventKept.set {f : Fld} {v : Nat} (hf : f.besideCal = true) (h : x.EventKept y) : x.EventKept (y.set f v) := by
  simp only [Fld.besideCal, Bool.and_eq_true, Bool.not_eq_true', List.all_eq_true, bne_iff_ne] at hf
  obtain ⟨hsteers, hne⟩ := hf
  exact ⟨h.event, fun g hg => (Die.get_set_ne y v (hne g hg) hsteers).trans (h.get g hg), h.pends⟩

theorem Die.EventKept.setB {f : Fld} {b : Bool} (hf : f.besideCal = true) (h : x.EventKept y) : x.EventKept (y.setB f b) := .set hf h

theorem Die.EventKept.setBit {f : Fld} {i : Nat} {b : Bool} (hf : f.besideCal = true) (h : x.EventKept y) :
    x.EventKept (y.setBit f i b) := .set hf h

theorem Die.EventKept.count {f : Fld} {n : Nat} (hf : f.besideCal = true) (h : x.EventKept y) : x.EventKept (y.count f n) := .set hf h

theorem Die.EventKept.fire {e : Nat} (h : x.EventKept y) : x.EventKept (y.fire e) :=
  ⟨by rw [Die.fire_cal, h.event], fun f hf => (Die.fire_get y e (calFields_showsQueue f hf)).trans (h.get f hf),
    fun i hi => Die.fire_keeps_pending y e (h.pends i hi)⟩

theorem Die.EventKept.cond {e : Nat} {b : Bool} (h : x.EventKept y) : x.EventKept (y.cond e b) := by
  unfold Die.cond
  dsimp only
  split
  · exact .fire (.hidden h rfl rfl rfl)
  · exact .hidden h rfl rfl rfl

theorem Die.EventKept.foldl {α : Type} {f : Die → α → Die} {l : List α} (hf : ∀ z, ∀ a ∈ l, x.EventKept z → x.EventKept (f z a))
    (h : x.EventKept y) : x.EventKept (l.foldl f y) := by
  induction l generalizing y with
  | nil => exact h
  | cons a l ih => exact ih (fun z b hb => hf z b (by simp [hb])) (hf y a (by simp) h)

variable (h : x.EventKept y)
include h

theorem Die.EventKept.onClo {k : Clo → Clo} : x.EventKept (y.onClo k) := .hidden h rfl rfl rfl
theorem Die.EventKept.onPwm {k : Pwm → Pwm} : x.EventKept (y.onPwm k) := .hidden h rfl rfl rfl
theorem Die.EventKept.onNvs {k : Nvs → Nvs} : x.EventKept (y.onNvs k) := .hidden h rfl rfl rfl
theorem Die.EventKept.onLoop {n : Nat} {k : Loop → Loop} : x.EventKept (y.onLoop n k) := .hidden h rfl rfl rfl

theorem Die.EventKept.onFrame {n : Nat} {f : ThermFrame → ThermFrame} : x.EventKept (y.onFrame n f) := by
  unfold Die.onFrame
  split
  · exact .hidden h rfl rfl rfl
  · split
    · exact .hidden h rfl rfl rfl
    · exact h

theorem Die.EventKept.viewLost : x.EventKept y.viewLost := by
  unfold Die.viewLost
  split
  · exact .hidden h rfl rfl rfl
  · exact h

theorem Die.EventKept.showClo : x.EventKept y.showClo := by
  have hpos : ∀ {b c d : Bool} {n : Nat}, x.EventKept (((((y.setB F.CLO_POS_HALL0 b).setB F.CLO_POS_HALL1 c).set F.CLO_POS_STATE n).setB
      (F.STAT_IDLE 0x29) d)) := .setB (by decide) <| .set (by decide) <| .setB (by decide) <| .setB (by decide) h
  unfold Die.showClo
  dsimp only
  split
  · exact .cond hpos
  · split
    · exact .onFrame (.viewLost (.cond hpos))
    · exact .viewLost (.cond hpos)

theorem Die.EventKept.cloBegin {closing again : Bool} {now : Nat} : x.EventKept (y.cloBegin closing again now) :=
  .showClo (.onPwm (.onClo h))

theorem Die.EventKept.cloRest {m : Move} {now : Nat} : x.EventKept (y.cloRest m now).1 := by
  unfold Die.cloRest
  extract_lets z shut opened
  have hz : x.EventKept z := .onNvs (.onClo h)
  have hshut : x.EventKept shut := .fire <| .showClo <| .set (by decide) hz
  have hopened : x.EventKept opened := by
    unfold opened
    split
    · exact .set (by decide) hz
    · exact hz
  split
  · split
    · dsimp only; exact .cloBegin hshut
    · exact hshut
  · dsimp only; exact .fire <| .showClo <| .onClo <| .set (by decide) hopened

theorem Die.EventKept.cloSettle {now n : Nat} : x.EventKept (y.cloSettle now n).1 := by
  induction n generalizing y with
  | zero => exact h
  | succ n ih =>
    unfold Die.cloSettle
    split
    · exact h
    · split
      · dsimp only
        split
        · exact ih (.cloRest (.onClo h))
        · dsimp only; exact .onClo h
      · exact h

theorem Die.EventKept.cloMove {closing : Bool} {now : Nat} : x.EventKept (y.cloMove closing now).1 := .cloSettle (.cloBegin h)

theorem Die.EventKept.openAtOnce {now : Nat} : x.EventKept (y.openAtOnce now).1 := by
  unfold Die.openAtOnce
  split
  · exact h
  · split
    · split
      · exact h
      · split
        · dsimp only; exact .onClo h
        · exact .cloMove h
    · exact .cloMove h

theorem Die.EventKept.keepDuty {m : Nat} : x.EventKept (y.keepDuty m) := by
  unfold Die.keepDuty
  split
  · exact h
  · exact .onPwm h

theorem Die.EventKept.writeDuty {m n : Nat} {rev : Bool} : x.EventKept (y.writeDuty m n rev) := by
  unfold Die.writeDuty
  exact .onPwm <| .setB (by simp) <| .set (by simp) <| .set (by simp) <| .keepDuty (.keepDuty h)

theorem Die.EventKept.loopDrive {n : Nat} {u : Int} : x.EventKept (y.loopDrive n u) := .writeDuty h

theorem Die.EventKept.setInteg {n : Nat} {i : Int} : x.EventKept (y.setInteg n i) := by
  unfold Die.setInteg
  exact .set (by simp) (.onLoop h)

theorem Die.EventKept.showLoops : x.EventKept y.showLoops := .foldl (fun _ _ _ hz => .setBit (by decide) hz) h

theorem Die.EventKept.showOwners : x.EventKept y.showOwners := .foldl (fun _ _ _ hz => .set (by simp) hz) h

theorem Die.EventKept.bladeLoopOff : x.EventKept y.bladeLoopOff :=
  .showOwners <| .showLoops <| .onLoop <| .setInteg <| .loopDrive h

theorem Die.EventKept.heaterOff : x.EventKept y.heaterOff := by
  unfold Die.heaterOff
  refine .onClo <| .set (by decide) ?_
  split
  · exact .bladeLoopOff (.set (by decide) h)
  · exact h

end

/-! ### CAL_TIMER_DUE and DEFER_TIMEOUT (R162, R163) -/

/-- An event becomes due for the reason `r`: shown, its grant asked for, and event 325. -/
def Die.madeDue (x : Die) (r now : Nat) : Die :=
  (((((x.set F.CAL_STATE_PHASE 1).set F.CAL_STATE_REASON r).set F.CAL_PAIR_WAIT 1).onCal
    fun c => { c with waitFrom := now, deferred := false }).send (.staggerRequest x.id r)).fire 325

theorem Die.showDue_due {x : Die} {r now : Nat} (hr : firstReason (x.calReasons now) = r) (hpos : r ≠ 0) (hevent : x.cal.event = none)
    (hphase : x.get F.CAL_STATE_PHASE = 0) : x.showDue now = x.madeDue r now := by
  simp [Die.showDue, hr, hevent, hphase, hpos, Die.madeDue]

section
variable (x : Die) (r now : Nat)

theorem Die.madeDue_phase : (x.madeDue r now).get F.CAL_STATE_PHASE = 1 := by
  rw [Die.madeDue, Die.fire_get _ _ (by decide), Die.send_get, Die.onCal_get, Die.get_set_ne _ _ (by decide) (by decide),
    Die.get_set_ne _ _ (by decide) (by decide), Die.get_set_self]
  rfl

theorem Die.madeDue_reason (hr : r < 8) : (x.madeDue r now).get F.CAL_STATE_REASON = r := by
  rw [Die.madeDue, Die.fire_get _ _ (by decide), Die.send_get, Die.onCal_get, Die.get_set_ne _ _ (by decide) (by decide)]
  exact Die.get_set_of_lt _ hr

theorem Die.madeDue_wait : (x.madeDue r now).on F.CAL_PAIR_WAIT = true := by
  rw [Die.madeDue, Die.fire_on _ _ (by decide), Die.send_on, Die.onCal_on, Die.on_set_self]
  rfl

theorem Die.madeDue_sent : .staggerRequest x.id r ∈ (x.madeDue r now).out := by
  refine Die.fire_sent ?_ 325
  rw [Die.send_out]
  exact List.mem_append_right _ (List.mem_singleton_self _)

theorem Die.madeDue_cal : (x.madeDue r now).cal = { x.cal with waitFrom := now, deferred := false } := by
  rw [Die.madeDue, Die.fire_cal, Die.send_cal]
  rfl

theorem Die.madeDue_mbx : (x.madeDue r now).mbx = x.mbx := by
  rw [Die.madeDue, Die.fire_mbx, Die.send_mbx]
  rfl

end

theorem Die.showInhibit_calReasons (x : Die) (now : Nat) : (x.showInhibit now).calReasons now = x.calReasons now := by
  have hget : ∀ f : Fld, f.showsQueue = false → (x.showInhibit now).get f = x.get f := fun f hf => Die.cond_get _ _ _ hf
  have hraw : ∀ i, i ≠ 334 → (x.showInhibit now).evRaw.getLsbD i = x.evRaw.getLsbD i := fun i hi => Die.cond_raw_ne _ _ hi
  have hcal : (x.showInhibit now).cal = x.cal := Die.cond_cal _ _ _
  simp (disch := decide) only [Die.calReasons, Die.firstDue, Die.interval, Die.calAge, Die.on, hget, hraw, hcal]
  rfl

section
variable {x : Die} {now : Nat} (hen : x.on F.CAL_CTRL_EN = true) (hauto : x.on F.CAL_CTRL_AUTO = true) (hage : x.condOn 357 = false)
  (hhost : x.cal.hostDue = false)
include hen hauto hage hhost

theorem Die.calReasons_first (hfirst : x.firstDue now = true) : firstReason (x.calReasons now) = 1 := by
  have hraw : x.evRaw.getLsbD 357 = false := hage
  simp only [Die.calReasons, hen, hauto, hraw, hhost, hfirst, Bool.and_true, Bool.true_and, Bool.and_false]
  generalize decide (x.get F.CAL_DRIFT1_LIMIT ≤ x.get F.CAL_PRED_PRED) = drifted
  generalize decide (x.interval ≤ x.calAge now) = aged
  cases drifted <;> cases aged <;> rfl

theorem Die.calReasons_interval (hfirst : x.firstDue now = false) (hdrift : x.get F.CAL_PRED_PRED < x.get F.CAL_DRIFT1_LIMIT)
    (hinterval : x.interval ≤ x.calAge now) : firstReason (x.calReasons now) = 2 := by
  have hraw : x.evRaw.getLsbD 357 = false := hage
  simp only [Die.calReasons, hen, hauto, hraw, hhost, hfirst, decide_eq_false (Nat.not_le.2 hdrift), decide_eq_true hinterval]
  rfl

end

section
variable (s : State) (d : DieId)

@[simp] theorem State.fresh_jobRuns (j : Nat) : (s.fresh d).jobRuns j = (s.die d).jobRuns j := rfl
@[simp] theorem State.fresh_firstDue (now : Nat) : (s.fresh d).firstDue now = (s.die d).firstDue now := rfl
@[simp] theorem State.fresh_interval : (s.fresh d).interval = (s.die d).interval := rfl
@[simp] theorem State.fresh_calAge (now : Nat) : (s.fresh d).calAge now = (s.die d).calAge now := rfl
@[simp] theorem State.fresh_calReasons (now : Nat) : (s.fresh d).calReasons now = (s.die d).calReasons now := rfl
@[simp] theorem State.env_now : (s.env d).now = s.now := rfl
@[simp] theorem State.env_peer : (s.env d).peer = s.die d.other := rfl

end

section
variable {s : State} {d : DieId} (hr : s.running d)
include hr

/-- The timer has come and an event is due for the reason `r`. -/
theorem calTimerDue_effect {first : Bool} {r : Nat} (hjob : (s.die d).jobRuns 1 = true)
    (htimer : (if first then (s.die d).firstDue s.now else decide ((s.die d).interval ≤ (s.die d).calAge s.now)) = true)
    (hreason : firstReason ((s.die d).calReasons s.now) = r) (hpos : r ≠ 0) (hlt : r < 8) (hevent : (s.die d).cal.event = none)
    (hphase : (s.die d).get F.CAL_STATE_PHASE = 0) :
    Effect (.calTimerDue d first) d s (fun y => y.get F.CAL_STATE_PHASE = 1 ∧ y.get F.CAL_STATE_REASON = r ∧
      y.on F.CAL_PAIR_WAIT = true ∧ y.pends 325 = true ∧ .staggerRequest (s.die d).id r ∈ y.out ∧
      y.cal = { (s.die d).cal with waitFrom := s.now, deferred := false } ∧
      ({ s.die d with cal := y.cal } : Die).only [F.CAL_STATE_PHASE, F.CAL_STATE_REASON, F.CAL_PAIR_WAIT] [325, 334] y) := by
  have hcal : ((s.fresh d).showInhibit s.now).cal = (s.die d).cal := Die.cond_cal _ _ _
  have hid : ((s.fresh d).showInhibit s.now).id = (s.die d).id := by
    simp only [Die.id, Die.on, Die.showInhibit, Die.cond_get _ _ _ (show F.SYS_IDENT_DIE.showsQueue = false by decide)]
    rfl
  have hdue : ((s.fresh d).showInhibit s.now).showDue s.now = ((s.fresh d).showInhibit s.now).madeDue r s.now := by
    refine Die.showDue_due ?_ hpos (by rw [hcal]; exact hevent) ?_
    · rw [Die.showInhibit_calReasons, State.fresh_calReasons, hreason]
    · rw [Die.showInhibit, Die.cond_get _ _ _ (by decide), State.fresh_get, hphase]
  have hall : (s.fresh d).OnCal [F.CAL_STATE_PHASE, F.CAL_STATE_REASON, F.CAL_PAIR_WAIT] [325, 334]
      (((s.fresh d).showInhibit s.now).madeDue r s.now) :=
    .fire (by simp) <| .send <| .onCal <| .set (by simp) <| .set (by simp) <| .set (by simp) <| .cond (by simp) <| .refl _ _ _
  have hgo : ((s.fresh d).jobRuns 1 && (if first then (s.fresh d).firstDue (s.env d).now else
      decide ((s.fresh d).interval ≤ (s.fresh d).calAge (s.env d).now))) = true := by
    rw [State.fresh_jobRuns, State.fresh_firstDue, State.fresh_interval, State.fresh_calAge, State.env_now, hjob, Bool.true_and, htimer]
  have hmbx : (((s.fresh d).showInhibit s.now).madeDue r s.now).mbx = (s.die d).mbx := by
    rw [Die.madeDue_mbx, Die.showInhibit, Die.cond_mbx, State.fresh_mbx]
  refine calibration_effect rfl hr ((if_pos hgo).trans hdue) hall ⟨?_, ?_, ?_, ?_, ?_, ?_, hall.settled_only hmbx⟩
  · rw [Die.settled_get, Die.madeDue_phase]
  · rw [Die.settled_get, Die.madeDue_reason _ _ _ hlt]
  · rw [Die.settled_on, Die.madeDue_wait]
  · rw [Die.settled_pends, Die.madeDue, Die.fire_pends _ (by decide)]
  · rw [Die.settled_out, ← hid]
    exact Die.madeDue_sent _ _ _
  · rw [Die.settled_cal, Die.madeDue_cal, hcal]

theorem calTimerDue_waits {first : Bool}
    (h : (s.die d).jobRuns 1 = false ∨ first = true ∧ (s.die d).firstDue s.now = false ∨
      first = false ∧ (s.die d).calAge s.now < (s.die d).interval) :
    Effect (.calTimerDue d first) d s (fun y => (s.die d).only [] [] y) := by
  refine nothing_effect rfl hr (if_neg ?_)
  rw [State.fresh_jobRuns, State.fresh_firstDue, State.fresh_interval, State.fresh_calAge, State.env_now]
  rcases h with h | ⟨rfl, h⟩ | ⟨rfl, h⟩ <;> simp [h]

theorem deferTimeout_effect (hphase : (s.die d).get F.CAL_STATE_PHASE = 1) (hdeferred : (s.die d).cal.deferred = false)
    (hpassed : secsPassed s.now (s.die d).cal.waitFrom ((s.die d).get F.CAL_POLICY_DEFER_MAX) = true) :
    Effect (.deferTimeout d) d s (fun y => y.cal = { (s.die d).cal with deferred := true } ∧ y.pends 327 = true ∧
      ({ s.die d with cal := y.cal } : Die).only [] [327] y) := by
  have hall : (s.fresh d).OnCal [] [327] (((s.fresh d).onCal fun c => { c with deferred := true }).fire 327) :=
    .fire (by simp) <| .onCal <| .refl _ _ _
  have hgo : ((s.fresh d).get F.CAL_STATE_PHASE = 1 && !(s.fresh d).cal.deferred &&
      secsPassed (s.env d).now (s.fresh d).cal.waitFrom ((s.fresh d).get F.CAL_POLICY_DEFER_MAX)) = true := by
    rw [State.fresh_get, State.fresh_get, State.fresh_cal, State.env_now, hphase, hdeferred, hpassed]
    rfl
  refine calibration_effect rfl hr (if_pos hgo) hall ⟨?_, ?_, hall.settled_only (Die.fire_mbx _ _)⟩
  · rw [Die.settled_cal, Die.fire_cal]; rfl
  · rw [Die.settled_pends, Die.fire_pends _ (by decide)]

end

/-! ### SHUTTER_EVENT_START (R163, R164) -/

theorem Die.cloRest_notes (x : Die) (m : Move) (now : Nat) : ∀ n ∈ (x.cloRest m now).2, n = .closed ∨ n = .opened := by
  unfold Die.cloRest
  extract_lets y shut opened
  split
  · split <;> simp
  · simp

theorem Die.cloSettle_notes (x : Die) (now k : Nat) : ∀ n ∈ (x.cloSettle now k).2, n = .closed ∨ n = .opened := by
  induction k generalizing x with
  | zero => simp [Die.cloSettle]
  | succ k ih =>
    unfold Die.cloSettle
    split
    · simp
    · split
      · dsimp only
        split
        · intro n hn
          exact (List.mem_append.1 hn).elim (Die.cloRest_notes _ _ _ n) (ih _ n)
        · simp
      · simp

theorem Die.cloMove_notes (x : Die) (closing : Bool) (now : Nat) : ∀ n ∈ (x.cloMove closing now).2, n = .closed ∨ n = .opened :=
  Die.cloSettle_notes _ now 4

/-- A blade that has merely closed or opened means nothing to an event in progress. -/
theorem Die.calNotes_moved {r : Die × List CloNote} (hl : ∀ n ∈ r.2, n = .closed ∨ n = .opened)
    (hevent : r.1.cal.event.isSome = true) (now : Nat) : Die.calNotes r now = r.1 := by
  have hquiet : (r.2.any fun n => n = .stalled || n = .faulted || n = .forced || n = .hallFail) = false := by
    rw [List.any_eq_false]
    intro n hn
    rcases hl n hn with rfl | rfl <;> decide
  obtain ⟨e, he⟩ := Option.isSome_iff_exists.1 hevent
  simp [Die.calNotes, hquiet, he]

/-- The event that begins now, by its plan (R164). -/
def Die.plannedEvent (x : Die) (warm : Bool) : CalEvent :=
  { gain := x.get F.SEQ_FCFG_GAIN, f := x.planF, warm := warm, first := x.frame.num, settleFrame := x.frame.num + x.planFirst,
    groupA := x.frame.num + x.planFirst + x.get F.CAL_OFS_SETTLE,
    groupB := x.frame.num + x.planFirst + x.get F.CAL_OFS_SETTLE + x.planF,
    last := x.frame.num + x.planFirst + x.get F.CAL_OFS_SETTLE + 2 * x.planF - 1, plane := x.planeBase (x.get F.SEQ_FCFG_GAIN),
    tf0 := x.getS F.SVE_TF0_TF0, th0 := x.getS F.SVE_TH0_TH0 }

/-- `y` is the die `x` as its planned event has begun (R164). -/
def Die.EventBegan (x y : Die) : Prop :=
  y.pends 321 = true ∧ y.on F.CAL_PAIR_WAIT = false ∧ y.get F.CAL_STATE_PHASE = 2 ∧
    y.get F.CAL_STATE_F = x.planF % 2 ^ F.CAL_STATE_F.width ∧
    y.cal.event.map (fun e => (e.gain, e.f, e.first)) = some (x.get F.SEQ_FCFG_GAIN, x.planF, x.frame.num)

/-- The planned event is in progress, and the die waits for no grant. -/
def Die.eventPlanned (x : Die) (warm host : Bool) : Die :=
  (x.set F.CAL_PAIR_WAIT 0).onCal fun c =>
    { c with event := some (x.plannedEvent warm), cold := if warm then c.cold else none, hostDue := c.hostDue && !host }

/-- The planned event shown, with the heater off where the event is a cold one. -/
def Die.eventShown (x : Die) (warm host : Bool) : Die :=
  let y := if !warm && (x.eventPlanned warm host).on F.CAL_CTRL_GREF_EN then (x.eventPlanned warm host).heaterOff
    else x.eventPlanned warm host
  (((y.set F.CAL_STATE_PHASE 2).set F.CAL_STATE_F x.planF).setB F.CAL_STATE_WARM warm).setB F.CAL_STATE_PAIRED warm

/-- The event begun, before the blade moves. -/
def Die.eventBegun (x : Die) (warm host : Bool) : Die :=
  (if host then (x.eventShown warm host).answerHost 0 else x.eventShown warm host).fire 321

theorem Die.EventKept.answerHost {x y : Die} {status : Nat} (h : x.EventKept y) : x.EventKept (y.answerHost status) := by
  unfold Die.answerHost
  split
  · exact .hidden h rfl rfl rfl
  · exact h

section
variable (x : Die) (warm host : Bool)

theorem Die.eventShown_planned : ∃ y, (x.eventPlanned warm host).EventKept y ∧ x.eventShown warm host =
    (((y.set F.CAL_STATE_PHASE 2).set F.CAL_STATE_F x.planF).setB F.CAL_STATE_WARM warm).setB F.CAL_STATE_PAIRED warm := by
  unfold Die.eventShown
  refine ⟨_, ?_, rfl⟩
  split
  · exact .heaterOff (.refl _)
  · exact .refl _

theorem Die.eventShown_fields : (x.eventShown warm host).cal.event = some (x.plannedEvent warm) ∧
    (x.eventShown warm host).get F.CAL_PAIR_WAIT = 0 ∧ (x.eventShown warm host).get F.CAL_STATE_PHASE = 2 ∧
    (x.eventShown warm host).get F.CAL_STATE_F = x.planF % 2 ^ F.CAL_STATE_F.width := by
  obtain ⟨y, hkept, hshown⟩ := x.eventShown_planned warm host
  rw [hshown]
  refine ⟨hkept.event, ?_, ?_, ?_⟩ <;> simp only [Die.setB]
  · rw [Die.get_set_ne _ _ (by decide) (by decide), Die.get_set_ne _ _ (by decide) (by decide),
      Die.get_set_ne _ _ (by decide) (by decide), Die.get_set_ne _ _ (by decide) (by decide), hkept.get _ (by decide),
      Die.eventPlanned, Die.onCal_get, Die.get_set_self]
    rfl
  · rw [Die.get_set_ne _ _ (by decide) (by decide), Die.get_set_ne _ _ (by decide) (by decide),
      Die.get_set_ne _ _ (by decide) (by decide), Die.get_set_self]
    rfl
  · rw [Die.get_set_ne _ _ (by decide) (by decide), Die.get_set_ne _ _ (by decide) (by decide), Die.get_set_self]

theorem Die.eventBegun_kept : (x.eventShown warm host).EventKept (x.eventBegun warm host) := by
  unfold Die.eventBegun
  split
  · exact .fire (.answerHost (.refl _))
  · exact .fire (.refl _)

theorem Die.eventBegun_pends : (x.eventBegun warm host).pends 321 = true := Die.fire_pends _ (by decide)

/-- The blade's closing move leaves the event begun as it is. -/
theorem Die.eventBegun_moves (now : Nat) :
    Die.calNotes ((x.eventBegun warm host).cloMove true now) now = ((x.eventBegun warm host).cloMove true now).1 := by
  have hmove : (x.eventBegun warm host).EventKept ((x.eventBegun warm host).cloMove true now).1 := .cloMove (.refl _)
  refine Die.calNotes_moved (Die.cloMove_notes _ true now) ?_ now
  rw [hmove.event, (x.eventBegun_kept warm host).event, (x.eventShown_fields warm host).1]
  rfl

/-- The event has begun, and the blade's move with it. -/
theorem Die.eventBegun_began (now : Nat) : x.EventBegan (Die.calNotes ((x.eventBegun warm host).cloMove true now) now) := by
  have hmove : (x.eventBegun warm host).EventKept ((x.eventBegun warm host).cloMove true now).1 := .cloMove (.refl _)
  have hkept := (x.eventBegun_kept warm host).trans hmove
  obtain ⟨hevent, hwait, hphase, hf⟩ := x.eventShown_fields warm host
  rw [x.eventBegun_moves warm host now]
  refine ⟨hmove.pends 321 (x.eventBegun_pends warm host), ?_, ?_, ?_, ?_⟩
  · rw [Die.on, hkept.get _ (by decide), hwait]; rfl
  · rw [hkept.get _ (by decide), hphase]
  · rw [hkept.get _ (by decide), hf]
  · rw [hkept.event, hevent]; rfl

end

/-- A running die answers a command on it with the die that the command makes. -/
theorem dieAnswers_to {c : Instr} {s : State} {d : DieId} {f : Env → Die → Die} {P : Die → Prop} {y : Die}
    (hc : exec c s = onDie d s f) (hr : s.running d) (hy : f (s.env d) (s.fresh d) = y) (h : P y.settled) : DieAnswers c d s P := by
  subst hy
  exact dieAnswers_of hc hr h

@[simp] theorem State.fresh_planF (s : State) (d : DieId) : (s.fresh d).planF = (s.die d).planF := rfl

theorem Die.EventBegan.settled {s : State} {d : DieId} {y : Die} (h : (s.fresh d).EventBegan y) : (s.die d).EventBegan y.settled := by
  obtain ⟨hstart, hwait, hphase, hf, hevent⟩ := h
  exact ⟨by rw [Die.settled_pends, hstart], by rw [Die.settled_on, hwait], by rw [Die.settled_get, hphase],
    by rw [Die.settled_get, hf, State.fresh_planF], by rw [Die.settled_cal, hevent]; rfl⟩

section
variable {s : State} {d : DieId} (hr : s.running d) (hmay : (s.die d).mayStart (s.die d.other) s.now = true)
include hr hmay

theorem shutterEventStart_begins (hplan : (s.die d).planF ≠ 0) : DieAnswers (.shutterEventStart d) d s (s.die d).EventBegan := by
  have hplan' : (s.fresh d).planF ≠ 0 := hplan
  have hbegan : ∀ warm host, (s.die d).EventBegan (Die.calNotes (((s.fresh d).eventBegun warm host).cloMove true s.now) s.now).settled :=
    fun warm host => ((s.fresh d).eventBegun_began warm host s.now).settled
  by_cases hhost : (s.fresh d).get F.CAL_STATE_REASON = 5
  · refine dieAnswers_to (y := Die.calNotes (((s.fresh d).eventBegun ((s.fresh d).mayWarm s.now && (s.fresh d).cal.host = some 1)
      true).cloMove true s.now) s.now) rfl hr ?_ (hbegan _ _)
    simp only [State.env_peer, State.env_now, State.fresh_mayStart, hmay, Bool.not_true, Bool.false_eq_true, if_false, hplan', hhost,
      if_true]
    rfl
  · refine dieAnswers_to (y := Die.calNotes (((s.fresh d).eventBegun ((s.fresh d).mayWarm s.now && true) false).cloMove true s.now)
      s.now) rfl hr ?_ (hbegan _ _)
    simp only [State.env_peer, State.env_now, State.fresh_mayStart, hmay, Bool.not_true, Bool.false_eq_true, if_false, hplan', hhost]
    rfl

end

/-! ### An event that does not fit (R164) -/

/-- The event that does not fit is over, with its result. -/
def Die.eventMissed (x : Die) (now : Nat) : Die := (((x.set F.CAL_PAIR_WAIT 0).set F.CAL_RES_RESULT 7).fire 326).eventOver now

/-- The host that asked for the event has its answer. -/
def Die.missAnswered (x : Die) (host : Bool) : Die :=
  if host then (x.answerHost 5).onCal fun c => { c with hostDue := false } else x

/-- The die as an event that does not fit leaves it. -/
def Die.eventUnfit (x : Die) (host : Bool) (now : Nat) : Die :=
  (((x.eventMissed now).missAnswered host).set F.CAL_STATE_PHASE 0).set F.CAL_STATE_REASON 0

theorem Die.set_pends (x : Die) (f : Fld) (v e : Nat) : (x.set f v).pends e = x.pends e := rfl
theorem Die.onCal_pends (x : Die) (k : Cal → Cal) (e : Nat) : (x.onCal k).pends e = x.pends e := rfl

section
variable {x y : Die} {L : List Fld} {E : List Nat}

theorem Die.OnCal.missAnswered {host : Bool} (h : x.OnCal L E y) : x.OnCal L E (y.missAnswered host) := by
  unfold Die.missAnswered Die.answerHost
  split
  · split
    · exact .onCal <| .mbxResult <| .onCal h
    · exact .onCal h
  · exact h

theorem Die.EventKept.missAnswered {host : Bool} (h : x.EventKept y) : x.EventKept (y.missAnswered host) := by
  unfold Die.missAnswered
  split
  · exact .hidden (.answerHost h) rfl rfl rfl
  · exact h

end

section
variable (x : Die) (host : Bool) (now : Nat)

/-- The fields that an event which does not fit writes. -/
abbrev unfitFields : List Fld := [F.CAL_RES_RESULT, F.CAL_PAIR_WAIT, F.CAL_STATE_PHASE, F.CAL_STATE_REASON]

theorem Die.eventMissed_onCal : x.OnCal unfitFields [326] (x.eventMissed now) := by
  unfold Die.eventMissed Die.eventOver
  exact .onCal <| .fire (by simp) <| .set (by simp) <| .set (by simp) <| .refl _ _ _

theorem Die.eventUnfit_onCal : x.OnCal unfitFields [326] (x.eventUnfit host now) := by
  refine .set ?_ <| .set ?_ <| .missAnswered (x.eventMissed_onCal now) <;> simp

theorem Die.eventMissed_get {f : Fld} (hf : f ∈ calFields) :
    (x.eventMissed now).get f = ((x.set F.CAL_PAIR_WAIT 0).set F.CAL_RES_RESULT 7).get f := by
  rw [Die.eventMissed, Die.eventOver, Die.onCal_get, Die.fire_get _ _ (calFields_showsQueue f hf)]

theorem Die.eventMissed_pends : (x.eventMissed now).pends 326 = true := by
  rw [Die.eventMissed, Die.eventOver, Die.onCal_pends, Die.fire_pends _ (by decide)]

theorem Die.eventUnfit_fields : (x.eventUnfit host now).get F.CAL_RES_RESULT = 7 ∧ (x.eventUnfit host now).pends 326 = true ∧
    (x.eventUnfit host now).on F.CAL_PAIR_WAIT = false ∧ (x.eventUnfit host now).get F.CAL_STATE_PHASE = 0 ∧
    (x.eventUnfit host now).get F.CAL_STATE_REASON = 0 := by
  have hkept : (x.eventMissed now).EventKept ((x.eventMissed now).missAnswered host) := .missAnswered (.refl _)
  refine ⟨?_, ?_, ?_, ?_, ?_⟩ <;> rw [Die.eventUnfit]
  · rw [Die.get_set_ne _ _ (by decide) (by decide), Die.get_set_ne _ _ (by decide) (by decide), hkept.get _ (by decide),
      Die.eventMissed_get _ _ (by decide), Die.get_set_self]
    rfl
  · rw [Die.set_pends, Die.set_pends, hkept.pends 326 (x.eventMissed_pends now)]
  · rw [Die.on_set_ne _ _ (by decide) (by decide), Die.on_set_ne _ _ (by decide) (by decide), Die.on, hkept.get _ (by decide),
      Die.eventMissed_get _ _ (by decide), Die.get_set_ne _ _ (by decide) (by decide), Die.get_set_self]
    rfl
  · rw [Die.get_set_ne _ _ (by decide) (by decide), Die.get_set_self]
    rfl
  · rw [Die.get_set_self]
    rfl

end

theorem shutterEventStart_misses {s : State} {d : DieId} (hr : s.running d)
    (hmay : (s.die d).mayStart (s.die d.other) s.now = true) (hplan : (s.die d).planF = 0) :
    Effect (.shutterEventStart d) d s (fun y => y.get F.CAL_RES_RESULT = 7 ∧ y.pends 326 = true ∧ y.on F.CAL_PAIR_WAIT = false ∧
      y.get F.CAL_STATE_PHASE = 0 ∧ y.get F.CAL_STATE_REASON = 0 ∧
      ({ s.die d with cal := y.cal, mbx := y.mbx } : Die).only unfitFields [326] y) := by
  obtain ⟨hresult, hmissed, hwait, hphase, hreason⟩ :=
    (s.fresh d).eventUnfit_fields (decide ((s.fresh d).get F.CAL_STATE_REASON = 5)) s.now
  have hall := (s.fresh d).eventUnfit_onCal (decide ((s.fresh d).get F.CAL_STATE_REASON = 5)) s.now
  refine calibration_effect rfl hr ?_ hall ⟨?_, ?_, ?_, ?_, ?_, hall.settled_only_mbx⟩
  · simp only [State.env_peer, State.env_now, State.fresh_mayStart, hmay, Bool.not_true, Bool.false_eq_true, if_false,
      State.fresh_planF, hplan, if_true, Die.eventUnfit, Die.missAnswered, decide_eq_true_eq]
    rfl
  · rw [Die.settled_get, hresult]
  · rw [Die.settled_pends, hmissed]
  · rw [Die.settled_on, hwait]
  · rw [Die.settled_get, hphase]
  · rw [Die.settled_get, hreason]

/-! ### PLANE_WRITER_DONE (R169 to R174) -/

section
variable {x y : Die}

theorem Die.EventKept.ite {z : Die} {c : Prop} [Decidable c] (h : x.EventKept y) (k : x.EventKept z) :
    x.EventKept (if c then y else z) := by
  split
  · exact h
  · exact k

theorem Die.EventKept.freeVal (w : Nat) (h : x.EventKept y) : x.EventKept (y.freeVal w).2 := .hidden h rfl rfl rfl

theorem Die.EventKept.freeBit (h : x.EventKept y) : x.EventKept y.freeBit.2 := .hidden h rfl rfl rfl

theorem Die.EventKept.freeBytes {n : Nat} (h : x.EventKept y) : x.EventKept (y.freeBytes n).2 := by
  induction n generalizing y with
  | zero => exact h
  | succ n ih => exact ih (.freeVal 8 h)

theorem Die.EventKept.dramWrite {a : Nat} {l : List Byte} (h : x.EventKept y) : x.EventKept (y.dramWrite a l) := .hidden h rfl rfl rfl

theorem Die.EventKept.storeGest {mem : Memory} {n : Nat} {l : Option (List (Nat × Nat))} (h : x.EventKept y) :
    x.EventKept (y.storeGest mem n l) := .dramWrite h

theorem Die.EventKept.noteQuality {e : CalEvent} {p : Pass} (h : x.EventKept y) : x.EventKept (y.noteQuality e p) := by
  unfold Die.noteQuality
  extract_lets good n vd vs slope den
  split
  · exact .set (by decide) <| .set (by decide) <| .freeVal 16 <| .freeVal 16 h
  · exact .set (by decide) <| .set (by decide) h

theorem Die.EventKept.stageVal {f : Fld} {v : Nat} (h : x.EventKept y) : x.EventKept (y.stageVal f v) := .hidden h rfl rfl rfl

theorem Die.EventKept.armPage {p b now : Nat} (hb : (F.COMMIT_BOUNDARY p).besideCal = true)
    (hp : (F.COMMIT_STAT_PENDING p).besideCal = true) (h : x.EventKept y) : x.EventKept (y.armPage p b now) := by
  unfold Die.armPage
  split
  · exact h
  · exact .hidden (.set hp (.set hb h)) rfl rfl rfl

end

/-- The accepted event shown, and its commit armed. -/
def Die.acceptEvent (x : Die) (e : CalEvent) (now : Nat) : Die :=
  (((((x.set F.CAL_RES_RESULT 1).count F.CAL_CNT_ACCEPTED).cond 328 false).set F.CAL_STATE_PHASE 8).onCal fun c =>
    { c with event := some e, rejects := 0 }).armEvent e now

/-- The tests of an event have four results (Table 5.6). -/
theorem Die.judgeEvent_result (x : Die) (e : CalEvent) (p : Pass) (open_ : Bool) : x.judgeEvent e p open_ ∈ [1, 2, 3, 4] := by
  unfold Die.judgeEvent
  extract_lets ds rs blade
  repeat' split
  all_goals simp

/-- How PLANE_WRITER_DONE ends an event, or accepts it. -/
inductive Die.Judged (x : Die) (now : Nat) : Die → Prop
  /-- A test of Table 5.6 fails. -/
  | rejected (y : Die) {res : Nat} (hres : res ∈ [2, 3, 4]) : x.Judged now (y.rejectEvent res now)
  /-- The set has changed since the event began. -/
  | changed (y : Die) (hkept : x.EventKept y) : x.Judged now (y.calAbandon 6 now)
  /-- The event is accepted. -/
  | accepted (y : Die) (e : CalEvent) (he : e.accepted = true) : x.Judged now (y.acceptEvent e now)

theorem planeWriterDone_judges (s : State) (d : DieId) : ∃ f, exec (.planeWriterDone d) s = onDie d s f ∧
    ∀ (env : Env) (x : Die) (e : CalEvent), x.cal.event = some e → e.writing = true → e.accepted = false → x.jobRuns 1 = true →
      x.Judged env.now (f env x) := by
  refine ⟨_, rfl, ?_⟩
  intro env x e hevent hwriting haccepted hjob
  obtain ⟨judge, hjudge, hres⟩ : ∃ judge, judge = Die.judgeEvent ∧ ∀ y e p open_, judge y e p open_ ∈ [1, 2, 3, 4] :=
    ⟨_, rfl, Die.judgeEvent_result⟩
  obtain ⟨bytes, hbytes, hfree⟩ : ∃ bytes, bytes = Die.freeBytes ∧ ∀ (y : Die) (n : Nat), y.EventKept (bytes y n).2 :=
    ⟨_, rfl, fun y n => .freeBytes (.refl y)⟩
  rw [← hjudge, ← hbytes]
  split
  case h_1 hnone => simp [hnone] at hevent
  case h_2 e' he =>
    obtain rfl : e' = e := Option.some.inj (he.symm.trans hevent)
    rw [if_neg (by simp [hwriting, haccepted, hjob])]
    have hkept : x.EventKept x.freeBit.2 := .freeBit (.refl x)
    extract_lets p rs
    generalize x.freeBit = bit at hkept ⊢
    obtain ⟨open_, x1⟩ := bit
    dsimp -zeta only at hkept ⊢
    extract_lets res warm alt img stored refined cooled judged noted paired accepted shown
    have hnoted : x.EventKept judged := by
      refine .noteQuality <| .set (by decide) <| .set (by decide) ?_
      have hstored : x.EventKept refined := .ite (.storeGest (.dramWrite (.dramWrite (hkept.trans (hfree _ _)))))
        (.dramWrite (.dramWrite (hkept.trans (hfree _ _))))
      exact .ite (.hidden (.set (by decide) (.heaterOff hstored)) rfl rfl rfl) hstored
    have hlisted : res ∈ [1, 2, 3, 4] := hres _ _ _ _
    split
    case isTrue hne => exact .rejected _ (by simpa [hne] using hlisted)
    case isFalse =>
      split
      · exact .changed _ hnoted
      · exact .accepted _ _ rfl

section
variable (x : Die) (now : Nat)

theorem Die.phaseOver_result : x.phaseOver.get F.CAL_RES_RESULT = x.get F.CAL_RES_RESULT := by
  rw [Die.phaseOver, Die.get_set_ne _ _ (by decide) (by decide), Die.get_set_ne _ _ (by decide) (by decide),
    Die.get_set_ne _ _ (by decide) (by decide), Die.get_set_ne _ _ (by decide) (by decide)]

theorem Die.phaseOver_event : x.phaseOver.cal.event = x.cal.event := rfl

/-- A result set and the event over: what is done to the die until its phase is over keeps both. -/
theorem Die.EventKept.over {x y : Die} {res : Nat} (h : (x.set F.CAL_RES_RESULT res).EventKept y) (hevent : x.cal.event = none)
    (hres : res < 2 ^ F.CAL_RES_RESULT.width) : y.phaseOver.get F.CAL_RES_RESULT = res ∧ y.phaseOver.cal.event = none := by
  refine ⟨?_, ?_⟩
  · rw [Die.phaseOver_result, h.get _ (by decide)]
    exact Die.get_set_of_lt _ hres
  · rw [Die.phaseOver_event, h.event]
    exact hevent

theorem Die.rejectEvent_over {res : Nat} (hres : res < 2 ^ F.CAL_RES_RESULT.width) :
    (x.rejectEvent res now).get F.CAL_RES_RESULT = res ∧ (x.rejectEvent res now).cal.event = none := by
  unfold Die.rejectEvent
  extract_lets y
  exact (Die.EventKept.cond <| .fire <| .count (by decide) <| .refl (y.set F.CAL_RES_RESULT res)).over rfl hres

theorem Die.calAbandon_over {x : Die} {e : CalEvent} (hevent : x.cal.event = some e) (harmed : e.armed = false) {res : Nat}
    (hres : res < 2 ^ F.CAL_RES_RESULT.width) (now : Nat) :
    (x.calAbandon res now).get F.CAL_RES_RESULT = res ∧ (x.calAbandon res now).cal.event = none := by
  have hended : (x.eventOver now).EventKept (if e.warm then (x.eventOver now).heaterOff else x.eventOver now) :=
    .ite (.heaterOff (.refl _)) (.refl _)
  have hnone : (if e.warm then (x.eventOver now).heaterOff else x.eventOver now).cal.event = none := hended.event
  unfold Die.calAbandon
  simp only [hevent, harmed, Bool.false_eq_true, if_false]
  exact (Die.EventKept.openAtOnce <| .fire <| .refl _).over hnone hres

/-- The arming of an accepted event's commit. -/
theorem Die.armEvent_kept (e : CalEvent) :
    ∃ y, x.EventKept y ∧ (x.armEvent e now = y ∨ x.armEvent e now = y.onEvent fun e => { e with armed := true }) := by
  unfold Die.armEvent
  split
  · exact ⟨x, .refl x, .inl rfl⟩
  · extract_lets based staged armed linked
    have hbased : x.EventKept based := .foldl (fun _ _ _ hz => .ite (.stageVal hz) hz) (.refl x)
    have harmed : x.EventKept armed :=
      .armPage (by decide) (by decide) <| .armPage (by decide) (by decide) <| .stageVal <| .stageVal hbased
    exact ⟨linked, .ite (.armPage (by decide) (by decide) <| .armPage (by decide) (by decide) harmed) harmed, .inr rfl⟩

theorem Die.acceptEvent_shown {e : CalEvent} (he : e.accepted = true) :
    (x.acceptEvent e now).get F.CAL_RES_RESULT = 1 ∧ (x.acceptEvent e now).get F.CAL_STATE_PHASE = 8 ∧
      (x.acceptEvent e now).cal.event.map (fun e => e.accepted) = some true := by
  unfold Die.acceptEvent
  generalize hy : ((((x.set F.CAL_RES_RESULT 1).count F.CAL_CNT_ACCEPTED).cond 328 false).set F.CAL_STATE_PHASE 8).onCal
    (fun c => { c with event := some e, rejects := 0 }) = y
  have hresult : y.get F.CAL_RES_RESULT = 1 := by
    have hkept : (x.set F.CAL_RES_RESULT 1).EventKept (((x.set F.CAL_RES_RESULT 1).count F.CAL_CNT_ACCEPTED).cond 328 false) :=
      .cond <| .count (by decide) <| .refl _
    rw [← hy, Die.onCal_get, Die.get_set_ne _ _ (by decide) (by decide), hkept.get _ (by decide), Die.get_set_self]
    rfl
  have hphase : y.get F.CAL_STATE_PHASE = 8 := by
    rw [← hy, Die.onCal_get, Die.get_set_self]
    rfl
  have hevent : y.cal.event = some e := by rw [← hy]; rfl
  obtain ⟨z, hkept, hz | hz⟩ := y.armEvent_kept now e
  all_goals
    rw [hz]
    refine ⟨?_, ?_, ?_⟩
  · rw [hkept.get _ (by decide), hresult]
  · rw [hkept.get _ (by decide), hphase]
  · rw [hkept.event, hevent, Option.map_some, he]
  · exact (hkept.get _ (by decide)).trans hresult
  · exact (hkept.get _ (by decide)).trans hphase
  · change (z.cal.event.map _).map _ = _
    rw [hkept.event, hevent, Option.map_some, Option.map_some, he]

end

/-- The result that PLANE_WRITER_DONE shows, and what has become of the event by it. -/
def Die.ResultShown (y : Die) : Prop :=
  y.get F.CAL_RES_RESULT ∈ [1, 2, 3, 4, 6] ∧
    (y.get F.CAL_RES_RESULT = 1 → y.get F.CAL_STATE_PHASE = 8 ∧ y.cal.event.map (fun e => e.accepted) = some true) ∧
    (y.get F.CAL_RES_RESULT ≠ 1 → y.cal.event = none)

theorem Die.Judged.resultShown {x z : Die} {now : Nat} {e : CalEvent} (h : x.Judged now z) (hevent : x.cal.event = some e)
    (harmed : e.armed = false) : z.ResultShown := by
  have hover : ∀ {z : Die} {res : Nat}, res ∈ [2, 3, 4, 6] → z.get F.CAL_RES_RESULT = res ∧ z.cal.event = none → z.ResultShown := by
    rintro z res hres ⟨hget, hnone⟩
    have hne : res ≠ 1 := by rintro rfl; simp at hres
    rw [Die.ResultShown, hget]
    exact ⟨List.mem_cons_of_mem 1 hres, fun h => absurd h hne, fun _ => hnone⟩
  cases h with
  | rejected y hres =>
    refine hover (List.mem_append_left [6] hres) (y.rejectEvent_over now ?_)
    exact (by decide : ∀ res ∈ [2, 3, 4], res < 2 ^ F.CAL_RES_RESULT.width) _ hres
  | changed y hkept => exact hover (by decide) (Die.calAbandon_over (hkept.event.trans hevent) harmed (by decide) now)
  | accepted y e he =>
    obtain ⟨hresult, hphase, haccepted⟩ := y.acceptEvent_shown now he
    rw [Die.ResultShown, hresult]
    exact ⟨by decide, fun _ => ⟨hphase, haccepted⟩, fun h => absurd rfl h⟩

theorem planeWriterDone_result {s : State} {d : DieId} (hr : s.running d) {e : CalEvent} (hjob : (s.die d).jobRuns 1 = true)
    (hevent : (s.die d).cal.event = some e) (hwriting : e.writing = true) (haccepted : e.accepted = false) (harmed : e.armed = false) :
    DieAnswers (.planeWriterDone d) d s Die.ResultShown := by
  obtain ⟨f, hf, hjudge⟩ := planeWriterDone_judges s d
  have hjudged : (s.fresh d).Judged s.now (f (s.env d) (s.fresh d)) := hjudge (s.env d) (s.fresh d) e hevent hwriting haccepted hjob
  have hshown := hjudged.resultShown hevent harmed
  refine dieAnswers_to hf hr rfl ?_
  rwa [Die.ResultShown, Die.settled_get, Die.settled_get, Die.settled_cal]

/-! ### BG_ESTIMATE (R150 to R152) -/

/-- The 512 words of an estimate used up. -/
def Die.wordsUsed (x : Die) : Die := x.onCal fun c => { c with words := c.words - 512 }

section
variable (x : Die) (k : Cal → Cal)

theorem Die.onCal_cal : (x.onCal k).cal = k x.cal := rfl
theorem Die.onCal_mbx : (x.onCal k).mbx = x.mbx := rfl
theorem Die.onCal_converts (c : Nat) : (x.onCal k).converts c = x.converts c := rfl
theorem Die.onCal_coreChecked (c ch core : Nat) : (x.onCal k).coreChecked c ch core = x.coreChecked c ch core := rfl
theorem Die.onCal_getS (f : Fld) : (x.onCal k).getS f = x.getS f := rfl
theorem Die.onCal_commitPending (p : Nat) : (x.onCal k).commitPending p = x.commitPending p := rfl

theorem Die.wordsUsed_ests : x.wordsUsed.cal.ests = x.cal.ests := by simp [Die.wordsUsed, Die.onCal_cal]
theorem Die.wordsUsed_trims : x.wordsUsed.cal.trims = x.cal.trims := by simp [Die.wordsUsed, Die.onCal_cal]
theorem Die.wordsUsed_mbx : x.wordsUsed.mbx = x.mbx := Die.onCal_mbx x _
theorem Die.wordsUsed_converts (c : Nat) : x.wordsUsed.converts c = x.converts c := Die.onCal_converts x _ c
theorem Die.wordsUsed_coreChecked (c ch core : Nat) : x.wordsUsed.coreChecked c ch core = x.coreChecked c ch core :=
  Die.onCal_coreChecked x _ c ch core
theorem Die.wordsUsed_getS (f : Fld) : x.wordsUsed.getS f = x.getS f := Die.onCal_getS x _ f
theorem Die.wordsUsed_commitPending (p : Nat) : x.wordsUsed.commitPending p = x.commitPending p := Die.onCal_commitPending x _ p

end

/-- BG_ESTIMATE where nothing is said of a spur. -/
theorem bgEstimate_run {s : State} {d : DieId} (ests : List BgEst) (hjob : (s.die d).jobRuns 1 = true)
    (hbg : (s.die d).on F.CAL_CTRL_BG_EN = true) (htakes : (s.die d).takes 0x28 = true) (hwords : 512 ≤ (s.die d).cal.words) :
    ∃ f, exec (.bgEstimate d ests []) s = onDie d s f ∧ f (s.env d) (s.fresh d) =
      (ests.foldl (fun y e => (y.chanEsts e).1.foldl (fun z t => z.judgeEst t) (y.chanEsts e).2) (s.fresh d).wordsUsed).armTrims := by
  refine ⟨_, rfl, if_pos ?_⟩
  rw [State.fresh_on, State.fresh_jobRuns, State.fresh_cal, hbg, hjob, show (s.fresh d).takes 0x28 = true from htakes,
    decide_eq_true hwords]
  rfl

theorem bgEstimate_waits {s : State} {d : DieId} (hr : s.running d)
    (h : (s.die d).cal.words < 512 ∨ (s.die d).on F.CAL_CTRL_BG_EN = false) :
    Effect (.bgEstimate d [] []) d s (fun y => (s.die d).only [] [] y) := by
  refine nothing_effect rfl hr (if_neg ?_)
  rw [State.fresh_on, State.fresh_cal]
  rcases h with h | h
  · simp [Nat.not_le.2 h]
  · simp [h]

section
variable {x : Die} {c ch : Nat}

/-- The estimate of a core's gain, and that of its offset, from its two sums. -/
def Die.gainFrom (x : Die) (c ch lo hi : Nat) : Int := nearestInt ((8192 + x.getS (F.CLU_CTRIM0_GAIN c ch)) * bgSpan) (hi - lo) - 8192
def Die.offsetFrom (x : Die) (c ch lo hi : Nat) : Int :=
  nearestInt ((256 * (x.getS (F.CLU_CTRIM0_OFFSET c ch) + 32768) - (lo + hi)) * 24576) (hi - lo)

theorem Die.wordsUsed_gainFrom (lo hi : Nat) : x.wordsUsed.gainFrom c ch lo hi = x.gainFrom c ch lo hi := by
  simp only [Die.gainFrom, Die.wordsUsed_getS]

theorem Die.wordsUsed_offsetFrom (lo hi : Nat) : x.wordsUsed.offsetFrom c ch lo hi = x.offsetFrom c ch lo hi := by
  simp only [Die.offsetFrom, Die.wordsUsed_getS]

theorem Die.coreEsts_measured {lo hi : Nat} (h : lo < hi) : x.coreEsts c ch 0 (lo, hi) =
    ([{ clu := c, ch := ch, kind := 0, est := x.gainFrom c ch lo hi }, { clu := c, ch := ch, kind := 1, est := x.offsetFrom c ch lo hi }],
      x) := by
  have hd : ¬ ((hi : Int) - lo ≤ 0) := by omega
  simp [Die.coreEsts, hd, Die.gainFrom, Die.offsetFrom, F.bgTrim]

theorem Die.chanEsts_core {lo hi : Nat} (hconv : x.converts c = true) (hch : ch < 17) (hcore : x.coreChecked c ch 0 = true)
    (h : lo < hi) : x.chanEsts { clu := c, ch := ch, core0 := some (lo, hi) } =
      ([{ clu := c, ch := ch, kind := 0, est := x.gainFrom c ch lo hi }, { clu := c, ch := ch, kind := 1, est := x.offsetFrom c ch lo hi }],
        x) := by
  simp [Die.chanEsts, hconv, hch, hcore, Die.coreEsts_measured h]

theorem Die.chanEsts_skew {v : Int} (hconv : x.converts c = true) (hch : ch < 17) (h0 : x.coreChecked c ch 0 = true)
    (h1 : x.coreChecked c ch 1 = true) : x.chanEsts { clu := c, ch := ch, skew := some v } =
      ([{ clu := c, ch := ch, kind := 4, est := x.getS (F.bgTrim c ch 4) - nearestInt v 512 }], x) := by
  simp [Die.chanEsts, hconv, hch, h0, h1]

/-- An estimate without a predecessor is kept. -/
theorem Die.judgeEst_first {e : TrimEst} (h : assocGet x.cal.ests (F.bgTrim e.clu e.ch e.kind).key = none) :
    x.judgeEst e = x.onCal fun c => { c with ests := assocPut c.ests (F.bgTrim e.clu e.ch e.kind).key e.est } := by
  simp [Die.judgeEst, h]

/-- An estimate that is its predecessor moves its trim. -/
theorem Die.judgeEst_same {e : TrimEst} (h : assocGet x.cal.ests (F.bgTrim e.clu e.ch e.kind).key = some e.est) :
    ∃ k : Cal → Cal, (∀ c, (k c).trims = c.trims) ∧ x.judgeEst e = (x.onCal k).moveTrim e (e.est + e.est) := by
  refine ⟨fun c => { c with ests := assocPut c.ests (F.bgTrim e.clu e.ch e.kind).key e.est,
                            disagree := c.disagree.put (F.bgTrim e.clu e.ch e.kind).key 0 }, fun _ => rfl, ?_⟩
  simp [Die.judgeEst, h]
  rfl

theorem Die.armTrims_none (h : x.cal.trims = []) : x.armTrims = x := by simp [Die.armTrims, h]

end

section
variable {x : Die} {lo hi : Nat}

/-- A core's two estimates kept where there were none. -/
theorem Die.judgeEst_both {c ch : Nat} {gain offset : Int} (hests : x.cal.ests = [])
    (hne : (F.bgTrim c ch 0).key ≠ (F.bgTrim c ch 1).key) :
    (x.judgeEst { clu := c, ch := ch, kind := 0, est := gain }).judgeEst { clu := c, ch := ch, kind := 1, est := offset } =
      x.onCal fun k => { k with ests := [((F.bgTrim c ch 1).key, offset), ((F.bgTrim c ch 0).key, gain)] } := by
  rw [Die.judgeEst_first (x := x) (by rw [hests]; rfl), Die.judgeEst_first (by simp [Die.onCal, hests, assocPut, assocGet, hne])]
  simp [Die.onCal, hests, assocPut, hne]

/-- What BG_ESTIMATE makes of the first sums of core 0 of cluster 1's channel 2. -/
theorem Die.firstEstimates (hconv : x.converts 1 = true) (hcore : x.coreChecked 1 2 0 = true) (h : lo < hi) (hests : x.cal.ests = [])
    (htrims : x.cal.trims = []) :
    ([{ clu := 1, ch := 2, core0 := some (lo, hi) }].foldl
      (fun y e => (y.chanEsts e).1.foldl (fun z t => z.judgeEst t) (y.chanEsts e).2) x.wordsUsed).armTrims =
      x.wordsUsed.onCal fun c => { c with ests := [((F.bgTrim 1 2 1).key, x.offsetFrom 1 2 lo hi),
        ((F.bgTrim 1 2 0).key, x.gainFrom 1 2 lo hi)] } := by
  have hchan : x.wordsUsed.chanEsts { clu := 1, ch := 2, core0 := some (lo, hi) } =
      ([{ clu := 1, ch := 2, kind := 0, est := x.gainFrom 1 2 lo hi }, { clu := 1, ch := 2, kind := 1, est := x.offsetFrom 1 2 lo hi }],
        x.wordsUsed) := by
    rw [Die.chanEsts_core (by rw [Die.wordsUsed_converts, hconv]) (by decide) (by rw [Die.wordsUsed_coreChecked, hcore]) h,
      Die.wordsUsed_gainFrom, Die.wordsUsed_offsetFrom]
  rw [List.foldl_cons, List.foldl_nil, hchan, List.foldl_cons, List.foldl_cons, List.foldl_nil,
    Die.judgeEst_both (by rw [Die.wordsUsed_ests, hests]) (by decide)]
  refine Die.armTrims_none ?_
  simp [Die.wordsUsed, Die.onCal_cal, htrims]

end

theorem bgEstimate_first {s : State} {d : DieId} (hr : s.running d) {lo hi : Nat} (hjob : (s.die d).jobRuns 1 = true)
    (hbg : (s.die d).on F.CAL_CTRL_BG_EN = true) (htakes : (s.die d).takes 0x28 = true) (hwords : 512 ≤ (s.die d).cal.words)
    (hconv : (s.die d).converts 1 = true) (hcore : (s.die d).coreChecked 1 2 0 = true) (hlt : lo < hi)
    (hests : (s.die d).cal.ests = []) (htrims : (s.die d).cal.trims = []) :
    Effect (.bgEstimate d [{ clu := 1, ch := 2, core0 := some (lo, hi) }] []) d s (fun y => y.cal =
      { (s.die d).cal with words := (s.die d).cal.words - 512,
                           ests := [((F.bgTrim 1 2 1).key, (s.die d).offsetFrom 1 2 lo hi),
                             ((F.bgTrim 1 2 0).key, (s.die d).gainFrom 1 2 lo hi)] } ∧
      ({ s.die d with cal := y.cal } : Die).only [] [] y) := by
  have hall : (s.fresh d).OnCal [] [] ((s.fresh d).wordsUsed.onCal fun c =>
      { c with ests := [((F.bgTrim 1 2 1).key, (s.fresh d).offsetFrom 1 2 lo hi),
        ((F.bgTrim 1 2 0).key, (s.fresh d).gainFrom 1 2 lo hi)] }) := .onCal <| .onCal <| .refl _ _ _
  obtain ⟨f, hf, hrun⟩ := bgEstimate_run (s := s) (d := d) [{ clu := 1, ch := 2, core0 := some (lo, hi) }] hjob hbg htakes hwords
  refine calibration_effect hf hr (hrun.trans (Die.firstEstimates (x := s.fresh d) hconv hcore hlt hests htrims)) hall
    ⟨?_, hall.settled_only ?_⟩
  · rw [Die.settled_cal, Die.onCal_cal, Die.wordsUsed, Die.onCal_cal]
    rfl
  · rw [Die.onCal_mbx, Die.wordsUsed_mbx, State.fresh_mbx]

/-! ### Two skews that agree (R151, R152) -/

theorem ofSigned_mod (w : Nat) (i : Int) : ofSigned w i % 2 ^ w = ofSigned w i := by
  have hpos : (0 : Int) < ((2 ^ w : Nat) : Int) := by positivity
  have hlt := Int.emod_lt_of_pos i hpos
  have hnn := Int.emod_nonneg i hpos.ne'
  exact Nat.mod_eq_of_lt (by unfold ofSigned; omega)

theorem neg_le_toSigned {w : Nat} (hw : 0 < w) (v : Nat) : -((2 ^ (w - 1) : Nat) : Int) ≤ toSigned w v := by
  obtain ⟨n, rfl⟩ : ∃ n, w = n + 1 := ⟨w - 1, by omega⟩
  have hpow : 2 ^ (n + 1) = 2 * 2 ^ n := by ring
  have hcast : (v : Int) % 2 ^ (n + 1) = ((v % 2 ^ (n + 1) : Nat) : Int) := by push_cast; rfl
  rw [toSigned, Nat.add_sub_cancel, hcast, hpow]
  split <;> omega

section
variable {x : Die}

/-- A trim moves one code up towards estimates that lie above it. -/
theorem Die.moveTrim_up {c ch kind : Nat} {est sum : Int} (hwidth : 0 < (F.bgTrim c ch kind).width)
    (hup : 2 * x.getS (F.bgTrim c ch kind) < sum)
    (hroom : x.getS (F.bgTrim c ch kind) < (2 ^ ((F.bgTrim c ch kind).width - 1) : Nat) - 1) :
    x.moveTrim { clu := c, ch := ch, kind := kind, est := est } sum =
      x.onCal fun k => { k with trims := k.trims ++ [(c, ch, kind, x.getS (F.bgTrim c ch kind) + 1)] } := by
  have hlow : -((2 ^ ((F.bgTrim c ch kind).width - 1) : Nat) : Int) ≤ x.getS (F.bgTrim c ch kind) := neg_le_toSigned hwidth _
  unfold Die.moveTrim
  extract_lets f w v
  have hv : v = x.getS f + 1 := by
    change clampI (-((2 ^ ((F.bgTrim c ch kind).width - 1) : Nat) : Int)) ((2 ^ ((F.bgTrim c ch kind).width - 1) : Nat) - 1)
      (stepTowards (x.getS (F.bgTrim c ch kind)) sum) = x.getS (F.bgTrim c ch kind) + 1
    rw [stepTowards, if_pos hup, clampI]
    omega
  rw [if_neg (by omega), hv]

/-- The one trim that waits is staged, and the cluster's commit armed. -/
theorem Die.armTrims_one {c ch kind : Nat} {v : Int} (htrims : x.cal.trims = [(c, ch, kind, v)])
    (hfree : x.commitPending (0x80 + c) = false) : ∃ k : Cal → Cal, x.armTrims =
      (((x.stageVal (F.bgTrim c ch kind) (ofSigned (F.bgTrim c ch kind).width v)).onCal k).gangArm).showBg := by
  refine ⟨fun k => { k with trims := k.trims.filter (fun t => x.commitPending (0x80 + t.1)), recordDue := true }, ?_⟩
  simp [Die.armTrims, htrims, hfree]

theorem Die.gangArm_stage (x : Die) : x.gangArm.stage = x.stage :=
  foldl_keeps Die.stage (g := Die.gangArmPage) (fun z c _ => by unfold Die.gangArmPage; split <;> rfl) x

theorem Die.showBg_shown (x : Die) : ∃ k : Cal → Cal, ∃ b, x.showBg = (x.onCal k).setB F.CAL_STATE_BG_IDLE b := by
  unfold Die.showBg
  split
  · exact ⟨fun c => c, _, rfl⟩
  · exact ⟨_, _, rfl⟩

/-- A trim staged and armed is what its field is written with, and its cluster's commit is pending. -/
theorem Die.armTrims_written {c ch kind : Nat} {v : Int} (htrims : x.cal.trims = [(c, ch, kind, v)])
    (hfree : x.commitPending (0x80 + c) = false) (huse : x.cluInUse c = true)
    (hne : F.CAL_STATE_BG_IDLE.key ≠ (F.COMMIT_STAT_PENDING (0x80 + c)).key) :
    x.armTrims.written (F.bgTrim c ch kind) = ofSigned (F.bgTrim c ch kind).width v ∧
      x.armTrims.commitPending (0x80 + c) = true := by
  obtain ⟨k, harm⟩ := Die.armTrims_one htrims hfree
  generalize hstaged : (x.stageVal (F.bgTrim c ch kind) (ofSigned (F.bgTrim c ch kind).width v)).onCal k = y at harm
  obtain ⟨k', b, hshow⟩ := y.gangArm.showBg_shown
  rw [harm, hshow]
  refine ⟨?_, ?_⟩
  · have hstage : (((y.gangArm.onCal k').setB F.CAL_STATE_BG_IDLE b).stage).look (F.bgTrim c ch kind) =
        some (ofSigned (F.bgTrim c ch kind).width v) := by
      change y.gangArm.stage.look _ = _
      rw [Die.gangArm_stage, ← hstaged]
      change (x.stage.put _ _).look _ = _
      rw [RegFile.look_put_self, ofSigned_mod]
    rw [Die.written, hstage, Option.getD_some]
  · have harmed := congrArg Prod.fst (y.gangArm_arms (k := c) (by rw [← hstaged]; exact huse) (by rw [← hstaged]; exact hfree))
    rw [Die.commitPending, Die.setB, Die.on_set_ne _ _ hne (by decide)]
    exact harmed

/-- What BG_ESTIMATE makes of a second estimate of the skew of cluster 1's channel 2 that is the first one again. -/
theorem Die.secondSkew {v : Int} (hconv : x.converts 1 = true) (h0 : x.coreChecked 1 2 0 = true) (h1 : x.coreChecked 1 2 1 = true)
    (hests : x.cal.ests = [((F.bgTrim 1 2 4).key, x.getS (F.bgTrim 1 2 4) - nearestInt v 512)]) (htrims : x.cal.trims = [])
    (hneg : nearestInt v 512 < 0) (hroom : x.getS (F.bgTrim 1 2 4) < 31) (hfree : x.commitPending 0x81 = false) {y : Die}
    (hy : ([{ clu := 1, ch := 2, skew := some v }].foldl
      (fun y e => (y.chanEsts e).1.foldl (fun z t => z.judgeEst t) (y.chanEsts e).2) x).armTrims = y) :
    y.written (F.bgTrim 1 2 4) = ofSigned 6 (x.getS (F.bgTrim 1 2 4) + 1) ∧ y.commitPending 0x81 = true := by
  obtain ⟨k, hk, hjudge⟩ := Die.judgeEst_same (x := x)
    (e := { clu := 1, ch := 2, kind := 4, est := x.getS (F.bgTrim 1 2 4) - nearestInt v 512 }) (by simp [hests, assocGet])
  have hmove := Die.moveTrim_up (x := x.onCal k) (c := 1) (ch := 2) (kind := 4) (est := x.getS (F.bgTrim 1 2 4) - nearestInt v 512)
    (sum := x.getS (F.bgTrim 1 2 4) - nearestInt v 512 + (x.getS (F.bgTrim 1 2 4) - nearestInt v 512)) (by decide)
    (by change 2 * x.getS (F.bgTrim 1 2 4) < _; omega) hroom
  have huse : x.cluInUse 1 = true := by
    simp only [Die.converts, Bool.and_eq_true] at hconv
    exact hconv.1.1
  rw [List.foldl_cons, List.foldl_nil, Die.chanEsts_skew hconv (by decide) h0 h1, List.foldl_cons, List.foldl_nil, hjudge, hmove] at hy
  rw [← hy]
  refine Die.armTrims_written (c := 1) (ch := 2) (kind := 4) ?_ hfree huse (by decide)
  rw [Die.onCal_cal, Die.onCal_cal, hk, htrims]
  rfl

end

theorem bgEstimate_moves {s : State} {d : DieId} (hr : s.running d) {v : Int} (hjob : (s.die d).jobRuns 1 = true)
    (hbg : (s.die d).on F.CAL_CTRL_BG_EN = true) (htakes : (s.die d).takes 0x28 = true) (hwords : 512 ≤ (s.die d).cal.words)
    (hconv : (s.die d).converts 1 = true) (h0 : (s.die d).coreChecked 1 2 0 = true) (h1 : (s.die d).coreChecked 1 2 1 = true)
    (hests : (s.die d).cal.ests = [((F.bgTrim 1 2 4).key, (s.die d).getS (F.CLU_SKEW_SKEW 1 2) - nearestInt v 512)])
    (htrims : (s.die d).cal.trims = []) (hneg : nearestInt v 512 < 0) (hroom : (s.die d).getS (F.CLU_SKEW_SKEW 1 2) < 31)
    (hfree : (s.die d).commitPending 0x81 = false) :
    DieAnswers (.bgEstimate d [{ clu := 1, ch := 2, skew := some v }] []) d s (fun y => y.written (F.CLU_SKEW_SKEW 1 2) =
      ofSigned 6 ((s.die d).getS (F.CLU_SKEW_SKEW 1 2) + 1) ∧ y.commitPending 0x81 = true) := by
  obtain ⟨f, hf, hrun⟩ := bgEstimate_run (s := s) (d := d) [{ clu := 1, ch := 2, skew := some v }] hjob hbg htakes hwords
  have hskew := Die.secondSkew (x := (s.fresh d).wordsUsed) (v := v)
    (by rw [Die.wordsUsed_converts]; exact hconv) (by rw [Die.wordsUsed_coreChecked]; exact h0)
    (by rw [Die.wordsUsed_coreChecked]; exact h1)
    (by rw [Die.wordsUsed_ests, Die.wordsUsed_getS]; exact hests) (by rw [Die.wordsUsed_trims]; exact htrims) hneg
    (by rw [Die.wordsUsed_getS]; exact hroom) (by rw [Die.wordsUsed_commitPending]; exact hfree) rfl
  rw [← hrun, Die.wordsUsed_getS] at hskew
  exact dieAnswers_to hf hr rfl hskew

/-! ### CAL_RECORD_WRITE and REC_SAVED (R181) -/

/-- The record begun, in the slot not written last. -/
theorem Die.beginRecord_requests (x : Die) : ∃ l r, x.beginRecord =
    (x.nvsRequests (l ++ [r])).onCal fun c => { c with record := some (x.nvs.nextSlotOf true), recordDue := false } := by
  obtain ⟨l, r, hset, -⟩ := Die.writeSet_requests x true 4 (x.nvs.nextSlotOf true).1 (x.nvs.nextSlotOf true).2 x.recordBody107 .none
  refine ⟨l, r, ?_⟩
  rw [← hset]
  rfl

theorem Die.only_cal {x y : Die} {L : List Fld} {E : List Nat} (h : x.only L E y) (v : Cal) :
    ({ x with cal := v } : Die).only L E { y with cal := v } :=
  ⟨congrArg (fun z : Die => { z with cal := v }) h.1, h.2⟩

/-- Requests of the Seed Tray and a change of the calibration's own state leave the registers and the rest of the die. -/
theorem requested_only (s : State) (d : DieId) (l : List NvsReq) (k : Cal → Cal) :
    ({ s.die d with cal := (((s.fresh d).nvsRequests l).onCal k).settled.cal,
                    nvs := (((s.fresh d).nvsRequests l).onCal k).settled.nvs } : Die).only [] []
      (((s.fresh d).nvsRequests l).onCal k).settled :=
  Die.only_settled (Die.only_cal (Die.only_nvs (Die.only_fresh s d [] []) _) _)

section
variable {s : State} {d : DieId} (hr : s.running d)
include hr

theorem calRecordWrite_effect (hjob : (s.die d).jobRuns 1 = true) (htakes : (s.die d).takes 0x28 = true)
    (hdue : (s.die d).recordDue s.now = true) (hidle : (s.die d).cal.record = none) (hnvs : (s.die d).nvsHalted = false)
    (hread : (s.die d).canRead 320 256 = true) :
    Effect (.calRecordWrite d) d s (fun y => y.cal =
      { (s.die d).cal with record := some ((s.die d).nvs.nextSlotOf true), recordDue := false, recordAt := some s.now } ∧
      (s.die d).nvs.queue.length < y.nvs.queue.length ∧
      ({ s.die d with cal := y.cal, nvs := y.nvs } : Die).only [] [] y) := by
  obtain ⟨l, r, hbegin⟩ := (s.fresh d).beginRecord_requests
  have hgo : ((s.fresh d).jobRuns 1 && (s.fresh d).takes 0x28 && (s.fresh d).recordDue (s.env d).now && (s.fresh d).cal.record.isNone &&
      !(s.fresh d).nvsHalted && (s.fresh d).canRead 320 256) = true := by
    rw [State.fresh_jobRuns, State.fresh_cal, State.env_now, hjob, hidle, show (s.fresh d).takes 0x28 = true from htakes,
      show (s.fresh d).recordDue s.now = true from hdue, show (s.fresh d).nvsHalted = false from hnvs,
      show (s.fresh d).canRead 320 256 = true from hread]
    rfl
  have hrun : (s.fresh d).beginRecord.onCal (fun c => { c with recordAt := some s.now }) =
      ((s.fresh d).nvsRequests (l ++ [r])).onCal fun c =>
        { c with record := some ((s.die d).nvs.nextSlotOf true), recordDue := false, recordAt := some s.now } := by
    rw [hbegin]
    rfl
  refine effect_to rfl hr ((if_pos hgo).trans hrun) rfl rfl ⟨?_, ?_, requested_only s d (l ++ [r]) _⟩
  · rw [Die.settled_cal, Die.onCal_cal]
    rfl
  · change (s.die d).nvs.queue.length < ((s.die d).nvs.queue ++ (l ++ [r])).length
    simp only [List.length_append, List.length_singleton]
    omega

theorem calRecordWrite_waits (hdue : (s.die d).recordDue s.now = false) :
    Effect (.calRecordWrite d) d s (fun y => (s.die d).only [] [] y) := by
  refine nothing_effect rfl hr (if_neg ?_)
  rw [show (s.fresh d).recordDue (s.env d).now = false from hdue]
  simp

end

/-- A record shown to be saved, in its slot and with its generation. -/
def Die.recordShown (x : Die) (slot gen : Nat) : Die :=
  (((x.onCal fun c => { c with record := none, recordMbx := false }).set F.CAL_REC_SLOT slot).set F.CAL_REC_GEN gen).fire 332

theorem recSaved_effect {s : State} {d : DieId} (hr : s.running d) {slot gen : Nat} (hrecord : (s.die d).cal.record = some (slot, gen))
    (hmbx : (s.die d).cal.recordMbx = false) (hvalid : leAt ((s.die d).nvs.logical (slotPage true slot)) 3 1 = 2)
    (hgen : (s.die d).nvs.slotGen true slot = gen) :
    Effect (.recSaved d) d s (fun y => y.cal.record = none ∧ y.get F.CAL_REC_SLOT = slot % 2 ^ F.CAL_REC_SLOT.width ∧
      y.get F.CAL_REC_GEN = gen % 2 ^ F.CAL_REC_GEN.width ∧ y.pends 332 = true ∧
      ({ s.die d with cal := y.cal } : Die).only [F.CAL_REC_SLOT, F.CAL_REC_GEN] [332] y) := by
  have hall : (s.fresh d).OnCal [F.CAL_REC_SLOT, F.CAL_REC_GEN] [332] ((s.fresh d).recordShown slot gen) :=
    .fire (by simp) <| .set (by simp) <| .set (by simp) <| .onCal <| .refl _ _ _
  refine calibration_effect (y := (s.fresh d).recordShown slot gen) rfl hr ?_ hall ⟨?_, ?_, ?_, ?_, hall.settled_only ?_⟩
  · simp only [State.fresh_cal, State.fresh_nvs, hrecord, hvalid, hgen, hmbx]
    rfl
  · rw [Die.settled_cal, Die.recordShown, Die.fire_cal]
    rfl
  · rw [Die.settled_get, Die.recordShown, Die.fire_get _ _ (by decide), Die.get_set_ne _ _ (by decide) (by decide), Die.get_set_self]
  · rw [Die.settled_get, Die.recordShown, Die.fire_get _ _ (by decide), Die.get_set_self]
  · rw [Die.settled_pends, Die.recordShown, Die.fire_pends _ (by decide)]
  · rw [Die.recordShown, Die.fire_mbx]
    rfl

/-! ### STAGGER_REQUEST and STAGGER_GRANT (R183, R184) -/

/-- A second part that changes no die does nothing to the die that a command reaches second. -/
theorem whileRunning_same {g : Env → Die → Die} (hg : ∀ env x, g env x = x) (env : Env) (x : Die) : whileRunning g env x = x := by
  unfold whileRunning
  rw [hg, ite_self]

section
variable {s : State} {d : DieId} (hr : s.running d)
include hr

theorem staggerRequest_enters {who : DieId} {reason : Nat} (harb : (s.die d).arbitrates (s.die d.other) = true)
    (hgroup : (s.die d).inGroup (s.die d.other) false who = true) (hreason : reason ≠ 0) (hnone : (s.die d).cal.requests = []) :
    Effect (.staggerRequest d false who reason) d s (fun y => y.cal =
      { (s.die d).cal with requests := [{ partner := false, die := who, reason := reason, came := s.now }] } ∧
      ({ s.die d with cal := y.cal } : Die).only [] [] y) := by
  have hall : (s.fresh d).OnCal [] [] ((s.fresh d).onCal fun c =>
      { c with requests := [{ partner := false, die := who, reason := reason, came := s.now }] }) := .onCal (.refl _ _ _)
  refine calibration_effect rfl hr ?_ hall ⟨rfl, hall.settled_only rfl⟩
  simp [harb, hgroup, hreason, hnone, Die.onCal, dropRequest]

theorem staggerRequest_withdraws {who : DieId} (harb : (s.die d).arbitrates (s.die d.other) = true) :
    Effect (.staggerRequest d false who 0) d s (fun y => y.cal =
      { (s.die d).cal with requests := dropRequest (s.die d).cal.requests false who } ∧
      ({ s.die d with cal := y.cal } : Die).only [] [] y) := by
  have hall : (s.fresh d).OnCal [] [] ((s.fresh d).onCal fun c => { c with requests := dropRequest c.requests false who }) :=
    .onCal (.refl _ _ _)
  refine calibration_effect rfl hr ?_ hall ⟨rfl, hall.settled_only rfl⟩
  simp [harb]

theorem staggerGrant_arrives (hrole : (s.die d).pairRole = 2) (hin : (s.die d).partnerIn (s.die d.other) = true)
    (hbars : (s.die d).pairBars (s.die d.other) = false) (hwait : (s.die d).on F.CAL_PAIR_WAIT = true) :
    Effect (.staggerGrant d true) d s (fun y => y.on F.CAL_PAIR_GRANT = true ∧ (s.die d).only [F.CAL_PAIR_GRANT] [] y) := by
  have hall : (s.fresh d).OnCal [F.CAL_PAIR_GRANT] [] ((s.fresh d).set F.CAL_PAIR_GRANT 1) := .set (by simp) (.refl _ _ _)
  refine calibration_effect (onBoth_alone (whileRunning_same (fun _ _ => rfl) _ _)) hr ?_ hall ⟨?_, hall.settled_only_same rfl rfl⟩
  · simp [hin, hbars, hwait, show (s.fresh d).pairRole = 2 from hrole]
  · rw [Die.settled_on, Die.on_set_self]
    rfl

theorem staggerGrant_gives {r : StaggerReq} (hmay : (s.die d).mayGrant (s.die d.other) s.now = true)
    (hlive : (s.die d).liveRequests (s.die d.other) (s.die d).cal.requests = [r]) (hown : r.partner = false) (hdie : r.die = d) :
    Effect (.staggerGrant d false) d s (fun y => y.on F.CAL_PAIR_GRANT = true ∧
      y.cal = { (s.die d).cal with holder := some r, requests := [] } ∧
      ({ s.die d with cal := y.cal } : Die).only [F.CAL_PAIR_GRANT] [] y) := by
  have hall : (s.fresh d).OnCal [F.CAL_PAIR_GRANT] [] (((s.fresh d).onCal fun c => { c with holder := some r, requests := [] }).set
      F.CAL_PAIR_GRANT 1) := .set (by simp) (.onCal (.refl _ _ _))
  have hnext : (if !false && !(s.die d).inReset && (s.die d).mayGrant (s.die d.other) s.now then
      staggerFirst ((s.die d).liveRequests (s.die d.other) (s.die d).cal.requests) else none) = some r := by
    rw [hr.2, hmay, hlive]
    rfl
  refine calibration_effect (onBoth_alone (whileRunning_same (fun env x => ?_) _ _)) hr ?_ hall ⟨?_, rfl, hall.settled_only rfl⟩
  · rw [hnext]
    simp [hown, hdie]
  · dsimp only
    rw [hnext]
    simp [hr.2, hmay, hlive, hown, hdie]
  · rw [Die.settled_on, Die.on_set_self]
    rfl

theorem staggerGrant_waits (hmay : (s.die d).mayGrant (s.die d.other) s.now = false) :
    Effect (.staggerGrant d false) d s (fun y => (s.die d).only [] [] y) := by
  refine nothing_effect (onBoth_alone (whileRunning_same (fun env x => ?_) _ _)) hr ?_
  · simp [hmay]
  · simp [hmay]

end

/-! ### STAGGER_RELEASE (R183) -/

/-- What reaches the other die leaves this one. -/
theorem State.reach_other_die (s : State) (d : DieId) (g : Env → Die → Die) : (s.reach d.other g).die d = s.die d := by
  unfold State.reach
  split
  · rfl
  · cases d <;> rfl

/-- A running die answers a command on it that reaches the other die as well. -/
theorem dieAnswers_both {c : Instr} {s : State} {d : DieId} {f g : Env → Die → Die} {P : Die → Prop} {y : Die}
    (hc : exec c s = onBoth d s f g) (hr : s.running d) (hy : f (s.env d) (s.fresh d) = y) (h : P y.settled) : DieAnswers c d s P := by
  subst hy
  have hdie : (s.runOn d f).die d = (f (s.env d) (s.fresh d)).settled := by simp [hr.2, State.settle]
  refine ⟨_, hc.trans (if_pos hr.1), ?_⟩
  dsimp only
  split
  · rwa [State.reach_other_die, hdie]
  · rwa [hdie]

theorem Die.grantBack_cases (x : Die) (d : DieId) (now : Nat) : ∃ k : Cal → Cal, x.grantBack d now = x.onCal k := by
  unfold Die.grantBack Die.takeBack
  split
  · exact ⟨_, rfl⟩
  · exact ⟨fun c => c, rfl⟩

theorem staggerRelease_gives {s : State} {d : DieId} (hr : s.running d) (hgrant : (s.die d).on F.CAL_PAIR_GRANT = true)
    (hopen : (s.die d).openRest = true) :
    DieAnswers (.staggerRelease d) d s (fun y => y.on F.CAL_PAIR_GRANT = false ∧ .staggerRelease d ∈ y.out ∧
      ({ s.die d with cal := y.cal } : Die).only [F.CAL_PAIR_GRANT] [] y) := by
  obtain ⟨k, hk⟩ := ((s.fresh d).set F.CAL_PAIR_GRANT 0).grantBack_cases d s.now
  have hdue : ((s.die d).on F.CAL_PAIR_GRANT && (s.die d).openRest && !(s.die d).inReset) = true := by
    rw [hgrant, hopen, hr.2]
    rfl
  have hall : (s.fresh d).OnCal [F.CAL_PAIR_GRANT] [] (((((s.fresh d).set F.CAL_PAIR_GRANT 0).onCal k)).send (.staggerRelease d)) :=
    .send <| .onCal <| .set (by simp) <| .refl _ _ _
  refine dieAnswers_both rfl hr ((if_pos hdue).trans (congrArg (Die.send · (.staggerRelease d)) hk)) ⟨?_, ?_, hall.settled_only rfl⟩
  · rw [Die.settled_on, Die.send_on, Die.onCal_on, Die.on_set_self]
    rfl
  · rw [Die.settled_out, Die.send_out]
    exact List.mem_append_right _ (List.mem_singleton_self _)

/-- Settles O31, clause by clause: each command's lemma says what the statement asks of it, and the two reasons for an
event that falls due are the two readings of its list of reasons. -/
theorem calibration : Obligations.Calibration := by
  unfold Obligations.Calibration
  rintro s d first e v who reason slot gen r x hr rfl
  refine ⟨?_, ?_, ?_, ?_, ?_, ?_, ?_, ?_, ?_, ?_, ?_, ?_, ?_, ?_, ?_, ?_, ?_, ?_, ?_⟩
  · intro hjob hen hauto hage hhost hevent hphase hfirst
    exact calTimerDue_effect hr hjob hfirst (Die.calReasons_first hen hauto hage hhost hfirst)
      (by decide) (by decide) hevent hphase
  · intro hjob hen hauto hage hhost hevent hphase hfirst hdrift hinterval
    exact calTimerDue_effect hr hjob (decide_eq_true hinterval)
      (Die.calReasons_interval hen hauto hage hhost hfirst hdrift hinterval) (by decide) (by decide) hevent hphase
  · exact calTimerDue_waits hr
  · exact deferTimeout_effect hr
  · exact shutterEventStart_begins hr
  · exact shutterEventStart_misses hr
  · exact planeWriterDone_result hr
  · intro lo hi
    exact bgEstimate_first hr
  · exact bgEstimate_moves hr
  · exact bgEstimate_waits hr
  · exact calRecordWrite_effect hr
  · exact calRecordWrite_waits hr
  · exact recSaved_effect hr
  · exact staggerRequest_enters hr
  · exact staggerRequest_withdraws hr
  · exact staggerGrant_arrives hr
  · exact staggerGrant_gives hr
  · exact staggerGrant_waits hr
  · exact staggerRelease_gives hr

end Sys2Proof.Machine

/-! Statements on the camera inputs and the transmit port that fail in this model: the state and the command that refute each. -/

namespace Sys2Proof.Machine

/-! ### A count of CRC errors that is full (O32) -/

/-- Die A's camera port 0 is enabled, and its count of CRC errors, of eight bits, is at its largest value. -/
def crcCountFull : State :=
  { dieA := (({} : Die).set (F.CTRL_EN (csiPage 0)) 1).set (F.CSI_ERR_CNT_CRC 0) 255 }

theorem crcCountFull_badCrc :
    afterOnDieA (fun y => y.get (F.CSI_ERR_CNT_CRC 0)) (exec (.csiLongPacket .a 0 0 0x2A [] .clean false) crcCountFull) =
      some 255 := by
  decide +kernel

/-- Refutes O32: its clause of a bad CRC says that a count below 1023 rises, and CSI_ERR_CNT.CRC saturates at 255 (R189): a packet
with a bad CRC that finds it there leaves it there. -/
theorem not_cameraPackets : ¬ Obligations.CameraPackets := by
  unfold Obligations.CameraPackets
  intro h
  obtain ⟨-, -, -, -, -, -, -, hcrc, -⟩ := h crcCountFull .a 0 0 0 0x2A 0 [] { num := 0 } _ (by decide) rfl
  obtain ⟨t, ht, -, -, hrise, -⟩ := hcrc (by decide)
  have heval := crcCountFull_badCrc
  rw [ht, afterOnDieA_next] at heval
  exact absurd ((hrise (by decide)).symm.trans (Option.some.inj heval)) (by decide)

/-! ### A frame sent while its event is enabled (O33) -/

/-- A display frame of one line of one pixel, which the transmit port sends. -/
def sentFrame : VtxFrame := { ctx := 1, num := 9, buf := 9, frame := { num := 9 } }

/-- The buffer of that frame in the output store, complete. -/
def sentBuf : OutBuf :=
  { ctx := 1, out := 0, k := 0, num := 9, bytes := [7], width := 1, height := 1, stride := 1, complete := true }

/-- Die A's transmit port is enabled and sends a frame that is whole in the store, and event 537 is enabled and its vector not
masked (R39). -/
def sentEventEnabled : State :=
  { dieA := { ((({} : Die).set (F.CTRL_EN 0x47) 1).onIpp fun i => { i with vtx := some sentFrame, bufs := [sentBuf] }) with
              evEn := BitVec.twoPow 640 537, msixMask := 0 } }

theorem sentEventEnabled_frameSent :
    afterOnDieA Die.out (exec (.frameSent .a) sentEventEnabled) = some [.vtxLines 0x2A 0 [[7]], .msix 6] := by
  decide +kernel

/-- Refutes O33: its clause of the lines that FRAME_SENT sends says that the die sends nothing else. Event 537, which the same
clause names, tells the host with an MSI-X message where it is enabled (R39), and that message follows the lines. -/
theorem not_pipelineUnits : ¬ Obligations.PipelineUnits := by
  unfold Obligations.PipelineUnits
  intro h
  obtain ⟨-, -, -, -, -, -, -, -, -, hlines, -⟩ :=
    h sentEventEnabled .a 0 0 [] { num := 0 } { first := 0, count := 0, slot := none, ready := none } sentFrame sentBuf _
      (by decide) rfl
  obtain ⟨t, ht, -, hout, -⟩ := hlines rfl (by decide) rfl rfl (by decide)
  have heval := sentEventEnabled_frameSent
  rw [ht, afterOnDieA_next] at heval
  have hlength := congrArg List.length (hout.symm.trans (Option.some.inj heval))
  exact absurd hlength (by decide)

end Sys2Proof.Machine

/-! Statements on the evidence that fail in this model: the state and the command that refute each. -/

namespace Sys2Proof.Machine

/-- The EVD tags frames of an open session with keys. -/
def evidenceOpen (x : Die) : Die :=
  (((x.set (F.CTRL_EN 0x50) 1).set F.EVD_CTRL_CLOSED 0).set F.EVD_START_NOKEY 0).onEvd fun e => { e with live := true }

/-! ### The last number of 48 bits (O34) -/

/-- The one output of a complete frame. -/
def lastOutput : OutBuf := { ctx := 0, out := 0, k := 0, num := 0 }

/-- A complete frame with that output. -/
def lastFrame : DoneFrame := { ctx := 0, frame := { num := 0 }, outs := [lastOutput], grafts := 0 }

/-- A frame waits for the ESN 2^48 - 1, the largest of 48 bits, and it is reserved. -/
def lastNumberDue : State :=
  { dieA := ((((evidenceOpen {}).set F.EVD_START_KIND 0).set64 F.EVD_ESN_LO_ESN F.EVD_ESN_HI_ESN (2 ^ 48 - 1)).set64
        F.EVD_LIMIT_LO_LIMIT F.EVD_LIMIT_HI_LIMIT (2 ^ 48)).onIpp fun i => { i with done := [lastFrame] } }

theorem lastNumberDue_assign : afterOnDieA Die.esn (exec (.esnAssign .a) lastNumberDue) = some (2 ^ 48) := by
  decide +kernel

/-- Refutes O34: its clause of the next ESN says that it wraps at 48 bits. The model's field EVD_ESN_HI.ESN has 32 bits, of which
EVD_ESN_HI reserves 16, and after the number 2^48 - 1 the pair of fields holds 2^48. By R224 no die comes so far in its life; the
statement is of every state. -/
theorem not_evidence : ¬ Obligations.Evidence := by
  unfold Obligations.Evidence
  intro h
  obtain ⟨hassign, -⟩ := h lastNumberDue .a lastFrame lastOutput 0 (openRecord 0 0 0 0 []) [] _ (by decide) rfl
  obtain ⟨t, ht, hesn, -⟩ := hassign (by decide) (by decide) (by decide) rfl rfl rfl rfl (by decide) (.inr rfl) (by decide)
  have heval := lastNumberDue_assign
  rw [ht, afterOnDieA_next] at heval
  exact absurd (hesn.symm.trans (Option.some.inj heval)) (by decide)

/-! ### A shutter event that PFAIL_N abandons (O35) -/

/-- A shutter event is in progress and its closing move has begun: the open position's Hall input is still asserted. CLO_PROF_OPEN
gives the opening move neither boost nor brake (R154). -/
def closingBegun : State :=
  { dieA := (((((evidenceOpen {}).set F.CLO_CTRL_EN 1).set F.CLO_PROF_OPEN_BOOST 0).set F.CLO_PROF_OPEN_BRAKE 0).onClo fun c =>
        { c with hall0 := true, move := some { closing := true, seg := 0, began := 0, again := false } }).onCal fun c =>
      { c with event := some { gain := 0, f := 8, warm := false, first := 1, settleFrame := 1, groupA := 1, groupB := 9, last := 17
                               plane := 0, tf0 := 0, th0 := 0 } } }

/-- The write that counts a completed move (R159). -/
def countedMove : NvsReq := { prio := 5, what := .add 2 1, tag := .none }

theorem closingBegun_pfail : afterOnDieA (fun y => y.nvs.queue) (exec .pfailAssert closingBegun) = some [countedMove] := by
  decide +kernel

/-- Refutes O35: its first clause says that PFAIL_ASSERT requests no write of the Seed Tray. The shutter event that PFAIL_N abandons
opens the blade at once (R167). In `closingBegun` that move is over at once, for its target is asserted and its brake has no length;
a completed move counts in tally 2 (R159), and the write that counts it is none of the saves that end unwritten. -/
theorem not_evidenceClose : ¬ Obligations.EvidenceClose := by
  unfold Obligations.EvidenceClose
  intro h
  obtain ⟨hpfail, -⟩ := h closingBegun .a 0
    { kind := 0, noKey := false, session := 0, first := 0, key := [], nextKey := [], hash := [] } _ (by decide) rfl
  obtain ⟨t, ht, -, -, -, -, -, -, hkept⟩ := hpfail rfl (by decide) (by decide) (by decide) rfl
  have heval := closingBegun_pfail
  rw [ht, afterOnDieA_next] at heval
  have hqueue : (t.die .a).nvs.queue = [countedMove] := Option.some.inj heval
  rw [hqueue] at hkept
  exact absurd (hkept _ (List.mem_singleton_self _)) (by decide)

/-! ### A close that ends a write which mailbox 3 is told of (O60) -/

/-- The Seed Tray holds a write whose end mailbox 3 is told. No command of mailbox 3 requests one, so no run from reset comes
here. -/
def mailboxWrite : State :=
  { dieA := (((evidenceOpen { boot := { cores := true } }).set (F.MBX_RSP_BUSY 3) 0).set F.RST_START_KIND 0).onNvs fun v =>
      { v with queue := [{ prio := 3, what := .add 4 1, tag := .mbx 3 0 0 }] } }

theorem mailboxWrite_close :
    afterOnDieA (fun y => (y.mailbox 3).result) (exec (.evdClose .a 0 0) mailboxWrite) = some (some (7, 0)) := by
  decide +kernel

/-- Refutes O60: its clause on EVD_CLOSE says that the command then waits for the close. The close ends the saves of the Seed Tray
unwritten, and the mailbox that waits for one is answered HALTED (R342). The statement is of every state: in `mailboxWrite` that
mailbox is 3 itself, and EVD_CLOSE finds the result of that write in place of its own. -/
theorem not_mailboxEvidence : ¬ Obligations.MailboxEvidence := by
  unfold Obligations.MailboxEvidence
  intro h
  obtain ⟨-, -, -, -, -, hclose, -⟩ := h mailboxWrite .a 0 0 _ (by decide) rfl
  obtain ⟨t, ht, -, -, -, hnone, -⟩ := hclose (by decide) (by decide) (by decide) (by decide) (by decide) rfl
  have heval := mailboxWrite_close
  rw [ht, afterOnDieA_next] at heval
  exact absurd (hnone.symm.trans (Option.some.inj heval)) (by decide)

end Sys2Proof.Machine

/-! The field converter's runs (R244, R249 to R253, R258): what a request, a stop, a trigger and the end of an urgent run do. -/

namespace Sys2Proof.Machine

/-! ### What the converter changes of its own -/

/-- The fields that show which entry is converted and whether the converter works (R259). -/
def shownFields : List Fld := [F.FCV_STATE_ENTRY, F.STAT_IDLE 0x38, F.STAT_BUSY 0x38]

/-- The die behind its registers, but for the field converter's own state. -/
def Die.butFcv (x : Die) : Die := { x.hidden with fcv := {} }

/-- `y` is `x` but for the field converter's own state, the fields `L` and the events `E`. -/
structure Die.OnFcv (x : Die) (L : List Fld) (E : List Nat) (y : Die) : Prop where
  regs : x.Regs L E y
  behind : y.butFcv = x.butFcv
  wr : y.wr = x.wr
  dramCut : y.dramCut = x.dramCut

section
variable {x y : Die} {L : List Fld} {E : List Nat}

theorem Die.OnFcv.refl (x : Die) (L : List Fld) (E : List Nat) : x.OnFcv L E x := ⟨.refl x L E, rfl, rfl, rfl⟩

theorem Die.OnFcv.set {f : Fld} {v : Nat} (hf : f ∈ L) (h : x.OnFcv L E y) : x.OnFcv L E (y.set f v) :=
  ⟨.set hf h.regs, h.behind, h.wr, h.dramCut⟩

theorem Die.OnFcv.count {f : Fld} {n : Nat} (hf : f ∈ L) (h : x.OnFcv L E y) : x.OnFcv L E (y.count f n) := .set hf h

theorem Die.OnFcv.onFcv {k : Fcv → Fcv} (h : x.OnFcv L E y) : x.OnFcv L E (y.onFcv k) :=
  ⟨⟨h.regs.live, h.regs.pend, h.regs.raw⟩, h.behind, h.wr, h.dramCut⟩

theorem Die.OnFcv.fire {e : Nat} (he : e ∈ E) (h : x.OnFcv L E y) : x.OnFcv L E (y.fire e) :=
  ⟨.fire he h.regs, (congrArg (fun z : Die => { z with fcv := {} }) (Die.fire_hidden y e)).trans h.behind,
    (Die.fire_wr y e).trans h.wr, (Die.fire_dramCut y e).trans h.dramCut⟩

theorem Die.OnFcv.showFcv {now : Nat} (hL : ∀ f ∈ shownFields, f ∈ L) (h : x.OnFcv L E y) : x.OnFcv L E (y.showFcv now) :=
  .set (hL _ (by decide)) <| .set (hL _ (by decide)) <| .set (hL _ (by decide)) h

end

section
variable {s : State} {d : DieId} {y : Die} {L : List Fld} {E : List Nat}

theorem Die.OnFcv.settled_only (h : (s.fresh d).OnFcv L E y) :
    ({ s.die d with fcv := y.settled.fcv } : Die).only L E y.settled :=
  Die.only_of_regs h.regs.of_fresh.settled (congrArg (fun z : Die => { z with fcv := y.fcv }) h.behind) rfl rfl rfl

/-- The same where the converter behind its registers has not changed either. -/
theorem Die.OnFcv.settled_only_same (h : (s.fresh d).OnFcv L E y) (hf : y.fcv = (s.die d).fcv) :
    (s.die d).only L E y.settled := by
  have k := h.settled_only
  rwa [show y.settled.fcv = y.fcv from rfl, hf] at k

/-- A command on the field converter. -/
theorem fieldConverter_effect {c : Instr} {f : Env → Die → Die} {P : Die → Prop} (hc : exec c s = onDie d s f) (hr : s.running d)
    (hy : f (s.env d) (s.fresh d) = y) (h : (s.fresh d).OnFcv L E y) (hP : P y.settled) : Effect c d s P :=
  effect_to hc hr hy (h.wr.trans rfl) (h.dramCut.trans rfl) hP

end

/-! ### What reads of the converter's fields find -/

section
variable (x : Die) (k : Fcv → Fcv) (now : Nat)

@[simp] theorem Die.onFcv_get (f : Fld) : (x.onFcv k).get f = x.get f := rfl
@[simp] theorem Die.onFcv_fcv : (x.onFcv k).fcv = k x.fcv := rfl
@[simp] theorem Die.settled_fcvState : x.settled.fcv = x.fcv := rfl
@[simp] theorem Die.showFcv_fcv : (x.showFcv now).fcv = x.fcv := rfl
@[simp] theorem Die.showFcv_pends (e : Nat) : (x.showFcv now).pends e = x.pends e := rfl
@[simp] theorem Die.startMain_fcv (trig : Bool) (t : Option Nat) : (x.startMain trig t).fcv =
    { x.fcv with mode := x.get F.FCV_MAIN_MODE, mainEntry := x.get F.FCV_MAIN_START, mainTrig := trig, comp := x.fieldComp,
                 mainAt := t } := rfl

theorem Die.showFcv_get {f : Fld} (h : ∀ g ∈ shownFields, g.key ≠ f.key) : (x.showFcv now).get f = x.get f := by
  simp only [Die.showFcv, Die.setB]
  rw [Die.get_set_ne _ _ (h _ (by decide)) (by decide), Die.get_set_ne _ _ (h _ (by decide)) (by decide),
    Die.get_set_ne _ _ (h _ (by decide)) (by decide)]

/-- The main or the urgent sequence is in a run, or one of the main sequence is suspended or held. -/
def Die.inRun (x : Die) : Bool :=
  x.get F.FCV_STATE_MAIN = 2 || x.get F.FCV_STATE_MAIN = 3 || x.get F.FCV_STATE_MAIN = 4 || x.get F.FCV_STATE_URG != 0

theorem Die.on_setB_self {f : Fld} (h : f.width = 1) (b : Bool) : (x.setB f b).on f = b := by
  cases b <;> simp [Die.setB, Die.on_set_self, h]

theorem Die.showFcv_busy : (x.showFcv now).on (F.STAT_BUSY 0x38) = x.inRun := Die.on_setB_self _ rfl _

theorem Die.showFcv_idle : (x.showFcv now).on (F.STAT_IDLE 0x38) = (!x.inRun && !x.coreBusy now) := by
  unfold Die.showFcv
  dsimp only
  rw [Die.setB, Die.on_set_ne _ _ (by decide) (by decide), Die.on_setB_self _ rfl]
  rfl

theorem Die.showFcv_entry : (x.showFcv now).get F.FCV_STATE_ENTRY =
    (if x.get F.FCV_STATE_URG != 0 then x.fcv.urgEntry else x.fcv.mainEntry) % 64 := by
  simp only [Die.showFcv, Die.setB]
  rw [Die.get_set_ne _ _ (by decide) (by decide), Die.get_set_ne _ _ (by decide) (by decide), Die.get_set_self]
  rfl

end

section
variable (s : State) (d : DieId)

@[simp] theorem State.fresh_fcvOn : (s.fresh d).fcvOn = (s.die d).fcvOn := rfl
@[simp] theorem State.fresh_fieldComp : (s.fresh d).fieldComp = (s.die d).fieldComp := rfl
@[simp] theorem State.fresh_visitNow (k : Nat) : (s.fresh d).visitNow k = (s.die d).visitNow k := rfl

end

/-! ### A run of the main sequence begins (R249) -/

/-- A run of the main sequence begins in an idle converter. -/
def Die.mainBegun (x : Die) (trig : Bool) (now : Nat) : Die :=
  (x.startMain trig (some now)).onFcv fun f => { f with nextAt := some (x.firstSample trig now) }

section
variable {x y : Die} {L : List Fld} {E : List Nat} {trig : Bool} {now : Nat}

theorem Die.OnFcv.startMain {t : Option Nat} (hm : F.FCV_STATE_MAIN ∈ L) (h : x.OnFcv L E y) :
    x.OnFcv L E (y.startMain trig t) := .onFcv <| .set hm h

theorem Die.OnFcv.mainBegun (hm : F.FCV_STATE_MAIN ∈ L) (h : x.OnFcv L E y) : x.OnFcv L E (y.mainBegun trig now) :=
  .onFcv <| .startMain hm h

theorem Die.mainBegun_state (x : Die) (trig : Bool) (now : Nat) : (x.mainBegun trig now).get F.FCV_STATE_MAIN = 2 :=
  Die.get_set_of_lt (f := F.FCV_STATE_MAIN) x (by decide)

theorem Die.mainBegun_get (x : Die) (trig : Bool) (now : Nat) {f : Fld} (h : F.FCV_STATE_MAIN.key ≠ f.key) :
    (x.mainBegun trig now).get f = x.get f :=
  Die.get_set_ne (f := F.FCV_STATE_MAIN) x 2 h (by decide)

theorem Die.mainBegun_inRun (x : Die) (trig : Bool) (now : Nat) : (x.mainBegun trig now).inRun = true := by
  simp [Die.inRun, Die.mainBegun_state]

theorem Die.requestMain_begins (hmain : x.get F.FCV_STATE_MAIN < 2) (hurg : x.get F.FCV_STATE_URG = 0) :
    x.requestMain trig now = x.mainBegun trig now := by
  unfold Die.requestMain
  have hstate : x.get F.FCV_STATE_MAIN ≠ 2 ∧ x.get F.FCV_STATE_MAIN ≠ 3 ∧ x.get F.FCV_STATE_MAIN ≠ 4 := by omega
  obtain ⟨h2, h3, h4⟩ := hstate
  simp only [h2, h3, h4, hurg]
  rfl

theorem Die.requestMain_busy (hmain : x.get F.FCV_STATE_MAIN = 2) : x.requestMain trig now = x.mainBusy := by
  simp [Die.requestMain, hmain]

theorem Die.mainGo_off (hon : x.fcvOn = false) : x.mainGo now = x.accErr 0x38 := by simp [Die.mainGo, hon]

theorem Die.mainGo_begins (hon : x.fcvOn = true) (hmain : x.get F.FCV_STATE_MAIN = 0) (hurg : x.get F.FCV_STATE_URG = 0)
    (hmode : x.get F.FCV_MAIN_MODE ≠ 2) : x.mainGo now = x.mainBegun false now := by
  rw [← Die.requestMain_begins (by omega) hurg]
  simp [Die.mainGo, hon, hmain, hmode]

theorem Die.mainGo_arms (hon : x.fcvOn = true) (hmain : x.get F.FCV_STATE_MAIN = 0) (hmode : x.get F.FCV_MAIN_MODE = 2) :
    x.mainGo now = (x.set F.FCV_STATE_MAIN 1).onFcv fun f => { f with mode := 2 } := by
  simp [Die.mainGo, hon, hmain, hmode]

theorem Die.mainGo_refused (hon : x.fcvOn = true) (hmain : x.get F.FCV_STATE_MAIN = 2) (hmode : x.fcv.mode = 0) :
    x.mainGo now = x.accErr 0x38 := by simp [Die.mainGo, hon, hmain, hmode]

end

/-- A write of FCV_MAIN has set START and MODE. -/
def Die.mainAsked (x : Die) (start mode : Nat) : Die := (x.set F.FCV_MAIN_START start).set F.FCV_MAIN_MODE mode

section
variable (x : Die) {start mode : Nat}

theorem Die.mainAsked_start (h : start < 64) : (x.mainAsked start mode).get F.FCV_MAIN_START = start := by
  rw [Die.mainAsked, Die.get_set_ne _ _ (by decide) (by decide), Die.get_set_of_lt x h]

theorem Die.mainAsked_mode (h : mode < 4) : (x.mainAsked start mode).get F.FCV_MAIN_MODE = mode := Die.get_set_of_lt _ h

theorem Die.mainAsked_get {f : Fld} (hs : F.FCV_MAIN_START.key ≠ f.key) (hm : F.FCV_MAIN_MODE.key ≠ f.key) :
    (x.mainAsked start mode).get f = x.get f := by
  rw [Die.mainAsked, Die.get_set_ne _ _ hm (by decide), Die.get_set_ne _ _ hs (by decide)]

theorem Die.mainAsked_on {f : Fld} (hs : F.FCV_MAIN_START.key ≠ f.key) (hm : F.FCV_MAIN_MODE.key ≠ f.key) :
    (x.mainAsked start mode).on f = x.on f := by rw [Die.on, Die.mainAsked_get x hs hm, Die.on]

@[simp] theorem Die.mainAsked_fcv : (x.mainAsked start mode).fcv = x.fcv := rfl

@[simp] theorem Die.mainAsked_fcvOn : (x.mainAsked start mode).fcvOn = x.fcvOn := by
  simp only [Die.fcvOn, Die.fcvRuns, Die.takes, Die.mainAsked_on x (f := F.FCV_CTRL_EN) (by decide) (by decide),
    Die.mainAsked_on x (f := F.BRST_ACTIVE 0x38) (by decide) (by decide)]
  rfl

@[simp] theorem Die.mainAsked_fieldComp : (x.mainAsked start mode).fieldComp = x.fieldComp := by
  rw [Die.fieldComp, Die.mainAsked_on x (f := F.THM_COMP_FCV) (by decide) (by decide)]
  rfl

theorem Die.OnFcv.mainAsked {y : Die} {L : List Fld} {E : List Nat} (hs : F.FCV_MAIN_START ∈ L) (hm : F.FCV_MAIN_MODE ∈ L)
    (h : x.OnFcv L E y) : x.OnFcv L E (y.mainAsked start mode) := .set hm <| .set hs h

end

/-- The fields that a write of FCV_MAIN changes. -/
def mainFields : List Fld :=
  [F.FCV_STATE_MAIN, F.FCV_MAIN_START, F.FCV_MAIN_MODE, F.FCV_STATE_ENTRY, F.STAT_IDLE 0x38, F.STAT_BUSY 0x38]

/-- Those of a write that is refused. -/
def refusedFields : List Fld := [F.FCV_MAIN_START, F.FCV_MAIN_MODE, F.FCV_STATE_ENTRY, F.STAT_IDLE 0x38, F.STAT_BUSY 0x38]

/-- The fields that an urgent request changes. -/
def urgentFields : List Fld :=
  [F.FCV_STATE_MAIN, F.FCV_STATE_URG, F.FCV_URG_START, F.FCV_STATE_ENTRY, F.STAT_IDLE 0x38, F.STAT_BUSY 0x38]

/-! ### FCV_MAIN_GO (R249, R258) -/

/-- R258, R36: the converter takes no request while it is disabled, in Hold or in Dormant, or while a reset of it waits. -/
theorem Die.fcvOn_false {x : Die} (h : x.on F.FCV_CTRL_EN = false ∨ 2 ≤ x.boot.power ∨ x.takes 0x38 = false) : x.fcvOn = false := by
  rcases h with h | h | h
  · simp [Die.fcvOn, Die.fcvRuns, h]
  · simp [Die.fcvOn, Die.fcvRuns, Nat.not_lt.2 h]
  · simp [Die.fcvOn, h]

section
variable {s : State} {d : DieId} (hr : s.running d) {start mode : Nat}
include hr

theorem fcvMainGo_begins (hon : (s.die d).fcvOn = true) (hmain : (s.die d).get F.FCV_STATE_MAIN = 0)
    (hurg : (s.die d).get F.FCV_STATE_URG = 0) (hmode : mode = 0 ∨ mode = 1 ∨ mode = 3) (hstart : start < 64) :
    Effect (.fcvMainGo d start mode) d s (fun y => y.get F.FCV_STATE_MAIN = 2 ∧ y.get F.FCV_MAIN_START = start ∧
      y.get F.FCV_MAIN_MODE = mode ∧ y.fcv =
        { (s.die d).fcv with mode := mode, mainEntry := start, mainTrig := false, comp := (s.die d).fieldComp, mainAt := some s.now,
                             nextAt := some (convEdge s.now 10) } ∧
      y.on (F.STAT_BUSY 0x38) = true ∧ y.on (F.STAT_IDLE 0x38) = false ∧ y.get F.FCV_STATE_ENTRY = start ∧
      ({ s.die d with fcv := y.fcv } : Die).only mainFields [] y) := by
  have hasked := (s.fresh d).mainAsked_mode (start := start) (show mode < 4 by omega)
  have hstarts := (s.fresh d).mainAsked_start (mode := mode) hstart
  have hy : ((s.fresh d).mainAsked start mode).mainGo s.now = ((s.fresh d).mainAsked start mode).mainBegun false s.now := by
    refine Die.mainGo_begins (by simpa using hon) ?_ ?_ (by omega)
    · rwa [Die.mainAsked_get _ (by decide) (by decide)]
    · rwa [Die.mainAsked_get _ (by decide) (by decide)]
  have hurgent : (((s.fresh d).mainAsked start mode).mainBegun false s.now).get F.FCV_STATE_URG = 0 := by
    rwa [Die.mainBegun_get _ _ _ (by decide), Die.mainAsked_get _ (by decide) (by decide)]
  have hall : (s.fresh d).OnFcv mainFields [] ((((s.fresh d).mainAsked start mode).mainBegun false s.now).showFcv s.now) :=
    .showFcv (by decide) <| .mainBegun (by decide) <| .mainAsked _ (by decide) (by decide) <| .refl _ _ _
  refine fieldConverter_effect rfl hr (congrArg (·.showFcv s.now) hy) hall ⟨?_, ?_, ?_, ?_, ?_, ?_, ?_, hall.settled_only⟩
  · rw [Die.settled_get, Die.showFcv_get _ _ (by decide), Die.mainBegun_state]
  · rw [Die.settled_get, Die.showFcv_get _ _ (by decide), Die.mainBegun_get _ _ _ (by decide), hstarts]
  · rw [Die.settled_get, Die.showFcv_get _ _ (by decide), Die.mainBegun_get _ _ _ (by decide), hasked]
  · simp [Die.mainBegun, hasked, hstarts, Die.firstSample]
  · rw [Die.settled_on, Die.showFcv_busy, Die.mainBegun_inRun]
  · rw [Die.settled_on, Die.showFcv_idle, Die.mainBegun_inRun]; rfl
  · rw [Die.settled_get, Die.showFcv_entry, hurgent]
    simp [Die.mainBegun, hstarts, Nat.mod_eq_of_lt hstart]

theorem fcvMainGo_arms (hon : (s.die d).fcvOn = true) (hmain : (s.die d).get F.FCV_STATE_MAIN = 0) :
    Effect (.fcvMainGo d start 2) d s (fun y => y.get F.FCV_STATE_MAIN = 1 ∧ y.fcv = { (s.die d).fcv with mode := 2 } ∧
      ({ s.die d with fcv := y.fcv } : Die).only mainFields [] y) := by
  have hy : ((s.fresh d).mainAsked start 2).mainGo s.now =
      (((s.fresh d).mainAsked start 2).set F.FCV_STATE_MAIN 1).onFcv fun f => { f with mode := 2 } := by
    refine Die.mainGo_arms (by simpa using hon) ?_ (Die.mainAsked_mode _ (by decide))
    rwa [Die.mainAsked_get _ (by decide) (by decide)]
  have hall : (s.fresh d).OnFcv mainFields []
      (((((s.fresh d).mainAsked start 2).set F.FCV_STATE_MAIN 1).onFcv fun f => { f with mode := 2 }).showFcv s.now) :=
    .showFcv (by decide) <| .onFcv <| .set (by decide) <| .mainAsked _ (by decide) (by decide) <| .refl _ _ _
  refine fieldConverter_effect rfl hr (congrArg (·.showFcv s.now) hy) hall ⟨?_, by simp, hall.settled_only⟩
  rw [Die.settled_get, Die.showFcv_get _ _ (by decide), Die.onFcv_get, Die.get_set_of_lt _ (by decide)]

/-- A write of FCV_MAIN.GO that is refused. -/
theorem fcvMainGo_accErr
    (hy : ((s.fresh d).mainAsked start mode).mainGo s.now = ((s.fresh d).mainAsked start mode).accErr 0x38) :
    Effect (.fcvMainGo d start mode) d s (fun y => y.pends (accErrOf 0x38) = true ∧
      y.get F.FCV_STATE_MAIN = (s.die d).get F.FCV_STATE_MAIN ∧ (s.die d).only refusedFields [accErrOf 0x38] y) := by
  have hall : (s.fresh d).OnFcv refusedFields [accErrOf 0x38] ((((s.fresh d).mainAsked start mode).accErr 0x38).showFcv s.now) :=
    .showFcv (by decide) <| .fire (by simp) <| .mainAsked _ (by decide) (by decide) <| .refl _ _ _
  refine fieldConverter_effect rfl hr (congrArg (·.showFcv s.now) hy) hall ⟨?_, ?_, hall.settled_only_same (by simp)⟩
  · rw [Die.settled_pends, Die.showFcv_pends, Die.accErr, Die.fire_pends _ (accErrOf_lt _)]
  · rw [Die.settled_get, Die.showFcv_get _ _ (by decide), Die.accErr_get _ _ (by decide),
      Die.mainAsked_get _ (by decide) (by decide), State.fresh_get]

theorem fcvMainGo_refused (hon : (s.die d).fcvOn = true) (hmain : (s.die d).get F.FCV_STATE_MAIN = 2)
    (hmode : (s.die d).fcv.mode = 0) :
    Effect (.fcvMainGo d start mode) d s (fun y => y.pends (accErrOf 0x38) = true ∧ y.get F.FCV_STATE_MAIN = 2 ∧
      (s.die d).only refusedFields [accErrOf 0x38] y) := by
  rw [← hmain]
  refine fcvMainGo_accErr hr (Die.mainGo_refused (by simpa using hon) ?_ hmode)
  rwa [Die.mainAsked_get _ (by decide) (by decide)]

theorem fcvMainGo_off
    (hoff : (s.die d).on F.FCV_CTRL_EN = false ∨ 2 ≤ (s.die d).boot.power ∨ (s.die d).takes 0x38 = false) :
    Effect (.fcvMainGo d start mode) d s (fun y => y.pends (accErrOf 0x38) = true ∧
      (s.die d).only refusedFields [accErrOf 0x38] y) := by
  obtain ⟨t, ht, heq, hpends, -, honly⟩ := fcvMainGo_accErr (s := s) (d := d) (start := start) (mode := mode) hr
    (Die.mainGo_off (by simpa using Die.fcvOn_false hoff))
  exact ⟨t, ht, heq, hpends, honly⟩

end

/-! ### FCV_MAIN_STOP (R251) -/

section
variable (x : Die)

@[simp] theorem Die.cutVisit_get (f : Fld) : x.cutVisit.get f = x.get f := by
  unfold Die.cutVisit; split <;> rfl

theorem Die.cutVisit_visit : x.cutVisit.fcv.visit = none := by
  unfold Die.cutVisit
  split
  · next hnone => exact hnone
  · rfl

@[simp] theorem Die.cutVisit_sampleAt : x.cutVisit.fcv.sampleAt = x.fcv.sampleAt := by
  unfold Die.cutVisit; split <;> rfl

/-- Without QINV the INVALID samples of the visit are no results (R247). -/
theorem Die.cutVisit_due (h : x.on F.FCV_CTRL_QINV = false) : x.cutVisit.fcv.due = x.fcv.due := by
  unfold Die.cutVisit
  split
  · rfl
  · simp [Die.ended, h]

theorem Die.OnFcv.cutVisit {x y : Die} {L : List Fld} {E : List Nat} (h : x.OnFcv L E y) : x.OnFcv L E y.cutVisit := by
  unfold Die.cutVisit
  split
  · exact h
  · exact .onFcv h

/-- The run of the main sequence that is under way is cut off. -/
def Die.runCut : Die :=
  if x.get F.FCV_STATE_MAIN = 2 && x.get F.FCV_STATE_URG = 0 then x.cutVisit.onFcv fun f => { f with nextAt := none } else x

@[simp] theorem Die.runCut_get (f : Fld) : x.runCut.get f = x.get f := by
  unfold Die.runCut; split <;> simp

@[simp] theorem Die.runCut_sampleAt : x.runCut.fcv.sampleAt = x.fcv.sampleAt := by
  unfold Die.runCut; split <;> simp

theorem Die.runCut_due (h : x.on F.FCV_CTRL_QINV = false) : x.runCut.fcv.due = x.fcv.due := by
  unfold Die.runCut
  split
  · exact x.cutVisit_due h
  · rfl

theorem Die.runCut_ends (hmain : x.get F.FCV_STATE_MAIN = 2) (hurg : x.get F.FCV_STATE_URG = 0) :
    x.runCut.fcv.visit = none ∧ x.runCut.fcv.nextAt = none := by
  simp [Die.runCut, hmain, hurg, Die.cutVisit_visit]

theorem Die.OnFcv.runCut {x y : Die} {L : List Fld} {E : List Nat} (h : x.OnFcv L E y) : x.OnFcv L E y.runCut := by
  unfold Die.runCut
  split
  · exact .onFcv (.cutVisit h)
  · exact h

end

theorem Die.mainStop_eq (x : Die) (now : Nat) : x.mainStop now = (x.runCut.set F.FCV_STATE_MAIN 0).showFcv now := rfl

theorem fcvMainStop_effect {s : State} {d : DieId} (hr : s.running d) {start mode : Nat}
    (hurg : (s.die d).get F.FCV_STATE_URG = 0) :
    Effect (.fcvMainStop d start mode) d s (fun y => y.get F.FCV_STATE_MAIN = 0 ∧
      y.on (F.STAT_IDLE 0x38) = !(s.die d).coreBusy s.now ∧ y.on (F.STAT_BUSY 0x38) = false ∧
      ((s.die d).get F.FCV_STATE_MAIN = 2 → y.fcv.visit = none ∧ y.fcv.nextAt = none) ∧
      ((s.die d).on F.FCV_CTRL_QINV = false → y.fcv.due = (s.die d).fcv.due) ∧
      ({ s.die d with fcv := y.fcv } : Die).only mainFields [] y) := by
  have hstate : (((s.fresh d).mainAsked start mode).runCut.set F.FCV_STATE_MAIN 0).get F.FCV_STATE_MAIN = 0 :=
    Die.get_set_of_lt _ (by decide)
  have hurgent : (((s.fresh d).mainAsked start mode).runCut.set F.FCV_STATE_MAIN 0).get F.FCV_STATE_URG = 0 := by
    rwa [Die.get_set_ne _ _ (by decide) (by decide), Die.runCut_get, Die.mainAsked_get _ (by decide) (by decide)]
  have hrun : (((s.fresh d).mainAsked start mode).runCut.set F.FCV_STATE_MAIN 0).inRun = false := by
    simp [Die.inRun, hstate, hurgent]
  have hall : (s.fresh d).OnFcv mainFields []
      ((((s.fresh d).mainAsked start mode).runCut.set F.FCV_STATE_MAIN 0).showFcv s.now) :=
    .showFcv (by decide) <| .set (by decide) <| .runCut <| .mainAsked _ (by decide) (by decide) <| .refl _ _ _
  refine fieldConverter_effect rfl hr (Die.mainStop_eq ((s.fresh d).mainAsked start mode) s.now) hall
    ⟨?_, ?_, ?_, fun hmain => ?_, fun hinv => ?_, hall.settled_only⟩
  · rw [Die.settled_get, Die.showFcv_get _ _ (by decide), hstate]
  · rw [Die.settled_on, Die.showFcv_idle, hrun, Die.coreBusy, Die.set_fcv, Die.runCut_sampleAt]; rfl
  · rw [Die.settled_on, Die.showFcv_busy, hrun]
  · rw [Die.settled_fcvState, Die.showFcv_fcv, Die.set_fcv]
    refine Die.runCut_ends _ ?_ ?_ <;> rwa [Die.mainAsked_get _ (by decide) (by decide)]
  · rw [Die.settled_fcvState, Die.showFcv_fcv, Die.set_fcv, Die.runCut_due, Die.mainAsked_fcv, State.fresh_fcv]
    rwa [Die.mainAsked_on _ (by decide) (by decide)]

/-! ### Samples and the ends of visits -/

/-- A visit of the run under way is over, and its results wait for their delivery. -/
def Die.visitOver (x : Die) (v : FcvVisit) (urgent : Bool) (k : Nat) (trig : Bool) (t : Nat) (volts : Option (List Int)) : Die :=
  x.onFcv fun f =>
    { f with due := f.due ++ [x.ended v urgent trig false t volts], mainAt := if urgent then f.mainAt else none,
             changed := f.changed.filter (· != v.ch), visit := none,
             urgTrig := if urgent then false else f.urgTrig, mainTrig := if urgent then f.mainTrig else false,
             urgEntry := if urgent then k + 1 else f.urgEntry, mainEntry := if urgent then f.mainEntry else k + 1 }

/-- Sample instants come only where a run converts. -/
def Die.instantsKept (x : Die) : Die := if x.fcvRun.isNone then x.onFcv fun f => { f with nextAt := none } else x

section
variable {x y : Die} {L : List Fld} {E : List Nat} {v : FcvVisit} {k n t now : Nat} {trig : Bool} {volts : Option (List Int)}

@[simp] theorem Die.takeSamples_get (f : Fld) : (x.takeSamples v n t).get f = x.get f := by
  unfold Die.takeSamples Die.fieldTaken; split <;> rfl

@[simp] theorem Die.takeSamples_fcvRun : (x.takeSamples v n t).fcvRun = x.fcvRun := by
  unfold Die.takeSamples Die.fieldTaken; split <;> rfl

@[simp] theorem Die.takeSamples_mode : (x.takeSamples v n t).fcv.mode = x.fcv.mode := by
  unfold Die.takeSamples Die.fieldTaken; split <;> rfl

@[simp] theorem Die.takeSamples_mainEntry : (x.takeSamples v n t).fcv.mainEntry = x.fcv.mainEntry := by
  unfold Die.takeSamples Die.fieldTaken; split <;> rfl

@[simp] theorem Die.takeSamples_due : (x.takeSamples v n t).fcv.due = x.fcv.due := by
  unfold Die.takeSamples Die.fieldTaken; split <;> rfl

/-- What is to be delivered of a visit does not depend on the samples just taken. -/
@[simp] theorem Die.takeSamples_ended (w : FcvVisit) (urgent cut : Bool) (t' : Nat) :
    (x.takeSamples v n t).ended w urgent trig cut t' volts = x.ended w urgent trig cut t' volts := by
  unfold Die.takeSamples Die.fieldTaken; split <;> rfl

theorem Die.fcvRun_urgent (hurg : x.get F.FCV_STATE_URG ≠ 0) : x.fcvRun = some (true, x.fcv.urgEntry, x.fcv.urgTrig) := by
  simp [Die.fcvRun, hurg]

theorem Die.fcvRun_main (hurg : x.get F.FCV_STATE_URG = 0) (hmain : x.get F.FCV_STATE_MAIN = 2) :
    x.fcvRun = some (false, x.fcv.mainEntry, x.fcv.mainTrig) := by simp [Die.fcvRun, hurg, hmain]

theorem Die.fcvRun_none (hurg : x.get F.FCV_STATE_URG = 0) (hmain : x.get F.FCV_STATE_MAIN ≠ 2) : x.fcvRun = none := by
  simp [Die.fcvRun, hurg, hmain]

theorem Die.endVisit_last {urgent : Bool} (hrun : x.fcvRun = some (urgent, k, trig)) (hlast : v.last = true) :
    x.endVisit v t volts = (if urgent then (x.visitOver v urgent k trig t volts).endUrgent
      else (x.visitOver v urgent k trig t volts).endMain).instantsKept := by
  unfold Die.endVisit
  rw [hrun]
  simp only [hlast, if_true]
  rfl

/-- The last visit of a run of mode 0 ends the run (Table 8.4). -/
theorem Die.endVisit_once (hrun : x.fcvRun = some (false, k, trig)) (hurg : x.get F.FCV_STATE_URG = 0) (hmode : x.fcv.mode = 0)
    (hlast : v.last = true) : x.endVisit v t volts =
      ((x.visitOver v false k trig t volts).set F.FCV_STATE_MAIN 0).onFcv fun f => { f with nextAt := none } := by
  have hend : (x.visitOver v false k trig t volts).endMain = (x.visitOver v false k trig t volts).set F.FCV_STATE_MAIN 0 := by
    unfold Die.endMain
    split
    · rfl
    · next h3 => exact absurd (hmode.symm.trans h3) (by decide)
    · next h0 _ => exact absurd hmode h0
  have hidle : ((x.visitOver v false k trig t volts).set F.FCV_STATE_MAIN 0).fcvRun = none := by
    refine Die.fcvRun_none ?_ ?_
    · rw [Die.get_set_ne _ _ (by decide) (by decide)]
      exact hurg
    · rw [Die.get_set_self]; decide
  rw [Die.endVisit_last hrun hlast, if_neg Bool.false_ne_true, hend, Die.instantsKept, hidle]
  rfl

/-- The last visit of an urgent run lets the suspended main run go on (R252). -/
theorem Die.endVisit_resumes (hrun : x.fcvRun = some (true, k, trig)) (hurg : x.get F.FCV_STATE_URG = 1)
    (hmain : x.get F.FCV_STATE_MAIN = 3) (hlast : v.last = true) : x.endVisit v t volts =
      ((x.visitOver v true k trig t volts).set F.FCV_STATE_URG 0).set F.FCV_STATE_MAIN 2 := by
  have hstate : ((x.visitOver v true k trig t volts).set F.FCV_STATE_URG 0).get F.FCV_STATE_MAIN = 3 := by
    rw [Die.get_set_ne _ _ (by decide) (by decide)]
    exact hmain
  have hend : (x.visitOver v true k trig t volts).endUrgent =
      ((x.visitOver v true k trig t volts).set F.FCV_STATE_URG 0).set F.FCV_STATE_MAIN 2 := by
    unfold Die.endUrgent
    split
    · next h2 => exact absurd (hurg.symm.trans h2) (by decide)
    · dsimp only
      split
      · rfl
      · next h4 => exact absurd (hstate.symm.trans h4) (by decide)
      · next h3 _ => exact absurd hstate h3
  have hrunning : (((x.visitOver v true k trig t volts).set F.FCV_STATE_URG 0).set F.FCV_STATE_MAIN 2).fcvRun.isNone = false := by
    rw [Die.fcvRun_main]
    · rfl
    · rw [Die.get_set_ne _ _ (by decide) (by decide), Die.get_set_self]; rfl
    · rw [Die.get_set_self]; rfl
  rw [Die.endVisit_last hrun hlast, if_pos rfl, hend, Die.instantsKept, hrunning]
  rfl

theorem Die.fcvSample_last (hrun : x.fcvRun = some (false, k, trig))
    (hlast : (x.visitNow k).taken + 1 = (x.visitNow k).samples) : x.fcvSample t =
      (x.takeSamples (x.visitNow k) ((x.visitNow k).taken + 1) t).endVisit { x.visitNow k with taken := (x.visitNow k).taken + 1 } t
        none := by
  unfold Die.fcvSample
  rw [hrun]
  simp only [hlast, if_true]
  rw [if_neg (by omega)]

theorem Die.forceEnd_ends {urgent : Bool} {l : List Int} (hrun : x.fcvRun = some (urgent, k, trig)) (hruns : x.fcvRuns = true)
    (henough : (x.visitNow k).samples ≤ l.length) : x.forceEnd t l =
      (x.takeSamples (x.visitNow k) (x.visitNow k).samples t).endVisit { x.visitNow k with taken := (x.visitNow k).samples } t
        (some l) := by
  unfold Die.forceEnd
  rw [hrun]
  simp [hruns, Nat.not_lt.2 henough]

theorem Die.OnFcv.takeSamples (h : x.OnFcv L E y) : x.OnFcv L E (y.takeSamples v n t) := by
  unfold Die.takeSamples Die.fieldTaken
  split
  · exact .onFcv h
  · exact .onFcv (.onFcv h)

theorem Die.OnFcv.endMain (hm : F.FCV_STATE_MAIN ∈ L) (h : x.OnFcv L E y) : x.OnFcv L E y.endMain := by
  unfold Die.endMain
  split
  · exact .set hm h
  · exact .startMain hm h
  · exact .set hm h

theorem Die.OnFcv.endUrgent (hm : F.FCV_STATE_MAIN ∈ L) (hu : F.FCV_STATE_URG ∈ L) (h : x.OnFcv L E y) :
    x.OnFcv L E y.endUrgent := by
  unfold Die.endUrgent
  split
  · exact .onFcv (.set hu h)
  · dsimp only
    split
    · exact .set hm (.set hu h)
    · exact .startMain hm (.set hu h)
    · exact .set hu h

theorem Die.OnFcv.instantsKept (h : x.OnFcv L E y) : x.OnFcv L E y.instantsKept := by
  unfold Die.instantsKept
  split
  · exact .onFcv h
  · exact h

theorem Die.OnFcv.endVisit (hm : F.FCV_STATE_MAIN ∈ L) (hu : F.FCV_STATE_URG ∈ L) (h : x.OnFcv L E y) :
    x.OnFcv L E (y.endVisit v t volts) := by
  unfold Die.endVisit
  split
  · exact h
  · refine .instantsKept ?_
    split
    · split
      · exact .endUrgent hm hu (.onFcv h)
      · exact .endMain hm (.onFcv h)
    · exact .onFcv h

theorem Die.OnFcv.forceEnd {l : List Int} (hm : F.FCV_STATE_MAIN ∈ L) (hu : F.FCV_STATE_URG ∈ L) (h : x.OnFcv L E y) :
    x.OnFcv L E (y.forceEnd t l) := by
  unfold Die.forceEnd
  split
  · exact h
  · dsimp only
    split
    · exact h
    · exact .endVisit hm hu (.takeSamples h)

theorem Die.OnFcv.fcvSample (hm : F.FCV_STATE_MAIN ∈ L) (hu : F.FCV_STATE_URG ∈ L) (h : x.OnFcv L E y) :
    x.OnFcv L E (y.fcvSample t) := by
  unfold Die.fcvSample
  split
  · exact .onFcv h
  · dsimp only
    split
    · exact .endVisit hm hu h
    · split
      · exact .endVisit hm hu (.takeSamples h)
      · exact .takeSamples h

theorem Die.OnFcv.yieldMain (hm : F.FCV_STATE_MAIN ∈ L) (hu : F.FCV_STATE_URG ∈ L) (h : x.OnFcv L E y) :
    x.OnFcv L E (y.yieldMain now) := by
  unfold Die.yieldMain
  split
  · exact h
  split
  · exact .onFcv (.set hm h)
  extract_lets z
  have hsampled : x.OnFcv L E z := by
    unfold z
    split
    · split
      · exact .fcvSample hm hu h
      · exact h
    · exact h
  split
  · exact hsampled
  · exact .onFcv (.set hm hsampled)

/-! ### What an urgent request does to the main run (R252, R253) -/

theorem Die.yieldMain_idle (hmain : x.get F.FCV_STATE_MAIN ≠ 2) : x.yieldMain now = x := by simp [Die.yieldMain, hmain]

theorem Die.yieldMain_held (hmain : x.get F.FCV_STATE_MAIN = 2) (hat : x.fcv.mainAt = some now) : x.yieldMain now =
    (x.set F.FCV_STATE_MAIN 4).onFcv fun f => { f with heldTrig := f.mainTrig, visit := none } := by
  simp [Die.yieldMain, hmain, hat]

theorem Die.yieldMain_suspended (hmain : x.get F.FCV_STATE_MAIN = 2) (hat : x.fcv.mainAt ≠ some now) (hnext : x.fcv.nextAt = some t)
    (hlater : now + 5 ≤ t) : x.yieldMain now = (x.set F.FCV_STATE_MAIN 3).onFcv fun f => { f with visit := none } := by
  simp [Die.yieldMain, hmain, hat, hnext, Nat.not_lt.2 hlater]

/-- A run of mode 0 whose last sample falls before the urgent run can begin has ended. -/
theorem Die.yieldMain_ended (hmain : x.get F.FCV_STATE_MAIN = 2) (hurg : x.get F.FCV_STATE_URG = 0) (hat : x.fcv.mainAt ≠ some now)
    (hnext : x.fcv.nextAt = some t) (hsoon : t < now + 5) (hmode : x.fcv.mode = 0)
    (hlast : (x.visitNow x.fcv.mainEntry).last = true)
    (htaken : (x.visitNow x.fcv.mainEntry).taken + 1 = (x.visitNow x.fcv.mainEntry).samples) :
    (x.yieldMain now).get F.FCV_STATE_MAIN = 0 ∧ (x.yieldMain now).fcv.visit = none ∧
      (x.yieldMain now).fcv.due.length = x.fcv.due.length + 1 := by
  have hrun := Die.fcvRun_main hurg hmain
  have hsample := (Die.fcvSample_last (t := t) hrun htaken).trans
    (Die.endVisit_once (by rwa [Die.takeSamples_fcvRun]) (by rwa [Die.takeSamples_get]) (by rwa [Die.takeSamples_mode]) hlast)
  have hstate : (x.fcvSample t).get F.FCV_STATE_MAIN = 0 := by
    rw [hsample, Die.onFcv_get, Die.get_set_of_lt _ (by decide)]
  have hy : x.yieldMain now = x.fcvSample t := by simp [Die.yieldMain, hmain, hat, hnext, hsoon, hstate]
  refine ⟨by rw [hy, hstate], ?_, ?_⟩
  · rw [hy, hsample]; rfl
  · rw [hy, hsample]
    simp [Die.visitOver]

end

/-! ### An urgent run begins (R252) -/

/-- An urgent run asked for on the die `x` begins on `w`, what the request has made of it. -/
def Die.urgentBegun (w x : Die) (trig : Bool) (now : Nat) : Die :=
  (w.set F.FCV_STATE_URG 1).onFcv fun f =>
    { f with urgEntry := x.get F.FCV_URG_START, urgTrig := trig, comp := x.fieldComp,
             nextAt := some (f.nextAt.getD (x.firstSample trig now)) }

section
variable {w x y : Die} {L : List Fld} {E : List Nat} {trig : Bool} {now : Nat}

theorem Die.urgentBegun_state (w x : Die) (trig : Bool) (now : Nat) : (w.urgentBegun x trig now).get F.FCV_STATE_URG = 1 :=
  Die.get_set_of_lt (f := F.FCV_STATE_URG) w (by decide)

theorem Die.urgentBegun_get (w x : Die) (trig : Bool) (now : Nat) {f : Fld} (h : F.FCV_STATE_URG.key ≠ f.key) :
    (w.urgentBegun x trig now).get f = w.get f :=
  Die.get_set_ne (f := F.FCV_STATE_URG) w 1 h (by decide)

theorem Die.urgentBegun_inRun (w x : Die) (trig : Bool) (now : Nat) : (w.urgentBegun x trig now).inRun = true := by
  simp [Die.inRun, Die.urgentBegun_state]

theorem Die.OnFcv.urgentBegun (hu : F.FCV_STATE_URG ∈ L) (h : x.OnFcv L E w) : x.OnFcv L E (w.urgentBegun y trig now) :=
  .onFcv (.set hu h)

theorem Die.urgentGo_begins (hon : x.fcvOn = true) (hurg : x.get F.FCV_STATE_URG = 0) :
    x.urgentGo trig now = ((x.yieldMain now).urgentBegun x trig now).showFcv now := by
  unfold Die.urgentGo Die.urgentBegun
  rw [if_neg (by simp [hon]), hurg]
  cases hnext : (x.yieldMain now).fcv.nextAt <;> simp [Die.onFcv, hnext]

theorem Die.urgentGo_held (hon : x.fcvOn = true) (hurg : x.get F.FCV_STATE_URG = 1) :
    x.urgentGo trig now = (x.set F.FCV_STATE_URG 2).onFcv fun f => { f with nextTrig := trig } := by
  simp [Die.urgentGo, hon, hurg]

theorem Die.urgentGo_merged (hon : x.fcvOn = true) (hurg : x.get F.FCV_STATE_URG = 2) :
    x.urgentGo trig now = x.count F.FCV_CNT2_URG_MERGED := by
  simp [Die.urgentGo, hon, hurg]

end

/-- A write of FCV_URG has set START. -/
def Die.urgentAsked (x : Die) (start : Nat) : Die := x.set F.FCV_URG_START start

section
variable (x : Die) {start : Nat}

theorem Die.urgentAsked_start (h : start < 64) : (x.urgentAsked start).get F.FCV_URG_START = start := Die.get_set_of_lt x h

theorem Die.urgentAsked_get {f : Fld} (h : F.FCV_URG_START.key ≠ f.key) : (x.urgentAsked start).get f = x.get f :=
  Die.get_set_ne x start h (by decide)

theorem Die.urgentAsked_on {f : Fld} (h : F.FCV_URG_START.key ≠ f.key) : (x.urgentAsked start).on f = x.on f :=
  Die.on_set_ne x start h (by decide)

@[simp] theorem Die.urgentAsked_fcv : (x.urgentAsked start).fcv = x.fcv := rfl

@[simp] theorem Die.urgentAsked_fcvOn : (x.urgentAsked start).fcvOn = x.fcvOn := by
  simp only [Die.fcvOn, Die.fcvRuns, Die.takes, Die.urgentAsked_on x (f := F.FCV_CTRL_EN) (by decide),
    Die.urgentAsked_on x (f := F.BRST_ACTIVE 0x38) (by decide)]
  rfl

@[simp] theorem Die.urgentAsked_fieldComp : (x.urgentAsked start).fieldComp = x.fieldComp := by
  rw [Die.fieldComp, Die.urgentAsked_on x (f := F.THM_COMP_FCV) (by decide)]
  rfl

/-- The settings of channels and entries lie above FCV_URG, so that a visit reads them as they were. -/
@[simp] theorem Die.urgentAsked_visitNow (k : Nat) : (x.urgentAsked start).visitNow k = x.visitNow k := by
  have habove : ∀ off lo width acc rst keep min max, 0x80 ≤ off →
      (x.urgentAsked start).get ⟨0x38, off, lo, width, acc, rst, keep, min, max⟩ =
        x.get ⟨0x38, off, lo, width, acc, rst, keep, min, max⟩ := fun off lo _ _ _ _ _ _ hoff => by
    refine Die.urgentAsked_get x ?_
    simp only [Fld.key, F.FCV_URG_START]
    omega
  have hnew : (x.urgentAsked start).newVisit k = x.newVisit k := by
    simp (disch := omega) only [Die.newVisit, Die.on, F.FCV_SEQ_CH, F.FCV_SEQ_DIFF, F.FCV_SEQ_QUEUE, F.FCV_SEQ_LAST,
      F.FCV_CHCFG_GAIN, F.FCV_CHCFG_AVG_CNT_M1, F.FCV_CHCFG_AVG_SHIFT, F.FCV_CHCFG_SETTLE_CNT, habove, Die.urgentAsked_fcv]
  rw [Die.visitNow, Die.visitNow, hnew, Die.urgentAsked_fcv]

theorem Die.OnFcv.urgentAsked {y : Die} {L : List Fld} {E : List Nat} (hs : F.FCV_URG_START ∈ L) (h : x.OnFcv L E y) :
    x.OnFcv L E (y.urgentAsked start) := .set hs h

end

/-- A count that is not full rises by one. -/
theorem Die.count_get_of_lt (x : Die) {f : Fld} (h : x.get f + 1 < 2 ^ f.width) : (x.count f).get f = x.get f + 1 := by
  rw [Die.count, Nat.min_eq_left (by omega), Die.get_set_of_lt x h]

section
variable {s : State} {d : DieId} (hr : s.running d) {start t : Nat}
include hr

/-- An urgent request to a converter without an urgent run, which makes `w` of the main run. -/
theorem fcvUrgGo_begins (hon : (s.die d).fcvOn = true) (hurg : (s.die d).get F.FCV_STATE_URG = 0) (hstart : start < 64)
    {w : Die} (hw : ((s.fresh d).urgentAsked start).yieldMain s.now = w) (L : List Fld)
    (hall : (s.fresh d).OnFcv L [] w) (hu : F.FCV_STATE_URG ∈ L) (hL : ∀ f ∈ shownFields, f ∈ L) :
    Effect (.fcvUrgGo d start) d s (fun y => y.get F.FCV_STATE_URG = 1 ∧ y.get F.FCV_URG_START = w.get F.FCV_URG_START ∧
      y.get F.FCV_STATE_MAIN = w.get F.FCV_STATE_MAIN ∧ y.fcv =
        { w.fcv with urgEntry := start, urgTrig := false, comp := (s.die d).fieldComp,
                     nextAt := some (w.fcv.nextAt.getD (convEdge s.now 10)) } ∧
      y.on (F.STAT_BUSY 0x38) = true ∧ ({ s.die d with fcv := y.fcv } : Die).only L [] y) := by
  have hgo : ((s.fresh d).urgentAsked start).urgentGo false s.now =
      (w.urgentBegun ((s.fresh d).urgentAsked start) false s.now).showFcv s.now := by
    rw [← hw]
    refine Die.urgentGo_begins (by simpa using hon) ?_
    rwa [Die.urgentAsked_get _ (by decide)]
  have hbegun : (s.fresh d).OnFcv L [] ((w.urgentBegun ((s.fresh d).urgentAsked start) false s.now).showFcv s.now) :=
    .showFcv hL (.urgentBegun hu hall)
  refine fieldConverter_effect rfl hr hgo hbegun ⟨?_, ?_, ?_, ?_, ?_, hbegun.settled_only⟩
  · rw [Die.settled_get, Die.showFcv_get _ _ (by decide), Die.urgentBegun_state]
  · rw [Die.settled_get, Die.showFcv_get _ _ (by decide), Die.urgentBegun_get _ _ _ _ (by decide)]
  · rw [Die.settled_get, Die.showFcv_get _ _ (by decide), Die.urgentBegun_get _ _ _ _ (by decide)]
  · simp [Die.urgentBegun, Die.urgentAsked_start _ hstart, Die.firstSample]
  · rw [Die.settled_on, Die.showFcv_busy, Die.urgentBegun_inRun]

theorem fcvUrgGo_alone (hon : (s.die d).fcvOn = true) (hurg : (s.die d).get F.FCV_STATE_URG = 0) (hstart : start < 64)
    (hmain : (s.die d).get F.FCV_STATE_MAIN ≠ 2) :
    Effect (.fcvUrgGo d start) d s (fun y => y.get F.FCV_STATE_URG = 1 ∧ y.get F.FCV_URG_START = start ∧
      y.get F.FCV_STATE_MAIN = (s.die d).get F.FCV_STATE_MAIN ∧ y.fcv =
        { (s.die d).fcv with urgEntry := start, urgTrig := false, comp := (s.die d).fieldComp,
                             nextAt := some ((s.die d).fcv.nextAt.getD (convEdge s.now 10)) } ∧
      y.on (F.STAT_BUSY 0x38) = true ∧ ({ s.die d with fcv := y.fcv } : Die).only [F.FCV_STATE_URG, F.FCV_URG_START,
        F.FCV_STATE_ENTRY, F.STAT_IDLE 0x38, F.STAT_BUSY 0x38] [] y) := by
  have hw : ((s.fresh d).urgentAsked start).yieldMain s.now = (s.fresh d).urgentAsked start :=
    Die.yieldMain_idle (by rwa [Die.urgentAsked_get _ (by decide)])
  have h := fcvUrgGo_begins hr hon hurg hstart hw
    [F.FCV_STATE_URG, F.FCV_URG_START, F.FCV_STATE_ENTRY, F.STAT_IDLE 0x38, F.STAT_BUSY 0x38]
    (.urgentAsked _ (by decide) (.refl _ _ _)) (by decide) (by decide)
  rwa [Die.urgentAsked_start _ hstart, Die.urgentAsked_get _ (by decide)] at h

/-- A main run whose next sample is at least 20 ns off is suspended, and its visit is dropped (R252). -/
theorem fcvUrgGo_suspends (hon : (s.die d).fcvOn = true) (hurg : (s.die d).get F.FCV_STATE_URG = 0) (hstart : start < 64)
    (hmain : (s.die d).get F.FCV_STATE_MAIN = 2) (hat : (s.die d).fcv.mainAt ≠ some s.now) (hnext : (s.die d).fcv.nextAt = some t)
    (hlater : s.now + 5 ≤ t) :
    Effect (.fcvUrgGo d start) d s (fun y => y.get F.FCV_STATE_URG = 1 ∧ y.get F.FCV_URG_START = start ∧
      y.get F.FCV_STATE_MAIN = 3 ∧
      y.fcv = { (s.die d).fcv with urgEntry := start, urgTrig := false, comp := (s.die d).fieldComp, visit := none } ∧
      ({ s.die d with fcv := y.fcv } : Die).only urgentFields [] y) := by
  have hw : ((s.fresh d).urgentAsked start).yieldMain s.now =
      (((s.fresh d).urgentAsked start).set F.FCV_STATE_MAIN 3).onFcv fun f => { f with visit := none } :=
    Die.yieldMain_suspended (by rwa [Die.urgentAsked_get _ (by decide)]) hat hnext hlater
  obtain ⟨r, hexec, heq, hstate, hasked, hmain', hfcv, -, honly⟩ := fcvUrgGo_begins hr hon hurg hstart hw urgentFields
    (.onFcv <| .set (by decide) <| .urgentAsked _ (by decide) <| .refl _ _ _) (by decide) (by decide)
  refine ⟨r, hexec, heq, hstate, hasked.trans ?_, hmain'.trans ?_, hfcv.trans ?_, honly⟩
  · rw [Die.onFcv_get, Die.get_set_ne _ _ (by decide) (by decide), Die.urgentAsked_start _ hstart]
  · rw [Die.onFcv_get, Die.get_set_of_lt _ (by decide)]
  · simp [hnext]

/-- A main run whose own request landed in the same PERI cycle is held (R253). -/
theorem fcvUrgGo_holds (hon : (s.die d).fcvOn = true) (hurg : (s.die d).get F.FCV_STATE_URG = 0) (hstart : start < 64)
    (hmain : (s.die d).get F.FCV_STATE_MAIN = 2) (hat : (s.die d).fcv.mainAt = some s.now) :
    Effect (.fcvUrgGo d start) d s (fun y => y.get F.FCV_STATE_URG = 1 ∧ y.get F.FCV_URG_START = start ∧
      y.get F.FCV_STATE_MAIN = 4 ∧ y.fcv =
        { (s.die d).fcv with urgEntry := start, urgTrig := false, comp := (s.die d).fieldComp,
                             heldTrig := (s.die d).fcv.mainTrig, visit := none,
                             nextAt := some ((s.die d).fcv.nextAt.getD (convEdge s.now 10)) } ∧
      ({ s.die d with fcv := y.fcv } : Die).only urgentFields [] y) := by
  have hw : ((s.fresh d).urgentAsked start).yieldMain s.now = (((s.fresh d).urgentAsked start).set F.FCV_STATE_MAIN 4).onFcv
      fun f => { f with heldTrig := f.mainTrig, visit := none } :=
    Die.yieldMain_held (by rwa [Die.urgentAsked_get _ (by decide)]) hat
  obtain ⟨r, hexec, heq, hstate, hasked, hmain', hfcv, -, honly⟩ := fcvUrgGo_begins hr hon hurg hstart hw urgentFields
    (.onFcv <| .set (by decide) <| .urgentAsked _ (by decide) <| .refl _ _ _) (by decide) (by decide)
  refine ⟨r, hexec, heq, hstate, hasked.trans ?_, hmain'.trans ?_, hfcv, honly⟩
  · rw [Die.onFcv_get, Die.get_set_ne _ _ (by decide) (by decide), Die.urgentAsked_start _ hstart]
  · rw [Die.onFcv_get, Die.get_set_of_lt _ (by decide)]

/-- A main run whose last sample falls before has ended when the urgent run begins (R252). -/
theorem fcvUrgGo_lets (hon : (s.die d).fcvOn = true) (hurg : (s.die d).get F.FCV_STATE_URG = 0) (hstart : start < 64)
    (hmain : (s.die d).get F.FCV_STATE_MAIN = 2) (hat : (s.die d).fcv.mainAt ≠ some s.now) (hnext : (s.die d).fcv.nextAt = some t)
    (hsoon : t < s.now + 5) (hmode : (s.die d).fcv.mode = 0) (hlast : ((s.die d).visitNow (s.die d).fcv.mainEntry).last = true)
    (htaken : ((s.die d).visitNow (s.die d).fcv.mainEntry).taken + 1 = ((s.die d).visitNow (s.die d).fcv.mainEntry).samples) :
    Effect (.fcvUrgGo d start) d s (fun y => y.get F.FCV_STATE_URG = 1 ∧ y.get F.FCV_STATE_MAIN = 0 ∧ y.fcv.urgEntry = start ∧
      y.fcv.due.length = (s.die d).fcv.due.length + 1 ∧ y.fcv.visit = none ∧
      ({ s.die d with fcv := y.fcv } : Die).only urgentFields [] y) := by
  obtain ⟨hover, hvisit, hdue⟩ := Die.yieldMain_ended (x := (s.fresh d).urgentAsked start) (now := s.now) (t := t)
    (by rwa [Die.urgentAsked_get _ (by decide)]) (by rwa [Die.urgentAsked_get _ (by decide)]) hat hnext hsoon hmode
    (by rwa [Die.urgentAsked_visitNow]) (by rwa [Die.urgentAsked_visitNow])
  obtain ⟨r, hexec, heq, hstate, -, hmain', hfcv, -, honly⟩ := fcvUrgGo_begins hr hon hurg hstart rfl urgentFields
    (.yieldMain (by decide) (by decide) <| .urgentAsked _ (by decide) <| .refl _ _ _) (by decide) (by decide)
  refine ⟨r, hexec, heq, hstate, hmain'.trans hover, ?_, ?_, ?_, honly⟩
  · rw [hfcv]
  · rw [hfcv]; exact hdue
  · rw [hfcv]; exact hvisit

theorem fcvUrgGo_second (hon : (s.die d).fcvOn = true) (hurg : (s.die d).get F.FCV_STATE_URG = 1) :
    Effect (.fcvUrgGo d start) d s (fun y => y.get F.FCV_STATE_URG = 2 ∧ y.fcv = { (s.die d).fcv with nextTrig := false } ∧
      ({ s.die d with fcv := y.fcv } : Die).only [F.FCV_STATE_URG, F.FCV_URG_START] [] y) := by
  have hgo : ((s.fresh d).urgentAsked start).urgentGo false s.now =
      (((s.fresh d).urgentAsked start).set F.FCV_STATE_URG 2).onFcv fun f => { f with nextTrig := false } := by
    refine Die.urgentGo_held (by simpa using hon) ?_
    rwa [Die.urgentAsked_get _ (by decide)]
  have hall : (s.fresh d).OnFcv [F.FCV_STATE_URG, F.FCV_URG_START] []
      ((((s.fresh d).urgentAsked start).set F.FCV_STATE_URG 2).onFcv fun f => { f with nextTrig := false }) :=
    .onFcv <| .set (by decide) <| .urgentAsked _ (by decide) <| .refl _ _ _
  refine fieldConverter_effect rfl hr hgo hall ⟨?_, by simp, hall.settled_only⟩
  rw [Die.settled_get, Die.onFcv_get, Die.get_set_of_lt _ (by decide)]

theorem fcvUrgGo_third (hon : (s.die d).fcvOn = true) (hurg : (s.die d).get F.FCV_STATE_URG = 2) :
    Effect (.fcvUrgGo d start) d s (fun y => y.get F.FCV_STATE_URG = 2 ∧
      ((s.die d).get F.FCV_CNT2_URG_MERGED < 65535 → y.get F.FCV_CNT2_URG_MERGED = (s.die d).get F.FCV_CNT2_URG_MERGED + 1) ∧
      (s.die d).only [F.FCV_CNT2_URG_MERGED, F.FCV_URG_START] [] y) := by
  have hgo : ((s.fresh d).urgentAsked start).urgentGo false s.now =
      ((s.fresh d).urgentAsked start).count F.FCV_CNT2_URG_MERGED := by
    refine Die.urgentGo_merged (by simpa using hon) ?_
    rwa [Die.urgentAsked_get _ (by decide)]
  have hall : (s.fresh d).OnFcv [F.FCV_CNT2_URG_MERGED, F.FCV_URG_START] []
      (((s.fresh d).urgentAsked start).count F.FCV_CNT2_URG_MERGED) :=
    .count (by decide) <| .urgentAsked _ (by decide) <| .refl _ _ _
  refine fieldConverter_effect rfl hr hgo hall ⟨?_, fun hroom => ?_, hall.settled_only_same rfl⟩
  · rw [Die.settled_get, Die.count, Die.get_set_ne _ _ (by decide) (by decide), Die.urgentAsked_get _ (by decide), State.fresh_get,
      hurg]
  · rw [Die.settled_get, Die.count_get_of_lt, Die.urgentAsked_get _ (by decide), State.fresh_get]
    rw [Die.urgentAsked_get _ (by decide), State.fresh_get]
    exact Nat.succ_lt_succ hroom

end

/-! ### Edges of FTRIG and ticks of the period timer (R249, R250) -/

/-- An edge of FTRIG is one of those that TRIG_EDGE names. -/
def Die.edgeSeen (x : Die) (rising : Bool) : Bool :=
  x.get F.FCV_TRIG_EDGE = 3 || (x.get F.FCV_TRIG_EDGE = 1 && rising) || (x.get F.FCV_TRIG_EDGE = 2 && !rising)

/-- What an edge of FTRIG does to a die. -/
def Die.triggerEdge (x : Die) (rising : Bool) (now : Nat) : Die :=
  if !x.edgeSeen rising || !x.fcvOn || x.boot.banks.getLsbD 1 then x
  else if x.on F.FCV_TRIG_DEST then x.urgentGo true now
  else if x.fcv.mode = 2 && x.get F.FCV_STATE_MAIN != 0 then (x.requestMain true now).showFcv now
  else x

/-- What a tick of the period timer does to a die. -/
def Die.periodTick (x : Die) (now : Nat) : Die :=
  if x.fcv.mode = 1 && x.get F.FCV_STATE_MAIN != 0 && x.fcvOn then (x.requestMain false now).showFcv now else x

theorem exec_ftrigEdge (d : DieId) (rising : Bool) (s : State) :
    exec (.ftrigEdge d rising) s = onDie d s fun env x => x.triggerEdge rising env.now := rfl

theorem exec_fcvPeriodTick (d : DieId) (s : State) :
    exec (.fcvPeriodTick d) s = onDie d s fun env x => x.periodTick env.now := rfl

section
variable {x : Die} {rising : Bool} {now : Nat}

theorem Die.edgeSeen_of_direction (h : x.get F.FCV_TRIG_EDGE = if rising then 1 else 2) : x.edgeSeen rising = true := by
  cases rising <;> simp_all [Die.edgeSeen]

theorem Die.edgeSeen_of_other (h : x.get F.FCV_TRIG_EDGE = if rising then 2 else 1) : x.edgeSeen rising = false := by
  cases rising <;> simp_all [Die.edgeSeen]

theorem Die.triggerEdge_urgent (hon : x.fcvOn = true) (hbank : x.boot.banks.getLsbD 1 = false) (hseen : x.edgeSeen rising = true)
    (hdest : x.on F.FCV_TRIG_DEST = true) : x.triggerEdge rising now = x.urgentGo true now := by
  unfold Die.triggerEdge
  rw [hseen, hon, hbank, hdest]
  rfl

theorem Die.triggerEdge_main (hon : x.fcvOn = true) (hbank : x.boot.banks.getLsbD 1 = false) (hseen : x.edgeSeen rising = true)
    (hdest : x.on F.FCV_TRIG_DEST = false) (hmode : x.fcv.mode = 2) (hmain : x.get F.FCV_STATE_MAIN ≠ 0) :
    x.triggerEdge rising now = (x.requestMain true now).showFcv now := by
  unfold Die.triggerEdge
  rw [hseen, hon, hbank, hdest, hmode, show (x.get F.FCV_STATE_MAIN != 0) = true by simp [hmain]]
  rfl

theorem Die.triggerEdge_unseen (h : x.edgeSeen rising = false ∨ x.fcvOn = false) : x.triggerEdge rising now = x := by
  rcases h with h | h <;> simp [Die.triggerEdge, h]

theorem Die.periodTick_requests (hon : x.fcvOn = true) (hmode : x.fcv.mode = 1) (hmain : x.get F.FCV_STATE_MAIN ≠ 0) :
    x.periodTick now = (x.requestMain false now).showFcv now := by
  simp [Die.periodTick, hon, hmode, hmain]

end

section
variable {s : State} {d : DieId} (hr : s.running d) {rising : Bool}
include hr

theorem ftrigEdge_urgent (hon : (s.die d).fcvOn = true) (hbank : (s.die d).boot.banks.getLsbD 1 = false)
    (hedge : (s.die d).get F.FCV_TRIG_EDGE = if rising then 1 else 2) (hdest : (s.die d).on F.FCV_TRIG_DEST = true)
    (hurg : (s.die d).get F.FCV_STATE_URG = 0) :
    Effect (.ftrigEdge d rising) d s (fun y => y.get F.FCV_STATE_URG = 1 ∧ y.fcv.urgTrig = true ∧
      y.fcv.urgEntry = (s.die d).get F.FCV_URG_START ∧
      ((s.die d).get F.FCV_STATE_MAIN ≠ 2 → (s.die d).fcv.nextAt = none →
        y.fcv.nextAt = some (convEdge s.now (15 + 5 * (s.die d).get F.FCV_TRIG_DELAY))) ∧
      ({ s.die d with fcv := y.fcv } : Die).only [F.FCV_STATE_MAIN, F.FCV_STATE_URG, F.FCV_STATE_ENTRY, F.STAT_IDLE 0x38,
        F.STAT_BUSY 0x38] [] y) := by
  have hy : (s.fresh d).triggerEdge rising s.now =
      (((s.fresh d).yieldMain s.now).urgentBegun (s.fresh d) true s.now).showFcv s.now :=
    (Die.triggerEdge_urgent (x := s.fresh d) hon hbank (Die.edgeSeen_of_direction hedge) hdest).trans
      (Die.urgentGo_begins (x := s.fresh d) hon hurg)
  have hall : (s.fresh d).OnFcv
      [F.FCV_STATE_MAIN, F.FCV_STATE_URG, F.FCV_STATE_ENTRY, F.STAT_IDLE 0x38, F.STAT_BUSY 0x38] []
      ((((s.fresh d).yieldMain s.now).urgentBegun (s.fresh d) true s.now).showFcv s.now) :=
    .showFcv (by decide) <| .urgentBegun (by decide) <| .yieldMain (by decide) (by decide) <| .refl _ _ _
  refine fieldConverter_effect (exec_ftrigEdge d rising s) hr hy hall ⟨?_, rfl, rfl, fun hmain hnext => ?_, hall.settled_only⟩
  · rw [Die.settled_get, Die.showFcv_get _ _ (by decide), Die.urgentBegun_state]
  · rw [Die.yieldMain_idle (x := s.fresh d) hmain]
    simp [Die.urgentBegun, hnext, Die.firstSample]

/-- R250: an edge starts the main run that waits for it. -/
theorem ftrigEdge_main (hon : (s.die d).fcvOn = true) (hbank : (s.die d).boot.banks.getLsbD 1 = false)
    (hedge : (s.die d).get F.FCV_TRIG_EDGE = 3) (hdest : (s.die d).on F.FCV_TRIG_DEST = false) (hmode : (s.die d).fcv.mode = 2)
    (hmain : (s.die d).get F.FCV_STATE_MAIN = 1) (hurg : (s.die d).get F.FCV_STATE_URG = 0) :
    Effect (.ftrigEdge d rising) d s (fun y => y.get F.FCV_STATE_MAIN = 2 ∧ y.fcv.mainTrig = true ∧
      y.fcv.mainEntry = (s.die d).get F.FCV_MAIN_START ∧
      y.fcv.nextAt = some (convEdge s.now (15 + 5 * (s.die d).get F.FCV_TRIG_DELAY)) ∧
      ({ s.die d with fcv := y.fcv } : Die).only [F.FCV_STATE_MAIN, F.FCV_STATE_ENTRY, F.STAT_IDLE 0x38,
        F.STAT_BUSY 0x38] [] y) := by
  have hmain' : (s.fresh d).get F.FCV_STATE_MAIN = 1 := hmain
  have hseen : (s.fresh d).edgeSeen rising = true := by simp [Die.edgeSeen, hedge]
  have hy : (s.fresh d).triggerEdge rising s.now = ((s.fresh d).mainBegun true s.now).showFcv s.now := by
    rw [Die.triggerEdge_main (x := s.fresh d) hon hbank hseen hdest hmode (by omega),
      Die.requestMain_begins (x := s.fresh d) (by omega) hurg]
  have hall : (s.fresh d).OnFcv [F.FCV_STATE_MAIN, F.FCV_STATE_ENTRY, F.STAT_IDLE 0x38, F.STAT_BUSY 0x38] []
      (((s.fresh d).mainBegun true s.now).showFcv s.now) :=
    .showFcv (by decide) <| .mainBegun (by decide) <| .refl _ _ _
  refine fieldConverter_effect (exec_ftrigEdge d rising s) hr hy hall ⟨?_, rfl, rfl, rfl, hall.settled_only⟩
  rw [Die.settled_get, Die.showFcv_get _ _ (by decide), Die.mainBegun_state]

theorem ftrigEdge_unseen
    (h : (s.die d).get F.FCV_TRIG_EDGE = (if rising then 2 else 1) ∨ (s.die d).fcvOn = false) :
    Effect (.ftrigEdge d rising) d s (fun y => (s.die d).only [] [] y) :=
  nothing_effect (exec_ftrigEdge d rising s) hr (Die.triggerEdge_unseen (h.imp Die.edgeSeen_of_other id))

theorem fcvPeriodTick_begins (hon : (s.die d).fcvOn = true) (hmode : (s.die d).fcv.mode = 1)
    (hmain : (s.die d).get F.FCV_STATE_MAIN = 1) (hurg : (s.die d).get F.FCV_STATE_URG = 0) :
    Effect (.fcvPeriodTick d) d s (fun y => y.get F.FCV_STATE_MAIN = 2 ∧ y.fcv.mainEntry = (s.die d).get F.FCV_MAIN_START ∧
      y.on (F.STAT_BUSY 0x38) = true ∧ ({ s.die d with fcv := y.fcv } : Die).only [F.FCV_STATE_MAIN, F.FCV_STATE_ENTRY,
        F.STAT_IDLE 0x38, F.STAT_BUSY 0x38] [] y) := by
  have hmain' : (s.fresh d).get F.FCV_STATE_MAIN = 1 := hmain
  have hy : (s.fresh d).periodTick s.now = ((s.fresh d).mainBegun false s.now).showFcv s.now := by
    rw [Die.periodTick_requests (x := s.fresh d) hon hmode (by omega), Die.requestMain_begins (x := s.fresh d) (by omega) hurg]
  have hall : (s.fresh d).OnFcv [F.FCV_STATE_MAIN, F.FCV_STATE_ENTRY, F.STAT_IDLE 0x38, F.STAT_BUSY 0x38] []
      (((s.fresh d).mainBegun false s.now).showFcv s.now) :=
    .showFcv (by decide) <| .mainBegun (by decide) <| .refl _ _ _
  refine fieldConverter_effect (exec_fcvPeriodTick d s) hr hy hall ⟨?_, rfl, ?_, hall.settled_only⟩
  · rw [Die.settled_get, Die.showFcv_get _ _ (by decide), Die.mainBegun_state]
  · rw [Die.settled_on, Die.showFcv_busy, Die.mainBegun_inRun]

theorem fcvPeriodTick_overruns (hon : (s.die d).fcvOn = true) (hmode : (s.die d).fcv.mode = 1)
    (hmain : (s.die d).get F.FCV_STATE_MAIN = 2) :
    Effect (.fcvPeriodTick d) d s (fun y => y.pends 387 = true ∧ y.get F.FCV_STATE_MAIN = 2 ∧
      ((s.die d).get F.FCV_CNT1_OVERRUN < 65535 → y.get F.FCV_CNT1_OVERRUN = (s.die d).get F.FCV_CNT1_OVERRUN + 1) ∧
      (s.die d).only [F.FCV_CNT1_OVERRUN, F.FCV_STATE_ENTRY, F.STAT_IDLE 0x38, F.STAT_BUSY 0x38] [387] y) := by
  have hmain' : (s.fresh d).get F.FCV_STATE_MAIN = 2 := hmain
  have hbusy : (s.fresh d).mainBusy = ((s.fresh d).count F.FCV_CNT1_OVERRUN).fire 387 := by simp [Die.mainBusy, hmode]
  have hy : (s.fresh d).periodTick s.now = (((s.fresh d).count F.FCV_CNT1_OVERRUN).fire 387).showFcv s.now := by
    rw [Die.periodTick_requests (x := s.fresh d) hon hmode (by omega), Die.requestMain_busy hmain', hbusy]
  have hall : (s.fresh d).OnFcv [F.FCV_CNT1_OVERRUN, F.FCV_STATE_ENTRY, F.STAT_IDLE 0x38, F.STAT_BUSY 0x38] [387]
      ((((s.fresh d).count F.FCV_CNT1_OVERRUN).fire 387).showFcv s.now) :=
    .showFcv (by decide) <| .fire (by decide) <| .count (by decide) <| .refl _ _ _
  refine fieldConverter_effect (exec_fcvPeriodTick d s) hr hy hall ⟨?_, ?_, fun hroom => ?_, hall.settled_only_same ?_⟩
  · rw [Die.settled_pends, Die.showFcv_pends, Die.fire_pends _ (by decide)]
  · rw [Die.settled_get, Die.showFcv_get _ _ (by decide), Die.fire_get _ _ (by decide), Die.count,
      Die.get_set_ne _ _ (by decide) (by decide), hmain']
  · rw [Die.settled_get, Die.showFcv_get _ _ (by decide), Die.fire_get _ _ (by decide),
      Die.count_get_of_lt (s.fresh d) (Nat.succ_lt_succ hroom), State.fresh_get]
  · rw [Die.showFcv_fcv, Die.fire_fcv]; rfl

/-! ### URGENT_RUN_END (R252) -/

theorem urgentRunEnd_resumes {volts : List Int} (hruns : (s.die d).fcvRuns = true) (hurg : (s.die d).get F.FCV_STATE_URG = 1)
    (hmain : (s.die d).get F.FCV_STATE_MAIN = 3) (hlast : ((s.die d).visitNow (s.die d).fcv.urgEntry).last = true)
    (henough : ((s.die d).visitNow (s.die d).fcv.urgEntry).samples ≤ volts.length) :
    Effect (.urgentRunEnd d volts) d s (fun y => y.get F.FCV_STATE_URG = 0 ∧ y.get F.FCV_STATE_MAIN = 2 ∧
      y.fcv.mainEntry = (s.die d).fcv.mainEntry ∧ y.fcv.due = (s.die d).fcv.due ++
        [(s.die d).ended { (s.die d).visitNow (s.die d).fcv.urgEntry with
            taken := ((s.die d).visitNow (s.die d).fcv.urgEntry).samples } true (s.die d).fcv.urgTrig false s.now (some volts)] ∧
      ({ s.die d with fcv := y.fcv } : Die).only [F.FCV_STATE_MAIN, F.FCV_STATE_URG, F.FCV_STATE_ENTRY, F.STAT_IDLE 0x38,
        F.STAT_BUSY 0x38] [] y) := by
  have hurg' : (s.fresh d).get F.FCV_STATE_URG = 1 := hurg
  have hrun := Die.fcvRun_urgent (x := s.fresh d) (by omega)
  have hend := (Die.forceEnd_ends (t := s.now) hrun hruns henough).trans
    (Die.endVisit_resumes (by rwa [Die.takeSamples_fcvRun]) (by rwa [Die.takeSamples_get]) (by rwa [Die.takeSamples_get]) hlast)
  have hgo : ((s.fresh d).get F.FCV_STATE_URG != 0 && ((s.fresh d).visitNow (s.fresh d).fcv.urgEntry).last) = true := by
    rw [hurg', State.fresh_visitNow, State.fresh_fcv, hlast]; rfl
  have hall : (s.fresh d).OnFcv [F.FCV_STATE_MAIN, F.FCV_STATE_URG, F.FCV_STATE_ENTRY, F.STAT_IDLE 0x38, F.STAT_BUSY 0x38] []
      (((s.fresh d).forceEnd s.now volts).showFcv s.now) :=
    .showFcv (by decide) <| .forceEnd (by decide) (by decide) <| .refl _ _ _
  refine fieldConverter_effect (y := ((s.fresh d).forceEnd s.now volts).showFcv s.now) rfl hr (if_pos hgo) hall
    ⟨?_, ?_, ?_, ?_, hall.settled_only⟩
  · rw [Die.settled_get, Die.showFcv_get _ _ (by decide), hend, Die.get_set_ne _ _ (by decide) (by decide),
      Die.get_set_of_lt _ (by decide)]
  · rw [Die.settled_get, Die.showFcv_get _ _ (by decide), hend, Die.get_set_of_lt _ (by decide)]
  · rw [Die.settled_fcvState, Die.showFcv_fcv, hend]
    simp [Die.visitOver]
  · rw [Die.settled_fcvState, Die.showFcv_fcv, hend]
    simp [Die.visitOver]
    rfl

end

/-- Settles O36: a request, a stop or a trigger is one change of the run's state by the table of its mode, and the fields that
show the run follow that state. -/
theorem fieldConverterRuns : Obligations.FieldConverterRuns := by
  unfold Obligations.FieldConverterRuns
  rintro s d start mode rising volts t x hr rfl
  exact ⟨fcvMainGo_begins hr, fcvMainGo_arms hr, fcvMainGo_refused hr, fcvMainGo_off hr, fcvMainStop_effect hr, fcvUrgGo_alone hr,
    fcvUrgGo_suspends hr, fcvUrgGo_lets hr, fcvUrgGo_holds hr, fcvUrgGo_second hr, fcvUrgGo_third hr, ftrigEdge_urgent hr,
    ftrigEdge_main hr, ftrigEdge_unseen hr, fcvPeriodTick_begins hr, fcvPeriodTick_overruns hr, urgentRunEnd_resumes hr⟩

end Sys2Proof.Machine

/-! A statement on the field converter that fails in this model: the state and the command that refute it. -/

namespace Sys2Proof.Machine

/-! ### A read of the queue at which an event fires (O37) -/

/-- The queue of Die A's field converter holds two entries, of which FCV_QCFG.WMARK asks one, and event 389 is enabled and its
vector not masked (R39); the event's condition is not shown. -/
def watermarkUnshown : State :=
  { dieA := { ((({} : Die).set F.FCV_QCFG_WMARK 1).onFcv fun f => { f with queue := [7, 8] }) with
              evEn := BitVec.twoPow 640 389, msixMask := 0 } }

theorem watermarkUnshown_read :
    afterOnDieA Die.out (exec (.fcvQueueRead .a .pcie) watermarkUnshown) = some [.msix 4, .readData .pcie 7] := by
  decide +kernel

/-- Refutes O37: its clause of FCV_QUEUE_READ says that the die sends the word read and nothing else, while it lets the read fire
event 389. The statement is for every state; in `watermarkUnshown`, which no change of the queue leaves behind, the queue has reached
its watermark and the condition of event 389 is not shown. The read brings it up to date, and the event tells the host with an MSI-X
message (R34, R39). -/
theorem not_fieldConverterResults : ¬ Obligations.FieldConverterResults := by
  unfold Obligations.FieldConverterResults
  intro h
  obtain ⟨-, -, -, hread, -⟩ :=
    h watermarkUnshown .a [] (({} : Die).ended (({} : Die).newVisit 0) false false false 0 none)
      { entry := 0, ch := 0, gain := 0, diff := false, value := 0, urgent := false, invalid := false, part := false, ovr := false,
        trig := false, queued := false, time := 0, last := false } .pcie 7 [8] _ (by decide) rfl
  obtain ⟨t, ht, -, -, hout, -⟩ := hread rfl
  have heval := watermarkUnshown_read
  rw [ht, afterOnDieA_next] at heval
  have hlength := congrArg List.length (hout.symm.trans (Option.some.inj heval))
  exact absurd hlength (by decide)

end Sys2Proof.Machine

/-! A statement on the loops that fails in this model: the state and the command that refute it. -/

namespace Sys2Proof.Machine

/-! ### A loop that CLO_HTR has enabled (O38) -/

/-- Die A's blade heater runs on loop 0, which CLO_HTR enables (R159) with LOOP0_CFG at its reset values: EN and OUT are 0. -/
def bladeHeaterOn : State := { dieA := ({} : Die).set F.CLO_HTR_EN 1 }

theorem bladeHeaterOn_enable :
    afterOnDieA (fun y => (y.on (F.LOOP_CFG_EN 0), y.pends (accErrOf 0x39))) (exec (.loopEnable .a 0 0x80000005) bladeHeaterOn) =
      some (false, true) := by
  decide +kernel

/-- Refutes O38: its clause of LOOP_ENABLE asks that LOOPn_CFG.EN is 0, and that does not say that the loop is not enabled. In
`bladeHeaterOn` the Cloche's heater has enabled loop 0, so the write that names output 5 for it changes a field of an enabled
loop: it is ignored and raises ACC_ERR (R266), although output 5 is free. -/
theorem not_loopsAndPwm : ¬ Obligations.LoopsAndPwm := by
  unfold Obligations.LoopsAndPwm
  intro h
  obtain ⟨-, -, -, -, -, henable, -⟩ :=
    h bladeHeaterOn .a 0 0 0 0 5 0x80000005 0 { bits := 0, tie := false } 0 _ (by decide) rfl
  obtain ⟨t, ht, henabled, -⟩ :=
    henable rfl (by decide) (by decide) (by decide) (by decide) (by decide) (by decide)
  have heval := bladeHeaterOn_enable
  rw [ht, afterOnDieA_next] at heval
  exact absurd (henabled.symm.trans (Prod.mk.inj (Option.some.inj heval)).1) (by decide)

end Sys2Proof.Machine

/-! The lamps (R276 to R283): what the LED block changes of its own, and what its channels are driven by. -/

namespace Sys2Proof.Machine

/-! ### Folds -/

section
variable {α β : Type} {g : α → β → α} {x : α} {l : List β}

/-- A fold whose every step leaves its start as it is. -/
theorem foldl_still (h : ∀ b ∈ l, g x b = x) : l.foldl g x = x := by
  induction l with
  | nil => rfl
  | cons b r ih =>
    rw [List.foldl_cons, h b List.mem_cons_self]
    exact ih fun c hc => h c (List.mem_cons_of_mem _ hc)

/-- A fold in which only the step of `k` changes anything. -/
theorem foldl_single {k : β} (hn : l.Nodup) (hk : k ∈ l) (hbefore : ∀ b ∈ l, b ≠ k → g x b = x)
    (hafter : ∀ b ∈ l, b ≠ k → g (g x k) b = g x k) : l.foldl g x = g x k := by
  induction l with
  | nil => cases hk
  | cons b r ih =>
    obtain ⟨hb, hr⟩ := List.nodup_cons.1 hn
    rw [List.foldl_cons]
    by_cases h : b = k
    · subst h
      exact foldl_still fun c hc => hafter c (List.mem_cons_of_mem _ hc) (fun e => hb (e ▸ hc))
    · rw [hbefore b List.mem_cons_self h]
      exact ih hr ((List.mem_cons.1 hk).resolve_left (Ne.symm h)) (fun c hc => hbefore c (List.mem_cons_of_mem _ hc))
        (fun c hc => hafter c (List.mem_cons_of_mem _ hc))

/-- A fold that keeps `P` and in which the step of `k` brings about `Q`, which the other steps keep. -/
theorem foldl_reaches {P Q : α → Prop} {k : β} (hP : ∀ z, ∀ b ∈ l, P z → P (g z b)) (hk : ∀ z, P z → Q (g z k))
    (hQ : ∀ z, ∀ b ∈ l, b ≠ k → P z → Q z → Q (g z b)) (hx : P x) (hm : k ∈ l ∨ Q x) : P (l.foldl g x) ∧ Q (l.foldl g x) := by
  induction l generalizing x with
  | nil => exact ⟨hx, hm.resolve_left List.not_mem_nil⟩
  | cons b r ih =>
    refine ih (fun z c hc => hP z c (List.mem_cons_of_mem _ hc)) (fun z c hc => hQ z c (List.mem_cons_of_mem _ hc))
      (hP x b List.mem_cons_self hx) ?_
    by_cases h : b = k
    · exact .inr (h ▸ hk x hx)
    · exact hm.imp (fun hm => (List.mem_cons.1 hm).resolve_left (Ne.symm h)) (hQ x b List.mem_cons_self h hx)

end

/-! ### Fields of the LED page -/

/-- A field of the LED page or of a later one steers no Reset and does not show the MP's queue. -/
theorem Fld.plain_of_lamps {f : Fld} (h : 0x3B * 0x20000 ≤ f.key) : f.steers = false ∧ f.showsQueue = false := by
  have hlow : ∀ g ∈ [F.SYS_IDENT_DIE, F.SEQ_LIMITS_EXPORT, F.PRC_EVQ_FILL, F.PRC_MP_LOAD_PEAK, F.PRC_EVQ_MERGED, F.PRC_MP_LOAD_OVF],
      g.key < 0x3B * 0x20000 := by decide
  have hne : ∀ g ∈ [F.SYS_IDENT_DIE, F.SEQ_LIMITS_EXPORT, F.PRC_EVQ_FILL, F.PRC_MP_LOAD_PEAK, F.PRC_EVQ_MERGED, F.PRC_MP_LOAD_OVF],
      f.key ≠ g.key := fun g hg => (Nat.lt_of_lt_of_le (hlow g hg) h).ne'
  simp only [List.forall_mem_cons] at hne
  obtain ⟨hdie, hexport, hfill, hpeak, hmerged, hovf, -⟩ := hne
  simp [Fld.steers, Fld.showsQueue, hdie, hexport, hfill, hpeak, hmerged, hovf]

/-! ### What the LED block changes of its own -/

/-- The die behind its registers, but for the LED block's own state. -/
def Die.butLed (x : Die) : Die := { x.hidden with led := {} }

theorem Die.butLed_of_hidden {x y : Die} (h : y.hidden = x.hidden) : y.butLed = x.butLed := by simp [Die.butLed, h]

/-- `y` is `x` but for the LED block's own state, the fields `L` and the events `E`, and leaves no DRAM write. -/
structure Die.OnLed (x : Die) (L : List Fld) (E : List Nat) (y : Die) : Prop where
  regs : x.Regs L E y
  behind : y.butLed = x.butLed
  wr : y.wr = x.wr
  dramCut : y.dramCut = x.dramCut

section
variable {x y : Die} {L : List Fld} {E : List Nat}

theorem Die.OnLed.refl (x : Die) (L : List Fld) (E : List Nat) : x.OnLed L E x := ⟨.refl x L E, rfl, rfl, rfl⟩

theorem Die.OnLed.set {f : Fld} {v : Nat} (hf : f ∈ L) (h : x.OnLed L E y) : x.OnLed L E (y.set f v) :=
  ⟨.set hf h.regs, h.behind, h.wr, h.dramCut⟩

theorem Die.OnLed.setBit {f : Fld} {i : Nat} {b : Bool} (hf : f ∈ L) (h : x.OnLed L E y) : x.OnLed L E (y.setBit f i b) :=
  .set hf h

theorem Die.OnLed.raise {f : Fld} {v : Nat} (hf : f ∈ L) (h : x.OnLed L E y) : x.OnLed L E (y.raise f v) :=
  ⟨.raise hf h.regs, h.behind, h.wr, h.dramCut⟩

theorem Die.OnLed.onLed {k : Led → Led} (h : x.OnLed L E y) : x.OnLed L E (y.onLed k) :=
  ⟨⟨h.regs.live, h.regs.pend, h.regs.raw⟩, h.behind, h.wr, h.dramCut⟩

theorem Die.OnLed.onLamp {k : Nat} {f : LedChan → LedChan} (h : x.OnLed L E y) : x.OnLed L E (y.onLamp k f) := .onLed h

theorem Die.OnLed.fire {e : Nat} (he : e ∈ E) (h : x.OnLed L E y) : x.OnLed L E (y.fire e) :=
  ⟨.fire he h.regs, (Die.butLed_of_hidden (Die.fire_hidden y e)).trans h.behind, (Die.fire_wr y e).trans h.wr,
    (Die.fire_dramCut y e).trans h.dramCut⟩

theorem Die.OnLed.cond {e : Nat} {b : Bool} (he : e ∈ E) (h : x.OnLed L E y) : x.OnLed L E (y.cond e b) :=
  ⟨.cond he h.regs, (Die.butLed_of_hidden (Die.cond_hidden y e b)).trans h.behind, (Die.cond_wr y e b).trans h.wr,
    (Die.cond_dramCut y e b).trans h.dramCut⟩

theorem Die.OnLed.showRefLost (he : 446 ∈ E) (h : x.OnLed L E y) : x.OnLed L E y.showRefLost := .cond he h

theorem Die.OnLed.foldl {α : Type} {f : Die → α → Die} {l : List α} (hf : ∀ z, ∀ a ∈ l, x.OnLed L E z → x.OnLed L E (f z a))
    (h : x.OnLed L E y) : x.OnLed L E (l.foldl f y) := by
  induction l generalizing y with
  | nil => exact h
  | cons a l ih => exact ih (fun z b hb => hf z b (by simp [hb])) (hf y a (by simp) h)

end

section
variable {s : State} {d : DieId} {y : Die} {L : List Fld} {E : List Nat}

theorem Die.OnLed.settled_only (h : (s.fresh d).OnLed L E y) :
    ({ s.die d with led := y.settled.led } : Die).only L E y.settled :=
  Die.only_of_regs h.regs.of_fresh.settled (congrArg (fun z : Die => { z with led := y.led }) h.behind) rfl rfl rfl

/-- The same where the LED block behind its registers has not changed either. -/
theorem Die.OnLed.settled_only_same (h : (s.fresh d).OnLed L E y) (hl : y.led = (s.die d).led) :
    (s.die d).only L E y.settled := by
  have k := h.settled_only
  rwa [Die.settled_led, hl] at k

/-- A command on the lamps. -/
theorem lamps_effect {c : Instr} {f : Env → Die → Die} {P : Die → Prop} (hc : exec c s = onDie d s f) (hr : s.running d)
    (hy : f (s.env d) (s.fresh d) = y) (h : (s.fresh d).OnLed L E y) (hP : P y.settled) : Effect c d s P :=
  effect_to hc hr hy (h.wr.trans rfl) (h.dramCut.trans rfl) hP

end

/-! ### Channels -/

section
variable (x : Die) {k j : Nat} (f : LedChan → LedChan)

@[simp] theorem Die.onLamp_lamp_self : (x.onLamp k f).lamp k = f (x.lamp k) := getD_fillSet_self _ _ _ _

theorem Die.onLamp_lamp_ne (h : j ≠ k) : (x.onLamp k f).lamp j = x.lamp j := getD_fillSet_ne _ _ _ h

@[simp] theorem Die.onLamp_get (g : Fld) : (x.onLamp k f).get g = x.get g := rfl
@[simp] theorem Die.set_lamp (g : Fld) (v : Nat) : (x.set g v).lamp k = x.lamp k := rfl
@[simp] theorem Die.raise_lamp (g : Fld) (v : Nat) : (x.raise g v).lamp k = x.lamp k := rfl
@[simp] theorem Die.settled_lamp : x.settled.lamp k = x.lamp k := rfl
@[simp] theorem State.fresh_lamp (s : State) (d : DieId) : (s.fresh d).lamp k = (s.die d).lamp k := rfl
@[simp] theorem Die.fire_lamp (e : Nat) : (x.fire e).lamp k = x.lamp k := by simp [Die.lamp]
@[simp] theorem Die.cond_lamp (e : Nat) (b : Bool) : (x.cond e b).lamp k = x.lamp k := by simp [Die.lamp]
@[simp] theorem Die.showRefLost_lamp : x.showRefLost.lamp k = x.lamp k := Die.cond_lamp _ _ _

theorem Die.showRefLost_get {g : Fld} (h : g.showsQueue = false) : x.showRefLost.get g = x.get g := Die.cond_get _ _ _ h

end

/-! ### What drives a channel (R276 to R278, R281, R283) -/

/-- What a channel's current and on-time follow, but for its level and the number of the LED period. -/
structure LampDrive where
  lit : Bool
  faulty : Bool
  mode : Nat
  curve : Nat
  current : Nat

/-- The channel `k` has a fault that has not been cleared (R281). -/
def Die.lampFaulty (x : Die) (k : Nat) : Bool := x.bitOf F.LED_FAULT_OPEN k || x.bitOf F.LED_FAULT_SHORT k

/-- The drive of channel `k`. -/
def Die.lampDrive (x : Die) (k : Nat) : LampDrive :=
  { lit := x.ledLit k, faulty := x.lampFaulty k, mode := x.get (F.LED_CFG_MODE k), curve := x.get (F.LED_CFG_CURVE k),
    current := x.ledCurrent k }

/-- The fields that drive all channels. -/
def commonDrive : List Fld :=
  [F.CTRL_EN 0x3B, F.PRL_STAT_OWNER, F.PRL_SHARED_LED, F.SYS_IDENT_PKGCFG, F.SYS_IDENT_PKG, F.FUS_OPT_LOCKED, F.LED_FAULT_OPEN,
   F.LED_FAULT_SHORT]

/-- Those that drive channel `k`, but for the table of bins. -/
def ownDrive (k : Nat) : List Fld :=
  [F.LED_CFG_MODE k, F.LED_CFG_CURVE k, F.LED_CFG_DRIVE k, F.LED_CFG_BIN k, F.LED_CUR_CODE k]

/-- The fields of channel `k` that a fade changes. -/
def fadeFields (k : Nat) : List Fld := [F.LED_STAT_B k, F.LED_STAT_FADING k]

/-- The fields of channel `k` that show what an LED period finds. -/
def senseFields (k : Nat) : List Fld := [F.LED_SNS_SNS k, F.LED_STAT_FAULT k]

theorem commonDrive_plain : ∀ f ∈ commonDrive, f.showsQueue = false ∧ f.key < 0x3B114 * 32 := by decide

theorem ownDrive_onLamps (k : Nat) : ∀ f ∈ ownDrive k, 0x3B * 0x20000 ≤ f.key := by
  simp only [ownDrive, List.forall_mem_cons, Fld.key, F.LED_CFG_MODE, F.LED_CFG_CURVE, F.LED_CFG_DRIVE, F.LED_CFG_BIN, F.LED_CUR_CODE]
  refine ⟨?_, ?_, ?_, ?_, ?_, by simp⟩ <;> omega

theorem ledBintab_onLamps (b : Nat) : 0x3B * 0x20000 ≤ (F.LED_BINTAB_FACTOR b).key := by
  simp only [Fld.key, F.LED_BINTAB_FACTOR]; omega

theorem shownFields_place (k : Nat) : ∀ g ∈ fadeFields k ++ senseFields k, 0x3B114 * 32 ≤ g.key ∧ g.keep = .c := by
  simp only [fadeFields, senseFields, List.cons_append, List.nil_append, List.forall_mem_cons, Fld.key, F.LED_STAT_B,
    F.LED_STAT_FADING, F.LED_SNS_SNS, F.LED_STAT_FAULT]
  refine ⟨⟨?_, trivial⟩, ⟨?_, trivial⟩, ⟨?_, trivial⟩, ⟨?_, trivial⟩, by simp⟩ <;> omega

theorem shownFields_steers {j : Nat} : ∀ g ∈ fadeFields j ++ senseFields j, g.steers = false := fun g hg =>
  (Fld.plain_of_lamps ((by decide : 0x3B * 0x20000 ≤ 0x3B114 * 32).trans (shownFields_place j g hg).1)).1

theorem shownFields_key_ne {j k : Nat} : ∀ g ∈ fadeFields j ++ senseFields j, ∀ f ∈ commonDrive ++ ownDrive k, g.key ≠ f.key := by
  have hown : ∀ g ∈ fadeFields j ++ senseFields j, ∀ f ∈ ownDrive k, g.key ≠ f.key := by
    simp only [fadeFields, senseFields, ownDrive, List.cons_append, List.nil_append, List.forall_mem_cons, Fld.key, F.LED_STAT_B,
      F.LED_STAT_FADING, F.LED_SNS_SNS, F.LED_STAT_FAULT, F.LED_CFG_MODE, F.LED_CFG_CURVE, F.LED_CFG_DRIVE, F.LED_CFG_BIN,
      F.LED_CUR_CODE]
    refine ⟨⟨?_, ?_, ?_, ?_, ?_, by simp⟩, ⟨?_, ?_, ?_, ?_, ?_, by simp⟩, ⟨?_, ?_, ?_, ?_, ?_, by simp⟩,
      ⟨?_, ?_, ?_, ?_, ?_, by simp⟩, by simp⟩ <;> omega
  intro g hg f hf
  obtain hf | hf := List.mem_append.1 hf
  · exact ((commonDrive_plain f hf).2.trans_le (shownFields_place j g hg).1).ne'
  · exact hown g hg f hf

theorem RegFile.look_put_of_keep_ne (r : RegFile) {f g : Fld} (v : Nat) (h : f.keep ≠ g.keep) : (r.put f v).look g = r.look g := by
  cases hf : f.keep <;> cases hg : g.keep <;>
    simp [RegFile.put, RegFile.look, RegFile.sel, RegFile.withSel, hf, hg] at h ⊢

section
variable {x y : Die} {j k : Nat}

/-- A field kept in another map than the one written reads as before, wherever the two lie. -/
theorem Die.get_set_of_keep_ne {f g : Fld} (v : Nat) (h : f.keep ≠ g.keep) (hs : f.steers = false) :
    (x.set f v).get g = x.get g := by
  simp only [Fld.steers, Bool.or_eq_false_iff, decide_eq_false_iff_not] at hs
  obtain ⟨hdie, hexport⟩ := hs
  simp only [Die.get, Die.set, Die.resetOf, RegFile.look_put_of_keep_ne _ _ h, RegFile.look_put_ne _ _ hdie,
    RegFile.look_put_ne _ _ hexport]

theorem Die.lampDrive_congr (h : ∀ f ∈ commonDrive ++ ownDrive k, y.get f = x.get f)
    (hbin : ∀ b, y.get (F.LED_BINTAB_FACTOR b) = x.get (F.LED_BINTAB_FACTOR b)) (hoff : y.led.off = x.led.off)
    (hboot : y.boot = x.boot) : y.lampDrive k = x.lampDrive k := by
  simp only [commonDrive, ownDrive, List.cons_append, List.nil_append, List.forall_mem_cons] at h
  obtain ⟨hen, howner, hshared, hcfg, hpkg, hlocked, hopen, hshort, hmode, hcurve, hgate, hb, hcode, -⟩ := h
  have hon : ∀ f, y.get f = x.get f → y.on f = x.on f := fun f hf => by rw [Die.on, hf, Die.on]
  have hrole : y.pairRole = x.pairRole := by
    unfold Die.pairRole
    rw [hcfg, hon _ hpkg, hon _ hlocked]
  have hlit : y.ledLit k = x.ledLit k := by
    rw [Die.ledLit, hon _ hen, hoff, hboot, hrole, hon _ howner, Die.bitOf, hshared, Die.ledLit, Die.bitOf]
  have hfaulty : y.lampFaulty k = x.lampFaulty k := by
    simp only [Die.lampFaulty, Die.bitOf, hopen, hshort]
  have hcurrent : y.ledCurrent k = x.ledCurrent k := by
    rw [Die.ledCurrent, hon _ hgate, hcode, hb, hbin, Die.ledCurrent]
  simp only [Die.lampDrive, hlit, hfaulty, hmode, hcurve, hcurrent]

theorem Die.set_lampDrive {g : Fld} (v : Nat) (hg : g ∈ fadeFields j ++ senseFields j) :
    (x.set g v).lampDrive k = x.lampDrive k :=
  Die.lampDrive_congr (fun f hf => Die.get_set_ne x v (shownFields_key_ne g hg f hf) (shownFields_steers g hg))
    (fun b => Die.get_set_of_keep_ne v ((shownFields_place j g hg).2.trans_ne (by simp [F.LED_BINTAB_FACTOR]))
      (shownFields_steers g hg)) rfl rfl

theorem lampDrive_queue : ∀ f ∈ commonDrive ++ ownDrive k, f.showsQueue = false := fun f hf =>
  (List.mem_append.1 hf).elim (fun h => (commonDrive_plain f h).1) fun h => (Fld.plain_of_lamps (ownDrive_onLamps k f h)).2

theorem Die.fire_lampDrive (e : Nat) : (x.fire e).lampDrive k = x.lampDrive k :=
  Die.lampDrive_congr (fun f hf => Die.fire_get x e (lampDrive_queue f hf))
    (fun b => Die.fire_get x e (Fld.plain_of_lamps (ledBintab_onLamps b)).2) (by simp) (by simp)

theorem Die.cond_lampDrive (e : Nat) (b : Bool) : (x.cond e b).lampDrive k = x.lampDrive k :=
  Die.lampDrive_congr (fun f hf => Die.cond_get x e b (lampDrive_queue f hf))
    (fun n => Die.cond_get x e b (Fld.plain_of_lamps (ledBintab_onLamps n)).2) (by simp) (by simp)

end

end Sys2Proof.Machine

/-! The lamps' commands (R276 to R283): faults, the arming for a SYNC, strobe pulses and LED periods. -/

namespace Sys2Proof.Machine

/-! ### STROBE_PULSE_END and REF_LOST (R280) -/

section
variable {s : State} {d : DieId} (hr : s.running d) (k : Fin 12)
include hr

theorem strobePulseEnd_effect {p : Nat × Nat} {rest : List (Nat × Nat)} (v : Nat)
    (hpulses : ((s.die d).lamp k.val).pulses = p :: rest) (hgate : (s.die d).on (F.LED_CFG_DRIVE k.val) = true) :
    Effect (.strobePulseEnd d k v) d s (fun y => (y.lamp k.val).pulses = rest ∧
      y.get (F.LED_SNS_SNS k.val) = v % 2 ^ (F.LED_SNS_SNS k.val).width ∧
      ({ s.die d with led := y.led } : Die).only [F.LED_SNS_SNS k.val] [] y) := by
  have hall : (s.fresh d).OnLed [F.LED_SNS_SNS k.val] []
      (((s.fresh d).set (F.LED_SNS_SNS k.val) v).onLamp k.val fun c => { c with pulses := rest }) :=
    .onLamp <| .set (by simp) <| .refl _ _ _
  refine lamps_effect rfl hr ?_ hall ⟨by simp, ?_, hall.settled_only⟩
  · simp [hpulses, hgate]
  · rw [Die.settled_get, Die.onLamp_get, Die.get_set_self]

theorem refLost_effect (hmode : (s.die d).get (F.LED_CFG_MODE k.val) = 2) :
    Effect (.refLost d k) d s (fun y => y.condOn 446 = true ∧ ((s.die d).condOn 446 = false → y.pends 446 = true) ∧
      (y.lamp k.val).pulses = [] ∧ (y.lamp k.val).noRef = true ∧ ({ s.die d with led := y.led } : Die).only [] [446] y) := by
  have hall : (s.fresh d).OnLed [] [446]
      ((s.fresh d).onLamp k.val fun c => { c with noRef := true, pulses := [] }).showRefLost :=
    .showRefLost (by simp) <| .onLamp <| .refl _ _ _
  have hlost : ((s.fresh d).onLamp k.val fun c => { c with noRef := true, pulses := [] }).showRefLost =
      ((s.fresh d).onLamp k.val fun c => { c with noRef := true, pulses := [] }).cond 446 true := by
    refine congrArg (Die.cond _ 446) (List.any_eq_true.2 ⟨k.val, by simp, ?_⟩)
    simp [hmode]
  refine lamps_effect rfl hr (if_pos hmode) hall ⟨?_, fun hoff => ?_, by simp, by simp, hall.settled_only⟩
  · rw [hlost, Die.settled_condOn, Die.cond_condOn _ _ (by decide)]
  · rw [hlost, Die.settled_pends]
    exact Die.cond_pending _ (by decide) hoff

end

/-! ### LED_SYNC_ARM (R282) -/

section
variable {s : State} {d : DieId} (hr : s.running d)
include hr

theorem ledSyncArm_arms (hfree : (s.die d).commitPending 0x3B = false) :
    Effect (.ledSyncArm d) d s (fun y => y.commitPending 0x3B = true ∧ y.led.sync = true ∧ y.led.synced = none ∧
      y.led.armedAt = some s.now ∧ ({ s.die d with led := y.led } : Die).only [F.COMMIT_STAT_PENDING 0x3B] [] y) := by
  have hall : (s.fresh d).OnLed [F.COMMIT_STAT_PENDING 0x3B] [] (((s.fresh d).set (F.COMMIT_STAT_PENDING 0x3B) 1).onLed
      fun l => { l with sync := true, synced := none, due := false, armedAt := some s.now }) :=
    .onLed <| .set (by simp) <| .refl _ _ _
  refine lamps_effect rfl hr (if_neg ?_) hall
    ⟨Die.on_set_self (s.fresh d) (F.COMMIT_STAT_PENDING 0x3B) 1, rfl, rfl, rfl, hall.settled_only⟩
  exact ne_true_of_eq_false hfree

theorem ledSyncArm_refused (hpending : (s.die d).commitPending 0x3B = true) :
    Effect (.ledSyncArm d) d s (fun y => y.pends (accErrOf 0x3B) = true ∧ (s.die d).only [] [accErrOf 0x3B] y) :=
  effect_to rfl hr (if_pos hpending) (by simp) (by simp) (Die.accErr_settled_only s d 0x3B)

end

/-! ### LED_FAULT_DETECT (R281) -/

/-- The field that tells a kind of fault. -/
def faultField (short : Bool) : Fld := if short then F.LED_FAULT_SHORT else F.LED_FAULT_OPEN

/-- The channel `k` held off for a fault. -/
def Die.holdOff (x : Die) (k : Nat) (short : Bool) : Die :=
  ((((x.onLamp k fun c => { c with held := true, onFor := 0, pulses := [] }).raise (faultField short) (2 ^ k)).set
    (F.LED_STAT_FAULT k) (if short then 2 else 1)).fire (if short then 443 else 442))

theorem faultField_width (short : Bool) : (faultField short).width = 12 := by cases short <;> rfl

theorem faultField_onLamps (short : Bool) : 0x3B * 0x20000 ≤ (faultField short).key := by cases short <;> decide

theorem ledStatFault_onLamps (k : Nat) : 0x3B * 0x20000 ≤ (F.LED_STAT_FAULT k).key := by
  simp only [Fld.key, F.LED_STAT_FAULT]; omega

theorem ledStatFault_key_ne (k : Nat) (short : Bool) : (F.LED_STAT_FAULT k).key ≠ (faultField short).key := by
  cases short <;> simp only [faultField, Fld.key, F.LED_STAT_FAULT, F.LED_FAULT_SHORT, F.LED_FAULT_OPEN, if_true, if_false,
    Bool.false_eq_true] <;> omega

section
variable {s : State} {d : DieId} (hr : s.running d) (k : Fin 12) (short : Bool)
include hr

theorem ledFaultDetect_effect
    (hfound : (short = false ∧ 0 < ((s.die d).lamp k.val).onFor ∧ ((s.die d).lamp k.val).held = false) ∨
      (short = true ∧ (s.die d).on (F.LED_CFG_DRIVE k.val) = true ∧ (s.die d).bitOf F.LED_FAULT_SHORT k.val = false)) :
    Effect (.ledFaultDetect d k short) d s (fun y => (y.lamp k.val).held = true ∧ (y.lamp k.val).onFor = 0 ∧
      (y.lamp k.val).pulses = [] ∧ y.pends (if short then 443 else 442) = true ∧
      y.bitOf (if short then F.LED_FAULT_SHORT else F.LED_FAULT_OPEN) k.val = true ∧
      y.get (F.LED_STAT_FAULT k.val) = (if short then 2 else 1) ∧
      ({ s.die d with led := y.led } : Die).only [if short then F.LED_FAULT_SHORT else F.LED_FAULT_OPEN, F.LED_STAT_FAULT k.val]
        [if short then 443 else 442] y) := by
  have hqueue := (Fld.plain_of_lamps (faultField_onLamps short)).2
  obtain ⟨hsteers, hqueue'⟩ := Fld.plain_of_lamps (ledStatFault_onLamps k.val)
  have hall : (s.fresh d).OnLed [faultField short, F.LED_STAT_FAULT k.val] [if short then 443 else 442]
      ((s.fresh d).holdOff k.val short) :=
    .fire (by simp) <| .set (by simp) <| .raise (by simp) <| .onLamp <| .refl _ _ _
  refine lamps_effect rfl hr (y := (s.fresh d).holdOff k.val short) ?_ hall
    ⟨by simp [Die.holdOff], by simp [Die.holdOff], by simp [Die.holdOff], ?_, ?_, ?_, hall.settled_only⟩
  · obtain ⟨rfl, hon, hheld⟩ | ⟨rfl, hgate, hbit⟩ := hfound
    · simp [hheld, Nat.pos_iff_ne_zero.1 hon, Die.holdOff, faultField]
    · have hbit' : (s.fresh d).bitOf F.LED_FAULT_SHORT k.val = false := hbit
      simp [hgate, hbit', Die.holdOff, faultField]
  · exact Die.fire_pends _ (by cases short <;> decide)
  · change ((s.fresh d).holdOff k.val short).bitOf (faultField short) k.val = true
    rw [Die.holdOff, Die.bitOf, Die.fire_get _ _ hqueue, Die.get_set_ne _ _ (ledStatFault_key_ne k.val short) hsteers]
    refine (Die.raise_bitOf (f := faultField short) _ ?_).trans (by simp)
    rw [faultField_width]
    exact k.isLt
  · rw [Die.settled_get, Die.holdOff, Die.fire_get _ _ hqueue', Die.get_set_self]
    cases short <;> rfl

end

/-! ### LED_FAULT_CLEAR (R281) -/

/-- The place of a channel's bit of a kind in a write of LED_FAULT. -/
def faultPlace (short : Bool) (k : Nat) : Nat := if short then 16 + k else k

/-- What a write of LED_FAULT clears of one channel. -/
def Die.clearLampFault (val : Nat) (x : Die) (k : Nat) : Die :=
  let y := if val.testBit k then x.setBit F.LED_FAULT_OPEN k false else x
  if val.testBit (16 + k) then y.setBit F.LED_FAULT_SHORT k false else y

section
variable (x : Die) (val : Nat) {i k : Nat} (short : Bool)

theorem Die.clearLampFaults_eq : x.clearLampFaults val = (List.range 12).foldl (Die.clearLampFault val) x := rfl

theorem Die.clearLampFault_led : (x.clearLampFault val k).led = x.led := by
  unfold Die.clearLampFault
  dsimp only
  split <;> split <;> rfl

theorem Die.clearLampFault_bitOf (hi : i < 12) :
    (x.clearLampFault val k).bitOf (faultField short) i =
      (x.bitOf (faultField short) i && !(decide (i = k) && val.testBit (faultPlace short k))) := by
  have hself : ∀ z : Die, (z.setBit (faultField short) k false).bitOf (faultField short) i =
      (z.bitOf (faultField short) i && !decide (i = k)) := fun z => by
    rw [Die.bitOf_setBit z false (hi.trans_eq (faultField_width short).symm)]
    by_cases h : i = k <;> simp [h]
  have hother : ∀ z : Die, (z.setBit (faultField !short) k false).bitOf (faultField short) i = z.bitOf (faultField short) i :=
    fun z => Die.setBit_bitOf_ne z false (by cases short <;> decide) (by cases short <;> decide)
  unfold Die.clearLampFault
  cases short
  · change ∀ z : Die, (z.setBit F.LED_FAULT_SHORT k false).bitOf (faultField false) i = _ at hother
    change ∀ z : Die, (z.setBit F.LED_FAULT_OPEN k false).bitOf (faultField false) i = _ at hself
    cases val.testBit (16 + k) <;> cases ho : val.testBit k <;> simp [faultPlace, ho, hother, hself]
  · change ∀ z : Die, (z.setBit F.LED_FAULT_OPEN k false).bitOf (faultField true) i = _ at hother
    change ∀ z : Die, (z.setBit F.LED_FAULT_SHORT k false).bitOf (faultField true) i = _ at hself
    cases hs : val.testBit (16 + k) <;> cases val.testBit k <;> simp [faultPlace, hs, hother, hself]

theorem Die.foldl_clearLampFault_bitOf (hi : i < 12) (l : List Nat) :
    (l.foldl (Die.clearLampFault val) x).bitOf (faultField short) i =
      (x.bitOf (faultField short) i && !(decide (i ∈ l) && val.testBit (faultPlace short i))) := by
  induction l generalizing x with
  | nil => simp
  | cons k l ih =>
    rw [List.foldl_cons, ih, Die.clearLampFault_bitOf _ _ _ hi]
    by_cases h : i = k
    · subst h
      cases val.testBit (faultPlace short i) <;> simp
    · simp [h]

theorem Die.clearLampFaults_bitOf (hi : i < 12) : (x.clearLampFaults val).bitOf (faultField short) i =
    (x.bitOf (faultField short) i && !val.testBit (faultPlace short i)) := by
  rw [Die.clearLampFaults_eq, Die.foldl_clearLampFault_bitOf x val short hi]
  simp [hi]

theorem Die.clearLampFaults_led : (x.clearLampFaults val).led = x.led :=
  foldl_keeps (g := Die.clearLampFault val) Die.led (fun z _ _ => z.clearLampFault_led val) x

theorem Die.clearLampFaults_onLed : x.OnLed [F.LED_FAULT_OPEN, F.LED_FAULT_SHORT] [] (x.clearLampFaults val) := by
  refine .foldl (f := Die.clearLampFault val) (fun z j _ hz => ?_) (.refl _ _ _)
  unfold Die.clearLampFault
  dsimp only
  split <;> split
  · exact .setBit (by simp) (.setBit (by simp) hz)
  · exact .setBit (by simp) hz
  · exact .setBit (by simp) hz
  · exact hz

end

/-- The places of LED_FAULT that a write clears: of a bit written 1, those that the hardware has not just set (R9). -/
def faultsCleared (tied : Option Hits) (v : Nat) : Nat :=
  clearable tied F.LED_FAULT_OPEN (bits v 0 12) + 2 ^ 16 * clearable tied F.LED_FAULT_SHORT (bits v 16 12)

theorem faultsCleared_testBit (tied : Option Hits) (v : Nat) (short : Bool) {i : Nat} (hi : i < 12) :
    (faultsCleared tied v).testBit (faultPlace short i) =
      (v.testBit (faultPlace short i) && !(justSet tied (faultField short)).testBit i) := by
  have hopen : clearable tied F.LED_FAULT_OPEN (bits v 0 12) < 2 ^ 16 :=
    ((Nat.sub_le _ _).trans_lt (Nat.mod_lt _ (by decide))).trans (by decide)
  have hbits : ∀ lo, (bits v lo 12).testBit i = v.testBit (lo + i) := fun lo => by
    rw [bits, Nat.testBit_mod_two_pow, Nat.testBit_shiftRight]
    simp [hi]
  rw [faultsCleared, Nat.add_comm, Nat.testBit_two_pow_mul_add _ hopen]
  cases short
  · simp [faultPlace, faultField, hi.trans (by decide : 12 < 16), clearable_testBit, hbits]
  · simp [faultPlace, faultField, clearable_testBit, hbits]

theorem ledFaultClear_effect {s : State} {d : DieId} (hr : s.running d) (mask : PendMask) (k : Fin 12) :
    Effect (.ledFaultClear d mask) d s (fun y =>
      y.bitOf F.LED_FAULT_OPEN k.val = ((s.die d).bitOf F.LED_FAULT_OPEN k.val && !(mask.bits.testBit k.val &&
        !(mask.tie && (justSet (some (s.die d).hits) F.LED_FAULT_OPEN).testBit k.val))) ∧
      y.bitOf F.LED_FAULT_SHORT k.val = ((s.die d).bitOf F.LED_FAULT_SHORT k.val && !(mask.bits.testBit (16 + k.val) &&
        !(mask.tie && (justSet (some (s.die d).hits) F.LED_FAULT_SHORT).testBit k.val))) ∧
      (s.die d).only [F.LED_FAULT_OPEN, F.LED_FAULT_SHORT] [] y) := by
  have hall := Die.clearLampFaults_onLed (s.fresh d) (faultsCleared (s.hits d mask.tie) mask.bits)
  have hbit := fun short => Die.clearLampFaults_bitOf (s.fresh d) (faultsCleared (s.hits d mask.tie) mask.bits) short k.isLt
  simp only [faultsCleared_testBit _ _ _ k.isLt, State.hits_justSet] at hbit
  exact lamps_effect rfl hr rfl hall ⟨hbit false, hbit true, hall.settled_only_same (Die.clearLampFaults_led _ _)⟩

/-! ### STROBE_REFERENCE (R280, Table 9.5) -/

/-- The channel `k` is in strobe mode and its reference is the one that has come (Table 9.5). -/
def Die.heeds (x : Die) (ref vc k : Nat) : Bool :=
  x.get (F.LED_CFG_MODE k) = 2 && x.get (F.LED_CFG_REF k) = ref && (ref = 0 || 4 < ref || x.get (F.LED_CFG_REFVC k) = vc)

/-- What a reference does to one channel. -/
def Die.referenceTo (ref vc now : Nat) (x : Die) (k : Nat) : Die := if x.heeds ref vc k then x.strobe k now else x

/-- The channel `k` has been told that its reference is there. -/
def Die.referenceSeen (x : Die) (k : Nat) : Die := (x.onLamp k fun c => { c with noRef := false }).showRefLost

/-- A pulse of channel `k` scheduled: 15 to 25 PERI cycles, 80 ns ± 20 ns, after its delay. -/
def Die.pulseSet (x : Die) (k now : Nat) : Die :=
  let t := now + x.get (F.LED_SDELAY_VALUE k) * 250 + 15 + (x.freeVal 32).1 % 11
  (x.freeVal 32).2.onLamp k fun c => { c with pulses := c.pulses ++ [(t, t + x.get (F.LED_STROBE_VALUE k) * 250)] }

section
variable {x : Die} {k j ref vc now : Nat}

theorem execStrobeReference_eq (s : State) (d : DieId) :
    exec (.strobeReference d ref vc) s = onDie d s fun env x => (List.range 12).foldl (Die.referenceTo ref vc env.now) x := rfl

theorem Die.referenceSeen_get {f : Fld} (h : f.showsQueue = false) : (x.referenceSeen k).get f = x.get f :=
  Die.showRefLost_get _ h

theorem Die.referenceSeen_lamp : (x.referenceSeen k).lamp k = { x.lamp k with noRef := false } := by simp [Die.referenceSeen]

theorem Die.referenceSeen_lamp_ne (h : j ≠ k) : (x.referenceSeen k).lamp j = x.lamp j := by
  rw [Die.referenceSeen, Die.showRefLost_lamp, Die.onLamp_lamp_ne _ _ h]

/-- A reference does one of three things to a channel: with a pulse in progress it is missed, it schedules a pulse, or it is no
more than seen. -/
theorem Die.strobe_cases :
    x.strobe k now = (x.referenceSeen k).fire 444 ∨ x.strobe k now = x.referenceSeen k ∨
      x.strobe k now = (x.referenceSeen k).pulseSet k now := by
  unfold Die.strobe
  dsimp only
  split
  · exact .inl rfl
  · split
    · exact .inr (.inl rfl)
    · exact .inr (.inr rfl)

theorem Die.strobe_missed (h : (x.lamp k).pulses.any (fun p => p.1 ≤ now && now < p.2) = true) :
    x.strobe k now = (x.referenceSeen k).fire 444 := by
  refine if_pos ?_
  change ((x.referenceSeen k).lamp k).pulses.any _ = true
  rwa [Die.referenceSeen_lamp]

theorem Die.strobe_get {f : Fld} (h : f.showsQueue = false) : (x.strobe k now).get f = x.get f := by
  obtain e | e | e := Die.strobe_cases (x := x) (k := k) (now := now) <;> rw [e]
  · rw [Die.fire_get _ _ h, Die.referenceSeen_get h]
  · exact Die.referenceSeen_get h
  · exact Die.referenceSeen_get h

theorem Die.strobe_lamp_ne (h : j ≠ k) : (x.strobe k now).lamp j = x.lamp j := by
  obtain e | e | e := Die.strobe_cases (x := x) (k := k) (now := now) <;> rw [e]
  · rw [Die.fire_lamp, Die.referenceSeen_lamp_ne h]
  · exact Die.referenceSeen_lamp_ne h
  · exact (Die.onLamp_lamp_ne _ _ h).trans (Die.referenceSeen_lamp_ne h)

theorem Die.cond_keeps_pends {e i : Nat} (b : Bool) (h : x.pends i = true) : (x.cond e b).pends i = true := by
  unfold Die.cond
  dsimp only
  split
  · exact Die.fire_keeps_pending _ _ h
  · exact h

theorem Die.strobe_keeps_pends {e : Nat} (h : x.pends e = true) : (x.strobe k now).pends e = true := by
  have hseen : (x.referenceSeen k).pends e = true := Die.cond_keeps_pends _ h
  obtain e' | e' | e' := Die.strobe_cases (x := x) (k := k) (now := now) <;> rw [e']
  · exact Die.fire_keeps_pending _ _ hseen
  · exact hseen
  · exact hseen

theorem ledCfg_queue : (F.LED_CFG_MODE j).showsQueue = false ∧ (F.LED_CFG_REF j).showsQueue = false ∧
    (F.LED_CFG_REFVC j).showsQueue = false := by
  refine ⟨(Fld.plain_of_lamps ?_).2, (Fld.plain_of_lamps ?_).2, (Fld.plain_of_lamps ?_).2⟩ <;>
    simp only [Fld.key, F.LED_CFG_MODE, F.LED_CFG_REF, F.LED_CFG_REFVC] <;> omega

theorem Die.strobe_heeds : (x.strobe k now).heeds ref vc j = x.heeds ref vc j := by
  obtain ⟨hmode, href, hrefvc⟩ := ledCfg_queue (j := j)
  simp only [Die.heeds, Die.strobe_get hmode, Die.strobe_get href, Die.strobe_get hrefvc]

theorem Die.referenceTo_heeds : (x.referenceTo ref vc now k).heeds ref vc j = x.heeds ref vc j := by
  unfold Die.referenceTo
  split
  · exact Die.strobe_heeds
  · rfl

end

section
variable {x : Die} {k j ref vc now : Nat}

theorem ledStrobe_queue (k : Nat) : (F.LED_STROBE_VALUE k).showsQueue = false ∧ (F.LED_SDELAY_VALUE k).showsQueue = false := by
  refine ⟨(Fld.plain_of_lamps ?_).2, (Fld.plain_of_lamps ?_).2⟩ <;>
    simp only [Fld.key, F.LED_STROBE_VALUE, F.LED_SDELAY_VALUE] <;> omega

theorem Die.referenceSeen_lampDrive : (x.referenceSeen j).lampDrive k = x.lampDrive k := Die.cond_lampDrive 446 _

/-- A lit channel that is not held off, with no pulse, schedules one. -/
theorem Die.strobe_schedules (hpulses : (x.lamp k).pulses = []) (hlit : x.ledLit k = true) (hheld : (x.lamp k).held = false)
    (hwidth : 0 < x.get (F.LED_STROBE_VALUE k)) : x.strobe k now = (x.referenceSeen k).pulseSet k now := by
  have hwidth' : ((x.referenceSeen k).get (F.LED_STROBE_VALUE k) * 250 = 0) = False := by
    rw [Die.referenceSeen_get (ledStrobe_queue k).1]
    exact eq_false (Nat.mul_pos hwidth (by decide)).ne'
  have hlit' : (x.referenceSeen k).ledLit k = true := (congrArg LampDrive.lit Die.referenceSeen_lampDrive).trans hlit
  unfold Die.strobe
  dsimp only
  change (if ((x.referenceSeen k).lamp k).pulses.any (fun p => p.1 ≤ now && now < p.2) then (x.referenceSeen k).fire 444
    else if (x.referenceSeen k).get (F.LED_STROBE_VALUE k) * 250 = 0 || !(x.referenceSeen k).ledLit k ||
      ((x.referenceSeen k).lamp k).held then x.referenceSeen k else (x.referenceSeen k).pulseSet k now) = _
  rw [Die.referenceSeen_lamp]
  simp [hpulses, hwidth', hlit', hheld]

/-- The pulse that a reference at `now` schedules: 15 to 25 PERI cycles, 80 ns ± 20 ns, after the delay of channel `k`. -/
theorem Die.pulseSet_pulses (hpulses : (x.lamp k).pulses = []) : ∃ e, 15 ≤ e ∧ e ≤ 25 ∧
    ((x.pulseSet k now).lamp k).pulses = [(now + x.get (F.LED_SDELAY_VALUE k) * 250 + e,
      now + x.get (F.LED_SDELAY_VALUE k) * 250 + e + x.get (F.LED_STROBE_VALUE k) * 250)] := by
  have hlate : (x.freeVal 32).1 % 11 < 11 := Nat.mod_lt _ (by decide)
  refine ⟨15 + (x.freeVal 32).1 % 11, by omega, by omega, ?_⟩
  have hlamp : ((x.freeVal 32).2.lamp k).pulses = [] := hpulses
  simp [Die.pulseSet, hlamp, Nat.add_assoc]

theorem Die.pulseSet_noRef : ((x.pulseSet k now).lamp k).noRef = (x.lamp k).noRef := by
  rw [Die.pulseSet, Die.onLamp_lamp_self]
  rfl

theorem Die.pulseSet_lamp_ne (h : j ≠ k) : (x.pulseSet k now).lamp j = x.lamp j := Die.onLamp_lamp_ne _ _ h

/-- A pulse scheduled, seen by a statement. -/
theorem Die.OnLed.pulseSet_only {s : State} {d : DieId} {L : List Fld} {E : List Nat} (h : (s.fresh d).OnLed L E x) :
    ({ s.die d with led := (x.pulseSet k now).settled.led, free := (x.pulseSet k now).settled.free } : Die).only L E
      (x.pulseSet k now).settled :=
  Die.only_of_regs (x := s.die d) (y := (x.pulseSet k now).settled) ⟨h.regs.live, h.regs.pend, h.regs.raw⟩
    (congrArg (fun z : Die => { z with led := (x.pulseSet k now).led, free := (x.pulseSet k now).free }) h.behind) rfl rfl rfl

/-- A missed reference leaves the pulses of its channel, and of the others, as they were. -/
theorem Die.referenceTo_pulses (hlate : (x.lamp k).pulses.any (fun p => p.1 ≤ now && now < p.2) = true) :
    ((x.referenceTo ref vc now j).lamp k).pulses = (x.lamp k).pulses := by
  unfold Die.referenceTo
  split
  · by_cases h : k = j
    · subst h
      rw [Die.strobe_missed hlate, Die.fire_lamp, Die.referenceSeen_lamp]
    · rw [Die.strobe_lamp_ne h]
  · rfl

end

section
variable {s : State} {d : DieId} {k : Fin 12} {ref vc : Nat}

/-- The reference of one channel in strobe mode. -/
theorem strobeReference_alone (hheeds : (s.die d).heeds ref vc k.val = true)
    (halone : ∀ j ∈ List.range 12, j ≠ k.val → (s.die d).get (F.LED_CFG_MODE j) ≠ 2) :
    (List.range 12).foldl (Die.referenceTo ref vc s.now) (s.fresh d) = (s.fresh d).strobe k.val s.now := by
  have hothers : ∀ j ∈ List.range 12, j ≠ k.val → (s.fresh d).heeds ref vc j = false := fun j hj hjk => by
    simp [Die.heeds, halone j hj hjk]
  have hk : (s.fresh d).referenceTo ref vc s.now k.val = (s.fresh d).strobe k.val s.now := if_pos hheeds
  rw [foldl_single List.nodup_range (List.mem_range.2 k.isLt), hk]
  · exact fun j hj hjk => if_neg (ne_true_of_eq_false (hothers j hj hjk))
  · exact fun j hj hjk => if_neg (ne_true_of_eq_false (Die.referenceTo_heeds.trans (hothers j hj hjk)))

section
variable (hr : s.running d)
include hr

/-- A reference that no channel in strobe mode has. -/
theorem strobeReference_ignored
    (hno : ∀ j ∈ List.range 12, (s.die d).get (F.LED_CFG_MODE j) ≠ 2 ∨ (s.die d).get (F.LED_CFG_REF j) ≠ ref) :
    Effect (.strobeReference d ref vc) d s (fun y => (s.die d).only [] [] y) := by
  have hstill : (List.range 12).foldl (Die.referenceTo ref vc s.now) (s.fresh d) = s.fresh d := by
    refine foldl_still fun j hj => if_neg ?_
    simp only [Die.heeds, State.fresh_get]
    obtain h | h := hno j hj <;> simp [h]
  exact lamps_effect (execStrobeReference_eq s d) hr hstill (.refl _ [] []) (Die.only_settled (Die.only_fresh s d [] []))

/-- A reference that finds one channel in strobe mode, lit, and with no pulse of its own. -/
theorem strobeReference_schedules (hmode : (s.die d).get (F.LED_CFG_MODE k.val) = 2)
    (href : (s.die d).get (F.LED_CFG_REF k.val) = 0) (hpulses : ((s.die d).lamp k.val).pulses = [])
    (hlit : (s.die d).ledLit k.val = true) (hheld : ((s.die d).lamp k.val).held = false)
    (hwidth : 0 < (s.die d).get (F.LED_STROBE_VALUE k.val))
    (halone : ∀ j ∈ List.range 12, j ≠ k.val → (s.die d).get (F.LED_CFG_MODE j) ≠ 2) :
    Effect (.strobeReference d 0 vc) d s (fun y =>
      ((y.lamp k.val).pulses.map (fun q => q.2 - q.1) = [(s.die d).get (F.LED_STROBE_VALUE k.val) * 250]) ∧
      (∀ q ∈ (y.lamp k.val).pulses, s.now + (s.die d).get (F.LED_SDELAY_VALUE k.val) * 250 + 15 ≤ q.1 ∧
        q.1 ≤ s.now + (s.die d).get (F.LED_SDELAY_VALUE k.val) * 250 + 25) ∧
      (y.lamp k.val).noRef = false ∧ (∀ j ∈ List.range 12, j ≠ k.val → y.lamp j = (s.die d).lamp j) ∧
      ({ s.die d with led := y.led, free := y.free } : Die).only [] [446] y) := by
  have hseen : (s.fresh d).OnLed [] [446] ((s.fresh d).referenceSeen k.val) := .showRefLost (by simp) <| .onLamp <| .refl _ _ _
  have hy : (List.range 12).foldl (Die.referenceTo 0 vc s.now) (s.fresh d) = ((s.fresh d).referenceSeen k.val).pulseSet k.val s.now :=
    (strobeReference_alone (by simp [Die.heeds, hmode, href]) halone).trans (Die.strobe_schedules hpulses hlit hheld hwidth)
  obtain ⟨e, hlow, hhigh, hpulse⟩ := Die.pulseSet_pulses (x := (s.fresh d).referenceSeen k.val) (now := s.now) (k := k.val)
    (by rw [Die.referenceSeen_lamp]; exact hpulses)
  rw [Die.referenceSeen_get (ledStrobe_queue k.val).1, Die.referenceSeen_get (ledStrobe_queue k.val).2] at hpulse
  refine effect_to (execStrobeReference_eq s d) hr hy (hseen.wr.trans rfl) (hseen.dramCut.trans rfl) ⟨?_, ?_, ?_, ?_, ?_⟩
  · rw [Die.settled_lamp, hpulse]
    simp
  · rw [Die.settled_lamp, hpulse]
    simp only [List.mem_singleton, forall_eq, State.fresh_get]
    omega
  · rw [Die.settled_lamp, Die.pulseSet_noRef, Die.referenceSeen_lamp]
  · intro j _ hjk
    rw [Die.settled_lamp, Die.pulseSet_lamp_ne hjk, Die.referenceSeen_lamp_ne hjk, State.fresh_lamp]
  · exact hseen.pulseSet_only

/-- A reference that comes while the pulse of channel `k` is in progress. -/
theorem strobeReference_missed {p : Nat × Nat} (hmode : (s.die d).get (F.LED_CFG_MODE k.val) = 2)
    (href : (s.die d).get (F.LED_CFG_REF k.val) = 0) (hpulses : ((s.die d).lamp k.val).pulses = [p]) (hbegun : p.1 ≤ s.now)
    (hgoes : s.now < p.2) :
    DieAnswers (.strobeReference d 0 vc) d s (fun y => y.pends 444 = true ∧ (y.lamp k.val).pulses = [p]) := by
  have hlate : [p].any (fun p => p.1 ≤ s.now && s.now < p.2) = true := by simp [hbegun, hgoes]
  have hheeds : (s.fresh d).heeds 0 vc k.val = true := by simp [Die.heeds, hmode, href]
  have hreach := foldl_reaches (g := Die.referenceTo 0 vc s.now) (l := List.range 12) (x := s.fresh d) (k := k.val)
    (P := fun z => (z.lamp k.val).pulses = [p] ∧ z.heeds 0 vc k.val = true) (Q := fun z => z.pends 444 = true)
    (fun z j _ ⟨hz, hh⟩ => ⟨(Die.referenceTo_pulses (hz ▸ hlate)).trans hz, Die.referenceTo_heeds.trans hh⟩)
    (fun z ⟨hz, hh⟩ => ?_) (fun z j _ _ _ hq => ?_) ⟨hpulses, hheeds⟩ (.inl (List.mem_range.2 k.isLt))
  · obtain ⟨⟨hkept, -⟩, hfired⟩ := hreach
    refine dieAnswers_to (y := (List.range 12).foldl (Die.referenceTo 0 vc s.now) (s.fresh d))
      (execStrobeReference_eq s d) hr rfl ⟨?_, ?_⟩
    · rw [Die.settled_pends, hfired]
    · rw [Die.settled_lamp, hkept]
  · rw [Die.referenceTo, hh, if_pos rfl, Die.strobe_missed (hz ▸ hlate)]
    exact Die.fire_pends _ (by decide)
  · unfold Die.referenceTo
    split
    · exact Die.strobe_keeps_pends hq
    · exact hq

end
end

/-! ### LED_PERIOD_BOUNDARY (R276 to R279, R281) -/

/-- What LSNS read at the end of a channel's on-time, shown. -/
def Die.lampSensed (x : Die) (k sns : Nat) : Die :=
  if !x.on (F.LED_CFG_DRIVE k) then x.set (F.LED_SNS_SNS k) 0
  else if (x.lamp k).onFor = 0 then x else x.set (F.LED_SNS_SNS k) sns

/-- The registers of channel `k` at an LED period boundary. -/
def Die.periodShown (x : Die) (k sns : Nat) : Die :=
  if (x.lampSensed k sns).lampFaulty k then x.lampSensed k sns else (x.lampSensed k sns).set (F.LED_STAT_FAULT k) 0

/-- The cycles for which channel `k` is on in the LED period that begins (R278). -/
def Die.onTime (x : Die) (k : Nat) : Nat :=
  if x.ledLit k && !x.lampFaulty k && x.get (F.LED_CFG_MODE k) = 1 then
    ledCycles (ledLevel (x.get (F.LED_CFG_CURVE k)) (x.get (F.LED_STAT_B k))) x.led.phase
  else 0

section
variable {α : Type} {x y : Die} {j k sns now : Nat}

theorem Die.lampPeriod_eq : x.lampPeriod k sns = (x.periodShown k sns).onLamp k fun c => { c with
    held := (x.lampSensed k sns).lampFaulty k, code := (x.periodShown k sns).ledCurrent k,
    onFor := if (x.periodShown k sns).ledLit k && !(x.lampSensed k sns).lampFaulty k &&
        (x.periodShown k sns).get (F.LED_CFG_MODE k) = 1 then
        ledCycles (ledLevel ((x.periodShown k sns).get (F.LED_CFG_CURVE k)) ((x.periodShown k sns).get (F.LED_STAT_B k)))
          (x.periodShown k sns).led.phase
      else 0
    pulses := if (x.periodShown k sns).get (F.LED_CFG_MODE k) = 2 then c.pulses else [] } := rfl

section
variable (p : Die → α) (hset : ∀ (z : Die), ∀ g ∈ senseFields k, ∀ v, p (z.set g v) = p z)
include hset

/-- What the fields that show a period leave alone, `lampSensed` leaves alone. -/
theorem Die.lampSensed_keeps : p (x.lampSensed k sns) = p x := by
  unfold Die.lampSensed
  split
  · exact hset x _ (by simp [senseFields]) _
  · split
    · rfl
    · exact hset x _ (by simp [senseFields]) _

theorem Die.periodShown_keeps : p (x.periodShown k sns) = p x := by
  unfold Die.periodShown
  split
  · exact Die.lampSensed_keeps p hset
  · exact (hset _ _ (by simp [senseFields]) _).trans (Die.lampSensed_keeps p hset)

theorem Die.lampPeriod_keeps (hlamp : ∀ z f, p (Die.onLamp z k f) = p z) : p (x.lampPeriod k sns) = p x := by
  rw [Die.lampPeriod_eq, hlamp]
  exact Die.periodShown_keeps p hset

end

/-- What a step of a fade leaves alone. -/
theorem Die.fadeStep_keeps (p : Die → α) (hset : ∀ (z : Die), ∀ g ∈ fadeFields k, ∀ v, p (z.set g v) = p z)
    (hlamp : ∀ z f, p (Die.onLamp z k f) = p z) (hfire : ∀ z, p (Die.fire z 441) = p z) : p (x.fadeStep k) = p x := by
  have hlevel := fun z v => hset z (F.LED_STAT_B k) (by simp [fadeFields]) v
  have hfading := fun z v => hset z (F.LED_STAT_FADING k) (by simp [fadeFields]) v
  unfold Die.fadeStep
  split
  · dsimp only
    split
    · rw [Die.fadeDone, hfire, Die.fadeOff, hlamp, hfading, hlevel]
    · rw [hlamp, hlevel]
  · rfl

theorem Die.lampPeriod_lampDrive : (x.lampPeriod j sns).lampDrive k = x.lampDrive k :=
  Die.lampPeriod_keeps (fun z => z.lampDrive k) (fun _ _ hg v => Die.set_lampDrive v (List.mem_append_right _ hg)) fun _ _ => rfl

theorem Die.fadeStep_lampDrive : (x.fadeStep j).lampDrive k = x.lampDrive k :=
  Die.fadeStep_keeps (fun z => z.lampDrive k) (fun _ _ hg v => Die.set_lampDrive v (List.mem_append_left _ hg)) (fun _ _ => rfl)
    fun _ => Die.fire_lampDrive 441

theorem Die.lampPeriod_phase : (x.lampPeriod j sns).led.phase = x.led.phase :=
  Die.lampPeriod_keeps (fun z => z.led.phase) (fun _ _ _ _ => rfl) fun _ _ => rfl

theorem Die.fadeStep_phase : (x.fadeStep j).led.phase = x.led.phase :=
  Die.fadeStep_keeps (fun z => z.led.phase) (fun _ _ _ _ => rfl) (fun _ _ => rfl) fun _ => by simp

theorem Die.lampPeriod_lamp_ne (h : k ≠ j) : (x.lampPeriod j sns).lamp k = x.lamp k :=
  Die.lampPeriod_keeps (fun z => z.lamp k) (fun _ _ _ _ => rfl) fun _ _ => Die.onLamp_lamp_ne _ _ h

theorem Die.fadeStep_lamp_ne (h : k ≠ j) : (x.fadeStep j).lamp k = x.lamp k :=
  Die.fadeStep_keeps (fun z => z.lamp k) (fun _ _ _ _ => rfl) (fun _ _ => Die.onLamp_lamp_ne _ _ h) fun _ => Die.fire_lamp _ _

theorem ledStatB_onLamps (k : Nat) : 0x3B * 0x20000 ≤ (F.LED_STAT_B k).key := by
  simp only [Fld.key, F.LED_STAT_B]; omega

theorem Die.lampPeriod_level : (x.lampPeriod j sns).get (F.LED_STAT_B k) = x.get (F.LED_STAT_B k) := by
  have hkey : ∀ g ∈ senseFields j, g.key ≠ (F.LED_STAT_B k).key := by
    simp only [senseFields, List.forall_mem_cons, Fld.key, F.LED_SNS_SNS, F.LED_STAT_FAULT, F.LED_STAT_B]
    refine ⟨?_, ?_, by simp⟩ <;> omega
  exact Die.lampPeriod_keeps (fun z => z.get (F.LED_STAT_B k))
    (fun z g hg v => Die.get_set_ne z v (hkey g hg) (shownFields_steers g (List.mem_append_right _ hg))) fun _ _ => rfl

theorem Die.fadeStep_level_ne (h : k ≠ j) : (x.fadeStep j).get (F.LED_STAT_B k) = x.get (F.LED_STAT_B k) := by
  have hkey : ∀ g ∈ fadeFields j, g.key ≠ (F.LED_STAT_B k).key := by
    simp only [fadeFields, List.forall_mem_cons, Fld.key, F.LED_STAT_FADING, F.LED_STAT_B]
    refine ⟨?_, ?_, by simp⟩ <;> omega
  exact Die.fadeStep_keeps (fun z => z.get (F.LED_STAT_B k))
    (fun z g hg v => Die.get_set_ne z v (hkey g hg) (shownFields_steers g (List.mem_append_left _ hg))) (fun _ _ => rfl)
    fun z => Die.fire_get z 441 (Fld.plain_of_lamps (ledStatB_onLamps k)).2

theorem Die.fadeStep_commitPending : (x.fadeStep j).commitPending 0x3B = x.commitPending 0x3B := by
  have hkey : ∀ g ∈ fadeFields j, g.key ≠ (F.COMMIT_STAT_PENDING 0x3B).key := fun g hg =>
    ((by decide : (F.COMMIT_STAT_PENDING 0x3B).key < 0x3B114 * 32).trans_le
      (shownFields_place j g (List.mem_append_left _ hg)).1).ne'
  exact Die.fadeStep_keeps (fun z => z.on (F.COMMIT_STAT_PENDING 0x3B))
    (fun z g hg v => Die.on_set_ne z v (hkey g hg) (shownFields_steers g (List.mem_append_left _ hg))) (fun _ _ => rfl)
    fun z => Die.fire_on z 441 (by decide)

/-- What a period gives a channel follows its drive, its level and the number of the period. -/
theorem Die.lampPeriod_lamp :
    ((x.lampPeriod k sns).lamp k).onFor = x.onTime k ∧ ((x.lampPeriod k sns).lamp k).code = x.ledCurrent k := by
  have hset : ∀ (z : Die), ∀ g ∈ senseFields k, ∀ v, (z.set g v).lampDrive k = z.lampDrive k := fun _ _ hg v =>
    Die.set_lampDrive v (List.mem_append_right _ hg)
  have hdrive : (x.periodShown k sns).lampDrive k = x.lampDrive k := Die.periodShown_keeps (fun z => z.lampDrive k) hset
  have hsensed : (x.lampSensed k sns).lampFaulty k = x.lampFaulty k :=
    congrArg LampDrive.faulty (Die.lampSensed_keeps (fun z => z.lampDrive k) hset)
  have hlevel : (x.periodShown k sns).get (F.LED_STAT_B k) = x.get (F.LED_STAT_B k) :=
    Die.lampPeriod_level (x := x) (sns := sns)
  have hphase : (x.periodShown k sns).led.phase = x.led.phase := Die.lampPeriod_phase (x := x) (j := k) (sns := sns)
  have hlit := congrArg LampDrive.lit hdrive
  have hmode := congrArg LampDrive.mode hdrive
  have hcurve := congrArg LampDrive.curve hdrive
  have hcurrent := congrArg LampDrive.current hdrive
  simp only [Die.lampDrive] at hlit hmode hcurve hcurrent
  simp only [Die.lampPeriod_eq, Die.onLamp_lamp_self, Die.onTime, hsensed, hlevel, hphase, hlit, hmode, hcurve, hcurrent, and_self]

end

/-- The number of the LED period that begins. -/
def Die.nextPeriod (x : Die) : Die := x.onLed fun l => { l with phase := (l.phase + 1) % 4 }

/-- A step of the fades of all channels. -/
def Die.fadesStep (x : Die) : Die := (List.range 12).foldl Die.fadeStep x

/-- The LED period of all channels begins. -/
def Die.lampPeriods (x : Die) (sns : List Nat) : Die := (List.range 12).foldl (fun y k => y.lampPeriod k (sns.getD k 0)) x

/-- The fields that an LED period boundary without a commit changes. -/
def boundaryFields : List Fld := (List.range 12).flatMap fun k => fadeFields k ++ senseFields k

theorem boundaryFields_page : ∀ f ∈ boundaryFields, f.pageOf = 0x3B := by decide +kernel

theorem mem_boundaryFields {k : Nat} {f : Fld} (hk : k ∈ List.range 12) (hf : f ∈ fadeFields k ++ senseFields k) : f ∈ boundaryFields :=
  List.mem_flatMap.2 ⟨k, hk, hf⟩

theorem Die.only.onlyPages {x y : Die} {L : List Fld} {P E : List Nat} (h : x.only L E y) (hL : ∀ f ∈ L, f.pageOf ∈ P) :
    x.onlyPages P E y := by
  obtain ⟨hbehind, hlive, hpend, hraw⟩ := h
  refine ⟨hbehind, fun f hq hf => hlive f hq fun g hg hk => hf ?_, hpend, hraw⟩
  rw [Fld.pageOf, ← hk]
  exact hL g hg

section
variable {x y : Die} {L : List Fld} {E : List Nat} {k sns : Nat}

theorem Die.OnLed.fadeStep (hL : ∀ f ∈ fadeFields k, f ∈ L) (he : 441 ∈ E) (h : x.OnLed L E y) : x.OnLed L E (y.fadeStep k) := by
  have hlevel : F.LED_STAT_B k ∈ L := hL _ (by simp [fadeFields])
  have hfading : F.LED_STAT_FADING k ∈ L := hL _ (by simp [fadeFields])
  unfold Die.fadeStep
  split
  · dsimp only
    split
    · exact .fire he <| .onLamp <| .set hfading <| .set hlevel h
    · exact .onLamp <| .set hlevel h
  · exact h

theorem Die.OnLed.lampSensed (hL : ∀ f ∈ senseFields k, f ∈ L) (h : x.OnLed L E y) : x.OnLed L E (y.lampSensed k sns) := by
  have hsns : F.LED_SNS_SNS k ∈ L := hL _ (by simp [senseFields])
  unfold Die.lampSensed
  split
  · exact .set hsns h
  · split
    · exact h
    · exact .set hsns h

theorem Die.OnLed.lampPeriod (hL : ∀ f ∈ senseFields k, f ∈ L) (h : x.OnLed L E y) : x.OnLed L E (y.lampPeriod k sns) := by
  rw [Die.lampPeriod_eq]
  refine .onLamp ?_
  unfold Die.periodShown
  split
  · exact .lampSensed hL h
  · exact .set (hL _ (by simp [senseFields])) <| .lampSensed hL h

end

section
variable {x : Die} {k : Nat} (sns : List Nat) (now : Nat)

theorem Die.nextPeriod_phase : x.nextPeriod.led.phase = (x.led.phase + 1) % 4 := rfl

theorem Die.fadesStep_lampDrive : x.fadesStep.lampDrive k = x.lampDrive k :=
  foldl_keeps (g := Die.fadeStep) (fun z => z.lampDrive k) (fun _ _ _ => Die.fadeStep_lampDrive) x

theorem Die.fadesStep_phase : x.fadesStep.led.phase = x.led.phase := by
  rw [Die.fadesStep]
  exact foldl_keeps (g := Die.fadeStep) (l := List.range 12) (fun z => z.led.phase) (fun _ _ _ => Die.fadeStep_phase) x

theorem Die.fadesStep_commitPending : x.fadesStep.commitPending 0x3B = x.commitPending 0x3B :=
  foldl_keeps (g := Die.fadeStep) (fun z => z.commitPending 0x3B) (fun _ _ _ => Die.fadeStep_commitPending) x

/-- A channel without a fade keeps its level. -/
theorem Die.fadesStep_level (h : (x.lamp k).fade = none) : x.fadesStep.get (F.LED_STAT_B k) = x.get (F.LED_STAT_B k) := by
  suffices hkept : (x.fadesStep.lamp k).fade = none ∧ x.fadesStep.get (F.LED_STAT_B k) = x.get (F.LED_STAT_B k) from hkept.2
  refine List.foldlRecOn (motive := fun z => (z.lamp k).fade = none ∧ z.get (F.LED_STAT_B k) = x.get (F.LED_STAT_B k))
    (List.range 12) Die.fadeStep ⟨h, rfl⟩ fun z ⟨hfade, hlevel⟩ j _ => ?_
  by_cases hk : k = j
  · subst hk
    simp [Die.fadeStep, hfade, hlevel]
  · rw [Die.fadeStep_lamp_ne hk, Die.fadeStep_level_ne hk]
    exact ⟨hfade, hlevel⟩

/-- With no commit pending, a boundary is a step of the fades and the start of the channels' periods. -/
theorem Die.ledBoundary_free (h : x.commitPending 0x3B = false) : x.ledBoundary sns now = (x.nextPeriod.fadesStep).lampPeriods sns := by
  have hfree : x.nextPeriod.fadesStep.commitPending 0x3B = false := Die.fadesStep_commitPending.trans h
  unfold Die.ledBoundary
  dsimp only
  change (List.range 12).foldl _ (if x.nextPeriod.fadesStep.commitPending 0x3B && _ then _ else x.nextPeriod.fadesStep) = _
  rw [hfree]
  rfl

/-- What the start of all periods gives channel `k`, and what it keeps. -/
theorem Die.lampPeriods_lamp (hk : k < 12) :
    ((x.lampPeriods sns).led.phase = x.led.phase ∧ (x.lampPeriods sns).get (F.LED_STAT_B k) = x.get (F.LED_STAT_B k)) ∧
      ((x.lampPeriods sns).lamp k).onFor = x.onTime k ∧ ((x.lampPeriods sns).lamp k).code = x.ledCurrent k := by
  have hdriven : ∀ z : Die, z.lampDrive k = x.lampDrive k ∧ z.led.phase = x.led.phase ∧
      z.get (F.LED_STAT_B k) = x.get (F.LED_STAT_B k) → z.onTime k = x.onTime k ∧ z.ledCurrent k = x.ledCurrent k := by
    rintro z ⟨hdrive, hphase, hlevel⟩
    simp only [Die.lampDrive, LampDrive.mk.injEq] at hdrive
    obtain ⟨hlit, hfaulty, hmode, hcurve, hcurrent⟩ := hdrive
    exact ⟨by simp only [Die.onTime, hlit, hfaulty, hmode, hcurve, hphase, hlevel], hcurrent⟩
  have hreach := foldl_reaches (g := fun (y : Die) j => y.lampPeriod j (sns.getD j 0)) (l := List.range 12) (x := x) (k := k)
    (P := fun z => z.lampDrive k = x.lampDrive k ∧ z.led.phase = x.led.phase ∧ z.get (F.LED_STAT_B k) = x.get (F.LED_STAT_B k))
    (Q := fun z => (z.lamp k).onFor = x.onTime k ∧ (z.lamp k).code = x.ledCurrent k)
    (fun z j _ ⟨hdrive, hphase, hlevel⟩ => ⟨Die.lampPeriod_lampDrive.trans hdrive, Die.lampPeriod_phase.trans hphase,
      Die.lampPeriod_level.trans hlevel⟩)
    (fun z hz => ?_) (fun z j _ hjk _ hq => ?_) ⟨rfl, rfl, rfl⟩ (.inl (List.mem_range.2 hk))
  · obtain ⟨⟨-, hkept⟩, hgiven⟩ := hreach
    exact ⟨hkept, hgiven⟩
  · obtain ⟨honTime, hcurrent⟩ := hdriven z hz
    obtain ⟨hon, hcode⟩ := Die.lampPeriod_lamp (x := z) (k := k) (sns := sns.getD k 0)
    exact ⟨hon.trans honTime, hcode.trans hcurrent⟩
  · rwa [Die.lampPeriod_lamp_ne (Ne.symm hjk)]

theorem Die.boundary_onLed : x.OnLed boundaryFields [441] (x.nextPeriod.fadesStep.lampPeriods sns) := by
  refine .foldl (fun z j hj hz => .lampPeriod (fun f hf => mem_boundaryFields hj (by simp [hf])) hz) ?_
  exact .foldl (fun z j hj hz => .fadeStep (fun f hf => mem_boundaryFields hj (by simp [hf])) (by simp) hz) <| .onLed <| .refl _ _ _

end

section
variable {s : State} {d : DieId} (hr : s.running d) {k : Fin 12} {sns : List Nat} (hfree : (s.die d).commitPending 0x3B = false)

/-- What an LED period boundary leaves besides the lamps. -/
theorem boundary_onlyPages {y : Die} (hy : y = (s.fresh d).nextPeriod.fadesStep.lampPeriods sns) :
    ({ s.die d with led := y.settled.led } : Die).onlyPages [0x3B] [441] y.settled := by
  subst hy
  exact Die.only.onlyPages (Die.boundary_onLed sns).settled_only fun f hf => by simp [boundaryFields_page f hf]

include hr hfree

/-- A lit channel in level mode, with no fault and no fade. -/
theorem ledPeriodBoundary_lit (hmode : (s.die d).get (F.LED_CFG_MODE k.val) = 1)
    (hopen : (s.die d).bitOf F.LED_FAULT_OPEN k.val = false) (hshort : (s.die d).bitOf F.LED_FAULT_SHORT k.val = false)
    (hfade : ((s.die d).lamp k.val).fade = none) (hlit : (s.die d).ledLit k.val = true) :
    DieAnswers (.ledPeriodBoundary d sns) d s (fun y => y.led.phase = ((s.die d).led.phase + 1) % 4 ∧
      (y.lamp k.val).onFor = ledCycles (ledLevel ((s.die d).get (F.LED_CFG_CURVE k.val)) ((s.die d).get (F.LED_STAT_B k.val)))
        (((s.die d).led.phase + 1) % 4) ∧
      (y.lamp k.val).code = (s.die d).ledCurrent k.val ∧ y.get (F.LED_STAT_B k.val) = (s.die d).get (F.LED_STAT_B k.val) ∧
      ({ s.die d with led := y.led } : Die).onlyPages [0x3B] [441] y) := by
  obtain ⟨⟨hphase, hlevel⟩, hon, hcode⟩ := Die.lampPeriods_lamp (x := (s.fresh d).nextPeriod.fadesStep) sns k.isLt
  have hphase' := Die.fadesStep_phase (x := (s.fresh d).nextPeriod)
  have hlevel' := Die.fadesStep_level (x := (s.fresh d).nextPeriod) (k := k.val) hfade
  obtain ⟨hlit', hfaulty, hmode', hcurve, hcurrent⟩ :=
    LampDrive.mk.inj (Die.fadesStep_lampDrive (x := (s.fresh d).nextPeriod) (k := k.val))
  refine dieAnswers_to rfl hr (Die.ledBoundary_free sns s.now hfree) ⟨?_, ?_, ?_, ?_, boundary_onlyPages rfl⟩
  · rw [Die.settled_led, hphase, hphase', Die.nextPeriod_phase, State.fresh_led]
  · have hnone : (s.fresh d).nextPeriod.lampFaulty k.val = false := by
      change ((s.die d).bitOf F.LED_FAULT_OPEN k.val || (s.die d).bitOf F.LED_FAULT_SHORT k.val) = false
      rw [hopen, hshort, Bool.or_false]
    have hlevelMode : (s.fresh d).nextPeriod.get (F.LED_CFG_MODE k.val) = 1 := hmode
    have hbright : (s.fresh d).nextPeriod.ledLit k.val = true := hlit
    rw [Die.settled_lamp, hon, Die.onTime, hlit', hfaulty, hmode', hcurve, hlevel', hphase', hnone, hlevelMode, hbright]
    rfl
  · rw [Die.settled_lamp, hcode, hcurrent]
    rfl
  · rw [Die.settled_get, hlevel, hlevel']
    rfl

/-- A channel that is not lit or has a fault stays off. -/
theorem ledPeriodBoundary_off (hoff : (s.die d).ledLit k.val = false ∨ (s.die d).bitOf F.LED_FAULT_OPEN k.val = true ∨
      (s.die d).bitOf F.LED_FAULT_SHORT k.val = true) :
    DieAnswers (.ledPeriodBoundary d sns) d s (fun y => (y.lamp k.val).onFor = 0 ∧
      ({ s.die d with led := y.led } : Die).onlyPages [0x3B] [441] y) := by
  have hon := (Die.lampPeriods_lamp (x := (s.fresh d).nextPeriod.fadesStep) sns k.isLt).2.1
  obtain ⟨hlit, hfaulty, -, -, -⟩ := LampDrive.mk.inj (Die.fadesStep_lampDrive (x := (s.fresh d).nextPeriod) (k := k.val))
  have hdark : ((s.fresh d).nextPeriod.ledLit k.val && !(s.fresh d).nextPeriod.lampFaulty k.val) = false := by
    change ((s.die d).ledLit k.val && !((s.die d).bitOf F.LED_FAULT_OPEN k.val || (s.die d).bitOf F.LED_FAULT_SHORT k.val)) = false
    obtain h | h | h := hoff <;> simp [h]
  refine dieAnswers_to rfl hr (Die.ledBoundary_free sns s.now hfree) ⟨?_, boundary_onlyPages rfl⟩
  rw [Die.settled_lamp, hon, Die.onTime, hlit, hfaulty, hdark]
  rfl

end

/-- Settles O39: a command on the lamps changes the channels that it names or whose reference it is, and a boundary gives every channel
its on-time from its own settings, which the fades and the other channels' periods leave as they are. -/
theorem lamps : Obligations.Lamps := by
  unfold Obligations.Lamps
  rintro s d k sns v ref vc mask short p rest x hr rfl
  refine ⟨fun hfree hmode hopen hshort hfade hlit => ledPeriodBoundary_lit hr hfree hmode hopen hshort hfade hlit,
    fun hoff hfree => ledPeriodBoundary_off hr hfree hoff, ?_, ?_, strobeReference_ignored hr, strobePulseEnd_effect hr k v,
    refLost_effect hr k, ledFaultDetect_effect hr k short, ledFaultClear_effect hr mask k, ledSyncArm_arms hr, ledSyncArm_refused hr⟩
  · rintro hmode href rfl
    exact strobeReference_schedules hr hmode href
  · rintro hmode href rfl
    exact strobeReference_missed hr hmode href

end Sys2Proof.Machine

/-! A statement on the throttle levels that fails in this model: the state and the command that refute it. -/

namespace Sys2Proof.Machine

/-! ### A level beyond its field (O41) -/

/-- Die A holds the number 17 for the level of zone 0, a field of four bits. -/
def wideLevel : State := { dieA := { ({} : Die) with live := RegFile.put {} (F.THM_ZONE_STAT_LEVEL 0) 17 } }

theorem wideLevel_stepDown :
    afterOnDieA (fun y => y.get (F.THM_ZONE_STAT_LEVEL 0)) (exec (.levelStepDown .a 0) wideLevel) = some 0 := by
  decide +kernel

/-- Refutes O41: the statement is for every state, and LEVEL_STEP_DOWN writes the level less one into a field of four bits. In
`wideLevel`, which no run from reset reaches, since a level fits its field, the level 17 becomes 0 and not 16. -/
theorem not_thermalActions : ¬ Obligations.ThermalActions := by
  unfold Obligations.ThermalActions
  intro h
  obtain ⟨-, hdown, -⟩ := h wideLevel .a 0 (0, 0) 0 _ (by decide) rfl
  obtain ⟨t, ht, -, hlevel, -⟩ := hdown rfl (by decide +kernel) (by decide +kernel) (by decide +kernel)
  have heval := wideLevel_stepDown
  rw [ht, afterOnDieA_next] at heval
  have hwas : wideLevel.dieA.get (F.THM_ZONE_STAT_LEVEL 0) = 17 := by decide +kernel
  exact absurd ((Option.some.inj heval).symm.trans (hlevel.trans (congrArg (· - 1) hwas))) (by decide)

end Sys2Proof.Machine

/-! What a change elsewhere on the die leaves of the thermal controller, and of an orderly stop that has begun (chapter 10). -/

namespace Sys2Proof.Machine

/-- The fields of the thermal page, the one that shows the Seed Tray stopped, and the two that reset values depend on. -/
def Fld.ofThermal (f : Fld) : Bool := f.pageOf = 5 || f.key = F.NVS_STATE_STOPPED.key || f.steers

/-- What a change beside the thermal controller leaves of the die behind the registers, and the registers and the events. -/
def Die.thermalSide (x : Die) : List Sensor × Bool × Bool × RegFile × BitVec 640 × BitVec 640 :=
  (x.thm.sens, x.thm.stopping, x.led.off, x.live, x.evPend, x.evRaw)

/-- `y` is `x` but for what lies beside its sensors, the registers of its thermal controller and an orderly stop that has begun: what
was pending still is, and lamps that are off for the stop stay off. -/
structure Die.ThermalKept (x y : Die) : Prop where
  sens : y.thm.sens = x.thm.sens
  stopping : y.thm.stopping = x.thm.stopping
  dark : x.led.off = true → y.led.off = true
  live : ∀ f : Fld, f.ofThermal = true → y.live.look f = x.live.look f
  pends : ∀ e, x.pends e = true → y.pends e = true
  condOn : ∀ e, 32 ≤ e → e < 64 → y.condOn e = x.condOn e

/-! ### Fields -/

theorem Fld.ofThermal_of_beyond {f : Fld} (h : 0x11 * 0x20000 ≤ f.key) (hs : f.steers = false) : f.ofThermal = false := by
  have hstopped : F.NVS_STATE_STOPPED.key < 0x11 * 0x20000 := by decide
  simp only [Fld.ofThermal, Fld.pageOf, hs, Bool.or_false, Bool.or_eq_false_iff]
  exact ⟨decide_eq_false (by omega), decide_eq_false (by omega)⟩

/-- A field beyond the pages of the sensor port. -/
theorem Fld.ofThermal_of_ofSensor {f : Fld} (h : 0x22 * 0x20000 ≤ f.key) : f.ofThermal = false := by
  have hsensor := Fld.ofSensor_of_beyond h
  simp only [Fld.ofSensor, Bool.or_eq_false_iff] at hsensor
  exact Fld.ofThermal_of_beyond (by omega) hsensor.2

theorem Fld.key_ne_of_ofThermal {f g : Fld} (hf : f.ofThermal = true) (hg : g.ofThermal = false) : g.key ≠ f.key := by
  intro h
  simp only [Fld.ofThermal, Fld.pageOf, Fld.steers, h] at hf hg
  exact absurd (hf.symm.trans hg) (by decide)

theorem Fld.showsQueue_of_ofThermal {f : Fld} (hf : f.ofThermal = true) : f.showsQueue = false := by
  have hne : ∀ {g : Fld}, g.ofThermal = false → f.key ≠ g.key := fun hg => (Fld.key_ne_of_ofThermal hf hg).symm
  have hfill := hne (g := F.PRC_EVQ_FILL) (by decide)
  have hpeak := hne (g := F.PRC_MP_LOAD_PEAK) (by decide)
  have hmerged := hne (g := F.PRC_EVQ_MERGED) (by decide)
  have hovf := hne (g := F.PRC_MP_LOAD_OVF) (by decide)
  simp [Fld.showsQueue, hfill, hpeak, hmerged, hovf]

@[simp] theorem F.ofThermal_pwmDutyHigh (m : Nat) : (F.PWM_DUTY_HIGH m).ofThermal = false :=
  Fld.ofThermal_of_ofSensor (by simp only [Fld.key, F.PWM_DUTY_HIGH]; omega)

@[simp] theorem F.ofThermal_pwmDutyFrac (m : Nat) : (F.PWM_DUTY_FRAC m).ofThermal = false :=
  Fld.ofThermal_of_ofSensor (by simp only [Fld.key, F.PWM_DUTY_FRAC]; omega)

@[simp] theorem F.ofThermal_pwmDutySign (m : Nat) : (F.PWM_DUTY_SIGN m).ofThermal = false :=
  Fld.ofThermal_of_ofSensor (by simp only [Fld.key, F.PWM_DUTY_SIGN]; omega)

@[simp] theorem F.ofThermal_pwmOwn (m : Nat) : (F.PWM_OWN_OWN m).ofThermal = false :=
  Fld.ofThermal_of_ofSensor (by simp only [Fld.key, F.PWM_OWN_OWN]; omega)

@[simp] theorem F.ofThermal_loopValue (n : Nat) : (F.LOOP_I_VALUE n).ofThermal = false :=
  Fld.ofThermal_of_ofSensor (by simp only [Fld.key, F.LOOP_I_VALUE]; omega)

@[simp] theorem F.ofThermal_ledFading (k : Nat) : (F.LED_STAT_FADING k).ofThermal = false :=
  Fld.ofThermal_of_ofSensor (by simp only [Fld.key, F.LED_STAT_FADING]; omega)

@[simp] theorem F.ofThermal_afeEn (o : AfeOut) : (F.afeEn o).ofThermal = false := by cases o <;> decide

/-! ### The steps of a change -/

section
variable {x y z : Die}

theorem Die.ThermalKept.refl (x : Die) : x.ThermalKept x :=
  ⟨rfl, rfl, fun h => h, fun _ _ => rfl, fun _ h => h, fun _ _ _ => rfl⟩

theorem Die.ThermalKept.trans (h : x.ThermalKept y) (k : y.ThermalKept z) : x.ThermalKept z where
  sens := k.sens.trans h.sens
  stopping := k.stopping.trans h.stopping
  dark hx := k.dark (h.dark hx)
  live f hf := (k.live f hf).trans (h.live f hf)
  pends e he := k.pends e (h.pends e he)
  condOn e h32 h64 := (k.condOn e h32 h64).trans (h.condOn e h32 h64)

/-- A change behind the registers, of another block. -/
theorem Die.ThermalKept.behind (h : x.ThermalKept y) (hside : z.thermalSide = y.thermalSide) : x.ThermalKept z := by
  simp only [Die.thermalSide, Prod.mk.injEq] at hside
  obtain ⟨hsens, hstop, hoff, hlive, hpend, hraw⟩ := hside
  exact h.trans ⟨hsens, hstop, fun hy => hoff.trans hy, fun f _ => by rw [hlive], fun e he => by rwa [Die.pends, hpend],
    fun e _ _ => by rw [Die.condOn, hraw, Die.condOn]⟩

theorem Die.ThermalKept.set {f : Fld} {v : Nat} (hf : f.ofThermal = false) (h : x.ThermalKept y) : x.ThermalKept (y.set f v) :=
  ⟨h.sens, h.stopping, h.dark,
    fun g hg => (RegFile.look_put_ne _ _ (Fld.key_ne_of_ofThermal hg hf)).trans (h.live g hg), h.pends, h.condOn⟩

theorem Die.ThermalKept.setB {f : Fld} {b : Bool} (hf : f.ofThermal = false) (h : x.ThermalKept y) : x.ThermalKept (y.setB f b) :=
  .set hf h

theorem Die.ThermalKept.setBit {f : Fld} {i : Nat} {b : Bool} (hf : f.ofThermal = false) (h : x.ThermalKept y) :
    x.ThermalKept (y.setBit f i b) := .set hf h

theorem Die.ThermalKept.count {f : Fld} {n : Nat} (hf : f.ofThermal = false) (h : x.ThermalKept y) : x.ThermalKept (y.count f n) :=
  .set hf h

theorem Die.ThermalKept.fire {e : Nat} (h : x.ThermalKept y) : x.ThermalKept (y.fire e) :=
  ⟨by rw [Die.fire_thm, h.sens], by rw [Die.fire_thm, h.stopping], fun hx => by rw [Die.fire_led, h.dark hx],
    fun f hf => (Die.fire_look y e (Fld.showsQueue_of_ofThermal hf)).trans (h.live f hf),
    fun i hi => Die.fire_keeps_pending y e (h.pends i hi), fun i h32 h64 => (Die.fire_condOn y e i).trans (h.condOn i h32 h64)⟩

/-- A condition that is not the thermal controller's. -/
theorem Die.ThermalKept.cond {e : Nat} {b : Bool} (he : e < 32 ∨ 64 ≤ e) (h : x.ThermalKept y) : x.ThermalKept (y.cond e b) := by
  obtain ⟨-, hlook, -, hraw⟩ := Die.only_cond (Die.only_refl y [] [e]) (List.mem_singleton_self e) b
  exact ⟨by rw [Die.cond_thm, h.sens], by rw [Die.cond_thm, h.stopping], fun hx => by rw [Die.cond_led, h.dark hx],
    fun f hf => (hlook f (Fld.showsQueue_of_ofThermal hf) (by simp)).trans (h.live f hf),
    fun i hi => Die.cond_keeps_pends b (h.pends i hi),
    fun i h32 h64 => (hraw i (by rw [List.mem_singleton]; omega)).trans (h.condOn i h32 h64)⟩

theorem Die.ThermalKept.ite {p : Prop} [Decidable p] {y z : Die} (hy : x.ThermalKept y) (hz : x.ThermalKept z) :
    x.ThermalKept (if p then y else z) := by
  split
  · exact hy
  · exact hz

theorem Die.ThermalKept.foldl {α : Type} {f : Die → α → Die} {l : List α}
    (hf : ∀ z, ∀ a ∈ l, x.ThermalKept z → x.ThermalKept (f z a)) (h : x.ThermalKept y) : x.ThermalKept (l.foldl f y) := by
  induction l generalizing y with
  | nil => exact h
  | cons a l ih => exact ih (fun z b hb => hf z b (by simp [hb])) (hf y a (by simp) h)

theorem Die.ThermalKept.get (h : x.ThermalKept y) {f : Fld} (hf : f.ofThermal = true) : y.get f = x.get f := by
  have hdie : y.live.look F.SYS_IDENT_DIE = x.live.look F.SYS_IDENT_DIE := h.live _ (by decide)
  have hexport : y.live.look F.SEQ_LIMITS_EXPORT = x.live.look F.SEQ_LIMITS_EXPORT := h.live _ (by decide)
  simp only [Die.get, Die.resetOf, h.live f hf, hdie, hexport]

theorem Die.ThermalKept.on (h : x.ThermalKept y) {f : Fld} (hf : f.ofThermal = true) : y.on f = x.on f := by
  rw [Die.on, h.get hf, Die.on]

theorem Die.ThermalKept.sensor (h : x.ThermalKept y) (k : Nat) : y.sensor k = x.sensor k := by
  rw [Die.sensor, h.sens, Die.sensor]

end

/-! ### The thermal frame and the contexts -/

section
variable {x y : Die} (h : x.ThermalKept y)
include h

theorem Die.ThermalKept.onFrame {n : Nat} {f : ThermFrame → ThermFrame} : x.ThermalKept (y.onFrame n f) :=
  .ite (.behind h rfl) (.ite (.behind h rfl) h)

theorem Die.ThermalKept.markGraft : x.ThermalKept y.markGraft := .ite (.behind h rfl) (.behind h rfl)

theorem Die.ThermalKept.removeFrame {n num : Nat} : x.ThermalKept (y.removeFrame n num) := by
  unfold Die.removeFrame
  extract_lets k
  split <;> exact .behind h rfl

theorem Die.ThermalKept.handOn {n num : Nat} {settling : Bool} : x.ThermalKept (y.handOn n num settling) := by
  unfold Die.handOn Die.passOn
  repeat' split
  all_goals exact .behind h rfl

theorem Die.ThermalKept.loseFrame {n : Nat} {abandoned : Bool} : x.ThermalKept (y.loseFrame n abandoned) := by
  unfold Die.loseFrame
  split
  · dsimp only
    exact .ite h (.ite (.behind (.onFrame h) rfl) (.foldl (fun _ _ _ hz => .removeFrame (.handOn hz)) (.onFrame h)))
  · exact h

/-! ### The Cloche, its heater and the calibration event (chapter 5) -/

theorem Die.ThermalKept.viewLost : x.ThermalKept y.viewLost := .ite (.behind h rfl) h

theorem Die.ThermalKept.showClo : x.ThermalKept y.showClo := by
  have hpos : ∀ {b c d : Bool} {n : Nat}, x.ThermalKept (((((y.setB F.CLO_POS_HALL0 b).setB F.CLO_POS_HALL1 c).set
      F.CLO_POS_STATE n).setB (F.STAT_IDLE 0x29) d)) := .setB (by decide) <| .set (by decide) <| .setB (by decide) <| .setB (by decide) h
  unfold Die.showClo
  dsimp only
  exact .ite (.cond (by decide) hpos)
    (.ite (.onFrame (.viewLost (.cond (by decide) hpos))) (.viewLost (.cond (by decide) hpos)))

theorem Die.ThermalKept.cloBegin {closing again : Bool} {now : Nat} : x.ThermalKept (y.cloBegin closing again now) :=
  .showClo (.behind h rfl)

theorem Die.ThermalKept.cloRest {m : Move} {now : Nat} : x.ThermalKept (y.cloRest m now).1 := by
  unfold Die.cloRest
  extract_lets z shut opened
  have hz : x.ThermalKept z := .behind h rfl
  have hshut : x.ThermalKept shut := .fire <| .showClo <| .set (by decide) hz
  have hopened : x.ThermalKept opened := by
    unfold opened
    split
    · exact .set (by decide) hz
    · exact hz
  split
  · split
    · dsimp only; exact .cloBegin hshut
    · exact hshut
  · dsimp only
    have hshown : x.ThermalKept (opened.set F.CLO_POS_OPEN_T (msSince now m.began)) := .set (by decide) hopened
    exact .fire <| .showClo <| .behind hshown rfl

theorem Die.ThermalKept.cloSettle {now n : Nat} : x.ThermalKept (y.cloSettle now n).1 := by
  induction n generalizing y with
  | zero => exact h
  | succ n ih =>
    unfold Die.cloSettle
    split
    · exact h
    · split
      · dsimp only
        split
        · exact ih (.cloRest (.behind h rfl))
        · exact .behind h rfl
      · exact h

theorem Die.ThermalKept.cloMove {closing : Bool} {now : Nat} : x.ThermalKept (y.cloMove closing now).1 := .cloSettle (.cloBegin h)

theorem Die.ThermalKept.openAtOnce {now : Nat} : x.ThermalKept (y.openAtOnce now).1 := by
  unfold Die.openAtOnce
  split
  · exact h
  · split
    · split
      · exact h
      · split
        · exact .behind h rfl
        · exact .cloMove h
    · exact .cloMove h

theorem Die.ThermalKept.keepDuty {m : Nat} : x.ThermalKept (y.keepDuty m) := .ite h (.behind h rfl)

theorem Die.ThermalKept.writeDuty {m n : Nat} {rev : Bool} : x.ThermalKept (y.writeDuty m n rev) := by
  unfold Die.writeDuty
  extract_lets r kept written
  have hwritten : x.ThermalKept written := .setB (by simp) <| .set (by simp) <| .set (by simp) <| .keepDuty (.keepDuty h)
  clear_value written
  exact .behind hwritten rfl

theorem Die.ThermalKept.loopDrive {n : Nat} {u : Int} : x.ThermalKept (y.loopDrive n u) := .writeDuty h

theorem Die.ThermalKept.setInteg {n : Nat} {i : Int} : x.ThermalKept (y.setInteg n i) := by
  unfold Die.setInteg
  exact .set (by simp) (.behind h rfl)

theorem Die.ThermalKept.showLoops : x.ThermalKept y.showLoops := .foldl (fun _ _ _ hz => .setBit (by decide) hz) h

theorem Die.ThermalKept.showOwners : x.ThermalKept y.showOwners := .foldl (fun _ _ _ hz => .set (by simp) hz) h

theorem Die.ThermalKept.bladeLoopOff : x.ThermalKept y.bladeLoopOff := by
  unfold Die.bladeLoopOff
  extract_lets n
  have hoff : x.ThermalKept ((y.loopDrive n 0).setInteg n 0) := .setInteg (.loopDrive h)
  generalize (y.loopDrive n 0).setInteg n 0 = z at hoff ⊢
  exact .showOwners (.showLoops (.behind hoff rfl))

theorem Die.ThermalKept.heaterOff : x.ThermalKept y.heaterOff := by
  unfold Die.heaterOff
  have hoff : x.ThermalKept ((if y.on F.CLO_HTR_EN then (y.set F.CLO_HTR_EN 0).bladeLoopOff else y).set F.CLO_HTR_STAT_READY 0) :=
    .set (by decide) (.ite (.bladeLoopOff (.set (by decide) h)) h)
  exact .behind hoff rfl

theorem Die.ThermalKept.cloOff : x.ThermalKept y.cloOff := .showClo (.behind h rfl)

theorem Die.ThermalKept.phaseOver : x.ThermalKept y.phaseOver :=
  .set (by decide) <| .set (by decide) <| .set (by decide) <| .set (by decide) h

theorem Die.ThermalKept.calAbandon {result now : Nat} : x.ThermalKept (y.calAbandon result now) := by
  have hover : x.ThermalKept (y.eventOver now) := .behind h rfl
  unfold Die.calAbandon
  split
  · exact h
  · exact .ite h <| .phaseOver <| .openAtOnce <| .fire <| .set (by decide) <| .ite (.heaterOff hover) hover

/-! ### The blade diode's reading (R160) -/

theorem Die.ThermalKept.heaterBand {afresh : Bool} {now : Nat} : x.ThermalKept (y.heaterBand afresh now) := by
  unfold Die.heaterBand
  extract_lets z
  have hz : x.ThermalKept z := by
    have hoff : x.ThermalKept (y.set F.CLO_HTR_STAT_READY 0) := .set (by decide) h
    exact .ite (.behind hoff rfl) h
  exact .ite (.behind hz rfl) hz

theorem Die.ThermalKept.noteBlade {now : Nat} : x.ThermalKept (y.noteBlade now) := by
  unfold Die.noteBlade
  split
  · exact .ite (.behind h rfl) h
  · exact h

theorem Die.ThermalKept.bladeReading {r : Option Int} {now : Nat} : x.ThermalKept (y.bladeReading r now) := by
  unfold Die.bladeReading
  split
  · exact .heaterOff (.set (by decide) h)
  · rename_i t
    extract_lets z tmax
    have hz : x.ThermalKept z := .noteBlade <| .heaterBand <| .set (by decide) <| .set (by decide) h
    exact .ite (.cond (by decide) (.set (by decide) (.heaterOff hz))) (.ite (.cond (by decide) (.set (by decide) hz)) hz)

/-! ### The Rake, the loops, the sensor port's outputs, the PWM and the lamps off (Table 10.8) -/

theorem Die.ThermalKept.abandonFrame {now : Nat} : x.ThermalKept (y.abandonFrame now) := by
  unfold Die.abandonFrame
  extract_lets n lost z
  have hopen : x.ThermalKept (y.onRake fun r => { r with frameOpen := false, row := none, blankRow := false }) := .behind h rfl
  have hframe := Die.ThermalKept.loseFrame hopen (n := n) (abandoned := true)
  have hz : x.ThermalKept z := .behind hframe rfl
  split
  · exact h
  · split
    · exact .ite (.calAbandon hz) hz
    · exact hz

theorem Die.ThermalKept.rakeHalt {now : Nat} : x.ThermalKept (y.rakeHalt none now) := by
  have hquit : x.ThermalKept (y.rakeQuit none now) := by
    unfold Die.rakeQuit
    extract_lets lost halted off shown
    have hhalted : x.ThermalKept halted := .behind (y := lost) (.abandonFrame h) rfl
    have hoff : x.ThermalKept off := .set (by decide) (.set (by decide) hhalted)
    exact .ite h (.calAbandon hoff)
  exact .ite h (.fire hquit)

theorem Die.ThermalKept.loopRest {n : Nat} : x.ThermalKept (y.loopRest n) := .ite (.loopDrive h) (.loopDrive h)

theorem Die.ThermalKept.loopsStop : x.ThermalKept y.loopsStop :=
  .showLoops <| .foldl (fun _ _ _ hz => .behind (.setInteg (.ite (.loopRest hz) hz)) rfl) h

theorem Die.ThermalKept.outOff {o : AfeOut} : x.ThermalKept (y.outOff o) := by
  have hoff : x.ThermalKept ((y.setBit F.AFE_OUT_STAT_GOOD o.idx false).setBit F.AFE_OUT_STAT_RAMPING o.idx false) :=
    .setBit (by decide) (.setBit (by decide) h)
  exact .behind hoff rfl

theorem Die.ThermalKept.afeVrange : x.ThermalKept y.afeVrange := .cond (by decide) h

theorem Die.ThermalKept.afeOff : x.ThermalKept y.afeOff := by
  unfold Die.afeOff
  extract_lets outs
  have houts : x.ThermalKept outs := .foldl (fun _ _ _ hz => .outOff (.set (by simp) hz)) h
  clear_value outs
  have hseq : x.ThermalKept (outs.onAfe fun a => { a with offSeq := true }) := .behind houts rfl
  exact .afeVrange <| .set (by decide) <| .set (by decide) <| .set (by decide) <| .set (by decide) hseq

theorem Die.ThermalKept.safeOff : x.ThermalKept y.safeOff :=
  .fire <| .foldl (fun _ _ _ hz => .behind hz rfl) (.behind h rfl)

theorem Die.ThermalKept.lampsOff : x.ThermalKept y.lampsOff := by
  refine .foldl (fun z k _ hz => ?_) h
  have hshown : x.ThermalKept (z.set (F.LED_STAT_FADING k) 0) := .set (by simp) hz
  exact .behind hshown rfl

/-- The lamps off for the stop. -/
theorem Die.ThermalKept.ledOff : x.ThermalKept (y.onLed fun l => { l with off := true }) :=
  h.trans ⟨rfl, rfl, fun _ => rfl, fun _ _ => rfl, fun _ k => k, fun _ _ _ => rfl⟩

/-! ### The close of the evidence (R224 to R237) -/

theorem Die.ThermalKept.onEvd {k : Evd → Evd} : x.ThermalKept (y.onEvd k) := .behind h rfl

theorem Die.ThermalKept.freeBytes {n : Nat} : x.ThermalKept (y.freeBytes n).2 := by
  induction n generalizing y with
  | zero => exact h
  | succ n ih => exact ih (.behind h rfl)

theorem Die.ThermalKept.mirror {env : Env} {bytes : List Byte} : x.ThermalKept (y.mirror env bytes) := by
  have hsent : x.ThermalKept ((y.send (.pairMirror bytes)).freeBit).2 := .behind h rfl
  exact .ite h (.ite (.ite (.fire hsent) hsent) (.fire h))

theorem Die.ThermalKept.logWrite {env : Env} {bytes : List Byte} : x.ThermalKept (y.logWrite env bytes) := by
  unfold Die.logWrite Die.logRequest
  split
  · have hasked : ∀ what tag, x.ThermalKept (y.nvsRequest 2 what tag) := fun _ _ => .behind h rfl
    exact .mirror (hasked _ _)
  · exact .behind h rfl

theorem Die.ThermalKept.showQueueEvd : x.ThermalKept y.showQueueEvd := by
  unfold Die.showQueueEvd
  extract_lets waits z
  have hz : x.ThermalKept z := .setB (by decide) h
  exact .ite hz (.cond (by decide) hz)

theorem Die.ThermalKept.cut {env : Env} {ask : Bool} : x.ThermalKept (y.cut env ask) := by
  have hkey := h.freeBytes (n := 32)
  unfold Die.cut
  generalize y.freeBytes 32 = drawn at hkey ⊢
  have hset : x.ThermalKept (drawn.2.set F.EVD_EPOCH_EPOCH (y.get F.EVD_EPOCH_EPOCH + 1)) := .set (by decide) hkey
  exact .showQueueEvd (.behind hset rfl)

theorem Die.ThermalKept.countWaiting : x.ThermalKept y.countWaiting := by
  unfold Die.countWaiting
  extract_lets ids fresh
  have hcount : x.ThermalKept (y.count F.EVD_STARVE_COUNT fresh.length) := .count (by decide) h
  exact .ite (.behind hcount rfl) (.behind h rfl)

theorem Die.ThermalKept.showStarve {env : Env} : x.ThermalKept (y.showStarve env) := by
  have hcount : x.ThermalKept (y.cond 548 y.noNumber).countWaiting := .countWaiting (.cond (by decide) h)
  exact .ite (.logWrite hcount) hcount

theorem Die.ThermalKept.reserve : x.ThermalKept y.reserve := .ite (.behind h rfl) h

theorem Die.ThermalKept.dropExcess {s : Nat} : x.ThermalKept (y.dropExcess s) := by
  unfold Die.dropExcess
  extract_lets mine keep z
  have hz : x.ThermalKept z := .behind h rfl
  exact .ite h (.foldl (fun _ _ _ hz => .fire <| .set (by decide) <| .count (by decide) hz) hz)

theorem Die.ThermalKept.showWait : x.ThermalKept y.showWait := by
  have hwait : ∀ s ∈ List.range 42, (F.STR_CFG_WAIT s).ofThermal = false := by decide
  exact .cond (by decide) <| .foldl (fun _ s hs hz => .setB (hwait s hs) hz) h

theorem Die.ThermalKept.dmaPost {i : DmaItem} : x.ThermalKept (y.dmaPost i) := by
  have hqueued : x.ThermalKept (y.onDma fun m => { m with items := m.items ++ [i] }) := .behind h rfl
  exact .showWait (.dropExcess hqueued)

theorem Die.ThermalKept.noteHead {ctx num out : Nat} {head : List Byte} : x.ThermalKept (y.noteHead ctx num out head) := .behind h rfl

theorem Die.ThermalKept.set64 {f g : Fld} {v : Nat} (hf : f.ofThermal = false) (hg : g.ofThermal = false) :
    x.ThermalKept (y.set64 f g v) := .set hg (.set hf h)

theorem Die.ThermalKept.tagOne {env : Env} {e : DoneFrame} {b : OutBuf} : x.ThermalKept (y.tagOne env e b) := by
  unfold Die.tagOne
  split
  extract_lets st prev head hash key tag pos low high counted numbered
  have hcounted : x.ThermalKept counted := .onEvd h
  have hnumbered := hcounted.set64 (f := F.EVD_ESN_LO_ESN) (g := F.EVD_ESN_HI_ESN) (v := y.esn + 1) (by decide) (by decide)
  exact .dmaPost (.noteHead hnumbered)

theorem Die.ThermalKept.tagOuts {env : Env} {e : DoneFrame} {l : List OutBuf} : x.ThermalKept (y.tagOuts env e l) := by
  induction l generalizing y with
  | nil =>
    have hdone : x.ThermalKept (y.onIpp fun i => { i with done := i.done.drop 1 }) := .behind h rfl
    exact .fire hdone
  | cons b l ih =>
    unfold Die.tagOuts
    refine .ite (.behind h rfl) (ih (.reserve ?_))
    have htagged : x.ThermalKept (y.tagOne env e b) := .tagOne h
    generalize y.tagOne env e b = z at htagged ⊢
    have hdone : x.ThermalKept (z.bufDone b) := .behind htagged rfl
    exact .ite (.cut hdone) hdone

theorem Die.ThermalKept.assign {env : Env} : x.ThermalKept (y.assign env) := by
  unfold Die.assign
  split
  · exact h
  · split
    · exact .reserve h
    · exact .ite (.reserve h) (.showStarve (.tagOuts (.reserve h)))

theorem Die.ThermalKept.assignAll {env : Env} {n : Nat} : x.ThermalKept (y.assignAll env n) := by
  induction n generalizing y with
  | zero => exact h
  | succ n ih => exact .ite h (ih (.assign h))

theorem Die.ThermalKept.haltSaves : x.ThermalKept y.haltSaves := by
  unfold Die.haltSaves
  extract_lets lost unqueued told ended
  have htold : x.ThermalKept told := by
    refine .foldl (fun z r _ hz => ?_) (.behind h rfl)
    split
    · exact .behind hz rfl
    · exact .fire <| .set (by decide) <| .set (by decide) hz
    · exact hz
  have hended : x.ThermalKept ended := by
    unfold ended
    exact .ite (.behind htold rfl) htold
  exact .behind hended rfl

theorem Die.ThermalKept.beginClose {env : Env} {ask ringOnly : Bool} : x.ThermalKept (y.beginClose env ask ringOnly) := by
  unfold Die.beginClose
  extract_lets tagged r closing shown
  have htagged : x.ThermalKept tagged := .assignAll (.haltSaves h)
  have hclosing : x.ThermalKept closing := .behind htagged rfl
  have hshown : x.ThermalKept shown := .showQueueEvd <| .set (by decide) <| .cond (by decide) hclosing
  exact .ite h (.ite (.logWrite hshown) hshown)

end

end Sys2Proof.Machine

/-! The orderly stop and the trip (R300 to R303). -/

namespace Sys2Proof.Machine

/-! ### The orderly stop (Table 10.8) -/

section
variable {x : Die}

/-- The orderly stop has begun: event 36 has been reported, the Seed Tray is stopped and the lamps are off. -/
structure Die.Stopping (x : Die) : Prop where
  begun : x.thm.stopping = true
  told : x.pends 36 = true
  tray : x.on F.NVS_STATE_STOPPED = true
  dark : x.led.off = true

theorem Die.ThermalKept.stopped {y : Die} (k : x.ThermalKept y) (h : x.Stopping) : y.Stopping where
  begun := k.stopping.trans h.begun
  told := k.pends 36 h.told
  tray := (k.on (by decide)).trans h.tray
  dark := k.dark h.dark

/-- What the orderly stop begins with: the Seed Tray is stopped for the other writers, with the report and the tally of it. -/
def Die.stopBegun (x : Die) : Die :=
  (((x.haltSaves.fire 36).set F.NVS_STATE_STOPPED 1).nvsRequest 5 (.add 5 1)).onThm
    fun t => { t with stopping := true, deadline := false }

theorem Die.stopBegun_begun : x.stopBegun.thm.stopping = true := rfl

theorem Die.stopBegun_told : x.stopBegun.pends 36 = true := by
  unfold Die.stopBegun
  have htold := Die.fire_pends (e := 36) x.haltSaves (by decide)
  generalize x.haltSaves.fire 36 = y at htold ⊢
  exact htold

theorem Die.stopBegun_tray : x.stopBegun.on F.NVS_STATE_STOPPED = true := by
  unfold Die.stopBegun
  generalize x.haltSaves.fire 36 = y
  exact Die.on_set_self y F.NVS_STATE_STOPPED 1

/-- What the orderly stop switches off (Table 10.8). -/
def Die.blocksOff (x : Die) (now : Nat) : Die :=
  (((((((x.rakeHalt none now).calAbandon 5 now).loopsStop).cloOff).heaterOff).afeOff).safeOff.lampsOff).onLed
    fun l => { l with off := true }

theorem Die.blocksOff_kept {now : Nat} : x.ThermalKept (x.blocksOff now) :=
  .ledOff <| .lampsOff <| .safeOff <| .afeOff <| .heaterOff <| .cloOff <| .loopsStop <| .calAbandon <| .rakeHalt <| .refl x

theorem Die.blocksOff_stopping (now : Nat) : (x.stopBegun.blocksOff now).Stopping where
  begun := Die.blocksOff_kept.stopping.trans Die.stopBegun_begun
  told := Die.blocksOff_kept.pends 36 Die.stopBegun_told
  tray := (Die.blocksOff_kept.on (by decide)).trans Die.stopBegun_tray
  dark := rfl

theorem Die.orderlyStop_stopping (h : x.thm.stopping = false) (env : Env) : (x.orderlyStop env).Stopping := by
  have hoff := Die.blocksOff_stopping (x := x) env.now
  have hstop : x.orderlyStop env = if x.evd.closing.isSome then (x.stopBegun.blocksOff env.now).onEvd fun e => { e with ringOnly := true }
      else (x.stopBegun.blocksOff env.now).beginClose env false true := by
    simp only [Die.orderlyStop, h, Bool.false_eq_true, if_false]
    rfl
  rw [hstop]
  exact Die.ThermalKept.stopped (.ite (.onEvd (.refl _)) (.beginClose (.refl _))) hoff

end

/-! ### The trip (R303) -/

section
variable {x : Die}

theorem Die.cutWrite_boot : x.cutWrite.boot = x.boot := by
  unfold Die.cutWrite
  split
  · rfl
  · extract_lets
    split
    · extract_lets new put
      have hput : ∀ y c p, (put y c p).boot = y.boot := by
        intro y c p
        unfold put
        split <;> rfl
      clear_value put
      dsimp only [Die.freeBit, Die.freeVal]
      split
      · exact (hput _ _ _).trans (hput _ _ _)
      · exact hput _ _ _
    · split <;> rfl
    · split <;> rfl
    · rfl

theorem Die.afterReset_episode (env : Env) (reach : Nat) : (x.afterReset env reach).boot.episode = x.boot.episode := by
  unfold Die.afterReset
  extract_lets old lost shown led
  have hshown : shown.boot.episode = x.boot.episode := rfl
  clear_value shown
  have hled : led.boot = shown.boot := by
    unfold led
    split <;> rfl
  rw [Die.set_boot, hled, hshown]

/-- The source of the thermal restart (Table 11.1). -/
def thermalSource : ResetSource := { order := 3, reach := 5, cause := 3, detail := 0, held := true }

/-- The episode that the thermal restart begins. -/
def thermalEpisode : Episode :=
  { reach := 5, active := [3], best := thermalSource, loading := true, begun := true, restarts := 0 }

/-- So it does on a die that no reset holds, and that has absorbed no other source. -/
theorem Die.thermalRestart_episode (hnone : x.boot.episode = none) (habs : x.boot.absorbed = []) (env : Env) :
    (x.thermalRestart env).boot.episode = some thermalEpisode := by
  simp only [Die.thermalRestart, habs, List.foldl_nil, Die.assertSource]
  rw [if_neg (by simp), Die.afterReset_episode]
  simp [Die.onBoot, hnone, Episode.join, loadMay, thermalEpisode, thermalSource]

theorem Die.trip_episode (hnone : x.boot.episode = none) (habs : x.boot.absorbed = []) (env : Env) :
    (x.trip env).boot.episode = some thermalEpisode :=
  Die.thermalRestart_episode (by rw [Die.cutWrite_boot, hnone]) (by rw [Die.cutWrite_boot, habs]) env

end

end Sys2Proof.Machine

/-! The sensors and zones behind the registers, and what is judged of them again at a reading (R285 to R298). -/

namespace Sys2Proof.Machine

/-! ### The state behind the sensors and the zones -/

section
variable (x : Die) (k z : Nat) (f : Sensor → Sensor) (g : Zone → Zone)

@[simp] theorem Die.onSensor_sensor_self : (x.onSensor k f).sensor k = f (x.sensor k) := getD_fillSet_self _ _ _ _
@[simp] theorem Die.onZone_zone_self : (x.onZone z g).zone z = g (x.zone z) := getD_fillSet_self _ _ _ _

theorem Die.onZone_zone_ne {w : Nat} (h : w ≠ z) : (x.onZone z g).zone w = x.zone w := getD_fillSet_ne _ _ _ h

end

/-- What holds of a zone and of its change holds of every zone after the change. -/
theorem Die.onZone_keeps {x : Die} {z w : Nat} {g : Zone → Zone} {P : Zone → Prop} (h : P (x.zone w)) (hg : ∀ a, P a → P (g a)) :
    P ((x.onZone z g).zone w) := by
  by_cases hw : w = z
  · subst hw
    rw [Die.onZone_zone_self]
    exact hg _ h
  · rwa [Die.onZone_zone_ne x z g hw]

/-- A sensor serves a zone as its spare. -/
def Zone.serves (g : Zone) (k : Nat) : Bool :=
  match g.graft with
  | some (_, s, _) => decide (s = k)
  | none => false

theorem Zone.serves_of_alone {g : Zone} (h : g.graft = none) (k : Nat) : g.serves k = false := by simp [Zone.serves, h]

theorem Die.counts_eq (x : Die) (z k : Nat) :
    x.counts z k = (x.sensorValid k && (x.bitOf (F.THM_ZONE_CFG_MASK z) k || (x.zone z).serves k)) := rfl

theorem Die.reaches_eq (x : Die) (k : Nat) :
    x.reaches k = x.zonesOn.filter (fun z => x.bitOf (F.THM_ZONE_CFG_MASK z) k || (x.zone z).serves k) := rfl

/-! ### Sensors and zones that are measured and served alike -/

/-- The fields that say which sensors are measured and have failed, and which zones run, name them and trip with them. -/
def sensing : List Fld :=
  F.THM_CTRL_EN :: ((List.range 10).flatMap (fun k => [F.THM_DIODE_EN k, F.THM_SENS_FAIL k]) ++
    (List.range 4).flatMap (fun z => [F.THM_ZONE_CFG_EN z, F.THM_ZONE_CFG_MASK z, F.THM_ZONE_THR_SHUT z]))

/-- The sensors and zones of `y` are set as those of `x`. -/
def Die.SetAs (x y : Die) : Prop := ∀ f ∈ sensing, y.get f = x.get f

section
variable {x y : Die} (h : x.SetAs y) (k : Fin 10) (z : Fin 4)
include h

theorem Die.SetAs.sensorValid : y.sensorValid k = x.sensorValid k := by
  simp only [Die.sensorValid, Die.sensed, Die.on, h F.THM_CTRL_EN (by decide),
    h (F.THM_DIODE_EN k) ((by decide : ∀ k : Fin 10, F.THM_DIODE_EN k ∈ sensing) k),
    h (F.THM_SENS_FAIL k) ((by decide : ∀ k : Fin 10, F.THM_SENS_FAIL k ∈ sensing) k)]

theorem Die.SetAs.zoneOn : y.zoneOn z = x.zoneOn z := by
  simp only [Die.zoneOn, Die.on, h F.THM_CTRL_EN (by decide),
    h (F.THM_ZONE_CFG_EN z) ((by decide : ∀ z : Fin 4, F.THM_ZONE_CFG_EN z ∈ sensing) z)]

theorem Die.SetAs.mask (j : Nat) : y.bitOf (F.THM_ZONE_CFG_MASK z) j = x.bitOf (F.THM_ZONE_CFG_MASK z) j := by
  rw [Die.bitOf, h _ ((by decide : ∀ z : Fin 4, F.THM_ZONE_CFG_MASK z ∈ sensing) z), Die.bitOf]

theorem Die.SetAs.shut : y.thr F.THM_ZONE_THR_SHUT z = x.thr F.THM_ZONE_THR_SHUT z := by
  rw [Die.thr, h _ ((by decide : ∀ z : Fin 4, F.THM_ZONE_THR_SHUT z ∈ sensing) z), Die.thr]

theorem Die.SetAs.members : y.members z = x.members z := by
  simp only [Die.members, h.mask]

theorem Die.SetAs.zonesOn : y.zonesOn = x.zonesOn :=
  List.filter_congr fun w hw => h.zoneOn ⟨w, List.mem_range.1 hw⟩

end

/-- The sensors and zones of `y` are set as those of `x`, and the zones served by the same spares. -/
structure Die.SensedAs (x y : Die) : Prop where
  set : x.SetAs y
  serves : ∀ z k, (y.zone z).serves k = (x.zone z).serves k

theorem Die.zonesOn_lt {x : Die} {w : Nat} (hw : w ∈ x.zonesOn) : w < 4 := List.mem_range.1 (List.mem_of_mem_filter hw)

section
variable {x y : Die} (h : x.SensedAs y) (k : Fin 10)
include h

theorem Die.SensedAs.counts (z : Fin 4) : y.counts z k = x.counts z k := by
  rw [Die.counts_eq, Die.counts_eq, h.set.sensorValid, h.set.mask, h.serves]

theorem Die.SensedAs.reaches : y.reaches k = x.reaches k := by
  rw [Die.reaches_eq, Die.reaches_eq, h.set.zonesOn]
  refine List.filter_congr fun w hw => ?_
  rw [h.set.mask ⟨w, Die.zonesOn_lt hw⟩, h.serves]

theorem Die.SensedAs.tripHit (prev : Option Int) (v : Int) : y.tripHit k prev v = x.tripHit k prev v := by
  unfold Die.tripHit
  cases prev with
  | none => rfl
  | some p =>
    dsimp only
    rw [h.set.zonesOn]
    refine Bool.eq_iff_iff.2 ?_
    simp only [List.any_eq_true]
    refine exists_congr fun w => and_congr_right fun hw => ?_
    rw [h.counts k ⟨w, Die.zonesOn_lt hw⟩, h.set.shut ⟨w, Die.zonesOn_lt hw⟩]

end

/-! ### A sensor that serves no zone, and one that is a zone's only member -/

section
variable {x : Die} {k z : Nat}

/-- A sensor that serves no zone trips none. -/
theorem Die.tripHit_of_reaches_nil (h : x.reaches k = []) (prev : Option Int) (v : Int) : x.tripHit k prev v = false := by
  rw [Die.reaches_eq, List.filter_eq_nil_iff] at h
  unfold Die.tripHit
  cases prev with
  | none => rfl
  | some p =>
    refine List.any_eq_false.2 fun w hw => ?_
    simp [Die.counts_eq, Bool.eq_false_iff.2 (h w hw)]

theorem Die.tripHit_of_zone {p v : Int} (hon : x.zoneOn z = true) (hz : z < 4) (hvalid : x.sensorValid k = true)
    (hmask : x.bitOf (F.THM_ZONE_CFG_MASK z) k = true) (hp : x.thr F.THM_ZONE_THR_SHUT z + 10000 ≤ p)
    (hv : x.thr F.THM_ZONE_THR_SHUT z + 10000 ≤ v) : x.tripHit k (some p) v = true := by
  refine List.any_eq_true.2 ⟨z, List.mem_filter.2 ⟨List.mem_range.2 hz, hon⟩, ?_⟩
  simp [Die.counts_eq, hvalid, hmask, hp, hv]

theorem Die.mask_of_members (h : x.members z = [k]) : x.bitOf (F.THM_ZONE_CFG_MASK z) k = true :=
  (List.mem_filter.1 (h ▸ List.mem_singleton_self k : k ∈ x.members z)).2

theorem Die.mem_reaches (hon : x.zoneOn z = true) (hz : z < 4) (h : x.members z = [k]) : z ∈ x.reaches k := by
  rw [Die.reaches_eq]
  exact List.mem_filter.2 ⟨List.mem_filter.2 ⟨List.mem_range.2 hz, hon⟩, by simp [Die.mask_of_members h]⟩

/-- The shutdown temperature of a zone of one valid sensor and no spare (R289). -/
theorem Die.shutTemp_alone (hm : x.members z = [k]) (hvalid : x.sensorValid k = true) (hg : (x.zone z).graft = none) :
    x.shutTemp z = (x.sensor k).last := by
  have hcounts : (List.range 10).filter (x.counts z) = [k] := by
    have hsplit : x.counts z = fun j => x.sensorValid j && x.bitOf (F.THM_ZONE_CFG_MASK z) j := by
      funext j
      rw [Die.counts_eq, Zone.serves_of_alone hg, Bool.or_false]
    rw [hsplit, ← List.filter_filter]
    change (x.members z).filter x.sensorValid = [k]
    simp [hm, hvalid]
  unfold Die.shutTemp
  rw [hcounts]
  simp

theorem Die.shutHit_alone {p v : Int} (hm : x.members z = [k]) (hvalid : x.sensorValid k = true) (hg : (x.zone z).graft = none)
    (hlast : (x.sensor k).last = some v) (hp : x.thr F.THM_ZONE_THR_SHUT z ≤ p) (hv : x.thr F.THM_ZONE_THR_SHUT z ≤ v) :
    x.shutHit z (some p) = true := by
  simp [Die.shutHit, Die.shutTemp_alone hm hvalid hg, hlast, hp, hv]

end

end Sys2Proof.Machine

/-! The zones, the die's level and the conditions brought up to date (R286 to R292, R297, R298). -/

namespace Sys2Proof.Machine

/-- The fields that show a zone. -/
def zoneShown (z : Nat) : List Fld :=
  [F.THM_ZONE_STAT_WARN z, F.THM_ZONE_STAT_THROT z, F.THM_ZONE_STAT_HELD z, F.THM_ZONE_STAT_NOSENSOR z, F.THM_ZONE_STAT_LEVEL z,
   F.THM_ZONE_STAT_SRC z, F.THM_ZONE_STAT_TEMP z]

/-- The fields that show the die's level and the failed sensors. -/
def levelShown : List Fld := [F.THM_LEVEL_LEVEL, F.THM_LEVEL_PEAK, F.THM_CNT_RAISES, F.THM_FAIL_FAILED]

/-- What a judgement of the zones and of the level writes. -/
def judgedFields : List Fld := levelShown ++ (List.range 4).flatMap zoneShown

/-- The events of the level and of the conditions. -/
abbrev levelEvents : List Nat := [33, 34, 35, 37, 38, 40, 41]

theorem zoneShown_sub (z : Fin 4) : zoneShown z ⊆ judgedFields :=
  (by decide : ∀ z : Fin 4, zoneShown z ⊆ judgedFields) z

theorem judgedFields_page : ∀ g ∈ judgedFields, g.pageOf = 5 := by decide

theorem judgedFields_steers : ∀ g ∈ judgedFields, g.steers = false := by decide

/-- The die behind its registers, but for the thermal controller and the marks of frames. -/
def Die.butThm (x : Die) : Die := { x.hidden with thm := {}, ipp := {} }

/-- `y` is `x` with zones and the level judged again: sensors, an orderly stop and a zone without a spare stay as they are, and of the
registers, the events and the other state no more changes than shows the judgement. -/
structure Die.Rejudged (x y : Die) : Prop where
  regs : x.Regs judgedFields levelEvents y
  behind : y.butThm = x.butThm
  wr : y.wr = x.wr
  dramCut : y.dramCut = x.dramCut
  sens : y.thm.sens = x.thm.sens
  stopping : y.thm.stopping = x.thm.stopping
  alone : ∀ w, (x.zone w).graft = none → (y.zone w).graft = none

section
variable {x y z : Die}

theorem Die.butThm_of_hidden (h : y.hidden = x.hidden) : y.butThm = x.butThm := by simp [Die.butThm, h]

theorem Die.Rejudged.refl (x : Die) : x.Rejudged x := ⟨.refl x _ _, rfl, rfl, rfl, rfl, rfl, fun _ h => h⟩

theorem Die.Rejudged.set {f : Fld} {v : Nat} (hf : f ∈ judgedFields) (h : x.Rejudged y) : x.Rejudged (y.set f v) :=
  ⟨.set hf h.regs, h.behind, h.wr, h.dramCut, h.sens, h.stopping, h.alone⟩

theorem Die.Rejudged.setB {f : Fld} {b : Bool} (hf : f ∈ judgedFields) (h : x.Rejudged y) : x.Rejudged (y.setB f b) := .set hf h

theorem Die.Rejudged.setS {f : Fld} {i : Int} (hf : f ∈ judgedFields) (h : x.Rejudged y) : x.Rejudged (y.setS f i) := .set hf h

theorem Die.Rejudged.count {f : Fld} {n : Nat} (hf : f ∈ judgedFields) (h : x.Rejudged y) : x.Rejudged (y.count f n) := .set hf h

theorem Die.Rejudged.ite {p : Prop} [Decidable p] {y z : Die} (hy : x.Rejudged y) (hz : x.Rejudged z) :
    x.Rejudged (if p then y else z) := by
  split
  · exact hy
  · exact hz

theorem Die.Rejudged.peak {f : Fld} {v : Nat} (hf : f ∈ judgedFields) (h : x.Rejudged y) : x.Rejudged (y.peak f v) := .ite (.set hf h) h

theorem Die.Rejudged.fire {e : Nat} (he : e ∈ levelEvents) (h : x.Rejudged y) : x.Rejudged (y.fire e) :=
  ⟨.fire he h.regs, (Die.butThm_of_hidden (Die.fire_hidden y e)).trans h.behind, (Die.fire_wr y e).trans h.wr,
    (Die.fire_dramCut y e).trans h.dramCut, by rw [Die.fire_thm, h.sens], by rw [Die.fire_thm, h.stopping],
    fun w hw => by rw [Die.zone, Die.fire_thm]; exact h.alone w hw⟩

theorem Die.Rejudged.cond {e : Nat} {b : Bool} (he : e ∈ levelEvents) (h : x.Rejudged y) : x.Rejudged (y.cond e b) :=
  ⟨.cond he h.regs, (Die.butThm_of_hidden (Die.cond_hidden y e b)).trans h.behind, (Die.cond_wr y e b).trans h.wr,
    (Die.cond_dramCut y e b).trans h.dramCut, by rw [Die.cond_thm, h.sens], by rw [Die.cond_thm, h.stopping],
    fun w hw => by rw [Die.zone, Die.cond_thm]; exact h.alone w hw⟩

theorem Die.Rejudged.noteThrottle {n : Nat} (h : x.Rejudged y) : x.Rejudged (y.noteThrottle n) :=
  ⟨⟨h.regs.live, h.regs.pend, h.regs.raw⟩, h.behind, h.wr, h.dramCut, h.sens, h.stopping, h.alone⟩

/-- A change of a zone's state that grafts no spare. -/
theorem Die.Rejudged.onZone {w : Nat} {g : Zone → Zone} (hg : ∀ a, a.graft = none → (g a).graft = none) (h : x.Rejudged y) :
    x.Rejudged (y.onZone w g) :=
  ⟨⟨h.regs.live, h.regs.pend, h.regs.raw⟩, h.behind, h.wr, h.dramCut, h.sens, h.stopping,
    fun _ hw => Die.onZone_keeps (P := fun a => a.graft = none) (h.alone _ hw) hg⟩

theorem Die.Rejudged.foldl {α : Type} {f : Die → α → Die} {l : List α} (hf : ∀ z, ∀ a ∈ l, x.Rejudged z → x.Rejudged (f z a))
    (h : x.Rejudged y) : x.Rejudged (l.foldl f y) := by
  induction l generalizing y with
  | nil => exact h
  | cons a l ih => exact ih (fun z b hb => hf z b (by simp [hb])) (hf y a (by simp) h)

/-! ### What it leaves -/

variable (h : x.Rejudged y)
include h

theorem Die.Rejudged.get {f : Fld} (hf : f.showsQueue = false ∧ ∀ g ∈ judgedFields, g.key ≠ f.key) : y.get f = x.get f :=
  h.regs.get hf.1 hf.2 judgedFields_steers

theorem Die.Rejudged.on {f : Fld} (hf : f.showsQueue = false ∧ ∀ g ∈ judgedFields, g.key ≠ f.key) : y.on f = x.on f := by
  rw [Die.on, h.get hf, Die.on]

theorem Die.Rejudged.sensor (k : Nat) : y.sensor k = x.sensor k := by rw [Die.sensor, h.sens, Die.sensor]

/-! ### The judgements -/

theorem Die.Rejudged.showLevel : x.Rejudged y.showLevel := by
  unfold Die.showLevel
  extract_lets old new shown raised
  have hshown : x.Rejudged shown := .fire (by decide) (.peak (by decide) (.set (by decide) h))
  have hraised : x.Rejudged raised := by
    unfold raised
    exact .ite (.count (by decide) hshown) hshown
  exact .ite (.cond (by decide) h) (.cond (by decide) (.noteThrottle hraised))

theorem Die.Rejudged.showThm : x.Rejudged y.showThm := by
  unfold Die.showThm
  extract_lets level failed listed warned told bare held
  have hlisted : x.Rejudged listed := .set (by decide) (.showLevel h)
  have htold : x.Rejudged told := .cond (by decide) (.cond (by decide) hlisted)
  exact .cond (by decide) (.cond (by decide) (.cond (by decide) htold))

theorem Die.Rejudged.showZone (w : Fin 4) : x.Rejudged (y.showZone w) := by
  have hin : ∀ g ∈ zoneShown w, g ∈ judgedFields := zoneShown_sub w
  simp only [zoneShown, List.forall_mem_cons] at hin
  obtain ⟨hwarn, hthrot, hheld, hnone, hlevel, hsrc, htemp, -⟩ := hin
  unfold Die.showZone
  extract_lets held shown kept
  have hshown : x.Rejudged shown := by
    unfold shown
    split
    · exact .set hsrc (.setS htemp h)
    · exact .set hsrc (.set htemp h)
  have hkept : x.Rejudged kept := .onZone (fun a ha => by split <;> exact ha) (.setB hheld hshown)
  split
  · exact .set htemp <| .set hsrc <| .set hlevel <| .set hnone <| .set hheld <| .set hthrot <| .set hwarn <| .onZone (fun _ _ => rfl) h
  · exact .ite (.onZone (fun _ ha => ha) (.set hlevel (.set hnone hkept))) hkept

theorem Die.Rejudged.zoneSample (w : Fin 4) (valid : Bool) : x.Rejudged (y.zoneSample w valid) := by
  have hin : ∀ g ∈ zoneShown w, g ∈ judgedFields := zoneShown_sub w
  simp only [zoneShown, List.forall_mem_cons] at hin
  obtain ⟨hwarn, hthrot, hheld, hnone, hlevel, hsrc, htemp, -⟩ := hin
  have hz := Die.Rejudged.showZone h w
  unfold Die.zoneSample
  extract_lets z g t hy warn throt wasT nowT warned judged bare back valued raised
  have hjudged : x.Rejudged judged := .setB hthrot (.setB hwarn hz)
  have hvalued : x.Rejudged valued := by
    unfold valued
    exact .ite (.set hnone hjudged) hjudged
  have hraised : x.Rejudged raised := by
    unfold raised
    exact .ite (.set hlevel hvalued) hvalued
  exact .ite hz (.onZone (fun _ ha => ha) hraised)

end

/-! ### The sensors alike -/

section
variable {x y : Die}

theorem sensing_apart : ∀ f ∈ sensing, f.showsQueue = false ∧ ∀ g ∈ judgedFields, g.key ≠ f.key := by decide +kernel

/-- A sensor's own fields are none of those that a judgement writes. -/
theorem sensorFields_apart : ∀ k : Fin 10, ∀ f ∈ [F.THM_SENS_VALID k, F.THM_SENS_FAIL k, F.THM_SENS_CAUSE k, F.THM_SENS_ACKED k,
    F.THM_SENS_TEMP k], f.showsQueue = false ∧ ∀ g ∈ judgedFields, g.key ≠ f.key := by decide +kernel

/-- Condition 37 (R297): a failed sensor that is not acknowledged. -/
theorem Die.showThm_failing (x : Die) (k : Fin 10) (hfail : x.on (F.THM_SENS_FAIL k) = true)
    (hack : x.on (F.THM_SENS_ACKED k) = false) : x.showThm.condOn 37 = true := by
  have hown := sensorFields_apart k
  unfold Die.showThm
  extract_lets level failed listed warned told bare held
  have hlevel : x.Rejudged level := .showLevel (.refl x)
  have hwarned : x.Rejudged warned := .cond (by decide) (.set (by decide) hlevel)
  have hany : failed.any (fun k => !warned.on (F.THM_SENS_ACKED k)) = true :=
    List.any_eq_true.2 ⟨k, List.mem_filter.2 ⟨List.mem_range.2 k.2, (hlevel.on (hown _ (by simp))).trans hfail⟩,
      by rw [hwarned.on (hown _ (by simp)), hack]; rfl⟩
  have htold : told.condOn 37 = true := (Die.cond_condOn _ _ (by decide)).trans hany
  have hlater : ∀ (z : Die) {e : Nat} (b : Bool), 37 ≠ e → (z.cond e b).condOn 37 = z.condOn 37 := fun z _ b he => Die.cond_raw_ne z b he
  exact (hlater held _ (by decide)).trans <| (hlater bare _ (by decide)).trans <| (hlater told _ (by decide)).trans htold

theorem Die.Rejudged.setAs (h : x.Rejudged y) : x.SetAs y := fun f hf => h.get (sensing_apart f hf)

end

end Sys2Proof.Machine

/-! A temperature sensor's reading: what it shows, and what it sets off (R285, R288, R289, R300, R303). -/

namespace Sys2Proof.Machine

/-! ### The fields of a sensor -/

/-- The fields of a sensor that a valid reading writes. -/
def readFields (k : Nat) : List Fld := [F.THM_SENS_VALID k, F.THM_SENS_TEMP k, F.THM_SENS_CAUSE k]

theorem readFields_steers : ∀ k : Fin 10, ∀ g ∈ readFields k, g.steers = false := by decide

theorem readFields_apart : ∀ k : Fin 10, ∀ f ∈ F.THM_SENS_FAIL k :: F.CLO_HTR_TSEL :: sensing,
    f.showsQueue = false ∧ ∀ g ∈ readFields k, g.key ≠ f.key := by decide +kernel

theorem heaterSensor_apart : F.CLO_HTR_TSEL.showsQueue = false ∧ ∀ g ∈ judgedFields, g.key ≠ F.CLO_HTR_TSEL.key := by decide

/-- A temperature within the valid range of a sensor fits its field. -/
theorem toSigned_ofSigned_temp {v : Int} (hlo : -55000 ≤ v) (hhi : v ≤ 150000) : toSigned 20 (ofSigned 20 v % 2 ^ 20) = v := by
  unfold toSigned ofSigned
  omega

theorem Die.judgeReading_temp {x : Die} {k : Nat} {m v : Int} (h : x.judgeReading k (.temp m) = (some v, 0)) :
    v = m + (if k < 6 then 100 * x.getS (F.THM_DIODE_OFFSET k) else 0) ∧ -55000 ≤ v ∧ v ≤ 150000 := by
  by_cases hk : k < 6
  all_goals
    simp only [Die.judgeReading, sensorRange, hk, if_true, if_false] at h ⊢
    split at h
    · rename_i hrange
      obtain ⟨hlo, hhi⟩ := hrange
      have hv := Option.some.inj (Prod.mk.inj h).1
      omega
    · simp at h

/-! ### A valid reading noted -/

section
variable (x : Die) (k : Nat) (v : Int)

/-- The die with a reading of a sensor taken, whatever it says. -/
def Die.heard (r : Option Int) : Die :=
  (x.setB (F.THM_SENS_VALID k) r.isSome).onSensor k fun s => { s with count := s.count + 1, valid := if r.isSome then r else s.valid }

/-- The die with a valid reading shown, and kept behind the registers. -/
def Die.noted : Die :=
  ((((x.heard k (some v)).setS (F.THM_SENS_TEMP k) v).set (F.THM_SENS_CAUSE k) 0).onSensor k
    fun s => { s with last := some v, prev := some v }).countSpare k

/-- The die with the zones that the sensor serves judged with the reading. -/
def Die.judgedWith : Die := (((x.noted k v).reaches k).foldl (fun y z => y.zoneSample z true) (x.noted k v)).showThm

/-- The blade heater follows the sensor that it is set to (R160). -/
def Die.bladeHeard (r : Option Int) (now : Nat) : Die :=
  if x.get F.CLO_HTR_TSEL = k && !x.inReset then x.bladeReading (if x.on (F.THM_SENS_FAIL k) then none else r) now else x

/-- What a valid reading makes of a zone: a spare's readings are counted. -/
def Zone.counted (g : Zone) (k : Nat) : Zone :=
  match g.graft with
  | some (m, s, n) => if s = k then { g with graft := some (m, s, min 2 (n + 1)) } else g
  | none => g

theorem Zone.counted_serves (g : Zone) (j : Nat) : (g.counted k).serves j = g.serves j := by
  unfold Zone.counted
  split
  · rename_i m s n hg
    split <;> simp [Zone.serves, hg]
  · rfl

theorem Zone.counted_alone {g : Zone} (h : g.graft = none) : g.counted k = g := by simp [Zone.counted, h]

theorem Die.countSpare_zone {P : Zone → Prop} (hP : ∀ g, P g → P (g.counted k)) {w : Nat} (h : P (x.zone w)) :
    P ((x.countSpare k).zone w) := by
  unfold Die.countSpare
  generalize List.range 4 = l
  induction l generalizing x with
  | nil => exact h
  | cons z l ih => exact ih _ (Die.onZone_keeps h hP)

/-- What a change of a zone's state leaves alone, the counting leaves alone. -/
theorem Die.countSpare_keeps {α : Type} (p : Die → α) (hzone : ∀ y z g, p (Die.onZone y z g) = p y) : p (x.countSpare k) = p x := by
  unfold Die.countSpare
  generalize List.range 4 = l
  induction l generalizing x with
  | nil => rfl
  | cons z l ih => exact (ih _).trans (hzone _ _ _)

/-- What the changes of a reading leave alone, the reading leaves alone. -/
theorem Die.noted_keeps {α : Type} (p : Die → α) (hset : ∀ y f v, p (Die.set y f v) = p y)
    (hsensor : ∀ y k f, p (Die.onSensor y k f) = p y) (hzone : ∀ y z g, p (Die.onZone y z g) = p y) : p (x.noted k v) = p x := by
  simp only [Die.noted, Die.heard, Die.setS, Die.setB, Die.countSpare_keeps _ k p hzone, hset, hsensor]

theorem Die.noted_wr : (x.noted k v).wr = x.wr := x.noted_keeps k v Die.wr (fun _ _ _ => rfl) (fun _ _ _ => rfl) fun _ _ _ => rfl

theorem Die.noted_dramCut : (x.noted k v).dramCut = x.dramCut :=
  x.noted_keeps k v Die.dramCut (fun _ _ _ => rfl) (fun _ _ _ => rfl) fun _ _ _ => rfl

theorem Die.noted_boot : (x.noted k v).boot = x.boot :=
  x.noted_keeps k v Die.boot (fun _ _ _ => rfl) (fun _ _ _ => rfl) fun _ _ _ => rfl

theorem Die.noted_stopping : (x.noted k v).thm.stopping = x.thm.stopping :=
  x.noted_keeps k v (fun y => y.thm.stopping) (fun _ _ _ => rfl) (fun _ _ _ => rfl) fun _ _ _ => rfl

theorem Die.noted_zone {P : Zone → Prop} (hP : ∀ g, P g → P (g.counted k)) {w : Nat} (h : P (x.zone w)) :
    P ((x.noted k v).zone w) := Die.countSpare_zone _ k hP h

theorem Die.noted_serves (w j : Nat) : ((x.noted k v).zone w).serves j = (x.zone w).serves j :=
  x.noted_zone k v (P := fun g => g.serves j = (x.zone w).serves j) (fun g hg => (g.counted_serves k j).trans hg) rfl

/-- A zone that no spare serves is as it was. -/
theorem Die.noted_alone {w : Nat} (h : (x.zone w).graft = none) : (x.noted k v).zone w = x.zone w :=
  x.noted_zone k v (P := fun g => g = x.zone w) (fun g hg => by rw [hg, Zone.counted_alone k h]) rfl

theorem Die.noted_sensor : ((x.noted k v).sensor k).last = some v ∧ ((x.noted k v).sensor k).prev = some v := by
  rw [Die.noted, Die.countSpare_keeps _ k (fun y => y.sensor k) fun _ _ _ => rfl, Die.onSensor_sensor_self]
  exact ⟨rfl, rfl⟩

end

section
variable (x : Die) (k : Fin 10) (v : Int)

theorem Die.noted_live : (x.noted k v).live =
    (((x.setB (F.THM_SENS_VALID k) true).setS (F.THM_SENS_TEMP k) v).set (F.THM_SENS_CAUSE k) 0).live :=
  Die.countSpare_keeps _ k Die.live fun _ _ _ => rfl

theorem Die.noted_get {f : Fld} (hf : f ∈ F.THM_SENS_FAIL k :: F.CLO_HTR_TSEL :: sensing) : (x.noted k v).get f = x.get f := by
  obtain ⟨-, hne⟩ := readFields_apart k f hf
  have hs := readFields_steers k
  simp only [readFields, List.forall_mem_cons] at hne hs
  obtain ⟨hvalid, htemp, hcause, -⟩ := hne
  obtain ⟨svalid, stemp, scause, -⟩ := hs
  rw [Die.get_of_live (x.noted_live k v), Die.get_set_ne _ _ hcause scause, Die.setS, Die.get_set_ne _ _ htemp stemp, Die.setB,
    Die.get_set_ne _ _ hvalid svalid]

theorem Die.noted_sensedAs : x.SensedAs (x.noted k v) :=
  ⟨fun _ hf => x.noted_get k v (by simp [hf]), x.noted_serves k v⟩

/-- The reading in the sensor's register (Table 10.1). -/
theorem Die.noted_shown (hlo : -55000 ≤ v) (hhi : v ≤ 150000) : (x.noted k v).getS (F.THM_SENS_TEMP k) = v ∧
    (x.noted k v).on (F.THM_SENS_VALID k) = true ∧ (x.noted k v).get (F.THM_SENS_CAUSE k) = 0 := by
  have hkeys : (F.THM_SENS_CAUSE k).key ≠ (F.THM_SENS_TEMP k).key ∧ (F.THM_SENS_CAUSE k).key ≠ (F.THM_SENS_VALID k).key ∧
      (F.THM_SENS_TEMP k).key ≠ (F.THM_SENS_VALID k).key := by revert k; decide
  obtain ⟨hct, hcv, htv⟩ := hkeys
  have hs := readFields_steers k
  simp only [readFields, List.forall_mem_cons] at hs
  obtain ⟨svalid, stemp, scause, -⟩ := hs
  refine ⟨?_, ?_, ?_⟩
  · rw [Die.getS, Die.get_of_live (x.noted_live k v), Die.get_set_ne _ _ hct scause, Die.setS, Die.get_set_self]
    exact toSigned_ofSigned_temp hlo hhi
  · rw [Die.on, Die.get_of_live (x.noted_live k v), Die.get_set_ne _ _ hcv scause, Die.setS, Die.get_set_ne _ _ htv stemp, Die.setB,
      Die.get_set_self]
    rfl
  · rw [Die.get_of_live (x.noted_live k v), Die.get_set_self]
    rfl

end

end Sys2Proof.Machine

/-! SENSOR_SAMPLE and SENSOR_ACK (O40). -/

namespace Sys2Proof.Machine

/-! ### What a reading comes to -/

section
variable {x : Die} {k : Fin 10} {v : Int}

theorem Die.heard_failed (r : Option Int) : (x.heard k r).on (F.THM_SENS_FAIL k) = x.on (F.THM_SENS_FAIL k) := by
  have hkey : (F.THM_SENS_VALID k).key ≠ (F.THM_SENS_FAIL k).key := by revert k; decide
  have hsteers : (F.THM_SENS_VALID k).steers = false := by revert k; decide
  exact Die.on_set_ne x _ hkey hsteers

theorem Die.heard_sensor_prev (r : Option Int) : ((x.heard k r).sensor k).prev = (x.sensor k).prev := by
  rw [Die.heard, Die.onSensor_sensor_self]
  rfl

/-- A valid reading of a sensor that has not failed enters the comparisons, and the blade heater may follow it. -/
theorem Die.sample_valid {r : ThermRead} (hs : x.sensed k = true) (hf : x.on (F.THM_SENS_FAIL k) = false)
    (hj : x.judgeReading k r = (some v, 0)) (env : Env) :
    x.sample env k r = ((x.heard k (some v)).goodSample env k v).bladeHeard k (some v) env.now := by
  have hgood := (x.heard_failed (k := k) (some v)).trans hf
  unfold Die.sample
  rw [hs, hj]
  change Die.bladeHeard (if !(x.heard k (some v)).on (F.THM_SENS_FAIL k) then (x.heard k (some v)).goodSample env k v else _) k (some v)
    env.now = _
  rw [hgood]
  rfl

theorem Die.goodSample_trips (h : x.tripHit k (x.sensor k).prev v = true) (env : Env) :
    (x.heard k (some v)).goodSample env k v = (x.noted k v).trip env := by
  have hnoted := ((x.noted_sensedAs k v).tripHit k (x.sensor k).prev v).trans h
  rw [← x.heard_sensor_prev (some v)] at hnoted
  exact if_pos hnoted

/-- Some zone's shutdown temperature crosses SHUT with the reading. -/
def Die.shutBy (x : Die) (k : Nat) (v : Int) : Bool :=
  ((x.noted k v).reaches k).any fun z => (x.judgedWith k v).shutHit z ((x.noted k v).zone z).shut

theorem Die.goodSample_judges (h : x.tripHit k (x.sensor k).prev v = false) (env : Env) :
    (x.heard k (some v)).goodSample env k v =
      if x.shutBy k v then (x.judgedWith k v).orderlyStop env else x.judgedWith k v := by
  have hnoted := ((x.noted_sensedAs k v).tripHit k (x.sensor k).prev v).trans h
  rw [← x.heard_sensor_prev (some v)] at hnoted
  refine (if_neg (Bool.eq_false_iff.1 hnoted)).trans ?_
  unfold Die.shutBy
  rw [List.any_map]
  rfl

theorem Die.judgedWith_rejudged : (x.noted k v).Rejudged (x.judgedWith k v) :=
  .showThm <| .foldl (fun _ w hw hz => .zoneSample hz ⟨w, Die.zonesOn_lt (List.mem_of_mem_filter hw)⟩ true) (.refl _)


theorem Die.judgedWith_setAs : x.SetAs (x.judgedWith k v) :=
  fun f hf => (Die.judgedWith_rejudged.setAs f hf).trans ((x.noted_sensedAs k v).set f hf)

/-- A zone's only member crosses SHUT with a second reading at or above it. -/
theorem Die.shutBy_alone {z : Fin 4} {p : Int} (hvalid : x.sensorValid k = true) (hon : x.zoneOn z = true)
    (hm : x.members z = [k.val]) (hg : (x.zone z).graft = none) (hshut : (x.zone z).shut = some p)
    (hp : x.thr F.THM_ZONE_THR_SHUT z ≤ p) (hv : x.thr F.THM_ZONE_THR_SHUT z ≤ v) : x.shutBy k v = true := by
  have hset := Die.judgedWith_setAs (x := x) (k := k) (v := v)
  have hjudged := Die.judgedWith_rejudged (x := x) (k := k) (v := v)
  refine List.any_eq_true.2 ⟨z, ?_, ?_⟩
  · rw [(x.noted_sensedAs k v).reaches]
    exact Die.mem_reaches hon z.2 hm
  · rw [x.noted_alone k v hg, hshut]
    refine Die.shutHit_alone (v := v) ((hset.members z).trans hm) ((hset.sensorValid k).trans hvalid) ?_ ?_ ?_ ?_
    · exact hjudged.alone z (by rw [x.noted_alone k v hg, hg])
    · rw [hjudged.sensor, (x.noted_sensor k v).1]
    · rwa [hset.shut]
    · rwa [hset.shut]

/-- A sensor that serves no zone is shown, and only the level and the conditions are judged again. -/
theorem Die.goodSample_unserving (h : x.reaches k = []) (env : Env) :
    (x.heard k (some v)).goodSample env k v = (x.noted k v).showThm := by
  have hnone : (x.noted k v).reaches k = [] := ((x.noted_sensedAs k v).reaches k).trans h
  have hshut : x.shutBy k v = false := by simp only [Die.shutBy, hnone, List.any_nil]
  have hjudged : x.judgedWith k v = (x.noted k v).showThm := by simp only [Die.judgedWith, hnone, List.foldl_nil]
  rw [Die.goodSample_judges (Die.tripHit_of_reaches_nil h _ v), hshut, hjudged, if_neg Bool.false_ne_true]

/-- The reading is still shown when the level and the conditions have been judged again. -/
theorem Die.noted_showThm_shown (x : Die) (k : Fin 10) (v : Int) (hlo : -55000 ≤ v) (hhi : v ≤ 150000) :
    (x.noted k v).showThm.getS (F.THM_SENS_TEMP k) = v ∧ (x.noted k v).showThm.on (F.THM_SENS_VALID k) = true ∧
    (x.noted k v).showThm.get (F.THM_SENS_CAUSE k) = 0 ∧ ((x.noted k v).showThm.sensor k).last = some v ∧
    ((x.noted k v).showThm.sensor k).prev = some v := by
  have hjudged : (x.noted k v).Rejudged (x.noted k v).showThm := .showThm (.refl _)
  have hown := sensorFields_apart k
  obtain ⟨htemp, hvalid, hcause⟩ := x.noted_shown k v hlo hhi
  obtain ⟨hlast, hprev⟩ := x.noted_sensor k v
  refine ⟨?_, (hjudged.on (hown _ (by simp))).trans hvalid, (hjudged.get (hown _ (by simp))).trans hcause, ?_, ?_⟩
  · rw [Die.getS, hjudged.get (hown _ (by simp))]
    exact htemp
  · rwa [hjudged.sensor]
  · rwa [hjudged.sensor]

theorem Die.bladeHeard_of_ne {y : Die} {k : Nat} (h : y.get F.CLO_HTR_TSEL ≠ k) (r : Option Int) (now : Nat) :
    y.bladeHeard k r now = y := if_neg (by simp [h])

theorem Die.bladeHeard_of_inReset {y : Die} (h : y.inReset = true) (k : Nat) (r : Option Int) (now : Nat) :
    y.bladeHeard k r now = y := if_neg (by simp [h])

theorem Die.bladeHeard_kept (y : Die) (k : Nat) (r : Option Int) (now : Nat) : y.ThermalKept (y.bladeHeard k r now) :=
  .ite (.bladeReading (.refl y)) (.refl y)

end

/-! ### SENSOR_SAMPLE of a valid reading -/

theorem State.fresh_judgeReading (s : State) (d : DieId) (k : Nat) (r : ThermRead) :
    (s.fresh d).judgeReading k r = (s.die d).judgeReading k r := by cases r <;> rfl


section
variable {s : State} {d : DieId} {k : Fin 10} {m v : Int} (hr : s.running d) (hs : (s.die d).sensed k = true)
  (hf : (s.die d).on (F.THM_SENS_FAIL k) = false) (hj : (s.die d).judgeReading k (.temp m) = (some v, 0))
include hr hs hf hj

omit hr in
theorem sample_fresh : (s.fresh d).sample (s.env d) k (.temp m) =
    (((s.fresh d).heard k (some v)).goodSample (s.env d) k v).bladeHeard k (some v) (s.env d).now :=
  Die.sample_valid (x := s.fresh d) hs hf ((s.fresh_judgeReading d k (.temp m)).trans hj) (s.env d)

theorem sensorSample_shows (hreach : (s.die d).reaches k = []) (hsel : (s.die d).get F.CLO_HTR_TSEL ≠ k) :
    Effect (.sensorSample d k (.temp m)) d s (fun y =>
      v = m + (if k.val < 6 then 100 * (s.die d).getS (F.THM_DIODE_OFFSET k.val) else 0) ∧ y.getS (F.THM_SENS_TEMP k.val) = v ∧
      y.on (F.THM_SENS_VALID k.val) = true ∧ y.get (F.THM_SENS_CAUSE k.val) = 0 ∧ (y.sensor k.val).last = some v ∧
      (y.sensor k.val).prev = some v) := by
  obtain ⟨hv, hlo, hhi⟩ := Die.judgeReading_temp hj
  have hjudged : ((s.fresh d).noted k v).Rejudged ((s.fresh d).noted k v).showThm := .showThm (.refl _)
  have hkeep : ((s.fresh d).noted k v).showThm.get F.CLO_HTR_TSEL = (s.die d).get F.CLO_HTR_TSEL :=
    (hjudged.get heaterSensor_apart).trans ((s.fresh d).noted_get k v (by simp))
  have hy : (s.fresh d).sample (s.env d) k (.temp m) = ((s.fresh d).noted k v).showThm := by
    rw [sample_fresh hs hf hj, Die.goodSample_unserving (x := s.fresh d) hreach]
    exact Die.bladeHeard_of_ne (by rw [hkeep]; exact hsel) _ _
  obtain ⟨htemp, hvalid, hcause, hlast, hprev⟩ := (s.fresh d).noted_showThm_shown k v hlo hhi
  refine effect_to rfl hr hy (hjudged.wr.trans ((s.fresh d).noted_wr k v)) (hjudged.dramCut.trans ((s.fresh d).noted_dramCut k v)) ?_
  generalize ((s.fresh d).noted k v).showThm = y at htemp hvalid hcause hlast hprev ⊢
  exact ⟨hv, htemp, hvalid, hcause, hlast, hprev⟩

theorem sensorSample_trips {z : Fin 4} {p : Int} (hprev : ((s.die d).sensor k).prev = some p) (hon : (s.die d).zoneOn z = true)
    (hmask : (s.die d).bitOf (F.THM_ZONE_CFG_MASK z) k = true) (hp : (s.die d).thr F.THM_ZONE_THR_SHUT z + 10000 ≤ p)
    (hv : (s.die d).thr F.THM_ZONE_THR_SHUT z + 10000 ≤ v) (habs : (s.die d).boot.absorbed = []) :
    DieAnswers (.sensorSample d k (.temp m)) d s (fun y =>
      y.boot.episode.any (fun e => e.reach = 5 && e.active = [3] && e.best.cause = 3) = true ∧ y.inReset = true) := by
  have hvalid : (s.fresh d).sensorValid k = true := by simp [Die.sensorValid, hf, show (s.fresh d).sensed k = true from hs]
  have htrip : (s.fresh d).tripHit k ((s.fresh d).sensor k).prev v = true := by
    rw [show ((s.fresh d).sensor k).prev = some p from hprev]
    exact Die.tripHit_of_zone hon z.2 hvalid hmask hp hv
  have hrunning := hr.2
  simp only [Die.inReset, Bool.or_eq_false_iff, Option.isSome_eq_false_iff, Option.isNone_iff_eq_none] at hrunning
  have hepisode := Die.trip_episode (x := (s.fresh d).noted k v) (by rw [Die.noted_boot]; exact hrunning.1)
    (by rw [Die.noted_boot]; exact habs) (s.env d)
  have hreset : (((s.fresh d).noted k v).trip (s.env d)).inReset = true := by simp [Die.inReset, hepisode]
  refine dieAnswers_to rfl hr (y := ((s.fresh d).noted k v).trip (s.env d)) ?_ ⟨?_, hreset⟩
  · refine (sample_fresh hs hf hj).trans ?_
    rw [Die.goodSample_trips htrip, Die.bladeHeard_of_inReset hreset]
  · rw [Die.settled_boot, hepisode]
    rfl

theorem sensorSample_stops {z : Fin 4} {p : Int} (hon : (s.die d).zoneOn z = true) (hm : (s.die d).members z = [k.val])
    (hg : ((s.die d).zone z).graft = none) (hshut : ((s.die d).zone z).shut = some p)
    (hp : (s.die d).thr F.THM_ZONE_THR_SHUT z ≤ p) (hv : (s.die d).thr F.THM_ZONE_THR_SHUT z ≤ v)
    (htrip : (s.die d).tripHit k ((s.die d).sensor k).prev v = false) (hstop : (s.die d).thm.stopping = false) :
    DieAnswers (.sensorSample d k (.temp m)) d s Die.Stopping := by
  have hvalid : (s.fresh d).sensorValid k = true := by simp [Die.sensorValid, hf, show (s.fresh d).sensed k = true from hs]
  have hshutBy : (s.fresh d).shutBy k v = true := Die.shutBy_alone hvalid hon hm hg hshut hp hv
  have hrunning : ((s.fresh d).judgedWith k v).thm.stopping = false :=
    Die.judgedWith_rejudged.stopping.trans (((s.fresh d).noted_stopping k v).trans hstop)
  have hstopped : ((((s.fresh d).judgedWith k v).orderlyStop (s.env d)).bladeHeard k (some v) (s.env d).now).Stopping :=
    (Die.bladeHeard_kept _ k (some v) (s.env d).now).stopped (Die.orderlyStop_stopping hrunning (s.env d))
  refine dieAnswers_to rfl hr (sample_fresh hs hf hj) ?_
  rw [Die.goodSample_judges (x := s.fresh d) htrip, hshutBy, if_pos rfl]
  obtain ⟨hbegun, htold, htray, hdark⟩ := hstopped
  generalize (((s.fresh d).judgedWith k v).orderlyStop (s.env d)).bladeHeard k (some v) (s.env d).now = y at hbegun htold htray hdark ⊢
  exact ⟨hbegun, htold, htray, hdark⟩

end

end Sys2Proof.Machine

/-! SENSOR_SAMPLE of an open sensor (R285, R297). -/

namespace Sys2Proof.Machine

/-! ### A failure beside the sensor's own fields: the spare pool is told, and a spare takes over -/

section
variable {x y : Die} (h : x.ThermalKept y)
include h

theorem Die.ThermalKept.freeVal {w : Nat} : x.ThermalKept (y.freeVal w).2 := .behind h rfl

theorem Die.ThermalKept.showWaiting : x.ThermalKept y.showWaiting := .set (by decide) h

theorem Die.ThermalKept.showNoSpare : x.ThermalKept y.showNoSpare := .cond (by decide) h

theorem Die.ThermalKept.resError {ty inst cause now : Nat} : x.ThermalKept (y.resError ty inst cause now) := by
  have hinventory : ∀ f : Spr → Spr, x.ThermalKept (y.onSpr f) := fun _ => .behind h rfl
  unfold Die.resError
  split
  · exact .ite (hinventory _) (.ite (.ite (.set (by decide) (hinventory _)) (hinventory _)) h)
  · exact .showNoSpare <| .fire <| .showWaiting <| .set (by decide) <| .set (by decide) <| .set (by decide) <| .set (by decide) <|
      .set (by decide) (hinventory _)

theorem Die.ThermalKept.onZone {w : Nat} {g : Zone → Zone} : x.ThermalKept (y.onZone w g) := .behind h rfl

theorem Die.ThermalKept.releaseSensor {k : Nat} {spare : Bool} : x.ThermalKept (y.releaseSensor k spare) :=
  .foldl (fun _ _ _ hz => by
    split
    · exact .ite (.markGraft (.onZone hz)) hz
    · exact hz) h

theorem Die.ThermalKept.graftSensor {w k : Nat} : x.ThermalKept (y.graftSensor w k) := .ite (.fire (.markGraft (.onZone h))) h

end

/-! ### A sensor that fails -/

/-- The fields of a sensor that its failure writes. -/
def failFields (k : Nat) : List Fld := [F.THM_SENS_VALID k, F.THM_SENS_CAUSE k, F.THM_SENS_FAIL k, F.THM_SENS_ACKED k]

/-- The die with a sensor's failure shown, before the zones and the spare pool learn of it. -/
def Die.shownFailed (x : Die) (k now : Nat) : Die :=
  (((x.set (F.THM_SENS_FAIL k) 1).set (F.THM_SENS_ACKED k) 0).count F.THM_CNT_FAILS).onSensor k
    fun s => { s with failAt := now, good := 0 }

/-- The die with the reading of an open sensor noted. -/
def Die.heardOpen (x : Die) (k : Nat) : Die :=
  ((x.heard k none).set (F.THM_SENS_CAUSE k) 1).onSensor k fun s => { s with prev := none, good := 0 }

/-- A sensor that has failed for being open, at a time. -/
structure Die.OpenSince (x : Die) (k now : Nat) : Prop where
  invalid : x.on (F.THM_SENS_VALID k) = false
  failed : x.on (F.THM_SENS_FAIL k) = true
  fresh : x.on (F.THM_SENS_ACKED k) = false
  cause : x.get (F.THM_SENS_CAUSE k) = 1
  since : (x.sensor k).failAt = now

/-- The fields of a failure are told apart from each other and from the counter of failures. -/
theorem failFields_apart : ∀ k : Fin 10,
    (∀ f ∈ [F.THM_SENS_CAUSE k, F.THM_SENS_FAIL k, F.THM_SENS_ACKED k, F.THM_CNT_FAILS], f.key ≠ (F.THM_SENS_VALID k).key) ∧
    (∀ f ∈ [F.THM_SENS_FAIL k, F.THM_SENS_ACKED k, F.THM_CNT_FAILS], f.key ≠ (F.THM_SENS_CAUSE k).key) ∧
    (∀ f ∈ [F.THM_SENS_ACKED k, F.THM_CNT_FAILS], f.key ≠ (F.THM_SENS_FAIL k).key) ∧
    F.THM_CNT_FAILS.key ≠ (F.THM_SENS_ACKED k).key := by decide

theorem failFields_steers : ∀ k : Fin 10, (F.THM_SENS_VALID k).steers = false ∧ (F.THM_SENS_CAUSE k).steers = false ∧
    (F.THM_SENS_FAIL k).steers = false ∧ (F.THM_SENS_ACKED k).steers = false ∧ F.THM_CNT_FAILS.steers = false := by decide

theorem failFields_ofThermal : ∀ k : Fin 10, ∀ f ∈ failFields k, f.ofThermal = true := by decide

section
variable (x : Die) (k : Fin 10) (now : Nat)

theorem Die.failSensor_kept : (x.shownFailed k now).ThermalKept (x.failSensor k now) :=
  .foldl (fun _ _ _ hz => .ite (.graftSensor (.onZone hz)) hz) <| .releaseSensor <| .resError <| .freeVal (w := 5) (.refl _)

theorem Die.heardOpen_sensedAs : x.SensedAs (x.heardOpen k) where
  set f hf := by
    obtain ⟨-, hne⟩ := readFields_apart k f (by simp [hf])
    have hs := readFields_steers k
    simp only [readFields, List.forall_mem_cons] at hne hs
    obtain ⟨hvalid, -, hcause, -⟩ := hne
    obtain ⟨svalid, -, scause, -⟩ := hs
    exact (Die.get_set_ne _ _ hcause scause).trans (Die.get_set_ne _ _ hvalid svalid)
  serves _ _ := rfl

/-- A reading of an open sensor makes it fail, and its zones are judged again without it. -/
theorem Die.sample_open (hs : x.sensed k = true) (hf : x.on (F.THM_SENS_FAIL k) = false) (hreach : x.reaches k = []) (env : Env) :
    x.sample env k .openCircuit = ((x.heardOpen k).failSensor k env.now).showThm.bladeHeard k none env.now := by
  have hgood : (x.heard k none).on (F.THM_SENS_FAIL k) = false := (x.heard_failed none).trans hf
  have hnone : (x.heardOpen k).reaches k = [] := ((x.heardOpen_sensedAs k).reaches k).trans hreach
  refine (if_neg (by simp [hs])).trans ?_
  change Die.bladeHeard (((x.heardOpen k).reaches k).foldl (fun y z => if (y.contributions z).any (fun c => c.2 = k) then
    y.zoneSample z false else y.zoneLoss z) (if (x.heard k none).on (F.THM_SENS_FAIL k) then x.heardOpen k else
    (x.heardOpen k).failSensor k env.now)).showThm k none env.now = _
  rw [hnone, hgood, if_neg Bool.false_ne_true, List.foldl_nil]

theorem Die.heardOpen_shownFailed : ((x.heardOpen k).shownFailed k now).OpenSince k now := by
  obtain ⟨hvalid, hcause, hfail, hacked⟩ := failFields_apart k
  have hlive : ((x.heardOpen k).shownFailed k now).live = (((((x.setB (F.THM_SENS_VALID k) false).set (F.THM_SENS_CAUSE k) 1).set
    (F.THM_SENS_FAIL k) 1).set (F.THM_SENS_ACKED k) 0).count F.THM_CNT_FAILS).live := rfl
  obtain ⟨svalid, scause, sfail, sacked, scount⟩ := failFields_steers k
  simp only [List.forall_mem_cons] at hvalid hcause hfail
  obtain ⟨hvc, hvf, hva, hvn, -⟩ := hvalid
  obtain ⟨hcf, hca, hcn, -⟩ := hcause
  obtain ⟨hfa, hfn, -⟩ := hfail
  refine ⟨?_, ?_, ?_, ?_, ?_⟩
  · rw [Die.on, Die.get_of_live hlive, Die.count, Die.get_set_ne _ _ hvn scount, Die.get_set_ne _ _ hva sacked,
      Die.get_set_ne _ _ hvf sfail, Die.get_set_ne _ _ hvc scause, Die.setB, Die.get_set_self]
    rfl
  · rw [Die.on, Die.get_of_live hlive, Die.count, Die.get_set_ne _ _ hfn scount, Die.get_set_ne _ _ hfa sacked, Die.get_set_self]
    rfl
  · rw [Die.on, Die.get_of_live hlive, Die.count, Die.get_set_ne _ _ hacked scount, Die.get_set_self]
    rfl
  · rw [Die.get_of_live hlive, Die.count, Die.get_set_ne _ _ hcn scount, Die.get_set_ne _ _ hca sacked,
      Die.get_set_ne _ _ hcf sfail, Die.get_set_self]
    rfl
  · rw [Die.shownFailed, Die.onSensor_sensor_self]

variable {x k now}

theorem Die.OpenSince.kept {y : Die} (h : x.OpenSince k now) (hk : x.ThermalKept y) : y.OpenSince k now := by
  have hfields := failFields_ofThermal k
  simp only [failFields, List.forall_mem_cons] at hfields
  obtain ⟨hvalid, hcause, hfail, hacked, -⟩ := hfields
  exact ⟨(hk.on hvalid).trans h.invalid, (hk.on hfail).trans h.failed, (hk.on hacked).trans h.fresh, (hk.get hcause).trans h.cause,
    by rw [hk.sensor, h.since]⟩

theorem Die.OpenSince.settled (h : x.OpenSince k now) : x.settled.OpenSince k now := by
  obtain ⟨hinvalid, hfailed, hfresh, hcause, hsince⟩ := h
  exact ⟨hinvalid, hfailed, hfresh, hcause, hsince⟩

theorem Die.OpenSince.rejudged {y : Die} (h : x.OpenSince k now) (hj : x.Rejudged y) : y.OpenSince k now := by
  have hown := sensorFields_apart k
  simp only [List.forall_mem_cons] at hown
  obtain ⟨hvalid, hfail, hcause, hacked, -⟩ := hown
  exact ⟨(hj.on hvalid).trans h.invalid, (hj.on hfail).trans h.failed, (hj.on hacked).trans h.fresh, (hj.get hcause).trans h.cause,
    by rw [hj.sensor, h.since]⟩

/-- Event 37's condition holds as long as the failure is not acknowledged (R297). -/
theorem Die.OpenSince.shown (h : x.OpenSince k now) : x.showThm.OpenSince k now ∧ x.showThm.condOn 37 = true :=
  ⟨h.rejudged (.showThm (.refl x)), x.showThm_failing k h.failed h.fresh⟩

end

theorem sensorSample_fails {s : State} {d : DieId} {k : Fin 10} (hr : s.running d) (hs : (s.die d).sensed k = true)
    (hf : (s.die d).on (F.THM_SENS_FAIL k) = false) (hreach : (s.die d).reaches k = []) :
    DieAnswers (.sensorSample d k .openCircuit) d s fun y => y.OpenSince k s.now ∧ y.condOn 37 = true := by
  have hfailed := ((s.fresh d).heardOpen_shownFailed k s.now).kept (((s.fresh d).heardOpen k).failSensor_kept k s.now)
  obtain ⟨hopen, hcond⟩ := hfailed.shown
  have hblade := (((s.fresh d).heardOpen k).failSensor k s.now).showThm.bladeHeard_kept k none s.now
  have hy := (s.fresh d).sample_open k hs hf hreach (s.env d)
  rw [show (s.env d).now = s.now from rfl] at hy
  have hc : exec (.sensorSample d k .openCircuit) s = onDie d s fun env x => x.sample env k .openCircuit := rfl
  have hlast := (hblade.condOn 37 (by decide) (by decide)).trans hcond
  refine dieAnswers_to hc hr hy ⟨(hopen.kept hblade).settled, ?_⟩
  rw [Die.settled_condOn, hlast]

end Sys2Proof.Machine

/-! SENSOR_ACK (R297), and the readings of the temperature sensors together (O40). -/

namespace Sys2Proof.Machine

/-! ### Failures acknowledged -/

/-- The fields that show which failures are acknowledged. -/
def ackedFields : List Fld := (List.range 10).map F.THM_SENS_ACKED

theorem ackedFields_steers : ∀ g ∈ ackedFields, g.steers = false := by decide

theorem ackedFields_page : ∀ g ∈ ackedFields, g.pageOf = 5 := by decide

theorem ackedFields_fail : ∀ k : Fin 10, (F.THM_SENS_FAIL k).showsQueue = false ∧ ∀ g ∈ ackedFields, g.key ≠ (F.THM_SENS_FAIL k).key := by
  decide

theorem acked_key_inj : ∀ j k : Fin 10, j ≠ k → (F.THM_SENS_ACKED j).key ≠ (F.THM_SENS_ACKED k).key := by decide

/-- The die with the failures of the sensors `l` acknowledged. -/
def Die.acked (x : Die) (l : List Nat) : Die :=
  l.foldl (fun y k => (y.set (F.THM_SENS_ACKED k) 1).onSensor k fun s => { s with good := 0 }) x

/-- The sensors that an acknowledgement concerns. -/
def Die.acking (x : Die) (val now : Nat) : List Nat :=
  (List.range 10).filter fun k =>
    val.testBit k && x.on (F.THM_SENS_FAIL k) && !x.on (F.THM_SENS_ACKED k) && decide ((x.sensor k).failAt < now)

theorem Die.acking_lt {x : Die} {val now j : Nat} (h : j ∈ x.acking val now) : j < 10 := List.mem_range.1 (List.mem_of_mem_filter h)

section
variable (x : Die) {l : List Nat} (hl : ∀ j ∈ l, j < 10)

/-- What the two changes of an acknowledgement leave alone, the acknowledgement leaves alone. -/
theorem Die.acked_keeps {α : Type} (p : Die → α) (hset : ∀ y f v, p (Die.set y f v) = p y)
    (hsensor : ∀ y k f, p (Die.onSensor y k f) = p y) : p (x.acked l) = p x := by
  unfold Die.acked
  induction l generalizing x with
  | nil => rfl
  | cons k l ih => exact (ih _).trans ((hsensor _ _ _).trans (hset _ _ _))

theorem Die.acked_butThm : (x.acked l).butThm = x.butThm := x.acked_keeps Die.butThm (fun _ _ _ => rfl) fun _ _ _ => rfl
theorem Die.acked_wr : (x.acked l).wr = x.wr := x.acked_keeps Die.wr (fun _ _ _ => rfl) fun _ _ _ => rfl
theorem Die.acked_dramCut : (x.acked l).dramCut = x.dramCut := x.acked_keeps Die.dramCut (fun _ _ _ => rfl) fun _ _ _ => rfl

include hl

theorem Die.acked_regs : x.Regs ackedFields [] (x.acked l) := by
  have hstep : ∀ y, x.Regs ackedFields [] y → x.Regs ackedFields [] (y.acked l) := by
    unfold Die.acked
    induction l with
    | nil => exact fun _ h => h
    | cons k l ih =>
      refine fun y h => ih (fun j hj => hl j (by simp [hj])) _ ?_
      have hset := h.set (f := F.THM_SENS_ACKED k) (v := 1) (List.mem_map.2 ⟨k, List.mem_range.2 (hl k (by simp)), rfl⟩)
      exact ⟨hset.live, hset.pend, hset.raw⟩
  exact hstep x (.refl x _ _)

theorem Die.acked_get (j : Fin 10) : (x.acked l).get (F.THM_SENS_ACKED j) = if j.val ∈ l then 1 else x.get (F.THM_SENS_ACKED j) := by
  unfold Die.acked
  induction l generalizing x with
  | nil => rfl
  | cons k l ih =>
    have hk : k < 10 := hl k (by simp)
    have hsteers : (F.THM_SENS_ACKED k).steers = false := ackedFields_steers _ (List.mem_map.2 ⟨k, List.mem_range.2 hk, rfl⟩)
    have hset : ((x.set (F.THM_SENS_ACKED k) 1).onSensor k fun s => { s with good := 0 }).get (F.THM_SENS_ACKED j) =
        if j.val = k then 1 else x.get (F.THM_SENS_ACKED j) := by
      split
      · rename_i hjk
        rw [hjk]
        exact x.get_set_of_lt (f := F.THM_SENS_ACKED k) (v := 1) (by decide : 1 < 2 ^ 1)
      · rename_i hjk
        exact Die.get_set_ne x 1 (acked_key_inj ⟨k, hk⟩ j (fun h => hjk (by rw [← h]))) hsteers
    rw [List.foldl_cons, ih _ fun i hi => hl i (by simp [hi]), hset]
    simp only [List.mem_cons]
    split_ifs <;> simp_all

end

section
variable (x : Die) (val now : Nat)

theorem Die.ackSensors_eq : x.ackSensors val now = (x.acked (x.acking val now)).showThermal := rfl

theorem Die.ackSensors_rejudged : (x.acked (x.acking val now)).Rejudged (x.ackSensors val now) := by
  rw [Die.ackSensors_eq]
  generalize x.acked (x.acking val now) = y
  exact .showThm (.foldl (fun _ w hw hz => hz.showZone ⟨w, List.mem_range.1 hw⟩) (.refl y))

theorem Die.ackSensors_acked (j : Fin 10) : (x.ackSensors val now).get (F.THM_SENS_ACKED j) =
    if j.val ∈ x.acking val now then 1 else x.get (F.THM_SENS_ACKED j) := by
  rw [(x.ackSensors_rejudged val now).get (sensorFields_apart j _ (by simp)), x.acked_get fun _ => Die.acking_lt]

/-- A failure of before this cycle that is named is acknowledged. -/
theorem Die.ackSensors_on {k : Fin 10} (hbit : val.testBit k = true) (hfail : x.on (F.THM_SENS_FAIL k) = true)
    (hsince : (x.sensor k).failAt < now) : (x.ackSensors val now).on (F.THM_SENS_ACKED k) = true := by
  rw [Die.on, Die.ackSensors_acked]
  by_cases hbefore : x.on (F.THM_SENS_ACKED k) = true
  · split
    · rfl
    · exact hbefore
  · have hmem : k.val ∈ x.acking val now := List.mem_filter.2 ⟨List.mem_range.2 k.2, by simp [hbit, hfail, hbefore, hsince]⟩
    rw [if_pos hmem]
    rfl

theorem Die.ackSensors_fail (j : Fin 10) : (x.ackSensors val now).on (F.THM_SENS_FAIL j) = x.on (F.THM_SENS_FAIL j) := by
  obtain ⟨hqueue, hne⟩ := ackedFields_fail j
  rw [(x.ackSensors_rejudged val now).on (sensorFields_apart j _ (by simp)), Die.on,
    (x.acked_regs fun _ => Die.acking_lt).get hqueue hne ackedFields_steers, Die.on]

theorem Die.ackSensors_butThm : (x.ackSensors val now).butThm = x.butThm :=
  (x.ackSensors_rejudged val now).behind.trans x.acked_butThm

theorem Die.ackSensors_regs : x.Regs (ackedFields ++ judgedFields) levelEvents (x.ackSensors val now) :=
  .trans (.trans (.refl x _ _) (x.acked_regs fun _ => Die.acking_lt) (fun _ hf => List.mem_append_left _ hf) (by simp))
    (x.ackSensors_rejudged val now).regs (fun _ hf => List.mem_append_right _ hf) fun _ he => he

/-- Behind the registers an acknowledgement changes the thermal controller's own state and the marks of frames. -/
theorem Die.ackSensors_only : ({ x with thm := (x.ackSensors val now).thm, ipp := (x.ackSensors val now).ipp }).onlyPages [5]
    levelEvents (x.ackSensors val now) := by
  obtain ⟨hlive, hpend, hraw⟩ := x.ackSensors_regs val now
  have hbehind := x.ackSensors_butThm val now
  generalize x.ackSensors val now = y at hlive hpend hraw hbehind ⊢
  refine ⟨congrArg (fun z : Die => { z with thm := y.thm, ipp := y.ipp }) hbehind, fun f hqueue hpage => hlive f hqueue ?_, hpend, hraw⟩
  intro g hg hkey
  have hg5 : g.pageOf = 5 := (List.mem_append.1 hg).elim (ackedFields_page g) (judgedFields_page g)
  exact hpage (by rw [List.mem_singleton, ← hg5, Fld.pageOf, Fld.pageOf, hkey])

end

theorem sensorAck_acknowledges {s : State} {d : DieId} {k : Fin 10} {val : Nat} (hr : s.running d) (hbit : val.testBit k = true)
    (hfail : (s.die d).on (F.THM_SENS_FAIL k) = true) (hsince : ((s.die d).sensor k).failAt < s.now) :
    Effect (.sensorAck d val) d s fun y => y.on (F.THM_SENS_ACKED k) = true ∧ y.on (F.THM_SENS_FAIL k) = true ∧
      (∀ j ∈ List.range 10, val.testBit j = false → y.get (F.THM_SENS_ACKED j) = (s.die d).get (F.THM_SENS_ACKED j)) ∧
      ({ s.die d with thm := y.thm, ipp := y.ipp } : Die).onlyPages [5] [33, 34, 35, 37, 38, 40, 41] y := by
  have hjudged := (s.fresh d).ackSensors_rejudged val s.now
  have hacked := (s.fresh d).ackSensors_on val s.now hbit hfail hsince
  have hfails : ((s.fresh d).ackSensors val s.now).on (F.THM_SENS_FAIL k) = true := ((s.fresh d).ackSensors_fail val s.now k).trans hfail
  have hothers : ∀ j ∈ List.range 10, val.testBit j = false →
      ((s.fresh d).ackSensors val s.now).get (F.THM_SENS_ACKED j) = (s.die d).get (F.THM_SENS_ACKED j) := by
    intro j hj hclear
    refine ((s.fresh d).ackSensors_acked val s.now ⟨j, List.mem_range.1 hj⟩).trans (if_neg ?_)
    simp [Die.acking, hclear]
  have honly := (s.fresh d).ackSensors_only val s.now
  have hw := hjudged.wr.trans (s.fresh d).acked_wr
  have hd := hjudged.dramCut.trans (s.fresh d).acked_dramCut
  have hc : exec (.sensorAck d val) s = onDie d s fun env x => x.ackSensors val env.now := rfl
  refine effect_to (y := (s.fresh d).ackSensors val s.now) hc hr rfl hw hd ?_
  generalize (s.fresh d).ackSensors val s.now = y at hacked hfails hothers honly ⊢
  exact ⟨hacked, hfails, hothers, honly⟩

end Sys2Proof.Machine

/-! The readings of the temperature sensors (O40). -/

namespace Sys2Proof.Machine

/-- Settles O40, a lemma per clause: a valid reading shown, an open sensor, the trip, the orderly stop, and SENSOR_ACK. -/
theorem thermalSensors : Obligations.ThermalSensors := by
  unfold Obligations.ThermalSensors
  rintro s d k z m v p val _ hr rfl
  refine ⟨sensorSample_shows hr, fun hs hf hreach => ?_,
    fun hs hf hj hprev hon hmask hp hv habs => sensorSample_trips hr hs hf hj hprev hon hmask hp hv habs,
    fun hs hf hj hon hm hg hshut hp hv htrip hstop => ?_,
    fun hbit hfail hsince => sensorAck_acknowledges hr hbit hfail hsince⟩
  · obtain ⟨t, hnext, ⟨hinvalid, hfailed, hfresh, hcause, hsince⟩, hcond⟩ := sensorSample_fails hr hs hf hreach
    exact ⟨t, hnext, hinvalid, hfailed, hfresh, hcause, hcond, hsince⟩
  · obtain ⟨t, hnext, hbegun, htold, htray, hdark⟩ := sensorSample_stops hr hs hf hj hon hm hg hshut hp hv htrip hstop
    exact ⟨t, hnext, hbegun, htold, htray, hdark⟩

end Sys2Proof.Machine
